-- ==== Sys2Proof/Word.lean ====
section
/-! DEFINITION. The word types of the model and their plainest arithmetic. -/

namespace Sys2Proof

/-- A register word (R71: every register access reads or writes one 32-bit word). -/
abbrev Word := BitVec 32

/-- One byte. -/
abbrev Byte := BitVec 8

/-- One 16-byte cell of a Rila message (R3). -/
abbrev Cell := BitVec 128

/-- The field `hi : lo` of a bit vector, as a number. -/
def fieldNat {w : Nat} (v : BitVec w) (hi lo : Nat) : Nat :=
  v.toNat / 2 ^ lo % 2 ^ (hi + 1 - lo)

/-- Bit `i` of a bit vector. -/
def bitAt {w : Nat} (v : BitVec w) (i : Nat) : Bool :=
  v.getLsbD i

/-- The number of one bits among bits `0` to `n - 1`. -/
def popCount {w : Nat} (v : BitVec w) (n : Nat) : Nat :=
  ((List.range n).filter (fun i => v.getLsbD i)).length

end Sys2Proof
end

