-- ==== Sys2Proof/Syntax.lean ====
section
/-! DEFINITION. The commands of the block: one constructor per row of spec/opcode_table.json, with the operands that
the neighbours of the block supply at that step, and the small types those operands use. -/

namespace Sys2Proof

/-- The paths by which a register access arrives (R71, R467). `smpSession` is a register access carried in an SPDM
session on the SMP; `wrapper` is CM_REG of the IEEE 1500 wrapper (R432). -/
inductive Path where
  | link | smp | smpSession | wrapper
  deriving DecidableEq, Repr

/-- A register access: its path and, for the link, the course that carried it and its attributes (R71, R155). -/
structure Access where
  path   : Path
  course : Nat
  priv   : Bool
  secure : Bool
  deriving DecidableEq, Repr

/-- The transport of an SPDM message (R330). -/
inductive Transport where
  | link | smp
  deriving DecidableEq, Repr

/-- The eight agents of a channel arbiter, in the numbering of R236. -/
inductive Agent where
  | rdq | wrd | rtq | ref | mute | cal | scrb | aux
  deriving DecidableEq, Repr

/-- The three idle thresholds of a channel group (R366). -/
inductive IdleStep where
  | pd | sr | deep
  deriving DecidableEq, Repr

/-- The way in which a received flit failed (R132, R136). -/
inductive FlitFail where
  | fec | crc | tag | ftype
  deriving DecidableEq, Repr

/-- The trims of one channel, in the form of bytes 14 to 175 of a temperature-set record (R342, R355). -/
structure Trims where
  fret    : Nat
  pluck   : Nat
  drv     : Nat
  sidDrv  : List Nat
  vref    : List Nat
  wdeskew : List Nat
  rdeskew : List Nat
  rstrobe : List Nat
  wstrobe : List Nat
  csPhase : Nat
  cdeskew : List Nat
  rdGate  : Nat
  deriving DecidableEq, Repr

/-- What a training or a retraining of one channel found (R345, R346, R348): the trims it centred, the DQ and command
TSVs whose passing windows fell short, the strobes that failed, whether CHn_RST_N failed (R27), and passing windows in steps to be
judged by R346: of the DQ and then the spare DQ TSVs for writes and for reads, and of the command TSVs. -/
structure TrainResult where
  trims        : Trims
  failedDq     : List Nat
  failedCmd    : List Nat
  strobeAll    : Bool
  strobeSids   : List Nat
  resetFailed  : Bool
  verifyPassed : Bool
  writeWin     : List Nat := []
  readWin      : List Nat := []
  cmdWin       : List Nat := []
  deriving DecidableEq, Repr

/-- What MRR returned of ID0, ID1 and GEOM of SID `sid` mod 4 of channel `sid` / 4 (R106). -/
structure SidIdent where
  sid  : Nat
  id0  : Byte
  id1  : Byte
  geom : Byte
  deriving DecidableEq, Repr

/-- A sensor's answer on the sensor bus: the base die's or a core die's, its number, SNS_VAL and SNS_PAR (R30). -/
structure Reading where
  base   : Bool
  sensor : Nat
  val    : BitVec 10
  par    : Bool
  deriving DecidableEq, Repr

/-- What the neighbours of the block supply to a start-up (R92, R106, R114): the level of WRSTN, the outcomes of the ROM and
fuse checks and of the entropy start-up test, the MRAM words on which NVM_ERR rose, the domains whose wake failed after its
retries, the sensor answers up to step 7, what the first and the second try of step 8 read of each SID that does not answer
0x48, 0x10 and 0x4f, and the known-answer tests of R340. -/
structure BootEnv where
  wrstN      : Bool
  romOk      : Bool
  fuseOk     : Bool
  entropyOk  : Bool
  badWords   : List Nat
  deadDomain : List Nat
  readings   : List Reading
  idents     : List SidIdent
  idents2    : List SidIdent
  katEast    : Bool
  katWest    : Bool
  deriving DecidableEq, Repr

/-- A transfer on a sideband bus that can concern its target (R35): on the SMP an access in SDR, in HDR-DDR or in legacy I2C to an
address, on the service port one in SDR or HDR-DDR, and on each the three ways in which a dynamic address is assigned. -/
inductive SmpXfer where
  | sdr (addr : BitVec 7)
  | hdrDdr (addr : BitVec 7)
  | i2c (addr : BitVec 7)
  | entdaa (new : BitVec 7)
  | setdasa (static new : BitVec 7)
  | setnewda (old new : BitVec 7)
  | svcSdr (addr : BitVec 7)
  | svcDdr (addr : BitVec 7)
  | svcEntdaa (new : BitVec 7)
  | svcSetdasa (static new : BitVec 7)
  | svcSetnewda (old new : BitVec 7)
  deriving DecidableEq, Repr

/-- What a built-in test reports at its end (R431, R438). -/
structure BistResult where
  failBursts : Nat
  firstBank  : Nat
  firstRow   : Nat
  firstCol   : Nat
  dqFail     : Nat
  deriving DecidableEq, Repr

/-- The commands. Each constructor is one row of spec/opcode_table.json; LAWS.json names the row. An operand with a default value is
one that a command may leave out; the default names no choice of the spec (log 6). -/
inductive Instr where
  -- start-up, NVM and power-good
  | pwrGoodRise (env : BootEnv)
  | pwrGoodFall
  | nvmRdyTimeout
  | nvmRdyFall
  | nvmRdyRise (env : BootEnv)
  | nvmAck (err : Bool)
  | nvmAccessTimeout
  | trainingComplete (ch : Nat) (res : TrainResult)
  | trainingTimeout (ch : Nat)
  | linkWaitTimeout
  -- the drone
  | droneTick
  | dronePrimaryFail
  | droneCheckerFail
  | holdoverExpiry
  -- lanes and courses
  | lnRxvFall (c l : Nat)
  | lnRxvRise (c l : Nat)
  | lnEqack (c l : Nat)
  | laneBlockRx (c l : Nat) (hdr : BitVec 2) (payload : BitVec 64)
  | marker (c l : Nat) (payload : BitVec 64) (at0 : Nat)
  | laneMap (c : Nat) (payload : BitVec 64) (l : Nat := 16)
  | laneSwitch (c : Nat) (payload : BitVec 64) (l : Nat := 16)
  | idleFlitRx (c : Nat) (hdr : BitVec 64) (corrected : List Nat)
  | msgFlitRx (c : Nat) (hdr : BitVec 64) (cells : List Cell) (corrected : List Nat)
  | courseDown (c : Nat) (hdr : BitVec 64) (cell : Cell) (corrected : List Nat)
  | flitTx (c : Nat)
  | replayTimeout (c : Nat)
  | nakResend (c : Nat)
  | crWait
  | retrainLimit (c : Nat)
  -- Rila requests
  | rd (c k : Nat) (hdr : Cell)
  | wr (c k : Nat) (hdr : Cell) (data : List Cell)
  | wrp (c k : Nat) (hdr : Cell) (data : List Cell) (mask : Option (BitVec 64))
  | mask (c k : Nat) (cell : Cell)
  | fadd64 (c k : Nat) (hdr : Cell) (data : Cell)
  | cas64 (c k : Nat) (hdr : Cell) (data : Cell)
  | fence (c k : Nat) (hdr : Cell)
  | fenceComplete (tag : Nat)
  | cfgrd (c k : Nat) (hdr : Cell)
  | cfgwr (c k : Nat) (hdr : Cell)
  | malformedMessage (c k : Nat) (hdr : Cell)
  | resync (c k : Nat) (hdr : Cell)
  | summaryCapture (mtag : Nat)
  | timeSet (c k : Nat) (hdr : Cell)
  | keyCreate (c k : Nat) (hdr : Cell)
  | keyErase (c k : Nat) (hdr : Cell)
  | keyEraseComplete (key : Nat) (partner : Bool)
  | keyPersist (c k : Nat) (hdr : Cell)
  -- SPDM
  | getVersion (t : Transport) (mtag : Nat)
  | getCapabilities (t : Transport) (mtag : Nat)
  | negotiateAlgorithms (t : Transport) (mtag : Nat) (supported : Bool)
  | getDigests (t : Transport) (mtag : Nat)
  | getCertificate (t : Transport) (mtag slot offset len : Nat)
  | challenge (t : Transport) (mtag slot : Nat) (nonce : Nat)
  | getMeasurements (t : Transport) (mtag index : Nat)
  | keyExchange (t : Transport) (mtag : Nat) (share : Nat) (mutAuth : Bool)
  | finish (t : Transport) (mtag : Nat) (verified : Bool)
  | getEncapsulatedRequest (t : Transport) (mtag : Nat)
  | deliverEncapsulatedResponse (t : Transport) (mtag : Nat) (chainOk : Bool) (root : List Byte)
  | keyUpdate (t : Transport) (mtag : Nat) (all : Bool)
  | endSession (t : Transport) (mtag : Nat)
  | respondIfReady (t : Transport) (mtag : Nat)
  -- router and regulation
  | routerAdmit
  | rmwMerge (tag : Nat) (writeSpace : Bool)
  | tagTimeout (tag : Nat) (writeSpace : Bool)
  | quarantineEnd (tag : Nat) (writeSpace : Bool)
  | windowRoll
  | ageUnitExpiry
  -- control plane
  | sysCommit (a : Access) (groups : BitVec 16)
  | commitCheck
  | groupApply (g ch : Nat)
  | mapSwitch
  | commitWaitExpiry
  | registerWrite (a : Access) (off : Nat) (val : Word)
  | postedWriteEffect (page : Nat)
  | sleepingDomainRead (a : Access) (off : Nat)
  | rcRead (a : Access) (off : Nat)
  | counterLowRead (a : Access) (off : Nat)
  | sysSnap (a : Access)
  | sysSumctlCapture (a : Access)
  | smpSummaryRead
  | sysSave (a : Access)
  | saveComplete (failed : Bool)
  | smpAddressMatch (x : SmpXfer := .sdr 0#7)
  -- sensors and regulator
  | sensorRound
  | sensorRead (base : Bool) (sensor : Nat) (val : BitVec 10) (par : Bool)
  | sensorAckTimeout (base : Bool) (sensor : Nat)
  | regIldReading (v : BitVec 10)
  | telemRise
  | regOcwRise
  | regOcwFall
  | ocwHoldExpiry
  | pswRdyFall (d : Nat)
  | dieWindowRoll (die : Nat)
  -- channel engines
  | agentRequest (ch : Nat) (a : Agent) (t : Nat := 0)
  | preemptionPoint (ch : Nat)
  | tabRowIssue (ch : Nat) (insert : Bool) (t : Nat) (room : Bool := true) (flip : BitVec 40 := 0#40)
  | burstComplete (ch : Nat) (pre : Option Nat := none) (err : BitVec 640 := 0#640) (bad : Nat := 0)
  | readDataReturn (ch : Nat) (damage : List (Nat × Byte)) (bad : Nat := 0)
  | captureMiss (ch : Nat)
  | statusResult (ch sid : Nat) (st : BitVec 3)
  | statPoll
  | bankIdleTimeout (ch b : Nat)
  | slotTimerExpiry (ch : Nat)
  | mitlatchRx (ch sid : Nat)
  | hotPeriodExpiry (ch b : Nat)
  | exitSweepEnd (ch : Nat)
  | sentCheckResult (ch b : Nat) (crc : Word) (parityOk : Bool)
  | suspectScrubEnd (ch b counted : Nat)
  -- calibration
  | replicaWindowEnd (g : Nat) (lost : Bool)
  | calRunComplete (g : Nat) (ok : Bool) (fret : Nat) (even odd : Trims)
  | slewStep (ch : Nat)
  | idlePeriod (ch : Nat)
  | idleWaitExpiry (ch : Nat)
  | retrainComplete (ch : Nat) (res : TrainResult)
  | calRun (a : Access) (groups : BitVec 16)
  | calRetrain (a : Access) (ch : Nat) (full : Bool)
  | refSusclr (a : Access) (ch : Nat)
  -- power
  | idleThresholdExpiry (g : Nat) (step : IdleStep)
  | entryConditionsMet (d : Nat)
  | delayLimitExpiry (d : Nat)
  | pwrReqOn (a : Access) (d : Nat)
  | pwrReqRetention (a : Access) (d : Nat)
  | pwrReqOff (a : Access) (d : Nat)
  | linkEntryAcked
  | wakeReady (d : Nat) (retParityOk storeParityOk selfTestOk : Bool)
  | wakeTimerExpiry (d : Nat)
  | wakeRetry (d : Nat)
  | pwrUnfence (a : Access) (d : Nat)
  | linkWake (c : Nat)
  -- the pair
  | mirIdentity (words : List Word)
  | pairAloneTimeout
  | mirHeartbeat (words : List Word)
  | mirRefBase (words : List Word)
  | mirBacklog (words : List Word)
  | mirKey (words : List Word)
  | mirRepair (words : List Word)
  | mirConfig (words : List Word)
  | mirTrims (words : List Word)
  | mirSleep (words : List Word)
  | mirPairkey (words : List Word)
  | mirHandback (words : List Word)
  | mirrorAck (seq : Nat)
  | mirrorResendTimeout (seq : Nat)
  | mirrorNoackTimeout
  | mirRxreqWake
  | heartbeatWindowClose
  | brgFgnt
  | brgSfencedRise
  | brgSfencedFall
  | brgXrdy
  | takeoverRetrainDone (failedChs : List Nat)
  | handback (a : Access)
  | handbackDrained
  | handbackAcked
  | handbackWaitExpiry
  -- faults and events
  | progStall (point : Nat)
  | faultNPulseEnd
  | fltFence (a : Access) (val : Word)
  | fltUnfence (a : Access) (val : Word) (selfTestOk : Bool)
  | fltPinHold (a : Access) (seq : Byte)
  | fltPinRelease (a : Access) (seq : Byte)
  | evtView (a : Access) (seq : Nat)
  | evtLogidx (a : Access) (slot : Nat)
  | persistDelayExpiry
  | eventPersist
  | logScanDone
  | crsFence (a : Access) (c : Nat)
  | crsUnfence (a : Access) (c : Nat)
  | crsRetrain (a : Access) (c : Nat)
  | secLock (a : Access)
  | entropyHealthFail (test : Nat) (raw : Option (BitVec 1024) := none)
  | entropyRetest (pass : Bool) (raw : Option (BitVec 1024) := none)
  -- repair, test and loopback
  | softRow (a : Access) (val : Word)
  | spprReady
  | repairWaitExpiry
  | tspprExpiry
  | rowRestoreDone (same : Bool)
  | repairRecordWritten (ok : Bool)
  | hardRow (a : Access) (val : Word)
  | hpprCountExpiry
  | colAdd (a : Access) (val : Word)
  | colRemove (a : Access) (val : Word)
  | bistStart (a : Access) (val : Word)
  | bistAbort (a : Access)
  | bistEnd (res : BistResult)
  | loopNesl (a : Access) (val : Word)
  | loopNepl (a : Access) (val : Word)
  | loopFar (a : Access) (val : Word)
  | loopOff (a : Access)
  | wsBypass (wrstN : Bool := true)
  | wsExtest (cells : BitVec 2505 := 0#2505)
  | wsIntest (cells : BitVec 2505 := 0#2505)
  | cmReg (data : BitVec 56)
  | cmSram (data : Word) (failed : BitVec 24)
  | cmId
  -- update
  | svcOpen (length : Nat)
  | svcBlock (index : Nat) (data : List Byte) (crc : Word)
  | svcVerify
  | verifyDone (nvmOk : Bool)
  | svcActivate (digest : List Byte)
  | svcAbort
  | svcRestart
  | svcConfirm (digest : List Byte)
  | svcReadBitmap
  | updConfirm (a : Access) (digestLo : Word)
  | updateRestartProceed (env : BootEnv)
  | followActivate
  | selftestPass
  | probationExpiry
  -- two rows that the table lists last
  | flitCrcFailure (c : Nat) (kind : FlitFail) (hdr : BitVec 64) (corrected : List Nat)
  | snapCaptureComplete
  deriving DecidableEq, Repr

end Sys2Proof
end

