-- ==== Sys2Proof/Config.lean ====
section
/-! DEFINITION. What the part's fuses, its image and its cryptographic engines fix, and the free values: constants
without a body, so that nothing can be proved of their values. -/

namespace Sys2Proof.Config

/-- The free value with number `n` (log 3): a value that the spec leaves open. -/
opaque free : Nat → BitVec 512

/-- 1,024 raw bits of the noise source, by the number of the free value drawn for them (R327). -/
opaque rawBits : Nat → BitVec 1024

/-- The fused identity seed of an instance, its first byte the most significant (R328). -/
opaque identitySeed : Nat → BitVec 384

/-- The ROM, whose digest is measurement 1 (R332). -/
opaque rom : List (BitVec 8)

/-- What precedes the public key in the signed part of the ROM's template of the device certificate (R328). -/
opaque certHead : List (BitVec 8)

/-- What follows it. -/
opaque certTail : List (BitVec 8)

/-- The template's form of a device certificate, from its signed part and its signature (R328). -/
opaque certForm : List (BitVec 8) → List (BitVec 8) → List (BitVec 8)

/-- The fuses' 96-byte signature over the device certificate of an instance (R328). -/
opaque fusedSignature : Nat → List (BitVec 8)

/-- The public key of Bistinto's product certificate (R328). -/
opaque productKey : Option (Nat × Nat)

/-- Bistinto's root certificate in the ROM (R328). -/
opaque rootCert : List (BitVec 8)

/-- Bistinto's product certificate in the ROM (R328). -/
opaque productCert : List (BitVec 8)

/-- The public key whose digest is fused, under which manifests verify (R97, R441). -/
opaque manifestKey : Option (Nat × Nat)

/-- The hash of the messages of a connection up to a point, as DSP0274 composes it: by the number of the free value drawn for it, and
those bytes of it that Camec holds, since a command carries no whole request (R329). -/
opaque transcript : Nat → List (BitVec 8) → BitVec 384

/-- A byte of an SPDM response to which the spec gives no value (R329), by the number of the free value drawn for it and its place. -/
opaque spdmByte : Nat → Nat → BitVec 8

/-- The block that AES-256 encrypts to block `n` of void content, over a line address and a counter (R321; the spec does not lay it
out). -/
opaque voidBlock : Nat → Nat → Nat → BitVec 128

/-- Bistinto's MIPI manufacturer ID, in 15 bits, of which R35 gives no number. -/
opaque mipiManufacturer : BitVec 15

/-- The crossover offset of a partner channel's trim (R389). -/
opaque crossover : Nat → Nat → Nat

/-- The symbols of a line of the core dies that nothing has written since the core dies were powered, by its place (R105, R179). -/
opaque coldLine : Nat → BitVec 576

/-- The seed of the PRBS background on a DQ TSV in a row, which R431 gives only as "seeded by row". -/
opaque testSeed : Nat → Nat → BitVec 15

/-- Which way a value that lies midway between two codes, or two points, is rounded (R342, R357: to nearest). -/
opaque midwayUp : Nat → Nat → Bool

/-- The factory trims of the fuses: channel and trim (R92 step 3, R103). -/
opaque factoryTrim : Nat → Nat → Nat

/-- The code that a trim takes when its arithmetic leaves the range of its codes (R342, R349, R351, R354). -/
opaque trimBeyond : Int → Nat

end Sys2Proof.Config
end

