-- ==== Sys2Proof/Machine/Codes.lean ====
section
/-! DEFINITION. The check codes that the spec states bit by bit: CRC-32C (R130), the Reed–Solomon code over GF(2^8)
with the field polynomial of R131, and the byte-order helpers they use. -/

namespace Sys2Proof.Machine

/-- The `n` little-endian bytes of a number. -/
def leBytes (n v : Nat) : List Byte :=
  (List.range n).map (fun i => BitVec.ofNat 8 (v / 2 ^ (8 * i)))

/-- The number that a little-endian list of bytes spells. -/
def leNat : List Byte → Nat
  | [] => 0
  | b :: l => b.toNat + 256 * leNat l

/-- One bit of the reflected CRC-32C register (R130: Castagnoli polynomial, reflected 0x82f6_3b78). -/
def crcBit (r : BitVec 32) : BitVec 32 :=
  if r.getLsbD 0 then (r >>> 1) ^^^ 0x82f63b78#32 else r >>> 1

/-- One byte through the CRC-32C register. -/
def crcByte (r : BitVec 32) (b : Byte) : BitVec 32 :=
  let x := r ^^^ b.setWidth 32
  crcBit (crcBit (crcBit (crcBit (crcBit (crcBit (crcBit (crcBit x)))))))

/-- CRC-32C of a list of bytes (R130). -/
def crc32c (l : List Byte) : BitVec 32 :=
  (l.foldl crcByte 0xffffffff#32) ^^^ 0xffffffff#32

/-- A list of bytes ends in the CRC-32C of the bytes before it, least significant byte first (R91). -/
def crcOk (l : List Byte) : Bool :=
  decide (4 ≤ l.length) && decide (crc32c (l.take (l.length - 4)) = BitVec.ofNat 32 (leNat (l.drop (l.length - 4))))

/-- A list of bytes followed by its CRC-32C. -/
def withCrc (l : List Byte) : List Byte :=
  l ++ leBytes 4 (crc32c l).toNat

/-- Multiplication by α in GF(2^8) with x^8 + x^4 + x^3 + x^2 + 1 (R131). -/
def gfDouble (a : Byte) : Byte :=
  if a.getLsbD 7 then (a <<< 1) ^^^ 0x1d#8 else a <<< 1

/-- Multiplication in GF(2^8) (R131). -/
def gfMul (a b : Byte) : Byte :=
  (List.range 8).foldl (fun r i => gfDouble r ^^^ (if b.getLsbD (7 - i) then a else 0#8)) 0#8

/-- α to the power `n`. -/
def gfPow : Nat → Byte
  | 0 => 1#8
  | n + 1 => gfDouble (gfPow n)

/-- The generator polynomial with roots α^0 to α^(n-1), without its leading 1, highest degree first. -/
def rsGen : Nat → List Byte
  | 0 => []
  | n + 1 =>
    let g := 1#8 :: rsGen n
    let shifted := g ++ [0#8]
    let scaled := 0#8 :: g.map (gfMul (gfPow n))
    ((shifted.zip scaled).map (fun p => p.1 ^^^ p.2)).drop 1

/-- One step of the division by the generator `g`: the remainder `rem` after the next data byte `d`. -/
def rsStep (g rem : List Byte) (d : Byte) : List Byte :=
  match rem with
  | [] => []
  | r :: rest =>
    let f := r ^^^ d
    ((rest ++ [0#8]).zip g).map (fun p => p.1 ^^^ gfMul f p.2)

/-- The `n` check bytes of a Reed–Solomon codeword whose lowest-indexed byte is its highest-degree coefficient. -/
def rsCheck (n : Nat) (data : List Byte) : List Byte :=
  data.foldl (rsStep (rsGen n)) (List.replicate n 0#8)

/-- The bytes of a cell, lowest first (R154: byte 0 holds the opcode). -/
def cellBytes (c : Cell) : List Byte := leBytes 16 c.toNat

/-- The cell that 16 bytes spell. -/
def bytesCell (l : List Byte) : Cell := BitVec.ofNat 128 (leNat l)

/-- A little-endian byte string cut into 32-bit words. -/
def wordBytes (w : Word) : List Byte := leBytes 4 w.toNat

/-- Odd parity over the bits of a number below 2^n: 1 when the count of ones is even. -/
def oddParity (n v : Nat) : Bool :=
  ((List.range n).filter (fun i => v.testBit i)).length % 2 == 0

/-- The check byte of the control blocks (R122, R123): the complement of the XOR of payload bytes 0 to 6. -/
def blockCheck (payload : BitVec 64) : Byte :=
  ~~~ ((List.range 7).foldl (fun x i => x ^^^ payload.extractLsb' (8 * i) 8) 0#8)

end Sys2Proof.Machine
end

