-- ==== Sys2Proof/Machine/Aes.lean ====
section
/-! DEFINITION. The block cipher AES-256 of FIPS 197, on which R133, R310, R314, R321, R324 and R327 stand. A key is a 256-bit number and
a block a 128-bit one, the first byte of either the most significant. -/

namespace Sys2Proof.Machine

/-- The 128-bit block that 16 bytes spell, first byte most significant; missing bytes are zero. -/
def blockOf (l : List Byte) : BitVec 128 :=
  (List.range 16).foldl (fun x i => (x <<< 8) ||| (l.getD i 0#8).setWidth 128) 0#128

/-- The bytes of a block, most significant first. -/
def blockBytes (b : BitVec 128) : List Byte := (List.range 16).map (fun i => b.extractLsb' (120 - 8 * i) 8)

/-- The `n` bytes of a number, most significant first. -/
def beBytes (n v : Nat) : List Byte := (leBytes n v).reverse

/-- The number that bytes spell, most significant first. -/
def beNat (l : List Byte) : Nat := leNat l.reverse

/-- The rows of the S-box, entry 0 of a row first. -/
def sboxRows : List Nat :=
  [0x637c777bf26b6fc53001672bfed7ab76, 0xca82c97dfa5947f0add4a2af9ca472c0,
   0xb7fd9326363ff7cc34a5e5f171d83115, 0x04c723c31896059a071280e2eb27b275,
   0x09832c1a1b6e5aa0523bd6b329e32f84, 0x53d100ed20fcb15b6acbbe394a4c58cf,
   0xd0efaafb434d338545f9027f503c9fa8, 0x51a3408f929d38f5bcb6da2110fff3d2,
   0xcd0c13ec5f974417c4a77e3d645d1973, 0x60814fdc222a908846eeb814de5e0bdb,
   0xe0323a0a4906245cc2d3ac629195e479, 0xe7c8376d8dd54ea96c56f4ea657aae08,
   0xba78252e1ca6b4c6e8dd741f4bbd8b8a, 0x703eb5664803f60e613557b986c11d9e,
   0xe1f8981169d98e949b1e87e9ce5528df, 0x8ca1890dbfe6426841992d0fb054bb16]

/-- The rows of the inverse S-box. -/
def invRows : List Nat :=
  [0x52096ad53036a538bf40a39e81f3d7fb, 0x7ce339829b2fff87348e4344c4dee9cb,
   0x547b9432a6c2233dee4c950b42fac34e, 0x082ea16628d924b2765ba2496d8bd125,
   0x72f8f66486689816d4a45ccc5d65b692, 0x6c704850fdedb9da5e154657a78d9d84,
   0x90d8ab008cbcd30af7e45805b8b34506, 0xd02c1e8fca3f0f02c1afbd0301138a6b,
   0x3a9111414f67dcea97f2cfcef0b4e673, 0x96ac7422e7ad3585e2f937e81c75df6e,
   0x47f11a711d29c5896fb7620eaa18be1b, 0xfc563e4bc6d279209adbc0fe78cd5af4,
   0x1fdda8338807c731b11210592780ec5f, 0x60517fa919b54a0d2de57a9f93c99cef,
   0xa0e03b4dae2af5b0c8ebbb3c83539961, 0x172b047eba77d626e169146355210c7d]

/-- A byte's entry in a table of rows. -/
def boxAt (rows : List Nat) (b : Byte) : Byte :=
  BitVec.ofNat 8 (rows.getD (b.toNat / 16) 0 / 256 ^ (15 - b.toNat % 16))

/-- SubWord of the key expansion. -/
def subWord (w : Word) : Word := BitVec.ofNat 32 (beNat ((beBytes 4 w.toNat).map (boxAt sboxRows)))

/-- Word `i` of the key expansion, from the words before it, latest first. -/
def nextWord (i : Nat) (l : List Word) : Word :=
  let w := l.getD 0 0#32
  l.getD 7 0#32 ^^^ (if i % 8 = 0 then subWord (w.rotateLeft 8) ^^^ BitVec.ofNat 32 (2 ^ (i / 8 - 1) * 2 ^ 24)
    else if i % 8 = 4 then subWord w else w)

/-- The 60 words of the key expansion, in order. -/
def keyWords (key : Nat) : List Word :=
  ((List.range 52).foldl (fun l i => nextWord (i + 8) l :: l)
    ((List.range 8).map (fun i => BitVec.ofNat 32 (key / 2 ^ (32 * i))))).reverse

/-- The round keys of a key. -/
def roundKeys (key : Nat) : List (List Byte) :=
  let b := (keyWords key).flatMap (fun w => beBytes 4 w.toNat)
  (List.range 15).map (fun r => (b.drop (16 * r)).take 16)

/-- Byte-wise addition. -/
def xorBytes (a b : List Byte) : List Byte := List.zipWith (fun x y => x ^^^ y) a b

/-- Multiplication by x in the field of FIPS 197. -/
def aesDouble (a : Byte) : Byte := if a.getLsbD 7 then (a <<< 1) ^^^ 0x1b#8 else a <<< 1

/-- The product with a small number in the field of FIPS 197. -/
def aesMul (n : Nat) (a : Byte) : Byte :=
  let b := aesDouble a
  let c := aesDouble b
  let d := aesDouble c
  (if n.testBit 0 then a else 0#8) ^^^ (if n.testBit 1 then b else 0#8) ^^^ (if n.testBit 2 then c else 0#8) ^^^
    (if n.testBit 3 then d else 0#8)

/-- The columns of a state times a circulant matrix, whose first row is `m`. -/
def mixBy (m : List Nat) (l : List Byte) : List Byte :=
  (List.range 16).map (fun i => (List.range 4).foldl (fun r k =>
    r ^^^ aesMul (m.getD ((k + 4 - i % 4) % 4) 0) (l.getD (4 * (i / 4) + k) 0#8)) 0#8)

/-- The bytes of a state, byte `i` from place `k i` modulo 16: ShiftRows with k = 5, its inverse with k = 13. -/
def shiftBy (k : Nat) (l : List Byte) : List Byte := (List.range 16).map (fun i => l.getD (k * i % 16) 0#8)

/-- Encryption of a state: the rounds of the keys that are left. -/
def aesRounds : List (List Byte) → List Byte → List Byte
  | [], l => l
  | [k], l => xorBytes (shiftBy 5 (l.map (boxAt sboxRows))) k
  | k :: ks, l => aesRounds ks (xorBytes (mixBy [2, 3, 1, 1] (shiftBy 5 (l.map (boxAt sboxRows)))) k)

/-- Decryption of a state: the rounds of the keys that are left, the last key first. -/
def aesBack : List (List Byte) → List Byte → List Byte
  | [], l => l
  | [k], l => xorBytes ((shiftBy 13 l).map (boxAt invRows)) k
  | k :: ks, l => aesBack ks (mixBy [14, 11, 13, 9] (xorBytes ((shiftBy 13 l).map (boxAt invRows)) k))

/-- AES-256 of a block under a key. -/
def aes256 (key : Nat) (b : BitVec 128) : BitVec 128 :=
  match roundKeys key with
  | [] => b
  | k :: ks => blockOf (aesRounds ks (xorBytes (blockBytes b) k))

/-- The inverse cipher. -/
def aes256Inv (key : Nat) (b : BitVec 128) : BitVec 128 :=
  match (roundKeys key).reverse with
  | [] => b
  | k :: ks => blockOf (aesBack ks (xorBytes (blockBytes b) k))

end Sys2Proof.Machine
end

