-- ==== Sys2Proof/Machine/Sha.lean ====
section
/-! DEFINITION. SHA-384 (FIPS 180-4), and HMAC and HKDF over it (RFC 2104, RFC 5869), on which R97, R326, R328, R332, R333 and R441
stand. -/

namespace Sys2Proof.Machine

/-- The greatest number below 2^`bits` whose `k`-th power is at most `n`. -/
def rootOf (k n bits : Nat) : Nat :=
  (List.range bits).foldl (fun r i => let x := r + 2 ^ (bits - 1 - i); if x ^ k ≤ n then x else r) 0

/-- The first `n` primes. -/
def primes (n : Nat) : List Nat :=
  ((List.range 410).filter (fun p => decide (2 ≤ p) && (List.range 21).all (fun d => decide (d < 2) || decide (p ≤ d) ||
    p % d != 0))).take n

/-- The constants K: the first 64 bits of the fractional parts of the cube roots of the first 80 primes. -/
def shaK : List (BitVec 64) := (primes 80).map (fun p => BitVec.ofNat 64 (rootOf 3 (p * 2 ^ 192) 68))

/-- The initial hash value of SHA-384: the first 64 bits of the fractional parts of the square roots of the ninth to sixteenth
primes. -/
def shaInit : List (BitVec 64) := ((primes 16).drop 8).map (fun p => BitVec.ofNat 64 (rootOf 2 (p * 2 ^ 128) 68))

/-- The XOR of three rotations to the right. -/
def rotr3 (a b c : Nat) (x : BitVec 64) : BitVec 64 := x.rotateRight a ^^^ x.rotateRight b ^^^ x.rotateRight c

/-- The XOR of two rotations to the right and a shift. -/
def rotr2 (a b c : Nat) (x : BitVec 64) : BitVec 64 := x.rotateRight a ^^^ x.rotateRight b ^^^ (x >>> c)

/-- The 80 words of the message schedule of a block, from its 16 words. -/
def shaWords (block : List (BitVec 64)) : List (BitVec 64) :=
  ((List.range 64).foldl (fun (l : List (BitVec 64)) _ =>
    (rotr2 19 61 6 (l.getD 1 0) + l.getD 6 0 + rotr2 1 8 7 (l.getD 14 0) + l.getD 15 0) :: l) block.reverse).reverse

/-- One round, on the eight working variables, with a word of the schedule and its constant. -/
def shaRound (v : List (BitVec 64)) (w : BitVec 64 × BitVec 64) : List (BitVec 64) :=
  match v with
  | [a, b, c, d, e, f, g, h] =>
    let t := h + rotr3 14 18 41 e + ((e &&& f) ^^^ (~~~e &&& g)) + w.2 + w.1
    [t + rotr3 28 34 39 a + ((a &&& b) ^^^ (a &&& c) ^^^ (b &&& c)), a, b, c, d + t, e, f, g]
  | _ => v

/-- The hash value after a block of 128 bytes. -/
def shaBlock (h : List (BitVec 64)) (block : List Byte) : List (BitVec 64) :=
  let words := (List.range 16).map (fun i => BitVec.ofNat 64 (beNat ((block.drop (8 * i)).take 8)))
  List.zipWith (fun x y => x + y) h (((shaWords words).zip shaK).foldl shaRound h)

/-- The 48 bytes of the SHA-384 digest of a byte string. -/
def sha384Bytes (l : List Byte) : List Byte :=
  let n := l.length
  let padded := l ++ [0x80#8] ++ List.replicate ((239 - n % 128) % 128) 0#8 ++ beBytes 16 (8 * n)
  (((List.range (padded.length / 128)).foldl (fun h i => shaBlock h ((padded.drop (128 * i)).take 128)) shaInit).flatMap
    (fun w => beBytes 8 w.toNat)).take 48

/-- The digest as the number that its bytes spell, the first the least significant, which is how records hold it. -/
def sha384 (l : List Byte) : BitVec 384 := BitVec.ofNat 384 (leNat (sha384Bytes l))

/-- HMAC-SHA-384. -/
def hmac (key msg : List Byte) : List Byte :=
  let k := if 128 < key.length then sha384Bytes key else key
  let pad := fun (b : Byte) => (List.range 128).map (fun i => k.getD i 0#8 ^^^ b)
  sha384Bytes (pad 0x5c#8 ++ sha384Bytes (pad 0x36#8 ++ msg))

/-- HKDF-Extract. -/
def hkdfExtract (salt ikm : List Byte) : List Byte := hmac salt ikm

/-- The first `n` blocks of HKDF-Expand, each after the one before it. -/
def hkdfBlocks (prk info prev : List Byte) : Nat → Nat → List Byte
  | _, 0 => []
  | i, n + 1 =>
    let t := hmac prk (prev ++ info ++ leBytes 1 i)
    t ++ hkdfBlocks prk info t (i + 1) n

/-- HKDF-Expand to a number of bytes. -/
def hkdfExpand (prk info : List Byte) (len : Nat) : List Byte := (hkdfBlocks prk info [] 1 ((len + 47) / 48)).take len

/-- The bytes of a label. -/
def labelBytes (t : String) : List Byte := t.toList.map (fun c => BitVec.ofNat 8 c.toNat)

end Sys2Proof.Machine
end

