-- ==== Sys2Proof/Machine/Curve.lean ====
section
/-! DEFINITION. The curve P-384 (SP 800-186), key agreement over it (SP 800-56A), and ECDSA with SHA-384, deterministic where it signs
(FIPS 186-5), on which R97, R326, R328, R329 and R441 stand. -/

namespace Sys2Proof.Machine

/-- The field's prime. -/
def p384 : Nat := 2 ^ 384 - 2 ^ 128 - 2 ^ 96 + 2 ^ 32 - 1

/-- The order of the base point. -/
def n384 : Nat :=
  0xffffffffffffffffffffffffffffffffffffffffffffffffc7634d81f4372ddf581a0db248b0a77aecec196accc52973

/-- The coefficient b. -/
def b384 : Nat :=
  0xb3312fa7e23ee7e4988e056be3f82d19181d9c6efe8141120314088f5013875ac656398d8a2ed19d2a85c8edd3ec2aef

/-- A point in affine coordinates; none is the point at infinity. -/
abbrev Point := Option (Nat × Nat)

/-- The base point. -/
def g384 : Point :=
  some (0xaa87ca22be8b05378eb1c71ef320ad746e1d3b628ba79b9859f741e082542a385502f25dbf55296c3a545e3872760ab7,
    0x3617de4a96262c6f5d9e98bf9292dc29f8f41dbd289a147ce9da3113b5f0b8c00a60b1ce1d7e819d7a431d7c90ea0e5f)

/-- A power modulo `m`, of an exponent below 2^384. -/
def powMod (m a e : Nat) : Nat :=
  (List.range 384).foldl (fun r i => if e.testBit (383 - i) then r * r % m * a % m else r * r % m) 1

/-- The inverse modulo a prime. -/
def invMod (m a : Nat) : Nat := powMod m (a % m) (m - 2)

/-- The third point of the line through `x` and one of slope `k` at `(x1, y1)`, reflected. -/
def chord (k x1 y1 x2 : Nat) : Point :=
  let x := (k * k + 2 * p384 - x1 - x2) % p384
  some (x, (k * (x1 + p384 - x) + p384 - y1) % p384)

/-- Addition of points. -/
def addPoint (a b : Point) : Point :=
  match a, b with
  | none, q => q
  | q, none => q
  | some (x1, y1), some (x2, y2) =>
    if x1 = x2 then
      if (y1 + y2) % p384 = 0 then none
      else chord ((3 * x1 * x1 + p384 - 3) * invMod p384 (2 * y1) % p384) x1 y1 x2
    else chord ((y2 + p384 - y1) * invMod p384 (x2 + p384 - x1) % p384) x1 y1 x2

/-- A multiple of a point, by a number below 2^384. -/
def mulPoint (k : Nat) (a : Point) : Point :=
  (List.range 384).foldl (fun r i => let d := addPoint r r; if k.testBit (383 - i) then addPoint d a else d) none

/-- A point of the curve. -/
def onCurve (a : Point) : Bool :=
  match a with
  | none => false
  | some (x, y) => decide (x < p384) && decide (y < p384) && decide (y * y % p384 = (x * x * x + (p384 - 3) * x + b384) % p384)

/-- The 96 bytes of a point: x, then y, each most significant byte first. -/
def pointBytes (a : Point) : List Byte := beBytes 48 ((a.map (fun p => p.1)).getD 0) ++ beBytes 48 ((a.map (fun p => p.2)).getD 0)

/-- The point that 96 bytes spell. -/
def pointOf (l : List Byte) : Point := some (beNat (l.take 48), beNat ((l.drop 48).take 48))

/-- The shared secret of a private key and a partner's valid public key: the x coordinate (SP 800-56A). -/
def ecdh (d : Nat) (q : Point) : List Byte := (pointBytes (mulPoint d q)).take 48

/-- The ephemeral private key that 56 drawn bytes give (FIPS 186-5 A.2.1, SP 800-56A). -/
def privateKey (l : List Byte) : Nat := beNat l % (n384 - 1) + 1

/-- The candidates for the per-message secret of deterministic ECDSA, of which the first in range is used (FIPS 186-5 A.3.3). -/
def nonceOf : Nat → List Byte → List Byte → Nat
  | 0, _, _ => 1
  | i + 1, k, v =>
    let w := hmac k v
    let t := beNat w
    if 1 ≤ t ∧ t < n384 then t
    else
      let k1 := hmac k (w ++ [0#8])
      nonceOf i k1 (hmac k1 w)

/-- The deterministic ECDSA signature of a digest under a private key: r, then s, 48 bytes each. -/
def ecdsaSign (d : Nat) (digest : List Byte) : List Byte :=
  let e := beNat digest % n384
  let seed := beBytes 48 d ++ beBytes 48 e
  let k0 := hmac (List.replicate 48 0#8) (List.replicate 48 1#8 ++ [0#8] ++ seed)
  let v0 := hmac k0 (List.replicate 48 1#8)
  let k1 := hmac k0 (v0 ++ [1#8] ++ seed)
  let k := nonceOf 64 k1 (hmac k1 v0)
  let r := match mulPoint k g384 with
    | some a => a.1 % n384
    | none => 0
  beBytes 48 r ++ beBytes 48 (invMod n384 k * (e + r * d) % n384)

/-- A signature of a digest verifies under a public key. -/
def ecdsaVerify (q : Point) (digest sig : List Byte) : Bool :=
  let r := beNat (sig.take 48)
  let s := beNat ((sig.drop 48).take 48)
  let w := invMod n384 s
  decide (sig.length = 96) && onCurve q && decide (1 ≤ r) && decide (r < n384) && decide (1 ≤ s) && decide (s < n384) &&
    match addPoint (mulPoint (beNat digest * w % n384) g384) (mulPoint (r * w % n384) q) with
    | some a => decide (a.1 % n384 = r)
    | none => false

end Sys2Proof.Machine
end

