-- ==== Sys2Proof/Machine/Drbg.lean ====
section
/-! DEFINITION. The entropy source's health tests and conditioning (SP 800-90B), and the CTR_DRBG with AES-256 and the derivation
function (SP 800-90A), of R327; and the keys of R328 that the identity seed fixes. -/

namespace Sys2Proof.Machine

/-! ### The noise source (R327) -/

/-- The repetition count test fails: some 41 samples in a row are equal. -/
def rctFails (raw : BitVec 1024) : Bool :=
  (List.range 984).any (fun i => (List.range 41).all (fun k => raw.getLsbD (i + k) == raw.getLsbD i))

/-- The cutoff of the adaptive proportion test for 0.5 bits per raw bit, a window of 1,024 and a false-alarm probability of 2^-20
(SP 800-90B, 4.4.2). -/
def aptCutoff : Nat := 793

/-- The adaptive proportion test fails: the window's first sample comes too often in it. -/
def aptFails (raw : BitVec 1024) : Bool :=
  decide (aptCutoff ≤ ((List.range 1024).filter (fun i => raw.getLsbD i == raw.getLsbD 0)).length)

/-- The conditioning component: 384 bits from 1,024 raw bits, the first the lowest. -/
def conditioned (raw : BitVec 1024) : List Byte := sha384Bytes (leBytes 128 raw.toNat)

/-! ### CTR_DRBG (R327) -/

/-- The working state: the key and V. -/
structure Drbg where
  key : Nat
  v   : BitVec 128
  deriving DecidableEq, Repr

/-- The next `n` blocks of output. -/
def Drbg.blocks (g : Drbg) (n : Nat) : List Byte :=
  (List.range n).flatMap (fun i => blockBytes (aes256 g.key (g.v + BitVec.ofNat 128 (i + 1))))

/-- Key and V are replaced, by 48 bytes added to the blocks after `v`. -/
def Drbg.update (g : Drbg) (v : BitVec 128) (l : List Byte) : Drbg :=
  let t := xorBytes (({ g with v := v } : Drbg).blocks 3) l
  ⟨beNat (t.take 32), blockOf (t.drop 32)⟩

/-- A generate request: the bytes drawn, and the state after it. -/
def Drbg.generate (g : Drbg) (n : Nat) : List Byte × Drbg :=
  let k := (n + 15) / 16
  ((g.blocks k).take n, g.update (g.v + BitVec.ofNat 128 k) (List.replicate 48 0#8))

/-- CBC-MAC of whole blocks. -/
def cbcMac (key : Nat) (l : List Byte) : BitVec 128 :=
  (List.range (l.length / 16)).foldl (fun x i => aes256 key (x ^^^ blockOf (l.drop (16 * i)))) 0#128

/-- The derivation function, to 48 bytes. -/
def deriveSeed (l : List Byte) : List Byte :=
  let s := beBytes 4 l.length ++ beBytes 4 48 ++ l ++ [0x80#8]
  let padded := s ++ List.replicate ((16 - s.length % 16) % 16) 0#8
  let k0 := beNat ((List.range 32).map (fun i => BitVec.ofNat 8 i))
  let t := (List.range 3).flatMap (fun i => blockBytes (cbcMac k0 (beBytes 4 i ++ List.replicate 12 0#8 ++ padded)))
  let key := beNat (t.take 32)
  let x1 := aes256 key (blockOf (t.drop 32))
  let x2 := aes256 key x1
  blockBytes x1 ++ blockBytes x2 ++ blockBytes (aes256 key x2)

/-- A new instantiation from conditioned entropy and a nonce. -/
def Drbg.instantiate (entropy nonce : List Byte) : Drbg := (⟨0, 0#128⟩ : Drbg).update 0#128 (deriveSeed (entropy ++ nonce))

/-- A reseed with conditioned entropy. -/
def Drbg.reseed (g : Drbg) (entropy : List Byte) : Drbg := g.update g.v (deriveSeed entropy)

/-! ### The keys of the identity seed (R328) -/

/-- The pseudorandom key of an instance's fused identity seed. -/
def identityPrk (inst : Nat) : List Byte := hkdfExtract (List.replicate 48 0#8) (beBytes 48 (Config.identitySeed inst).toNat)

/-- The P-384 identity private key. -/
def identityKey (inst : Nat) : Nat := beNat (hkdfExpand (identityPrk inst) (labelBytes "camec id") 56) % (n384 - 1) + 1

/-- The device root key. -/
def rootKey (inst : Nat) : Nat := beNat (hkdfExpand (identityPrk inst) (labelBytes "camec root") 32)

/-- The part of the device certificate that is signed: the ROM's template with the public key of the identity key in its place. -/
def deviceBody (inst : Nat) : List Byte :=
  Config.certHead ++ pointBytes (mulPoint (identityKey inst) g384) ++ Config.certTail

/-- The device certificate: its signed part and the signature of the fuses, as the template places them. -/
def deviceCert (inst : Nat) : List Byte := Config.certForm (deviceBody inst) (Config.fusedSignature inst)

/-- The device certificate agrees with the product certificate. -/
def certOk (inst : Nat) : Bool := ecdsaVerify Config.productKey (sha384Bytes (deviceBody inst)) (Config.fusedSignature inst)

/-- The certificate chain in slot 0: root, product certificate and device certificate. -/
def certChain (inst : Nat) : List Byte := Config.rootCert ++ Config.productCert ++ deviceCert inst

end Sys2Proof.Machine
end

