-- ==== Sys2Proof/Machine/RegFields.lean ====
section
/-! DEFINITION. The register fields of the window: the field tables of the chapters at the offsets of 21_register_map
(R463, R466), one definition for each field. MODE stands in every function page and is described at its own operations
(R75); counters stand at their offsets (Flags.lean). -/

namespace Sys2Proof.Machine

/-- The pages and tables of R463. `crs` and `chn` are replicated pages, `rqm` the requester map and `ctx` the context
table (R466). -/
inductive Page where
  | sys | pwr | flt | evt | upd | sec | cap | cal | mir | rpr | crs | lnk | trx | reg | rqm | ctx | map | chn | tab | ref | mut
  deriving DecidableEq, Repr

/-- The access codes of the field tables (98_reader). -/
inductive Acc where
  | ro | rw | rc | wo | rwb | rwp
  deriving DecidableEq, Repr

/-- One register field: page, byte offset in the page, bits `hi : lo`, access code, whether the code carries the
suffix S, reset value, the range of values it accepts, and how often it is repeated at which stride. -/
structure Field where
  page   : Page
  off    : Nat
  hi     : Nat
  lo     : Nat
  acc    : Acc
  sec    : Bool
  reset  : Nat
  min    : Nat
  max    : Nat
  rep    : Nat
  stride : Nat
  deriving DecidableEq, Repr

-- page SYS

/-- SYS_PART_ID of SYS_ID. -/
def RF.SYS_PART_ID : Field := ⟨.sys, 0x004, 31, 16, .ro, false, 3122, 0, 65535, 1, 4⟩
/-- SYS_STEPPING of SYS_ID. -/
def RF.SYS_STEPPING : Field := ⟨.sys, 0x004, 15, 8, .ro, false, 177, 0, 255, 1, 4⟩
/-- SYS_INST_ID of SYS_ID. -/
def RF.SYS_INST_ID : Field := ⟨.sys, 0x004, 0, 0, .ro, false, 0, 0, 1, 1, 4⟩
/-- SYS_GROUPS of SYS_COMMIT. -/
def RF.SYS_GROUPS : Field := ⟨.sys, 0x010, 15, 0, .wo, false, 0, 0, 65535, 1, 4⟩
/-- SYS_TICKET of SYS_COMMIT_TICKET. -/
def RF.SYS_TICKET : Field := ⟨.sys, 0x014, 31, 0, .ro, false, 0, 0, 4294967295, 1, 4⟩
/-- SYS_COMMIT_EPOCH_EPOCH of SYS_COMMIT_EPOCH. -/
def RF.SYS_COMMIT_EPOCH_EPOCH : Field := ⟨.sys, 0x018, 31, 0, .ro, false, 0, 0, 4294967295, 1, 4⟩
/-- SYS_RES_EPOCH of RESk_E. -/
def RF.SYS_RES_EPOCH : Field := ⟨.sys, 0x020, 31, 0, .ro, false, 0, 0, 4294967295, 4, 8⟩
/-- SYS_REJECT_MASK of RESk_S. -/
def RF.SYS_REJECT_MASK : Field := ⟨.sys, 0x024, 31, 16, .ro, false, 0, 0, 65535, 4, 8⟩
/-- SYS_REASON of RESk_S. -/
def RF.SYS_REASON : Field := ⟨.sys, 0x024, 11, 8, .ro, false, 0, 0, 15, 4, 8⟩
/-- SYS_RESULT of RESk_S. -/
def RF.SYS_RESULT : Field := ⟨.sys, 0x024, 1, 0, .ro, false, 0, 0, 3, 4, 8⟩
/-- SYS_TIME_LO of SYS_TIME_LO. -/
def RF.SYS_TIME_LO : Field := ⟨.sys, 0x040, 31, 0, .ro, false, 0, 0, 4294967295, 1, 4⟩
/-- SYS_TIME_HI of SYS_TIME_HI. -/
def RF.SYS_TIME_HI : Field := ⟨.sys, 0x044, 15, 0, .ro, false, 0, 0, 65535, 1, 4⟩
/-- SYS_WAKE_FAIL of SYS_ACCERR. -/
def RF.SYS_WAKE_FAIL : Field := ⟨.sys, 0x050, 31, 31, .rc, false, 0, 0, 1, 1, 4⟩
/-- SYS_UNMAPPED of SYS_ACCERR. -/
def RF.SYS_UNMAPPED : Field := ⟨.sys, 0x050, 30, 30, .rc, false, 0, 0, 1, 1, 4⟩
/-- SYS_DENIED of SYS_ACCERR. -/
def RF.SYS_DENIED : Field := ⟨.sys, 0x050, 29, 29, .rc, false, 0, 0, 1, 1, 4⟩
/-- SYS_FIRST_PATH of SYS_ACCERR. -/
def RF.SYS_FIRST_PATH : Field := ⟨.sys, 0x050, 27, 26, .rc, false, 0, 0, 3, 1, 4⟩
/-- SYS_FIRST_OFFSET of SYS_ACCERR. -/
def RF.SYS_FIRST_OFFSET : Field := ⟨.sys, 0x050, 20, 2, .rc, false, 0, 0, 524287, 1, 4⟩
/-- SYS_SNAP_BUSY of SYS_SNAP. -/
def RF.SYS_SNAP_BUSY : Field := ⟨.sys, 0x060, 16, 16, .ro, false, 0, 0, 1, 1, 4⟩
/-- SYS_SNAP of SYS_SNAP. -/
def RF.SYS_SNAP : Field := ⟨.sys, 0x060, 0, 0, .wo, false, 0, 0, 1, 1, 4⟩
/-- SYS_SNAP_SEQ of SNAP_SEQ. -/
def RF.SYS_SNAP_SEQ : Field := ⟨.sys, 0x064, 31, 0, .ro, false, 0, 0, 4294967295, 1, 4⟩
/-- SYS_STAGE of SYS_BOOTSTAT. -/
def RF.SYS_STAGE : Field := ⟨.sys, 0x070, 31, 28, .ro, false, 0, 0, 15, 1, 4⟩
/-- SYS_FAIL_CODE of SYS_BOOTSTAT. -/
def RF.SYS_FAIL_CODE : Field := ⟨.sys, 0x070, 27, 24, .ro, false, 0, 0, 15, 1, 4⟩
/-- SYS_PAIR_ROLE of SYS_BOOTSTAT. -/
def RF.SYS_PAIR_ROLE : Field := ⟨.sys, 0x070, 22, 20, .ro, false, 0, 0, 7, 1, 4⟩
/-- SYS_ACTIVE_SLOT of SYS_BOOTSTAT. -/
def RF.SYS_ACTIVE_SLOT : Field := ⟨.sys, 0x070, 19, 19, .ro, false, 0, 0, 1, 1, 4⟩
/-- SYS_LINK_CLEAR of SYS_BOOTSTAT. -/
def RF.SYS_LINK_CLEAR : Field := ⟨.sys, 0x070, 18, 18, .ro, false, 0, 0, 1, 1, 4⟩
/-- SYS_LINK_WAITING of SYS_BOOTSTAT. -/
def RF.SYS_LINK_WAITING : Field := ⟨.sys, 0x070, 17, 17, .ro, false, 0, 0, 1, 1, 4⟩
/-- SYS_SLOT_FALLBACK of SYS_BOOTSTAT. -/
def RF.SYS_SLOT_FALLBACK : Field := ⟨.sys, 0x070, 7, 7, .rc, false, 0, 0, 1, 1, 4⟩
/-- SYS_BR_REPAIRED of SYS_BOOTSTAT. -/
def RF.SYS_BR_REPAIRED : Field := ⟨.sys, 0x070, 6, 6, .rc, false, 0, 0, 1, 1, 4⟩
/-- SYS_SETTINGS_DEFAULT of SYS_BOOTSTAT. -/
def RF.SYS_SETTINGS_DEFAULT : Field := ⟨.sys, 0x070, 5, 5, .rc, false, 0, 0, 1, 1, 4⟩
/-- SYS_CONFIG_ADJUSTED of SYS_BOOTSTAT. -/
def RF.SYS_CONFIG_ADJUSTED : Field := ⟨.sys, 0x070, 4, 4, .rc, false, 0, 0, 1, 1, 4⟩
/-- SYS_CALSET_BAD of SYS_BOOTSTAT. -/
def RF.SYS_CALSET_BAD : Field := ⟨.sys, 0x070, 3, 3, .rc, false, 0, 0, 1, 1, 4⟩
/-- SYS_REPAIR_LOST of SYS_BOOTSTAT. -/
def RF.SYS_REPAIR_LOST : Field := ⟨.sys, 0x070, 2, 2, .rc, false, 0, 0, 1, 1, 4⟩
/-- SYS_CH_FENCED of SYS_BOOTSTAT. -/
def RF.SYS_CH_FENCED : Field := ⟨.sys, 0x070, 1, 1, .rc, false, 0, 0, 1, 1, 4⟩
/-- SYS_LINK_DEGRADED of SYS_BOOTSTAT. -/
def RF.SYS_LINK_DEGRADED : Field := ⟨.sys, 0x070, 0, 0, .rc, false, 0, 0, 1, 1, 4⟩
/-- SYS_CH_READY of SYS_CHREADY. -/
def RF.SYS_CH_READY : Field := ⟨.sys, 0x074, 31, 0, .ro, false, 0, 0, 4294967295, 1, 4⟩
/-- SYS_READY_TICK of SYS_READY_TICK. -/
def RF.SYS_READY_TICK : Field := ⟨.sys, 0x078, 31, 0, .ro, false, 0, 0, 4294967295, 1, 4⟩
/-- SYS_SUM_BUSY of SYS_SUMCTL. -/
def RF.SYS_SUM_BUSY : Field := ⟨.sys, 0x080, 31, 31, .ro, false, 0, 0, 1, 1, 4⟩
/-- SYS_CAPTURE of SYS_SUMCTL. -/
def RF.SYS_CAPTURE : Field := ⟨.sys, 0x080, 0, 0, .wo, false, 0, 0, 1, 1, 4⟩
/-- SYS_SAVE_FAILED of SYS_SAVE. -/
def RF.SYS_SAVE_FAILED : Field := ⟨.sys, 0x088, 31, 31, .rc, false, 0, 0, 1, 1, 4⟩
/-- SYS_SAVE of SYS_SAVE. -/
def RF.SYS_SAVE : Field := ⟨.sys, 0x088, 16, 16, .wo, false, 0, 0, 1, 1, 4⟩
/-- SYS_SAVED_EPOCH of SYS_SAVE. -/
def RF.SYS_SAVED_EPOCH : Field := ⟨.sys, 0x088, 15, 0, .ro, false, 0, 0, 65535, 1, 4⟩
-- page PWR

/-- PWR_WAKE_FAILED of PWR_STAT. -/
def RF.PWR_WAKE_FAILED : Field := ⟨.pwr, 0x004, 31, 31, .rc, false, 0, 0, 1, 1, 4⟩
/-- PWR_DOMAIN_FENCED of PWR_STAT. -/
def RF.PWR_DOMAIN_FENCED : Field := ⟨.pwr, 0x004, 30, 30, .rc, false, 0, 0, 1, 1, 4⟩
/-- PWR_COLD_START of PWR_STAT. -/
def RF.PWR_COLD_START : Field := ⟨.pwr, 0x004, 29, 29, .rc, false, 0, 0, 1, 1, 4⟩
/-- PWR_CONFIG_REVERTED of PWR_STAT. -/
def RF.PWR_CONFIG_REVERTED : Field := ⟨.pwr, 0x004, 28, 28, .rc, false, 0, 0, 1, 1, 4⟩
/-- PWR_DRONE_SWITCH of PWR_STAT. -/
def RF.PWR_DRONE_SWITCH : Field := ⟨.pwr, 0x004, 27, 27, .rc, false, 0, 0, 1, 1, 4⟩
/-- PWR_CHECKER_FAIL of PWR_STAT. -/
def RF.PWR_CHECKER_FAIL : Field := ⟨.pwr, 0x004, 26, 26, .rc, false, 0, 0, 1, 1, 4⟩
/-- PWR_REFUSED of PWR_STAT. -/
def RF.PWR_REFUSED : Field := ⟨.pwr, 0x004, 25, 25, .rc, false, 0, 0, 1, 1, 4⟩
/-- PWR_HOLD_LOST of PWR_STAT. -/
def RF.PWR_HOLD_LOST : Field := ⟨.pwr, 0x004, 24, 24, .rc, false, 0, 0, 1, 1, 4⟩
/-- PWR_STATE_LO. -/
def RF.PWR_STATE_LO : Field := ⟨.pwr, 0x008, 31, 0, .ro, false, 2, 0, 4294967295, 1, 4⟩
/-- PWR_STATE_HI. -/
def RF.PWR_STATE_HI : Field := ⟨.pwr, 0x00c, 15, 0, .ro, false, 0, 0, 65535, 1, 4⟩
/-- PWR_CG. -/
def RF.PWR_CG : Field := ⟨.pwr, 0x010, 31, 0, .ro, false, 4294967295, 0, 4294967295, 1, 4⟩
/-- PWR_TARGET of PWR_REQ. -/
def RF.PWR_TARGET : Field := ⟨.pwr, 0x014, 9, 8, .wo, false, 0, 0, 3, 1, 4⟩
/-- PWR_REQ_DOMAIN of PWR_REQ. -/
def RF.PWR_REQ_DOMAIN : Field := ⟨.pwr, 0x014, 4, 0, .wo, false, 0, 0, 31, 1, 4⟩
/-- PWR_LAST_DOMAIN of PWR_LAST. -/
def RF.PWR_LAST_DOMAIN : Field := ⟨.pwr, 0x018, 28, 24, .ro, false, 0, 0, 31, 1, 4⟩
/-- PWR_REASON of PWR_LAST. -/
def RF.PWR_REASON : Field := ⟨.pwr, 0x018, 19, 16, .ro, false, 0, 0, 15, 1, 4⟩
/-- PWR_REFUSALS of PWR_LAST. -/
def RF.PWR_REFUSALS : Field := ⟨.pwr, 0x018, 15, 0, .ro, false, 0, 0, 65535, 1, 4⟩
/-- PWR_FAILED of PWR_FAILED. -/
def RF.PWR_FAILED : Field := ⟨.pwr, 0x01c, 23, 0, .ro, false, 0, 0, 16777215, 1, 4⟩
/-- PWR_UNFENCE_DOMAIN of PWR_UNFENCE. -/
def RF.PWR_UNFENCE_DOMAIN : Field := ⟨.pwr, 0x020, 4, 0, .wo, true, 0, 0, 31, 1, 4⟩
/-- PWR_IDLE_SR of PWR_IDLE0. -/
def RF.PWR_IDLE_SR : Field := ⟨.pwr, 0x800, 31, 16, .rwb, false, 2000, 0, 65535, 1, 4⟩
/-- PWR_IDLE_PD of PWR_IDLE0. -/
def RF.PWR_IDLE_PD : Field := ⟨.pwr, 0x800, 7, 0, .rwb, false, 2, 0, 255, 1, 4⟩
/-- PWR_DEEP_STATE of PWR_IDLE1. -/
def RF.PWR_DEEP_STATE : Field := ⟨.pwr, 0x804, 31, 31, .rwb, false, 0, 0, 1, 1, 4⟩
/-- PWR_AUTO_SUPPORT of PWR_IDLE1. -/
def RF.PWR_AUTO_SUPPORT : Field := ⟨.pwr, 0x804, 30, 30, .rwb, false, 1, 0, 1, 1, 4⟩
/-- PWR_IDLE_DEEP of PWR_IDLE1. -/
def RF.PWR_IDLE_DEEP : Field := ⟨.pwr, 0x804, 15, 0, .rwb, false, 20000, 0, 65535, 1, 4⟩
/-- PWR_RETRIES of PWR_TIMERS. -/
def RF.PWR_RETRIES : Field := ⟨.pwr, 0x808, 25, 24, .rwb, false, 3, 0, 3, 1, 4⟩
/-- PWR_DELAY_LIMIT of PWR_TIMERS. -/
def RF.PWR_DELAY_LIMIT : Field := ⟨.pwr, 0x808, 23, 16, .rwb, false, 64, 1, 255, 1, 4⟩
/-- PWR_WAKE_TIMER of PWR_TIMERS. -/
def RF.PWR_WAKE_TIMER : Field := ⟨.pwr, 0x808, 10, 0, .rwb, false, 400, 40, 2000, 1, 4⟩
/-- PWR_LINK_WAKE of PWR_WAKE. -/
def RF.PWR_LINK_WAKE : Field := ⟨.pwr, 0x80c, 27, 16, .rwb, false, 1, 0, 4095, 1, 4⟩
/-- PWR_SMP_WAKE of PWR_WAKE. -/
def RF.PWR_SMP_WAKE : Field := ⟨.pwr, 0x80c, 7, 1, .rwb, false, 80, 0, 127, 1, 4⟩
-- page FLT

/-- FLT_FATAL of FLT_STAT. -/
def RF.FLT_FATAL : Field := ⟨.flt, 0x004, 31, 31, .ro, false, 0, 0, 1, 1, 4⟩
/-- FLT_RELEASE_STALE of FLT_STAT. -/
def RF.FLT_RELEASE_STALE : Field := ⟨.flt, 0x004, 30, 30, .rc, false, 0, 0, 1, 1, 4⟩
/-- FLT_SEV_SEEN of FLT_STAT. -/
def RF.FLT_SEV_SEEN : Field := ⟨.flt, 0x004, 4, 0, .rc, false, 0, 0, 31, 1, 4⟩
/-- FLT_CH_FENCED of FLT_CHFENCE. -/
def RF.FLT_CH_FENCED : Field := ⟨.flt, 0x008, 31, 0, .rc, false, 0, 0, 4294967295, 1, 4⟩
/-- FLT_MISMATCH of FLT_LEDGER. -/
def RF.FLT_MISMATCH : Field := ⟨.flt, 0x00c, 5, 0, .rc, false, 0, 0, 63, 1, 4⟩
/-- FLT_FENCED of FLT_FENCED. -/
def RF.FLT_FENCED : Field := ⟨.flt, 0x010, 31, 0, .ro, false, 0, 0, 4294967295, 1, 4⟩
/-- FLT_PAGES of FLT_WHERE. -/
def RF.FLT_PAGES : Field := ⟨.flt, 0x014, 17, 0, .ro, false, 0, 0, 262143, 1, 4⟩
/-- FLT_PIN of FLT_PIN. -/
def RF.FLT_PIN : Field := ⟨.flt, 0x018, 31, 31, .ro, false, 0, 0, 1, 1, 4⟩
/-- FLT_PULSING of FLT_PIN. -/
def RF.FLT_PULSING : Field := ⟨.flt, 0x018, 30, 30, .ro, false, 0, 0, 1, 1, 4⟩
/-- FLT_SEQ of FLT_PIN. -/
def RF.FLT_SEQ : Field := ⟨.flt, 0x018, 15, 8, .rw, false, 0, 0, 255, 1, 4⟩
/-- FLT_DRIVE of FLT_PIN. -/
def RF.FLT_DRIVE : Field := ⟨.flt, 0x018, 0, 0, .rw, false, 0, 0, 1, 1, 4⟩
/-- FLT_ASSERTS of FLT_ASSERTS. -/
def RF.FLT_ASSERTS : Field := ⟨.flt, 0x01c, 31, 0, .ro, false, 0, 0, 4294967295, 1, 4⟩
/-- FLT_OP of FLT_CTL. -/
def RF.FLT_OP : Field := ⟨.flt, 0x020, 31, 28, .wo, true, 0, 0, 15, 1, 4⟩
/-- FLT_UNIT of FLT_CTL. -/
def RF.FLT_UNIT : Field := ⟨.flt, 0x020, 27, 24, .wo, true, 0, 0, 15, 1, 4⟩
/-- FLT_INDEX of FLT_CTL. -/
def RF.FLT_INDEX : Field := ⟨.flt, 0x020, 11, 0, .wo, true, 0, 0, 4095, 1, 4⟩
/-- FLT_SEV of FLT_LAST. -/
def RF.FLT_SEV : Field := ⟨.flt, 0x024, 31, 29, .ro, false, 0, 0, 7, 1, 4⟩
/-- FLT_SOURCE of FLT_LAST. -/
def RF.FLT_SOURCE : Field := ⟨.flt, 0x024, 23, 16, .ro, false, 0, 0, 255, 1, 4⟩
/-- FLT_CODE of FLT_LAST. -/
def RF.FLT_CODE : Field := ⟨.flt, 0x024, 15, 0, .ro, false, 0, 0, 65535, 1, 4⟩
/-- FLT_LATCH of FLT_CFG. -/
def RF.FLT_LATCH : Field := ⟨.flt, 0x800, 31, 31, .rwb, false, 1, 0, 1, 1, 4⟩
/-- FLT_PULSE_TICKS of FLT_CFG. -/
def RF.FLT_PULSE_TICKS : Field := ⟨.flt, 0x800, 15, 8, .rwb, false, 4, 4, 255, 1, 4⟩
/-- FLT_ASSERT_MASK of FLT_CFG. -/
def RF.FLT_ASSERT_MASK : Field := ⟨.flt, 0x800, 4, 0, .rwb, false, 24, 0, 31, 1, 4⟩
-- page EVT

/-- EVT_HEAD of EVT_HEAD. -/
def RF.EVT_HEAD : Field := ⟨.evt, 0x004, 31, 0, .ro, false, 0, 0, 4294967295, 1, 4⟩
/-- EVT_TAIL of EVT_TAIL. -/
def RF.EVT_TAIL : Field := ⟨.evt, 0x008, 31, 0, .ro, false, 0, 0, 4294967295, 1, 4⟩
/-- EVT_PERSIST_LOST of EVT_STAT. -/
def RF.EVT_PERSIST_LOST : Field := ⟨.evt, 0x00c, 31, 31, .rc, false, 0, 0, 1, 1, 4⟩
/-- EVT_LOG_BAD of EVT_STAT. -/
def RF.EVT_LOG_BAD : Field := ⟨.evt, 0x00c, 30, 30, .rc, false, 0, 0, 1, 1, 4⟩
/-- EVT_LOG_READY of EVT_STAT. -/
def RF.EVT_LOG_READY : Field := ⟨.evt, 0x00c, 0, 0, .ro, false, 0, 0, 1, 1, 4⟩
/-- EVT_SEQ of EVT_VIEW. -/
def RF.EVT_SEQ : Field := ⟨.evt, 0x010, 31, 0, .rw, false, 0, 0, 4294967295, 1, 4⟩
/-- EVT_VIEW_MISS of EVT_VSTAT. -/
def RF.EVT_VIEW_MISS : Field := ⟨.evt, 0x014, 0, 0, .ro, false, 0, 0, 1, 1, 4⟩
/-- EVT_RECw_WORD of EVT_RECw. -/
def RF.EVT_RECw_WORD : Field := ⟨.evt, 0x020, 31, 0, .ro, false, 0, 0, 4294967295, 8, 4⟩
/-- EVT_PSEQ of EVT_PSEQ. -/
def RF.EVT_PSEQ : Field := ⟨.evt, 0x040, 31, 0, .ro, false, 0, 0, 4294967295, 1, 4⟩
/-- EVT_LOG_SEQ of EVT_LHEAD. -/
def RF.EVT_LOG_SEQ : Field := ⟨.evt, 0x044, 31, 0, .ro, false, 0, 0, 4294967295, 1, 4⟩
/-- EVT_SLOT of EVT_LOGIDX. -/
def RF.EVT_SLOT : Field := ⟨.evt, 0x048, 13, 0, .rwp, false, 0, 0, 16383, 1, 4⟩
/-- EVT_LOGw_WORD of EVT_LOGw. -/
def RF.EVT_LOGw_WORD : Field := ⟨.evt, 0x060, 31, 0, .ro, false, 0, 0, 4294967295, 8, 4⟩
/-- EVT_PERSIST_MIN of EVT_CFG. -/
def RF.EVT_PERSIST_MIN : Field := ⟨.evt, 0x800, 9, 8, .rwb, false, 2, 1, 2, 1, 4⟩
/-- EVT_PERSIST_DELAY of EVT_CFG. -/
def RF.EVT_PERSIST_DELAY : Field := ⟨.evt, 0x800, 7, 0, .rwb, false, 64, 1, 255, 1, 4⟩
-- page UPD

/-- UPD_CONFIRMED_EVT of UPD_STAT. -/
def RF.UPD_CONFIRMED_EVT : Field := ⟨.upd, 0x004, 31, 31, .rc, false, 0, 0, 1, 1, 4⟩
/-- UPD_FALLBACK of UPD_STAT. -/
def RF.UPD_FALLBACK : Field := ⟨.upd, 0x004, 30, 30, .rc, false, 0, 0, 1, 1, 4⟩
/-- UPD_CONFIRM_LATE of UPD_STAT. -/
def RF.UPD_CONFIRM_LATE : Field := ⟨.upd, 0x004, 29, 29, .rc, false, 0, 0, 1, 1, 4⟩
/-- UPD_CONFIRM_REFUSED of UPD_STAT. -/
def RF.UPD_CONFIRM_REFUSED : Field := ⟨.upd, 0x004, 28, 28, .rc, false, 0, 0, 1, 1, 4⟩
/-- UPD_PREV_KEYS_EDITED of UPD_STAT. -/
def RF.UPD_PREV_KEYS_EDITED : Field := ⟨.upd, 0x004, 27, 27, .rc, false, 0, 0, 1, 1, 4⟩
/-- UPD_SVC_STATE of UPD_STAT. -/
def RF.UPD_SVC_STATE : Field := ⟨.upd, 0x004, 19, 16, .ro, false, 0, 0, 15, 1, 4⟩
/-- UPD_SVC_RESULT of UPD_STAT. -/
def RF.UPD_SVC_RESULT : Field := ⟨.upd, 0x004, 15, 12, .ro, false, 0, 0, 15, 1, 4⟩
/-- UPD_UNCONFIRMED of UPD_STAT. -/
def RF.UPD_UNCONFIRMED : Field := ⟨.upd, 0x004, 9, 8, .ro, false, 0, 0, 3, 1, 4⟩
/-- UPD_PROBATION of UPD_STAT. -/
def RF.UPD_PROBATION : Field := ⟨.upd, 0x004, 7, 7, .ro, false, 0, 0, 1, 1, 4⟩
/-- UPD_SELFTEST_PASS of UPD_STAT. -/
def RF.UPD_SELFTEST_PASS : Field := ⟨.upd, 0x004, 6, 6, .ro, false, 0, 0, 1, 1, 4⟩
/-- UPD_PREVIOUS_SLOT of UPD_SLOT. -/
def RF.UPD_PREVIOUS_SLOT : Field := ⟨.upd, 0x008, 31, 24, .ro, false, 255, 0, 255, 1, 4⟩
/-- UPD_RUNNING of UPD_SLOT. -/
def RF.UPD_RUNNING : Field := ⟨.upd, 0x008, 16, 16, .ro, false, 0, 0, 1, 1, 4⟩
/-- UPD_BR_SEQ of UPD_SLOT. -/
def RF.UPD_BR_SEQ : Field := ⟨.upd, 0x008, 15, 0, .ro, false, 0, 0, 65535, 1, 4⟩
/-- UPD_SEC_VERSION of UPD_SECVER. -/
def RF.UPD_SEC_VERSION : Field := ⟨.upd, 0x00c, 31, 0, .ro, false, 0, 0, 4294967295, 1, 4⟩
/-- UPD_OTP of UPD_OTP. -/
def RF.UPD_OTP : Field := ⟨.upd, 0x010, 5, 0, .ro, false, 0, 0, 63, 1, 4⟩
/-- UPD_PROB_LEFT of UPD_PROB. -/
def RF.UPD_PROB_LEFT : Field := ⟨.upd, 0x014, 7, 0, .ro, false, 0, 0, 255, 1, 4⟩
/-- UPD_DIGEST_LO of UPD_CONFIRM. -/
def RF.UPD_DIGEST_LO : Field := ⟨.upd, 0x018, 31, 0, .wo, true, 0, 0, 4294967295, 1, 4⟩
/-- UPD_EXPECTED of UPD_BLOCKS. -/
def RF.UPD_EXPECTED : Field := ⟨.upd, 0x01c, 25, 16, .ro, false, 0, 0, 1023, 1, 4⟩
/-- UPD_RECEIVED of UPD_BLOCKS. -/
def RF.UPD_RECEIVED : Field := ⟨.upd, 0x01c, 9, 0, .ro, false, 0, 0, 1023, 1, 4⟩
/-- UPD_DIGEST of UPD_DIGESTw. -/
def RF.UPD_DIGEST : Field := ⟨.upd, 0x040, 31, 0, .ro, false, 0, 0, 4294967295, 12, 4⟩
/-- UPD_AUTO_CONFIRM of UPD_CFG. -/
def RF.UPD_AUTO_CONFIRM : Field := ⟨.upd, 0x800, 31, 31, .rwb, true, 1, 0, 1, 1, 4⟩
/-- UPD_PROB_WINDOW of UPD_CFG. -/
def RF.UPD_PROB_WINDOW : Field := ⟨.upd, 0x800, 7, 0, .rwb, true, 10, 1, 255, 1, 4⟩
-- page SEC

/-- SEC_ENTROPY_FAIL of SEC_STAT. -/
def RF.SEC_ENTROPY_FAIL : Field := ⟨.sec, 0x004, 31, 31, .rc, false, 0, 0, 1, 1, 4⟩
/-- SEC_KEY_RESTORE_FAIL of SEC_STAT. -/
def RF.SEC_KEY_RESTORE_FAIL : Field := ⟨.sec, 0x004, 30, 30, .rc, false, 0, 0, 1, 1, 4⟩
/-- SEC_SLOT_FENCED of SEC_STAT. -/
def RF.SEC_SLOT_FENCED : Field := ⟨.sec, 0x004, 29, 29, .rc, false, 0, 0, 1, 1, 4⟩
/-- SEC_POISON_SEEN of SEC_STAT. -/
def RF.SEC_POISON_SEEN : Field := ⟨.sec, 0x004, 28, 28, .rc, false, 0, 0, 1, 1, 4⟩
/-- SEC_UNCORR_SEEN of SEC_STAT. -/
def RF.SEC_UNCORR_SEEN : Field := ⟨.sec, 0x004, 27, 27, .rc, false, 0, 0, 1, 1, 4⟩
/-- SEC_LOCKED of SEC_STAT. -/
def RF.SEC_LOCKED : Field := ⟨.sec, 0x004, 3, 3, .ro, false, 0, 0, 1, 1, 4⟩
/-- SEC_DRBG_OK of SEC_STAT. -/
def RF.SEC_DRBG_OK : Field := ⟨.sec, 0x004, 2, 2, .ro, false, 0, 0, 1, 1, 4⟩
/-- SEC_SMP_SESSION of SEC_STAT. -/
def RF.SEC_SMP_SESSION : Field := ⟨.sec, 0x004, 1, 1, .ro, false, 0, 0, 1, 1, 4⟩
/-- SEC_LINK_SESSION of SEC_STAT. -/
def RF.SEC_LINK_SESSION : Field := ⟨.sec, 0x004, 0, 0, .ro, false, 0, 0, 1, 1, 4⟩
/-- SEC_CLEAR_OK of SEC_POLICY. -/
def RF.SEC_CLEAR_OK : Field := ⟨.sec, 0x008, 31, 31, .rwb, true, 0, 0, 1, 1, 4⟩
/-- SEC_PERSIST_EN of SEC_POLICY. -/
def RF.SEC_PERSIST_EN : Field := ⟨.sec, 0x008, 30, 30, .rwb, true, 0, 0, 1, 1, 4⟩
/-- SEC_KEY0_CLASS of SEC_POLICY. -/
def RF.SEC_KEY0_CLASS : Field := ⟨.sec, 0x008, 29, 28, .rwb, true, 0, 0, 3, 1, 4⟩
/-- SEC_ROOT_VALID of SEC_POLICY. -/
def RF.SEC_ROOT_VALID : Field := ⟨.sec, 0x008, 3, 0, .rwb, false, 0, 0, 15, 1, 4⟩
/-- SEC_LOCK of SEC_LOCK. -/
def RF.SEC_LOCK : Field := ⟨.sec, 0x00c, 0, 0, .rwp, false, 0, 0, 1, 1, 4⟩
/-- SEC_ACTIVE of SEC_KEYS. -/
def RF.SEC_ACTIVE : Field := ⟨.sec, 0x010, 27, 16, .ro, false, 0, 0, 4095, 1, 4⟩
/-- SEC_FENCED of SEC_KEYS. -/
def RF.SEC_FENCED : Field := ⟨.sec, 0x010, 11, 0, .ro, false, 0, 0, 4095, 1, 4⟩
/-- SEC_KEYP_PERSISTED of SEC_KEYP. -/
def RF.SEC_KEYP_PERSISTED : Field := ⟨.sec, 0x014, 6, 0, .ro, false, 0, 0, 127, 1, 4⟩
/-- SEC_PARTNER of SEC_KEYVIEW. -/
def RF.SEC_PARTNER : Field := ⟨.sec, 0x018, 11, 11, .rw, false, 0, 0, 1, 1, 4⟩
/-- SEC_KEYID of SEC_KEYVIEW. -/
def RF.SEC_KEYID : Field := ⟨.sec, 0x018, 10, 0, .rw, false, 0, 0, 2047, 1, 4⟩
/-- SEC_STATE of SEC_KEYSTAT. -/
def RF.SEC_STATE : Field := ⟨.sec, 0x01c, 31, 30, .ro, false, 0, 0, 3, 1, 4⟩
/-- SEC_CLASS of SEC_KEYSTAT. -/
def RF.SEC_CLASS : Field := ⟨.sec, 0x01c, 29, 28, .ro, false, 0, 0, 3, 1, 4⟩
/-- SEC_META of SEC_KEYSTAT. -/
def RF.SEC_META : Field := ⟨.sec, 0x01c, 27, 27, .ro, false, 0, 0, 1, 1, 4⟩
/-- SEC_KEYSTAT_PERSISTED of SEC_KEYSTAT. -/
def RF.SEC_KEYSTAT_PERSISTED : Field := ⟨.sec, 0x01c, 26, 26, .ro, false, 0, 0, 1, 1, 4⟩
/-- SEC_GENERATION of SEC_KEYSTAT. -/
def RF.SEC_GENERATION : Field := ⟨.sec, 0x01c, 15, 0, .ro, false, 0, 0, 65535, 1, 4⟩
/-- SEC_DIGEST of SEC_ROOTr_w. -/
def RF.SEC_DIGEST : Field := ⟨.sec, 0x040, 31, 0, .rwb, false, 0, 0, 4294967295, 48, 4⟩
/-- SEC_EXPERT_META_OK of SEC_META. -/
def RF.SEC_EXPERT_META_OK : Field := ⟨.sec, 0x800, 0, 0, .rwb, true, 0, 0, 1, 1, 4⟩
/-- SEC_RESEED_LOG of SEC_DRBG. -/
def RF.SEC_RESEED_LOG : Field := ⟨.sec, 0x804, 4, 0, .rwb, true, 16, 10, 20, 1, 4⟩
-- page CAP

/-- CAP_BUDGET of CAP_BUDGET. -/
def RF.CAP_BUDGET : Field := ⟨.cap, 0x004, 6, 0, .rwb, false, 56, 16, 64, 1, 4⟩
/-- CAP_THROTTLED of CAP_STAT. -/
def RF.CAP_THROTTLED : Field := ⟨.cap, 0x008, 31, 31, .rc, false, 0, 0, 1, 1, 4⟩
/-- CAP_TELEM_CUT of CAP_STAT. -/
def RF.CAP_TELEM_CUT : Field := ⟨.cap, 0x008, 30, 30, .rc, false, 0, 0, 1, 1, 4⟩
/-- CAP_OCW_SEEN of CAP_STAT. -/
def RF.CAP_OCW_SEEN : Field := ⟨.cap, 0x008, 29, 29, .rc, false, 0, 0, 1, 1, 4⟩
/-- CAP_DRAW_WAIT of CAP_STAT. -/
def RF.CAP_DRAW_WAIT : Field := ⟨.cap, 0x008, 28, 28, .rc, false, 0, 0, 1, 1, 4⟩
/-- CAP_F_TELEM of CAP_STAT. -/
def RF.CAP_F_TELEM : Field := ⟨.cap, 0x008, 22, 16, .ro, false, 100, 0, 127, 1, 4⟩
/-- CAP_STEP of CAP_STAT. -/
def RF.CAP_STEP : Field := ⟨.cap, 0x008, 2, 0, .ro, false, 0, 0, 7, 1, 4⟩
/-- CAP_FLOOR_CAP of CAP_NOW. -/
def RF.CAP_FLOOR_CAP : Field := ⟨.cap, 0x00c, 27, 16, .ro, false, 2867, 0, 4095, 1, 4⟩
/-- CAP_B_EFF of CAP_NOW. -/
def RF.CAP_B_EFF : Field := ⟨.cap, 0x00c, 9, 0, .ro, false, 560, 0, 1023, 1, 4⟩
/-- CAP_INPUT of CAP_TEMP. -/
def RF.CAP_INPUT : Field := ⟨.cap, 0x010, 31, 24, .ro, false, 0, 0, 255, 1, 4⟩
/-- CAP_BASE_MAX of CAP_TEMP. -/
def RF.CAP_BASE_MAX : Field := ⟨.cap, 0x010, 23, 16, .ro, false, 0, 0, 255, 1, 4⟩
/-- CAP_HOT_CH of CAP_TEMP. -/
def RF.CAP_HOT_CH : Field := ⟨.cap, 0x010, 12, 8, .ro, false, 0, 0, 31, 1, 4⟩
/-- CAP_CH_MAX of CAP_TEMP. -/
def RF.CAP_CH_MAX : Field := ⟨.cap, 0x010, 7, 0, .ro, false, 0, 0, 255, 1, 4⟩
/-- CAP_C_NREF of CAP_COST0. -/
def RF.CAP_C_NREF : Field := ⟨.cap, 0x800, 29, 24, .rwb, true, 12, 1, 63, 1, 4⟩
/-- CAP_C_WR of CAP_COST0. -/
def RF.CAP_C_WR : Field := ⟨.cap, 0x800, 21, 16, .rwb, true, 1, 1, 63, 1, 4⟩
/-- CAP_C_RD of CAP_COST0. -/
def RF.CAP_C_RD : Field := ⟨.cap, 0x800, 13, 8, .rwb, true, 1, 1, 63, 1, 4⟩
/-- CAP_C_ACT of CAP_COST0. -/
def RF.CAP_C_ACT : Field := ⟨.cap, 0x800, 5, 0, .rwb, true, 4, 1, 63, 1, 4⟩
/-- CAP_C_AUX of CAP_COST1. -/
def RF.CAP_C_AUX : Field := ⟨.cap, 0x804, 13, 8, .rwb, true, 1, 1, 63, 1, 4⟩
/-- CAP_C_REF of CAP_COST1. -/
def RF.CAP_C_REF : Field := ⟨.cap, 0x804, 5, 0, .rwb, true, 16, 1, 63, 1, 4⟩
/-- CAP_MUTE_CAP of CAP_ESC. -/
def RF.CAP_MUTE_CAP : Field := ⟨.cap, 0x808, 25, 16, .rwb, false, 192, 0, 1023, 1, 4⟩
/-- CAP_MUTE_RESV of CAP_ESC. -/
def RF.CAP_MUTE_RESV : Field := ⟨.cap, 0x808, 7, 0, .rwb, false, 48, 0, 255, 1, 4⟩
/-- CAP_LUMP of CAP_PURSE. -/
def RF.CAP_LUMP : Field := ⟨.cap, 0x80c, 9, 0, .rwb, false, 256, 32, 1023, 1, 4⟩
/-- CAP_DIE_CAP of CAP_DIE. -/
def RF.CAP_DIE_CAP : Field := ⟨.cap, 0x810, 7, 0, .rwb, false, 96, 32, 255, 1, 4⟩
/-- CAP_T4 of CAP_THROT. -/
def RF.CAP_T4 : Field := ⟨.cap, 0x814, 31, 24, .rwb, false, 140, 0, 150, 1, 4⟩
/-- CAP_T3 of CAP_THROT. -/
def RF.CAP_T3 : Field := ⟨.cap, 0x814, 23, 16, .rwb, false, 130, 0, 150, 1, 4⟩
/-- CAP_T2 of CAP_THROT. -/
def RF.CAP_T2 : Field := ⟨.cap, 0x814, 15, 8, .rwb, false, 120, 0, 150, 1, 4⟩
/-- CAP_T1 of CAP_THROT. -/
def RF.CAP_T1 : Field := ⟨.cap, 0x814, 7, 0, .rwb, false, 110, 0, 150, 1, 4⟩
/-- CAP_HYST of CAP_THROT2. -/
def RF.CAP_HYST : Field := ⟨.cap, 0x818, 31, 28, .rwb, false, 3, 1, 15, 1, 4⟩
/-- CAP_F4 of CAP_THROT2. -/
def RF.CAP_F4 : Field := ⟨.cap, 0x818, 27, 21, .rwb, false, 40, 10, 100, 1, 4⟩
/-- CAP_F3 of CAP_THROT2. -/
def RF.CAP_F3 : Field := ⟨.cap, 0x818, 20, 14, .rwb, false, 55, 10, 100, 1, 4⟩
/-- CAP_F2 of CAP_THROT2. -/
def RF.CAP_F2 : Field := ⟨.cap, 0x818, 13, 7, .rwb, false, 70, 10, 100, 1, 4⟩
/-- CAP_F1 of CAP_THROT2. -/
def RF.CAP_F1 : Field := ⟨.cap, 0x818, 6, 0, .rwb, false, 85, 10, 100, 1, 4⟩
/-- CAP_TELEM_EN of CAP_TELEM. -/
def RF.CAP_TELEM_EN : Field := ⟨.cap, 0x81c, 31, 31, .rwb, false, 1, 0, 1, 1, 4⟩
/-- CAP_OCW_FRAC of CAP_TELEM. -/
def RF.CAP_OCW_FRAC : Field := ⟨.cap, 0x81c, 22, 16, .rwb, false, 50, 10, 100, 1, 4⟩
/-- CAP_ILD_LIMIT of CAP_TELEM. -/
def RF.CAP_ILD_LIMIT : Field := ⟨.cap, 0x81c, 9, 0, .rwb, false, 600, 100, 675, 1, 4⟩
/-- CAP_LEDGER_OVR of CAP_LEDGER. -/
def RF.CAP_LEDGER_OVR : Field := ⟨.cap, 0x820, 0, 0, .rwb, true, 0, 0, 1, 1, 4⟩
-- page CAL

/-- CAL_REF_COURSE of CAL_REFSTAT. -/
def RF.CAL_REF_COURSE : Field := ⟨.cal, 0x004, 27, 24, .ro, false, 15, 0, 15, 1, 4⟩
/-- CAL_REF_STATE of CAL_REFSTAT. -/
def RF.CAL_REF_STATE : Field := ⟨.cal, 0x004, 23, 22, .ro, false, 0, 0, 3, 1, 4⟩
/-- CAL_HOLDOVER_LEFT of CAL_REFSTAT. -/
def RF.CAL_HOLDOVER_LEFT : Field := ⟨.cal, 0x004, 15, 8, .ro, false, 0, 0, 255, 1, 4⟩
/-- CAL_NOREF_ANY of CAL_REFSTAT. -/
def RF.CAL_NOREF_ANY : Field := ⟨.cal, 0x004, 3, 3, .ro, false, 1, 0, 1, 1, 4⟩
/-- CAL_DRONE_CHECKER of CAL_REFSTAT. -/
def RF.CAL_DRONE_CHECKER : Field := ⟨.cal, 0x004, 2, 2, .ro, false, 0, 0, 1, 1, 4⟩
/-- CAL_REF_SWITCHED of CAL_REFSTAT. -/
def RF.CAL_REF_SWITCHED : Field := ⟨.cal, 0x004, 1, 1, .rc, false, 0, 0, 1, 1, 4⟩
/-- CAL_REF_LOST of CAL_REFSTAT. -/
def RF.CAL_REF_LOST : Field := ⟨.cal, 0x004, 0, 0, .rc, false, 0, 0, 1, 1, 4⟩
/-- CAL_RUN_LATE of CAL_STAT. -/
def RF.CAL_RUN_LATE : Field := ⟨.cal, 0x008, 31, 31, .rc, false, 0, 0, 1, 1, 4⟩
/-- CAL_SLEW_FORCED of CAL_STAT. -/
def RF.CAL_SLEW_FORCED : Field := ⟨.cal, 0x008, 30, 30, .rc, false, 0, 0, 1, 1, 4⟩
/-- CAL_RETRAIN_FAIL of CAL_STAT. -/
def RF.CAL_RETRAIN_FAIL : Field := ⟨.cal, 0x008, 29, 29, .rc, false, 0, 0, 1, 1, 4⟩
/-- CAL_SPARE_TAKEN of CAL_STAT. -/
def RF.CAL_SPARE_TAKEN : Field := ⟨.cal, 0x008, 28, 28, .rc, false, 0, 0, 1, 1, 4⟩
/-- CAL_WINDOW_DISCARD of CAL_STAT. -/
def RF.CAL_WINDOW_DISCARD : Field := ⟨.cal, 0x008, 27, 27, .rc, false, 0, 0, 1, 1, 4⟩
/-- CAL_RUNNING of CAL_STAT. -/
def RF.CAL_RUNNING : Field := ⟨.cal, 0x008, 4, 0, .ro, false, 0, 0, 31, 1, 4⟩
/-- CAL_GSTATE_STATE. -/
def RF.CAL_GSTATE_STATE : Field := ⟨.cal, 0x00c, 31, 0, .ro, false, 2863311530, 0, 4294967295, 1, 4⟩
/-- CAL_VIEW_CH of CAL_VIEW. -/
def RF.CAL_VIEW_CH : Field := ⟨.cal, 0x010, 4, 0, .rw, false, 0, 0, 31, 1, 4⟩
/-- CAL_LAST_TEMP of CAL_CHSTAT. -/
def RF.CAL_LAST_TEMP : Field := ⟨.cal, 0x014, 31, 24, .ro, false, 0, 0, 255, 1, 4⟩
/-- CAL_PENDING_IDLE of CAL_CHSTAT. -/
def RF.CAL_PENDING_IDLE : Field := ⟨.cal, 0x014, 23, 23, .ro, false, 0, 0, 1, 1, 4⟩
/-- CAL_SLEWING of CAL_CHSTAT. -/
def RF.CAL_SLEWING : Field := ⟨.cal, 0x014, 22, 22, .ro, false, 0, 0, 1, 1, 4⟩
/-- CAL_RETRAINING of CAL_CHSTAT. -/
def RF.CAL_RETRAINING : Field := ⟨.cal, 0x014, 21, 21, .ro, false, 0, 0, 1, 1, 4⟩
/-- CAL_EST_POINTS of CAL_CHSTAT. -/
def RF.CAL_EST_POINTS : Field := ⟨.cal, 0x014, 15, 8, .ro, false, 0, 0, 255, 1, 4⟩
/-- CAL_VALID_POINTS of CAL_CHSTAT. -/
def RF.CAL_VALID_POINTS : Field := ⟨.cal, 0x014, 7, 0, .ro, false, 0, 0, 255, 1, 4⟩
/-- CAL_COUNT of CAL_COUNT. -/
def RF.CAL_COUNT : Field := ⟨.cal, 0x018, 31, 0, .ro, false, 0, 0, 4294967295, 1, 4⟩
/-- CAL_LAST_LO of CAL_LAST_LO. -/
def RF.CAL_LAST_LO : Field := ⟨.cal, 0x01c, 31, 0, .ro, false, 0, 0, 4294967295, 1, 4⟩
/-- CAL_LAST_HI of CAL_LAST_HI. -/
def RF.CAL_LAST_HI : Field := ⟨.cal, 0x020, 15, 0, .ro, false, 0, 0, 65535, 1, 4⟩
/-- CAL_RUN_CG of CAL_RUN. -/
def RF.CAL_RUN_CG : Field := ⟨.cal, 0x024, 15, 0, .wo, false, 0, 0, 65535, 1, 4⟩
/-- CAL_FULL of CAL_RETRAIN. -/
def RF.CAL_FULL : Field := ⟨.cal, 0x028, 31, 31, .wo, true, 0, 0, 1, 1, 4⟩
/-- CAL_RETRAIN_CH of CAL_RETRAIN. -/
def RF.CAL_RETRAIN_CH : Field := ⟨.cal, 0x028, 4, 0, .wo, true, 0, 0, 31, 1, 4⟩
/-- CAL_CONT_MAX of CAL_TRIG. -/
def RF.CAL_CONT_MAX : Field := ⟨.cal, 0x800, 20, 16, .rwb, false, 8, 0, 16, 1, 4⟩
/-- CAL_CAL_DELTA of CAL_TRIG. -/
def RF.CAL_CAL_DELTA : Field := ⟨.cal, 0x800, 4, 0, .rwb, false, 4, 1, 16, 1, 4⟩
/-- CAL_MAX_INTERVAL of CAL_IVL. -/
def RF.CAL_MAX_INTERVAL : Field := ⟨.cal, 0x804, 15, 0, .rwb, false, 65535, 1024, 65535, 1, 4⟩
/-- CAL_IDLE_WAIT of CAL_APPLY. -/
def RF.CAL_IDLE_WAIT : Field := ⟨.cal, 0x808, 19, 4, .rwb, false, 1024, 64, 65535, 1, 4⟩
/-- CAL_SLEW_MAX of CAL_APPLY. -/
def RF.CAL_SLEW_MAX : Field := ⟨.cal, 0x808, 3, 0, .rwb, false, 4, 1, 15, 1, 4⟩
/-- CAL_SET_WRITE of CAL_SET. -/
def RF.CAL_SET_WRITE : Field := ⟨.cal, 0x80c, 31, 31, .rwb, false, 1, 0, 1, 1, 4⟩
/-- CAL_SET_TOL of CAL_SET. -/
def RF.CAL_SET_TOL : Field := ⟨.cal, 0x80c, 3, 0, .rwb, false, 6, 1, 12, 1, 4⟩
-- page MIR

/-- MIR_TAKEOVER of MIR_STAT. -/
def RF.MIR_TAKEOVER : Field := ⟨.mir, 0x004, 31, 31, .rc, false, 0, 0, 1, 1, 4⟩
/-- MIR_HANDBACK_DONE of MIR_STAT. -/
def RF.MIR_HANDBACK_DONE : Field := ⟨.mir, 0x004, 30, 30, .rc, false, 0, 0, 1, 1, 4⟩
/-- MIR_HANDBACK_FAIL of MIR_STAT. -/
def RF.MIR_HANDBACK_FAIL : Field := ⟨.mir, 0x004, 29, 29, .rc, false, 0, 0, 1, 1, 4⟩
/-- MIR_MISS_SEEN of MIR_STAT. -/
def RF.MIR_MISS_SEEN : Field := ⟨.mir, 0x004, 28, 28, .rc, false, 0, 0, 1, 1, 4⟩
/-- MIR_ARMED of MIR_STAT. -/
def RF.MIR_ARMED : Field := ⟨.mir, 0x004, 23, 23, .ro, false, 0, 0, 1, 1, 4⟩
/-- MIR_DOUBLE_STOP of MIR_STAT. -/
def RF.MIR_DOUBLE_STOP : Field := ⟨.mir, 0x004, 22, 22, .ro, false, 0, 0, 1, 1, 4⟩
/-- MIR_JOINT_SLEEP of MIR_STAT. -/
def RF.MIR_JOINT_SLEEP : Field := ⟨.mir, 0x004, 21, 21, .ro, false, 0, 0, 1, 1, 4⟩
/-- MIR_PARTNER_HALTED of MIR_STAT. -/
def RF.MIR_PARTNER_HALTED : Field := ⟨.mir, 0x004, 20, 20, .ro, false, 0, 0, 1, 1, 4⟩
/-- MIR_PARTNER_EPOCH of MIR_EPOCH. -/
def RF.MIR_PARTNER_EPOCH : Field := ⟨.mir, 0x008, 31, 0, .ro, false, 0, 0, 4294967295, 1, 4⟩
/-- MIR_PENDING of MIR_PEND. -/
def RF.MIR_PENDING : Field := ⟨.mir, 0x00c, 15, 0, .ro, false, 0, 0, 65535, 1, 4⟩
/-- MIR_HANDBACK of MIR_CTL. -/
def RF.MIR_HANDBACK : Field := ⟨.mir, 0x010, 0, 0, .wo, true, 0, 0, 1, 1, 4⟩
/-- MIR_TAKE_EN of MIR_TAKE. -/
def RF.MIR_TAKE_EN : Field := ⟨.mir, 0x800, 31, 31, .rwb, true, 1, 0, 1, 1, 4⟩
/-- MIR_HANDBACK_WAIT of MIR_TAKE. -/
def RF.MIR_HANDBACK_WAIT : Field := ⟨.mir, 0x800, 11, 0, .rwb, false, 256, 16, 4095, 1, 4⟩
-- page RPR

/-- RPR_REPAIR_DONE of RPR_STAT. -/
def RF.RPR_REPAIR_DONE : Field := ⟨.rpr, 0x004, 31, 31, .rc, false, 0, 0, 1, 1, 4⟩
/-- RPR_REPAIR_FAIL of RPR_STAT. -/
def RF.RPR_REPAIR_FAIL : Field := ⟨.rpr, 0x004, 30, 30, .rc, false, 0, 0, 1, 1, 4⟩
/-- RPR_BIST_END of RPR_STAT. -/
def RF.RPR_BIST_END : Field := ⟨.rpr, 0x004, 29, 29, .rc, false, 0, 0, 1, 1, 4⟩
/-- RPR_LOOP_REFUSED of RPR_STAT. -/
def RF.RPR_LOOP_REFUSED : Field := ⟨.rpr, 0x004, 28, 28, .rc, false, 0, 0, 1, 1, 4⟩
/-- RPR_UNCONFIRMED of RPR_STAT. -/
def RF.RPR_UNCONFIRMED : Field := ⟨.rpr, 0x004, 27, 27, .rc, false, 0, 0, 1, 1, 4⟩
/-- RPR_REPAIR_BUSY of RPR_STAT. -/
def RF.RPR_REPAIR_BUSY : Field := ⟨.rpr, 0x004, 2, 2, .ro, false, 0, 0, 1, 1, 4⟩
/-- RPR_BIST_BUSY of RPR_STAT. -/
def RF.RPR_BIST_BUSY : Field := ⟨.rpr, 0x004, 1, 1, .ro, false, 0, 0, 1, 1, 4⟩
/-- RPR_LOOP_BUSY of RPR_STAT. -/
def RF.RPR_LOOP_BUSY : Field := ⟨.rpr, 0x004, 0, 0, .ro, false, 0, 0, 1, 1, 4⟩
/-- RPR_CMD_OP of RPR_CMD. -/
def RF.RPR_CMD_OP : Field := ⟨.rpr, 0x008, 31, 28, .wo, true, 0, 0, 15, 1, 4⟩
/-- RPR_CMD_CH of RPR_CMD. -/
def RF.RPR_CMD_CH : Field := ⟨.rpr, 0x008, 27, 23, .wo, true, 0, 0, 31, 1, 4⟩
/-- RPR_CMD_BANK of RPR_CMD. -/
def RF.RPR_CMD_BANK : Field := ⟨.rpr, 0x008, 22, 17, .wo, true, 0, 0, 63, 1, 4⟩
/-- RPR_DQ of RPR_ARG. -/
def RF.RPR_DQ : Field := ⟨.rpr, 0x00c, 29, 24, .rw, true, 0, 0, 63, 1, 4⟩
/-- RPR_ARG_COLUMN of RPR_ARG. -/
def RF.RPR_ARG_COLUMN : Field := ⟨.rpr, 0x00c, 19, 16, .rw, true, 0, 0, 15, 1, 4⟩
/-- RPR_ARG_ROW of RPR_ARG. -/
def RF.RPR_ARG_ROW : Field := ⟨.rpr, 0x00c, 14, 0, .rw, true, 0, 0, 32767, 1, 4⟩
/-- RPR_RESULT of RPR_RESULT. -/
def RF.RPR_RESULT : Field := ⟨.rpr, 0x010, 31, 30, .ro, false, 0, 0, 3, 1, 4⟩
/-- RPR_REASON of RPR_RESULT. -/
def RF.RPR_REASON : Field := ⟨.rpr, 0x010, 23, 20, .ro, false, 0, 0, 15, 1, 4⟩
/-- RPR_VIEW_CH of RPR_VIEW. -/
def RF.RPR_VIEW_CH : Field := ⟨.rpr, 0x014, 4, 0, .rw, false, 0, 0, 31, 1, 4⟩
/-- RPR_SOFT of RPR_COUNT. -/
def RF.RPR_SOFT : Field := ⟨.rpr, 0x018, 31, 24, .ro, false, 0, 0, 255, 1, 4⟩
/-- RPR_HARD of RPR_COUNT. -/
def RF.RPR_HARD : Field := ⟨.rpr, 0x018, 23, 16, .ro, false, 0, 0, 255, 1, 4⟩
/-- RPR_COL of RPR_COUNT. -/
def RF.RPR_COL : Field := ⟨.rpr, 0x018, 15, 8, .ro, false, 0, 0, 255, 1, 4⟩
/-- RPR_CMD_SPARE of RPR_COUNT. -/
def RF.RPR_CMD_SPARE : Field := ⟨.rpr, 0x018, 4, 4, .ro, false, 0, 0, 1, 1, 4⟩
/-- RPR_DQ_SPARES of RPR_COUNT. -/
def RF.RPR_DQ_SPARES : Field := ⟨.rpr, 0x018, 3, 0, .ro, false, 0, 0, 15, 1, 4⟩
/-- RPR_BCTL_OP of RPR_BCTL. -/
def RF.RPR_BCTL_OP : Field := ⟨.rpr, 0x020, 31, 28, .wo, true, 0, 0, 15, 1, 4⟩
/-- RPR_TEST of RPR_BCTL. -/
def RF.RPR_TEST : Field := ⟨.rpr, 0x020, 27, 24, .wo, true, 0, 0, 15, 1, 4⟩
/-- RPR_SCOPE of RPR_BCTL. -/
def RF.RPR_SCOPE : Field := ⟨.rpr, 0x020, 23, 22, .wo, true, 0, 0, 3, 1, 4⟩
/-- RPR_BCTL_CH of RPR_BCTL. -/
def RF.RPR_BCTL_CH : Field := ⟨.rpr, 0x020, 21, 17, .wo, true, 0, 0, 31, 1, 4⟩
/-- RPR_BCTL_BANK of RPR_BCTL. -/
def RF.RPR_BCTL_BANK : Field := ⟨.rpr, 0x020, 16, 11, .wo, true, 0, 0, 63, 1, 4⟩
/-- RPR_BACKGROUND of RPR_BCTL. -/
def RF.RPR_BACKGROUND : Field := ⟨.rpr, 0x020, 10, 8, .wo, true, 0, 0, 7, 1, 4⟩
/-- RPR_HAMMER_K of RPR_BPARAM. -/
def RF.RPR_HAMMER_K : Field := ⟨.rpr, 0x024, 5, 0, .rw, true, 4, 1, 63, 1, 4⟩
/-- RPR_STATE of RPR_BRES. -/
def RF.RPR_STATE : Field := ⟨.rpr, 0x028, 31, 30, .ro, false, 0, 0, 3, 1, 4⟩
/-- RPR_FAIL_BURSTS of RPR_BRES. -/
def RF.RPR_FAIL_BURSTS : Field := ⟨.rpr, 0x028, 23, 0, .ro, false, 0, 0, 16777215, 1, 4⟩
/-- RPR_BFIRST_BANK of RPR_BFIRST. -/
def RF.RPR_BFIRST_BANK : Field := ⟨.rpr, 0x02c, 31, 26, .ro, false, 0, 0, 63, 1, 4⟩
/-- RPR_BFIRST_ROW of RPR_BFIRST. -/
def RF.RPR_BFIRST_ROW : Field := ⟨.rpr, 0x02c, 25, 11, .ro, false, 0, 0, 32767, 1, 4⟩
/-- RPR_BFIRST_COLUMN of RPR_BFIRST. -/
def RF.RPR_BFIRST_COLUMN : Field := ⟨.rpr, 0x02c, 10, 7, .ro, false, 0, 0, 15, 1, 4⟩
/-- RPR_BMAP0_DQ_FAIL of RPR_BMAP0. -/
def RF.RPR_BMAP0_DQ_FAIL : Field := ⟨.rpr, 0x030, 31, 0, .ro, false, 0, 0, 4294967295, 1, 4⟩
/-- RPR_BMAP1_DQ_FAIL of RPR_BMAP1. -/
def RF.RPR_BMAP1_DQ_FAIL : Field := ⟨.rpr, 0x034, 3, 0, .ro, false, 0, 0, 15, 1, 4⟩
/-- RPR_MODE of RPR_LCTL. -/
def RF.RPR_MODE : Field := ⟨.rpr, 0x040, 31, 30, .rw, true, 0, 0, 3, 1, 4⟩
/-- RPR_COURSE of RPR_LCTL. -/
def RF.RPR_COURSE : Field := ⟨.rpr, 0x040, 27, 24, .rw, true, 0, 0, 15, 1, 4⟩
/-- RPR_LANES of RPR_LCTL. -/
def RF.RPR_LANES : Field := ⟨.rpr, 0x040, 16, 0, .rw, true, 0, 0, 131071, 1, 4⟩
/-- RPR_LOCKED of RPR_LSTAT. -/
def RF.RPR_LOCKED : Field := ⟨.rpr, 0x044, 16, 0, .ro, false, 0, 0, 131071, 1, 4⟩
/-- RPR_AUTO_STEER of RPR_TSV. -/
def RF.RPR_AUTO_STEER : Field := ⟨.rpr, 0x800, 16, 16, .rwb, false, 1, 0, 1, 1, 4⟩
/-- RPR_TSV_THRESH of RPR_TSV. -/
def RF.RPR_TSV_THRESH : Field := ⟨.rpr, 0x800, 15, 0, .rwb, false, 256, 16, 65535, 1, 4⟩
/-- RPR_REPAIR_WAIT of RPR_WAIT. -/
def RF.RPR_REPAIR_WAIT : Field := ⟨.rpr, 0x804, 7, 0, .rwb, false, 64, 8, 255, 1, 4⟩
-- page CRS

/-- CRS_TX_STATE of CRS_STAT. -/
def RF.CRS_TX_STATE : Field := ⟨.crs, 0x004, 31, 29, .ro, false, 5, 0, 7, 1, 4⟩
/-- CRS_RX_NAK_WAIT of CRS_STAT. -/
def RF.CRS_RX_NAK_WAIT : Field := ⟨.crs, 0x004, 28, 28, .ro, false, 0, 0, 1, 1, 4⟩
/-- CRS_SPARE_RX of CRS_STAT. -/
def RF.CRS_SPARE_RX : Field := ⟨.crs, 0x004, 27, 23, .ro, false, 16, 0, 31, 1, 4⟩
/-- CRS_SPARE_TX of CRS_STAT. -/
def RF.CRS_SPARE_TX : Field := ⟨.crs, 0x004, 22, 18, .ro, false, 16, 0, 31, 1, 4⟩
/-- CRS_EPOCH_RX of CRS_STAT. -/
def RF.CRS_EPOCH_RX : Field := ⟨.crs, 0x004, 17, 10, .ro, false, 0, 0, 255, 1, 4⟩
/-- CRS_EPOCH_TX of CRS_STAT. -/
def RF.CRS_EPOCH_TX : Field := ⟨.crs, 0x004, 9, 2, .ro, false, 0, 0, 255, 1, 4⟩
/-- CRS_FENCED_EVT of CRS_STAT. -/
def RF.CRS_FENCED_EVT : Field := ⟨.crs, 0x004, 1, 1, .rc, false, 0, 0, 1, 1, 4⟩
/-- CRS_SPARED_EVT of CRS_STAT. -/
def RF.CRS_SPARED_EVT : Field := ⟨.crs, 0x004, 0, 0, .rc, false, 0, 0, 1, 1, 4⟩
/-- CRS_ALIGNED of CRS_LANES. -/
def RF.CRS_ALIGNED : Field := ⟨.crs, 0x008, 16, 0, .ro, false, 0, 0, 131071, 1, 4⟩
/-- CRS_UNFENCE of CRS_CTL. -/
def RF.CRS_UNFENCE : Field := ⟨.crs, 0x010, 2, 2, .wo, true, 0, 0, 1, 1, 4⟩
/-- CRS_FENCE of CRS_CTL. -/
def RF.CRS_FENCE : Field := ⟨.crs, 0x010, 1, 1, .wo, true, 0, 0, 1, 1, 4⟩
/-- CRS_RETRAIN of CRS_CTL. -/
def RF.CRS_RETRAIN : Field := ⟨.crs, 0x010, 0, 0, .wo, true, 0, 0, 1, 1, 4⟩
-- page LNK

/-- LNK_CR_OVERRUN of LNK_STAT. -/
def RF.LNK_CR_OVERRUN : Field := ⟨.lnk, 0x004, 31, 31, .rc, false, 0, 0, 1, 1, 4⟩
/-- LNK_COURSE_FENCED of LNK_STAT. -/
def RF.LNK_COURSE_FENCED : Field := ⟨.lnk, 0x004, 27, 16, .ro, false, 0, 0, 4095, 1, 4⟩
/-- LNK_COURSE_UP of LNK_STAT. -/
def RF.LNK_COURSE_UP : Field := ⟨.lnk, 0x004, 11, 0, .ro, false, 0, 0, 4095, 1, 4⟩
/-- LNK_WD_HELD of LNK_CR0. -/
def RF.LNK_WD_HELD : Field := ⟨.lnk, 0x010, 29, 16, .ro, false, 0, 0, 16383, 1, 4⟩
/-- LNK_REQ_HELD of LNK_CR0. -/
def RF.LNK_REQ_HELD : Field := ⟨.lnk, 0x010, 11, 0, .ro, false, 0, 0, 4095, 1, 4⟩
/-- LNK_MGT_HELD of LNK_CR1. -/
def RF.LNK_MGT_HELD : Field := ⟨.lnk, 0x014, 6, 0, .ro, false, 0, 0, 127, 1, 4⟩
/-- LNK_REPLAY_LIMIT of LNK_REPLAY. -/
def RF.LNK_REPLAY_LIMIT : Field := ⟨.lnk, 0x800, 31, 28, .rwb, false, 8, 2, 15, 1, 4⟩
/-- LNK_NAK_RESEND of LNK_REPLAY. -/
def RF.LNK_NAK_RESEND : Field := ⟨.lnk, 0x800, 23, 14, .rwb, false, 64, 16, 1023, 1, 4⟩
/-- LNK_REPLAY_TIMEOUT of LNK_REPLAY. -/
def RF.LNK_REPLAY_TIMEOUT : Field := ⟨.lnk, 0x800, 9, 0, .rwb, false, 64, 16, 1023, 1, 4⟩
/-- LNK_CR_WAIT of LNK_CREDIT. -/
def RF.LNK_CR_WAIT : Field := ⟨.lnk, 0x804, 15, 8, .rwb, false, 16, 1, 255, 1, 4⟩
/-- LNK_CR_BATCH of LNK_CREDIT. -/
def RF.LNK_CR_BATCH : Field := ⟨.lnk, 0x804, 7, 0, .rwb, false, 32, 1, 255, 1, 4⟩
/-- LNK_AUTO_SPARE of LNK_LANE. -/
def RF.LNK_AUTO_SPARE : Field := ⟨.lnk, 0x808, 31, 31, .rwb, true, 1, 0, 1, 1, 4⟩
/-- LNK_RETRAIN_LIMIT of LNK_LANE. -/
def RF.LNK_RETRAIN_LIMIT : Field := ⟨.lnk, 0x808, 27, 20, .rwb, false, 64, 8, 255, 1, 4⟩
/-- LNK_FEC_LANE_THRESH of LNK_LANE. -/
def RF.LNK_FEC_LANE_THRESH : Field := ⟨.lnk, 0x808, 15, 0, .rwb, false, 4096, 16, 65535, 1, 4⟩
-- page TRX

/-- TRX_PROG_STALL of TRX_STAT. -/
def RF.TRX_PROG_STALL : Field := ⟨.trx, 0x004, 31, 31, .rc, false, 0, 0, 1, 1, 4⟩
/-- TRX_FORMAT_SEEN of TRX_STAT. -/
def RF.TRX_FORMAT_SEEN : Field := ⟨.trx, 0x004, 30, 30, .rc, false, 0, 0, 1, 1, 4⟩
/-- TRX_TAG_BUSY_SEEN of TRX_STAT. -/
def RF.TRX_TAG_BUSY_SEEN : Field := ⟨.trx, 0x004, 29, 29, .rc, false, 0, 0, 1, 1, 4⟩
/-- TRX_STALL_POINT of TRX_STAT. -/
def RF.TRX_STALL_POINT : Field := ⟨.trx, 0x004, 21, 16, .rc, false, 0, 0, 63, 1, 4⟩
/-- TRX_RD_OUT of TRX_TAGS. -/
def RF.TRX_RD_OUT : Field := ⟨.trx, 0x008, 28, 16, .ro, false, 0, 0, 8191, 1, 4⟩
/-- TRX_WR_OUT of TRX_TAGS. -/
def RF.TRX_WR_OUT : Field := ⟨.trx, 0x008, 11, 0, .ro, false, 0, 0, 4095, 1, 4⟩
/-- TRX_RD_QUAR of TRX_QUAR. -/
def RF.TRX_RD_QUAR : Field := ⟨.trx, 0x00c, 28, 16, .ro, false, 0, 0, 8191, 1, 4⟩
/-- TRX_WR_QUAR of TRX_QUAR. -/
def RF.TRX_WR_QUAR : Field := ⟨.trx, 0x00c, 11, 0, .ro, false, 0, 0, 4095, 1, 4⟩
/-- TRX_TAG_TIMEOUT of TRX_TIMERS. -/
def RF.TRX_TAG_TIMEOUT : Field := ⟨.trx, 0x800, 11, 0, .rwb, false, 256, 16, 4095, 1, 4⟩
/-- TRX_PROG_LIMIT of TRX_PROG. -/
def RF.TRX_PROG_LIMIT : Field := ⟨.trx, 0x804, 15, 0, .rwb, false, 1024, 64, 65535, 1, 4⟩
-- page REG

/-- REG_SCALE_FAULTN of REG_ADMIT. -/
def RF.REG_SCALE_FAULTN : Field := ⟨.reg, 0x004, 31, 31, .rwb, false, 0, 0, 1, 1, 4⟩
/-- REG_ADMIT_FRAC of REG_ADMIT. -/
def RF.REG_ADMIT_FRAC : Field := ⟨.reg, 0x004, 6, 0, .rwb, false, 85, 50, 95, 1, 4⟩
/-- REG_BAND of REG_FLOOR. -/
def RF.REG_BAND : Field := ⟨.reg, 0x008, 18, 16, .ro, false, 0, 0, 7, 1, 4⟩
/-- REG_FLOOR_NOW of REG_FLOOR. -/
def RF.REG_FLOOR_NOW : Field := ⟨.reg, 0x008, 11, 0, .ro, false, 2800, 0, 4095, 1, 4⟩
/-- REG_GUARANTEE_SCALED of REG_STAT. -/
def RF.REG_GUARANTEE_SCALED : Field := ⟨.reg, 0x00c, 31, 31, .rc, false, 0, 0, 1, 1, 4⟩
/-- REG_RT_OVER of REG_STAT. -/
def RF.REG_RT_OVER : Field := ⟨.reg, 0x00c, 30, 30, .rc, false, 0, 0, 1, 1, 4⟩
/-- REG_ADMIT_REJECT of REG_STAT. -/
def RF.REG_ADMIT_REJECT : Field := ⟨.reg, 0x00c, 29, 29, .rc, false, 0, 0, 1, 1, 4⟩
/-- REG_MIN_SUM of REG_SUMS. -/
def RF.REG_MIN_SUM : Field := ⟨.reg, 0x010, 31, 16, .ro, false, 0, 0, 65535, 1, 4⟩
/-- REG_EFF_SUM of REG_SUMS. -/
def RF.REG_EFF_SUM : Field := ⟨.reg, 0x010, 15, 0, .ro, false, 0, 0, 65535, 1, 4⟩
/-- REG_RESV_SUM of REG_SLOTS. -/
def RF.REG_RESV_SUM : Field := ⟨.reg, 0x014, 28, 16, .ro, false, 0, 0, 8191, 1, 4⟩
/-- REG_SHARED_FREE of REG_SLOTS. -/
def RF.REG_SHARED_FREE : Field := ⟨.reg, 0x014, 12, 0, .ro, false, 6144, 0, 8191, 1, 4⟩
/-- REG_WINDOW of REG_WIN. -/
def RF.REG_WINDOW : Field := ⟨.reg, 0x800, 5, 0, .rwb, false, 8, 1, 63, 1, 4⟩
/-- REG_LLAT of REG_LLAT. -/
def RF.REG_LLAT : Field := ⟨.reg, 0x804, 11, 0, .rwb, false, 320, 64, 4095, 1, 4⟩
/-- REG_T4 of REG_URG0. -/
def RF.REG_T4 : Field := ⟨.reg, 0x808, 19, 15, .rwb, false, 12, 1, 31, 1, 4⟩
/-- REG_T3 of REG_URG0. -/
def RF.REG_T3 : Field := ⟨.reg, 0x808, 14, 10, .rwb, false, 10, 1, 31, 1, 4⟩
/-- REG_T2 of REG_URG0. -/
def RF.REG_T2 : Field := ⟨.reg, 0x808, 9, 5, .rwb, false, 8, 1, 31, 1, 4⟩
/-- REG_T1 of REG_URG0. -/
def RF.REG_T1 : Field := ⟨.reg, 0x808, 4, 0, .rwb, false, 4, 1, 31, 1, 4⟩
/-- REG_T7 of REG_URG1. -/
def RF.REG_T7 : Field := ⟨.reg, 0x80c, 14, 10, .rwb, false, 20, 0, 31, 1, 4⟩
/-- REG_T6 of REG_URG1. -/
def RF.REG_T6 : Field := ⟨.reg, 0x80c, 9, 5, .rwb, false, 16, 0, 31, 1, 4⟩
/-- REG_T5 of REG_URG1. -/
def RF.REG_T5 : Field := ⟨.reg, 0x80c, 4, 0, .rwb, false, 14, 0, 31, 1, 4⟩
/-- REG_RT_SLOTS of REG_RT. -/
def RF.REG_RT_SLOTS : Field := ⟨.reg, 0x810, 10, 0, .rwb, false, 512, 0, 1024, 1, 4⟩
/-- REG_LEDGER_OVR of REG_LEDGER. -/
def RF.REG_LEDGER_OVR : Field := ⟨.reg, 0x814, 0, 0, .rwb, true, 0, 0, 1, 1, 4⟩
-- page RQM

/-- RQM_DENY. -/
def RF.RQM_DENY : Field := ⟨.rqm, 0x000, 31, 31, .rwb, false, 0, 0, 1, 1, 4⟩
/-- RQM_CTX. -/
def RF.RQM_CTX : Field := ⟨.rqm, 0x000, 9, 0, .rwb, false, 0, 0, 1023, 1, 4⟩
-- page CTX

/-- CTX_CLASS. -/
def RF.CTX_CLASS : Field := ⟨.ctx, 0x000, 31, 31, .rwb, false, 0, 0, 1, 1, 4⟩
/-- CTX_OUT_LIMIT. -/
def RF.CTX_OUT_LIMIT : Field := ⟨.ctx, 0x000, 27, 16, .rwb, false, 64, 1, 4095, 1, 4⟩
/-- CTX_MIN_BW. -/
def RF.CTX_MIN_BW : Field := ⟨.ctx, 0x000, 11, 0, .rwb, false, 0, 0, 4095, 1, 4⟩
/-- CTX_WEIGHT. -/
def RF.CTX_WEIGHT : Field := ⟨.ctx, 0x004, 31, 24, .rwb, false, 16, 0, 255, 1, 4⟩
/-- CTX_LAT_TARGET. -/
def RF.CTX_LAT_TARGET : Field := ⟨.ctx, 0x004, 15, 0, .rwb, false, 1000, 0, 65535, 1, 4⟩
/-- CTX_RESV. -/
def RF.CTX_RESV : Field := ⟨.ctx, 0x008, 28, 16, .ro, false, 0, 0, 8191, 1, 4⟩
/-- CTX_MIN_EFF. -/
def RF.CTX_MIN_EFF : Field := ⟨.ctx, 0x008, 11, 0, .ro, false, 0, 0, 4095, 1, 4⟩
/-- CTX_URGENCY. -/
def RF.CTX_URGENCY : Field := ⟨.ctx, 0x00c, 31, 29, .ro, false, 0, 0, 7, 1, 4⟩
/-- CTX_OUT. -/
def RF.CTX_OUT : Field := ⟨.ctx, 0x00c, 28, 16, .ro, false, 0, 0, 8191, 1, 4⟩
/-- CTX_HELD. -/
def RF.CTX_HELD : Field := ⟨.ctx, 0x00c, 11, 0, .ro, false, 0, 0, 4095, 1, 4⟩
/-- CTX_WIN_LINES. -/
def RF.CTX_WIN_LINES : Field := ⟨.ctx, 0x010, 19, 0, .ro, false, 0, 0, 1048575, 1, 4⟩
/-- CTX_SHORT. -/
def RF.CTX_SHORT : Field := ⟨.ctx, 0x014, 31, 31, .rc, false, 0, 0, 1, 1, 4⟩
/-- CTX_AT_LIMIT. -/
def RF.CTX_AT_LIMIT : Field := ⟨.ctx, 0x014, 30, 30, .rc, false, 0, 0, 1, 1, 4⟩
/-- CTX_URG_MAX. -/
def RF.CTX_URG_MAX : Field := ⟨.ctx, 0x014, 29, 29, .rc, false, 0, 0, 1, 1, 4⟩
/-- CTX_RT_MISMATCH. -/
def RF.CTX_RT_MISMATCH : Field := ⟨.ctx, 0x014, 28, 28, .rc, false, 0, 0, 1, 1, 4⟩
/-- CTX_LINES_SERVED. -/
def RF.CTX_LINES_SERVED : Field := ⟨.ctx, 0x020, 63, 0, .ro, false, 0, 0, 18446744073709551615, 1, 4⟩
/-- CTX_SHORT_WINDOWS. -/
def RF.CTX_SHORT_WINDOWS : Field := ⟨.ctx, 0x028, 31, 0, .ro, false, 0, 0, 4294967295, 1, 4⟩
/-- CTX_LAT_MISSES. -/
def RF.CTX_LAT_MISSES : Field := ⟨.ctx, 0x02c, 31, 0, .ro, false, 0, 0, 4294967295, 1, 4⟩
-- page MAP

/-- MAP_GRAIN of MAP_GRAIN. -/
def RF.MAP_GRAIN : Field := ⟨.map, 0x004, 2, 0, .rwb, false, 2, 0, 7, 1, 4⟩
/-- MAP_SERVE of MAP_SERVE. -/
def RF.MAP_SERVE : Field := ⟨.map, 0x008, 31, 0, .rwb, false, 4294967295, 0, 4294967295, 1, 4⟩
/-- MAP_SERVE_TRIMMED of MAP_STAT. -/
def RF.MAP_SERVE_TRIMMED : Field := ⟨.map, 0x00c, 31, 31, .rc, false, 0, 0, 1, 1, 4⟩
/-- MAP_SWITCHED of MAP_STAT. -/
def RF.MAP_SWITCHED : Field := ⟨.map, 0x00c, 30, 30, .rc, false, 0, 0, 1, 1, 4⟩
/-- MAP_N_SERVING of MAP_STAT. -/
def RF.MAP_N_SERVING : Field := ⟨.map, 0x00c, 5, 0, .ro, false, 32, 0, 63, 1, 4⟩
/-- MAP_LIMIT of MAP_LIMIT. -/
def RF.MAP_LIMIT : Field := ⟨.map, 0x010, 30, 0, .ro, false, 1073741824, 0, 2147483647, 1, 4⟩
/-- MAP_FENCED of MAP_FENCED. -/
def RF.MAP_FENCED : Field := ⟨.map, 0x014, 31, 0, .ro, false, 0, 0, 4294967295, 1, 4⟩
/-- MAP_HOLD_ON_WAIT of MAP_QUIESCE. -/
def RF.MAP_HOLD_ON_WAIT : Field := ⟨.map, 0x018, 31, 31, .rw, false, 0, 0, 1, 1, 4⟩
/-- MAP_COMMIT_WAIT of MAP_QUIESCE. -/
def RF.MAP_COMMIT_WAIT : Field := ⟨.map, 0x018, 9, 0, .rw, false, 64, 1, 1023, 1, 4⟩
/-- MAP_PGRAIN of MAP_PGRAIN. -/
def RF.MAP_PGRAIN : Field := ⟨.map, 0x040, 31, 0, .ro, false, 0, 0, 4294967295, 1, 4⟩
/-- MAP_PSERVE of MAP_PSERVE. -/
def RF.MAP_PSERVE : Field := ⟨.map, 0x044, 31, 0, .ro, false, 0, 0, 4294967295, 1, 4⟩
/-- MAP_PXORi of MAP_PXORi. -/
def RF.MAP_PXORi : Field := ⟨.map, 0x048, 31, 0, .ro, false, 0, 0, 4294967295, 6, 4⟩
/-- MAP_MASK of MAP_XORi. -/
def RF.MAP_MASK : Field := ⟨.map, 0x800, 29, 0, .rwb, false, 0, 0, 1073741823, 6, 4⟩
-- page CHN

/-- CHN_PREEMPTED of CHN_STAT. -/
def RF.CHN_PREEMPTED : Field := ⟨.chn, 0x004, 31, 31, .rc, false, 0, 0, 1, 1, 4⟩
/-- CHN_FIRM_SEEN of CHN_STAT. -/
def RF.CHN_FIRM_SEEN : Field := ⟨.chn, 0x004, 30, 30, .rc, false, 0, 0, 1, 1, 4⟩
/-- CHN_MASK_END of CHN_STAT. -/
def RF.CHN_MASK_END : Field := ⟨.chn, 0x004, 29, 29, .rc, false, 0, 0, 1, 1, 4⟩
/-- CHN_DRAIN_DEMAND of CHN_STAT. -/
def RF.CHN_DRAIN_DEMAND : Field := ⟨.chn, 0x004, 28, 28, .rc, false, 0, 0, 1, 1, 4⟩
/-- CHN_MUTE_FORCING of CHN_STAT. -/
def RF.CHN_MUTE_FORCING : Field := ⟨.chn, 0x004, 25, 25, .ro, false, 0, 0, 1, 1, 4⟩
/-- CHN_REF_FORCING of CHN_STAT. -/
def RF.CHN_REF_FORCING : Field := ⟨.chn, 0x004, 24, 24, .ro, false, 0, 0, 1, 1, 4⟩
/-- CHN_BATCH of CHN_STAT. -/
def RF.CHN_BATCH : Field := ⟨.chn, 0x004, 23, 23, .ro, false, 0, 0, 1, 1, 4⟩
/-- CHN_HOLDER of CHN_STAT. -/
def RF.CHN_HOLDER : Field := ⟨.chn, 0x004, 22, 20, .ro, false, 0, 0, 7, 1, 4⟩
/-- CHN_IDLE of CHN_STAT. -/
def RF.CHN_IDLE : Field := ⟨.chn, 0x004, 19, 19, .ro, false, 1, 0, 1, 1, 4⟩
/-- CHN_MASKED of CHN_STAT. -/
def RF.CHN_MASKED : Field := ⟨.chn, 0x004, 15, 8, .ro, false, 0, 0, 255, 1, 4⟩
/-- CHN_REQUESTING of CHN_STAT. -/
def RF.CHN_REQUESTING : Field := ⟨.chn, 0x004, 7, 0, .ro, false, 0, 0, 255, 1, 4⟩
/-- CHN_WB_HELD of CHN_OCC. -/
def RF.CHN_WB_HELD : Field := ⟨.chn, 0x008, 21, 16, .ro, false, 0, 0, 63, 1, 4⟩
/-- CHN_RQ_HELD of CHN_OCC. -/
def RF.CHN_RQ_HELD : Field := ⟨.chn, 0x008, 6, 0, .ro, false, 0, 0, 127, 1, 4⟩
/-- CHN_WSEQ_NEXT of CHN_WSEQ. -/
def RF.CHN_WSEQ_NEXT : Field := ⟨.chn, 0x00c, 31, 16, .ro, false, 0, 0, 65535, 1, 4⟩
/-- CHN_WSEQ_DRAINED of CHN_WSEQ. -/
def RF.CHN_WSEQ_DRAINED : Field := ⟨.chn, 0x00c, 15, 0, .ro, false, 65535, 0, 65535, 1, 4⟩
/-- CHN_EFF. -/
def RF.CHN_EFF : Field := ⟨.chn, 0x010, 31, 0, .ro, false, 309959780, 0, 4294967295, 1, 4⟩
/-- CHN_BASE. -/
def RF.CHN_BASE : Field := ⟨.chn, 0x800, 31, 0, .rwb, false, 309959780, 0, 4294967295, 1, 4⟩
/-- CHN_LIMIT_LO. -/
def RF.CHN_LIMIT_LO : Field := ⟨.chn, 0x804, 31, 0, .rwb, false, 118431551, 0, 4294967295, 1, 4⟩
/-- CHN_LIMIT_HI. -/
def RF.CHN_LIMIT_HI : Field := ⟨.chn, 0x808, 31, 0, .rwb, false, 252643075, 0, 4294967295, 1, 4⟩
/-- CHN_PREEMPT_ON_COMMIT of CHN_ARB. -/
def RF.CHN_PREEMPT_ON_COMMIT : Field := ⟨.chn, 0x80c, 31, 31, .rwb, false, 0, 0, 1, 1, 4⟩
/-- CHN_PREEMPT_MARGIN of CHN_ARB. -/
def RF.CHN_PREEMPT_MARGIN : Field := ⟨.chn, 0x80c, 3, 0, .rwb, false, 6, 1, 15, 1, 4⟩
/-- CHN_IDLE_DRAIN of CHN_WM. -/
def RF.CHN_IDLE_DRAIN : Field := ⟨.chn, 0x810, 31, 31, .rwb, false, 1, 0, 1, 1, 4⟩
/-- CHN_HIGH_WM of CHN_WM. -/
def RF.CHN_HIGH_WM : Field := ⟨.chn, 0x810, 21, 16, .rwb, false, 36, 8, 47, 1, 4⟩
/-- CHN_LOW_WM of CHN_WM. -/
def RF.CHN_LOW_WM : Field := ⟨.chn, 0x810, 5, 0, .rwb, false, 12, 0, 46, 1, 4⟩
/-- CHN_HIT_CAP of CHN_PAGE. -/
def RF.CHN_HIT_CAP : Field := ⟨.chn, 0x814, 25, 20, .rwb, false, 16, 1, 63, 1, 4⟩
/-- CHN_IDLE_CLOSE of CHN_PAGE. -/
def RF.CHN_IDLE_CLOSE : Field := ⟨.chn, 0x814, 9, 0, .rwb, false, 40, 0, 1023, 1, 4⟩
-- page TAB

/-- TAB_CAPTURE_MISS of TAB_STAT. -/
def RF.TAB_CAPTURE_MISS : Field := ⟨.tab, 0x004, 31, 31, .rc, false, 0, 0, 1, 1, 4⟩
/-- TAB_SID_HOLD of TAB_STAT. -/
def RF.TAB_SID_HOLD : Field := ⟨.tab, 0x004, 30, 30, .rc, false, 0, 0, 1, 1, 4⟩
/-- TAB_ROWS_USED of TAB_STAT. -/
def RF.TAB_ROWS_USED : Field := ⟨.tab, 0x004, 10, 0, .ro, false, 0, 0, 2047, 1, 4⟩
/-- TAB_CH of TAB_VIEW. -/
def RF.TAB_CH : Field := ⟨.tab, 0x008, 4, 0, .rw, false, 0, 0, 31, 1, 4⟩
/-- T_RCD_RD_PRESCALE. -/
def RF.T_RCD_RD_PRESCALE : Field := ⟨.tab, 0x800, 15, 15, .ro, false, 0, 0, 1, 1, 4⟩
/-- T_RCD_RD_COUNT. -/
def RF.T_RCD_RD_COUNT : Field := ⟨.tab, 0x800, 11, 0, .rwb, true, 96, 96, 4095, 1, 4⟩
/-- T_RCD_WR_PRESCALE. -/
def RF.T_RCD_WR_PRESCALE : Field := ⟨.tab, 0x804, 15, 15, .ro, false, 0, 0, 1, 1, 4⟩
/-- T_RCD_WR_COUNT. -/
def RF.T_RCD_WR_COUNT : Field := ⟨.tab, 0x804, 11, 0, .rwb, true, 64, 64, 4095, 1, 4⟩
/-- T_RAS_PRESCALE. -/
def RF.T_RAS_PRESCALE : Field := ⟨.tab, 0x808, 15, 15, .ro, false, 0, 0, 1, 1, 4⟩
/-- T_RAS_COUNT. -/
def RF.T_RAS_COUNT : Field := ⟨.tab, 0x808, 11, 0, .rwb, true, 384, 384, 4095, 1, 4⟩
/-- T_RP_PRESCALE. -/
def RF.T_RP_PRESCALE : Field := ⟨.tab, 0x80c, 15, 15, .ro, false, 0, 0, 1, 1, 4⟩
/-- T_RP_COUNT. -/
def RF.T_RP_COUNT : Field := ⟨.tab, 0x80c, 11, 0, .rwb, true, 48, 48, 4095, 1, 4⟩
/-- T_PCU_PRESCALE. -/
def RF.T_PCU_PRESCALE : Field := ⟨.tab, 0x810, 15, 15, .ro, false, 0, 0, 1, 1, 4⟩
/-- T_PCU_COUNT. -/
def RF.T_PCU_COUNT : Field := ⟨.tab, 0x810, 11, 0, .rwb, true, 39, 39, 4095, 1, 4⟩
/-- T_RTP_PRESCALE. -/
def RF.T_RTP_PRESCALE : Field := ⟨.tab, 0x814, 15, 15, .ro, false, 0, 0, 1, 1, 4⟩
/-- T_RTP_COUNT. -/
def RF.T_RTP_COUNT : Field := ⟨.tab, 0x814, 11, 0, .rwb, true, 32, 32, 4095, 1, 4⟩
/-- T_WR_PRESCALE. -/
def RF.T_WR_PRESCALE : Field := ⟨.tab, 0x818, 15, 15, .ro, false, 0, 0, 1, 1, 4⟩
/-- T_WR_COUNT. -/
def RF.T_WR_COUNT : Field := ⟨.tab, 0x818, 11, 0, .rwb, true, 64, 64, 4095, 1, 4⟩
/-- T_CCD_S_PRESCALE. -/
def RF.T_CCD_S_PRESCALE : Field := ⟨.tab, 0x81c, 15, 15, .ro, false, 0, 0, 1, 1, 4⟩
/-- T_CCD_S_COUNT. -/
def RF.T_CCD_S_COUNT : Field := ⟨.tab, 0x81c, 11, 0, .rwb, true, 16, 16, 4095, 1, 4⟩
/-- T_CCD_L_PRESCALE. -/
def RF.T_CCD_L_PRESCALE : Field := ⟨.tab, 0x820, 15, 15, .ro, false, 0, 0, 1, 1, 4⟩
/-- T_CCD_L_COUNT. -/
def RF.T_CCD_L_COUNT : Field := ⟨.tab, 0x820, 11, 0, .rwb, true, 32, 32, 4095, 1, 4⟩
/-- T_RRD_S_PRESCALE. -/
def RF.T_RRD_S_PRESCALE : Field := ⟨.tab, 0x824, 15, 15, .ro, false, 0, 0, 1, 1, 4⟩
/-- T_RRD_S_COUNT. -/
def RF.T_RRD_S_COUNT : Field := ⟨.tab, 0x824, 11, 0, .rwb, true, 32, 32, 4095, 1, 4⟩
/-- T_RRD_L_PRESCALE. -/
def RF.T_RRD_L_PRESCALE : Field := ⟨.tab, 0x828, 15, 15, .ro, false, 0, 0, 1, 1, 4⟩
/-- T_RRD_L_COUNT. -/
def RF.T_RRD_L_COUNT : Field := ⟨.tab, 0x828, 11, 0, .rwb, true, 48, 48, 4095, 1, 4⟩
/-- T_WTR_S_PRESCALE. -/
def RF.T_WTR_S_PRESCALE : Field := ⟨.tab, 0x82c, 15, 15, .ro, false, 0, 0, 1, 1, 4⟩
/-- T_WTR_S_COUNT. -/
def RF.T_WTR_S_COUNT : Field := ⟨.tab, 0x82c, 11, 0, .rwb, true, 32, 32, 4095, 1, 4⟩
/-- T_WTR_L_PRESCALE. -/
def RF.T_WTR_L_PRESCALE : Field := ⟨.tab, 0x830, 15, 15, .ro, false, 0, 0, 1, 1, 4⟩
/-- T_WTR_L_COUNT. -/
def RF.T_WTR_L_COUNT : Field := ⟨.tab, 0x830, 11, 0, .rwb, true, 64, 64, 4095, 1, 4⟩
/-- T_RTW_PRESCALE. -/
def RF.T_RTW_PRESCALE : Field := ⟨.tab, 0x834, 15, 15, .ro, false, 0, 0, 1, 1, 4⟩
/-- T_RTW_COUNT. -/
def RF.T_RTW_COUNT : Field := ⟨.tab, 0x834, 11, 0, .rwb, true, 96, 96, 4095, 1, 4⟩
/-- T_RTRS_PRESCALE. -/
def RF.T_RTRS_PRESCALE : Field := ⟨.tab, 0x838, 15, 15, .ro, false, 0, 0, 1, 1, 4⟩
/-- T_RTRS_COUNT. -/
def RF.T_RTRS_COUNT : Field := ⟨.tab, 0x838, 11, 0, .rwb, true, 8, 8, 4095, 1, 4⟩
/-- T_RFC_PRESCALE. -/
def RF.T_RFC_PRESCALE : Field := ⟨.tab, 0x83c, 15, 15, .ro, false, 0, 0, 1, 1, 4⟩
/-- T_RFC_COUNT. -/
def RF.T_RFC_COUNT : Field := ⟨.tab, 0x83c, 11, 0, .rwb, true, 2048, 2048, 4095, 1, 4⟩
/-- T_RREFD_PRESCALE. -/
def RF.T_RREFD_PRESCALE : Field := ⟨.tab, 0x840, 15, 15, .ro, false, 0, 0, 1, 1, 4⟩
/-- T_RREFD_COUNT. -/
def RF.T_RREFD_COUNT : Field := ⟨.tab, 0x840, 11, 0, .rwb, true, 64, 64, 4095, 1, 4⟩
/-- T_NREF1_PRESCALE. -/
def RF.T_NREF1_PRESCALE : Field := ⟨.tab, 0x844, 15, 15, .ro, false, 0, 0, 1, 1, 4⟩
/-- T_NREF1_COUNT. -/
def RF.T_NREF1_COUNT : Field := ⟨.tab, 0x844, 11, 0, .rwb, true, 512, 512, 4095, 1, 4⟩
/-- T_MRD_PRESCALE. -/
def RF.T_MRD_PRESCALE : Field := ⟨.tab, 0x848, 15, 15, .ro, false, 0, 0, 1, 1, 4⟩
/-- T_MRD_COUNT. -/
def RF.T_MRD_COUNT : Field := ⟨.tab, 0x848, 11, 0, .rwb, true, 64, 64, 4095, 1, 4⟩
/-- T_XP_PRESCALE. -/
def RF.T_XP_PRESCALE : Field := ⟨.tab, 0x84c, 15, 15, .ro, false, 0, 0, 1, 1, 4⟩
/-- T_XP_COUNT. -/
def RF.T_XP_COUNT : Field := ⟨.tab, 0x84c, 11, 0, .rwb, true, 128, 128, 4095, 1, 4⟩
/-- T_XS_PRESCALE. -/
def RF.T_XS_PRESCALE : Field := ⟨.tab, 0x850, 15, 15, .ro, false, 1, 0, 1, 1, 4⟩
/-- T_XS_COUNT. -/
def RF.T_XS_COUNT : Field := ⟨.tab, 0x850, 11, 0, .rwb, true, 200, 200, 1023, 1, 4⟩
/-- T_SPPR_PRESCALE. -/
def RF.T_SPPR_PRESCALE : Field := ⟨.tab, 0x854, 15, 15, .ro, false, 1, 0, 1, 1, 4⟩
/-- T_SPPR_COUNT. -/
def RF.T_SPPR_COUNT : Field := ⟨.tab, 0x854, 11, 0, .rwb, true, 800, 800, 1023, 1, 4⟩
/-- T_LAT_RL of T_LAT. -/
def RF.T_LAT_RL : Field := ⟨.tab, 0x880, 15, 8, .ro, false, 96, 0, 255, 1, 4⟩
/-- T_LAT_WL of T_LAT. -/
def RF.T_LAT_WL : Field := ⟨.tab, 0x880, 7, 0, .ro, false, 32, 0, 255, 1, 4⟩
/-- TAB_STAT_POLL of TAB_POLL. -/
def RF.TAB_STAT_POLL : Field := ⟨.tab, 0x890, 7, 0, .rwb, false, 8, 1, 255, 1, 4⟩
-- page REF

/-- REF_REF_FORCED of REF_STAT. -/
def RF.REF_REF_FORCED : Field := ⟨.ref, 0x004, 31, 31, .rc, false, 0, 0, 1, 1, 4⟩
/-- REF_BAND_RISE of REF_STAT. -/
def RF.REF_BAND_RISE : Field := ⟨.ref, 0x004, 30, 30, .rc, false, 0, 0, 1, 1, 4⟩
/-- REF_SWEEP_RUN of REF_STAT. -/
def RF.REF_SWEEP_RUN : Field := ⟨.ref, 0x004, 29, 29, .rc, false, 0, 0, 1, 1, 4⟩
/-- REF_SENT_STORE_ERR of REF_STAT. -/
def RF.REF_SENT_STORE_ERR : Field := ⟨.ref, 0x004, 28, 28, .rc, false, 0, 0, 1, 1, 4⟩
/-- REF_MAX_BAND of REF_STAT. -/
def RF.REF_MAX_BAND : Field := ⟨.ref, 0x004, 2, 0, .ro, false, 0, 0, 7, 1, 4⟩
/-- REF_SUSPECT of REF_SUSPECT. -/
def RF.REF_SUSPECT : Field := ⟨.ref, 0x008, 31, 0, .rc, false, 0, 0, 4294967295, 1, 4⟩
/-- REF_VIEW_CH of REF_VIEW. -/
def RF.REF_VIEW_CH : Field := ⟨.ref, 0x00c, 4, 0, .rw, false, 0, 0, 31, 1, 4⟩
/-- REF_BAND of REF_CHSTAT. -/
def RF.REF_BAND : Field := ⟨.ref, 0x010, 31, 29, .ro, false, 0, 0, 7, 1, 4⟩
/-- REF_SWEEP of REF_CHSTAT. -/
def RF.REF_SWEEP : Field := ⟨.ref, 0x010, 28, 28, .ro, false, 0, 0, 1, 1, 4⟩
/-- REF_MAX_OWED of REF_CHSTAT. -/
def RF.REF_MAX_OWED : Field := ⟨.ref, 0x010, 23, 19, .ro, false, 0, 0, 31, 1, 4⟩
/-- REF_MIN_OWED of REF_CHSTAT. -/
def RF.REF_MIN_OWED : Field := ⟨.ref, 0x010, 18, 14, .ro, false, 0, 0, 31, 1, 4⟩
/-- REF_TEMP of REF_CHSTAT. -/
def RF.REF_TEMP : Field := ⟨.ref, 0x010, 7, 0, .ro, false, 0, 0, 255, 1, 4⟩
/-- REF_SUS of REF_SUSMAP0. -/
def RF.REF_SUS : Field := ⟨.ref, 0x014, 31, 0, .ro, false, 0, 0, 4294967295, 2, 4⟩
/-- REF_SUSCLR_CH of REF_SUSCLR. -/
def RF.REF_SUSCLR_CH : Field := ⟨.ref, 0x01c, 4, 0, .wo, true, 0, 0, 31, 1, 4⟩
/-- REF_POST_URGE of REF_POLICY. -/
def RF.REF_POST_URGE : Field := ⟨.ref, 0x800, 27, 24, .rwb, false, 6, 1, 7, 1, 4⟩
/-- REF_PULL_LIMIT of REF_POLICY. -/
def RF.REF_PULL_LIMIT : Field := ⟨.ref, 0x800, 19, 16, .rwb, false, 8, 0, 8, 1, 4⟩
/-- REF_HYST of REF_POLICY. -/
def RF.REF_HYST : Field := ⟨.ref, 0x800, 3, 0, .rwb, false, 2, 2, 8, 1, 4⟩
/-- REF_SENT_EN of REF_SENT. -/
def RF.REF_SENT_EN : Field := ⟨.ref, 0x804, 31, 31, .rwb, false, 1, 0, 1, 1, 4⟩
/-- REF_SENT_FENCE of REF_SENT. -/
def RF.REF_SENT_FENCE : Field := ⟨.ref, 0x804, 29, 28, .rwb, true, 0, 0, 3, 1, 4⟩
/-- REF_SENT_ROW of REF_SENT. -/
def RF.REF_SENT_ROW : Field := ⟨.ref, 0x804, 18, 4, .rwb, false, 32767, 0, 32767, 1, 4⟩
/-- REF_SENT_COL of REF_SENT. -/
def RF.REF_SENT_COL : Field := ⟨.ref, 0x804, 3, 0, .rwb, false, 15, 0, 15, 1, 4⟩
/-- REF_COUNT of REF_SLOTb. -/
def RF.REF_COUNT : Field := ⟨.ref, 0x810, 11, 0, .ro, false, 0, 0, 4095, 5, 4⟩
-- page MUT

/-- MUT_MUTE_FORCED of MUT_STAT. -/
def RF.MUT_MUTE_FORCED : Field := ⟨.mut, 0x004, 31, 31, .rc, false, 0, 0, 1, 1, 4⟩
/-- MUT_HOT_ENTER of MUT_STAT. -/
def RF.MUT_HOT_ENTER : Field := ⟨.mut, 0x004, 30, 30, .rc, false, 0, 0, 1, 1, 4⟩
/-- MUT_BACKLOG_FULL of MUT_STAT. -/
def RF.MUT_BACKLOG_FULL : Field := ⟨.mut, 0x004, 29, 29, .rc, false, 0, 0, 1, 1, 4⟩
/-- MUT_HOT of MUT_HOT. -/
def RF.MUT_HOT : Field := ⟨.mut, 0x008, 31, 0, .ro, false, 0, 0, 4294967295, 1, 4⟩
/-- MUT_CH of MUT_VIEW. -/
def RF.MUT_CH : Field := ⟨.mut, 0x00c, 4, 0, .rw, false, 0, 0, 31, 1, 4⟩
/-- MUT_BACKLOG of MUT_CHSTAT. -/
def RF.MUT_BACKLOG : Field := ⟨.mut, 0x010, 7, 0, .ro, false, 0, 0, 255, 1, 4⟩
/-- MUT_HOTB of MUT_HOTMAP0. -/
def RF.MUT_HOTB : Field := ⟨.mut, 0x014, 31, 0, .ro, false, 0, 0, 4294967295, 2, 4⟩
/-- MUT_RADIUS of MUT_CFG. -/
def RF.MUT_RADIUS : Field := ⟨.mut, 0x800, 10, 8, .rwb, true, 2, 1, 4, 1, 4⟩
/-- MUT_THRESH_CODE of MUT_CFG. -/
def RF.MUT_THRESH_CODE : Field := ⟨.mut, 0x800, 2, 0, .rwb, true, 2, 0, 5, 1, 4⟩
/-- MUT_HARD of MUT_LIMITS. -/
def RF.MUT_HARD : Field := ⟨.mut, 0x804, 31, 16, .ro, false, 1536, 0, 65535, 1, 4⟩
/-- MUT_THRESHOLD of MUT_LIMITS. -/
def RF.MUT_THRESHOLD : Field := ⟨.mut, 0x804, 15, 0, .ro, false, 1024, 0, 65535, 1, 4⟩

/-- The fields of page SYS, part 0. -/
def fieldsOf_sys_0 : List Field :=
  [RF.SYS_PART_ID, RF.SYS_STEPPING, RF.SYS_INST_ID, RF.SYS_GROUPS, RF.SYS_TICKET, RF.SYS_COMMIT_EPOCH_EPOCH,
   RF.SYS_RES_EPOCH, RF.SYS_REJECT_MASK, RF.SYS_REASON, RF.SYS_RESULT, RF.SYS_TIME_LO, RF.SYS_TIME_HI,
   RF.SYS_WAKE_FAIL, RF.SYS_UNMAPPED, RF.SYS_DENIED, RF.SYS_FIRST_PATH]

/-- The fields of page SYS, part 1. -/
def fieldsOf_sys_1 : List Field :=
  [RF.SYS_FIRST_OFFSET, RF.SYS_SNAP_BUSY, RF.SYS_SNAP, RF.SYS_SNAP_SEQ, RF.SYS_STAGE, RF.SYS_FAIL_CODE,
   RF.SYS_PAIR_ROLE, RF.SYS_ACTIVE_SLOT, RF.SYS_LINK_CLEAR, RF.SYS_LINK_WAITING, RF.SYS_SLOT_FALLBACK, RF.SYS_BR_REPAIRED,
   RF.SYS_SETTINGS_DEFAULT, RF.SYS_CONFIG_ADJUSTED, RF.SYS_CALSET_BAD, RF.SYS_REPAIR_LOST]

/-- The fields of page SYS, part 2. -/
def fieldsOf_sys_2 : List Field :=
  [RF.SYS_CH_FENCED, RF.SYS_LINK_DEGRADED, RF.SYS_CH_READY, RF.SYS_READY_TICK, RF.SYS_SUM_BUSY, RF.SYS_CAPTURE,
   RF.SYS_SAVE_FAILED, RF.SYS_SAVE, RF.SYS_SAVED_EPOCH]

/-- The fields of page PWR, part 0. -/
def fieldsOf_pwr_0 : List Field :=
  [RF.PWR_WAKE_FAILED, RF.PWR_DOMAIN_FENCED, RF.PWR_COLD_START, RF.PWR_CONFIG_REVERTED, RF.PWR_DRONE_SWITCH, RF.PWR_CHECKER_FAIL,
   RF.PWR_REFUSED, RF.PWR_HOLD_LOST, RF.PWR_STATE_LO, RF.PWR_STATE_HI, RF.PWR_CG, RF.PWR_TARGET,
   RF.PWR_REQ_DOMAIN, RF.PWR_LAST_DOMAIN, RF.PWR_REASON, RF.PWR_REFUSALS]

/-- The fields of page PWR, part 1. -/
def fieldsOf_pwr_1 : List Field :=
  [RF.PWR_FAILED, RF.PWR_UNFENCE_DOMAIN, RF.PWR_IDLE_SR, RF.PWR_IDLE_PD, RF.PWR_DEEP_STATE, RF.PWR_AUTO_SUPPORT,
   RF.PWR_IDLE_DEEP, RF.PWR_RETRIES, RF.PWR_DELAY_LIMIT, RF.PWR_WAKE_TIMER, RF.PWR_LINK_WAKE, RF.PWR_SMP_WAKE]

/-- The fields of page FLT, part 0. -/
def fieldsOf_flt_0 : List Field :=
  [RF.FLT_FATAL, RF.FLT_RELEASE_STALE, RF.FLT_SEV_SEEN, RF.FLT_CH_FENCED, RF.FLT_MISMATCH, RF.FLT_FENCED,
   RF.FLT_PAGES, RF.FLT_PIN, RF.FLT_PULSING, RF.FLT_SEQ, RF.FLT_DRIVE, RF.FLT_ASSERTS,
   RF.FLT_OP, RF.FLT_UNIT, RF.FLT_INDEX, RF.FLT_SEV]

/-- The fields of page FLT, part 1. -/
def fieldsOf_flt_1 : List Field :=
  [RF.FLT_SOURCE, RF.FLT_CODE, RF.FLT_LATCH, RF.FLT_PULSE_TICKS, RF.FLT_ASSERT_MASK]

/-- The fields of page EVT, part 0. -/
def fieldsOf_evt_0 : List Field :=
  [RF.EVT_HEAD, RF.EVT_TAIL, RF.EVT_PERSIST_LOST, RF.EVT_LOG_BAD, RF.EVT_LOG_READY, RF.EVT_SEQ,
   RF.EVT_VIEW_MISS, RF.EVT_RECw_WORD, RF.EVT_PSEQ, RF.EVT_LOG_SEQ, RF.EVT_SLOT, RF.EVT_LOGw_WORD,
   RF.EVT_PERSIST_MIN, RF.EVT_PERSIST_DELAY]

/-- The fields of page UPD, part 0. -/
def fieldsOf_upd_0 : List Field :=
  [RF.UPD_CONFIRMED_EVT, RF.UPD_FALLBACK, RF.UPD_CONFIRM_LATE, RF.UPD_CONFIRM_REFUSED, RF.UPD_PREV_KEYS_EDITED, RF.UPD_SVC_STATE,
   RF.UPD_SVC_RESULT, RF.UPD_UNCONFIRMED, RF.UPD_PROBATION, RF.UPD_SELFTEST_PASS, RF.UPD_PREVIOUS_SLOT, RF.UPD_RUNNING,
   RF.UPD_BR_SEQ, RF.UPD_SEC_VERSION, RF.UPD_OTP, RF.UPD_PROB_LEFT]

/-- The fields of page UPD, part 1. -/
def fieldsOf_upd_1 : List Field :=
  [RF.UPD_DIGEST_LO, RF.UPD_EXPECTED, RF.UPD_RECEIVED, RF.UPD_DIGEST, RF.UPD_AUTO_CONFIRM, RF.UPD_PROB_WINDOW]

/-- The fields of page SEC, part 0. -/
def fieldsOf_sec_0 : List Field :=
  [RF.SEC_ENTROPY_FAIL, RF.SEC_KEY_RESTORE_FAIL, RF.SEC_SLOT_FENCED, RF.SEC_POISON_SEEN, RF.SEC_UNCORR_SEEN, RF.SEC_LOCKED,
   RF.SEC_DRBG_OK, RF.SEC_SMP_SESSION, RF.SEC_LINK_SESSION, RF.SEC_CLEAR_OK, RF.SEC_PERSIST_EN, RF.SEC_KEY0_CLASS,
   RF.SEC_ROOT_VALID, RF.SEC_LOCK, RF.SEC_ACTIVE, RF.SEC_FENCED]

/-- The fields of page SEC, part 1. -/
def fieldsOf_sec_1 : List Field :=
  [RF.SEC_KEYP_PERSISTED, RF.SEC_PARTNER, RF.SEC_KEYID, RF.SEC_STATE, RF.SEC_CLASS, RF.SEC_META,
   RF.SEC_KEYSTAT_PERSISTED, RF.SEC_GENERATION, RF.SEC_DIGEST, RF.SEC_EXPERT_META_OK, RF.SEC_RESEED_LOG]

/-- The fields of page CAP, part 0. -/
def fieldsOf_cap_0 : List Field :=
  [RF.CAP_BUDGET, RF.CAP_THROTTLED, RF.CAP_TELEM_CUT, RF.CAP_OCW_SEEN, RF.CAP_DRAW_WAIT, RF.CAP_F_TELEM,
   RF.CAP_STEP, RF.CAP_FLOOR_CAP, RF.CAP_B_EFF, RF.CAP_INPUT, RF.CAP_BASE_MAX, RF.CAP_HOT_CH,
   RF.CAP_CH_MAX, RF.CAP_C_NREF, RF.CAP_C_WR, RF.CAP_C_RD]

/-- The fields of page CAP, part 1. -/
def fieldsOf_cap_1 : List Field :=
  [RF.CAP_C_ACT, RF.CAP_C_AUX, RF.CAP_C_REF, RF.CAP_MUTE_CAP, RF.CAP_MUTE_RESV, RF.CAP_LUMP,
   RF.CAP_DIE_CAP, RF.CAP_T4, RF.CAP_T3, RF.CAP_T2, RF.CAP_T1, RF.CAP_HYST,
   RF.CAP_F4, RF.CAP_F3, RF.CAP_F2, RF.CAP_F1]

/-- The fields of page CAP, part 2. -/
def fieldsOf_cap_2 : List Field :=
  [RF.CAP_TELEM_EN, RF.CAP_OCW_FRAC, RF.CAP_ILD_LIMIT, RF.CAP_LEDGER_OVR]

/-- The fields of page CAL, part 0. -/
def fieldsOf_cal_0 : List Field :=
  [RF.CAL_REF_COURSE, RF.CAL_REF_STATE, RF.CAL_HOLDOVER_LEFT, RF.CAL_NOREF_ANY, RF.CAL_DRONE_CHECKER, RF.CAL_REF_SWITCHED,
   RF.CAL_REF_LOST, RF.CAL_RUN_LATE, RF.CAL_SLEW_FORCED, RF.CAL_RETRAIN_FAIL, RF.CAL_SPARE_TAKEN, RF.CAL_WINDOW_DISCARD,
   RF.CAL_RUNNING, RF.CAL_GSTATE_STATE, RF.CAL_VIEW_CH, RF.CAL_LAST_TEMP]

/-- The fields of page CAL, part 1. -/
def fieldsOf_cal_1 : List Field :=
  [RF.CAL_PENDING_IDLE, RF.CAL_SLEWING, RF.CAL_RETRAINING, RF.CAL_EST_POINTS, RF.CAL_VALID_POINTS, RF.CAL_COUNT,
   RF.CAL_LAST_LO, RF.CAL_LAST_HI, RF.CAL_RUN_CG, RF.CAL_FULL, RF.CAL_RETRAIN_CH, RF.CAL_CONT_MAX,
   RF.CAL_CAL_DELTA, RF.CAL_MAX_INTERVAL, RF.CAL_IDLE_WAIT, RF.CAL_SLEW_MAX]

/-- The fields of page CAL, part 2. -/
def fieldsOf_cal_2 : List Field :=
  [RF.CAL_SET_WRITE, RF.CAL_SET_TOL]

/-- The fields of page MIR, part 0. -/
def fieldsOf_mir_0 : List Field :=
  [RF.MIR_TAKEOVER, RF.MIR_HANDBACK_DONE, RF.MIR_HANDBACK_FAIL, RF.MIR_MISS_SEEN, RF.MIR_ARMED, RF.MIR_DOUBLE_STOP,
   RF.MIR_JOINT_SLEEP, RF.MIR_PARTNER_HALTED, RF.MIR_PARTNER_EPOCH, RF.MIR_PENDING, RF.MIR_HANDBACK, RF.MIR_TAKE_EN,
   RF.MIR_HANDBACK_WAIT]

/-- The fields of page RPR, part 0. -/
def fieldsOf_rpr_0 : List Field :=
  [RF.RPR_REPAIR_DONE, RF.RPR_REPAIR_FAIL, RF.RPR_BIST_END, RF.RPR_LOOP_REFUSED, RF.RPR_UNCONFIRMED, RF.RPR_REPAIR_BUSY,
   RF.RPR_BIST_BUSY, RF.RPR_LOOP_BUSY, RF.RPR_CMD_OP, RF.RPR_CMD_CH, RF.RPR_CMD_BANK, RF.RPR_DQ,
   RF.RPR_ARG_COLUMN, RF.RPR_ARG_ROW, RF.RPR_RESULT, RF.RPR_REASON]

/-- The fields of page RPR, part 1. -/
def fieldsOf_rpr_1 : List Field :=
  [RF.RPR_VIEW_CH, RF.RPR_SOFT, RF.RPR_HARD, RF.RPR_COL, RF.RPR_CMD_SPARE, RF.RPR_DQ_SPARES,
   RF.RPR_BCTL_OP, RF.RPR_TEST, RF.RPR_SCOPE, RF.RPR_BCTL_CH, RF.RPR_BCTL_BANK, RF.RPR_BACKGROUND,
   RF.RPR_HAMMER_K, RF.RPR_STATE, RF.RPR_FAIL_BURSTS, RF.RPR_BFIRST_BANK]

/-- The fields of page RPR, part 2. -/
def fieldsOf_rpr_2 : List Field :=
  [RF.RPR_BFIRST_ROW, RF.RPR_BFIRST_COLUMN, RF.RPR_BMAP0_DQ_FAIL, RF.RPR_BMAP1_DQ_FAIL, RF.RPR_MODE, RF.RPR_COURSE,
   RF.RPR_LANES, RF.RPR_LOCKED, RF.RPR_AUTO_STEER, RF.RPR_TSV_THRESH, RF.RPR_REPAIR_WAIT]

/-- The fields of page CRS, part 0. -/
def fieldsOf_crs_0 : List Field :=
  [RF.CRS_TX_STATE, RF.CRS_RX_NAK_WAIT, RF.CRS_SPARE_RX, RF.CRS_SPARE_TX, RF.CRS_EPOCH_RX, RF.CRS_EPOCH_TX,
   RF.CRS_FENCED_EVT, RF.CRS_SPARED_EVT, RF.CRS_ALIGNED, RF.CRS_UNFENCE, RF.CRS_FENCE, RF.CRS_RETRAIN]

/-- The fields of page LNK, part 0. -/
def fieldsOf_lnk_0 : List Field :=
  [RF.LNK_CR_OVERRUN, RF.LNK_COURSE_FENCED, RF.LNK_COURSE_UP, RF.LNK_WD_HELD, RF.LNK_REQ_HELD, RF.LNK_MGT_HELD,
   RF.LNK_REPLAY_LIMIT, RF.LNK_NAK_RESEND, RF.LNK_REPLAY_TIMEOUT, RF.LNK_CR_WAIT, RF.LNK_CR_BATCH, RF.LNK_AUTO_SPARE,
   RF.LNK_RETRAIN_LIMIT, RF.LNK_FEC_LANE_THRESH]

/-- The fields of page TRX, part 0. -/
def fieldsOf_trx_0 : List Field :=
  [RF.TRX_PROG_STALL, RF.TRX_FORMAT_SEEN, RF.TRX_TAG_BUSY_SEEN, RF.TRX_STALL_POINT, RF.TRX_RD_OUT, RF.TRX_WR_OUT,
   RF.TRX_RD_QUAR, RF.TRX_WR_QUAR, RF.TRX_TAG_TIMEOUT, RF.TRX_PROG_LIMIT]

/-- The fields of page REG, part 0. -/
def fieldsOf_reg_0 : List Field :=
  [RF.REG_SCALE_FAULTN, RF.REG_ADMIT_FRAC, RF.REG_BAND, RF.REG_FLOOR_NOW, RF.REG_GUARANTEE_SCALED, RF.REG_RT_OVER,
   RF.REG_ADMIT_REJECT, RF.REG_MIN_SUM, RF.REG_EFF_SUM, RF.REG_RESV_SUM, RF.REG_SHARED_FREE, RF.REG_WINDOW,
   RF.REG_LLAT, RF.REG_T4, RF.REG_T3, RF.REG_T2]

/-- The fields of page REG, part 1. -/
def fieldsOf_reg_1 : List Field :=
  [RF.REG_T1, RF.REG_T7, RF.REG_T6, RF.REG_T5, RF.REG_RT_SLOTS, RF.REG_LEDGER_OVR]

/-- The fields of page RQM, part 0. -/
def fieldsOf_rqm_0 : List Field :=
  [RF.RQM_DENY, RF.RQM_CTX]

/-- The fields of page CTX, part 0. -/
def fieldsOf_ctx_0 : List Field :=
  [RF.CTX_CLASS, RF.CTX_OUT_LIMIT, RF.CTX_MIN_BW, RF.CTX_WEIGHT, RF.CTX_LAT_TARGET, RF.CTX_RESV,
   RF.CTX_MIN_EFF, RF.CTX_URGENCY, RF.CTX_OUT, RF.CTX_HELD, RF.CTX_WIN_LINES, RF.CTX_SHORT,
   RF.CTX_AT_LIMIT, RF.CTX_URG_MAX, RF.CTX_RT_MISMATCH, RF.CTX_LINES_SERVED]

/-- The fields of page CTX, part 1. -/
def fieldsOf_ctx_1 : List Field :=
  [RF.CTX_SHORT_WINDOWS, RF.CTX_LAT_MISSES]

/-- The fields of page MAP, part 0. -/
def fieldsOf_map_0 : List Field :=
  [RF.MAP_GRAIN, RF.MAP_SERVE, RF.MAP_SERVE_TRIMMED, RF.MAP_SWITCHED, RF.MAP_N_SERVING, RF.MAP_LIMIT,
   RF.MAP_FENCED, RF.MAP_HOLD_ON_WAIT, RF.MAP_COMMIT_WAIT, RF.MAP_PGRAIN, RF.MAP_PSERVE, RF.MAP_PXORi,
   RF.MAP_MASK]

/-- The fields of page CHN, part 0. -/
def fieldsOf_chn_0 : List Field :=
  [RF.CHN_PREEMPTED, RF.CHN_FIRM_SEEN, RF.CHN_MASK_END, RF.CHN_DRAIN_DEMAND, RF.CHN_MUTE_FORCING, RF.CHN_REF_FORCING,
   RF.CHN_BATCH, RF.CHN_HOLDER, RF.CHN_IDLE, RF.CHN_MASKED, RF.CHN_REQUESTING, RF.CHN_WB_HELD,
   RF.CHN_RQ_HELD, RF.CHN_WSEQ_NEXT, RF.CHN_WSEQ_DRAINED, RF.CHN_EFF]

/-- The fields of page CHN, part 1. -/
def fieldsOf_chn_1 : List Field :=
  [RF.CHN_BASE, RF.CHN_LIMIT_LO, RF.CHN_LIMIT_HI, RF.CHN_PREEMPT_ON_COMMIT, RF.CHN_PREEMPT_MARGIN, RF.CHN_IDLE_DRAIN,
   RF.CHN_HIGH_WM, RF.CHN_LOW_WM, RF.CHN_HIT_CAP, RF.CHN_IDLE_CLOSE]

/-- The fields of page TAB, part 0. -/
def fieldsOf_tab_0 : List Field :=
  [RF.TAB_CAPTURE_MISS, RF.TAB_SID_HOLD, RF.TAB_ROWS_USED, RF.TAB_CH, RF.T_RCD_RD_PRESCALE, RF.T_RCD_RD_COUNT,
   RF.T_RCD_WR_PRESCALE, RF.T_RCD_WR_COUNT, RF.T_RAS_PRESCALE, RF.T_RAS_COUNT, RF.T_RP_PRESCALE, RF.T_RP_COUNT,
   RF.T_PCU_PRESCALE, RF.T_PCU_COUNT, RF.T_RTP_PRESCALE, RF.T_RTP_COUNT]

/-- The fields of page TAB, part 1. -/
def fieldsOf_tab_1 : List Field :=
  [RF.T_WR_PRESCALE, RF.T_WR_COUNT, RF.T_CCD_S_PRESCALE, RF.T_CCD_S_COUNT, RF.T_CCD_L_PRESCALE, RF.T_CCD_L_COUNT,
   RF.T_RRD_S_PRESCALE, RF.T_RRD_S_COUNT, RF.T_RRD_L_PRESCALE, RF.T_RRD_L_COUNT, RF.T_WTR_S_PRESCALE, RF.T_WTR_S_COUNT,
   RF.T_WTR_L_PRESCALE, RF.T_WTR_L_COUNT, RF.T_RTW_PRESCALE, RF.T_RTW_COUNT]

/-- The fields of page TAB, part 2. -/
def fieldsOf_tab_2 : List Field :=
  [RF.T_RTRS_PRESCALE, RF.T_RTRS_COUNT, RF.T_RFC_PRESCALE, RF.T_RFC_COUNT, RF.T_RREFD_PRESCALE, RF.T_RREFD_COUNT,
   RF.T_NREF1_PRESCALE, RF.T_NREF1_COUNT, RF.T_MRD_PRESCALE, RF.T_MRD_COUNT, RF.T_XP_PRESCALE, RF.T_XP_COUNT,
   RF.T_XS_PRESCALE, RF.T_XS_COUNT, RF.T_SPPR_PRESCALE, RF.T_SPPR_COUNT]

/-- The fields of page TAB, part 3. -/
def fieldsOf_tab_3 : List Field :=
  [RF.T_LAT_RL, RF.T_LAT_WL, RF.TAB_STAT_POLL]

/-- The fields of page REF, part 0. -/
def fieldsOf_ref_0 : List Field :=
  [RF.REF_REF_FORCED, RF.REF_BAND_RISE, RF.REF_SWEEP_RUN, RF.REF_SENT_STORE_ERR, RF.REF_MAX_BAND, RF.REF_SUSPECT,
   RF.REF_VIEW_CH, RF.REF_BAND, RF.REF_SWEEP, RF.REF_MAX_OWED, RF.REF_MIN_OWED, RF.REF_TEMP,
   RF.REF_SUS, RF.REF_SUSCLR_CH, RF.REF_POST_URGE, RF.REF_PULL_LIMIT]

/-- The fields of page REF, part 1. -/
def fieldsOf_ref_1 : List Field :=
  [RF.REF_HYST, RF.REF_SENT_EN, RF.REF_SENT_FENCE, RF.REF_SENT_ROW, RF.REF_SENT_COL, RF.REF_COUNT]

/-- The fields of page MUT, part 0. -/
def fieldsOf_mut_0 : List Field :=
  [RF.MUT_MUTE_FORCED, RF.MUT_HOT_ENTER, RF.MUT_BACKLOG_FULL, RF.MUT_HOT, RF.MUT_CH, RF.MUT_BACKLOG,
   RF.MUT_HOTB, RF.MUT_RADIUS, RF.MUT_THRESH_CODE, RF.MUT_HARD, RF.MUT_THRESHOLD]

/-- The fields of a page (R463). -/
def fieldsOf : Page → List Field
  | .sys => fieldsOf_sys_0 ++ fieldsOf_sys_1 ++ fieldsOf_sys_2
  | .pwr => fieldsOf_pwr_0 ++ fieldsOf_pwr_1
  | .flt => fieldsOf_flt_0 ++ fieldsOf_flt_1
  | .evt => fieldsOf_evt_0
  | .upd => fieldsOf_upd_0 ++ fieldsOf_upd_1
  | .sec => fieldsOf_sec_0 ++ fieldsOf_sec_1
  | .cap => fieldsOf_cap_0 ++ fieldsOf_cap_1 ++ fieldsOf_cap_2
  | .cal => fieldsOf_cal_0 ++ fieldsOf_cal_1 ++ fieldsOf_cal_2
  | .mir => fieldsOf_mir_0
  | .rpr => fieldsOf_rpr_0 ++ fieldsOf_rpr_1 ++ fieldsOf_rpr_2
  | .crs => fieldsOf_crs_0
  | .lnk => fieldsOf_lnk_0
  | .trx => fieldsOf_trx_0
  | .reg => fieldsOf_reg_0 ++ fieldsOf_reg_1
  | .rqm => fieldsOf_rqm_0
  | .ctx => fieldsOf_ctx_0 ++ fieldsOf_ctx_1
  | .map => fieldsOf_map_0
  | .chn => fieldsOf_chn_0 ++ fieldsOf_chn_1
  | .tab => fieldsOf_tab_0 ++ fieldsOf_tab_1 ++ fieldsOf_tab_2 ++ fieldsOf_tab_3
  | .ref => fieldsOf_ref_0 ++ fieldsOf_ref_1
  | .mut => fieldsOf_mut_0

end Sys2Proof.Machine
end

