-- ==== Sys2Proof/Machine/Tbl.lean ====
section
/-! DEFINITION. Sparse tables: a value for every index, of which a sorted list holds those that were written. -/

namespace Sys2Proof.Machine

/-- A table of values indexed by numbers: `dflt` at every index that `ents` does not list. -/
structure Tbl (α : Type) where
  dflt : α
  ents : List (Nat × α)
  deriving DecidableEq, Repr

/-- The value that a sorted list of entries holds for index `i`. -/
def lookupEnt {α : Type} (i : Nat) : List (Nat × α) → Option α
  | [] => none
  | (j, a) :: l => if j = i then some a else lookupEnt i l

/-- The entries with index `i` set to `a`, in rising order of index. -/
def insertEnt {α : Type} (i : Nat) (a : α) : List (Nat × α) → List (Nat × α)
  | [] => [(i, a)]
  | (j, b) :: l => if i < j then (i, a) :: (j, b) :: l else if i = j then (i, a) :: l else (j, b) :: insertEnt i a l

/-- The table that holds `d` everywhere. -/
def Tbl.const {α : Type} (d : α) : Tbl α := ⟨d, []⟩

/-- The value at index `i`. -/
def Tbl.get {α : Type} (t : Tbl α) (i : Nat) : α :=
  match lookupEnt i t.ents with
  | some a => a
  | none => t.dflt

/-- The table with `a` at index `i`. -/
def Tbl.set {α : Type} (t : Tbl α) (i : Nat) (a : α) : Tbl α :=
  ⟨t.dflt, insertEnt i a t.ents⟩

/-- The table with index `i` changed by `f`. -/
def Tbl.upd {α : Type} (t : Tbl α) (i : Nat) (f : α → α) : Tbl α :=
  t.set i (f (t.get i))

/-- The table with every listed and unlisted value changed by `f`. -/
def Tbl.mapAll {α β : Type} (t : Tbl α) (f : α → β) : Tbl β :=
  ⟨f t.dflt, t.ents.map (fun e => (e.1, f e.2))⟩

/-- The table without its entry for index `i`. -/
def Tbl.erase {α : Type} (t : Tbl α) (i : Nat) : Tbl α :=
  ⟨t.dflt, t.ents.filter (fun e => e.1 != i)⟩

/-- The listed indices whose value satisfies `p`. -/
def Tbl.keysWhere {α : Type} (t : Tbl α) (p : α → Bool) : List Nat :=
  (t.ents.filter (fun e => p e.2)).map (·.1)

/-- Rising order of the indices of a list of entries. -/
def Tbl.rising {α : Type} : List (Nat × α) → Bool
  | [] => true
  | [_] => true
  | (i, _) :: (j, b) :: l => decide (i < j) && Tbl.rising ((j, b) :: l)

end Sys2Proof.Machine
end

