-- ==== Sys2Proof/Machine/BaseState.lean ====
section
/-! DEFINITION. The state of the units that every other unit uses: time, the register store, the pins, non-volatile
memory, the event recorder and the fault collector. -/

namespace Sys2Proof.Machine

/-- Time (R64 to R66): ticks since power-good, the timestamp, and the TIME_SETs that wait for the next tick (T,
own count), in order. -/
structure TimeSt where
  elapsed : Nat
  stamp   : BitVec 48
  setting : List (BitVec 48 × BitVec 48)
  deriving DecidableEq, Repr

/-- One register write waiting to take effect (R74, R85): its path and attributes, the level it had when it arrived, its
offset and value, and the domain that must wake first. A `late` write is one that is not posted but came behind a posted
write of its path; `tag` is the CFGWR's that is answered when it takes effect. `ord` numbers the accesses that wait, in the order of
their arrival. -/
structure Posted where
  access : Access
  level  : Nat
  off    : Nat
  val    : Word
  wakes  : Option Nat
  late   : Bool
  tag    : Option Nat
  ord    : Nat
  deriving DecidableEq, Repr

/-- The result entry of a commit (R78, R81). -/
structure CommitResult where
  epoch   : Nat
  reject  : Nat
  reason  : Nat
  result  : Nat
  deriving DecidableEq, Repr

/-- A commit that has its epoch and has not completed (R78, R79): the access level of its master, the groups it named,
the captured shadow words with the marks of those written, whether it was turned away with QUEUE_FULL, and, once its checking
phase has passed, the groups still to take effect and, for G2 and G4, the channels still to follow; then the tick of its check
with each channel's count of refresh slots, the minimum that the check gave each context (R210), whether requests are held
for its map, and the number of the first request delivered since (R197, R201). -/
structure Commit where
  epoch     : Nat
  mask      : Nat
  level     : Nat
  secureLvl : Bool
  shadow    : Tbl Word
  touched   : Tbl Word
  full      : Bool
  checked   : Bool
  adjusted  : Bool
  waiting   : List Nat
  chG2      : List Nat
  chG4      : List Nat
  deadline  : Option Nat
  boot      : Bool
  checkedAt : Nat
  slotAt    : List Nat
  mins      : List (Nat × Nat)
  holds     : Bool
  uidAt     : Nat
  deriving DecidableEq, Repr

/-- A register read that waits for an earlier access of its path or for a sleeping domain (R74, R88). `tag` is the CFGRD's tag;
`ord` as of `Posted`. -/
structure StalledRead where
  access : Access
  off    : Nat
  tag    : Option Nat
  wakes  : Option Nat
  ord    : Nat
  deriving DecidableEq, Repr

/-- The register store. `shadow` and `force` hold, by byte offset in the window, the XOR of the word with its reset
value; a copy kept for one channel (R80, G2 and G4) stands at offset + 2^21 × (n + 1). `sticky` holds the RC bits;
`accSeen` tells that SYS_ACCERR holds an access recorded since its last read (R74), and `nacked` is the SMP read that was last
refused for a sleeping domain: the domain, the offset, and whether that wake has failed since (R37, R88). -/
structure RegSt where
  shadow    : Tbl Word
  force     : Tbl Word
  sticky    : Tbl Word
  touched   : Tbl Word
  counters  : Tbl (BitVec 64)
  snapAcc   : Tbl Nat
  latch     : Tbl Word
  posted    : List Posted
  dropped   : Tbl Bool
  failed    : Tbl Bool
  stalled   : List StalledRead
  epoch     : Nat
  doneEpoch : Nat
  commits   : List Commit
  results   : Tbl CommitResult
  tickets   : Tbl Nat
  snapSeq   : Nat
  snapBusy  : Bool
  snapMask  : Nat
  snapStamp : BitVec 48
  snapshot  : Tbl (BitVec 64)
  sumBusy   : Bool
  window    : List Byte
  views     : Tbl Nat
  evtCopy   : Tbl (Option (List Word))
  logCopy   : Tbl (List Word)
  smpValue  : Option Word
  smpStatus : Option Byte
  accSeen   : Bool
  nacked    : Option (Nat × Nat × Bool)
  deriving DecidableEq, Repr

/-- The pins outside the lanes (R23): power-good, the INST_ID strap, NVM_RDY, the power switches, CHn_RST_N, the regulator's pins,
the sideband ports with their last acknowledgement, the dynamic addresses they have been given and the 64 bits (Provisional ID, BCR,
DCR) that one last gave in ENTDAA (R35), the bridge's pins, CR_TXLK of each course, and WRSTN. -/
structure PinSt where
  pwrGood  : Bool
  instId   : Bool
  nvmRdy   : Bool
  pswRdy   : Tbl Bool
  pswEn    : Tbl Bool
  chRst    : Tbl Bool
  regRdy   : BitVec 3
  regOcw   : Bool
  smpAck   : Bool
  smpIbi   : Bool
  smpAddr  : Option (BitVec 7)
  svcAddr  : Option (BitVec 7)
  svcAck   : Bool
  daa      : Option (BitVec 64)
  brgFreq  : Bool
  brgFgnt  : Bool
  sfenced  : Bool
  brgXen   : Bool
  brgXrdy  : Bool
  txLock   : Tbl Bool
  wrstN    : Bool
  deriving DecidableEq, Repr

/-- What a piece of non-volatile work is for: the record is whole, or fails, when its last word has been written or
its request has failed (R33, R34, R91). A settings page written for a KEY_* message carries its management tag, an event record its
number in the ring. -/
inductive NvmWhy where
  | bootRecord | settings (op : Option Nat) | calSet (ch temp : Nat) | repairMap (ch : Nat) | eventLog (seq : Nat)
  | staging | otp | logScan | logView (path : Nat) | readBoot | restart
  deriving DecidableEq, Repr

/-- A job of the NVM port: the word writes (or reads) still to be made, in order (R32). -/
structure NvmJob where
  why   : NvmWhy
  write : Bool
  words : List (Nat × BitVec 64)
  deriving DecidableEq, Repr

/-- The NVM port and the MRAM behind it (R32 to R34, R90). `mem` is byte-addressed and survives PWR_GOOD. -/
structure NvmSt where
  mem      : List Host.Cell
  jobs     : List NvmJob
  deferred : List NvmJob
  reqSince : Option Nat
  badWords : List Nat
  otpCount : Nat
  lockFuse : Bool
  deriving DecidableEq, Repr

/-- One event record of the ring (R411); its CHECK is computed where it is read. `kept`: it records the cause of a fault that fences
and is persisted whatever its severity (R400). -/
structure EvRec where
  seq     : Nat
  time    : BitVec 48
  source  : Nat
  code    : Nat
  sev     : Nat
  held    : Bool
  partner : Bool
  rep     : Nat
  payload : BitVec 96
  queued  : Bool
  born    : Nat
  kept    : Bool := false
  deriving DecidableEq, Repr

/-- The event recorder (R411 to R417) and the event hold in D0 (R372). -/
structure EvtSt where
  ring      : Tbl (Option EvRec)
  head      : Nat
  hold      : List EvRec
  holdLost  : Nat
  queue     : List EvRec
  pseq      : Nat
  logSeq    : Nat
  logSlot   : Nat
  logReady  : Bool
  started   : Bool
  deriving DecidableEq, Repr

/-- The units that can be fenced (R402), in the numbering of the FENCE event's payload (R418). -/
inductive FUnit where
  | course | bank | sid | channel | group | key | lpHalf | inst
  deriving DecidableEq, Repr

/-- A standing fence of one unit (R401, R403): the reason of its first cause, and the other causes. Partner channels have the
indices 32 to 63. -/
structure FenceMark where
  unit   : FUnit
  index  : Nat
  reason : Nat
  others : List Nat
  deriving DecidableEq, Repr

/-- The fault collector (R400 to R410, R477). `unfencing` lists the units whose return to service waits for their
channel's retraining (R402, R403). -/
structure FltSt where
  marks      : List FenceMark
  unfencing  : List (FUnit × Nat)
  fatal      : Bool
  asserts    : Nat
  pulseEnd   : Option Nat
  drive      : Bool
  ledgerFail : Nat
  lastSev    : Nat
  lastSource : Nat
  lastCode   : Nat
  generation : Nat
  chEpoch    : Tbl (BitVec 8)
  ovrSeen    : Nat
  deriving DecidableEq, Repr

/-- The keys of a slot (R317): K1 for data, K2 for the tweak and K3 for the MAC, as numbers, first byte the most significant. -/
structure Keys where
  k1 : Nat
  k2 : Nat
  k3 : Nat
  deriving DecidableEq, Repr

/-- Zeroised keys. -/
def Keys.zero : Keys := ⟨0, 0, 0⟩

end Sys2Proof.Machine
end

