-- ==== Sys2Proof/Machine/ChanState.lean ====
section
/-! DEFINITION. The state of regulation (09), the channel engines (10), the tablature and the core dies as the channel
engines see them (11), refresh and the mute (12), and the capo (13). -/

namespace Sys2Proof.Machine

/-- A regulation context as the router keeps it (R202 to R217, R474). `allow` is the OUT that the ledger check allows
above a lowered OUT_LIMIT (R208). -/
structure Ctx where
  out       : Nat
  committed : Nat
  minEff    : Nat
  resv      : Nat
  allow     : Nat
  deficit   : Nat
  winLines  : Nat
  shortWin  : Nat
  latMiss   : Nat
  deriving DecidableEq, Repr

/-- The router's regulation state (R206, R208, R211 to R217). -/
structure RegulSt where
  ctx      : Tbl Ctx
  slotFree : Nat
  slotRet  : Nat
  roundPtr : Nat
  ageNow   : Nat
  lastRoll : Nat
  scaled   : Bool
  rtOver   : Bool
  floorNow : Nat
  rollFloor : Nat
  rollOld  : Nat
  holds    : List (Nat × Nat)
  poolFree : Nat
  poolUsed : Nat
  poolRet  : Nat
  deriving DecidableEq, Repr

/-- The content of one line on the core dies: its 72 symbols (R312 to R314). What wrote it stands beside them for the scrub (log 136):
its line address, the keys and KEYID, whether the layout is the expert one, and whether they are void content (R321). -/
structure ArrayLine where
  burst : BitVec 576
  laddr : Nat
  keys  : Keys
  key   : Nat
  expert : Bool
  void  : Bool
  deriving DecidableEq, Repr

/-- A read-queue entry (R220, R229): the request and line it serves, its place, and whether it is the read phase of a
read-modify-write. `passed` counts later lines chosen before it (HIT_CAP). -/
structure RdEnt where
  uid    : Nat
  idx    : Nat
  laddr  : Nat
  bank   : Nat
  row    : Nat
  col    : Nat
  rt     : Bool
  rmw    : Bool
  urg    : Nat
  passed : Nat
  taken  : Bool
  deriving DecidableEq, Repr

/-- A write-share line (R220, R226, R227). `wseqs` lists the write sequence numbers it will drain; `ready` is false
while a read-modify-write's merge is awaited or the write waits behind one; `chosen` once selected for a transfer;
`back`, `bad` and `corrected` tell that a read-modify-write's read phase has returned, and whether POISON or CORRECTED;
`order` is the request whose arrival RTQ goes by (R231). -/
structure WrEnt where
  uid    : Nat
  laddr  : Nat
  bank   : Nat
  row    : Nat
  col    : Nat
  data   : BitVec 512
  key    : Nat
  gen    : Nat
  wseqs  : List Nat
  rt     : Bool
  ready  : Bool
  chosen : Bool
  back   : Bool
  bad    : Bool
  corrected : Bool
  order  : Nat
  deriving DecidableEq, Repr

/-- One unit of the work of a transfer (R237): a read entry, a write entry, a refresh of a bank, a mitigation of a
row, a read of a SID's latches or STATUS, a mode-register write, a patrol of one line, a sentinel of a bank, one
calibration step, one step of a built-in test with its pointer, one burst of a row that a repair saves, replaces or
restores (R425, R428), one SID of a partner channel that AUX opens (R389), a power entry, 44 to 47 (R269), or a line that a scrub
has corrected and writes back (R269). -/
inductive Work where
  | rdLine (uid idx : Nat)
  | wrLine (laddr : Nat) (wseq : Nat)
  | refBank (b : Nat)
  | mitRow (b row : Nat)
  | mitRead (sid : Nat)
  | thresh (sid : Nat)
  | status (sid : Nat)
  | scrub (b row col : Nat)
  | sentArm (b : Nat)
  | sentCheck (b : Nat)
  | calStep (n : Nat)
  | test (n : Nat)
  | rowOp (b row col : Nat)
  | openSid (sid : Nat)
  | powerCmd (n : Nat)
  | wrBack (b row col : Nat)
  deriving DecidableEq, Repr

/-- The beats of a burst: bit 16 × TSV + unit interval, the spare DQ TSVs behind the 36 DQ bits (R312, R344). -/
abbrev Beats := BitVec 640

/-- A burst captured: its data-path action (DPA of R250), the line of the core dies that it came from, the beats as they arrived, and
which of them arrived inverted. -/
structure Got where
  dpa   : Nat
  line  : Option ArrayLine
  beats : Beats
  err   : Beats
  deriving DecidableEq, Repr

/-- The running transfer of the transfer thread (R237, R253): its agent, entry, current row, loop count, its work items and how
many are done, the bursts issued and completed, how often it was abandoned, whether it is firm, whether it is marked after a
capture miss, whether its last row has issued, whether its first one has, and the bursts captured so far, each with its data-path
action. -/
structure Xfer where
  agent   : Agent
  entry   : Nat
  row     : Nat
  loop    : Option Nat
  work    : List Work
  done    : Nat
  issued  : Nat
  landed  : Nat
  aborts  : Nat
  firm    : Bool
  marked  : Bool
  ended   : Bool
  begun   : Bool
  got     : List Got
  deriving DecidableEq, Repr

/-- The insert thread at work (R234, R254): the bank that it closes, its row of the tablature and its loop count. -/
structure Insert where
  bank : Nat
  row  : Nat
  loop : Option Nat
  deriving DecidableEq, Repr

/-- One agent of a channel arbiter (R236 to R246). -/
structure AgentSt where
  asks    : Bool
  age     : Nat
  restart : Option Xfer
  deriving DecidableEq, Repr

/-- One bank as the channel engine keeps it (R233, R273, R282, R292, R293). `closedSince` tells of a close since the SID's last
MIT_READ; while the result of a MIT_READ is awaited, `closedAfter` tells of one that R262 counts after it, and `actsAt` is
what A was when it issued. `scrubAt` is the row at which the scrub of a retention-suspect bank stands, 32,768 behind the last, and
`scrubBad` the lines that it has counted. -/
structure Bank where
  openRow  : Option Nat
  closeDue : Bool
  idleRun  : Bool
  owed     : Int
  ptr      : Nat
  acts     : Nat
  closedSince : Bool
  hotUntil : Option Nat
  suspect  : Bool
  mustCheck : Bool
  closedAfter : Bool
  actsAt   : Nat
  scrubAt  : Option Nat
  scrubBad : Nat
  deriving DecidableEq, Repr

/-- A bank at reset. -/
def Bank.init : Bank := ⟨none, false, false, 0, 0, 0, false, none, false, false, false, 0, none, 0⟩

/-- One SID of a channel as the core die keeps it (R260 to R263): hold, CAPERR, the mode registers that Camec writes, the open
rows, the mitigation latches (bank to row), the activation counts (32768 × bank + row), self-refresh and power-down, and its ID0,
ID1 and GEOM; the state of each TSV's pattern and the TESTERR flags (R344). -/
structure Sid where
  hold    : Bool
  capErr  : Bool
  sensor  : Bool
  latCode : Nat
  drvCode : Nat
  thresh  : Nat
  test    : Tbl Nat
  rows    : Tbl (Option Nat)
  latches : Tbl (Option Nat)
  counts  : Tbl Nat
  selfRef : Bool
  pdown   : Bool
  id0     : Byte
  id1     : Byte
  geom    : Byte
  pattern : List (BitVec 15)
  testErr : BitVec 40
  deriving DecidableEq, Repr

/-- The seeds of a SID's pattern: TSV `j` starts from j + 1 (R344). -/
def patternSeeds : List (BitVec 15) := (List.range 40).map (fun j => BitVec.ofNat 15 (j + 1))

/-- A SID at power-good. R263 gives ID1, its stepping, no number: 0x10 is one of the two that the standard image accepts (R106; DESIGN
CHOICE, log 142). -/
def Sid.init : Sid := ⟨false, false, false, 0, 0, 0, .const 0, .const none, .const none, .const 0, false, false, 0x48#8, 0x10#8,
  0x4f#8, patternSeeds, 0#40⟩

/-- An entry of the mitigation backlog (R282): bank, row, and E, the ACTs to the bank since the row was read. -/
structure Backlog where
  bank : Nat
  row  : Nat
  e    : Nat
  deriving DecidableEq, Repr

/-- A burst in flight on the DQ TSVs: the work item it belongs to, its data-path action (DPA of R250), whether the SID
executes its command, the line of the core dies that it then reads or writes, the beats that it returns where they come from
no line (none: they come from the line, or are open), the SID that compares a write with its pattern (R344), whether a MIT_READ is
forced by a hot bank, and the fret before which the burst cannot end (R264). -/
structure Flight where
  work    : Work
  dpa     : Nat
  heard   : Bool
  place   : Option Nat
  beats   : Option Beats
  cmp     : Option Nat
  hot     : Bool
  lands   : Nat
  deriving DecidableEq, Repr

/-- The burst carries write data: TX_LINE or TX_RAW. -/
def Flight.write (f : Flight) : Bool := f.dpa == 2 || f.dpa == 4

/-- What a MIT_READ has captured and not yet delivered: the SID, its 16 latches (R262), and whether a hot bank forced it (R295). -/
structure LatchRead where
  sid  : Nat
  rows : List (Option Nat)
  hot  : Bool
  deriving DecidableEq, Repr

/-- A seat at a channel engine's arbiter: a channel and an agent of it (R393). -/
abbrev Seat := Nat × Agent

/-- What a void grant restores (R246): the ages on each channel of the engine, the holder and its burst count before the decision
that made it. -/
structure Before where
  ages   : List (Nat × Tbl Nat)
  holder : Option Seat
  bursts : Nat
  deriving DecidableEq, Repr

/-- How a channel's core dies rest (R261, R366): with clocks and commands, in power-down, or in self-refresh. -/
inductive Rest where
  | awake | down | asleep
  deriving DecidableEq, Repr

/-- A line captured and released to the line-protection engine (R232): the request and line, its place on the core
dies, the content captured (none: never written), and the bits of its burst that arrived inverted. -/
structure Captured where
  uid   : Nat
  idx   : Nat
  laddr : Nat
  bank  : Nat
  row   : Nat
  col   : Nat
  line  : Option ArrayLine
  err   : BitVec 576
  rmw   : Bool
  deriving DecidableEq, Repr

/-- One channel engine with its channel (own 0 to 31, partner 32 to 63). `times` holds the fret time at which each timing rule
last started, by rule and scope; `acctSent`, `acctDone` and `acctHeld` are the tag account, `shareSent` and `shareRet` the
write-share account, and `kCount` counts the credits given (K of R382). `clock` is the latest fret time that the channel has
reached, `threadAt` and `insertAt` the launch of each thread's latest command, `beatEnd` the end of the latest last beat (R251);
`prior` is what a void grant restores and `maskCut` tells that the holder's grant ends at the preemption point (R246); `g2` holds
the values of a G2 commit that wait for the next decision, `g2Took` tells that they have been taken (R247); `power` lists the
power entries to run, `rest` the state that the last one left, `lostRef` that the refresh pointers were lost (R287, R289);
`opening` lists the entries with which AUX still has to open a partner channel (R389); `rowBits` and `colBits` are the command
beats last driven on CHn_RC and CHn_CC (R257); `dieHold` tells that the draw of the row to issue next waits for a die window
(R301); `pulling` that REF has led the channel out of POWER_DOWN and pulls every bank in (R366); `lastHere` that the engine's last
grant went to this channel (R393). `missed` lists the SIDs whose read preamble was missed, with the agent whose transfer missed
(R265); `statusGot` the STATUS registers captured and not yet judged; `sentGot` the sentinel bursts that SENT_CHECK has read, by
bank; `scrubGot` the bursts that SCRB has captured and not yet checked, with bank, row and column, and `scrubBuf` its line buffer:
the corrected lines to write back (R250, R293); `strobes` counts the edges of CHn_CS, whose level is their parity (R257). `temp`
is in quarters of a degree above −64 °C (R30, R304). -/
structure Chan where
  reads     : List RdEnt
  writes    : List WrEnt
  hazard    : List (Nat × Nat)
  batch     : Bool
  drain     : Bool
  wseqNext  : Nat
  drained   : Nat
  outOfOrder : List Nat
  agents    : Tbl AgentSt
  holder    : Option Agent
  bursts    : Nat
  xfer      : Option Xfer
  insert    : Option Insert
  preempt   : Option Seat
  flights   : List Flight
  captured  : List Captured
  banks     : Tbl Bank
  sids      : Tbl Sid
  times     : Tbl (Option Nat)
  rowBus    : Option Nat
  colBus    : Option Nat
  slotNext  : Nat
  band      : Nat
  bandNew   : Nat
  temp      : Nat
  sweep     : Option Nat
  backlog   : List Backlog
  mitAsk    : List Nat
  threshDue : List Nat
  tOld      : Nat
  tPrev     : Nat
  tSince    : Nat
  statusDue : List Nat
  missed    : List (Nat × Agent)
  sweepPtr  : Nat
  acctSent  : Nat
  acctDone  : Nat
  acctHeld  : Nat
  shareSent : Nat
  shareRet  : Nat
  latchRead : Option LatchRead
  kCount    : Nat
  clock     : Nat
  threadAt  : Option Nat
  insertAt  : Option Nat
  beatEnd   : Nat
  prior     : Option Before
  maskCut   : Bool
  g2        : Option (List (Nat × Word))
  g2Took    : Bool
  power     : List Nat
  rest      : Rest
  lostRef   : Bool
  opening   : List Nat
  rowBits   : BitVec 40
  colBits   : BitVec 32
  dieHold   : Bool
  pulling   : Bool
  lastHere  : Bool
  statusGot : List (Nat × Nat)
  sentGot   : List (Nat × BitVec 576)
  scrubGot  : List (Nat × Nat × Nat × Got)
  scrubBuf  : List (Nat × Nat × Nat × ArrayLine)
  strobes   : Nat
  deriving DecidableEq, Repr

/-- A draw that waits at the capo for its group's purse (R298, R299): its channel, its cost, and whether a forcing REF or MUTE
draws. -/
structure DrawWait where
  ch     : Nat
  cost   : Nat
  urgent : Bool
  deriving DecidableEq, Repr

/-- The token accounts of one channel group, with the draws that wait for its purse (R298 to R303). -/
structure Purse where
  purse    : Nat
  refBal   : Nat
  muteBal  : Nat
  issued   : Nat
  consumed : Nat
  returned : Nat
  wants    : List DrawWait
  deriving DecidableEq, Repr

/-- The capo (R296 to R307): the central account, the purses of the 16 channel groups, the die windows (count and
window number per core die), the budget in force in tokens per µs, the throttle and telemetry
state, whether a load reading has exceeded ILD_LIMIT since the last drone tick (R306), and the sensors' readings. Temperatures are
kept as the value + 64 °C. -/
structure CapoSt where
  central   : Nat
  purses    : Tbl Purse
  dieCount  : Tbl Nat
  dieNo     : Tbl Nat
  bEff      : Nat
  step      : Nat
  fTelem    : Nat
  ild       : Nat
  ildOver   : Bool
  ildOkFrom : Option Nat
  ocwHold   : Option Nat
  topups    : List Nat
  input     : Nat
  baseMax   : Nat
  hotCh     : Nat
  chMax     : Nat
  cRefNow   : Nat
  overTemp  : Tbl Bool
  deriving DecidableEq, Repr

/-- The temperature sensors (R30, R31): index 4 × die + sensor for core dies, 64 + n for the base die. `last` holds a reading in
quarters of a degree above −64 °C, `bad` the reads in a row that failed, `failed` the sensors given up, `dieFlag` dies whose SIDs
report a sensor failure. -/
structure SensorSt where
  last    : Tbl (Option Nat)
  bad     : Tbl Nat
  failed  : Tbl Bool
  dieFlag : Tbl Bool
  due     : List Nat
  asked   : Option (Nat × Nat)
  lastRound : Nat
  deriving DecidableEq, Repr

end Sys2Proof.Machine
end

