-- ==== Sys2Proof/Machine/LinkState.lean ====
section
/-! DEFINITION. The state of the Rila link (06_rila_link) and of the transaction layer (07_rila_transactions). -/

namespace Sys2Proof.Machine

/-- The states of a physical lane (R124). -/
inductive LaneState where
  | hunt | locked | aligned | failed
  deriving DecidableEq, Repr

/-- One physical lane of a course, downstream receiver and upstream transmitter (R23, R119 to R124). `window` holds the validity
of the last headers, newest first; `since` counts blocks since the last marker position; `leftAt` is the drone tick
at which the lane last left ALIGNED; `corr` counts corrected bytes by drone tick, newest first (R147); `eqp` is LN_EQP. `prev` is
the newest 66 bits of the received stream and `cand` the candidate position in it; `block` numbers the next block on the grid of
flits that the last marker gives (R123, R125), and `older` is the 66 bits before `prev`. `scr` is the transmitter's scrambler, and
`sent` the blocks of the last flit time, each header in send order; `gear` is the `gearN` bits that the transmit gearbox still holds,
and `words` the words of LN_TXD that it sent in that time (R119). -/
structure Lane where
  st      : LaneState
  rxv     : Bool
  cand    : Nat
  count   : Nat
  window  : List Bool
  since   : Nat
  missed  : Nat
  logLane : Nat
  markAt  : Nat
  descr   : BitVec 58
  leftAt  : Option Nat
  corr    : List (Nat × Nat)
  txv     : Bool
  pd      : Bool
  eqReq   : Bool
  lb      : Nat
  eqp     : Nat
  prev    : BitVec 66
  block   : Nat
  scr     : BitVec 58
  sent    : List (BitVec 2 × BitVec 64)
  older   : BitVec 66
  gear    : BitVec 64
  gearN   : Nat
  words   : List (BitVec 64)
  deriving DecidableEq, Repr

/-- A lane as it stands at power-good: hunting, its word-valid low, and LN_PD high until step 10 (R108). -/
def Lane.init : Lane :=
  ⟨.hunt, false, 0, 0, [], 0, 0, 31, 0, 0#58, none, [], false, true, false, 0, 0, 0#66, 0, 0#58, [], 0#66, 0#64, 0, []⟩

/-- The states of a course transmitter (R139, CRS_STAT). -/
inductive TxState where
  | run | replay | stall | retrain | fenced | down
  deriving DecidableEq, Repr

/-- The reasons of a course fence, with the codes of R150. -/
inductive CourseReason where
  | lanes | retrain | command | tag
  deriving DecidableEq, Repr

/-- What an upstream message completes when it is placed in a sequenced flit (R160, R168, R169); `answered` is the
completing response of a tag that is already quarantined (R170), `notice` the TAKEOVER_NOTICE from which the partner's half is
served (R395). -/
inductive Completes where
  | nothing
  | answered
  | tag (write : Bool) (tag : Nat)
  | mtag (tag : Nat)
  | summary (mtag : Nat)
  | sleepOk
  | notice
  deriving DecidableEq, Repr

/-- An upstream message: its cells, what its placement completes, and, for the WACK of a FENCE, the requester whose
requests it releases. `again` marks a message that a course fence took back, which was counted when it was first placed (R150). -/
structure UpMsg where
  cells   : List Cell
  done    : Completes
  fenceOf : Option Nat
  again   : Bool
  deriving DecidableEq, Repr

/-- A sequenced flit in the replay buffer (R137): its extended SEQ, type, messages and credit returns. -/
structure SentFlit where
  seq     : Nat
  ftype   : Nat
  msgs    : List UpMsg
  crReq   : Nat
  crWd    : Nat
  crMgt   : Nat
  replays : Nat
  deriving DecidableEq, Repr

/-- The last flit sent on a course: its header, its cells before encryption, its IV and tag, and its 512 bytes (R126, R133). -/
structure TxFlit where
  header : BitVec 64
  cells  : List Cell
  iv     : BitVec 96
  gcm    : BitVec 64
  bytes  : List Byte
  deriving DecidableEq, Repr

/-- A data block of a flit that is being assembled: the flit's number, its logical lane, its place in the lane's four blocks, and
the payload (R125, R127). -/
structure FlitPart where
  flit    : Nat
  lane    : Nat
  index   : Nat
  payload : BitVec 64
  deriving DecidableEq, Repr

/-- A logical lane that has moved to the spare (R148): the lane, the spare's physical lane, the one that carried it before while that
is ALIGNED, and the first flit that the spare carries. -/
structure Moved where
  lane  : Nat
  spare : Nat
  old   : Option Nat
  flit  : Nat
  deriving DecidableEq, Repr

/-- One course pair (R118, R124 to R152). `expect` is E of R138 and `next` the next extended SEQ to send; `run` holds the extended
SEQs that a replay run still has to resend; `fails` the received-flit numbers of the last TAG failures; `mapReq` the lanes that
Camec asks the host to move, `switchTx` the lane the host asked it to move. `keyRx`, `keyNextRx` and `keyTx` number the epoch
secrets of R333; `moveAll` asks for the next transmit epoch. `downs` are COURSE_DOWN cells to be sent here, and `held` the
unacknowledged flits of a fenced course that await the host's COURSE_DOWN (`waitPeer`). `asm` is the number of the first flit to
assemble and `parts` the blocks that have arrived (R125); `failAt` is the tick at which a lane failed that fences the course
unless the whole course is lost (R147, R472). `txPos` is the transmitter's block position in the marker period and `mseq` its next
MSEQ (R123); `mapAge` counts flit times since LANE_MAP was last sent, and `moved` is the last move of a lane to the spare (R148). -/
structure Course where
  up        : Bool
  tx        : TxState
  expect    : Nat
  nakWait   : Bool
  nakDue    : Bool
  next      : Nat
  acked     : Nat
  buffer    : List SentFlit
  run       : List Nat
  spareRx   : Nat
  spareTx   : Nat
  mapReq    : Option Nat
  switchTx  : Option Nat
  epochRx   : Nat
  epochTx   : Nat
  keyRx     : Option Nat
  keyNextRx : Option Nat
  keyTx     : Option Nat
  sentUnder : Nat
  verified  : Nat
  rxCount   : Nat
  fails     : List Nat
  retrains  : List Nat
  limitAt   : Option Nat
  retrainAt : Option Nat
  fenceWhy  : Option CourseReason
  unfenceAt : Option Nat
  waitPeer  : Bool
  encrypted : Bool
  moveAll   : Bool
  last      : Option TxFlit
  downs     : List Cell
  held      : List SentFlit
  asm       : Option Nat
  parts     : List FlitPart
  failAt    : Option Nat
  txPos     : Nat
  mseq      : Nat
  mapAge    : Nat
  moved     : Option Moved
  deriving DecidableEq, Repr

/-- A course as it stands at power-good: DOWN, no spare in use (CRS_STAT). -/
def Course.init : Course :=
  ⟨false, .down, 0, false, false, 0, 0, [], [], 16, 16, none, none, 0, 0, none, none, none, 0, 0, 0, [], [],
    none, none, none, none, false, false, false, none, [], [], none, [], none, 0, 0, 0, none⟩

/-- The credits of one class (R142, R145): the counts that the ledger checks, with `pending` the freed cells not yet
in a flit and `flying` those in an unacknowledged flit. -/
structure Credit where
  issued   : Nat
  held     : Nat
  consumed : Nat
  pending  : Nat
  flying   : Nat
  deriving DecidableEq, Repr

/-- The link: lanes at 17 × c + l, courses, the three credit classes, the upstream messages not yet placed in a flit,
and whether a pending return has waited CR_WAIT flit times. -/
structure LinkSt where
  lanes    : Tbl Lane
  courses  : Tbl Course
  req      : Credit
  wd       : Credit
  mgt      : Credit
  upQ      : List UpMsg
  crWaited : Bool
  deriving DecidableEq, Repr

/-- Where a delivered request stands (R160, R185, R203, R216). -/
inductive Stage where
  /-- held at the router behind a FENCE or a draining RESYNC, not yet judged -/
  | held
  /-- held for a map switch (HOLD_ON_WAIT) or for room, in the queue of its regulation context -/
  | queued (ctx : Nat)
  /-- dispatched to a channel engine -/
  | sent (ch : Nat)
  /-- a CFGRD or CFGWR that waits, or a FENCE that waits for its requester's earlier requests -/
  | waiting
  deriving DecidableEq, Repr

/-- A delivered request whose tag is outstanding (R169). `left` lists the line indices not yet answered, `slot` is the regulation
context that holds its slot, `deadline` the elapsed tick at which TAG_TIMEOUT passes, `bornAge` the age count at which it arrived,
`chs` the channels to which it was sent, `use` whether it holds a use of its key slot (R321) and `gen` that slot's generation, and
`pool` whether its write data stands in a line of the write-buffer pool (R222). `course` and `cell` tell where the message
arrived; `down` lists the lines found fenced at its admission, which one ERR answers after the others (R473), and `downCh` their
channel. -/
structure Req where
  uid      : Nat
  hdr      : Cell
  data     : List Cell
  mask     : BitVec 64
  clear    : Bool
  pool     : Bool
  stage    : Stage
  left     : List Nat
  slot     : Option Nat
  deadline : Option Nat
  bornAge  : Nat
  use      : Bool
  gen      : Nat
  chs      : List Nat
  course   : Nat
  cell     : Nat
  down     : List Nat
  downCh   : Nat
  deriving DecidableEq, Repr

/-- A quarantined tag (R69, R170): its space, number, the channels that still owe late deliveries with how many, the tick from
which it may leave, and the request that held it. -/
structure Quar where
  write : Bool
  tag   : Nat
  owing : List (Nat × Nat)
  ready : Option Nat
  uid   : Nat
  deriving DecidableEq, Repr

/-- A RESYNC in progress (R185): what it still waits for, and the SUMMARY parts not yet placed in a flit. `uid` is the number that
the next request had when it was delivered. -/
structure Resync where
  mtag  : Nat
  drain : Bool
  wait  : List (Bool × Nat)
  shown : Bool
  parts : Nat
  uid   : Nat
  deriving DecidableEq, Repr

/-- One tag ledger (R172). -/
structure TagAcct where
  size        : Nat
  free        : Nat
  outstanding : Nat
  quarantined : Nat
  deriving DecidableEq, Repr

/-- A KEY_* message that has passed its checks and is not answered yet (R319): its tag and header, its phase (0 waits for its
turn, 1 waits for the uses of the slot or for the page write, 2 the slot is zeroised and the partner's copy is to be erased),
and whether a page write for it is still to end. -/
structure KeyOp where
  mtag  : Nat
  hdr   : Cell
  phase : Nat
  page  : Bool
  deriving DecidableEq, Repr

/-- The transaction layer: the delivered requests in delivery order, the quarantined tags, the management tags in use,
the tag accounts, and the flow-control state of FENCE and RESYNC. `prog` holds, for each point of R189, the elapsed
tick since which it has had work waiting without completing any; `spdm` lists the management tags of SPDM messages that are not
answered yet. -/
structure TrxSt where
  reqs    : List Req
  nextUid : Nat
  quar    : List Quar
  respond : List (Bool × Nat)
  mgtOut  : List Nat
  rdAcct  : TagAcct
  wrAcct  : TagAcct
  fences  : List Nat
  resyncs : List Resync
  prog    : Tbl (Option Nat)
  keyOps  : List KeyOp
  spdm    : List Nat
  deriving DecidableEq, Repr

end Sys2Proof.Machine
end

