-- ==== Sys2Proof/Machine/UnitState.lean ====
section
/-! DEFINITION. The state of line protection and keys (14), calibration (15) and the power controller (16). -/

namespace Sys2Proof.Machine

/-- The states of a key slot (R319). -/
inductive SlotState where
  | empty | active | erasing | fenced
  deriving DecidableEq, Repr

/-- One key slot (R317): its state, keys, CLASS, META, PERSISTED and GENERATION; `uses` counts the uses of R321;
`eastOk` and `westOk` tell whether the two copies pass their CRC (R323). -/
structure KeySlot where
  st        : SlotState
  keys      : Keys
  cls       : Nat
  meta1     : Bool
  persisted : Bool
  gen       : Nat
  uses      : Nat
  eastOk    : Bool
  westOk    : Bool
  deriving DecidableEq, Repr

/-- An empty slot. -/
def KeySlot.init : KeySlot := ⟨.empty, .zero, 0, false, false, 0, 0, true, true⟩

/-- An SPDM session (R329, R331, R333): its export master secret, whether it is in the secure role, whether FINISH is done,
whether its requester is to authenticate and has shown a chain, the key updates, its ID, the handshake secret, the secret under
which Camec sends, and the messages sent under it. -/
structure Session where
  secret : Nat
  secure : Bool
  live   : Bool
  mauth  : Bool
  chain  : Bool
  keyNo  : Nat
  id     : Nat
  hs     : List Byte
  out    : List Byte
  sent   : Nat
  deriving DecidableEq, Repr

/-- An SPDM connection on one transport: the negotiation reached (0 none, 1 version, 2 capabilities, 3 algorithms), the session
held, the encapsulated request that is pending (0 none, 1 GET_DIGESTS, 2 GET_CERTIFICATE), a deferred response, and the last
response that Camec sent, each as its code and the bytes after it, and what the transport carried of the last. -/
structure Spdm where
  stage   : Nat
  session : Option Session
  encap   : Nat
  held    : Option (Nat × List Byte)
  last    : Option (Nat × List Byte)
  carried : List Byte
  deriving DecidableEq, Repr

/-- Line protection and keys (R309 to R340): the two banks of slots, the DRBG, void content, the pair key, LOCK, the SPDM
connections, the measurements fixed at step 7, the course generations, the SPDM requests that wait for the luthier's domain, and
how many entries the running slot's key section holds (R341). -/
structure SecSt where
  own       : Tbl KeySlot
  partner   : Tbl KeySlot
  drbgOk    : Bool
  drbgGen   : Nat
  drbg      : Drbg
  retestAt  : Option Nat
  voidKey   : Nat
  voidCount : Nat
  pairKey   : Option Nat
  lock      : Bool
  link      : Spdm
  smp       : Spdm
  meas2     : BitVec 384
  meas3     : BitVec 64
  meas4     : BitVec 384
  courseGen : Tbl Nat
  spdmWait  : List Instr
  entries   : Nat
  deriving DecidableEq, Repr

/-- The calibration states of a channel group (R56). -/
inductive CalState where
  | fresh | stale | noref
  deriving DecidableEq, Repr

/-- A correction of one trim that a completed run still has to apply (R352): which trim, the steps left, whether it
waits for an idle period, and whether IDLE_WAIT has forced it to be slewed. -/
structure Corr where
  trim  : Nat
  steps : Int
  wait  : Bool
  forced : Bool
  deriving DecidableEq, Repr

/-- A calibration run in progress on a channel group (R349, R350): its temperature, whether its replica window has been
measured, whether the window under way is to be discarded, and the channels whose read results a retraining has
superseded (R351), a channel for each READ_PROBE and for each DRV_SET run (R349, R361), and SLEW_MAX, SET_WRITE, SET_TOL and
CAL_DELTA as they stood at its start (R80, R362). Its temperature is in quarters of a degree. -/
structure CalRun where
  temp    : Nat
  window  : Bool
  discard : Bool
  since   : Nat
  dropped : List Nat
  probed  : List Nat
  drvSet  : List Nat
  slewMax : Nat
  setWrite : Bool
  setTol  : Nat
  delta   : Nat
  deriving DecidableEq, Repr

/-- One channel group's calibration (R342 to R354): its state, the fret trim held without guard, LAST_TEMP, the tick of
its last run, the run in progress, the tick from which the continuous trigger may start the next, the tick at which a
run fell due and could not start, whether its first calibration is still to come, whether that one has been
retried (R109), and whether the run that is due is late (R350). LAST_TEMP is in quarters of a degree. -/
structure CalGroup where
  st       : CalState
  fret     : Nat
  lastTemp : Nat
  lastRun  : Nat
  run      : Option CalRun
  readyAt  : Nat
  dueSince : Option Nat
  firstRun : Bool
  retried  : Bool
  late     : Bool
  deriving DecidableEq, Repr

/-- One channel's calibration (R342, R348, R352): the pluck trim in force with its bias, the trims in force (`pluck`
without bias), those that training found and its temperature, the corrections still to apply, the bursts since the last
slew step, a retraining in progress, whether it runs or will run steps 2 to 6, whether it has reached them, the DQ bits
for which it runs step 5 (R423), the tick at which initial training began, the place of the training or retraining in its plan, the
bursts that it has verified there, and CAL_COUNT and CAL_LAST (R358). -/
structure CalChan where
  pluck      : Nat
  trims      : Trims
  trained    : Trims
  trainTemp  : Nat
  pending    : List Corr
  waitSince  : Nat
  burstCount : Nat
  retraining : Bool
  fullRun    : Bool
  inFull     : Bool
  step5      : List Nat
  trainFrom  : Option Nat
  trainedOk  : Bool
  transfers  : Nat
  verified   : Nat
  count      : Nat
  last       : BitVec 48
  deriving DecidableEq, Repr

/-- One temperature-set record (R355) as the luthier holds it. -/
structure TempSet where
  valid : Bool
  est   : Bool
  fac   : Bool
  seq   : Nat
  temp  : Nat
  fret  : Nat
  trims : Trims
  wroteAt : Option Nat
  deriving DecidableEq, Repr

/-- The states of the time reference (R62). -/
inductive RefState where
  | absent | locked | holdover
  deriving DecidableEq, Repr

/-- The luthier's calibration state: the reference course and its holdover, groups, channels, temperature sets at
8 × channel + point, the state of the router's age timer (R475) and whether it has been measured since a reference came; `lastRef`
is the last reference course, 15 before the first (R62). -/
structure CalSt where
  refCourse : Nat
  refState  : RefState
  holdLeft  : Nat
  groups    : Tbl CalGroup
  chans     : Tbl CalChan
  sets      : Tbl TempSet
  ageSt     : CalState
  ageMeas   : Bool
  lastRef   : Nat
  deriving DecidableEq, Repr

/-- The states of a power domain (R363, PWR_STATE). -/
inductive DomState where
  | off | retention | on | failed
  deriving DecidableEq, Repr

/-- One power domain (R367, R372, R375). `from0` tells whether the wake in progress is one from off, `wakeFrom` is the
tick at which the present attempt began, `tries` the attempts that failed, `retryAt` when the next step after a failed
attempt falls due; `delay` the lower state that a DELAY works towards, with its limit; `refused` an automatic entry that
was refused and whose trigger has not been met afresh; `waitAck` the state that D1 enters once its WACK's flit is
acknowledged (R371). `cold` tells that the wake in progress is a cold start (R376); `timer` and `limit` are WAKE_TIMER and RETRIES
as they stood when the wake started (R380). -/
structure Domain where
  st       : DomState
  from0    : Bool
  wakeFrom : Option Nat
  tries    : Nat
  retryAt  : Option Nat
  delay    : Option (DomState × Nat)
  refused  : Bool
  waitAck  : Option DomState
  cold     : Bool
  timer    : Nat
  limit    : Nat
  deriving DecidableEq, Repr

/-- A domain that rests in a state, with no wake and no entry under way. -/
def Domain.resting (st : DomState) (from0 : Bool) : Domain := ⟨st, from0, none, 0, none, none, false, none, false, 0, 0⟩

/-- The power states of a channel group (R366). -/
inductive CgState where
  | active | powerDown | selfRefresh | deep
  deriving DecidableEq, Repr

/-- One channel group's power state (R366, R367): the state, the idle count, the tick at which it last left POWER_DOWN,
the state that it has refused since its idle count last started, the entry that a DELAY works towards with its limit,
and the domain state that an entry to DEEP leads to. -/
structure CgPower where
  st      : CgState
  idle    : Nat
  pdAt    : Nat
  refused : Option CgState
  delay   : Option (CgState × Nat)
  deepTo  : DomState
  deriving DecidableEq, Repr

/-- The power controller, with the sentinel store (CRC and parity by 64 × channel + bank) and the drones. -/
structure PwrSt where
  doms       : Tbl Domain
  cgs        : Tbl CgPower
  sentinels  : Tbl (Option (Word × Bool))
  lastDom    : Nat
  lastReason : Nat
  refusals   : Nat
  onChecker  : Bool
  checkerBad : Bool
  deriving DecidableEq, Repr

end Sys2Proof.Machine
end

