-- ==== Sys2Proof/Machine/PairState.lean ====
section
/-! DEFINITION. The state of start-up (05), of the instance pair (17), of repair and test (19) and of update (20). -/

namespace Sys2Proof.Machine

/-- The stages of SYS_BOOTSTAT. -/
inductive BootStage where
  | reset | rom | bootrec | verify | load | coredie | train | link | refcal | keyex | ready | recovery | halted
  deriving DecidableEq, Repr

/-- The fail codes of SYS_BOOTSTAT. -/
inductive FailCode where
  | none | romCheck | fuse | entropy | nvm | noBootRecord | noValidSlot | domainWake | noChannel
  deriving DecidableEq, Repr

/-- The pair roles of SYS_BOOTSTAT. -/
inductive PairRole where
  | none | paired | alone | mismatch | survivor | fenced
  deriving DecidableEq, Repr

/-- A boot record (R91). -/
structure BootRec where
  seq         : Nat
  activeSlot  : Nat
  prevSlot    : Nat
  pending     : Bool
  unconfirmed : Nat
  secVersion  : Nat
  digest      : BitVec 384
  deriving DecidableEq, Repr

/-- The boot record that the model holds before the ROM has selected one. -/
def BootRec.init : BootRec := ⟨0, 0, 0xff, false, 0, 0, 0#384⟩

/-- Start-up (R92 to R116): the stage, the boot record selected, the slot running and its manifest's SCHEMA and PAIR
flag, the channels trained, the settings page in use, and the ticks at which waits began; what a SAVE captured and has still to
write, with its epoch (R116), and the saved words of the running SCHEMA component with their masks (R101). -/
structure BootSt where
  stage     : BootStage
  fail      : FailCode
  waiting   : Bool
  brec      : BootRec
  copyBad   : Option Nat
  running   : Nat
  fellBack  : Bool
  secVer    : Nat
  digest    : BitVec 384
  schema    : Nat
  pairFlag  : Bool
  chReady   : Nat
  trainLeft : List Nat
  calLeft   : List Nat
  stageAt   : Nat
  readyTick : Nat
  pageNow   : Nat
  pageSeq   : Nat
  savedEpoch : Nat
  setDefault : Bool
  heldStart : Bool
  saving    : Option (List (Nat × Nat) × Nat)
  schemaMap : List (Nat × Nat)
  deriving DecidableEq, Repr

/-- A mirror message sent and not yet acknowledged (R384): its words, the ticks at which it was last and first sent, and the
key slot whose erase waits for it (R319). -/
structure MirMsg where
  seq   : Nat
  words : List Word
  at0   : Nat
  first : Nat
  keyOp : Option Nat
  deriving DecidableEq, Repr

/-- What this instance holds of one partner channel (R381, R385): state, band, highest owed count, K and WSEQ_DRAINED of the last
heartbeat, the refresh-pointer bases, the backlog, the trims, the repair-map record, and the credits that this instance has given
it since it declared its partner failed (R390). -/
structure MirChan where
  st      : Nat
  band    : Nat
  owed    : Int
  k       : Nat
  drained : Nat
  bases   : Tbl Nat
  backlog : List Backlog
  trims   : Option Trims
  repair  : List Byte
  given   : Nat
  deriving DecidableEq, Repr

/-- The steps of a takeover (R389) and of a handback (R398). -/
inductive PairStep where
  | idle | freq | opening | retraining | doubleStop | draining | entering | sending
  deriving DecidableEq, Repr

/-- The instance pair (R381 to R399). Identity: `idSentAt` is the tick of the first record, before it that at which the exchange
began, `ident` the last record sent, `idSeen` whether the partner's has come, `peerDigest` its manifest digest. Heartbeats: `beat`
is the last one sent, `peerArmed`, `peerHalted` and `peerOffer` what the last one received showed (the offers counted), `ownOffer`
the own offers in a row, `beats` those received since the pair last woke, `missed` the misses in a row, `gotBeat` whether the
present window has one, `beatAt` the tick of the last, `lastWin` the tick of the last window. Mirror port: `sent` awaits
acknowledgement, `waiting` is held back by the limit of 64, `early` came out of order, `acked` is the SEQ last acknowledged.
`epoch` is the partner's mirrored epoch and `mirrored` the own epoch whose CONFIG parts the partner has acknowledged; `share` is
the draw of the own ephemeral key. Takeover: `step`, `reason`, the tick and timestamp of the declaration, whether requests for the
partner's half are served, and, in a held start, the handback messages received. -/
structure PairSt where
  role      : PairRole
  idSentAt  : Option Nat
  ident     : List Word
  idSeen    : Bool
  peerDigest : Option (BitVec 384)
  beat      : List Word
  peerArmed : Bool
  peerHalted : Bool
  peerOffer : Nat
  ownOffer  : Nat
  beats     : Nat
  missed    : Nat
  gotBeat   : Bool
  beatAt    : Nat
  lastWin   : Nat
  txSeq     : Nat
  rxSeq     : Nat
  sent      : List MirMsg
  waiting   : List (List Word × Option Nat)
  early     : List (Nat × List Word)
  acked     : Option Nat
  chans     : Tbl MirChan
  config    : Tbl Word
  epoch     : Nat
  mirrored  : Nat
  share     : Option (Nat × List Byte)
  step      : PairStep
  reason    : Nat
  declared  : Nat
  declStamp : BitVec 48
  doubleStop : Bool
  serving   : Bool
  sleepSent : Bool
  joint     : Bool
  handWait  : Nat
  handMsgs  : List (List Word)
  lastBeat  : Bool
  deriving DecidableEq, Repr

/-- The repair map of one channel (R421): the DQ and command bits that its spares replace, 0xff for none, and its row and column
entries. -/
structure RepairMap where
  seq      : Nat
  dqSpare  : List Nat
  cmdSpare : Nat
  soft     : List (Nat × Nat)
  hard     : List (Nat × Nat × Bool)
  column   : List (Nat × Nat × Nat)
  deriving DecidableEq, Repr

/-- An empty repair map. -/
def RepairMap.init : RepairMap := ⟨0, [0xff, 0xff, 0xff, 0xff], 0xff, [], [], []⟩

/-- The stages of a row repair (R425, R428): the row is frozen and saved; SPPR waits for its refresh condition, is to issue,
and has issued; the row is restored and compared; the entry is recorded; HPPR is to issue, has issued, and is confirmed. -/
inductive RepairStage where
  | freezing | waiting | issuing | sppr | restoring | comparing | recording | hardIssue | hppr | hardDone
  deriving DecidableEq, Repr

/-- A repair operation in progress (R422 to R428). -/
structure RepairOp where
  op      : Nat
  ch      : Nat
  bank    : Nat
  row     : Nat
  col     : Nat
  dq      : Nat
  stage   : RepairStage
  second  : Bool
  buffer  : List (Option ArrayLine)
  since   : Nat
  bad     : Bool
  deriving DecidableEq, Repr

/-- A built-in test in progress (R430, R431); `abort` tells that ABORT was written, `pos` numbers its next transfer, and `res` holds
what its read bursts have shown. -/
structure Bist where
  ch    : Nat
  test  : Nat
  scope : Nat
  bank  : Nat
  back  : Nat
  abort : Bool
  pos   : Nat
  res   : BistResult
  deriving DecidableEq, Repr

/-- A loopback in progress (R434 to R436). `good` counts error-free blocks in a row and `bads` holds the errors of the
last 64 blocks, by lane; `gen` is the generator of each lane, `far` each lane's elastic buffer of mode FAR, oldest word first, and
`farOut` the word last sent upstream. -/
structure Loop where
  mode   : Nat
  course : Nat
  lanes  : Nat
  good   : Tbl Nat
  locked : Tbl Bool
  bads   : Tbl (List Bool)
  prbs   : Tbl (BitVec 31)
  hadErr : Nat
  gen    : Tbl (BitVec 31)
  far    : Tbl (List (BitVec 66))
  farOut : Tbl (Option (BitVec 66))
  deriving DecidableEq, Repr

/-- Repair, built-in test, loopback and the IEEE 1500 wrapper with its bypass and boundary registers (R421 to R438). -/
structure RprSt where
  maps     : Tbl RepairMap
  op       : Option RepairOp
  result   : Nat
  reason   : Nat
  corr     : Tbl (List (Nat × Nat))
  bist     : Option Bist
  bstate   : Nat
  bres     : BistResult
  bparam   : Nat
  loop     : Option Loop
  ir       : Nat
  cmResult : BitVec 56
  cmSram   : BitVec 32
  cmId     : BitVec 32
  wsStop   : Bool
  cmBusy   : Bool
  wby      : Bool
  boundary : BitVec 2505
  deriving DecidableEq, Repr

/-- The staging record of the inactive slot (R442). STATE is coded as R442 codes it. -/
structure Staging where
  seq    : Nat
  st     : Nat
  length : Nat
  bitmap : BitVec 768
  digest : BitVec 384
  deriving DecidableEq, Repr

/-- A command that arrives during an update restart and waits for the luthier of the new start-up (R452). -/
inductive LateCmd where
  | confirmReg (lo : Word)
  | confirm (digest : List Byte)
  | activate (digest : List Byte)
  | restart
  deriving DecidableEq, Repr

/-- Firmware update (R439 to R460). -/
structure UpdSt where
  stage0    : Staging
  result    : Nat
  lastCode  : Nat
  component : Nat
  readMap   : Bool
  busy      : Bool
  activate  : Option Nat
  restartAt : Option Nat
  cause     : Nat
  selfPass  : Bool
  testing   : Bool
  probFrom  : Option Nat
  probEnd   : Bool
  late      : List LateCmd
  deriving DecidableEq, Repr

/-- The tablature that the channel engines hold (R250, R251), and the core-die steppings that it lists as accepted (R106). -/
structure TabSt where
  rows    : Tbl (BitVec 64)
  entries : Tbl (BitVec 32)
  used    : Nat
  accept  : List Nat
  deriving DecidableEq, Repr

end Sys2Proof.Machine
end

