-- ==== Sys2Proof/Machine/State.lean ====
section
/-! DEFINITION. The state of the block, its faults and refusals, and its reset. -/

namespace Sys2Proof.Machine

/-- Why a step can stop. -/
inductive Fault where
  /-- Raised by every meaning whose command names a lane, course, channel, bank, domain or other unit that the spec
  does not give the part (`Instr.wellFormed` is false of it). Safe: no such event can reach the hardware. -/
  | noSuchUnit
  deriving DecidableEq, Repr

/-- Why a step can be refused. -/
inductive Refusal where
  /-- Raised by an arm of `exec` whose command has no meaning in the model yet. Safe. -/
  | notModelled (mnemonic : String)
  deriving DecidableEq, Repr

/-- The state of one instance of the block (R1, R2), unit by unit, and the queue of the commands that wait, first in,
first out. `free` counts the free values drawn so far (Config.free). -/
structure State where
  time    : TimeSt
  regs    : RegSt
  pins    : PinSt
  nvm     : NvmSt
  evt     : EvtSt
  flt     : FltSt
  link    : LinkSt
  trx     : TrxSt
  regul   : RegulSt
  chans   : Tbl Chan
  array   : Tbl (Option ArrayLine)
  tab     : TabSt
  capo    : CapoSt
  sensors : SensorSt
  sec     : SecSt
  cal     : CalSt
  pwr     : PwrSt
  boot    : BootSt
  pair    : PairSt
  rpr     : RprSt
  upd     : UpdSt
  free    : Nat
  pending : List Instr
  deriving DecidableEq, Repr

/-- An agent that does not request (R236). -/
def AgentSt.init : AgentSt := ⟨false, 0, none⟩

/-- A channel engine at power-good (CHN_WSEQ, CHN_STAT: nothing queued, no grant held, WSEQ_DRAINED 0xffff). -/
def Chan.init : Chan :=
  { reads := [], writes := [], hazard := [], batch := false, drain := false, wseqNext := 0, drained := 0xffff,
    outOfOrder := [], agents := .const AgentSt.init, holder := none, bursts := 0, xfer := none, insert := none,
    preempt := none, flights := [], captured := [], banks := .const Bank.init,
    sids := .const Sid.init, times := .const none, rowBus := none, colBus := none, slotNext := 0, band := 0,
    bandNew := 0, temp := 0, sweep := none, backlog := [], mitAsk := [], threshDue := [], tOld := 1024, tPrev := 1024, tSince := 0,
    statusDue := [], missed := [], sweepPtr := 0, acctSent := 0, acctDone := 0,
    acctHeld := 0, shareSent := 0, shareRet := 0, latchRead := none, kCount := 0, clock := 0,
    threadAt := none, insertAt := none, beatEnd := 0, prior := none, maskCut := false, g2 := none, g2Took := false, power := [],
    rest := .awake, lostRef := false, opening := [], rowBits := 0#40, colBits := 0#32, dieHold := false,
    pulling := false, lastHere := false, statusGot := [], sentGot := [], scrubGot := [], scrubBuf := [], strobes := 0 }

/-- A regulation context at power-good (R202, R474). -/
def Ctx.init : Ctx := ⟨0, 0, 0, 0, 0, 0, 0, 0, 0⟩

/-- The trims before any have been loaded. -/
def Trims.init : Trims :=
  ⟨0, 0, 0, [0, 0, 0, 0], List.replicate 40 0, List.replicate 40 0, List.replicate 40 0, List.replicate 8 0, [0, 0], 0,
    List.replicate 19 0, 0⟩

/-- Time at power-good (R64, R66). -/
def TimeSt.init : TimeSt := ⟨0, 0#48, []⟩

/-- The register store at power-good: every field at its reset value. -/
def RegSt.init : RegSt :=
  { shadow := .const 0#32, force := .const 0#32, sticky := .const 0#32, touched := .const 0#32,
    counters := .const 0#64, snapAcc := .const 0, latch := .const 0#32, posted := [], dropped := .const false,
    failed := .const false, stalled := [], epoch := 0, doneEpoch := 0, commits := [], results := .const ⟨0, 0, 0, 0⟩,
    tickets := .const 0, snapSeq := 0, snapBusy := false, snapMask := 0, snapStamp := 0#48, snapshot := .const 0#64,
    sumBusy := false, window := List.replicate 2048 0#8, views := .const 0, evtCopy := .const none,
    logCopy := .const [], smpValue := none, smpStatus := none, accSeen := false, nacked := none }

/-- The event recorder at power-good (R411). -/
def EvtSt.init : EvtSt := ⟨.const none, 0, [], 0, [], 0, 0, 0, false, false⟩

/-- The fault collector at power-good (R184: GENERATION counts from READY). -/
def FltSt.init : FltSt := ⟨[], [], false, 0, none, false, 0, 0, 0, 0, 0, .const 0#8, 0⟩

/-- The link at power-good: every course down, the host without credits (R144). -/
def LinkSt.init : LinkSt :=
  ⟨.const Lane.init, .const Course.init, ⟨2048, 0, 0, 2048, 0⟩, ⟨8192, 0, 0, 8192, 0⟩, ⟨64, 0, 0, 64, 0⟩, [], false⟩

/-- The transaction layer at power-good (R157: 4,096 read tags and 2,048 write tags). -/
def TrxSt.init : TrxSt :=
  ⟨[], 0, [], [], [], ⟨4096, 4096, 0, 0⟩, ⟨2048, 2048, 0, 0⟩, [], [], .const none, [], []⟩

/-- Regulation at power-good (R206: 6,144 slots; R222: 2,048 pool lines; FLOOR_NOW 700 GB/s). -/
def RegulSt.init : RegulSt := ⟨.const Ctx.init, 6144, 0, 0, 0, 0, false, false, 2800, 2800, 2800, [], 2048, 0, 0⟩

/-- The capo at power-good (CAP_NOW: B_EFF 56,000 tokens per µs, F_TELEM 100). -/
def CapoSt.init : CapoSt :=
  ⟨0, .const ⟨0, 0, 0, 0, 0, 0, []⟩, .const 0, .const 0, 56000, 0, 100, 0, false, none, none, [], 0, 0, 0, 0, 16,
    .const false⟩

/-- The sensors at power-good: nothing read yet. -/
def SensorSt.init : SensorSt := ⟨.const none, .const 0, .const false, .const false, [], none, 0⟩

/-- An SPDM connection at power-good. -/
def Spdm.init : Spdm := ⟨0, none, 0, none, none, []⟩

/-- Line protection at power-good: no key, no session (R319). -/
def SecSt.init (lock : Bool) : SecSt :=
  ⟨.const KeySlot.init, .const KeySlot.init, false, 0, ⟨0, 0#128⟩, none, 0, 0, none, lock, Spdm.init, Spdm.init, 0#384, 0#64, 0#384,
    .const 0, [], 0⟩

/-- Calibration at power-good: no reference, every group NOREF (R62, CAL_GSTATE). -/
def CalSt.init : CalSt :=
  ⟨15, .absent, 0, .const ⟨.noref, 0, 0, 0, none, 0, none, true, false, false⟩,
    .const ⟨0, Trims.init, Trims.init, 0, [], 0, 0, false, false, false, [], none, false, 0, 0, 0, 0#48⟩,
    .const ⟨false, false, false, 0, 0, 0, Trims.init, none⟩, .noref, false, 15⟩

/-- The power controller at power-good: D0 on, every other domain off (PWR_STATE0), every channel group DEEP
(PWR_CGSTATE). -/
def PwrSt.init : PwrSt :=
  ⟨⟨.resting .off true, [(0, .resting .on true)]⟩,
    .const ⟨.deep, 0, 0, none, none, .off⟩, .const none, 0, 0, 0, false, false⟩

/-- Start-up before power-good (SYS_BOOTSTAT: STAGE RESET). -/
def BootSt.init : BootSt :=
  ⟨.reset, .none, false, BootRec.init, none, 0, false, 0, 0#384, 0, false, 0, [], [], 0, 0, 0, 0, 0, false, false, none, []⟩

/-- The pair before negotiation (R112). -/
def PairSt.init : PairSt :=
  { role := .none, idSentAt := none, ident := [], idSeen := false, peerDigest := none, beat := [], peerArmed := false,
    peerHalted := false, peerOffer := 0, ownOffer := 0, beats := 0, missed := 0, gotBeat := false, beatAt := 0, lastWin := 0,
    txSeq := 0, rxSeq := 0, sent := [], waiting := [], early := [], acked := none,
    chans := .const ⟨0, 0, 0, 0, 0xffff, .const 0, [], none, [], 0⟩, config := .const 0#32, epoch := 0, mirrored := 0,
    share := none, step := .idle, reason := 0, declared := 0, declStamp := 0#48, doubleStop := false, serving := false,
    sleepSent := false, joint := false, handWait := 0, handMsgs := [], lastBeat := false }

/-- Repair and test at power-good. -/
def RprSt.init : RprSt :=
  ⟨.const RepairMap.init, none, 0, 0, .const [], none, 0, ⟨0, 0, 0, 0, 0⟩, 0, none, 0, 0#56, 0#32, 0#32, false, false, false, 0#2505⟩

/-- Update at power-good. -/
def UpdSt.init : UpdSt :=
  ⟨⟨0, 0, 0, 0#768, 0#384⟩, 0, 0, 0, false, false, none, none, 0, false, false, none, false, []⟩

/-- The channel engines' tablature before an image has been loaded. -/
def TabSt.init : TabSt := ⟨.const 0#64, .const 0#32, 0, []⟩

/-- The pins while PWR_GOOD is low (R28, R43): every CHn_RST_N low, FAULT_N released. -/
def PinSt.init (inst : Bool) : PinSt :=
  { pwrGood := false, instId := inst, nvmRdy := false, pswRdy := .const true, pswEn := .const false,
    chRst := .const false, regRdy := 0#3, regOcw := false, smpAck := false, smpIbi := false, smpAddr := none, svcAddr := none,
    svcAck := false, daa := none,
    brgFreq := false, brgFgnt := false, sfenced := false, brgXen := false, brgXrdy := false, txLock := .const false,
    wrstN := true }

/-- The volatile state of an instance while PWR_GOOD is low, over what survives it: the strap and BRG_SFENCED, the
MRAM, the OTP counter and the lock fuse (R43, R44). -/
def State.cold (pins : PinSt) (nvm : NvmSt) (free : Nat) (pending : List Instr) : State :=
  { time := TimeSt.init, regs := RegSt.init, pins := pins, nvm := nvm, evt := EvtSt.init, flt := FltSt.init,
    link := LinkSt.init, trx := TrxSt.init, regul := RegulSt.init, chans := .const Chan.init, array := .const none,
    tab := TabSt.init, capo := CapoSt.init, sensors := SensorSt.init, sec := SecSt.init nvm.lockFuse,
    cal := CalSt.init, pwr := PwrSt.init, boot := BootSt.init, pair := PairSt.init, rpr := RprSt.init,
    upd := UpdSt.init, free := free, pending := pending }

/-- The non-volatile memory of a new part as the model takes it (DESIGN CHOICE, log 2): nothing listed, no OTP fuse
burnt, LOCK not programmed. -/
def NvmSt.init : NvmSt := ⟨[], [], [], none, [], 0, false⟩

/-- The block right after reset: PWR_GOOD low, instance A, every register at its reset value, nothing in MRAM, no
command waiting. -/
def State.reset : State := State.cold (PinSt.init false) NvmSt.init 0 []

end Sys2Proof.Machine
end

