-- ==== Sys2Proof/WellFormed.lean ====
section
/-! DEFINITION. Well-formed commands: every operand names a unit that the spec gives the part, and every list has the
length the spec gives it. -/

namespace Sys2Proof

/-- A trims record has the lengths of R355. -/
def Trims.wellFormed (t : Trims) : Bool :=
  decide (t.fret < 128) && decide (t.pluck < 1024) && decide (t.drv < 13) && decide (t.sidDrv.length = 4) &&
    decide (t.vref.length = 40) && decide (t.wdeskew.length = 40) && decide (t.rdeskew.length = 40) &&
    decide (t.rstrobe.length = 8) && decide (t.wstrobe.length = 2) && decide (t.csPhase < 64) &&
    decide (t.cdeskew.length = 19) && decide (t.rdGate < 41)

/-- A training result names TSVs and SIDs that exist. -/
def TrainResult.wellFormed (r : TrainResult) : Bool :=
  r.trims.wellFormed && r.failedDq.all (fun d => decide (d < 36)) && r.failedCmd.all (fun d => decide (d < 18)) &&
    r.strobeSids.all (fun s => decide (s < 4))

/-- A start-up environment names words, domains, SIDs and sensors that exist. -/
def BootEnv.wellFormed (e : BootEnv) : Bool :=
  e.badWords.all (fun w => decide (w < 0x100000)) && e.deadDomain.all (fun d => decide (d < 24)) &&
    (e.idents ++ e.idents2).all (fun x => decide (x.sid < 128)) &&
    e.readings.all (fun r => decide (r.sensor < if r.base then 16 else 64))

/-- A built-in-test result fits its registers (R438). -/
def BistResult.wellFormed (r : BistResult) : Bool :=
  decide (r.failBursts < 0x1000000) && decide (r.firstBank < 64) && decide (r.firstRow < 32768) &&
    decide (r.firstCol < 16) && decide (r.dqFail < 0x1000000000)

/-- The units that a command names, each with how many of its kind there are: courses, lanes, cells of a flit, channels (the
partner's among them where the command reaches them), banks, SIDs, groups, domains, dies, sensors, tags and management tags, keys,
words and pages of the register window, slots of the log, and points of the progress monitor. -/
def Instr.units (i : Instr) : List (Nat × Nat) :=
  match i with
  | .pwrGoodRise _ | .pwrGoodFall | .nvmRdyTimeout | .nvmRdyFall | .nvmRdyRise _ | .nvmAck _ | .nvmAccessTimeout
  | .linkWaitTimeout | .droneTick | .dronePrimaryFail | .droneCheckerFail | .holdoverExpiry | .crWait | .routerAdmit
  | .windowRoll | .ageUnitExpiry | .commitCheck | .mapSwitch | .commitWaitExpiry | .smpSummaryRead | .saveComplete _
  | .smpAddressMatch _ | .sensorRound | .regIldReading _ | .telemRise | .regOcwRise | .regOcwFall | .ocwHoldExpiry
  | .statPoll | .linkEntryAcked | .mirIdentity _ | .pairAloneTimeout | .mirHeartbeat _ | .mirRefBase _
  | .mirBacklog _ | .mirKey _ | .mirRepair _ | .mirConfig _ | .mirTrims _ | .mirSleep _ | .mirPairkey _
  | .mirHandback _ | .mirrorNoackTimeout | .mirRxreqWake | .heartbeatWindowClose | .brgFgnt | .brgSfencedRise
  | .brgSfencedFall | .brgXrdy | .takeoverRetrainDone _ | .handbackDrained | .handbackAcked | .handbackWaitExpiry
  | .faultNPulseEnd | .persistDelayExpiry | .eventPersist | .logScanDone | .entropyRetest _ _ | .spprReady
  | .repairWaitExpiry | .tspprExpiry | .rowRestoreDone _ | .repairRecordWritten _ | .hpprCountExpiry | .bistEnd _
  | .wsBypass _ | .wsExtest _ | .wsIntest _ | .cmReg _ | .cmSram _ _ | .cmId | .svcOpen _ | .svcVerify
  | .verifyDone _ | .svcActivate _ | .svcAbort | .svcRestart | .svcConfirm _ | .svcReadBitmap
  | .updateRestartProceed _ | .followActivate | .selftestPass | .probationExpiry | .snapCaptureComplete => []
  | .trainingComplete ch _ | .trainingTimeout ch => [(ch, 32)]
  | .lnRxvFall c l | .lnRxvRise c l | .lnEqack c l | .laneBlockRx c l _ _ | .marker c l _ _ | .laneMap c _ l
  | .laneSwitch c _ l => [(c, 12), (l, 17)]
  | .idleFlitRx c _ _ | .msgFlitRx c _ _ _ | .courseDown c _ _ _ | .flitTx c | .replayTimeout c | .nakResend c
  | .retrainLimit c | .linkWake c | .flitCrcFailure c _ _ _ => [(c, 12)]
  | .rd c k _ | .wr c k _ _ | .wrp c k _ _ _ | .mask c k _ | .fadd64 c k _ _ | .cas64 c k _ _ | .fence c k _
  | .cfgrd c k _ | .cfgwr c k _ | .malformedMessage c k _ | .resync c k _ | .timeSet c k _ | .keyCreate c k _
  | .keyErase c k _ | .keyPersist c k _ => [(c, 12), (k, 30)]
  | .fenceComplete tag => [(tag, 2048)]
  | .summaryCapture mtag | .getVersion _ mtag | .getCapabilities _ mtag | .negotiateAlgorithms _ mtag _
  | .getDigests _ mtag | .keyExchange _ mtag _ _ | .finish _ mtag _ | .getEncapsulatedRequest _ mtag
  | .deliverEncapsulatedResponse _ mtag _ _ | .keyUpdate _ mtag _ | .endSession _ mtag | .respondIfReady _ mtag =>
    [(mtag, 64)]
  | .keyEraseComplete key _ => [(key, 2048)]
  | .getCertificate _ mtag slot offset len => [(mtag, 64), (slot, 8), (offset, 65536), (len, 65536)]
  | .challenge _ mtag slot _ => [(mtag, 64), (slot, 8)]
  | .getMeasurements _ mtag index => [(mtag, 64), (index, 65536)]
  | .rmwMerge tag writeSpace | .tagTimeout tag writeSpace | .quarantineEnd tag writeSpace =>
    [(tag, if writeSpace then 2048 else 4096)]
  | .sysCommit a _ | .sysSnap a | .sysSumctlCapture a | .sysSave a | .calRun a _ | .handback a | .fltFence a _
  | .fltUnfence a _ _ | .fltPinHold a _ | .fltPinRelease a _ | .secLock a | .softRow a _ | .hardRow a _ | .colAdd a _
  | .colRemove a _ | .bistStart a _ | .bistAbort a | .loopNesl a _ | .loopNepl a _ | .loopFar a _ | .loopOff a
  | .updConfirm a _ => [(a.course, 12)]
  | .groupApply g ch => [(g, 11), (ch, 32)]
  | .registerWrite a off _ | .sleepingDomainRead a off | .rcRead a off | .counterLowRead a off =>
    [(a.course, 12), (off, 524288)]
  | .postedWriteEffect page => [(page, 512)]
  | .sensorRead base sensor _ _ | .sensorAckTimeout base sensor => [(sensor, if base then 16 else 64)]
  | .pswRdyFall d | .entryConditionsMet d | .delayLimitExpiry d | .wakeReady d _ _ _ | .wakeTimerExpiry d
  | .wakeRetry d => [(d, 24)]
  | .dieWindowRoll die => [(die, 16)]
  | .agentRequest ch _ _ | .preemptionPoint ch | .tabRowIssue ch _ _ _ _ | .burstComplete ch _ _ _ | .readDataReturn ch _ _
  | .captureMiss ch | .slotTimerExpiry ch | .exitSweepEnd ch | .slewStep ch | .idlePeriod ch | .idleWaitExpiry ch
  | .retrainComplete ch _ => [(ch, 64)]
  | .statusResult ch sid _ | .mitlatchRx ch sid => [(ch, 64), (sid, 4)]
  | .bankIdleTimeout ch b | .hotPeriodExpiry ch b | .sentCheckResult ch b _ _ => [(ch, 64), (b, 64)]
  | .suspectScrubEnd ch b counted => [(ch, 64), (b, 64), (counted, 524288)]
  | .replicaWindowEnd g _ | .idleThresholdExpiry g _ => [(g, 16)]
  | .calRunComplete g _ fret _ _ => [(g, 16), (fret, 128)]
  | .calRetrain a ch _ | .refSusclr a ch => [(a.course, 12), (ch, 32)]
  | .pwrReqOn a d | .pwrReqRetention a d | .pwrReqOff a d | .pwrUnfence a d => [(a.course, 12), (d, 24)]
  | .mirrorAck seq | .mirrorResendTimeout seq => [(seq, 256)]
  | .progStall point => [(point, 34)]
  | .evtView a seq => [(a.course, 12), (seq, 2 ^ 32)]
  | .evtLogidx a slot => [(a.course, 12), (slot, 16384)]
  | .crsFence a c | .crsUnfence a c | .crsRetrain a c => [(a.course, 12), (c, 12)]
  | .entropyHealthFail test _ => [(test, 3)]
  | .svcBlock index _ _ => [(index, 65536)]

/-- What else the operands of a command hold has the lengths and ranges of the spec. -/
def Instr.partsOk (i : Instr) : Bool :=
  match i with
  | .pwrGoodRise env | .nvmRdyRise env | .updateRestartProceed env => env.wellFormed
  | .pwrGoodFall | .nvmRdyTimeout | .nvmRdyFall | .nvmAck _ | .nvmAccessTimeout | .trainingTimeout _
  | .linkWaitTimeout | .droneTick | .dronePrimaryFail | .droneCheckerFail | .holdoverExpiry | .lnRxvFall _ _
  | .lnRxvRise _ _ | .lnEqack _ _ | .laneBlockRx _ _ _ _ | .marker _ _ _ _ | .laneMap _ _ _ | .laneSwitch _ _ _
  | .flitTx _ | .replayTimeout _ | .nakResend _ | .crWait | .retrainLimit _ | .rd _ _ _ | .mask _ _ _
  | .fadd64 _ _ _ _ | .cas64 _ _ _ _ | .fence _ _ _ | .fenceComplete _ | .cfgrd _ _ _ | .cfgwr _ _ _
  | .malformedMessage _ _ _ | .resync _ _ _ | .summaryCapture _ | .timeSet _ _ _ | .keyCreate _ _ _ | .keyErase _ _ _
  | .keyEraseComplete _ _ | .keyPersist _ _ _ | .getVersion _ _ | .getCapabilities _ _ | .negotiateAlgorithms _ _ _
  | .getDigests _ _ | .getCertificate _ _ _ _ _ | .challenge _ _ _ _ | .getMeasurements _ _ _ | .keyExchange _ _ _ _
  | .finish _ _ _ | .getEncapsulatedRequest _ _ | .keyUpdate _ _ _ | .endSession _ _ | .respondIfReady _ _
  | .routerAdmit | .rmwMerge _ _ | .tagTimeout _ _ | .quarantineEnd _ _ | .windowRoll | .ageUnitExpiry
  | .sysCommit _ _ | .commitCheck | .groupApply _ _ | .mapSwitch | .commitWaitExpiry | .registerWrite _ _ _
  | .postedWriteEffect _ | .sleepingDomainRead _ _ | .rcRead _ _ | .counterLowRead _ _ | .sysSnap _
  | .sysSumctlCapture _ | .smpSummaryRead | .sysSave _ | .saveComplete _ | .smpAddressMatch _ | .sensorRound
  | .sensorRead _ _ _ _ | .sensorAckTimeout _ _ | .regIldReading _ | .telemRise | .regOcwRise | .regOcwFall
  | .ocwHoldExpiry | .pswRdyFall _ | .dieWindowRoll _ | .agentRequest _ _ _ | .preemptionPoint _
  | .tabRowIssue _ _ _ _ _ | .burstComplete _ _ _ _ | .captureMiss _ | .statusResult _ _ _ | .statPoll
  | .bankIdleTimeout _ _ | .slotTimerExpiry _ | .mitlatchRx _ _ | .hotPeriodExpiry _ _ | .exitSweepEnd _
  | .sentCheckResult _ _ _ _ | .suspectScrubEnd _ _ _ | .replicaWindowEnd _ _ | .slewStep _ | .idlePeriod _
  | .idleWaitExpiry _ | .calRun _ _ | .calRetrain _ _ _ | .refSusclr _ _ | .idleThresholdExpiry _ _
  | .entryConditionsMet _ | .delayLimitExpiry _ | .pwrReqOn _ _ | .pwrReqRetention _ _ | .pwrReqOff _ _
  | .linkEntryAcked | .wakeReady _ _ _ _ | .wakeTimerExpiry _ | .wakeRetry _ | .pwrUnfence _ _ | .linkWake _
  | .pairAloneTimeout | .mirrorAck _ | .mirrorResendTimeout _ | .mirrorNoackTimeout | .mirRxreqWake
  | .heartbeatWindowClose | .brgFgnt | .brgSfencedRise | .brgSfencedFall | .brgXrdy | .handback _ | .handbackDrained
  | .handbackAcked | .handbackWaitExpiry | .progStall _ | .faultNPulseEnd | .fltFence _ _ | .fltUnfence _ _ _
  | .fltPinHold _ _ | .fltPinRelease _ _ | .evtView _ _ | .evtLogidx _ _ | .persistDelayExpiry | .eventPersist
  | .logScanDone | .crsFence _ _ | .crsUnfence _ _ | .crsRetrain _ _ | .secLock _ | .entropyHealthFail _ _
  | .entropyRetest _ _ | .softRow _ _ | .spprReady | .repairWaitExpiry | .tspprExpiry | .rowRestoreDone _
  | .repairRecordWritten _ | .hardRow _ _ | .hpprCountExpiry | .colAdd _ _ | .colRemove _ _ | .bistStart _ _
  | .bistAbort _ | .loopNesl _ _ | .loopNepl _ _ | .loopFar _ _ | .loopOff _ | .wsBypass _ | .wsExtest _
  | .wsIntest _ | .cmReg _ | .cmSram _ _ | .cmId | .svcVerify | .verifyDone _ | .svcAbort | .svcRestart
  | .svcReadBitmap | .updConfirm _ _ | .followActivate | .selftestPass | .probationExpiry | .snapCaptureComplete => true
  | .trainingComplete _ res | .retrainComplete _ res | .bistEnd res => res.wellFormed
  | .idleFlitRx _ _ corrected | .courseDown _ _ _ corrected | .flitCrcFailure _ _ _ corrected =>
    corrected.all (fun i => decide (i < 512))
  | .msgFlitRx _ _ cells corrected => decide (cells.length = 30) && corrected.all (fun i => decide (i < 512))
  | .wr _ _ _ data | .wrp _ _ _ data _ => decide (data.length = 4)
  | .deliverEncapsulatedResponse _ _ _ root => decide (root.length = 48)
  | .readDataReturn _ damage _ => damage.all (fun p => decide (p.1 < 72))
  | .calRunComplete _ _ _ even odd => even.wellFormed && odd.wellFormed
  | .mirIdentity words | .mirHeartbeat words | .mirRefBase words | .mirBacklog words | .mirKey words
  | .mirRepair words | .mirConfig words | .mirTrims words | .mirSleep words | .mirPairkey words | .mirHandback words =>
    decide (words.length < 65536)
  | .takeoverRetrainDone failedChs => failedChs.all (fun i => decide (32 ≤ i) && decide (i < 64))
  | .svcOpen length => decide (length < 4294967296)
  | .svcBlock _ data _ => decide (data.length = 4096)
  | .svcActivate digest | .svcConfirm digest => decide (digest.length = 48)

/-- The command names only units that exist, and its other operands fit. -/
def Instr.wellFormed (i : Instr) : Bool := i.units.all (fun u => decide (u.1 < u.2)) && i.partsOk

end Sys2Proof
end

