-- ==== Sys2Proof/Machine/Ops.lean ====
section
/-! DEFINITION. The named operations that every unit uses: register fields and their values in
force, counters, sticky bits, memory (MRAM) bytes and words, domains, events and FAULT_N. -/

namespace Sys2Proof.Machine

/-- A Bool as 0 or 1. -/
def b2n (b : Bool) : Nat := match b with | true => 1 | false => 0

/-- Apply `f` only where `c` holds. -/
def when (c : Bool) (f : State → State) (s : State) : State :=
  match c with
  | true => f s
  | false => s

/-- Apply `f` for every member of a list, in order. -/
def forAll {α : Type} (l : List α) (f : α → State → State) (s : State) : State :=
  l.foldl (fun t a => f a t) s

/-- Apply `f` to the content of an option, where there is one. -/
def withSome {α : Type} (o : Option α) (f : α → State → State) (s : State) : State :=
  match o with
  | some a => f a s
  | none => s

/-- The elapsed ticks since power-good (R66). -/
def State.now (s : State) : Nat := s.time.elapsed

/-- Draw the next free value (log 3). -/
def State.freeVal (s : State) : BitVec 512 := Config.free s.free

/-- The state after a free value has been drawn. -/
def State.useFree (s : State) : State := { s with free := s.free + 1 }

/-! ### Register fields -/

/-- The byte offset in the window of a page, or of copy `n` of a replicated page (R463, R466). -/
def pageBase (p : Page) (n : Nat) : Nat :=
  match p with
  | .sys => 0x0
  | .pwr => 0x1000
  | .flt => 0x2000
  | .evt => 0x3000
  | .upd => 0x4000
  | .sec => 0x5000
  | .cap => 0x6000
  | .cal => 0x7000
  | .mir => 0x8000
  | .rpr => 0x9000
  | .crs => 0x10000 + 0x1000 * n
  | .lnk => 0x1c000
  | .trx => 0x20000
  | .reg => 0x21000
  | .rqm => 0x22000
  | .ctx => 0x30000 + 64 * n
  | .map => 0x40000
  | .chn => 0x80000 + 0x1000 * n
  | .tab => 0xa0000
  | .ref => 0xb0000
  | .mut => 0xb1000

/-- The byte offset of a field: page copy `n`, repetition `i`. -/
def Field.addr (f : Field) (n i : Nat) : Nat := pageBase f.page n + f.off + i * f.stride

/-- The masks of the STANDARD map profile (R194). -/
def stdMask (i : Nat) : Nat :=
  match i with
  | 0 => 0x00081010
  | 1 => 0x00102020
  | 2 => 0x00204040
  | 3 => 0x00408080
  | 4 => 0x00810100
  | _ => 0x01020200

/-- The refresh slot counts of the bands (R271). -/
def slotCount (b : Nat) : Nat :=
  match b with
  | 0 => 1460
  | 1 => 730
  | 2 => 365
  | 3 => 182
  | _ => 91

/-- The reset value of a field's repetition `i`. -/
def Field.resetAt (f : Field) (i : Nat) : Nat :=
  match f.page, f.off with
  | .map, 0x800 => stdMask i
  | .ref, 0x810 => slotCount i
  | _, _ => f.reset

/-- The value of the bits `hi : lo` of a word replaced by `v`. -/
def putBits (w : Word) (hi lo v : Nat) : Word :=
  (w &&& ~~~ (BitVec.ofNat 32 ((2 ^ (hi + 1 - lo) - 1) * 2 ^ lo))) |||
    BitVec.ofNat 32 (v % 2 ^ (hi + 1 - lo) * 2 ^ lo)

/-- The offset of a channel's own copy of an in-force word (R80: G2 and G4 take effect channel by channel). -/
def chanCopy (ch off : Nat) : Nat := 0x200000 * (ch % 32 + 1) + off

/-- A stored field value: the stored word holds the XOR with the reset value. -/
def stored (t : Tbl Word) (at0 : Nat) (f : Field) (i : Nat) : Nat :=
  fieldNat (t.get at0) f.hi f.lo ^^^ f.resetAt i

/-- PRESET in force of a page (R75). -/
def State.preset (s : State) (p : Page) (n : Nat) : Nat := fieldNat (s.regs.force.get (pageBase p n)) 7 0

/-- EXPERT_EN in force of a page (R75). -/
def State.expertEn (s : State) (p : Page) (n : Nat) : Bool := bitAt (s.regs.force.get (pageBase p n)) 8

/-- The profile tables of the chapters: the values that differ from the reset value, by page, preset and field place
(R77, R153, R219, R249, R194, R294, R295, R308, R362, R380, R419). -/
def profileEntry (p : Page) (preset off lo i : Nat) : Option Nat :=
  match p, preset, off, lo with
  | .lnk, 1, 0x800, 0 => some 32
  | .lnk, 1, 0x800, 14 => some 32
  | .lnk, 1, 0x800, 28 => some 6
  | .lnk, 1, 0x804, 0 => some 8
  | .lnk, 1, 0x804, 8 => some 4
  | .lnk, 2, 0x800, 0 => some 128
  | .lnk, 2, 0x800, 14 => some 128
  | .lnk, 2, 0x800, 28 => some 12
  | .lnk, 2, 0x808, 0 => some 1024
  | .reg, 1, 0x800, 0 => some 4
  | .reg, 1, 0x808, 0 => some 2
  | .reg, 1, 0x808, 5 => some 4
  | .reg, 1, 0x808, 10 => some 6
  | .reg, 1, 0x808, 15 => some 8
  | .reg, 1, 0x80c, 0 => some 10
  | .reg, 1, 0x80c, 5 => some 12
  | .reg, 1, 0x80c, 10 => some 16
  | .reg, 1, 0x810, 0 => some 768
  | .reg, 2, 0x800, 0 => some 16
  | .reg, 2, 0x808, 0 => some 6
  | .reg, 2, 0x808, 5 => some 10
  | .reg, 2, 0x808, 10 => some 12
  | .reg, 2, 0x808, 15 => some 13
  | .reg, 2, 0x80c, 0 => some 14
  | .reg, 2, 0x80c, 5 => some 16
  | .reg, 2, 0x80c, 10 => some 24
  | .reg, 2, 0x810, 0 => some 256
  | .chn, 1, 0x814, 0 => some 0
  | .chn, 2, 0x814, 0 => some 400
  | .chn, 2, 0x810, 16 => some 44
  | .chn, 2, 0x810, 0 => some 8
  | .chn, 2, 0x814, 20 => some 32
  | .chn, 2, 0x804, 0 => some 0x070f3f7f
  | .map, 1, 0x800, _ => some (0x80000 * 2 ^ i)
  | .ref, 1, 0x800, 24 => some 3
  | .mut, 1, 0x800, 0 => some 1
  | .mut, 1, 0x800, 8 => some 3
  | .mut, 2, 0x800, 0 => some 3
  | .cap, 1, 0x814, 0 => some 100
  | .cap, 1, 0x814, 8 => some 110
  | .cap, 1, 0x814, 16 => some 120
  | .cap, 1, 0x814, 24 => some 130
  | .cap, 2, 0x814, 0 => some 115
  | .cap, 2, 0x814, 8 => some 125
  | .cap, 2, 0x814, 16 => some 135
  | .cap, 2, 0x814, 24 => some 145
  | .cal, 1, 0x800, 0 => some 2
  | .cal, 1, 0x804, 0 => some 16384
  | .cal, 2, 0x800, 0 => some 8
  | .pwr, 1, 0x800, 0 => some 0
  | .pwr, 1, 0x800, 16 => some 0
  | .pwr, 1, 0x804, 0 => some 0
  | .pwr, 1, 0x804, 30 => some 0
  | .pwr, 2, 0x800, 0 => some 1
  | .pwr, 2, 0x800, 16 => some 200
  | .pwr, 2, 0x804, 0 => some 2000
  | .pwr, 2, 0x804, 31 => some 1
  | .flt, 1, 0x800, 0 => some 0x10
  | .flt, 2, 0x800, 31 => some 0
  | _, _, _, _ => none

/-- The value that a profile holds for an expert field (R77). -/
def profileValue (f : Field) (preset i : Nat) : Nat :=
  match profileEntry f.page preset f.off f.lo i with
  | some v => v
  | none => f.resetAt i

/-- A field's value in force (R77): a basic field as stored; an expert field as stored while EXPERT_EN is 1, and the
profile's value while it is 0. `n` is the page copy, `i` the repetition. -/
def State.rfn (s : State) (f : Field) (n i : Nat) : Nat :=
  if f.off < 0x800 || s.expertEn f.page n then stored s.regs.force (f.addr n i) f i
  else profileValue f (s.preset f.page n) i

/-- A field's value in force. -/
def State.rf (s : State) (f : Field) : Nat := s.rfn f 0 0

/-- A one-bit field's value in force. -/
def State.rfb (s : State) (f : Field) : Bool := s.rfn f 0 0 == 1

/-- The value in force on channel `ch` of a field of the TAB or REF page (R80, R268, R294). -/
def State.rfch (s : State) (f : Field) (ch : Nat) : Nat :=
  let mode := s.regs.force.get (chanCopy ch (pageBase f.page 0))
  if f.off < 0x800 || bitAt mode 8 then stored s.regs.force (chanCopy ch (f.addr 0 0)) f 0
  else profileValue f (fieldNat mode 7 0) 0

/-- A field's shadow. -/
def State.rsn (s : State) (f : Field) (n i : Nat) : Nat := stored s.regs.shadow (f.addr n i) f i

/-- Set the bits of an RW or view field, shadow and in force (they have one copy). -/
def State.putForce (s : State) (f : Field) (n i v : Nat) : State :=
  { s with regs := { s.regs with
      force := s.regs.force.upd (f.addr n i) (fun w => putBits w f.hi f.lo (v ^^^ f.resetAt i)) } }

/-- Set bits of a sticky (RC) field (R89). -/
def State.stickBits (s : State) (f : Field) (n v : Nat) : State :=
  { s with regs := { s.regs with
      sticky := s.regs.sticky.upd (f.addr n 0) (fun w => w ||| BitVec.ofNat 32 (v % 2 ^ (f.hi + 1 - f.lo) * 2 ^ f.lo)) } }

/-- Set a one-bit sticky field. -/
def State.stick (s : State) (f : Field) : State := s.stickBits f 0 1

/-- The value of a sticky field. -/
def State.sticky (s : State) (f : Field) (n : Nat) : Nat := fieldNat (s.regs.sticky.get (f.addr n 0)) f.hi f.lo

/-- Add to the 64-bit counter at a byte offset of the window; during a capture the increment collects in the counter's
12-bit pending accumulator (R83). -/
def State.countBy (s : State) (off k : Nat) : State :=
  { s with regs := match s.regs.snapBusy with
      | true => { s.regs with snapAcc := s.regs.snapAcc.upd off (· + k) }
      | false => { s.regs with counters := s.regs.counters.upd off (· + BitVec.ofNat 64 k) } }

/-- Add one to a counter. -/
def State.count (s : State) (off : Nat) : State := s.countBy off 1

/-! ### MRAM (R32, R90): a byte memory in one canonical form -/

/-- What a byte that nothing has written reads as (DESIGN CHOICE, log 2). -/
def memDefault : Byte := 0#8

/-- The size of the MRAM region in bytes (R90). -/
def memSize : Nat := 0x800000

/-- Read one byte. -/
def memRead (m : List Host.Cell) (a : Nat) : Byte :=
  match lookupEnt a m with
  | some b => b
  | none => memDefault

/-- Write one byte, keeping the canonical form: a byte equal to the default is not listed. -/
def memWrite (m : List Host.Cell) (a : Nat) (b : Byte) : List Host.Cell :=
  if b = memDefault then m.filter (fun e => e.1 != a) else insertEnt a b m

/-- The canonical form: addresses strictly rising, no entry equal to the default. -/
def Memory.wf : List Host.Cell → Bool
  | [] => true
  | [e] => e.2 != memDefault
  | e :: f :: l => (e.2 != memDefault) && decide (e.1 < f.1) && Memory.wf (f :: l)

/-- Write a string of bytes from an address on. -/
def memWriteBytes (m : List Host.Cell) (a : Nat) : List Byte → List Host.Cell
  | [] => m
  | b :: l => memWriteBytes (memWrite m a b) (a + 1) l

/-- Read `n` bytes from an address on. -/
def memReadBytes (m : List Host.Cell) (a n : Nat) : List Byte :=
  (List.range n).map (fun i => memRead m (a + i))

/-- Read the 64-bit word with NVM word address `w` (R90). -/
def memReadWord (m : List Host.Cell) (w : Nat) : BitVec 64 := BitVec.ofNat 64 (leNat (memReadBytes m (8 * w) 8))

/-- Write the 64-bit word with NVM word address `w`: whole or not at all (R33). -/
def memWriteWord (m : List Host.Cell) (w : Nat) (v : BitVec 64) : List Host.Cell :=
  memWriteBytes m (8 * (w % 0x100000)) (leBytes 8 v.toNat)

/-- Bytes of MRAM as the machine reads them. -/
def State.mram (s : State) (a n : Nat) : List Byte := memReadBytes s.nvm.mem a n

/-- NVM_ERR rose on no word of a byte range (R91). -/
def State.nvmClean (s : State) (a n : Nat) : Bool :=
  s.nvm.badWords.all (fun w => decide (w < a / 8) || decide ((a + n + 7) / 8 ≤ w))

/-- A record of `n` bytes at `a` is valid (R91). -/
def State.recordOk (s : State) (a n : Nat) : Bool := crcOk (s.mram a n) && s.nvmClean a n

/-- The 64-bit words of a byte string, from NVM word address `w` on. -/
def wordsOf (a : Nat) : List Byte → List (Nat × BitVec 64)
  | b0 :: b1 :: b2 :: b3 :: b4 :: b5 :: b6 :: b7 :: l =>
    (a / 8, BitVec.ofNat 64 (leNat [b0, b1, b2, b3, b4, b5, b6, b7])) :: wordsOf (a + 8) l
  | [] => []
  | l => [(a / 8, BitVec.ofNat 64 (leNat l))]

/-- Put a job on the NVM port, or among the deferred ones while NVM_RDY is low (R34). -/
def State.nvmJob (s : State) (why : NvmWhy) (write : Bool) (words : List (Nat × BitVec 64)) : State :=
  { s with nvm := match s.pins.nvmRdy with
      | true => { s.nvm with
          jobs := s.nvm.jobs ++ [⟨why, write, words⟩],
          reqSince := match s.nvm.reqSince with | none => some s.now | some t => some t }
      | false => { s.nvm with deferred := s.nvm.deferred ++ [⟨why, write, words⟩] } }

/-- Write a whole record at byte address `a` through the NVM port. -/
def State.nvmRecord (s : State) (why : NvmWhy) (a : Nat) (l : List Byte) : State := s.nvmJob why true (wordsOf a l)

/-- The first job of the NVM port that serves a purpose. -/
def State.jobFor (s : State) (p : NvmWhy → Bool) : Option NvmJob := s.nvm.jobs.find? (fun j => p j.why)

/-- Words of a record reach MRAM, each whole (R33). -/
def State.landWords (s : State) (l : List (Nat × BitVec 64)) : State :=
  { s with nvm := { s.nvm with
      mem := l.foldl (fun m w => memWriteWord m w.1 w.2) s.nvm.mem
      badWords := s.nvm.badWords.filter (fun b => !l.any (fun w => w.1 == b)) } }

/-- A list without its first member that satisfies `p`. -/
def dropFirst {α : Type} (p : α → Bool) : List α → List α
  | [] => []
  | a :: l => if p a then l else a :: dropFirst p l

/-- The record for a purpose has been written, or has failed: its words still to come land, or do not, and its job
ends. -/
def State.endJob (s : State) (p : NvmWhy → Bool) (ok : Bool) : State :=
  match s.jobFor p with
  | none => s
  | some j =>
    let t := when (ok && j.write) (fun t => t.landWords j.words) s
    { t with nvm := { t.nvm with jobs := dropFirst (fun j => p j.why) t.nvm.jobs } }

/-! ### Domains -/

/-- The state of domain `d` (R363). -/
def State.dom (s : State) (d : Nat) : Domain := s.pwr.doms.get d

/-- Domain `d` is on. -/
def State.domOn (s : State) (d : Nat) : Bool := (s.dom d).st == .on

/-- Change domain `d`. -/
def State.setDom (s : State) (d : Nat) (f : Domain → Domain) : State :=
  { s with pwr := { s.pwr with doms := s.pwr.doms.upd d f } }

/-- The domain of channel `ch` (R363: D8 + g). -/
def chDomain (ch : Nat) : Nat := 8 + ch % 32 / 2

/-- The line-protection domain of channel `ch`: D3 east, D4 west. -/
def lpDomain (ch : Nat) : Nat := if ch % 32 < 16 then 3 else 4

/-- An entry is refused with a reason code of R368 (R367, PWR_LAST). -/
def State.refuseEntry (s : State) (d reason : Nat) : State :=
  (({ s with pwr := { s.pwr with
      lastDom := d, lastReason := reason, refusals := min (s.pwr.refusals + 1) 65535 } } : State).count 0x1110).stick
    RF.PWR_REFUSED

/-- The domains that the power controller wakes before domain `d` (R363, column Woken first): D7 for a channel group that
wakes as from off, and D6 for a group of a pair that sleeps together (R396). -/
def State.wakeFirst (s : State) (d : Nat) : List Nat :=
  if d = 1 then [2]
  else if 8 ≤ d then (if (s.dom d).st = .off || (s.dom d).from0 then [7] else []) ++
    (if s.pair.role = .paired ∧ s.pair.joint then [6] else []) ++ [if d < 16 then 3 else 4]
  else []

/-- Domain `d` waits for a domain that is woken first and has not failed. -/
def State.wakeBlocked (s : State) (d : Nat) : Bool :=
  (s.wakeFirst d).any (fun e => !((s.dom e).st == .on) && !((s.dom e).st == .failed))

/-- A wake attempt of a domain begins: its wake timer is armed, and PSW_EN rises once the domains woken first are on
(R45, R363, R375). -/
def State.beginWake (s : State) (d : Nat) : State :=
  { s with
    pwr := { s.pwr with doms := s.pwr.doms.upd d (fun x => { x with wakeFrom := some s.now, retryAt := none }) }
    pins := { s.pins with pswEn := s.pins.pswEn.set d (!s.wakeBlocked d) } }

/-- Start-up lets a domain be woken: in ROM recovery mode every domain but D0, D5 and D7 stays off (R98). -/
def State.mayWake (s : State) (d : Nat) : Bool := s.boot.stage != .recovery || d == 5 || d == 7

/-- An access to one domain: it starts the wake of a domain that is not on and not failed, under the WAKE_TIMER and RETRIES of
that moment, joins a wake under way, and ends a DELAY with REFUSE, reason ACCESS (R367, R372, R380). -/
def State.wakeOne (s : State) (d : Nat) : State :=
  match (s.dom d).st, (s.dom d).wakeFrom with
  | .on, _ =>
    match (s.dom d).delay with
    | some _ => (s.setDom d (fun x => { x with delay := none, refused := true })).refuseEntry d 1
    | none => s
  | .failed, _ => s
  | _, some _ => s
  | st, none =>
    if s.mayWake d then
      (s.setDom d (fun x => { x with
        tries := 0, from0 := decide (st = .off), cold := false, timer := s.rf RF.PWR_WAKE_TIMER,
          limit := s.rf RF.PWR_RETRIES })).beginWake d
    else s

/-- An access to a domain, with the domains woken first (R363, R372). -/
def State.wake (s : State) (d : Nat) : State :=
  match (s.dom d).st with
  | .on => s.wakeOne d
  | _ => forAll (s.wakeFirst d ++ [d]) (fun e t => t.wakeOne e) s

/-! ### FAULT_N (R408) -/

/-- One assertion of FAULT_N: it counts, drives the pin low for PULSE_TICKS from now, and sets DRIVE with LATCH set. -/
def State.assertPin (s : State) : State :=
  { s with flt := { s.flt with
      asserts := (s.flt.asserts + 1) % 2 ^ 32,
      pulseEnd := some (s.now + s.rf RF.FLT_PULSE_TICKS),
      drive := s.flt.drive || s.rfb RF.FLT_LATCH } }

/-- The severities that assert FAULT_N; bit 4 always reads 1 (R408). -/
def State.assertsOn (s : State) (sev : Nat) : Bool := sev == 4 || (s.rf RF.FLT_ASSERT_MASK).testBit sev

/-- FAULT_N is driven low (R406, R408). -/
def State.pinLow (s : State) : Bool := s.flt.pulseEnd.isSome || s.flt.drive || s.flt.fatal

/-! ### Events (R411 to R416) -/

/-- A payload of 12 bytes from its fields: first byte, length in bytes, value (R418). -/
def payload (l : List (Nat × Nat × Nat)) : BitVec 96 :=
  BitVec.ofNat 96 (l.foldl (fun x f => x + f.2.2 % 2 ^ (8 * f.2.1) * 2 ^ (8 * f.1)) 0)

/-- An event equals a record (R413). -/
def EvRec.same (r e : EvRec) : Bool :=
  r.source == e.source && r.code == e.code && r.sev == e.sev && r.partner == e.partner && r.payload == e.payload

/-- The newest record of the ring. -/
def State.newest (s : State) : Option EvRec := if s.evt.head = 0 then none else s.evt.ring.get (s.evt.head % 4096)

/-- The code of FATAL. -/
def evFatal : Nat := 0x0205

/-- The code of START. -/
def evStart : Nat := 0x0101

/-- A record joins the persistence queue: FATAL ahead of the other records (R406), START alone before it (R417). -/
def joinQueue (l : List EvRec) (r : EvRec) : List EvRec :=
  if r.code = evFatal then l.takeWhile (fun e => e.code == evStart) ++ r :: l.dropWhile (fun e => e.code == evStart) else l ++ [r]

/-- Queue a record for persistence, once (R415): a queue of 64 that is full drops it. -/
def State.queueRec (s : State) (r : EvRec) : State :=
  let t : State := { s with evt := { s.evt with ring := s.evt.ring.set (r.seq % 4096) (some { r with queued := true }) } }
  if s.evt.queue.length < 64 then
    ({ t with evt := { t.evt with queue := joinQueue s.evt.queue { r with queued := true } } } : State).wake 7
  else (t.count 0x3118).stick RF.EVT_PERSIST_LOST

/-- A record is to be persisted and does not wait yet (R400, R415). -/
def State.persists (s : State) (r : EvRec) : Bool := !r.queued && (r.kept || decide (s.rf RF.EVT_PERSIST_MIN ≤ r.sev))

/-- Queue the newest record when it stops being the newest (R415). -/
def State.retireNewest (s : State) : State :=
  match s.newest with
  | some r => if s.persists r then s.queueRec r else s
  | none => s

/-- Put a record into the ring: merged into an equal newest record, or as a new one (R412, R413). A FATAL record is queued at once,
so that it is persisted before any other record that waits (DEDUCED from R406; log 98). -/
def State.pushRec (s : State) (e : EvRec) : State :=
  match s.newest.filter (fun r => r.same e && decide (r.rep < 65535) && !r.queued) with
  | some r =>
    (({ s with evt := { s.evt with
        ring := s.evt.ring.set (r.seq % 4096) (some { r with rep := r.rep + 1 }) } } : State)).count 0x3108
  | none =>
    let t := s.retireNewest
    let q := t.evt.head + 1
    let u := when (t.evt.ring.get (q % 4096)).isSome (fun t => t.count 0x3120) t
    let r : EvRec := { e with seq := q, born := s.now }
    let u := ({ u with evt := { u.evt with head := q, ring := u.evt.ring.set (q % 4096) (some r) } } : State).count 0x3100
    when (e.code == evFatal) (fun t => t.queueRec r) u

/-- Record an event: through the ring while D5 is on, otherwise into the 16-record event hold, which wakes D5 (R372).
The event's severity sets SEV_SEEN and may assert FAULT_N (R408). -/
def State.eventP (s : State) (partner : Bool) (source code sev : Nat) (pl : BitVec 96) : State :=
  let e : EvRec := ⟨0, s.time.stamp, source, code, sev, false, partner, 0, pl, false, s.now, false⟩
  let t := when (s.assertsOn sev) State.assertPin (s.stickBits RF.FLT_SEV_SEEN 0 (2 ^ sev))
  match t.domOn 5 with
  | true => (t.wakeOne 5).pushRec e
  | false =>
    if t.evt.hold.length < 16 then
      (({ t with evt := { t.evt with hold := t.evt.hold ++ [{ e with held := true }] } } : State)).wake 5
    else (({ t with evt := { t.evt with holdLost := t.evt.holdLost + 1 } } : State).count 0x1128).stick RF.PWR_HOLD_LOST

/-- Record an event of this instance. -/
def State.event (s : State) (source code sev : Nat) (pl : List (Nat × Nat × Nat)) : State :=
  s.eventP false source code sev (payload pl)

/-- NVM_FAIL (R32, R34): the word address, whether NVM_ERR rose, and whether the access was a write. -/
def State.nvmFail (s : State) (addr : Nat) (err write : Bool) : State :=
  s.event 0x85 0x0901 2 [(0, 4, addr), (4, 1, b2n err + 2 * b2n write)]

/-- Bytes of MRAM are read through the NVM port: NVM_FAIL for each of their words on which NVM_ERR rises (R32). -/
def State.readsOf (s : State) (a n : Nat) : State :=
  forAll (s.nvm.badWords.filter (fun w => decide (a / 8 ≤ w) && decide (w < (a + n + 7) / 8))) (fun w t => t.nvmFail w true false) s

/-- The last member of a list that satisfies `p` is changed by `f`. -/
def updLast {α : Type} (p : α → Bool) (f : α → α) (l : List α) : List α :=
  match l.reverse.findIdx? p with
  | some k => l.modify (l.length - 1 - k) f
  | none => l

/-- The event that recorded the cause of a fault of severity 3 or 4 is persisted whatever its own severity (R400): the latest record
that `p` knows it by, in the event hold or in the ring. -/
def State.keepCause (s : State) (p : EvRec → Bool) : State :=
  if s.evt.hold.any p then
    { s with evt := { s.evt with hold := updLast p (fun e => { e with kept := true }) s.evt.hold } }
  else
    match (s.evt.ring.ents.filterMap (fun e => e.2.filter p)).foldl (fun b r =>
        match b with
        | some x => if (x : EvRec).seq < r.seq then some r else b
        | none => some r) none with
    | some r => if r.queued then s else s.queueRec r
    | none => s

/-- Move the event hold into the ring, in the order raised and before any later event (R412), with the count of the
records that found it full (R372). -/
def State.flushHold (s : State) : State :=
  let lost := s.evt.holdLost
  let t := forAll s.evt.hold (fun e t => t.pushRec e) { s with evt := { s.evt with hold := [], holdLost := 0 } }
  when (decide (0 < lost)) (fun t => t.event 1 0x0106 1 [(0, 2, lost)]) t

/-- The 32 bytes of a record (R411), with its number in bytes 0 to 3. -/
def EvRec.bytes (r : EvRec) (seq : Nat) : List Byte :=
  withCrc (leBytes 4 seq ++ leBytes 6 r.time.toNat ++ leBytes 1 r.source ++ leBytes 2 r.code ++
    leBytes 1 (r.sev + (if r.held then 8 else 0) + (if r.partner then 16 else 0)) ++ leBytes 2 r.rep ++
    leBytes 12 r.payload.toNat)

end Sys2Proof.Machine
end

