-- ==== Sys2Proof/Machine/Operands.lean ====
section
/-! DEFINITION. The operand forms: the fields of a request header (R155), the cells of responses (R163 to R168), the
location of a line (R191), and the fields of the flit header (R128). -/

namespace Sys2Proof.Machine

/-- One more correction at a tick: the counts of the last 1,024 drone ticks, newest first (R147, R423). -/
def corrMore (now : Nat) (l : List (Nat × Nat)) : List (Nat × Nat) :=
  let kept := l.filter (fun p => decide (now < p.1 + 1024))
  match kept with
  | (t, n) :: rest => if t = now then (t, n + 1) :: rest else (now, 1) :: kept
  | [] => [(now, 1)]

/-! ### Request headers (R155) -/

/-- OPCODE. -/
def hOp (h : Cell) : Nat := fieldNat h 5 0
/-- LEN: lines of an RD minus one. -/
def hLen (h : Cell) : Nat := fieldNat h 7 6
/-- TAG. -/
def hTag (h : Cell) : Nat := fieldNat h 19 8
/-- RQID. -/
def hRqid (h : Cell) : Nat := fieldNat h 31 20
/-- KEYID. -/
def hKey (h : Cell) : Nat := fieldNat h 42 32
/-- PRIV. -/
def hPriv (h : Cell) : Bool := bitAt h 43
/-- SECURE. -/
def hSecure (h : Cell) : Bool := bitAt h 44
/-- RT. -/
def hRt (h : Cell) : Bool := bitAt h 45
/-- LADDR, 34 bits. -/
def hLaddr (h : Cell) : Nat := fieldNat h 81 48
/-- MPTR. -/
def hMptr (h : Cell) : Nat := fieldNat h 86 82
/-- WORD. -/
def hWord (h : Cell) : Nat := fieldNat h 90 88
/-- DATA32. -/
def hData (h : Cell) : Nat := fieldNat h 127 96
/-- The 19-bit word offset of CFGRD and CFGWR. -/
def hOffset (h : Cell) : Nat := fieldNat h 66 48

/-- The opcodes of R154 that name a memory request. -/
def isMemory (op : Nat) : Bool := op == 0x01 || op == 0x02 || op == 0x03 || op == 0x08 || op == 0x09

/-- The opcodes that use the write tag space (R157). -/
def inWriteSpace (op : Nat) : Bool := op == 0x02 || op == 0x03 || op == 0x0c || op == 0x11

/-- The requests that write: WR, WRP and the atomics. -/
def isWrite (op : Nat) : Bool := op == 0x02 || op == 0x03 || op == 0x08 || op == 0x09

/-- The read-modify-writes of R159. -/
def isRmw (op : Nat) : Bool := op == 0x03 || op == 0x08 || op == 0x09

/-- Every reserved field and every field that its opcode leaves zero is zero (R155). -/
def reservedOk (h : Cell) : Bool :=
  let op := hOp h
  fieldNat h 47 46 == 0 && fieldNat h 87 87 == 0 && fieldNat h 95 91 == 0 &&
    (op == 0x11 || hData h == 0) && (op == 0x08 || op == 0x09 || hWord h == 0) && (op == 0x03 || hMptr h == 0) &&
    (op == 0x01 || hLen h == 0) && (!(op == 0x10 || op == 0x11) || fieldNat h 81 67 == 0)

/-- The number of cells of a downstream message, by its opcode and NCELLS (R154, R162); none for an unknown opcode. -/
def msgCells (h : Cell) : Option Nat :=
  match hOp h with
  | 0x01 => some 1
  | 0x02 => some 5
  | 0x03 => some 5
  | 0x04 => some 1
  | 0x08 => some 2
  | 0x09 => some 2
  | 0x0c => some 1
  | 0x10 => some 1
  | 0x11 => some 1
  | 0x20 => some (fieldNat h 28 24)
  | _ => none

/-! ### Management headers (R162) -/

/-- SUBTYPE. -/
def mSub (h : Cell) : Nat := fieldNat h 23 16
/-- MTAG. -/
def mTag (h : Cell) : Nat := fieldNat h 13 8
/-- NCELLS. -/
def mCells (h : Cell) : Nat := fieldNat h 28 24
/-- The reserved bits of a MGMT header outside PAYLOAD are zero. -/
def mReservedOk (h : Cell) : Bool := fieldNat h 31 29 == 0 && fieldNat h 15 14 == 0 && fieldNat h 7 6 == 0

/-! ### Responses -/

/-- A cell from its fields: lowest bit, width, value. -/
def cellOf (l : List (Nat × Nat × Nat)) : Cell :=
  BitVec.ofNat 128 (l.foldl (fun x f => x + f.2.2 % 2 ^ f.2.1 * 2 ^ f.1) 0)

/-- The header cell of RDATA (R163). -/
def rdataHdr (tag status idx ch drained : Nat) (last wv : Bool) (wseq : Nat) : Cell :=
  cellOf [(0, 6, 0x30), (6, 2, status), (8, 12, tag), (21, 1, b2n wv), (22, 1, b2n last), (23, 6, ch), (29, 2, idx),
    (32, 16, wseq), (48, 16, drained)]

/-- The short form of RDATA (R163), which answers a CFGRD. No channel is served there: CH and DRAINED are 0 (DESIGN CHOICE, log
115). -/
def rdataShort (tag val : Nat) : Cell := cellOf [(0, 6, 0x30), (8, 12, tag), (22, 1, 1), (31, 1, 1), (64, 32, val)]

/-- WACK (R164). -/
def wackCell (tag ch drained : Nat) (wv : Bool) (wseq : Nat) : Cell :=
  cellOf [(0, 6, 0x31), (8, 12, tag), (21, 1, b2n wv), (23, 6, ch), (32, 16, wseq), (48, 16, drained)]

/-- WACK of a management tag (R164). -/
def wackMt (mtag : Nat) : Cell := cellOf [(0, 6, 0x31), (8, 6, mtag), (20, 1, 1)]

/-- ERR (R166). -/
def errCell (code tag lines detail : Nat) (mt notice : Bool) : Cell :=
  cellOf [(0, 6, 0x32), (6, 1, b2n notice), (7, 1, b2n mt), (8, 12, tag), (20, 4, lines), (24, 8, code),
    (32, 32, detail)]

/-- The header of one SUMMARY part (R168). -/
def summaryHdr (mtag part gen : Nat) (last : Bool) : Cell :=
  cellOf [(0, 6, 0x33), (8, 6, mtag), (20, 3, part), (23, 1, b2n last), (24, 32, gen)]

/-- The ERR codes of R167. -/
inductive ErrCode where
  | notReady | timeout | fenced | addr | format | privilege | key | tagBusy | clearLink | wakeFail | uncorrectable
  | quarEnd
  deriving DecidableEq, Repr

/-- The number of an ERR code. -/
def ErrCode.num : ErrCode → Nat
  | .notReady => 1
  | .timeout => 2
  | .fenced => 3
  | .addr => 4
  | .format => 5
  | .privilege => 6
  | .key => 7
  | .tagBusy => 8
  | .clearLink => 9
  | .wakeFail => 10
  | .uncorrectable => 11
  | .quarEnd => 12

/-- The four data cells of a line (R158). -/
def lineCells (d : BitVec 512) : List Cell := (List.range 4).map (fun i => d.extractLsb' (128 * i) 128)

/-- The line that four data cells hold (R158). -/
def cellsLine (l : List Cell) : BitVec 512 :=
  BitVec.ofNat 512 (l.foldr (fun c x => c.toNat + 2 ^ 128 * x) 0)

/-- The bytes of `new` where the mask bit is 1, of `old` elsewhere (R158). -/
def mergeBytes (old new : BitVec 512) (mask : BitVec 64) : BitVec 512 :=
  let m := (List.range 64).foldl (fun (x : BitVec 512) j => if mask.getLsbD j then x ||| (255#512 <<< (8 * j)) else x) 0#512
  (old &&& ~~~ m) ||| (new &&& m)

/-- The 64-bit word `w` of a line. -/
def lineWord (d : BitVec 512) (w : Nat) : BitVec 64 := d.extractLsb' (64 * w) 64

/-- A line with its 64-bit word `w` replaced. -/
def putWord (d : BitVec 512) (w : Nat) (v : BitVec 64) : BitVec 512 :=
  (d &&& ~~~ ((0xffffffffffffffff#512) <<< (64 * w))) ||| ((v.setWidth 512) <<< (64 * w))

/-! ### The location of a line (R191, R192) -/

/-- The channels of a SERVE mask, lowest first. -/
def serveList (serve : Nat) : List Nat := (List.range 32).filter (fun i => serve.testBit i)

/-- Parity of a number's 30 low bits. -/
def parity30 (v : Nat) : Bool := ((List.range 30).filter (fun i => v.testBit i)).length % 2 == 1

/-- Where a line lies: channel, channel-local line address d, bank number b = 16 SID + 4 BG + BA, row, column. -/
structure Loc where
  ch   : Nat
  d    : Nat
  bank : Nat
  row  : Nat
  col  : Nat
  deriving DecidableEq, Repr

/-- The map of R191; none for a line that is not served (R192). -/
def mapLine (grain serve : Nat) (masks : Nat → Nat) (l : Nat) : Option Loc :=
  let n := (serveList serve).length
  if l < n * 2 ^ 25 then
    let c := l / 2 ^ grain
    let ch := (serveList serve).getD (c % n) 0
    let d := c / n * 2 ^ grain + l % 2 ^ grain
    let v := d + ch * 2 ^ 25
    let bit := fun i => b2n (parity30 (v &&& masks i))
    some ⟨ch, d, 16 * (bit 4 + 2 * bit 5) + (bit 0 + 2 * bit 1 + 4 * bit 2 + 8 * bit 3), d / 16 % 32768, d % 16⟩
  else none

/-- The location of an own line under the map in force (R191). -/
def State.ownLoc (s : State) (l : Nat) : Option Loc :=
  mapLine (s.rf RF.MAP_GRAIN) (s.rf RF.MAP_SERVE) (fun i => s.rfn RF.MAP_MASK 0 i) l

/-- A word of the partner's configuration as last mirrored (R381). -/
def State.peerWord (s : State) (off : Nat) : Word := s.pair.config.get off

/-- A word of the partner's map as the MAP page shows it: zero outside double-stop mode (R201). -/
def State.shownPeer (s : State) (off : Nat) : Nat := if s.pair.doubleStop then (s.peerWord off).toNat else 0

/-- The location of a partner line under the partner's map as last mirrored (R200); channels 32 to 63. -/
def State.peerLoc (s : State) (l : Nat) : Option Loc :=
  (mapLine (fieldNat (s.peerWord 0x40004) 2 0) (s.peerWord 0x40008).toNat
    (fun i => (s.peerWord (0x40800 + 4 * i)).toNat) l).map (fun x => { x with ch := x.ch + 32 })

/-- The location of a line from LADDR bits 30:0 (R156, R200). -/
def State.loc (s : State) (laddr : Nat) : Option Loc :=
  if laddr < 2 ^ 30 then s.ownLoc laddr else s.peerLoc (laddr - 2 ^ 30)

/-- The LADDR of line `i` of a request. -/
def lineAddr (h : Cell) (i : Nat) : Nat := hLaddr h + i

/-- The domains that a request's unanswered lines need (R363). -/
def State.domainsOf (s : State) (r : Req) : List Nat :=
  (r.left.flatMap (fun i => match s.loc (lineAddr r.hdr i) with
    | some l => [lpDomain l.ch, chDomain l.ch]
    | none => [])).eraseDups

/-- The channels of a request's unanswered lines. -/
def State.channelsOf (s : State) (r : Req) : List Nat :=
  (r.left.filterMap (fun i => (s.loc (lineAddr r.hdr i)).map (fun l => l.ch))).eraseDups

/-- The lines of a request. -/
def linesOf (h : Cell) : Nat := if hOp h = 0x01 then hLen h + 1 else 1

/-- The index of a line in the core-die array: channel, bank, row and column. -/
def arrayKey (ch bank row col : Nat) : Nat := ((ch * 64 + bank) * 32768 + row) * 16 + col

/-! ### Flit headers (R128) -/

/-- FTYPE. -/
def fType (h : BitVec 64) : Nat := fieldNat h 63 60
/-- SEQ. -/
def fSeq (h : BitVec 64) : Nat := fieldNat h 59 48
/-- ACK. -/
def fAck (h : BitVec 64) : Nat := fieldNat h 47 36
/-- ACK_KIND. -/
def fKind (h : BitVec 64) : Nat := fieldNat h 35 34
/-- KEY_EPOCH. -/
def fEpoch (h : BitVec 64) : Nat := fieldNat h 11 4

/-- A flit header from its fields (R128). -/
def flitHdr (ftype seq ack kind crReq crWd crMgt epoch : Nat) : BitVec 64 :=
  BitVec.ofNat 64 (epoch % 256 * 2 ^ 4 + crMgt % 16 * 2 ^ 12 + crWd % 1024 * 2 ^ 16 + crReq % 256 * 2 ^ 26 +
    kind % 4 * 2 ^ 34 + ack % 4096 * 2 ^ 36 + seq % 4096 * 2 ^ 48 + ftype % 16 * 2 ^ 60)

/-- Extend a 12-bit field to the extended count nearest an expectation (R134). -/
def extend (expect v : Nat) : Nat :=
  let base := expect / 4096 * 4096 + v % 4096
  if expect + 2048 ≤ base ∧ 4096 ≤ base then base - 4096
  else if base + 2048 < expect then base + 4096 else base

end Sys2Proof.Machine
end

