-- ==== Sys2Proof/Machine/TrxOps.lean ====
section
/-! DEFINITION. The shared operations of the transaction layer (07_rila_transactions): upstream messages, tags, slots,
pool lines and credits as they are taken and given back, and the answers to a request. -/

namespace Sys2Proof.Machine

/-! ### Upstream messages -/

/-- Queue an upstream message behind those not yet placed in a flit (R146). -/
def State.sendUp (s : State) (cells : List Cell) (done : Completes) (fenceOf : Option Nat) : State :=
  { s with link := { s.link with upQ := s.link.upQ ++ [⟨cells, done, fenceOf, false⟩] } }

/-- An upstream MGMT message of one subtype with a payload (R162). -/
def mgmtCell (sub mtag ncells payload : Nat) : Cell :=
  cellOf [(0, 6, 0x20), (8, 6, mtag), (16, 8, sub), (24, 5, ncells), (32, 96, payload)]

/-! ### Tags (R169, R172) -/

/-- A free tag becomes outstanding. -/
def TagAcct.take (a : TagAcct) : TagAcct := { a with free := a.free - 1, outstanding := a.outstanding + 1 }

/-- An outstanding tag becomes free. -/
def TagAcct.give (a : TagAcct) : TagAcct := { a with free := a.free + 1, outstanding := a.outstanding - 1 }

/-- An outstanding tag enters quarantine. -/
def TagAcct.quarIn (a : TagAcct) : TagAcct :=
  { a with outstanding := a.outstanding - 1, quarantined := a.quarantined + 1 }

/-- A quarantined tag becomes free. -/
def TagAcct.quarOut (a : TagAcct) : TagAcct := { a with quarantined := a.quarantined - 1, free := a.free + 1 }

/-- Change the router account of one tag space. -/
def State.acct (s : State) (write : Bool) (f : TagAcct → TagAcct) : State :=
  { s with trx := match write with
      | true => { s.trx with wrAcct := f s.trx.wrAcct }
      | false => { s.trx with rdAcct := f s.trx.rdAcct } }

/-- A request names this tag. -/
def Req.names (r : Req) (write : Bool) (tag : Nat) : Bool :=
  inWriteSpace (hOp r.hdr) == write && hTag r.hdr == tag

/-- The tag is outstanding or quarantined (R169). -/
def State.tagBusy (s : State) (write : Bool) (tag : Nat) : Bool :=
  s.trx.reqs.any (fun r => r.names write tag) || s.trx.respond.contains (write, tag) ||
    s.trx.quar.any (fun q => q.write == write && q.tag == tag)

/-- A management tag is outstanding. -/
def State.mtagBusy (s : State) (mtag : Nat) : Bool := s.trx.mgtOut.contains mtag

/-- A request with this number. -/
def State.req (s : State) (uid : Nat) : Option Req := s.trx.reqs.find? (fun r => r.uid == uid)

/-- The outstanding request that names a tag. -/
def State.reqOf (s : State) (write : Bool) (tag : Nat) : Option Req := s.trx.reqs.find? (fun r => r.names write tag)

/-- Change one request. -/
def State.setReq (s : State) (uid : Nat) (f : Req → Req) : State :=
  { s with trx := { s.trx with reqs := s.trx.reqs.map (fun r => if r.uid = uid then f r else r) } }

/-- Forget one request. -/
def State.dropReq (s : State) (uid : Nat) : State :=
  { s with trx := { s.trx with reqs := s.trx.reqs.filter (fun r => r.uid != uid) } }

/-! ### Credits and pool lines (R144, R145, R222) -/

/-- Cells of the request class are freed and become pending returns. -/
def State.freeReqCells (s : State) (n : Nat) : State :=
  { s with link := { s.link with req := { s.link.req with
      consumed := s.link.req.consumed - n, pending := s.link.req.pending + n } } }

/-- Cells of the write-data class are freed. -/
def State.freeWdCells (s : State) (n : Nat) : State :=
  { s with link := { s.link with wd := { s.link.wd with
      consumed := s.link.wd.consumed - n, pending := s.link.wd.pending + n } } }

/-- Cells of the management class are freed. -/
def State.freeMgtCells (s : State) (n : Nat) : State :=
  { s with link := { s.link with mgt := { s.link.mgt with
      consumed := s.link.mgt.consumed - n, pending := s.link.mgt.pending + n } } }

/-- The write-data cells of an opcode (R154). -/
def wdCells (op : Nat) : Nat := if op = 0x02 ∨ op = 0x03 then 4 else if op = 0x08 ∨ op = 0x09 then 1 else 0

/-- The oldest write that waits with its cells for a pool line. -/
def State.poolWaiter (s : State) : Option Req :=
  s.trx.reqs.find? (fun r => isWrite (hOp r.hdr) && !r.pool &&
    (match r.stage with | .sent _ => false | _ => true))

/-- A write takes a free pool line, and its cells become pending returns (R222). -/
def State.takePool (s : State) : State :=
  match s.poolWaiter with
  | some r =>
    if 0 < s.regul.poolFree then
      (({ s with regul := { s.regul with
          poolFree := s.regul.poolFree - 1, poolUsed := s.regul.poolUsed + 1 } } : State).setReq r.uid
        (fun x => { x with pool := true })).freeWdCells (wdCells (hOp r.hdr))
    else s
  | none => s

/-- A pool line comes back, and the oldest write that waits for one takes it. -/
def State.freePool (s : State) : State :=
  ({ s with regul := { s.regul with
      poolFree := s.regul.poolFree + 1, poolUsed := s.regul.poolUsed - 1 } } : State).takePool

/-! ### Channels -/

/-- Channel engine `ch`: own 0 to 31, partner 32 to 63. -/
def State.chan (s : State) (ch : Nat) : Chan := s.chans.get ch

/-- Change one channel engine. -/
def State.setChan (s : State) (ch : Nat) (f : Chan → Chan) : State := { s with chans := s.chans.upd ch f }

/-- The byte offset of a register of channel `ch`'s CHN page (R249). -/
def chnAt (ch off : Nat) : Nat := pageBase .chn (ch % 32) + off

/-! ### Key slots (R317) -/

/-- A slot of the own or the partner bank of the key store. -/
def State.slot (s : State) (partner : Bool) (k : Nat) : KeySlot :=
  match partner with
  | true => s.sec.partner.get k
  | false => s.sec.own.get k

/-- Change a slot. -/
def State.setSlot (s : State) (partner : Bool) (k : Nat) (f : KeySlot → KeySlot) : State :=
  { s with sec := match partner with
      | true => { s.sec with partner := s.sec.partner.upd k f }
      | false => { s.sec with own := s.sec.own.upd k f } }

/-- LADDR bit 30: the request names the partner's half of the stack (R156, R311). -/
def hPartner (h : Cell) : Bool := bitAt h 78

/-! ### Contexts (R202 to R217) -/

/-- The context of a requester (R202). -/
def State.ctxOf (s : State) (rqid : Nat) : Nat := s.rfn RF.RQM_CTX 0 rqid

/-- Change a regulation context. -/
def State.setCtx (s : State) (k : Nat) (f : Ctx → Ctx) : State :=
  { s with regul := { s.regul with ctx := s.regul.ctx.upd k f } }

/-- The age of a transaction in units of 2.5 ns, saturating (R217). -/
def State.age (s : State) (r : Req) : Nat := min (s.regul.ageNow - r.bornAge) 65535

/-- A line of a context completes: it counts in the window in which it passes the context's mutex (R215). -/
def State.lineDone (s : State) (k : Nat) : State :=
  (s.setCtx k (fun c => { c with winLines := (c.winLines + 1) % 2 ^ 20 })).count (pageBase .ctx k + 0x20)

/-- The regulation context of a transaction: the one that holds its slot or its place in a queue, otherwise the one its requester
is mapped to. -/
def State.ctxAt (s : State) (r : Req) : Option Nat :=
  match r.slot, r.stage with
  | some k, _ => some k
  | none, .queued k => some k
  | none, _ => if isMemory (hOp r.hdr) then some (s.ctxOf (hRqid r.hdr)) else none

/-- A transaction leaves its context: one older than LAT_TARGET counts in LAT_MISSES (R217), and a queue that it leaves empty
returns the context's deficit to 0 (R474). -/
def State.leaveCtx (s : State) (r : Req) : State :=
  match s.ctxAt r with
  | none => s
  | some k =>
    let target := s.rfn RF.CTX_LAT_TARGET k 0
    let late := decide (0 < target) && decide (2 * target < 5 * s.age r)
    let waits := s.trx.reqs.any (fun x => x.stage == .queued k)
    s.setCtx k (fun c => { c with
      latMiss := if late then min (c.latMiss + 1) (2 ^ 32 - 1) else c.latMiss, deficit := if waits then c.deficit else 0 })

/-- A context's slot returns to the pool (R206), with the end of a lowered limit's allowance (R208). -/
def State.slotBack (s : State) (r : Req) : State :=
  match r.slot with
  | none => s
  | some k =>
    let t := s.setCtx k (fun c => { c with
      out := c.out - 1,
      allow := if c.out - 1 ≤ s.rfn RF.CTX_OUT_LIMIT k 0 then 0 else c.allow })
    { t with regul := { t.regul with slotFree := t.regul.slotFree + 1 } }

/-- The use of a key slot is released (R321). -/
def State.useBack (s : State) (r : Req) : State :=
  when r.use (fun t => t.setSlot (hPartner r.hdr) (hKey r.hdr) (fun k => { k with uses := k.uses - 1 })) s

/-- The channel accounts of the request's channels count it as completed (R172). -/
def State.acctBack (s : State) (r : Req) : State :=
  forAll r.chs (fun ch t => t.setChan ch (fun c => { c with acctDone := c.acctDone + 1, acctHeld := c.acctHeld - 1 })) s

/-- The request still stands at the router and holds its request cell (R160, R203). -/
def Req.atRouter (r : Req) : Bool :=
  match r.stage with
  | .sent _ => false
  | _ => true

/-- What a request at the router gives back when it ends there: its request cell, and its pool line or write-data
cells. -/
def State.cellsBack (s : State) (r : Req) : State :=
  match r.atRouter with
  | false => s
  | true =>
    let t := s.freeReqCells 1
    if isWrite (hOp r.hdr) then
      match r.pool with
      | true => t.freePool
      | false => t.freeWdCells (wdCells (hOp r.hdr))
    else t

/-- A point that the progress monitor watches completes work (R189): own channels 0 to 31, 32 router admission, 33 the capo, the
partner channel of own channel *n* 64 + n. The drone tick starts to count again while work still waits. -/
def State.progDone (s : State) (point : Nat) : State := { s with trx := { s.trx with prog := s.trx.prog.set point none } }

/-- The request's tag completes: it leaves the router's list and everything it holds comes back. -/
def State.endReq (s : State) (r : Req) : State :=
  ((((((s.dropReq r.uid).leaveCtx r).slotBack r).useBack r).acctBack r).cellsBack r).progDone 32

/-! ### Answers -/

/-- The completing response of a tag: the tag stays outstanding until the response is placed in a sequenced flit
(R169). -/
def State.answer (s : State) (write : Bool) (tag : Nat) (cells : List Cell) (fenceOf : Option Nat) : State :=
  ({ s with trx := { s.trx with respond := s.trx.respond ++ [(write, tag)] } } : State).sendUp cells
    (.tag write tag) fenceOf

/-- Set FORMAT_SEEN with an ERR FORMAT, TAG_BUSY_SEEN and the counter with a TAG_BUSY notice. -/
def State.noteErr (s : State) (code : ErrCode) : State :=
  match code with
  | .format => s.stick RF.TRX_FORMAT_SEEN
  | .tagBusy => (s.stick RF.TRX_TAG_BUSY_SEEN).count 0x20120
  | _ => s

/-- The lines of a list, as LINES gives them (R166). -/
def lineMask (l : List Nat) : Nat := l.foldl (fun x i => x ||| 2 ^ i) 0

/-- A notice: it completes nothing (R166). -/
def State.notice (s : State) (code : ErrCode) (tag detail : Nat) (mt : Bool) : State :=
  (s.noteErr code).sendUp [errCell code.num tag 0 detail mt true] .nothing none

/-- An ERR that completes every line of a request not yet answered. -/
def State.fail (s : State) (r : Req) (code : ErrCode) (detail : Nat) : State :=
  ((s.endReq r).noteErr code).answer (inWriteSpace (hOp r.hdr)) (hTag r.hdr)
    [errCell code.num (hTag r.hdr) (lineMask (r.left ++ r.down)) detail false false] none

/-- A request's read entries that no transfer has taken leave the channels it was sent to. -/
def State.leaveReads (s : State) (r : Req) : State :=
  forAll r.chs (fun ch t => t.setChan ch (fun c => { c with
    reads := c.reads.filter (fun e => !(e.uid == r.uid && !e.taken)) })) s

/-- The ERR of a management tag (R166). -/
def State.failMgt (s : State) (code : ErrCode) (mtag detail : Nat) : State :=
  (s.noteErr code).sendUp [errCell code.num mtag 0 detail true false] (.mtag mtag) none

/-- The WACK of a management tag (R164). -/
def State.wackMgt (s : State) (mtag : Nat) : State := s.sendUp [wackMt mtag] (.mtag mtag) none

/-- A write is acknowledged: WACK with WV and its WSEQ (R165). -/
def State.wack (s : State) (r : Req) (ch wseq : Nat) : State :=
  let t := match r.slot with
    | some k => s.lineDone k
    | none => s
  (t.endReq r).answer true (hTag r.hdr) [wackCell (hTag r.hdr) ch (t.chan ch).drained true wseq] none

/-- A WACK with WV = 0 (R158: an all-zero mask, with CH and DRAINED of its line's channel; R165: FENCE and CFGWR, which no channel
serves: CH and DRAINED are 0, DESIGN CHOICE, log 115). -/
def State.wackPlain (s : State) (r : Req) (line : Option Nat) (fenceOf : Option Nat) : State :=
  let drained := match line with
    | some ch => (s.chan ch).drained
    | none => 0
  (s.endReq r).answer true (hTag r.hdr) [wackCell (hTag r.hdr) (line.getD 0) drained false 0] fenceOf

/-- The short RDATA that answers a CFGRD (R163). -/
def State.rdShort (s : State) (r : Req) (val : Word) : State :=
  (s.endReq r).answer false (hTag r.hdr) [rdataShort (hTag r.hdr) val.toNat] none

/-- One RDATA of a request: line `idx`, with LAST on whichever completes the request (R163); the lines found
fenced at admission follow in one ERR (R473). -/
def State.rdLine (s : State) (r : Req) (idx status ch : Nat) (wv : Bool) (wseq : Nat) (data : BitVec 512) : State :=
  let rest := r.left.filter (fun i => i != idx)
  let t := match r.slot with
    | some k => s.lineDone k
    | none => s
  let last := rest.isEmpty && r.down.isEmpty
  let cells := rdataHdr (hTag r.hdr) status idx ch (t.chan ch).drained last wv wseq :: lineCells data
  if last then (t.endReq { r with left := [] }).answer false (hTag r.hdr) cells none
  else
    let u := (t.setReq r.uid (fun x => { x with left := rest })).sendUp cells .nothing none
    if rest.isEmpty then u.fail { r with left := [] } .fenced r.downCh else u

/-- A tag is outstanding no more: the RESYNCs that drain wait for it no longer (R185). -/
def State.tagGone (s : State) (write : Bool) (tag : Nat) : State :=
  { s with trx := { s.trx with resyncs := s.trx.resyncs.map (fun x => { x with wait := x.wait.filter (fun w => w != (write, tag)) }) } }

/-- The request's deadline passes, or its answer arrives, at the tag's mutex: the tag enters quarantine with the late
deliveries still due (R170, R69). -/
def State.quarantine (s : State) (write : Bool) (tag : Nat) (owing : List (Nat × Nat)) (uid : Nat) : State :=
  let t := (s.acct write TagAcct.quarIn).tagGone write tag
  { t with trx := { t.trx with
      quar := t.trx.quar ++ [⟨write, tag, owing, if owing.isEmpty then some (s.now + 1) else none, uid⟩] } }

/-- What is still owed after one more delivery from a channel. -/
def owedAfter (owing : List (Nat × Nat)) (ch : Nat) : List (Nat × Nat) :=
  (owing.map (fun p => if p.1 = ch then (p.1, p.2 - 1) else p)).filter (fun p => decide (0 < p.2))

/-- A late delivery arrives from a channel and is discarded (R69). -/
def State.lateData (s : State) (uid ch : Nat) : State :=
  ({ s with trx := { s.trx with quar := s.trx.quar.map (fun q =>
      if q.uid = uid ∧ q.ready.isNone then
        let l := owedAfter q.owing ch
        { q with owing := l, ready := if l.isEmpty then some (s.now + 1) else none }
      else q) } } : State).count 0x20118

/-- A channel's retraining has completed, or the channel is fenced: it owes its quarantined tags nothing more, and a tag to which no
channel owes data may leave (R69, R171). Where a tag's lines lie on several channels, each of those that owe it data has to have
delivered or retrained (R69 speaks of one channel: DESIGN CHOICE, log 111). -/
def State.quarReady (s : State) (ch : Nat) : State :=
  { s with trx := { s.trx with quar := s.trx.quar.map (fun q =>
      if q.owing.any (fun p => p.1 == ch) then
        let l := q.owing.filter (fun p => p.1 != ch)
        { q with owing := l, ready := if l.isEmpty then some s.now else q.ready }
      else q) } }

/-- Traffic-ready (R110); an update restart that has been decided ends it (R450). -/
def State.ready (s : State) : Bool := s.boot.stage == .ready && s.upd.restartAt.isNone

/-- This instance's own conditions of an armed takeover (R386): PAIRED, TAKE_EN, READY, a partner that is not halted, no sleep that
both have offered, and two heartbeats since the pair last woke (R396). -/
def State.armedOwn (s : State) : Bool :=
  s.pair.role == .paired && s.rfb RF.MIR_TAKE_EN && s.ready && !s.pair.peerHalted && !s.pair.joint && decide (2 ≤ s.pair.beats) &&
    !(decide (2 ≤ s.pair.ownOffer) && decide (2 ≤ s.pair.peerOffer))

/-- Takeover is armed: the partner reports ARMED as well (R386). -/
def State.armed (s : State) : Bool := s.armedOwn && s.pair.peerArmed

/-! ### Purses (R298) -/

/-- The channel group whose purse a channel draws from. -/
def groupOf (ch : Nat) : Nat := ch % 32 / 2

/-- A purse. -/
def State.purse (s : State) (g : Nat) : Purse := s.capo.purses.get g

/-- Change a purse. -/
def State.setPurse (s : State) (g : Nat) (f : Purse → Purse) : State :=
  { s with capo := { s.capo with purses := s.capo.purses.upd g f } }

/-- What a channel's abandoned or cut transfer waited for at the capo is wanted no longer. -/
def State.dropDraw (s : State) (ch : Nat) : State :=
  (s.setPurse (groupOf ch) (fun p => { p with wants := p.wants.filter (fun w => w.ch != ch) })).setChan ch (fun c => { c with
    dieHold := false })

end Sys2Proof.Machine
end

