-- ==== Sys2Proof/Machine/FaultOps.lean ====
section
/-! DEFINITION. Fences, their effects on channels and requests, and instance-fatal faults (18_faults_events). -/

namespace Sys2Proof.Machine

/-! ### Reasons (R405) and units (R402) -/

/-- TRAIN. -/
def rsnTrain : Nat := 1
/-- RETRAIN. -/
def rsnRetrain : Nat := 2
/-- SID_HOLD. -/
def rsnSidHold : Nat := 3
/-- TSV. -/
def rsnTsv : Nat := 4
/-- LEDGER. -/
def rsnLedger : Nat := 5
/-- STALL. -/
def rsnStall : Nat := 6
/-- TOKENS. -/
def rsnTokens : Nat := 7
/-- WAKE. -/
def rsnWake : Nat := 8
/-- POWER. -/
def rsnPower : Nat := 9
/-- LP_HALF. -/
def rsnLpHalf : Nat := 10
/-- COMMAND. -/
def rsnCommand : Nat := 11
/-- BRIDGE. -/
def rsnBridge : Nat := 12
/-- INSTANCE. -/
def rsnInstance : Nat := 13
/-- SENTINEL. -/
def rsnSentinel : Nat := 14

/-- The number of a unit in the payload of FENCE and UNFENCE (R418). -/
def FUnit.num : FUnit → Nat
  | .course => 0
  | .bank => 1
  | .sid => 2
  | .channel => 3
  | .group => 4
  | .key => 5
  | .lpHalf => 6
  | .inst => 7

/-- The line-protection half of a channel: 0 east, 1 west (R236). -/
def halfOf (ch : Nat) : Nat := if ch % 32 < 16 then 0 else 1

/-- The channels that a unit contains or lies in: own 0 to 31, partner 32 to 63. -/
def unitChannels (u : FUnit) (i : Nat) : List Nat :=
  match u with
  | .course => []
  | .key => []
  | .bank => [i / 64]
  | .sid => [i / 4]
  | .channel => [i]
  | .group => [2 * i, 2 * i + 1]
  | .lpHalf => (List.range 64).filter (fun ch => halfOf ch == i)
  | .inst => List.range 32

/-- A unit of a partner channel (R401). -/
def unitPartner (u : FUnit) (i : Nat) : Bool :=
  match u with
  | .bank => decide (2048 ≤ i)
  | .sid => decide (128 ≤ i)
  | .channel => decide (32 ≤ i)
  | .group => decide (16 ≤ i)
  | .key => decide (2048 ≤ i)
  | _ => false

/-- The number of a unit within its own half of the stack (R418). -/
def unitIndex (u : FUnit) (i : Nat) : Nat :=
  match u with
  | .bank => i % 2048
  | .sid => i % 128
  | .channel => i % 32
  | .group => i % 16
  | .key => i % 2048
  | _ => i

/-- The standing mark of a unit. -/
def State.mark (s : State) (u : FUnit) (i : Nat) : Option FenceMark :=
  s.flt.marks.find? (fun m => m.unit == u && m.index == i)

/-- The unit itself holds a fence mark (R401). -/
def State.marked (s : State) (u : FUnit) (i : Nat) : Bool := (s.mark u i).isSome

/-- The channel answers ERR FENCED: fenced itself, through its group or its line-protection half, or with the instance
(R178, R402, R406). -/
def State.chFenced (s : State) (ch : Nat) : Bool :=
  s.flt.fatal || s.marked .channel ch || s.marked .group (ch / 2) || s.marked .lpHalf (halfOf ch)

/-- A line's location answers ERR FENCED (R473, check 8). -/
def State.lineFenced (s : State) (l : Loc) : Bool :=
  s.chFenced l.ch || s.marked .bank (64 * l.ch + l.bank) || s.marked .sid (4 * l.ch + l.bank / 16)

/-- The reasons of a mark, first cause first. -/
def FenceMark.reasons (m : FenceMark) : List Nat := m.reason :: m.others

/-- The reasons under which a unit is fenced. -/
def State.reasonsOf (s : State) (u : FUnit) (i : Nat) : List Nat :=
  match s.mark u i with
  | some m => m.reasons
  | none => []

/-- A channel fence that drives CHn_RST_N low and stops refresh (R470). -/
def stopsChannel (reason : Nat) : Bool :=
  reason == 1 || reason == 2 || reason == 4 || reason == 5 || reason == 6 || reason == 7 || reason == 8 || reason == 9

/-- The reasons that act on CHn_RST_N and on refresh: none while the unit's return to service runs (R402, R403). -/
def State.actsOf (s : State) (u : FUnit) (i : Nat) : List Nat :=
  if s.flt.unfencing.contains (u, i) then [] else s.reasonsOf u i

/-- CHn_RST_N of the channel is driven low by a fence (R470). -/
def State.resetDriven (s : State) (ch : Nat) : Bool :=
  (s.actsOf .channel ch).any stopsChannel || (s.actsOf .group (ch / 2)).any stopsChannel

/-- REF and MUTE have stopped for a bank of the channel (R470). -/
def State.refreshStopped (s : State) (ch b : Nat) : Bool :=
  s.resetDriven ch || (s.reasonsOf .inst 0).contains rsnBridge ||
    (s.actsOf .sid (4 * ch + b / 16)).any (fun r => r == rsnSidHold || r == rsnTsv)

/-- The fence reason of a channel record (R405, R187). -/
def State.chReason (s : State) (ch : Nat) : Nat :=
  match s.mark .channel ch, s.mark .group (ch / 2), s.mark .lpHalf (halfOf ch), s.mark .inst 0 with
  | some m, _, _, _ => m.reason
  | none, some m, _, _ => m.reason
  | none, none, some _, _ => rsnLpHalf
  | none, none, none, some m => m.reason
  | none, none, none, none => 0

/-- GENERATION counts a change of the set of fenced units, of the pair role or of a CH_EPOCH, from READY on (R184). -/
def State.bumpGen (s : State) : State :=
  if s.ready then { s with flt := { s.flt with generation := (s.flt.generation + 1) % 2 ^ 32 } } else s

/-- FLT_LAST takes the cause of a fault of severity 3 or 4 (R477). -/
def State.lastFault (s : State) (sev source code : Nat) : State :=
  { s with flt := { s.flt with lastSev := sev, lastSource := source, lastCode := code } }

/-- Insert by a key, keeping equal keys in arrival order. -/
def insertBy {α : Type} (f : α → Nat) (a : α) : List α → List α
  | [] => [a]
  | b :: l => if f a < f b then a :: b :: l else b :: insertBy f a l

/-- Sort by a key, stably. -/
def sortBy {α : Type} (f : α → Nat) (l : List α) : List α := l.foldl (fun r a => insertBy f a r) []

/-- Requests in ascending tag order, read tags before write tags (R178). -/
def tagOrder (l : List Req) : List Req :=
  sortBy (fun r => hTag r.hdr + (if inWriteSpace (hOp r.hdr) then 4096 else 0)) l

/-- The unanswered lines of a request that lie in banks `p` of channel `ch`. -/
def State.linesIn (s : State) (r : Req) (ch : Nat) (p : Nat → Bool) : List Nat :=
  r.left.filter (fun i => match s.loc (lineAddr r.hdr i) with
    | some l => l.ch == ch && p l.bank
    | none => false)

/-- The request has been dispatched to a channel engine. -/
def Req.dispatched (r : Req) : Bool :=
  match r.stage with
  | .sent _ => true
  | _ => false

/-- Batch mode follows the watermarks (R230). -/
def State.syncBatch (s : State) (ch : Nat) : State :=
  let n := (s.chan ch).writes.length
  s.setChan ch (fun c => { c with
    batch := if s.rfn RF.CHN_HIGH_WM (ch % 32) 0 ≤ n then true
      else if n ≤ s.rfn RF.CHN_LOW_WM (ch % 32) 0 then false else c.batch,
    drain := c.drain && decide (0 < n) })

/-- An agent serves host lines. -/
def hostAgent (a : Agent) : Bool := a == .rdq || a == .wrd || a == .rtq

/-- A transfer carries a host line in banks `p`. -/
def Chan.carries (c : Chan) (x : Xfer) (p : Nat → Bool) : Bool :=
  x.work.any (fun w => match w with
    | .rdLine u i => c.reads.any (fun e => e.uid == u && e.idx == i && p e.bank)
    | .wrLine l q => c.writes.any (fun e => e.laddr == l && e.wseqs.contains q && p e.bank)
    | _ => false)

/-- A channel engine lets go of its host work in banks `p`: read entries, write-share lines, captured lines, and the
transfers, running or to be restarted, that carry any of them (R178). -/
def Chan.cut (c : Chan) (p : Nat → Bool) : Chan :=
  let gone := (c.writes.filter (fun w => p w.bank)).length
  let keep := c.xfer.filter (fun x => !c.carries x p)
  { c with
    reads := c.reads.filter (fun e => !p e.bank)
    writes := c.writes.filter (fun w => !p w.bank)
    captured := c.captured.filter (fun e => !p e.bank)
    agents := c.agents.mapAll (fun a => { a with restart := a.restart.filter (fun x => !c.carries x p) })
    xfer := keep
    holder := if keep.isNone then (if c.xfer.isSome then none else c.holder) else c.holder
    flights := if keep.isNone then [] else c.flights
    shareRet := c.shareRet + gone }

/-- A fence reaches the host work of banks `p` of a channel: its outstanding requests complete with ERR FENCED in tag
order, and its acknowledged buffered writes are discarded without counting as drained (R178). Late data of quarantined tags that it
discards counts as such (R69), and batch mode follows the share (R230). -/
def State.cutChannel (s : State) (ch : Nat) (p : Nat → Bool) : State :=
  let gone := ((s.chan ch).writes.filter (fun w => p w.bank)).length
  let late := ((s.chan ch).reads.filter (fun e => p e.bank && e.taken)).map (fun e => e.uid) ++
    ((s.chan ch).captured.filter (fun e => p e.bank)).map (fun e => e.uid)
  let t := (s.setChan ch (fun c => c.cut p)).syncBatch ch
  let t := when ((s.chan ch).xfer.isSome && (t.chan ch).xfer.isNone) (fun t => t.dropDraw ch) t
  let t := forAll (late.filter (fun u => (s.req u).isNone)) (fun u t => t.lateData u ch) t
  let u := forAll (List.replicate gone ()) (fun _ t => t.freePool) t
  let v := forAll (tagOrder (u.trx.reqs.filter (fun r => r.dispatched && !(u.linesIn r ch p).isEmpty)))
    (fun r t => (t.leaveReads r).fail r .fenced ch) u
  v.setChan ch (fun c => { c with hazard := c.hazard.filter (fun h => v.trx.reqs.any (fun r => r.uid == h.2)) })

/-- The effect of a new mark on the host work it covers (R402). -/
def State.cutUnit (s : State) (u : FUnit) (i : Nat) : State :=
  match u with
  | .course => s
  | .key => s
  | .bank => s.cutChannel (i / 64) (fun b => b == i % 64)
  | .sid => s.cutChannel (i / 4) (fun b => b / 16 == i % 4)
  | u => forAll (unitChannels u i) (fun ch t => (t.cutChannel ch (fun _ => true)).quarReady ch) s

/-- CHn_RST_N of a unit's own channels follows R470. -/
def State.driveResets (s : State) (u : FUnit) (i : Nat) : State :=
  forAll (unitChannels u i) (fun ch t =>
    if ch < 32 && t.resetDriven ch then { t with pins := { t.pins with chRst := t.pins.chRst.set ch false } } else t) s

/-- CH_FENCED: the own channels fenced, in their own right or through a containing unit (R419). -/
def State.noteChannels (s : State) (u : FUnit) (i : Nat) : State :=
  match u with
  | .bank => s
  | .sid => s
  | u => s.stickBits RF.FLT_CH_FENCED 0 (lineMask ((unitChannels u i).filter (fun ch => decide (ch < 32))))

/-- Put a mark on a unit, or add a cause to the standing one (R403). -/
def addMark (l : List FenceMark) (u : FUnit) (i reason : Nat) : List FenceMark :=
  if l.any (fun m => m.unit == u && m.index == i) then
    l.map (fun m => if m.unit = u ∧ m.index = i then { m with others := m.others ++ [reason] } else m)
  else l ++ [⟨u, i, reason, []⟩]

/-- Start-up is under way: SYS_BOOTSTAT shows a channel that is fenced now (R107, R114). -/
def State.startsUp (s : State) : Bool :=
  match s.boot.stage with
  | .reset => false
  | .ready => false
  | .recovery => false
  | .halted => false
  | _ => true

/-- The unit's fence takes channels out of service. -/
def FUnit.takesChannels (u : FUnit) : Bool := u == .channel || u == .group || u == .lpHalf

/-- Fence a unit for a reason (R402, R403). `cause` is the source and code of the event that the fault recorded; none
for a fence by command, for which FLT_LAST shows the FENCE record (R477). The cause is persisted with it (R400). -/
def State.fenceUnit (s : State) (u : FUnit) (i reason : Nat) (cause : Option (Nat × Nat)) : State :=
  let first := !s.marked u i
  let t : State := { s with flt := { s.flt with marks := addMark s.flt.marks u i reason } }
  let t := match cause with
    | some c => (t.lastFault 3 c.1 c.2).keepCause (fun r => r.source == c.1 && r.code == c.2 && r.partner == unitPartner u i &&
        (!(u == FUnit.sid) || fieldNat r.payload 15 8 == i % 4))
    | none => t.lastFault 3 0x02 0x0201
  let shown := match t.mark u i with
    | some m => m.reason
    | none => reason
  let t := (t.noteChannels u i).eventP (unitPartner u i) 0x02 0x0201 3
    (payload [(0, 1, u.num), (2, 2, unitIndex u i), (4, 1, shown)])
  let t := when (t.startsUp && u.takesChannels) (fun t => t.stick RF.SYS_CH_FENCED) (t.driveResets u i)
  match first with
  | true => (t.bumpGen).cutUnit u i
  | false => t

/-- The memory requests that are outstanding, in tag order. -/
def State.memoryReqs (s : State) : List Req := tagOrder (s.trx.reqs.filter (fun r => isMemory (hOp r.hdr)))

/-- The channel of a request's first unanswered line. -/
def State.firstChannel (s : State) (r : Req) : Nat :=
  match (r.left.head?).bind (fun i => s.loc (lineAddr r.hdr i)) with
  | some l => l.ch
  | none => 0xffffffff

/-- The code that FATAL and FLT_LAST show for a fault before which no event of R418 records a cause: no rule gives one (DESIGN CHOICE,
log 120). -/
def noCause : Nat := 0

/-- A fault of severity 4 (R400, R406). The first sets FATAL, holds the pin, completes the outstanding memory requests with ERR FENCED
and leaves the last heartbeat to go; a later one adds its reason to the instance's mark. Each records its FATAL event and is shown in
FLT_LAST (R477). -/
def State.fatalFault (s : State) (source code reason : Nat) : State :=
  let t : State := { s with flt := { s.flt with fatal := true, marks := addMark s.flt.marks .inst 0 reason } }
  let t := (t.lastFault 4 source code).event 0x02 evFatal 4 [(0, 1, source), (2, 2, code)]
  match s.flt.fatal with
  | true => t
  | false =>
    let t := t.noteChannels .inst 0
    let t := forAll t.memoryReqs (fun r t => t.fail r .fenced (t.firstChannel r)) t.bumpGen
    let t := t.cutUnit .inst 0
    { t with pair := { t.pair with lastBeat := true } }

/-- Unfence: the mark goes (R403). -/
def State.dropMark (s : State) (u : FUnit) (i : Nat) : State :=
  { s with flt := { s.flt with marks := s.flt.marks.filter (fun m => !(m.unit == u && m.index == i)) } }

/-- WSEQ_DRAINED passes the writes that a fence has discarded: it stands before the oldest write still in the share, and at the newest
write numbered where there is none (R177, R178). -/
def Chan.drainedPast (c : Chan) : Chan :=
  let ahead := (c.writes.flatMap (fun w => w.wseqs)).map (fun q => (q + 65535 - c.drained) % 65536)
  let d := (c.drained + ahead.foldl min ((c.wseqNext + 65535 - c.drained) % 65536)) % 65536
  { c with
    drained := d,
    outOfOrder := c.outOfOrder.filter (fun q => decide (0 < (q + 65536 - d) % 65536) && decide ((q + 65536 - d) % 65536 < 32768)) }

/-- A channel, or a unit that serves it, returns to service: its CH_EPOCH counts, and WSEQ_DRAINED passes the discarded writes, unless
the channel is still fenced (R178, R179, R404). With a bank or SID back, the writes of the channel's other banks may still be
buffered, and WSEQ_DRAINED passes none of them (DEDUCED from R177; log 112). -/
def State.epochUp (s : State) (ch : Nat) : State :=
  ({ s with flt := { s.flt with chEpoch := s.flt.chEpoch.upd ch (· + 1#8) } } : State).setChan ch
    (fun c => if s.chFenced ch then c else c.drainedPast)

/-- The ledger accounts of a channel are re-initialised from the actual resource state (R20, R404): the channel account
of the tags and the share account. -/
def State.reinitChannel (s : State) (ch : Nat) : State :=
  let held := (s.trx.reqs.filter (fun r => r.dispatched && r.chs.contains ch)).length
  let t := s.setChan ch (fun c => { c with
    acctSent := held, acctDone := 0, acctHeld := held, shareSent := c.writes.length, shareRet := 0 })
  (t.eventP (decide (32 ≤ ch)) 0x02 0x0204 0 (payload [(0, 1, 2), (1, 1, ch % 32)])).eventP (decide (32 ≤ ch)) 0x02
    0x0204 0 (payload [(0, 1, 3), (1, 1, ch % 32)])

/-- The lines of a unit that returns to service have undefined content (R179, R105, R266). -/
def State.undefineLines (s : State) (u : FUnit) (i : Nat) : State :=
  let inUnit := fun (k : Nat) =>
    match u with
    | .bank => k / 524288 == i
    | .sid => k / 524288 / 16 == i
    | .course => false
    | .key => false
    | u => (unitChannels u i).contains (k / 524288 / 64)
  { s with array := ⟨s.array.dflt, s.array.ents.filter (fun e => !inUnit e.1)⟩ }

/-- A unit returns to service: UNFENCE with result 0, the epochs of its channels, GENERATION, its accounts (R404). -/
def State.serviceBack (s : State) (u : FUnit) (i : Nat) : State :=
  let t := (s.dropMark u i).undefineLines u i
  let chs := (unitChannels u i).filter (fun ch => decide (ch < 32) || s.pair.doubleStop)
  let t := t.eventP (unitPartner u i) 0x02 0x0202 0 (payload [(0, 1, u.num), (2, 2, unitIndex u i), (4, 1, 0)])
  forAll chs (fun ch t => (t.epochUp ch).reinitChannel ch) t.bumpGen

/-- An unfence that is ignored: UNFENCE with result 1 (R402). -/
def State.unfenceIgnored (s : State) (u : FUnit) (i : Nat) : State :=
  s.eventP (unitPartner u i) 0x02 0x0202 0 (payload [(0, 1, u.num), (2, 2, unitIndex u i), (4, 1, 1)])

end Sys2Proof.Machine
end

