-- ==== Sys2Proof/Machine/FlitCode.lean ====
section
/-! DEFINITION. The flit as 512 bytes (R126, R127, R131) and what protects it: the Reed–Solomon decoder of R131, and the modes of
AES-256 that the part uses (R133, R314, R324). -/

namespace Sys2Proof.Machine

/-! ### AES-256 modes (NIST SP 800-38D and SP 800-38B) -/

/-- A byte string cut into `n` blocks, the last filled with zeros. -/
def blocksIn (n : Nat) (l : List Byte) : List (BitVec 128) := (List.range n).map (fun i => blockOf (l.drop (16 * i)))

/-- The product of GHASH's field: bit 127 of a block is its first coefficient. -/
def ghashMul (x y : BitVec 128) : BitVec 128 :=
  ((List.range 128).foldl (fun (z : BitVec 128 × BitVec 128) i =>
    (if x.getLsbD (127 - i) then z.1 ^^^ z.2 else z.1,
      if z.2.getLsbD 0 then (z.2 >>> 1) ^^^ (0xe1#128 <<< 120) else z.2 >>> 1)) (0#128, y)).1

/-- GHASH of a list of blocks under the hash key. -/
def ghash (h : BitVec 128) (l : List (BitVec 128)) : BitVec 128 := l.foldl (fun y x => ghashMul (y ^^^ x) h) 0#128

/-- The `i`-th counter block of a 96-bit IV; the plaintext starts with the block numbered 1. -/
def gcmCounter (iv : BitVec 96) (i : Nat) : BitVec 128 := iv ++ BitVec.ofNat 32 (i + 1)

/-- Counter-mode encryption, which is also its decryption. -/
def gcmCrypt (key : Nat) (iv : BitVec 96) (l : List Byte) : List Byte :=
  (l.zip ((List.range ((l.length + 15) / 16)).flatMap (fun i => blockBytes (aes256 key (gcmCounter iv (i + 1)))))).map
    (fun p => p.1 ^^^ p.2)

/-- The GCM tag of ciphertext with its additional authenticated data. -/
def gcmTag (key : Nat) (iv : BitVec 96) (aad ct : List Byte) : BitVec 128 :=
  let h := aes256 key 0#128
  let sizes : BitVec 128 := BitVec.ofNat 64 (8 * aad.length) ++ BitVec.ofNat 64 (8 * ct.length)
  let s := ghash h (blocksIn ((aad.length + 15) / 16) aad ++ blocksIn ((ct.length + 15) / 16) ct ++ [sizes])
  s ^^^ aes256 key (gcmCounter iv 0)

/-- The tag truncated to its first 64 bits (R133). -/
def gcmTag64 (key : Nat) (iv : BitVec 96) (aad ct : List Byte) : BitVec 64 := (gcmTag key iv aad ct).extractLsb' 64 64

/-- Doubling in CMAC's field, which gives its subkeys. -/
def cmacDouble (x : BitVec 128) : BitVec 128 := if x.getLsbD 127 then (x <<< 1) ^^^ 0x87#128 else x <<< 1

/-- AES-CMAC over a message of whole blocks (SP 800-38B). -/
def cmacBlocks (key : Nat) : BitVec 128 → List (BitVec 128) → BitVec 128
  | x, [] => x
  | x, [m] => aes256 key (x ^^^ m ^^^ cmacDouble (aes256 key 0#128))
  | x, m :: n :: l => cmacBlocks key (aes256 key (x ^^^ m)) (n :: l)

/-! ### The Reed–Solomon decoder (R131) -/

/-- The inverse in GF(2^8): the 254th power. -/
def gfInv (a : Byte) : Byte := (List.range 254).foldl (fun r _ => gfMul r a) 1#8

/-- Syndrome `j` of a codeword, its lowest-indexed byte the highest coefficient: its value at α^j. -/
def rsSyndrome (l : List Byte) (j : Nat) : Byte := l.foldl (fun r b => gfMul r (gfPow j) ^^^ b) 0#8

/-- The coefficients of the locator polynomial x² + L1 x + L2 of at most two errors, from the four syndromes: with L2 = 0 for one
error, and none where no two errors give these syndromes. -/
def rsLocator (s0 s1 s2 s3 : Byte) : Option (Byte × Byte) :=
  let det := gfMul s0 s2 ^^^ gfMul s1 s1
  if det = 0#8 then
    if s0 = 0#8 ∨ gfMul s1 s2 ≠ gfMul s0 s3 then none else some (gfMul s1 (gfInv s0), 0#8)
  else some (gfMul (gfMul s0 s3 ^^^ gfMul s1 s2) (gfInv det), gfMul (gfMul s1 s3 ^^^ gfMul s2 s2) (gfInv det))

/-- The errors of a codeword, as positions with the values to add: none where the decoder fails. -/
def rsErrors (l : List Byte) : Option (List (Nat × Byte)) :=
  let s0 := rsSyndrome l 0
  let s1 := rsSyndrome l 1
  let s2 := rsSyndrome l 2
  let s3 := rsSyndrome l 3
  if s0 = 0#8 ∧ s1 = 0#8 ∧ s2 = 0#8 ∧ s3 = 0#8 then some []
  else match rsLocator s0 s1 s2 s3 with
  | none => none
  | some (a, b) =>
    let x := fun (i : Nat) => gfPow (l.length - 1 - i)
    let at0 := (List.range l.length).filter (fun i => gfMul (x i) (x i) ^^^ gfMul a (x i) ^^^ b == 0#8)
    match at0 with
    | [i] => if b = 0#8 then some [(i, s0)] else none
    | [i, j] =>
      let v := gfMul (s1 ^^^ gfMul s0 (x i)) (gfInv (x i ^^^ x j))
      some [(i, s0 ^^^ v), (j, v)]
    | _ => none

/-- The bytes of a codeword of a flit (R131). -/
def codeword (flit : List Byte) (k : Nat) : List Byte := (List.range ((513 - k + 1) / 3)).map (fun i => flit.getD (3 * i + k) 0#8)

/-- The flit after the FEC, with the bytes that it corrected; none where a codeword is uncorrectable (R131, R132). -/
def fecDecode (flit : List Byte) : Option (List Byte × List Nat) :=
  match rsErrors (codeword flit 0), rsErrors (codeword flit 1), rsErrors (codeword flit 2) with
  | some a, some b, some c =>
    let fixes := a.map (fun e => (3 * e.1, e.2)) ++ b.map (fun e => (3 * e.1 + 1, e.2)) ++ c.map (fun e => (3 * e.1 + 2, e.2))
    some (fixes.foldl (fun f e => f.set e.1 ((f.getD e.1 0#8) ^^^ e.2)) flit, fixes.map (fun e => e.1))
  | _, _, _ => none

/-- The 12 check bytes behind the first 500 bytes of a flit: byte 500 + i belongs to codeword (i + 2) mod 3 (R131). -/
def fecBytes (body : List Byte) : List Byte :=
  let word := fun k => (List.range ((502 - k) / 3)).map (fun i => body.getD (3 * i + k) 0#8)
  let c := fun k => rsCheck 4 (word k)
  (List.range 12).map (fun i => (c ((i + 2) % 3)).getD (i / 3) 0#8)

/-! ### Layout (R126, R127) -/

/-- Zeros up to a length. -/
def padTo (n : Nat) (l : List Byte) : List Byte := l ++ List.replicate (n - l.length) 0#8

/-- A flit from its header, its 480 bytes of cells as sent and its tag: CRC and check bytes follow (R126, R133). -/
def flitBytes (hdr : BitVec 64) (cells : List Byte) (tag : BitVec 64) : List Byte :=
  let body := withCrc (leBytes 8 hdr.toNat ++ cells ++ (blockBytes (tag ++ 0#64)).take 8)
  body ++ fecBytes body

/-- The header of a flit. -/
def flitHeader (flit : List Byte) : BitVec 64 := BitVec.ofNat 64 (leNat (flit.take 8))

/-- The 480 bytes of the cells of a flit, as received. -/
def flitBody (flit : List Byte) : List Byte := (flit.drop 8).take 480

/-- The tag of a flit. -/
def flitTag (flit : List Byte) : BitVec 64 := (blockOf (flit.drop 488)).extractLsb' 64 64

/-- The CRC-32C of a flit matches (R126, R130, R132). -/
def flitCrcOk (flit : List Byte) : Bool := crcOk (flit.take 500)

/-- The 30 cells that 480 bytes spell. -/
def cellsOf (l : List Byte) : List Cell := (List.range 30).map (fun k => bytesCell ((l.drop (16 * k)).take 16))

/-- The payload of data block `j` of a flit on logical lane `k` (R127). -/
def lanePayload (flit : List Byte) (k j : Nat) : BitVec 64 := BitVec.ofNat 64 (leNat ((flit.drop (128 * j + 8 * k)).take 8))

/-- The flit that 64 payloads carry: byte b comes from block b div 128 of lane (b div 8) mod 16 (R127). -/
def flitFrom (payload : Nat → Nat → BitVec 64) : List Byte :=
  (List.range 64).flatMap (fun i => leBytes 8 (payload (i % 16) (i / 16)).toNat)

/-! ### The scrambler (R121) -/

/-- 64 bits through the self-synchronous scrambler 1 + x^39 + x^58, first bit lowest: the register of the last 58 scrambled bits, and
the output. `rx` tells that the input is the scrambled side. -/
def scrambler (rx : Bool) (r : BitVec 58) (p : BitVec 64) : BitVec 58 × BitVec 64 :=
  (List.range 64).foldl (fun (x : BitVec 58 × BitVec 64) i =>
    let b := p.getLsbD i
    let d := (b.xor (x.1.getLsbD 38)).xor (x.1.getLsbD 57)
    ((x.1 <<< 1) ||| (if (if rx then b else d) then 1#58 else 0#58), if d then x.2 ||| (1#64 <<< i) else x.2)) (r, 0#64)

/-- A payload is scrambled for sending. -/
def scramble (r : BitVec 58) (p : BitVec 64) : BitVec 58 × BitVec 64 := scrambler false r p

/-- A received payload is descrambled. -/
def descramble (r : BitVec 58) (p : BitVec 64) : BitVec 58 × BitVec 64 := scrambler true r p

/-! ### Control blocks (R122, R123) -/

/-- A control block's payload from its bytes 0 to 2, with its check byte (R122). The bytes that R122 gives no value are sent as
zero, and not judged when received (DESIGN CHOICE, log 129). -/
def controlPayload (type b1 b2 : Nat) : BitVec 64 :=
  let p := BitVec.ofNat 64 (type + 256 * b1 + 65536 * b2)
  p ||| ((blockCheck p).setWidth 64 <<< 56)

/-- A marker's payload (R123). -/
def markerPayload (phase mseq logLane physLane course : Nat) : BitVec 64 :=
  let p := BitVec.ofNat 64 (0x1e + course % 16 * 2 ^ 8 + physLane % 32 * 2 ^ 12 + logLane % 32 * 2 ^ 17 + mseq % 256 * 2 ^ 24 +
    phase % 4 * 2 ^ 32)
  p ||| ((blockCheck p).setWidth 64 <<< 56)

/-- A payload is a marker with a valid CHECK (R123). -/
def isMarker (p : BitVec 64) : Bool := p.extractLsb' 0 8 == 0x1e#8 && p.extractLsb' 56 8 == blockCheck p

/-- A descrambled control block is of a known type and has a valid check byte (R122). -/
def controlOk (p : BitVec 64) : Bool :=
  (p.extractLsb' 0 8 == 0x2d#8 || p.extractLsb' 0 8 == 0x33#8 || p.extractLsb' 0 8 == 0x4b#8) &&
    p.extractLsb' 56 8 == blockCheck p

/-- The 66 bits of a block in time order, first bit lowest; `hdr` is written in send order (R119, R120). -/
def blockBits (hdr : BitVec 2) (p : BitVec 64) : BitVec 66 :=
  (p.setWidth 66 <<< 2) ||| (if hdr.getLsbD 0 then 2#66 else 0#66) ||| (if hdr.getLsbD 1 then 1#66 else 0#66)

/-- The block at a candidate position of a lane's stream: `k` bits before the newest 66 (R119, R124). -/
def blockAt (prev new : BitVec 66) (k : Nat) : BitVec 2 × BitVec 64 :=
  let b := (((new.setWidth 132 <<< 66) ||| prev.setWidth 132) >>> (66 - k)).setWidth 66
  (b.extractLsb' 0 1 ++ b.extractLsb' 1 1, b.extractLsb' 2 64)

/-- The transmit gearbox takes a block (R119): the words that are full, in order, and the bits left over. Bits leave lowest first. -/
def gearbox (held : BitVec 64) (n : Nat) (block : BitVec 66) : List (BitVec 64) × BitVec 64 × Nat :=
  let all : BitVec 130 := held.setWidth 130 ||| (block.setWidth 130 <<< n)
  let m := n + 66
  ((List.range (m / 64)).map (fun i => all.extractLsb' (64 * i) 64), (all >>> (64 * (m / 64))).setWidth 64, m % 64)

end Sys2Proof.Machine
end

