-- ==== Sys2Proof/Machine/LineCode.lean ====
section
/-! DEFINITION. A line as the core dies store it (R310 to R314): AES-256-XTS, the MAC of the basic layout, and the 72 symbols of the
burst. -/

namespace Sys2Proof.Machine

/-- The bytes of a line, byte 0 first (R158). -/
def bytesOfLine (d : BitVec 512) : List Byte := leBytes 64 d.toNat

/-- The encrypted tweak of a line address under K2 (R310, IEEE 1619), as a little-endian number. -/
def xtsTweak (keys : Keys) (laddr : Nat) : BitVec 128 :=
  blockOf (blockBytes (aes256 keys.k2 (blockOf (leBytes 16 (laddr % 2 ^ 30))))).reverse

/-- The blocks of a data unit from the one whose tweak is `t`: each goes through the cipher `f` between two additions of its tweak, and
the next tweak is the product with α (IEEE 1619). -/
def xtsBlocks (f : BitVec 128 → BitVec 128) : BitVec 128 → List (BitVec 128) → List Byte
  | _, [] => []
  | t, p :: l =>
    let x := blockOf (blockBytes t).reverse
    blockBytes (f (p ^^^ x) ^^^ x) ++ xtsBlocks f (cmacDouble t) l

/-- The ciphertext of a line (R310). -/
def xtsLine (keys : Keys) (laddr : Nat) (d : BitVec 512) : List Byte :=
  xtsBlocks (aes256 keys.k1) (xtsTweak keys laddr) (blocksIn 4 (bytesOfLine d))

/-- The line that a ciphertext decrypts to. -/
def xtsOpen (keys : Keys) (laddr : Nat) (cipher : List Byte) : BitVec 512 :=
  BitVec.ofNat 512 (leNat (xtsBlocks (aes256Inv keys.k1) (xtsTweak keys laddr) (blocksIn 4 cipher)))

/-- The MAC of a ciphertext under K3 for its line address and KEYID: the first 32 bits of the CMAC of 80 bytes (R314). -/
def lineMac (keys : Keys) (laddr key : Nat) (cipher : List Byte) : List Byte :=
  (blockBytes (cmacBlocks keys.k3 0#128
    (blocksIn 5 (cipher ++ leBytes 4 (laddr % 2 ^ 30) ++ leBytes 2 key ++ [0x01#8])))).take 4

/-- The 72 symbols of a line in its layout, symbol `j` at bits 8j and on: the ciphertext, then the MAC and four check bytes, or
eight check bytes (R312, R313). -/
def lineBurst (keys : Keys) (laddr key : Nat) (expert : Bool) (d : BitVec 512) : BitVec 576 :=
  let cipher := xtsLine keys laddr d
  let word := if expert then cipher else cipher ++ lineMac keys laddr key cipher
  BitVec.ofNat 576 (leNat (word ++ rsCheck (72 - word.length) word))

/-- Void content: the output of AES-256 under the void key over a line address and a counter, in all 72 symbols (R321). -/
def voidBurst (key laddr count : Nat) : BitVec 576 :=
  BitVec.ofNat 576 (leNat (((List.range 5).flatMap (fun n => blockBytes (aes256 key (Config.voidBlock laddr count n)))).take 72))

/-- The ciphertext bytes of a burst. -/
def burstCipher (b : BitVec 576) : List Byte := (List.range 64).map (fun j => b.extractLsb' (8 * j) 8)

/-- The coefficients, lowest first, of the product of (z + x) over some x. -/
def rootsPoly : List Byte → List Byte
  | [] => [1#8]
  | x :: l => ((0#8 :: rootsPoly l).zip ((rootsPoly l).map (gfMul x) ++ [0#8])).map (fun p => p.1 ^^^ p.2)

/-- The value of the error at `x` that, with errors at `others`, gives the first syndromes. -/
def errorAt (syn : List Byte) (x : Byte) (others : List Byte) : Byte :=
  gfMul (((rootsPoly others).zip syn).foldl (fun r p => r ^^^ gfMul p.1 p.2) 0#8)
    (gfInv (others.foldl (fun d y => gfMul d (x ^^^ y)) 1#8))

/-- The sublists of `k` elements. -/
def picks : Nat → List Nat → List (List Nat)
  | 0, _ => [[]]
  | _, [] => []
  | k + 1, x :: l => (picks k l).map (fun p => x :: p) ++ picks (k + 1) l

/-- The errors at the positions `ps` alone that give every syndrome of a word, where there are any. -/
def errorsOn (m : Nat) (word : List Byte) (ps : List Nat) : Option (List (Nat × Byte)) :=
  let at0 := fun (i : Nat) => gfPow (word.length - 1 - i)
  let syn := (List.range m).map (rsSyndrome word)
  let found := ps.map (fun i => (i, errorAt syn (at0 i) ((ps.filter (fun j => j != i)).map at0)))
  let fixed := found.foldl (fun w e => w.set e.1 ((w.getD e.1 0#8) ^^^ e.2)) word
  if (List.range m).all (fun j => rsSyndrome fixed j == 0#8) then some found else none

/-- The codeword within `t` errors of a word, beside those at erased positions, with `m` check symbols: the errors found, those at
erased positions first, and how many others (R313, R429). -/
def rsFix (m t : Nat) (erased : List Nat) (word : List Byte) : Option (List (Nat × Byte) × Nat) :=
  let free := (List.range word.length).filter (fun i => !erased.contains i)
  (List.range (t + 1)).findSome? (fun k => (picks k free).findSome? (fun l =>
    (errorsOn m word (erased ++ l)).map (fun e => (e, k))))

/-- The MAC that a burst carries agrees with the reading slot's keys, the line address and KEYID (R315). -/
def macAgrees (keys : Keys) (laddr key : Nat) (b : BitVec 576) : Bool :=
  lineMac keys laddr key (burstCipher b) == (List.range 4).map (fun i => b.extractLsb' (512 + 8 * i) 8)

end Sys2Proof.Machine
end

