-- ==== Sys2Proof/Machine/KeyOps.lean ====
section
/-! DEFINITION. Levels of access on the link, the DRBG, the life of a key slot, and what a line reads as
(14_security). -/

namespace Sys2Proof.Machine

/-! ### Levels: 0 OPEN, 1 PRIV, 2 SECURE (R71, R331) -/

/-- Attributes on the link are honoured under a link session in the secure role, or under any link session while
ROOT_VALID is 0 (R331). -/
def State.linkHonoured (s : State) : Bool :=
  match s.sec.link.session with
  | some x => x.live && (x.secure || s.rf RF.SEC_ROOT_VALID == 0)
  | none => false

/-- The level of a link request from its attributes and its course (R71). -/
def State.linkLevel (s : State) (clear priv secure : Bool) : Nat :=
  match clear || !s.linkHonoured with
  | true => 0
  | false => match secure, priv with
    | true, _ => 2
    | false, true => 1
    | false, false => 0

/-- A delivered request's level. -/
def State.reqLevel (s : State) (r : Req) : Nat := s.linkLevel r.clear (hPriv r.hdr) (hSecure r.hdr)

/-! ### The DRBG (R317, R327) -/

/-- 384 conditioned bits from the next 1,024 raw bits, which are free. -/
def State.entropy (s : State) : List Byte × State := (conditioned (Config.rawBits s.free), s.useFree)

/-- The DRBG comes into service: instantiated from two outputs of the conditioning component, the second as its nonce (log 140). -/
def State.startDrbg (s : State) : State :=
  let a := s.entropy
  let b := a.2.entropy
  { b.2 with sec := { b.2.sec with drbgOk := true, drbgGen := 0, drbg := .instantiate a.1 b.1 } }

/-- Reseed the DRBG. -/
def State.reseed (s : State) : State :=
  let a := s.entropy
  ({ a.2 with sec := { a.2.sec with drbgGen := 0, drbg := a.2.sec.drbg.reseed a.1 } } : State).count 0x5130

/-- Draw `n` bytes from the DRBG: one generate request, with a reseed after 2^RESEED_LOG of them. -/
def State.random (s : State) (n : Nat) : List Byte × State :=
  let t : State := { s with sec := { s.sec with drbgGen := s.sec.drbgGen + 1, drbg := (s.sec.drbg.generate n).2 } }
  ((s.sec.drbg.generate n).1, when (decide (2 ^ s.rf RF.SEC_RESEED_LOG ≤ t.sec.drbgGen)) State.reseed t)

/-- K2 is redrawn until it differs from K1 (R317); the redraws are part of the one request, and after 256 the last stands (log 140). -/
def otherKey (k1 : Nat) : Nat → Drbg → Nat → Nat × Drbg
  | 0, g, k2 => (k2, g)
  | n + 1, g, k2 => if k2 = k1 then otherKey k1 n (g.generate 32).2 (beNat (g.generate 32).1) else (k2, g)

/-- The three keys of a slot, drawn in one request (R317). -/
def State.drawKeys (s : State) : Keys × State :=
  let a := s.random 96
  let k := fun (i : Nat) => beNat ((a.1.drop (32 * i)).take 32)
  let two := otherKey (k 0) 256 a.2.sec.drbg (k 1)
  (⟨k 0, two.1, k 2⟩, { a.2 with sec := { a.2.sec with drbg := two.2 } })

/-- Create a slot: reseed, draw, GENERATION counts up, ACTIVE (R319, R320). -/
def State.createSlot (s : State) (k cls : Nat) (meta1 : Bool) : State :=
  let d := s.reseed.drawKeys
  (d.2.setSlot false k (fun x => { x with
    st := .active, keys := d.1, cls := cls, meta1 := meta1, persisted := false, gen := (x.gen + 1) % 65536,
    eastOk := true, westOk := true })).count 0x5118

/-- A slot is zeroised: EMPTY, with its GENERATION kept (R319). -/
def State.zeroSlot (s : State) (partner : Bool) (k : Nat) : State :=
  s.setSlot partner k (fun x => { x with st := .empty, keys := .zero, cls := 0, meta1 := false, persisted := false })

/-! ### Wrapped slots (R324) -/

/-- The purpose PERS of a wrapped slot, for MRAM. -/
def forMram : Nat := 0x53524550
/-- The purpose PAIR of a wrapped slot, for the partner instance. -/
def forPair : Nat := 0x52494150

/-- The AAD of a wrapped slot: its first four bytes, the purpose, and INST_ID. -/
def wrapAad (purpose inst : Nat) (l : List Byte) : List Byte := l.take 4 ++ leBytes 4 purpose ++ leBytes 1 inst

/-- The bytes of a slot's keys. -/
def Keys.bytes (k : Keys) : List Byte := beBytes 32 k.k1 ++ beBytes 32 k.k2 ++ beBytes 32 k.k3

/-- The first word of a wrapped slot: KEYID, CLASS, META and format 1. -/
def slotHeader (k : Nat) (x : KeySlot) : Nat := k + (x.cls + 4 * b2n x.meta1) * 2 ^ 16 + 2 ^ 24

/-- The 128-byte wrapped slot under a wrapping key, with a drawn IV. -/
def wrapSlot (key purpose inst k : Nat) (x : KeySlot) (iv : List Byte) : List Byte :=
  let h := leBytes 4 (slotHeader k x)
  let n := BitVec.ofNat 96 (beNat iv)
  let ct := gcmCrypt key n x.keys.bytes
  h ++ iv ++ ct ++ blockBytes (gcmTag key n (wrapAad purpose inst h) ct)

/-- The keys in a wrapped slot, where its tag verifies. -/
def unwrapSlot (key purpose inst : Nat) (l : List Byte) : Option Keys :=
  let n := BitVec.ofNat 96 (beNat ((l.drop 4).take 12))
  let ct := (l.drop 16).take 96
  let p := gcmCrypt key n ct
  let k := fun (i : Nat) => beNat ((p.drop (32 * i)).take 32)
  if blockBytes (gcmTag key n (wrapAad purpose inst l) ct) = (l.drop 112).take 16 then some ⟨k 0, k 1, k 2⟩ else none

/-- A write's slot at the instant its line is protected: ACTIVE with the recorded GENERATION (R321). -/
def State.slotHolds (s : State) (partner : Bool) (k gen : Nat) : Bool :=
  (s.slot partner k).st == .active && (s.slot partner k).gen == gen

/-- The index of a slot as a fence unit: those of the partner bank follow the own ones. -/
def keyIndex (partner : Bool) (k : Nat) : Nat := if partner then 2048 + k else k

/-- The copies of a slot whose CRC-32C fails: bit 0 of `bad` the east half's, bit 1 the west half's (R323). -/
def State.spoil (s : State) (partner : Bool) (k bad : Nat) : State :=
  if bad % 4 = 0 then s
  else s.setSlot partner k (fun x => { x with eastOk := x.eastOk && !bad.testBit 0, westOk := x.westOk && !bad.testBit 1 })

/-- The line-protection engine loads a slot and checks both copies' CRC-32C: it recopies the slot from the other half,
recovers it from the partner when PAIRED, or fences it (R323). `half` is 0 east, 1 west. -/
def State.loadSlot (s : State) (partner : Bool) (k half : Nat) : State :=
  let x := s.slot partner k
  let ok := if half = 0 then x.eastOk else x.westOk
  let other := if half = 0 then x.westOk else x.eastOk
  match ok, other with
  | true, _ => s
  | false, true =>
    (s.setSlot partner k (fun x => { x with eastOk := true, westOk := true })).event (0x83 + half) 0x0701 1
      [(0, 2, k), (2, 1, half)]
  | false, false =>
    if s.pair.role == .paired && s.sec.pairKey.isSome && !partner then
      s.setSlot partner k (fun x => { x with eastOk := true, westOk := true })
    else
      ((s.setSlot partner k (fun x => { x with st := .fenced })).stick RF.SEC_SLOT_FENCED).fenceUnit .key
        (keyIndex partner k) 0 none

/-! ### What a line reads as (R313 to R316, R476) -/

/-- STATUS of RDATA (R163). -/
def stOk : Nat := 0
/-- CORRECTED. -/
def stCorrected : Nat := 1
/-- POISON. -/
def stPoison : Nat := 2
/-- ERR. -/
def stErr : Nat := 3

/-- The bits of a burst that damaged symbols invert. -/
def damageBits (d : List (Nat × Byte)) : BitVec 576 :=
  d.foldl (fun w e => if e.1 < 72 then w ^^^ BitVec.ofNat 576 (e.2.toNat * 2 ^ (8 * e.1)) else w) 0#576

/-- The symbols in which some bit is inverted. -/
def symbolsIn (w : BitVec 576) : List Nat := (List.range 72).filter (fun j => w.extractLsb' (8 * j) 8 != 0#8)

/-- The symbols outside the DQ bit that a column entry erases (R429). -/
def unerased (bit : Option Nat) (l : List Nat) : List Nat :=
  match bit with
  | some d => l.filter (fun j => j / 2 != d)
  | none => l

/-- The two symbols of the DQ bit that a column entry erases (R312, R429). -/
def erasedSymbols (bit : Option Nat) : List Nat := match bit with | some d => [2 * d, 2 * d + 1] | none => []

/-- A status and data, with zero data for POISON and ERR (R163). -/
def lineResult (status : Nat) (data : BitVec 512) : Nat × BitVec 512 :=
  if status = stPoison ∨ status = stErr then (status, 0#512) else (status, data)

/-- The symbols that a layout corrects beside the two that a column entry has `erased` (R313, R429). -/
def fixable (expert erased : Bool) : Nat :=
  match expert, erased with
  | false, _ => 1
  | true, false => 2
  | true, true => 3

/-- The damaged symbols up to which a layout corrects or detects for certain (R313); with two erased it detects none beyond those
that it corrects. -/
def guaranteed (expert erased : Bool) : Nat :=
  match expert, erased with
  | false, false => 3
  | true, false => 6
  | _, true => fixable expert erased

/-- A burst after a layout's decoder, and the number of symbols that it corrected beside the erased ones; none where it is
uncorrectable (R313, R315). -/
def decodeBurst (expert : Bool) (bit : Option Nat) (burst : BitVec 576) : Option (BitVec 576 × Nat) :=
  let word := leBytes 72 burst.toNat
  (rsFix (if expert then 8 else 4) (fixable expert bit.isSome) (erasedSymbols bit) word).map (fun p =>
    (BitVec.ofNat 576 (leNat (p.1.foldl (fun w e => w.set e.1 ((w.getD e.1 0#8) ^^^ e.2)) word)), p.2))

/-- The status and data of a burst read under a slot's keys and KEYID, the symbols of the DQ bit `bit` erased (R315): decoded, its MAC
judged in basic mode, and decrypted. -/
def readBurst (keys : Keys) (laddr key : Nat) (expert : Bool) (bit : Option Nat) (burst : BitVec 576) : Nat × BitVec 512 :=
  match decodeBurst expert bit burst with
  | none => (stErr, 0#512)
  | some (b, n) =>
    if !expert && !macAgrees keys laddr key b then (stPoison, 0#512)
    else (if n = 0 then stOk else stCorrected, xtsOpen keys laddr (burstCipher b))

/-- The status and data of a line read from the core die under a slot's keys and KEYID (R315, R316), the bits of `err` inverted and the
symbols of the DQ bit `bit` erased. A line that was never written has undefined content and an undefined status (R105); and beyond its
layout's detection limit the outcome is open (R476): both come from the free value `v`. -/
def readLine (line : Option ArrayLine) (laddr key : Nat) (keys : Keys) (expert : Bool) (bit : Option Nat) (err : BitVec 576)
    (v : BitVec 512) : Nat × BitVec 512 :=
  let free := v.toNat / 2 ^ 500 % 4
  match line with
  | none => lineResult free v
  | some x =>
    if !x.void && x.expert == expert && decide (guaranteed expert bit.isSome < (unerased bit (symbolsIn err)).length) then
      lineResult (if expert && free == stPoison then stErr else free) v
    else readBurst keys laddr key expert bit (x.burst ^^^ err)

/-- What a scrub finds of a line: as its own slot's keys and layout read it. Which key slot a scrub decodes by is left open (log
136). -/
def scrubLine (line : Option ArrayLine) (bit : Option Nat) (err : BitVec 576) (v : BitVec 512) : Nat :=
  match line with
  | none => v.toNat / 2 ^ 500 % 4
  | some x => (readLine line x.laddr x.key x.keys x.expert bit err v).1

/-- A read that is forwarded from a buffered write: the data only under the KEYID and GENERATION recorded with the
write (R316). -/
def forwardLine (w : WrEnt) (key gen : Nat) : Nat × BitVec 512 :=
  if w.key = key ∧ w.gen = gen then (stOk, w.data) else (stPoison, 0#512)

/-- What a line's status leaves behind: the SEC counters and sticky bits, and the event of the corrected, poisoned or
uncorrectable line (R315, R418, R341). -/
def State.noteStatus (s : State) (status ch bank row laddr key : Nat) : State :=
  let pl := [(0, 4, laddr % 2 ^ 30), (4, 2, key), (6, 1, ch % 32), (7, 1, bank), (8, 2, row)]
  let p := decide (32 ≤ ch)
  if status = stCorrected then
    (s.count 0x5100).eventP p (0x40 + ch % 32) 0x0401 1 (payload [(0, 1, ch % 32), (1, 1, bank)])
  else if status = stPoison then
    ((s.count 0x5108).stick RF.SEC_POISON_SEEN).eventP p (0x40 + ch % 32) 0x0403 2 (payload pl)
  else if status = stErr then
    ((s.count 0x5110).stick RF.SEC_UNCORR_SEEN).eventP p (0x40 + ch % 32) 0x0402 2 (payload pl)
  else s

end Sys2Proof.Machine
end

