-- ==== Sys2Proof/Machine/CapoOps.lean ====
section
/-! DEFINITION. Charge tokens: costs, purses, the escape pool, the die window, the budget and the floor (13_capo_thermal,
R16, R211). -/

namespace Sys2Proof.Machine

/-- The channels of a group: its own two, and the partner's two in double-stop mode (R298, R392). -/
def groupChannels (g : Nat) : List Nat := [2 * g, 2 * g + 1, 32 + 2 * g, 33 + 2 * g]

/-- The own channels of a group. -/
def ownChannels (g : Nat) : List Nat := [2 * g, 2 * g + 1]

/-- The core die of SID `sid` of a channel (R301, R304). -/
def dieOf (ch sid : Nat) : Nat := 4 * (ch % 32 / 8) + sid

/-- The positive owed counts of a channel's banks. -/
def Chan.owedSum (c : Chan) : Nat :=
  c.banks.ents.foldl (fun n e => n + e.2.owed.toNat) 0

/-- The positive owed counts of a group's banks (R300). -/
def State.owedSum (s : State) (g : Nat) : Nat := (groupChannels g).foldl (fun n ch => n + (s.chan ch).owedSum) 0

/-- The refresh balance is brought to C_REF times the positive owed counts: the difference is issued or returned
(R300, R303). -/
def State.syncRefBal (s : State) (g : Nat) : State :=
  let want := s.rf RF.CAP_C_REF * s.owedSum g
  s.setPurse g (fun p => { p with
    refBal := want, issued := p.issued + (want - p.refBal), returned := p.returned + (p.refBal - want) })

/-- The mute balance gains MUTE_RESV up to MUTE_CAP; the excess lapses (R300). -/
def State.fillMute (s : State) (g : Nat) : State :=
  let sum := (s.purse g).muteBal + s.rf RF.CAP_MUTE_RESV
  let kept := min sum (s.rf RF.CAP_MUTE_CAP)
  (s.setPurse g (fun p => { p with
    muteBal := kept, issued := p.issued + (kept - p.muteBal), returned := p.returned + (p.muteBal - kept) })).countBy 0x6198
    (sum - kept)

/-- The tokens that a purse asks for: LUMP while it holds fewer than LUMP, or what fills it to 2 × LUMP for a draw that
costs more than it holds (R298). -/
def Purse.need (p : Purse) (lump : Nat) : Nat :=
  if p.purse < lump then lump
  else if p.wants.any (fun w => decide (p.purse < w.cost)) then 2 * lump - p.purse else 0

/-- A forcing REF or MUTE of the group waits for tokens (R298). -/
def Purse.urgent (p : Purse) : Bool := p.wants.any (fun w => w.urgent)

/-- Serve one purse's top-up from the central account, where that holds enough; otherwise the request waits for the next
refill (R298). -/
def State.topUp (s : State) (g : Nat) : State :=
  let n := (s.purse g).need (s.rf RF.CAP_LUMP)
  if n = 0 then { s with capo := { s.capo with topups := s.capo.topups.filter (fun x => x != g) } }
  else if n ≤ s.capo.central then
    let t := s.setPurse g (fun p => { p with purse := p.purse + n, issued := p.issued + n })
    { t with capo := { t.capo with central := t.capo.central - n, topups := t.capo.topups.filter (fun x => x != g) } }
  else if s.capo.topups.contains g then s
  else (({ s with capo := { s.capo with topups := s.capo.topups ++ [g] } } : State).count 0x6180).stick RF.CAP_DRAW_WAIT

/-- Top-up requests in the capo's order: groups with a forcing REF or MUTE first, then oldest request first (R298). -/
def State.topUpOrder (s : State) : List Nat :=
  s.capo.topups.filter (fun g => (s.purse g).urgent) ++ s.capo.topups.filter (fun g => !(s.purse g).urgent)

/-- The throttle fraction of the step in force, in percent (R305). -/
def State.throttleFrac (s : State) : Nat :=
  match s.capo.step with
  | 0 => 100
  | 1 => s.rf RF.CAP_F1
  | 2 => s.rf RF.CAP_F2
  | 3 => s.rf RF.CAP_F3
  | _ => s.rf RF.CAP_F4

/-- F_TELEM in force: 100 % with TELEM_EN clear, at most OCW_FRAC while REG_OCW is high or held (R306). -/
def State.telemFrac (s : State) : Nat :=
  if s.rfb RF.CAP_TELEM_EN then
    if s.pins.regOcw || s.capo.ocwHold.isSome then min s.capo.fTelem (s.rf RF.CAP_OCW_FRAC) else s.capo.fTelem
  else 100

/-- B_EFF in tokens per µs (R297). -/
def State.budgetNow (s : State) : Nat := s.rf RF.CAP_BUDGET * 10 * min s.throttleFrac s.telemFrac

/-- The channels that the tablature of this instance runs. -/
def State.runChannels (s : State) : List Nat := List.range (if s.pair.doubleStop then 64 else 32)

/-- The serving channels: those of SERVE in force, and their partners in double-stop mode. -/
def State.serving (s : State) : List Nat :=
  serveList (s.rf RF.MAP_SERVE) ++
    (if s.pair.doubleStop then (serveList (s.peerWord 0x40008).toNat).map (· + 32) else [])

/-- The highest refresh band of the serving channels (R211). -/
def State.topBand (s : State) : Nat := s.serving.foldl (fun b ch => max b (s.chan ch).band) 0

/-- The floors of R16, in 0.25 GB/s. -/
def bandFloor (b : Nat) : Nat :=
  match b with
  | 0 => 2800
  | 1 => 2744
  | 2 => 2632
  | 3 => 2408
  | _ => 1880

/-- The floor cap of a budget, in 0.25 GB/s (R307). -/
def State.floorCap (s : State) : Nat := s.capo.bEff * 256 / ((s.rf RF.CAP_C_ACT + s.rf RF.CAP_C_RD) * 1000)

/-- Publish FLOOR_NOW at the regulation mutex (R307, R211). -/
def State.publishFloor (s : State) : State :=
  { s with regul := { s.regul with floorNow := min (bandFloor s.topBand) s.floorCap } }

/-- The budget in force follows B, the throttle and the telemetry at a refill (R302). -/
def State.takeBudget (s : State) : State :=
  if s.budgetNow = s.capo.bEff then s
  else ({ s with capo := { s.capo with bEff := s.budgetNow } } : State).publishFloor

/-- A purse's tokens above LUMP go back to the central account, those above its cap lapse (R299). -/
def State.purseBack (s : State) (g : Nat) : State :=
  let lump := s.rf RF.CAP_LUMP
  let sur := (s.purse g).purse - lump
  let cap := s.capo.bEff / 2
  let kept := min sur (cap - s.capo.central)
  let t := s.setPurse g (fun p => { p with purse := p.purse - sur, returned := p.returned + sur })
  ({ t with capo := { t.capo with central := t.capo.central + kept } } : State).countBy 0x6198 (sur - kept)

/-- The refill at a drone tick (R297, R299, R300): the new budget, the central account refilled to its cap, the purses'
surplus taken back, the mute balances filled, and the top-ups served, those that waited first. -/
def State.refill (s : State) : State :=
  let t := s.takeBudget
  let cap := t.capo.bEff / 2
  let sum := t.capo.central + cap
  let t := ({ t with capo := { t.capo with central := min sum cap } } : State).countBy 0x6198 (sum - min sum cap)
  let t := forAll (List.range 16) (fun g t => (t.purseBack g).fillMute g) t
  forAll (t.topUpOrder ++ (List.range 16).filter (fun g => !t.capo.topups.contains g)) (fun g t => t.topUp g) t

/-- The cost of a command (R296). -/
def State.cost (s : State) (cmd : Nat) : Nat :=
  match cmd with
  | 1 => s.rf RF.CAP_C_ACT
  | 5 => s.rf RF.CAP_C_REF
  | 6 => s.rf RF.CAP_C_NREF
  | 16 => s.rf RF.CAP_C_RD
  | 17 => s.rf RF.CAP_C_WR
  | 18 => s.rf RF.CAP_C_AUX
  | 20 => s.rf RF.CAP_C_AUX
  | _ => 0

/-- Tokens are spent by a command that issues: the ledger, TOKENS_CGg and the die's count (R299, R301). -/
def State.spend (s : State) (ch sid cost : Nat) : State :=
  let t := s.setPurse (groupOf ch) (fun p => { p with
    consumed := p.consumed + cost, wants := p.wants.filter (fun w => w.ch != ch) })
  (({ t with capo := { t.capo with dieCount := t.capo.dieCount.upd (dieOf ch sid) (· + cost) } } : State).countBy
    (0x6100 + 8 * groupOf ch) cost).progDone 33

/-- Draw from the purse and spend; the purse asks for a top-up when it falls below LUMP. -/
def State.drawPurse (s : State) (ch sid cost : Nat) : State :=
  ((s.setPurse (groupOf ch) (fun p => { p with purse := p.purse - cost })).spend ch sid cost).topUp (groupOf ch)

/-- A draw that must wait for its purse: it asks for a top-up (R298, R299). -/
def State.waitDraw (s : State) (ch cost : Nat) (urgent : Bool) : State :=
  (s.setPurse (groupOf ch) (fun p => { p with
    wants := p.wants.filter (fun w => w.ch != ch) ++ [⟨ch, cost, urgent⟩] })).topUp (groupOf ch)

/-- A draw from the purse by an agent that may have to wait for the die window. The Bool tells whether it was granted
(R299, R301); a draw that has to counts once in DIE_HOLDS (R308). -/
def State.draw (s : State) (ch sid cost : Nat) (waitsDie urgent : Bool) : Bool × State :=
  if cost = 0 then (true, s)
  else
    let t := if (s.purse (groupOf ch)).purse < cost then s.waitDraw ch cost urgent else s
    if (t.purse (groupOf ch)).purse < cost then (false, t)
    else if waitsDie && decide (t.rf RF.CAP_DIE_CAP < t.capo.dieCount.get (dieOf ch sid) + cost) then
      (false, if (t.chan ch).dieHold then t else (t.count 0x6188).setChan ch (fun c => { c with dieHold := true }))
    else (true, (t.drawPurse ch sid cost).setChan ch (fun c => { c with dieHold := false }))

/-- The draw of a REFPB of REF to a bank with the given owed count: from the refresh balance, or from the purse for a pull-in. No
other agent but MUTE draws from the escape pool: another agent's REFPB draws from the purse, and returns what the refresh balance
held for the bank (R300). -/
def State.drawRef (s : State) (ch sid : Nat) (owed : Int) (a : Agent) (urgent : Bool) : Bool × State :=
  let cost := s.cost 5
  match a == .ref, decide (1 ≤ owed) with
  | true, true =>
    (true, (s.setPurse (groupOf ch) (fun p => { p with refBal := p.refBal - cost })).spend ch sid cost)
  | true, false => s.draw ch sid cost false urgent
  | false, owes =>
    match s.draw ch sid cost (a != .mute) urgent with
    | (false, t) => (false, t)
    | (true, t) => (true, when owes (fun t => t.setPurse (groupOf ch) (fun p => { p with
        refBal := p.refBal - cost, returned := p.returned + cost })) t)

/-- The draw of an NREF: its whole cost from the mute balance for MUTE, or from the purse (R300). -/
def State.drawNref (s : State) (ch sid : Nat) (a : Agent) (urgent : Bool) : Bool × State :=
  let cost := s.cost 6
  if a = .mute ∧ cost ≤ (s.purse (groupOf ch)).muteBal then
    (true, (s.setPurse (groupOf ch) (fun p => { p with muteBal := p.muteBal - cost })).spend ch sid cost)
  else s.draw ch sid cost (!(a == .ref || a == .mute)) urgent

/-- The token ledger of a group balances (R303). -/
def Purse.balanced (p : Purse) : Bool := p.issued == p.consumed + p.returned + p.purse + p.refBal + p.muteBal

/-- The throttle step that an input gives, from the step in force (R305). Temperatures are kept + 64 °C. -/
def State.stepFor (s : State) (input : Nat) : Nat :=
  let th : Nat → Nat := fun k => (match k with
    | 1 => s.rf RF.CAP_T1
    | 2 => s.rf RF.CAP_T2
    | 3 => s.rf RF.CAP_T3
    | _ => s.rf RF.CAP_T4) + 64
  let up := (List.range 5).foldl (fun b k => if 0 < k ∧ th k ≤ input then max b k else b) 0
  let down := [4, 3, 2, 1].foldl (fun b k => if b = k ∧ input + s.rf RF.CAP_HYST < th k then k - 1 else b) s.capo.step
  max up down

/-- Judge the throttle step (R305). -/
def State.judgeStep (s : State) : State :=
  let k := s.stepFor s.capo.input
  let t : State := { s with capo := { s.capo with step := k } }
  when (decide (s.capo.step < k)) (fun t => t.stick RF.CAP_THROTTLED) t

end Sys2Proof.Machine
end

