-- ==== Sys2Proof/Machine/Dies.lean ====
section
/-! DEFINITION. The command interface of the core dies (11_tablature, R257 to R263): the beats of a command on CHn_RC and
CHn_CC, what a SID captures of them, and what it does. -/

namespace Sys2Proof.Machine

/-! ### Commands on the two buses (R257 to R260) -/

/-- A command of a tab row: CMD of R250, the SID, the bank of the SID (4 × BG + BA), and the fields of its encoding. -/
structure DieCmd where
  cmd  : Nat
  sid  : Nat
  bank : Nat
  row  : Nat
  arg  : Nat
  col  : Nat
  mr   : Nat
  data : Nat
  deriving DecidableEq, Repr

/-- A command travels on the column bus. -/
def onColumn (cmd : Nat) : Bool := decide (16 ≤ cmd)

/-- A command names a mode register: MRW or MRR. -/
def namesMr (cmd : Nat) : Bool := cmd == 19 || cmd == 20

/-- The number of ones of a word is odd. -/
def oddOnes {n : Nat} (w : BitVec n) : Bool := (List.range n).foldl (fun p i => p.xor (bitAt w i)) false

/-- The four beats of a row command without PAR, bit `i` of beat `b` at 10b + i (R257, R258). -/
def DieCmd.rowBody (c : DieCmd) : BitVec 40 :=
  BitVec.ofNat 40 (c.cmd % 16 * 64 + c.sid % 4 * 16 + c.bank % 16 + c.row % 1024 * 2 ^ 10 +
    (c.arg % 16 * 32 + c.row / 1024 % 32) * 2 ^ 20)

/-- The beats of a row command: PAR, bit 9 of beat 3, makes the number of ones even (R260). -/
def DieCmd.rowBeats (c : DieCmd) : BitVec 40 := c.rowBody ||| (if oddOnes c.rowBody then BitVec.twoPow 40 39 else 0#40)

/-- The four beats of a column command without PAR, bit `i` of beat `b` at 8b + i (R257, R259). COP is CMD less 15. -/
def DieCmd.colBody (c : DieCmd) : BitVec 32 :=
  if namesMr c.cmd then
    BitVec.ofNat 32 ((c.cmd - 15) % 16 * 16 + c.sid % 4 * 4 + c.mr % 64 * 2 ^ 8 + (if c.cmd = 19 then c.data % 256 * 2 ^ 16 else 0))
  else
    BitVec.ofNat 32 ((c.cmd - 15) % 16 * 16 + c.sid % 4 * 4 + c.bank % 4 + (c.bank / 4 % 4 * 64 + c.col % 16 * 4) * 2 ^ 8)

/-- The beats of a column command: PAR is bit 7 of beat 3 (R260). -/
def DieCmd.colBeats (c : DieCmd) : BitVec 32 := c.colBody ||| (if oddOnes c.colBody then BitVec.twoPow 32 31 else 0#32)

/-- What a SID captures of a row command's beats: none for a parity error, a reserved opcode or a reserved field that is not
zero (R258, R260). -/
def captureRow (w : BitVec 40) : Option DieCmd :=
  if oddOnes w || decide (12 < fieldNat w 9 6) || bitAt w 29 || fieldNat w 38 30 != 0 then none
  else some ⟨fieldNat w 9 6, fieldNat w 5 4, fieldNat w 3 0, fieldNat w 24 20 * 1024 + fieldNat w 19 10, fieldNat w 28 25, 0, 0, 0⟩

/-- What a SID captures of a column command's beats (R259, R260). -/
def captureCol (w : BitVec 32) : Option DieCmd :=
  let cop := fieldNat w 7 4
  if oddOnes w || decide (5 < cop) || fieldNat w 30 24 != 0 || (cop != 4 && cop != 5 && fieldNat w 9 8 != 0) then none
  else if cop = 0 then some ⟨0, 0, 0, 0, 0, 0, 0, 0⟩
  else if cop = 4 ∨ cop = 5 then some ⟨cop + 15, fieldNat w 3 2, 0, 0, 0, 0, fieldNat w 13 8, fieldNat w 23 16⟩
  else some ⟨cop + 15, fieldNat w 3 2, fieldNat w 15 14 * 4 + fieldNat w 1 0, 0, 0, fieldNat w 13 10, 0, 0⟩

/-- What a SID captures of a command whose beats arrive with the bits of `flip` inverted. -/
def DieCmd.captured (c : DieCmd) (flip : BitVec 40) : Option DieCmd :=
  if onColumn c.cmd then captureCol (c.colBeats ^^^ flip.setWidth 32) else captureRow (c.rowBeats ^^^ flip)

/-! ### A SID (R260 to R263) -/

/-- A SID in hold executes no command but MRR of STATUS and MRW of CLEAR (R260). -/
def Sid.deaf (x : Sid) (cmd addr : Nat) : Bool := x.hold && !((cmd == 20 && addr == 2) || (cmd == 19 && addr == 3))

/-- A row is closed by PREC or PREA: its count rises, and at the threshold an empty latch records it (R261, R262). -/
def Sid.close (x : Sid) (bank row : Nat) : Sid :=
  let n := min (x.counts.get (32768 * bank + row) + 1) 65535
  { x with
    rows := x.rows.set bank none
    counts := x.counts.set (32768 * bank + row) n
    latches := if 2 ^ (8 + x.thresh) ≤ n ∧ (x.latches.get bank).isNone then x.latches.set bank (some row) else x.latches }

/-- PREC of a bank: its open row is closed (R261). -/
def Sid.prec (x : Sid) (bank : Nat) : Sid :=
  match x.rows.get bank with
  | some row => x.close bank row
  | none => x

/-- A mode register is written (R263). A write of TESTCTL restarts the pattern; TESTPAT and TESTERR are read only (R344). -/
def Sid.mrw (x : Sid) (addr data : Nat) : Sid :=
  if addr = 0 then { x with latCode := data }
  else if addr = 1 then { x with drvCode := data }
  else if addr = 3 then (if data % 2 = 1 then { x with capErr := false, hold := false } else x)
  else if addr = 8 then { x with thresh := data }
  else if addr = 0x30 then { x with test := x.test.set addr (data % 2), pattern := patternSeeds }
  else if 0x33 ≤ addr ∧ addr ≤ 0x3f then { x with test := x.test.set addr data }
  else x

/-- One step of PRBS-15, x^15 + x^14 + 1 (R344). -/
def prbsStep (x : BitVec 15) : BitVec 15 := (x <<< 1) ||| BitVec.ofNat 15 (b2n (x.getLsbD 14 != x.getLsbD 13))

/-- The pattern of a TSV behind one burst of 16 unit intervals. -/
def prbsBurst (x : BitVec 15) : BitVec 15 := (List.range 16).foldl (fun x _ => prbsStep x) x

/-- TESTCTL WCMP: a WR is compared with the pattern and not stored (R344). -/
def Sid.compares (x : Sid) : Bool := x.test.get 0x30 % 2 == 1

/-- MRR (R262, R344): MITLATCH clears the latches that it returns, TESTPAT advances the pattern by one burst, TESTERR clears its
flags. -/
def Sid.mrr (x : Sid) (addr : Nat) : Sid :=
  if addr = 0x20 then { x with latches := .const none }
  else if addr = 0x31 then { x with pattern := x.pattern.map prbsBurst }
  else if addr = 0x32 then { x with testErr := 0#40 }
  else x

/-- The 16 latches of a SID, as MRR of MITLATCH returns them (R262). -/
def Sid.latchList (x : Sid) : List (Option Nat) := (List.range 16).map x.latches.get

/-- A command's effect in the addressed SID (R261). -/
def Sid.does (x : Sid) (c : DieCmd) : Sid :=
  match c.cmd with
  | 1 => { x with rows := x.rows.set c.bank (some c.row) }
  | 2 => { x with rows := x.rows.set c.bank none }
  | 3 => x.prec c.bank
  | 4 => (List.range 16).foldl Sid.prec x
  | 6 => { x with counts := x.counts.set (32768 * c.bank + c.row) 0 }
  | 7 => { x with selfRef := true }
  | 8 => { x with selfRef := false }
  | 9 => { x with pdown := true }
  | 10 => { x with pdown := false }
  | 19 => x.mrw c.mr c.data
  | 20 => x.mrr c.mr
  | _ => x

/-- A SID takes what it captured of a command for it: an error sets CAPERR and hold (R260). -/
def Sid.takes (x : Sid) (sid : Nat) (got : Option DieCmd) : Sid :=
  match got with
  | none => { x with capErr := true, hold := true }
  | some c =>
    if x.deaf c.cmd c.mr || !(c.sid == sid || (c.cmd == 7 && c.arg % 2 == 1)) then x else x.does c

/-- The line of the core dies that a SID reads or writes for what it captured: the open row's, for an RD or WR (R261). -/
def Sid.access (x : Sid) (ch sid : Nat) (got : Option DieCmd) : Option Nat :=
  match got with
  | some c =>
    if (c.cmd == 16 || (c.cmd == 17 && !x.compares)) && !x.deaf c.cmd c.mr && c.sid == sid then
      (x.rows.get c.bank).map (fun row => arrayKey ch (16 * sid + c.bank) row c.col)
    else none
  | none => none

/-- Change one SID of a channel. -/
def State.setSid (s : State) (ch sid : Nat) (f : Sid → Sid) : State :=
  s.setChan ch (fun c => { c with sids := c.sids.upd sid f })

/-- The content of a row of the core dies becomes undefined: a spare row takes its place (R261, R425). -/
def State.spareRow (s : State) (ch bank row : Nat) : State :=
  { s with array := (List.range 16).foldl (fun a c => a.set (arrayKey ch bank row c) none) s.array }

/-- The numbers of a list side by side, `w` bits each, the first lowest. -/
def packed (w : Nat) : List Nat → Nat
  | [] => 0
  | x :: l => x % 2 ^ w + 2 ^ w * packed w l

/-- Beats that carry a word's bits in the first unit interval, from DQ0 on (R261, R263). -/
def firstUi (n v : Nat) : Beats := BitVec.ofNat 640 (packed 16 ((List.range n).map (fun i => b2n (v.testBit i))))

/-- The word whose bits stand in the first unit interval. -/
def ofFirstUi (n : Nat) (b : Beats) : Nat := packed 1 ((List.range n).map (fun i => b2n (bitAt b (16 * i))))

/-- The 16 bits that a TSV's pattern sends next: those that its register takes in (R344; DESIGN CHOICE, log 137). -/
def patternBits (x : BitVec 15) : Nat → List Nat
  | 0 => []
  | n + 1 => b2n ((prbsStep x).getLsbD 0) :: patternBits (prbsStep x) n

/-- A whole burst of a SID's pattern on all 40 TSVs (R344). -/
def Sid.patternBurst (x : Sid) : Beats :=
  BitVec.ofNat 640 (packed 16 (x.pattern.map (fun p => packed 1 (patternBits p 16))))

/-- STATUS (R263). -/
def Sid.status (x : Sid) : Nat := b2n x.capErr + 2 * b2n x.hold + 4 * b2n x.sensor

/-- What MRR returns in the first unit interval: registers that are not listed, and CLEAR, read zero (R263). -/
def Sid.mrValue (x : Sid) (addr : Nat) : Nat :=
  if addr = 0 then x.latCode
  else if addr = 1 then x.drvCode
  else if addr = 2 then x.status
  else if addr = 8 then x.thresh
  else if addr = 0x10 then x.id0.toNat
  else if addr = 0x11 then x.id1.toNat
  else if addr = 0x12 then x.geom.toNat
  else if 0x30 ≤ addr ∧ addr ≤ 0x3f then x.test.get addr
  else 0

/-- A latch as MITLATCH returns it: valid in bit 15, the row below (R262). -/
def latchWord (l : Option Nat) : Nat := match l with | some r => 32768 + r | none => 0

/-- The 16 latches in the beats of a MITLATCH. -/
def latchesOf (b : Beats) : List (Option Nat) :=
  (List.range 16).map (fun i =>
    let w := fieldNat b (16 * i + 15) (16 * i)
    if 32768 ≤ w then some (w - 32768) else none)

/-- The beats that a SID returns for a read command of its own: RDC the open row's count, MRR its register, TESTPAT and TESTERR on
every TSV; none for RD, whose burst is its line's, and where no row is open (R261, R263, R344). -/
def Sid.answers (x : Sid) (c : DieCmd) : Option Beats :=
  if c.cmd = 18 then (x.rows.get c.bank).map (fun row => firstUi 16 (x.counts.get (32768 * c.bank + row)))
  else if c.cmd = 20 then
    some (if c.mr = 0x20 then BitVec.ofNat 640 (packed 16 (x.latchList.map latchWord))
      else if c.mr = 0x31 then x.patternBurst
      else if c.mr = 0x32 then BitVec.ofNat 640 (packed 16 ((List.range 40).map (fun j => if bitAt x.testErr j then 65535 else 0)))
      else firstUi 8 (x.mrValue c.mr))
  else none

/-- The TSVs of a burst on which some bit differs. -/
def tsvsOf (err : Beats) : BitVec 40 :=
  BitVec.ofNat 40 (packed 1 ((List.range 40).map (fun j => b2n (fieldNat err (16 * j + 15) (16 * j) != 0))))

/-- A SID compares the beats of a WR with its pattern: the flags of the TSVs on which they differ stay set (R344). -/
def State.compareWrite (s : State) (ch sid : Nat) (beats : Beats) : State :=
  s.setSid ch sid (fun x => { x with testErr := x.testErr ||| tsvsOf (beats ^^^ x.patternBurst) })

/-- A command goes out at fret `t` on the beats of its bus; the other bus carries NOP, all zeros, unless a command of its own is still
on it. The strobe toggles with every beat while a command is on either bus (R257). -/
def Chan.drive (c : Chan) (d : DieCmd) (t : Nat) : Chan :=
  let still := fun (b : Option Nat) => match b with | some t0 => decide (t < t0 + 16) | none => false
  let busy := if onColumn d.cmd then still c.rowBus else still c.colBus
  let since := match (if onColumn d.cmd then c.rowBus else c.colBus) with | some t0 => t - t0 | none => 0
  { c with
    colBits := if onColumn d.cmd then d.colBeats else if busy then c.colBits else 0#32
    rowBits := if onColumn d.cmd then (if busy then c.rowBits else 0#40) else d.rowBeats
    strobes := c.strobes + (if busy then since / 4 else 4) }

/-- Every SID of a channel captures a command that goes out at fret `t`, with the bits of `flip` inverted on its way; the addressed
one executes it, SRE with ALL every one (R257 to R261). -/
def State.sendDies (s : State) (ch : Nat) (c : DieCmd) (flip : BitVec 40) (t : Nat) : State :=
  let got := c.captured flip
  let u := s.setChan ch (fun x => x.drive c t)
  let u := forAll (List.range 4) (fun i u => u.setSid ch i (fun x => x.takes i got)) u
  match got with
  | some d =>
    if (d.cmd == 11 || d.cmd == 12) && !((s.chan ch).sids.get d.sid).hold then u.spareRow ch (16 * d.sid + d.bank) d.row else u
  | none => u

end Sys2Proof.Machine
end

