-- ==== Sys2Proof/Machine/RefOps.lean ====
section
/-! DEFINITION. Refresh credits, bands, forcing, mitigation and sentinels as the channel engines keep them
(12_refresh_mute). -/

namespace Sys2Proof.Machine

/-- The key under which a channel keeps the launch time that a timing rule of a scope counts from. -/
def timeKey (kind scope : Nat) : Nat := 256 * kind + scope

/-- Change one bank of a channel. -/
def State.setBank (s : State) (ch b : Nat) (f : Bank → Bank) : State :=
  s.setChan ch (fun c => { c with banks := c.banks.upd b f })

/-- One bank of a channel. -/
def State.bank (s : State) (ch b : Nat) : Bank := (s.chan ch).banks.get b

/-! ### Bands (R271, R272) -/

/-- The lower edge of a band, + 64 °C. -/
def bandEdge (b : Nat) : Nat :=
  match b with
  | 0 => 0
  | 1 => 149
  | 2 => 159
  | 3 => 169
  | _ => 189

/-- The band that a temperature gives to a channel in band `b`: upward at the edges, downward below edge minus HYST. -/
def bandFor (b hyst temp : Nat) : Nat :=
  let up := (List.range 5).foldl (fun x k => if bandEdge k ≤ temp then max x k else x) 0
  let down := [4, 3, 2, 1].foldl (fun x k => if x = k ∧ temp + hyst < bandEdge k then k - 1 else x) b
  max up down

/-- A channel's temperature, in quarters of a degree, is judged: the band it gives takes effect at the next slot boundary (R272). -/
def State.judgeBand (s : State) (ch temp : Nat) : State :=
  s.setChan ch (fun c => { c with temp := temp, bandNew := bandFor c.band (s.rfch RF.REF_HYST ch) (temp / 4) })

/-- The new band takes effect at a slot boundary, with BAND_RISE and the floor it gives (R272, R307). -/
def State.takeBand (s : State) (ch : Nat) : State :=
  let c := s.chan ch
  if c.bandNew = c.band then s
  else
    let t := s.setChan ch (fun c => { c with band := c.bandNew })
    (when (decide (c.band < c.bandNew)) (fun t => t.stick RF.REF_BAND_RISE) t).publishFloor

/-! ### Credits (R273, R274, R289) -/

/-- The channel runs and takes refresh credits: its domain is on, and its clocks have not stopped with the SRE that put its
core dies into self-refresh (R273, R287). A partner channel rests by itself (R389). -/
def State.clocked (s : State) (ch : Nat) : Bool := s.domOn (chDomain ch) && (s.chan ch).rest != .asleep

/-- The slot timer gives one credit to the next bank of the rotation; a bank for which refresh has stopped takes none
(R273, R274, R470). -/
def State.credit (s : State) (ch : Nat) : State :=
  let b := (s.chan ch).slotNext
  let t := s.setChan ch (fun c => { c with
    slotNext := (c.slotNext + 1) % 64, sweep := c.sweep.map (fun n => n - 1), kCount := c.kCount + 1 })
  if s.refreshStopped ch b then t
  else
    let owed := (s.bank ch b).owed + 1
    let t := t.setBank ch b (fun x => { x with owed := owed })
    if 1 ≤ owed then
      t.setPurse (groupOf ch) (fun p => { p with
        refBal := p.refBal + t.rf RF.CAP_C_REF, issued := p.issued + t.rf RF.CAP_C_REF })
    else t

/-- Start an exit sweep: every owed count to 0, the pointers kept or set to 0, 4,096 credits for every bank to come
(R289). -/
def State.startSweep (s : State) (ch : Nat) (lost : Bool) : State :=
  let t := s.setChan ch (fun c => { c with
    banks := c.banks.mapAll (fun b => { b with owed := 0, ptr := if lost then 0 else b.ptr }), sweep := some 262144 })
  ((t.syncRefBal (groupOf ch)).stick RF.REF_SWEEP_RUN).count 0xb0118

/-! ### Forcing (R275, R283) -/

/-- P and Q of a band: the postponement and pull-in limits while takeover is armed (R387). -/
def armedLimits (band : Nat) : Nat × Nat :=
  match band with
  | 0 => (7, 8)
  | 1 => (7, 8)
  | 2 => (7, 7)
  | 3 => (6, 6)
  | _ => (4, 4)

/-- The postponement limit in force (R275, R387). -/
def State.postLimit (s : State) (ch : Nat) : Int := if s.armed then (armedLimits (s.chan ch).band).1 else 8

/-- The pull-in limit in force (R387). -/
def State.pullLimit (s : State) (ch : Nat) : Int :=
  if s.armed then min (s.rfch RF.REF_PULL_LIMIT ch) (armedLimits (s.chan ch).band).2 else s.rfch RF.REF_PULL_LIMIT ch

/-- POST_URGE in force (R387). -/
def State.postUrge (s : State) (ch : Nat) : Int :=
  if s.armed then min (s.rfch RF.REF_POST_URGE ch) ((armedLimits (s.chan ch).band).1 - 1) else s.rfch RF.REF_POST_URGE ch

/-- The greatest owed count at which SPPR may issue: L − ⌈2,200 ns ÷ I⌉ (R426); I is 7,812.5 ns halved by each band. -/
def State.spprLimit (s : State) (ch : Nat) : Int :=
  s.postLimit ch - ((2200 * 2 ^ (s.chan ch).band * 2 + 15624) / 15625 : Nat)

/-- A soft repair of a row of the SID of bank `b` waits for its refresh condition (R426). -/
def State.spprWaits (s : State) (ch b : Nat) : Bool :=
  match s.rpr.op with
  | some o => o.ch == ch && o.bank / 16 == b / 16 && (o.stage == .waiting || o.stage == .issuing)
  | none => false

/-- REF is forcing: a bank that it may serve has an owed count at the postponement limit or above. -/
def State.refForcing (s : State) (ch : Nat) : Bool :=
  (s.chan ch).banks.ents.any (fun e => decide (s.postLimit ch ≤ e.2.owed) && !s.refreshStopped ch e.1)

/-- T in force on a channel (R281): the threshold that every SID of the channel has been given. -/
def Chan.threshold (c : Chan) : Nat := c.tOld

/-- The SID whose MIT_READ has been captured and is on its way: its latches and its banks' A are as good as taken (R262, R283). -/
def Chan.mitPends (c : Chan) (sid : Nat) : Bool := match c.latchRead with | some x => x.sid == sid | none => false

/-- The SIDs of which a bank's A calls for a MIT_READ at `1/k` of T. -/
def State.sidsAt (s : State) (ch k : Nat) : List Nat :=
  (List.range 4).filter (fun sid => !(s.chan ch).mitPends sid && (List.range 16).any (fun b =>
    decide ((s.chan ch).threshold / k ≤ ((s.chan ch).banks.get (16 * sid + b)).acts)))

/-- A bank is hot (R282). -/
def State.hot (s : State) (ch b : Nat) : Bool :=
  match (s.bank ch b).hotUntil with
  | some t => decide (s.now < t)
  | none => false

/-- The SIDs that hold a hot bank closed since its last MIT_READ (R283). -/
def State.hotSids (s : State) (ch : Nat) : List Nat :=
  (List.range 4).filter (fun sid => !(s.chan ch).mitPends sid && (List.range 16).any (fun b =>
    s.hot ch (16 * sid + b) && (s.bank ch (16 * sid + b)).closedSince))

/-- The SIDs whose MIT_READ is due: requested at T ÷ 16, oldest request first, or called for by a hot bank. -/
def State.mitDue (s : State) (ch : Nat) : List Nat :=
  let asked := (s.chan ch).mitAsk.filter (fun x => !(s.chan ch).mitPends x)
  asked ++ ((s.sidsAt ch 16 ++ s.hotSids ch).eraseDups).filter (fun x => !asked.contains x)

/-- The backlog has room for one MIT_READ, beside one whose result is on its way (R283). -/
def Chan.mitRoom (c : Chan) : Bool := decide (c.backlog.length + (if c.latchRead.isSome then 16 else 0) ≤ 112)

/-- A built-in test of HAMMER suspends MUTE for the banks of its scope (R430). -/
def State.hammered (s : State) (ch b : Nat) : Bool :=
  match s.rpr.bist with
  | some x => x.ch == ch && x.test == 1 && (match x.scope with
      | 0 => x.bank == b
      | 1 => x.bank / 16 == b / 16
      | _ => true)
  | none => false

/-- MUTE is forcing (R283). -/
def State.muteForcing (s : State) (ch : Nat) : Bool :=
  let c := s.chan ch
  !(s.sidsAt ch 8).isEmpty || !(s.hotSids ch).isEmpty || c.backlog.any (fun e => decide (c.threshold / 4 ≤ e.e) && !s.hammered ch e.bank) ||
    (!(s.mitDue ch).isEmpty && !c.mitRoom)

/-- An agent is forcing (R239, R265: CAL's STATUS entry after a capture miss). -/
def State.forcing (s : State) (ch : Nat) (a : Agent) : Bool :=
  match a with
  | .ref => s.refForcing ch
  | .mute => s.muteForcing ch
  | .cal => !(s.chan ch).missed.isEmpty
  | _ => false

/-- The sticky bits of a forcing REF or MUTE (R294, R295). -/
def State.noteForcing (s : State) (ch : Nat) : State :=
  when (s.muteForcing ch) (fun t => t.stick RF.MUT_MUTE_FORCED)
    (when (s.refForcing ch) (fun t => t.stick RF.REF_REF_FORCED) s)

/-! ### Activations, latches and the backlog (R261, R262, R282) -/

/-- A bank's row is closed with PREC or PREA, as the channel engine keeps it (R233, R261, R283). -/
def State.closeRow (s : State) (ch b : Nat) : State :=
  match (s.bank ch b).openRow with
  | none => s
  | some _ => s.setBank ch b (fun x => { x with
      openRow := none, closeDue := false, idleRun := false, closedSince := true, closedAfter := true })

/-- An ACT opens a row: A and the E of the bank's backlog entries count it (R282). -/
def State.openBank (s : State) (ch b row : Nat) : State :=
  let t := s.setChan ch (fun c => { c with
    banks := c.banks.upd b (fun x => { x with openRow := some row, acts := x.acts + 1, closeDue := false })
    backlog := c.backlog.map (fun e => if e.bank = b then { e with e := e.e + 1 } else e) })
  let sid := b / 16
  if (t.chan ch).threshold / 16 ≤ (t.bank ch b).acts ∧ !(t.chan ch).mitAsk.contains sid then
    t.setChan ch (fun c => { c with mitAsk := c.mitAsk ++ [sid] })
  else t

/-- A MIT_READ of a SID issues at fret `t`: what its result will stand for is noted. A close whose PREC overlaps the MRR in
time counts as one after it (R262, R282). -/
def Chan.latchMark (c : Chan) (sid t : Nat) : Chan :=
  { c with banks := (List.range 16).foldl (fun bs i => bs.upd (16 * sid + i) (fun x => { x with
      actsAt := x.acts
      closedAfter := match c.times.get (timeKey 2 (16 * sid + i)) with | some t0 => decide (t < t0 + 16) | none => false })) c.banks }

/-- A MIT_READ's result: every valid latch joins the backlog unless it is there, its bank becomes hot, and A of the SID's 16
banks counts from the MIT_READ, E of the rows it brings with it (R262, R282). -/
def State.takeLatches (s : State) (ch sid : Nat) (lat : List (Option Nat)) : State :=
  let rows := (List.range 16).filterMap (fun b => (lat.getD b none).map (fun r => (16 * sid + b, r)))
  let forced := match (s.chan ch).latchRead with | some x => x.hot | none => false
  let t := s.setChan ch (fun c => { c with
    backlog := rows.foldl (fun l p =>
      if l.any (fun e => e.bank == p.1 && e.row == p.2) then l
      else l ++ [⟨p.1, p.2, (c.banks.get p.1).acts - (c.banks.get p.1).actsAt⟩]) c.backlog
    banks := (List.range 16).foldl (fun bs b => bs.upd (16 * sid + b) (fun x => { x with
      acts := x.acts - x.actsAt, actsAt := 0, closedSince := x.closedAfter,
      hotUntil := if (lat.getD b none).isSome then some (s.now + 64250) else x.hotUntil })) c.banks
    mitAsk := c.mitAsk.filter (fun x => x != sid)
    latchRead := none })
  let t := ((t.count 0xb1100).countBy 0xb1108 rows.length)
  let t := when forced (fun t => t.count 0xb1118) t
  let t := when (rows.any (fun p => !s.hot ch p.1)) (fun t => t.stick RF.MUT_HOT_ENTER) t
  when (decide (128 ≤ (t.chan ch).backlog.length)) (fun t => t.stick RF.MUT_BACKLOG_FULL) t

/-- An NREF issues for a row: its backlog entry leaves (R284). -/
def State.mitigate (s : State) (ch b row : Nat) : State :=
  (s.setChan ch (fun c => { c with backlog := c.backlog.filter (fun e => !(e.bank == b && e.row == row)) })).count 0xb1110

/-- A REFPB issues: the owed count falls, the pointer advances (R273). -/
def State.refreshed (s : State) (ch b : Nat) : State :=
  let t := when (decide ((s.bank ch b).owed ≤ 0)) (fun t => t.count 0xb0108) s
  (t.setBank ch b (fun x => { x with owed := x.owed - 1, ptr := (x.ptr + 1) % 4096 })).count 0xb0100

/-! ### Sentinels (R291 to R293) -/

/-- A bank becomes retention-suspect (R293). -/
def State.suspect (s : State) (ch b : Nat) : State :=
  let p := decide (32 ≤ ch)
  let t := s.setBank ch b (fun x => { x with suspect := true, scrubAt := some 0, scrubBad := 0 })
  let t := when (!p) (fun t => t.stickBits RF.REF_SUSPECT 0 (2 ^ ch)) t
  let t := (t.count 0xb0128).eventP p (0x40 + ch % 32) 0x0404 2 (payload [(0, 1, ch % 32), (1, 1, b)])
  if t.rfch RF.REF_SENT_FENCE ch = 2 then
    t.fenceUnit .bank (64 * ch + b) rsnSentinel (some (0x40 + ch % 32, 0x0404))
  else t

end Sys2Proof.Machine
end

