-- ==== Sys2Proof/Machine/TrimOps.lean ====
section
/-! DEFINITION. Trims: their numbering, interpolation between temperature points, the records of the temperature sets and
of the repair map, and the guards of the calibration states (15_calibration, R421, R422). -/

namespace Sys2Proof.Machine

/-! ### The trims of a channel by number: 0 PLUCK, 1 DRV, 2 to 41 VREF, 42 to 81 WDESKEW, 82 to 121 RDESKEW, 122 to
129 RSTROBE, 130 and 131 WSTROBE, 132 FRET, 133 CS_PHASE, 134 to 152 CDESKEW -/

/-- One trim of a record. -/
def trimAt (t : Trims) (k : Nat) : Nat :=
  if k = 0 then t.pluck else if k = 1 then t.drv
  else if k < 42 then t.vref.getD (k - 2) 0
  else if k < 82 then t.wdeskew.getD (k - 42) 0
  else if k < 122 then t.rdeskew.getD (k - 82) 0
  else if k < 130 then t.rstrobe.getD (k - 122) 0
  else if k < 132 then t.wstrobe.getD (k - 130) 0
  else if k = 132 then t.fret else if k = 133 then t.csPhase
  else t.cdeskew.getD (k - 134) 0

/-- A record with one trim replaced. -/
def putTrim (t : Trims) (k v : Nat) : Trims :=
  if k = 0 then { t with pluck := v } else if k = 1 then { t with drv := v }
  else if k < 42 then { t with vref := t.vref.set (k - 2) v }
  else if k < 82 then { t with wdeskew := t.wdeskew.set (k - 42) v }
  else if k < 122 then { t with rdeskew := t.rdeskew.set (k - 82) v }
  else if k < 130 then { t with rstrobe := t.rstrobe.set (k - 122) v }
  else if k < 132 then { t with wstrobe := t.wstrobe.set (k - 130) v }
  else if k = 132 then { t with fret := v } else if k = 133 then { t with csPhase := v }
  else { t with cdeskew := t.cdeskew.set (k - 134) v }

/-- The greatest code of a trim (R342). -/
def trimMax (k : Nat) : Nat :=
  if k = 0 then 1023 else if k = 1 then 12 else if k < 42 then 63 else if k < 132 then 255
  else if k = 132 then 127 else if k = 133 then 63 else 255

/-- A trim is rounded up when it is interpolated: FRET_TRIM and PLUCK_TRIM (R342). -/
def roundsUp (k : Nat) : Bool := k == 0 || k == 132

/-- A trim's value from its arithmetic. Past the longest code FRET_TRIM and PLUCK_TRIM stay at it, since timing is never
made shorter (R12, R342); elsewhere outside the codes of R342 the spec states no value (log 3). -/
def trimOf (k : Nat) (v : Int) : Nat :=
  if 0 ≤ v ∧ v ≤ (trimMax k : Int) then v.toNat
  else if roundsUp k && decide ((trimMax k : Int) < v) then trimMax k
  else Config.trimBeyond v % (trimMax k + 1)

/-- A quotient rounded as R342 gives; which way a midway value goes to the nearest is open (log 3). -/
def roundTrim (k n d : Nat) : Nat :=
  if roundsUp k then (n + d - 1) / d
  else if 2 * (n % d) < d then n / d
  else if d < 2 * (n % d) then n / d + 1
  else if Config.midwayUp n d then n / d + 1 else n / d

/-! ### Temperature sets (R355, R356) -/

/-- The temperature of point `t`, + 64 °C (R355). -/
def pointTemp (t : Nat) : Nat :=
  match t with
  | 0 => 24
  | 1 => 54
  | 2 => 84
  | 3 => 114
  | 4 => 144
  | 5 => 169
  | 6 => 194
  | _ => 214

/-- The record of a channel at a point. -/
def State.set (s : State) (ch t : Nat) : TempSet := s.cal.sets.get (8 * ch + t)

/-- The points at which a channel's record is valid. -/
def State.validPoints (s : State) (ch : Nat) : List Nat := (List.range 8).filter (fun t => (s.set ch t).valid)

/-- The interpolated value of a trim at a temperature in quarters of a degree (R356); the factory trim where no point is valid
(R103). -/
def State.interp (s : State) (ch k temp : Nat) : Nat :=
  let pts := s.validPoints ch
  let val := fun t => if k = 132 then (s.set ch t).fret else trimAt (s.set ch t).trims k
  match (pts.filter (fun t => decide (4 * pointTemp t ≤ temp))).getLast?, pts.find? (fun t => decide (temp ≤ 4 * pointTemp t)) with
  | some a, some b =>
    if pointTemp a = pointTemp b then val a
    else roundTrim k (val a * (4 * pointTemp b - temp) + val b * (temp - 4 * pointTemp a)) (4 * pointTemp b - 4 * pointTemp a)
  | some a, none => val a
  | none, some b => val b
  | none, none => Config.factoryTrim ch k % (trimMax k + 1)

/-- The record with every trim interpolated at a temperature. -/
def State.interpAll (s : State) (ch temp : Nat) (base : Trims) : Trims :=
  (List.range 153).foldl (fun t k => putTrim t k (s.interp ch k temp)) base

/-- Bytes 14 to 175 of a temperature-set record, the trims with their reserved bytes (R355). -/
def Trims.bytes (t : Trims) : List Byte :=
  let b := fun (l : List Nat) => l.map (fun v => BitVec.ofNat 8 v)
  leBytes 1 t.fret ++ [0#8] ++ leBytes 2 t.pluck ++ leBytes 1 t.drv ++ [0#8] ++ b t.sidDrv ++ b t.vref ++ b t.wdeskew ++
    b t.rdeskew ++ b t.rstrobe ++ b t.wstrobe ++ leBytes 1 t.csPhase ++ [0#8] ++ b t.cdeskew ++ leBytes 1 t.rdGate

/-- The trims in bytes 14 to 175 of a record. -/
def trimsOf (l : List Byte) : Trims :=
  let n := fun (at0 len : Nat) => ((l.drop at0).take len).map BitVec.toNat
  let one := fun (at0 : Nat) => (l.getD at0 0#8).toNat
  ⟨one 0 % 128, (one 2 + 256 * one 3) % 1024, one 4 % 16, n 6 4, n 10 40, n 50 40, n 90 40, n 130 8, n 138 2, one 140, n 142 19,
    one 161⟩

/-- The bytes of a temperature-set record (R355). -/
def TempSet.bytes (x : TempSet) (ch t : Nat) : List Byte :=
  withCrc (leBytes 4 0x6c616363 ++ leBytes 2 1 ++ leBytes 1 ch ++ leBytes 1 t ++ leBytes 4 x.seq ++
    leBytes 1 ((if x.est then 1 else 0) + (if x.fac then 2 else 0)) ++ leBytes 1 x.temp ++ Trims.bytes { x.trims with fret := x.fret } ++
    List.replicate 844 0#8)

/-- The byte address of a temperature-set record (R90). -/
def setAddr (ch t : Nat) : Nat := 0x50000 + (8 * ch + t) * 0x400

/-- A temperature-set record as step 7 reads it from MRAM (R92, R103). -/
def State.readSet (s : State) (ch t : Nat) : TempSet :=
  let l := s.mram (setAddr ch t) 1024
  let one := fun (at0 : Nat) => (l.getD at0 0#8).toNat
  let ok := s.recordOk (setAddr ch t) 1024 && leNat (l.take 4) == 0x6c616363 && leNat ((l.drop 4).take 2) == 1 &&
    one 6 == ch && one 7 == t
  ⟨ok, ok && (one 12 % 2 == 1), ok && (one 12 / 2 % 2 == 1), leNat ((l.drop 8).take 4), one 13, one 14, trimsOf (l.drop 14), none⟩

/-! ### The repair map (R421, R422) -/

/-- A row entry's bits (R421). -/
def rowEntry (bank row : Nat) (unconfirmed : Bool) : Nat :=
  2 ^ 31 + (if unconfirmed then 2 ^ 30 else 0) + bank % 64 * 2 ^ 15 + row % 32768

/-- A list of 32-bit words, filled with zero words to `n`. -/
def wordsTo (n : Nat) (l : List Nat) : List Byte := (List.range n).flatMap (fun i => leBytes 4 (l.getD i 0))

/-- The bytes of a repair-map record (R421). -/
def RepairMap.bytes (m : RepairMap) (ch : Nat) : List Byte :=
  withCrc (leBytes 4 0x72706d63 ++ leBytes 2 1 ++ leBytes 1 ch ++ [0#8] ++ leBytes 4 m.seq ++
    m.dqSpare.map (fun v => BitVec.ofNat 8 v) ++ leBytes 1 m.cmdSpare ++ [0#8] ++ leBytes 1 m.soft.length ++
    leBytes 1 m.hard.length ++ leBytes 1 m.column.length ++ List.replicate 11 0#8 ++
    wordsTo 128 (m.soft.map (fun e => rowEntry e.1 e.2 false)) ++
    wordsTo 128 (m.hard.map (fun e => rowEntry e.1 e.2.1 e.2.2)) ++
    wordsTo 64 (m.column.map (fun e => 2 ^ 31 + e.1 % 64 * 2 ^ 10 + e.2.1 % 64 * 2 ^ 4 + e.2.2 % 16)) ++
    List.replicate 732 0#8)

/-- The 32-bit words of a byte string. -/
def bytesWords (n : Nat) (l : List Byte) : List Nat := (List.range n).map (fun i => leNat ((l.drop (4 * i)).take 4))

/-- The map that a repair record holds. -/
def repairOf (l : List Byte) : RepairMap :=
  let rows := fun (at0 : Nat) => (bytesWords 128 (l.drop at0)).filter (fun w => w.testBit 31)
  ⟨leNat ((l.drop 8).take 4), ((l.drop 12).take 4).map BitVec.toNat, (l.getD 16 0#8).toNat,
    (rows 32).map (fun w => (w / 2 ^ 15 % 64, w % 32768)),
    (rows 544).map (fun w => (w / 2 ^ 15 % 64, w % 32768, w.testBit 30)),
    ((bytesWords 64 (l.drop 1056)).filter (fun w => w.testBit 31)).map (fun w => (w / 2 ^ 10 % 64, w / 2 ^ 4 % 64, w % 16))⟩

/-- The byte address of a channel's repair record in copy `c` (R90). -/
def repairAddr (c ch : Nat) : Nat := 0x90000 + 0x10000 * c + 0x800 * ch

/-- A repair record in MRAM is valid. -/
def State.repairOk (s : State) (c ch : Nat) : Bool :=
  let l := s.mram (repairAddr c ch) 2048
  s.recordOk (repairAddr c ch) 2048 && leNat (l.take 4) == 0x72706d63 && leNat ((l.drop 4).take 2) == 1 &&
    (l.getD 6 0#8).toNat == ch

/-- The repair map of a channel. -/
def State.rmap (s : State) (ch : Nat) : RepairMap := s.rpr.maps.get ch

/-- A channel's repair map as MRAM holds it: the newer valid copy (R104, R422). -/
def State.storedMap (s : State) (ch : Nat) : RepairMap :=
  if s.repairOk 0 ch then repairOf (s.mram (repairAddr 0 ch) 2048)
  else if s.repairOk 1 ch then repairOf (s.mram (repairAddr 1 ch) 2048) else RepairMap.init

/-- A change to a channel's repair map: the whole record with SEQ + 1, first to copy 0 and then to copy 1 (R422). A
partner channel's map is the partner's and is not written here, and nothing is written while NVM_RDY is low (R34). -/
def State.changeMap (s : State) (ch : Nat) (f : RepairMap → RepairMap) : State :=
  let m : RepairMap := { f (s.rmap ch) with seq := ((s.rmap ch).seq + 1) % 2 ^ 32 }
  let t : State := { s with rpr := { s.rpr with maps := s.rpr.maps.set ch m } }
  if ch < 32 ∧ t.pins.nvmRdy then
    t.nvmJob (.repairMap ch) true (wordsOf (repairAddr 0 ch) (m.bytes ch) ++ wordsOf (repairAddr 1 ch) (m.bytes ch))
  else t

/-! ### Groups and channels -/

/-- One channel's calibration. -/
def State.calCh (s : State) (ch : Nat) : CalChan := s.cal.chans.get ch

/-- Change one channel's calibration. -/
def State.setCalCh (s : State) (ch : Nat) (f : CalChan → CalChan) : State :=
  { s with cal := { s.cal with chans := s.cal.chans.upd ch f } }

/-- The calibration group that a channel's timers belong to: a partner channel runs on the timers of the own channel of
its number (R387, R389). -/
def calGroupOf (ch : Nat) : Nat := ch % 32 / 2

/-- One group's calibration. -/
def State.calGr (s : State) (g : Nat) : CalGroup := s.cal.groups.get g

/-- Change one group's calibration. -/
def State.setCalGr (s : State) (g : Nat) (f : CalGroup → CalGroup) : State :=
  { s with cal := { s.cal with groups := s.cal.groups.upd g f } }

/-- The state of the router's age timer (R475): NOREF while no reference is held or none has been measured against, STALE while a
group's window measures it, FRESH otherwise; holdover leaves it as it was (R62). -/
def State.syncAge (s : State) : State :=
  let measuring := (List.range 16).any (fun g => match (s.calGr g).run with | some r => !r.window | none => false)
  let st : CalState := match s.cal.refState with
    | .absent => .noref
    | .holdover => s.cal.ageSt
    | .locked => if measuring then .stale else if s.cal.ageMeas then .fresh else .noref
  { s with cal := { s.cal with ageSt := st } }

/-- The guard that a state adds to FRET_TRIM (R342). -/
def fretGuard (st : CalState) : Nat :=
  match st with
  | .fresh => 0
  | .stale => 8
  | .noref => 20

/-- The bias that a state adds to PLUCK_TRIM (R342). -/
def pluckBias (st : CalState) : Nat :=
  match st with
  | .fresh => 0
  | .stale => 20
  | .noref => 80

/-- FRET_TRIM in force on a group (R342, R351, R354). -/
def State.fretNow (s : State) (g : Nat) : Nat :=
  trimOf 132 ((s.calGr g).fret + fretGuard (s.calGr g).st : Nat)

/-- A pluck oscillator starts after a stop: it takes the bias of its group's state (R351, R354), which then is part of
the correction still to come (R352). -/
def State.pluckStart (s : State) (ch : Nat) : State :=
  let st := (s.calGr (calGroupOf ch)).st
  let c := s.calCh ch
  let v := trimOf 0 (c.trims.pluck + pluckBias st : Nat)
  let take := s.setCalCh ch (fun c => { c with pluck := v, pending := c.pending.filter (fun p => p.trim != 0) })
  match st with
  | .fresh => s
  | .stale => if v ≤ c.pluck then s else take
  | .noref => take

/-- A burst has run on a channel: it counts towards the next slew step (R352). -/
def State.slewBurst (s : State) (ch : Nat) : State :=
  if (s.calCh ch).pending.isEmpty then s else s.setCalCh ch (fun c => { c with burstCount := c.burstCount + 1 })

/-- The agents of host traffic do not request: the group is NOREF (R354), or the channel trains or retrains (R175,
R348). -/
def State.trafficHeld (s : State) (ch : Nat) : Bool :=
  (s.calGr (calGroupOf ch)).st == .noref || (s.calCh ch).retraining || (s.calCh ch).trainFrom.isSome

end Sys2Proof.Machine
end

