-- ==== Sys2Proof/Machine/TabOps.lean ====
section
/-! DEFINITION. The tablature as a tab player reads it (11_tablature): the fields of a row, the unit of work and the target
that it acts on, and the timing rules (R250, R267). -/

namespace Sys2Proof.Machine

/-! ### Agents (R236) -/

/-- The number of an agent (R236). -/
def agentNum (a : Agent) : Nat :=
  match a with
  | .rdq => 0
  | .wrd => 1
  | .rtq => 2
  | .ref => 3
  | .mute => 4
  | .cal => 5
  | .scrb => 6
  | .aux => 7

/-- The fixed order in which ties are broken (R239). -/
def tieOrder : List Agent := [.ref, .mute, .rtq, .cal, .wrd, .rdq, .scrb, .aux]

/-- A channel's agent. -/
def Chan.agent (c : Chan) (a : Agent) : AgentSt := c.agents.get (agentNum a)

/-- Change an agent. -/
def Chan.setAgent (c : Chan) (a : Agent) (f : AgentSt → AgentSt) : Chan :=
  { c with agents := c.agents.upd (agentNum a) f }

/-! ### The place of a unit of work -/

/-- The pointer of a built-in test, column fastest, as bank, row and column (R431). -/
def testPlace (p : Nat) : Nat × Nat × Nat := (p / 524288 % 64, p / 16 % 32768, p % 16)

/-- The read entry of a work item. -/
def Chan.rdOf (c : Chan) (u i : Nat) : Option RdEnt := c.reads.find? (fun e => e.uid == u && e.idx == i)

/-- The write-share line of a work item. -/
def Chan.wrOf (c : Chan) (l q : Nat) : Option WrEnt := c.writes.find? (fun e => e.laddr == l && e.wseqs.contains q)

/-- The bank, row and column that a work item names (R250). -/
def State.workPlace (s : State) (ch : Nat) (w : Work) : Option (Nat × Nat × Nat) :=
  let c := s.chan ch
  let sent := fun (b : Nat) => some (b, s.rfch RF.REF_SENT_ROW ch, s.rfch RF.REF_SENT_COL ch)
  match w with
  | .rdLine u i => (c.rdOf u i).map (fun e => (e.bank, e.row, e.col))
  | .wrLine l q => (c.wrOf l q).map (fun e => (e.bank, e.row, e.col))
  | .refBank b => some (b, 8 * (c.banks.get b).ptr, 0)
  | .mitRow b r => some (b, r, 0)
  | .scrub b r col => some (b, r, col)
  | .sentArm b => sent b
  | .sentCheck b => sent b
  | .test p => some (testPlace p)
  | .rowOp b r col => some (b, r, col)
  | .wrBack b r col => some (b, r, col)
  | _ => none

/-- The bank that a work item selects. -/
def Chan.workBank (c : Chan) (w : Work) : Option Nat :=
  match w with
  | .rdLine u i => (c.rdOf u i).map (fun e => e.bank)
  | .wrLine l q => (c.wrOf l q).map (fun e => e.bank)
  | .refBank b => some b
  | .mitRow b _ => some b
  | .scrub b _ _ => some b
  | .sentArm b => some b
  | .sentCheck b => some b
  | .rowOp b _ _ => some b
  | .wrBack b _ _ => some b
  | _ => none

/-- The SID of a work item that names no bank. -/
def workSid (w : Work) : Nat :=
  match w with
  | .mitRead sid => sid
  | .thresh sid => sid
  | .status sid => sid
  | .calStep n => n % 4
  | .openSid sid => sid
  | _ => 0

/-- The TSVs of a channel are driven: its core dies are out of reset, the bridge has not fenced this instance, and the wrapper
has not taken the pins over (R28, R41, R433). -/
def State.driven (s : State) (ch : Nat) : Bool :=
  (decide (32 ≤ ch) || s.pins.chRst.get ch) && !s.pins.sfenced && !s.rpr.wsStop

/-! ### Tab rows (R250) -/

/-- CMD. -/
def rowCmd (r : BitVec 64) : Nat := fieldNat r 63 59
/-- ADDR_SRC. -/
def rowSrc (r : BitVec 64) : Nat := fieldNat r 58 56
/-- RULES. -/
def rowRules (r : BitVec 64) : Nat := fieldNat r 55 40
/-- WAIT, in frets. -/
def rowWait (r : BitVec 64) : Nat := 4 * fieldNat r 39 32
/-- DPA. -/
def rowDpa (r : BitVec 64) : Nat := fieldNat r 31 28
/-- NEXT. -/
def rowNext (r : BitVec 64) : Nat := fieldNat r 25 16
/-- BR. -/
def rowBr (r : BitVec 64) : Nat := fieldNat r 15 14
/-- IMM. -/
def rowImm (r : BitVec 64) : Nat := fieldNat r 13 0

/-- The first row of an entry (R251, R270). -/
def State.firstRow (s : State) (entry : Nat) : Nat := fieldNat (s.tab.entries.get entry) 9 0

/-- What a row addresses: bank (its SID is bank div 16), row and column. -/
structure Target where
  bank : Nat
  row  : Nat
  col  : Nat
  deriving DecidableEq, Repr

/-- The work item that a row acts on: with SWEEP the pointer moves on with each burst, otherwise it is the transfer's current
line (R250). -/
def Xfer.item (x : Xfer) (r : BitVec 64) : Work :=
  if rowSrc r = 4 then x.work.getD (x.issued % x.work.length) (.test 0) else x.work.getD x.done (.test 0)

/-- The refresh target bank (R250, R273): that of REF's work item, otherwise the next of the rotation. -/
def Chan.refTarget (c : Chan) (w : Work) : Nat :=
  match w with
  | .refBank b => b
  | _ => c.slotNext

/-- The aggressor row that MUTE holds (R250, R284): that of its work item, otherwise the oldest of the backlog. -/
def Chan.mitTarget (c : Chan) (w : Work) : Target :=
  match w, c.backlog with
  | .mitRow b r, _ => ⟨b, r, 0⟩
  | _, e :: _ => ⟨e.bank, e.row, 0⟩
  | _, [] => ⟨0, 0, 0⟩

/-- The target of a row for a work item (R250). -/
def State.target (s : State) (ch : Nat) (r : BitVec 64) (w : Work) : Target :=
  let c := s.chan ch
  let place : Target := match s.workPlace ch w with
    | some (b, row, col) => ⟨b, row, col⟩
    | none => ⟨16 * workSid w, 0, 0⟩
  match rowSrc r with
  | 0 => place
  | 1 => ⟨rowImm r / 256 % 64, 0, 0⟩
  | 2 => ⟨c.refTarget w, 8 * (c.banks.get (c.refTarget w)).ptr, 0⟩
  | 3 => c.mitTarget w
  | 4 => place
  | _ => ⟨place.bank, 0, 0⟩

/-! ### Timing rules (R267): the launch times that each rule counts from -/

/-- The fret at which `n` frets have passed since a launch kept under a key; 0 where there was none. -/
def Chan.expiry (c : Chan) (kind scope n : Nat) : Nat :=
  match c.times.get (timeKey kind scope) with
  | some t0 => t0 + n
  | none => 0

/-- The SIDs that a row's command addresses: SRE with ALL addresses every SID (R258). -/
def rowSids (r : BitVec 64) (x : Target) : List Nat :=
  if rowCmd r = 7 ∧ rowImm r % 2 = 1 then [0, 1, 2, 3] else [x.bank / 16 % 4]

/-- The banks that a row's command is a command to: all of its SIDs for PREA and SRE (R261, R267). -/
def rowBanks (r : BitVec 64) (x : Target) : List Nat :=
  if rowCmd r = 4 ∨ rowCmd r = 7 then (rowSids r x).flatMap (fun sid => (List.range 16).map (fun i => 16 * sid + i)) else [x.bank]

/-- The greatest of some numbers. -/
def greatest (l : List Nat) : Nat := l.foldl max 0

/-- The fret at which one rule of the table of R267 expires for a row's target. -/
def State.ruleEnd (s : State) (ch rule : Nat) (r : BitVec 64) (x : Target) : Nat :=
  let c := s.chan ch
  let f := fun (fld : Field) => s.rfch fld ch
  let b := x.bank
  let sid := b / 16
  let bg := b / 4
  let banks := rowBanks r x
  let sids := rowSids r x
  match rule with
  | 0 => c.expiry 0 b (if rowCmd r = 17 then f RF.T_RCD_WR_COUNT else f RF.T_RCD_RD_COUNT)
  | 1 => greatest (banks.map (fun b => c.expiry 0 b (f RF.T_RAS_COUNT)))
  | 2 => max (c.expiry 1 b (f RF.T_RP_COUNT)) (c.expiry 2 b (f RF.T_RP_COUNT + f RF.T_PCU_COUNT))
  | 3 => greatest (banks.map (fun b => c.expiry 3 b (f RF.T_RTP_COUNT)))
  | 4 => greatest (banks.map (fun b => c.expiry 4 b (f RF.T_WR_COUNT)))
  | 5 => max (c.expiry 5 0 (f RF.T_CCD_S_COUNT)) (c.expiry 6 bg (f RF.T_CCD_L_COUNT))
  | 6 => max (c.expiry 7 sid (f RF.T_RRD_S_COUNT)) (c.expiry 8 bg (f RF.T_RRD_L_COUNT))
  | 7 => max (c.expiry 9 sid (f RF.T_WTR_S_COUNT)) (c.expiry 10 bg (f RF.T_WTR_L_COUNT))
  | 8 => c.expiry 11 0 (f RF.T_RTW_COUNT)
  | 9 => greatest ((List.range 4).map (fun i => if i = sid then 0 else c.expiry 12 i (f RF.T_CCD_S_COUNT + f RF.T_RTRS_COUNT)))
  | 10 => max (greatest (banks.map (fun b => c.expiry 13 b (f RF.T_RFC_COUNT))))
      (if rowCmd r = 1 then c.expiry 14 sid (f RF.T_RREFD_COUNT) else 0)
  | 11 => greatest (banks.map (fun b => c.expiry 15 b (((c.times.get (timeKey 16 b)).getD 1) * f RF.T_NREF1_COUNT)))
  | 12 => greatest (sids.map (fun i => c.expiry 17 i (f RF.T_MRD_COUNT)))
  | 13 => greatest (sids.map (fun i => max (c.expiry 18 i (f RF.T_XP_COUNT)) (c.expiry 19 i (32 * f RF.T_XS_COUNT))))
  | 14 => greatest (sids.map (fun i => c.expiry 20 i (32 * f RF.T_SPPR_COUNT)))
  | _ => 0

/-- One rule of the table of R267 has expired at time `t` for a row's target. -/
def State.ruleDone (s : State) (ch rule : Nat) (r : BitVec 64) (x : Target) (t : Nat) : Bool := decide (s.ruleEnd ch rule r x ≤ t)

/-- Every rule that a row names has expired (R253). -/
def State.rulesDone (s : State) (ch : Nat) (r : BitVec 64) (x : Target) (t : Nat) : Bool :=
  (List.range 16).all (fun i => !(rowRules r).testBit i || s.ruleDone ch i r x t)

/-- The long rules that a row names have at most 16 frets to run at time `t`: RFC, NREF, PPR and the tXS part of XP (R256). -/
def State.longDone (s : State) (ch : Nat) (r : BitVec 64) (x : Target) (t : Nat) : Bool :=
  let named := fun (i : Nat) => (rowRules r).testBit i
  (!named 10 || s.ruleDone ch 10 r x (t + 16)) && (!named 11 || s.ruleDone ch 11 r x (t + 16)) &&
    (!named 14 || s.ruleDone ch 14 r x (t + 16)) &&
    (!named 13 || (rowSids r x).all (fun i => decide ((s.chan ch).expiry 19 i (32 * s.rfch RF.T_XS_COUNT ch) ≤ t + 16)))

/-- The row's bus has been free for 16 frets (R253). -/
def Chan.busFree (c : Chan) (cmd t : Nat) : Bool :=
  match (if onColumn cmd then c.colBus else c.rowBus) with
  | some t0 => cmd == 0 || decide (t0 + 16 ≤ t)
  | none => true

/-- The first fret from the channel's clock on at which a row's bus is free and every rule that it names has expired (R253). -/
def State.firstFret (s : State) (ch : Nat) (r : BitVec 64) (x : Target) : Nat :=
  let c := s.chan ch
  let bus := match (if onColumn (rowCmd r) then c.colBus else c.rowBus) with | some t0 => t0 + 16 | none => 0
  greatest (c.clock :: bus :: ((List.range 16).filter (fun i => (rowRules r).testBit i)).map (fun i => s.ruleEnd ch i r x))

/-- A command occupies its bus at fret `t` and starts the rules of R261. Write rules count from the end of the last burst of
write data, WL = 32 and 16 frets of burst after the launch. -/
def Chan.launch (c : Chan) (r : BitVec 64) (x : Target) (radius t : Nat) : Chan :=
  let b := x.bank
  let sid := b / 16
  let bg := b / 4
  let start := fun (kind scope v : Nat) (tb : Tbl (Option Nat)) => tb.set (timeKey kind scope) (some v)
  let gaps := fun (tb : Tbl (Option Nat)) => start 12 sid t (start 11 0 t (start 6 bg t (start 5 0 t tb)))
  let tb := match rowCmd r with
    | 1 => start 8 bg t (start 7 sid t (start 0 b t c.times))
    | 2 => start 1 b t c.times
    | 3 => start 2 b t c.times
    | 4 => (rowBanks r x).foldl (fun tb b => start 2 b t tb) c.times
    | 5 => start 14 sid t (start 13 b t c.times)
    | 6 => start 16 b radius (start 15 b t c.times)
    | 8 => start 19 sid t c.times
    | 10 => start 18 sid t c.times
    | 11 => start 20 sid t c.times
    | 12 => start 20 sid t c.times
    | 16 => gaps (start 3 b t c.times)
    | 17 => start 10 bg (t + 48) (start 9 sid (t + 48) (start 4 b (t + 48) (start 6 bg t (start 5 0 t c.times))))
    | 18 => gaps (start 3 b t c.times)
    | 19 => start 17 sid t c.times
    | 20 => gaps c.times
    | _ => c.times
  let d : Chan := { c with times := tb, clock := max c.clock t }
  if rowCmd r = 0 then d else if onColumn (rowCmd r) then { d with colBus := some t } else { d with rowBus := some t }

/-! ### The entries of a kind of work (R251, R269, R270) -/

/-- The entries that an agent may start among some. -/
def State.entriesFor (s : State) (a : Agent) (l : List Nat) : List Nat :=
  l.filter (fun e => bitAt (s.tab.entries.get e) 31 && bitAt (s.tab.entries.get e) (16 + agentNum a))

/-- The rows of an entry's chain, in order, as far as its rows go on to one another. -/
def State.chain (s : State) (row : Nat) : Nat → List (BitVec 64)
  | 0 => []
  | n + 1 =>
    let r := s.tab.rows.get row
    match rowBr r with
    | 0 => r :: s.chain (rowNext r) n
    | 2 => r :: s.chain (row + 1) n
    | _ => [r]

/-- The first entry among some that an agent may start and whose chain holds a row as asked for. -/
def State.entryWith (s : State) (a : Agent) (l : List Nat) (p : BitVec 64 → Bool) : Option Nat :=
  (s.entriesFor a l).find? (fun e => (s.chain (s.firstRow e) 64).any p)

/-- The numbers from `lo` to `hi`. -/
def span (lo hi : Nat) : List Nat := (List.range (hi + 1 - lo)).map (fun i => lo + i)

end Sys2Proof.Machine
end

