-- ==== Sys2Proof/Machine/TestOps.lean ====
section
/-! DEFINITION. The transfers of a built-in test: the order in which it visits the lines, the bursts it writes and what it makes of
those it reads (19_repair_test R431). -/

namespace Sys2Proof.Machine

/-- One transfer of a test: its entry, the lines it visits, and what a read burst of a line must be and what a write burst is: the
background (false) or its complement. -/
structure TestStep where
  entry : Nat
  lines : List Nat
  rd    : Option Bool
  wr    : Option Bool
  deriving DecidableEq, Repr

/-- The first line of a test's scope and the number of its lines, in the order of the LINEAR preset (R194, R431). -/
def Bist.span (b : Bist) : Nat × Nat :=
  match b.scope with
  | 0 => (524288 * b.bank, 524288)
  | 1 => (8388608 * (b.bank / 16), 8388608)
  | _ => (0, 33554432)

/-- Lines `n * i` to `n * i + n - 1` of a span, upwards or downwards. -/
def spanLines (span : Nat × Nat) (up : Bool) (n i : Nat) : List Nat :=
  (List.range n).map (fun j => if up then span.1 + (n * i + j) else span.1 + (span.2 - 1 - (n * i + j)))

/-- Transfer `k` of a March C− (R431): w0 upwards; r0 w1 and r1 w0 upwards; the same downwards; r0. A transfer has at most 16
bursts (R236): 16 lines of an element with one operation, 8 of one with two. Entries 38, 39 and 40 write, read and write, and read
(log 143). -/
def marchStep (span : Nat × Nat) (k : Nat) : Option TestStep :=
  let u := span.2 / 16
  if k < u then some ⟨38, spanLines span true 16 k, none, some false⟩
  else if k < 9 * u then
    let e := (k - u) / (2 * u)
    some ⟨39, spanLines span (decide (e < 2)) 8 ((k - u) % (2 * u)), some (e % 2 == 1), some (e % 2 == 0)⟩
  else if k < 10 * u then some ⟨40, spanLines span true 16 (k - 9 * u), some false, none⟩
  else none

/-- Transfer `k` of a HAMMER with HAMMER_K `K` (R431): for each row R, `K` transfers of entry 41, each 1,024 ACTs and PREs of R, then
one of entry 42 for each of rows R − 4 to R + 4 that the bank has (log 143). -/
def hammerStep (span : Nat × Nat) (K k : Nat) : Option TestStep :=
  let r := span.1 / 16 + k / (K + 9)
  let j := k % (K + 9)
  if span.2 / 16 ≤ k / (K + 9) then none
  else if j < K then some ⟨41, [16 * r], none, none⟩
  else if r % 32768 + (j - K) < 4 ∨ 32771 < r % 32768 + (j - K) then none
  else some ⟨42, (List.range 16).map (fun c => 16 * (r + (j - K) - 4) + c), some false, none⟩

/-- The transfer that a test makes next, with the number behind it; none once it has made all, or behind an ABORT. -/
def Bist.next (b : Bist) (K : Nat) : Option (Nat × TestStep) :=
  if b.abort then none
  else (List.range 10).findSome? (fun i =>
    (if b.test = 0 then marchStep b.span (b.pos + i) else hammerStep b.span K (b.pos + i)).map (fun x => (b.pos + i + 1, x)))

/-- The 16 bits that the background has on DQ TSV `t` (R431). The PRBS is seeded by row and TSV and runs on over the columns. -/
def backBits (back row col t : Nat) : Nat :=
  match back with
  | 0 => 0
  | 1 => if t % 2 = 0 then 0xaaaa else 0x5555
  | 2 => if row % 2 = 0 then 0 else 0xffff
  | 3 => if t % 2 = 0 then 0 else 0xffff
  | _ => packed 1 (patternBits ((List.range col).foldl (fun x _ => prbsBurst x) (Config.testSeed row t)) 16)

/-- The burst of a line: the background, or its complement. -/
def Bist.burst (b : Bist) (p : Nat) (compl : Bool) : BitVec 576 :=
  let x := BitVec.ofNat 576 (packed 16 ((List.range 36).map (backBits b.back (testPlace p).2.1 (testPlace p).2.2)))
  if compl then ~~~ x else x

/-- A burst read of a line is compared in all 72 bits with what it must be (R431). -/
def judgeBurst (r : BistResult) (p : Nat) (got want : BitVec 576) : BistResult :=
  if got = want then r
  else
    let at0 := testPlace p
    let d := r.dqFail ||| (tsvsOf ((got ^^^ want).setWidth 640)).toNat
    if r.failBursts = 0 then ⟨1, at0.1, at0.2.1, at0.2.2, d⟩ else { r with failBursts := r.failBursts + 1, dqFail := d }

/-- A test's transfer has ended with its read bursts. -/
def Bist.stepped (b : Bist) (K : Nat) (got : List Beats) : Bist :=
  match b.next K with
  | none => b
  | some (n, x) => { b with
      pos := n
      res := match x.rd with
        | some compl => (x.lines.zip got).foldl (fun r e => judgeBurst r e.1 (e.2.setWidth 576) (b.burst e.1 compl)) b.res
        | none => b.res }

/-- The results of two parts of one test, the first before the second. -/
def joinResults (r q : BistResult) : BistResult :=
  if r.failBursts = 0 then { q with dqFail := r.dqFail ||| q.dqFail }
  else { r with failBursts := r.failBursts + q.failBursts, dqFail := r.dqFail ||| q.dqFail }

end Sys2Proof.Machine
end

