-- ==== Sys2Proof/Machine/ArbOps.lean ====
section
/-! DEFINITION. The channel arbiter (10_channel_scheduling, R236 to R248): eligibility, effective priority, the choice of
a transfer's work and entry, decisions, preemption and restart. -/

namespace Sys2Proof.Machine

/-! ### Masking, priority and limits (R236, R238, R239) -/

/-- A built-in test runs on the channel, or a row of it is repaired. -/
def State.testing (s : State) (ch : Nat) : Bool :=
  (match s.rpr.bist with | some b => b.ch == ch | none => false) ||
    (match s.rpr.op with | some o => o.ch == ch | none => false)

/-- The masking domains of an agent (R236). AUX opens a partner channel for mirroring, and otherwise works for tests. -/
def State.maskers (s : State) (ch : Nat) (a : Agent) : List Nat :=
  match a with
  | .rdq => [2, lpDomain ch]
  | .wrd => [lpDomain ch]
  | .rtq => [2, lpDomain ch]
  | .ref => []
  | .mute => []
  | .cal => [7]
  | .scrb => [7, lpDomain ch]
  | .aux => if (s.chan ch).opening.isEmpty then [7] else [6]

/-- An agent is masked: one of its masking domains, or the channel group's own, is not on (R236, R238). -/
def State.masked (s : State) (ch : Nat) (a : Agent) : Bool :=
  !s.domOn (chDomain ch) || (s.maskers ch a).any (fun d => !s.domOn d)

/-- The base priority in force (R249). -/
def State.basePrio (s : State) (ch : Nat) (a : Agent) : Nat :=
  s.rfn RF.CHN_BASE (ch % 32) 0 / 16 ^ agentNum a % 16

/-- The burst limit in force, 1 to 256 (R241, R249). -/
def State.burstLimit (s : State) (ch : Nat) (a : Agent) : Nat :=
  (if agentNum a < 4 then s.rfn RF.CHN_LIMIT_LO (ch % 32) 0 / 256 ^ agentNum a
   else s.rfn RF.CHN_LIMIT_HI (ch % 32) 0 / 256 ^ (agentNum a - 4)) % 256 + 1

/-- The channel engines serve the partner's channels too: from TAKE_OPEN to the end of double-stop mode (R389, R393). -/
def State.shared (s : State) : Bool :=
  match s.pair.step with
  | .idle => false
  | .freq => false
  | .opening => false
  | _ => true

/-- The channels among whose agents one arbiter decides: its own, and in double-stop mode the partner channel of its number (R393). -/
def State.engine (s : State) (ch : Nat) : List Nat := if s.shared then [ch % 32, 32 + ch % 32] else [ch]

/-- The effective priority (R239). -/
def State.eff (s : State) (ch : Nat) (a : Agent) : Nat :=
  if s.forcing ch a then 16 else min 15 (s.basePrio ch a + ((s.chan ch).agent a).age)

/-! ### Work (R229 to R231, R275, R276, R283) -/

/-- A read entry may be selected: not in a transfer, its bank not waiting for SENT_CHECK (R292). -/
def Chan.rdFree (c : Chan) (e : RdEnt) : Bool := !e.taken && !(c.banks.get e.bank).mustCheck

/-- A write-share line may be selected: entered, not in a transfer, no older read of its line still queued, and first of
its line's writes (R225, R292). -/
def Chan.wrFree (c : Chan) (w : WrEnt) : Bool :=
  w.ready && !w.chosen && !(c.banks.get w.bank).mustCheck &&
    c.reads.all (fun e => e.laddr != w.laddr || decide (w.uid < e.uid)) &&
    (match c.writes.find? (fun x => x.laddr == w.laddr) with | some x => x.wseqs == w.wseqs | none => true)

/-- The ordinary read queue is empty (R230). -/
def Chan.noReads (c : Chan) : Bool := c.reads.all (fun e => e.rt)

/-- The core dies of a channel rest, or are about to (R261, R366): only REF, which runs the power entries, may use it. -/
def Chan.atRest (c : Chan) : Bool := !c.power.isEmpty || c.rest != .awake

/-- REF may serve a bank: one of the cases of R275, a group entering self-refresh (R287), or a soft repair that waits for the
bank's SID (R426); and refresh has not stopped for it. From power-down REF leaves once some bank has reached POST_URGE, and then
pulls every bank in to −PULL_LIMIT, those with open rows too (R366). -/
def State.refMay (s : State) (ch b : Nat) : Bool :=
  let c := s.chan ch
  let x := c.banks.get b
  let idle := c.reads.all (fun e => e.bank != b) && c.writes.all (fun w => w.bank != b)
  let alone := tieOrder.all (fun a => a == .ref || !(c.agent a).asks)
  let down := (s.pwr.cgs.get (groupOf ch)).st == .powerDown
  let entering := (s.pwr.cgs.get (groupOf ch)).delay.isSome
  !s.refreshStopped ch b && !x.mustCheck && (!down || (List.range 64).any (fun i =>
      decide (s.postUrge ch ≤ (c.banks.get i).owed))) &&
    ((entering && idle && decide (1 ≤ x.owed)) ||
      (x.openRow.isNone && idle && decide (1 ≤ x.owed)) ||
      decide (s.postUrge ch ≤ x.owed) ||
      (s.spprWaits ch b && decide (s.spprLimit ch < x.owed)) ||
      (alone && (x.openRow.isNone || c.pulling) && decide (-s.pullLimit ch < x.owed)) || decide (s.postLimit ch ≤ x.owed))

/-- The banks that REF may serve. -/
def State.refBanks (s : State) (ch : Nat) : List Nat := (List.range 64).filter (fun b => s.refMay ch b)

/-- The channel arms sentinels: its group works towards a deep self-refresh with SENT_EN set (R291). -/
def State.arming (s : State) (ch : Nat) : Bool :=
  (match (s.pwr.cgs.get (groupOf ch)).delay with | some (.deep, _) => true | _ => false) &&
    s.rfch RF.REF_SENT_EN ch == 1

/-- The banks still to be armed. -/
def State.unarmed (s : State) (ch : Nat) : List Nat :=
  if s.arming ch then (List.range 64).filter (fun b => (s.pwr.sentinels.get (64 * ch + b)).isNone) else []

/-- Host work on the row that stands in the channel engine: it completes before the row is saved (R425). -/
def State.rowBusy (s : State) (o : RepairOp) : Bool :=
  let c := s.chan o.ch
  c.reads.any (fun e => e.bank == o.bank && e.row == o.row) || c.writes.any (fun w => w.bank == o.bank && w.row == o.row)

/-- The SID's backlog is empty and its banks are refreshed far enough ahead for SPPR (R426). -/
def State.spprMay (s : State) (o : RepairOp) : Bool :=
  let c := s.chan o.ch
  let sid := o.bank / 16
  c.backlog.all (fun e => e.bank / 16 != sid) &&
    (List.range 16).all (fun i => decide ((c.banks.get (16 * sid + i)).owed ≤ s.spprLimit o.ch))

/-- What AUX does next for a row repair on the channel (R425, R428): ROW_SAVE, SPPR, ROW_RESTORE or HPPR, with its entry. -/
def State.repairWork (s : State) (ch : Nat) : Option (List Work × Nat) :=
  match s.rpr.op with
  | none => none
  | some o =>
    let lines := (List.range 16).map (fun col => Work.rowOp o.bank o.row col)
    let one := fun (cmd : Nat) => (s.entryWith .aux (span 32 43) (fun r => rowCmd r == cmd)).map (fun e => ([Work.rowOp o.bank o.row 0], e))
    if o.ch ≠ ch then none
    else match o.stage with
      | .freezing => if o.op = 1 ∧ !s.rowBusy o then some (lines, 34) else none
      | .issuing => if s.spprMay o then one 11 else none
      | .restoring => some (lines, 35)
      | .hardIssue => one 12
      | _ => none

/-- What AUX does next for a built-in test on the channel: its next transfer (R431). -/
def State.testWork (s : State) (ch : Nat) : Option (List Work × Nat) :=
  match s.rpr.bist with
  | some b => if b.ch ≠ ch then none else (b.next s.rpr.bparam).map (fun x => (x.2.lines.map Work.test, x.2.entry))
  | none => none

/-- AUX's next work: an entry of TAKE_OPEN, one SID per line (R389), a repair, or a test. -/
def State.nextAux (s : State) (ch : Nat) : Option (List Work × Nat) :=
  match (s.chan ch).opening with
  | e :: _ => some ((List.range 4).map Work.openSid, e)
  | [] => (s.repairWork ch).orElse (fun _ => s.testWork ch)

/-- A drain demand stands on the channel (R230): one that was raised and not yet met, the quiesce of a commit that waits for it
(R197), or the drain of the partner's half before a handback (R398). -/
def State.drainDemand (s : State) (ch : Nat) : Bool :=
  (s.chan ch).drain || (match s.regs.commits with | c :: _ => c.deadline.isSome | [] => false) ||
    (decide (32 ≤ ch) && s.pair.step == .draining)

/-- The channel trains or retrains (R345, R348). -/
def State.trains (s : State) (ch : Nat) : Bool := (s.calCh ch).retraining || (s.calCh ch).trainFrom.isSome

/-- A calibration run has READ_PROBEs left on an own channel: eight for each SID, unless a retraining has superseded its read
results (R349, R351). -/
def State.probesLeft (s : State) (ch : Nat) : Bool :=
  decide (ch < 32) && (match (s.calGr (calGroupOf ch)).run with
    | some r => !r.dropped.contains ch && decide (r.probed.count ch < 32)
    | none => false)

/-- The plan of a training (steps 1 to 6), of a full retraining (steps 2 to 6) or of a retraining (steps 3, 4 and 6; R345, R348,
R361): for each transfer its entry, its SID, and the bursts that it repeats for: step 6 verifies 4,096 for each SID in each direction.
Step 5 repeats steps 3 and 4. One sample stands for each sweep, whose settings the spec does not number (DESIGN CHOICE, log 119). -/
def State.calPlan (s : State) (ch : Nat) : List (Nat × Nat × Nat) :=
  let c := s.calCh ch
  let each : List Nat → List (Nat × Nat × Nat) := fun l => (List.range 4).flatMap (fun sid => l.map (fun e => (e, sid, 0)))
  let steps34 := each [18, 19] ++ each [21, 20]
  let last := (List.range 4).flatMap (fun sid => [(18, sid, 4096), (20, sid, 4096)]) ++ each [22]
  let more := if c.step5.isEmpty then [] else steps34
  let first := if c.trainFrom.isSome then each [24] ++ each [16, 17] else if c.inFull then each [16, 17] else []
  let valid := s.entriesFor .cal (span 16 24)
  (first ++ steps34 ++ more ++ last).filter (fun p => valid.contains p.1)

/-- A calibration run has DRV_SETs left on an own channel, one for each SID (R361). -/
def State.drvLeft (s : State) (ch : Nat) : Bool :=
  decide (ch < 32) && !(s.entriesFor .cal [24]).isEmpty && (match (s.calGr (calGroupOf ch)).run with
    | some r => !r.dropped.contains ch && decide (r.drvSet.count ch < 4)
    | none => false)

/-- CAL's next transfer: of a training or retraining the next of its plan; otherwise the run's next DRV_SET or READ_PROBE (R349,
R361). -/
def State.calWork (s : State) (ch : Nat) : Option (List Work × Nat) :=
  if s.trains ch then (s.calPlan ch)[(s.calCh ch).transfers]?.map (fun p => ([.calStep p.2.1], p.1))
  else match (s.calGr (calGroupOf ch)).run with
    | some r =>
      if s.drvLeft ch then some ([.calStep (r.drvSet.count ch)], 24)
      else if s.probesLeft ch then some ([.calStep (r.probed.count ch / 8)], 23)
      else none
    | none => none

/-- Every SID of a channel that is not in hold takes a value in a mode register. -/
def State.writeMr (s : State) (ch addr : Nat) (v : Nat → Nat) : State :=
  s.setChan ch (fun c => { c with sids := (List.range 4).foldl (fun t sid => t.upd sid (fun x =>
    if x.hold then x else x.mrw addr (v sid))) c.sids })

/-- The SIDs hold the SID_DRV of the trims in force (R345 step 1, R361 entry 24). -/
def State.setDrv (s : State) (ch : Nat) : State := s.writeMr ch 1 (fun sid => (s.calCh ch).trims.sidDrv.getD sid 0)

/-- TESTCTL is cleared in every SID (R345 step 6, R361 entry 22). -/
def State.testsOff (s : State) (ch : Nat) : State := s.writeMr ch 0x30 (fun _ => 0)

/-- A transfer's banks wait for SENT_CHECK (R292). -/
def Chan.checkFirst (c : Chan) (work : List Work) : Bool :=
  work.any (fun w => match w with
    | .sentCheck _ => false
    | w => match c.workBank w with | some b => (c.banks.get b).mustCheck | none => false)

/-- An agent's abandoned transfer stands back: behind REF's power entries, behind the STATUS that a capture miss asks of CAL, and while
a bank of it waits for SENT_CHECK (R265, R269, R292). -/
def State.restartWaits (s : State) (ch : Nat) (a : Agent) : Bool :=
  let c := s.chan ch
  (a == .ref && !c.power.isEmpty) || (a == .cal && !c.missed.isEmpty) ||
    (match (c.agent a).restart with | some x => c.checkFirst x.work | none => false)

/-- An agent has work on the channel, apart from a transfer to restart. REF and MUTE wait for TAKE_OPEN (R389). -/
def State.hasWork (s : State) (ch : Nat) (a : Agent) : Bool :=
  let c := s.chan ch
  match a with
  | .rdq => !s.chFenced ch && !s.trafficHeld ch && c.reads.any (fun e => !e.rt && c.rdFree e)
  | .wrd => !s.chFenced ch && !s.trafficHeld ch && c.writes.any (fun w => !w.rt && c.wrFree w) &&
      (c.batch || s.drainDemand ch || (s.rfn RF.CHN_IDLE_DRAIN (ch % 32) 0 == 1 && c.noReads))
  | .rtq => !s.chFenced ch && !s.trafficHeld ch &&
      (c.reads.any (fun e => e.rt && c.rdFree e) || c.writes.any (fun w => w.rt && c.wrFree w))
  | .ref => !c.power.isEmpty || (c.rest != .asleep && c.opening.isEmpty && !(s.refBanks ch).isEmpty)
  | .mute => !s.resetDriven ch && c.opening.isEmpty && (!c.threshDue.isEmpty || !(s.mitDue ch).isEmpty ||
    c.backlog.any (fun e => !s.hammered ch e.bank && !(c.banks.get e.bank).mustCheck))
  | .cal => !c.missed.isEmpty || (c.opening.isEmpty && !c.statusDue.isEmpty) || (s.calWork ch).isSome
  | .scrb => !s.chFenced ch
  | .aux => (s.nextAux ch).isSome

/-- An agent has work, a transfer to restart among it, and the core dies are awake for it: at rest only REF's power entries
run. -/
def State.wants (s : State) (ch : Nat) (a : Agent) : Bool :=
  let c := s.chan ch
  match c.atRest with
  | true => a == .ref && !c.power.isEmpty
  | false => s.hasWork ch a || ((c.agent a).restart.isSome && !s.restartWaits ch a && !(hostAgent a && (s.chFenced ch || s.trafficHeld ch)))

/-- The page state of a bank for a row: 0 hit, 1 empty, 2 conflict (R233). -/
def Chan.page (c : Chan) (b row : Nat) : Nat :=
  match (c.banks.get b).openRow with
  | none => 1
  | some r => if r = row then 0 else 2

/-- RDQ prefers `x` to `y`: higher urgency, then a page hit, then age (R229). -/
def Chan.rdBefore (c : Chan) (x y : RdEnt) : Bool :=
  let hx := c.page x.bank x.row == 0
  let hy := c.page y.bank y.row == 0
  if x.urg != y.urg then decide (y.urg < x.urg)
  else if hx != hy then hx
  else decide (x.uid < y.uid) || (x.uid == y.uid && decide (x.idx < y.idx))

/-- The read that RDQ serves next: one passed by HIT_CAP later lines first (R229). -/
def State.nextRead (s : State) (ch : Nat) : Option RdEnt :=
  let c := s.chan ch
  let l := c.reads.filter (fun e => !e.rt && c.rdFree e)
  match l.find? (fun e => decide (s.rfn RF.CHN_HIT_CAP (ch % 32) 0 ≤ e.passed)) with
  | some e => some e
  | none => l.foldl (fun b e => match b with
      | none => some e
      | some x => if c.rdBefore e x then some e else b) none

/-- The lines of one request that go with a read: one bank and row, 1 to 4 of them (R232). -/
def Chan.readsWith (c : Chan) (e : RdEnt) : List Work :=
  ((c.reads.filter (fun x => x.uid == e.uid && x.bank == e.bank && x.row == e.row && c.rdFree x)).take 4).map
    (fun x => .rdLine x.uid x.idx)

/-- The work item of a write-share line. -/
def WrEnt.work (w : WrEnt) : Work := .wrLine w.laddr (w.wseqs.head?.getD 0)

/-- The writes that go with a write of WRD: one bank and row, 1 to 4 of them (R232). -/
def Chan.writesWith (c : Chan) (w : WrEnt) : List Work :=
  ((c.writes.filter (fun x => !x.rt && x.bank == w.bank && x.row == w.row && c.wrFree x)).take 4).map WrEnt.work

/-- The write that WRD serves next: one to an open row, then the oldest (R230). -/
def Chan.nextWrite (c : Chan) : Option WrEnt :=
  let l := c.writes.filter (fun w => !w.rt && c.wrFree w)
  match l.find? (fun w => c.page w.bank w.row == 0) with
  | some w => some w
  | none => l.head?

/-- RTQ's next request, in arrival order (R231): a read's lines or one write. -/
def Chan.nextRt (c : Chan) : Option (List Work × Nat × Nat × Nat) :=
  let rd := sortBy (fun (e : RdEnt) => 4 * e.uid + e.idx) (c.reads.filter (fun e => e.rt && c.rdFree e))
  let wr := sortBy (fun (w : WrEnt) => w.order) (c.writes.filter (fun w => w.rt && c.wrFree w))
  match rd, wr with
  | e :: _, [] => some (c.readsWith e, e.bank, e.row, 0)
  | [], w :: _ => some ([w.work], w.bank, w.row, 3)
  | e :: _, w :: _ => if e.uid < w.order then some (c.readsWith e, e.bank, e.row, 0) else some ([w.work], w.bank, w.row, 3)
  | [], [] => none

/-- A bank's refresh or mitigation has more than 16 frets to run (R256, R276). -/
def State.longBusy (s : State) (ch b : Nat) : Bool :=
  let c := s.chan ch
  decide (c.clock + 16 < c.expiry 13 b (s.rfch RF.T_RFC_COUNT ch)) ||
    decide (c.clock + 16 < c.expiry 15 b (((c.times.get (timeKey 16 b)).getD 1) * s.rfch RF.T_NREF1_COUNT ch))

/-- REF's bank: the highest owed count, then a closed bank, then the lowest number, past those in a long rule (R276). -/
def State.nextRef (s : State) (ch : Nat) : Option Nat :=
  let c := s.chan ch
  let l := s.refBanks ch
  let free := l.filter (fun b => !s.longBusy ch b)
  (if free.isEmpty then l else free).foldl (fun r b => match r with
    | none => some b
    | some x =>
      let bx := c.banks.get x
      let bb := c.banks.get b
      if bx.owed < bb.owed || (bx.owed == bb.owed && bx.openRow.isSome && bb.openRow.isNone) then some b else r) none

/-- MUTE's next work (R283). -/
def State.nextMute (s : State) (ch : Nat) : Option Work :=
  let c := s.chan ch
  let read := if c.mitRoom then (s.mitDue ch).head?.map Work.mitRead else none
  let nref := (c.backlog.find? (fun e => !s.hammered ch e.bank && !(c.banks.get e.bank).mustCheck)).map (fun e => Work.mitRow e.bank e.row)
  let mrw := c.threshDue.head?.map Work.thresh
  if s.muteForcing ch then (read.orElse (fun _ => nref)).orElse (fun _ => mrw)
  else (mrw.orElse (fun _ => read)).orElse (fun _ => nref)

/-- The entry with which MUTE writes MR THRESH (R281, R269: entries 16 to 63 have no fixed rows). -/
def State.threshEntry (s : State) : Option Nat :=
  s.entryWith .mute (span 16 63) (fun r => rowCmd r == 19 && rowImm r / 256 == 8)

/-- A bank still to be read by SENT_CHECK: one whose read has not been captured (R292). -/
def Chan.checkDue (c : Chan) (b : Nat) : Bool := (c.banks.get b).mustCheck && c.sentGot.all (fun e => e.1 != b)

/-- The bank and row that SCRB scrubs next: a retention-suspect bank's, up to its end, before the patrol's (R293). -/
def Chan.scrubNext (c : Chan) : Nat × Nat :=
  match (List.range 64).findSome? (fun b => match (c.banks.get b).scrubAt with
      | some row => if row < 32768 then some (b, row) else none
      | none => none) with
  | some p => p
  | none => (c.sweepPtr / 32768 % 64, c.sweepPtr % 32768)

/-- The entry of SCRB's follow-on transfer, which writes corrected lines back from its line buffer: one of those that have no fixed
rows, or else the WR entry of the bank's state (R250, R269; log 136). -/
def State.backEntry (s : State) (ch b row : Nat) : Nat :=
  (s.entryWith .scrb (span 16 63) (fun r => rowCmd r == 17 && rowDpa r == 2)).getD (3 + (s.chan ch).page b row)

/-- The work that an agent starts, with its entry (R251, R269). -/
def State.choose (s : State) (ch : Nat) (a : Agent) : Option (List Work × Nat) :=
  let c := s.chan ch
  match a with
  | .rdq => (s.nextRead ch).map (fun e => (c.readsWith e, c.page e.bank e.row))
  | .wrd => c.nextWrite.map (fun w => (c.writesWith w, 3 + c.page w.bank w.row))
  | .rtq => c.nextRt.map (fun x => (x.1, x.2.2.2 + c.page x.2.1 x.2.2.1))
  | .ref =>
    match c.power with
    | n :: _ => some ([.powerCmd n], n)
    | [] => (s.nextRef ch).map (fun b => ([.refBank b], if (c.banks.get b).openRow.isSome then 8 else 7))
  | .mute => (s.nextMute ch).bind (fun w => match w with
      | .mitRow b r => some ([.mitRow b r], if (c.banks.get b).openRow.isSome then 10 else 9)
      | .mitRead sid => some ([.mitRead sid], 11)
      | w => s.threshEntry.map (fun e => ([w], e)))
  | .cal =>
    match c.missed, c.statusDue with
    | (sid, _) :: _, _ => some ([.status sid], 12)
    | [], sid :: _ => some ([.status sid], 12)
    | [], [] => s.calWork ch
  | .scrb =>
    match (List.range 64).find? (fun b => c.checkDue b), s.unarmed ch, c.scrubBuf with
    | some b, _, _ => some ([.sentCheck b], 33)
    | none, b :: _, _ => some ([.sentArm b], 32)
    | none, [], (b, row, _) :: _ =>
      some ((c.scrubBuf.filter (fun e => e.1 == b && e.2.1 == row)).map (fun e => .wrBack e.1 e.2.1 e.2.2.1), s.backEntry ch b row)
    | none, [], [] =>
      let at0 := c.scrubNext
      some ((List.range 16).map (fun col => .scrub at0.1 at0.2 col), 13 + c.page at0.1 at0.2)
  | .aux => s.nextAux ch

/-- The entry of a transfer that restarts, chosen afresh from the bank state at that moment (R244, R251). -/
def State.entryAgain (s : State) (ch : Nat) (x : Xfer) : Nat :=
  match x.work.head?, (x.work.head?.bind (fun w => s.workPlace ch w)) with
  | some w, some (b, row, _) =>
    let p := (s.chan ch).page b row
    let isOpen := ((s.chan ch).banks.get b).openRow.isSome
    match w with
    | .rdLine _ _ => p
    | .wrLine _ _ => 3 + p
    | .refBank _ => if isOpen then 8 else 7
    | .mitRow _ _ => if isOpen then 10 else 9
    | .scrub _ _ _ => 13 + p
    | .wrBack _ _ _ => s.backEntry ch b row
    | _ => x.entry
  | _, _ => x.entry

/-- A new transfer of an agent. -/
def Xfer.fresh (a : Agent) (work : List Work) (entry : Nat) : Xfer :=
  ⟨a, entry, 0, none, work, 0, 0, 0, 0, false, false, false, false, []⟩

/-- The transfer that an agent starts next: the abandoned one first, with its entry chosen afresh, or work chosen now (R244,
R251). REF runs the power entries before anything else. -/
def State.nextXfer (s : State) (ch : Nat) (a : Agent) : Option Xfer :=
  let again := if s.restartWaits ch a then none else ((s.chan ch).agent a).restart
  let y : Option Xfer := match again with
    | some x => some { x with entry := s.entryAgain ch x, loop := none, done := 0, issued := 0, landed := 0, ended := false,
                              begun := false, got := [] }
    | none => (s.choose ch a).map (fun w => Xfer.fresh a w.1 w.2)
  y.map (fun x => { x with row := s.firstRow x.entry })

/-- An agent's next transfer would begin by waiting on a long rule for more than 16 frets (R256). -/
def State.longHeld (s : State) (ch : Nat) (a : Agent) : Bool :=
  match s.nextXfer ch a with
  | none => false
  | some x =>
    let r := s.tab.rows.get x.row
    !s.longDone ch r (s.target ch r (x.item r)) (s.chan ch).clock

/-- Agents drop requests that they no longer have work for, or whose next transfer would wait on a long rule (R256). -/
def State.refreshAsks (s : State) (ch : Nat) : State :=
  s.setChan ch (fun c => tieOrder.foldl (fun c a =>
    c.setAgent a (fun x => { x with asks := x.asks && s.wants ch a && !s.longHeld ch a })) c)

/-- The lines of a transfer are marked as selected, older reads that they pass count it when the transfer is chosen for the
first time, and the close-due marks of their banks are withdrawn (R229, R235). -/
def Chan.select (c : Chan) (a : Agent) (work : List Work) (first : Bool) : Chan :=
  let mine := fun (e : RdEnt) => work.contains (.rdLine e.uid e.idx)
  let newest := (c.reads.filter mine).foldl (fun m e => max m e.uid) 0
  let n := (c.reads.filter mine).length
  { c with
    reads := c.reads.map (fun e =>
      if mine e then { e with taken := true }
      else if first && a == .rdq && !e.rt && !e.taken && decide (e.uid < newest) then { e with passed := e.passed + n } else e)
    writes := c.writes.map (fun w => if work.any (fun x => match x with
      | .wrLine l q => w.laddr == l && w.wseqs.contains q
      | _ => false) then { w with chosen := true } else w)
    banks := (work.filterMap c.workBank).foldl (fun bs b => bs.upd b (fun x => { x with closeDue := false })) c.banks }

/-- The counters of the page state a transfer finds, by entry (R249). -/
def State.countPage (s : State) (ch entry : Nat) : State :=
  if entry = 0 ∨ entry = 3 ∨ entry = 13 then s.count (chnAt ch 0x120)
  else if entry = 1 ∨ entry = 4 ∨ entry = 14 then s.count (chnAt ch 0x128)
  else if entry = 2 ∨ entry = 5 ∨ entry = 15 then s.count (chnAt ch 0x130) else s

/-- Agents of both channels of an engine drop the requests that they no longer have work for. -/
def State.refreshEngine (s : State) (ch : Nat) : State := forAll (s.engine ch) (fun k t => t.refreshAsks k) s

/-- The holder starts its next transfer (R244, R251). Without work the grant ends. -/
def State.startTransfer (s : State) (ch : Nat) : State :=
  match (s.chan ch).holder with
  | none => s
  | some a =>
    match s.nextXfer ch a with
    | none => s.setChan ch (fun c => { (c.setAgent a (fun y => { y with asks := false })) with holder := none, xfer := none })
    | some x =>
      let first := ((s.chan ch).agent a).restart.isNone
      let t := s.setChan ch (fun c => { ((c.setAgent a (fun y => { y with restart := none })).select a x.work first) with
        xfer := some x })
      let t := when (a == .wrd && t.drainDemand ch) (fun t => t.stickBits RF.CHN_DRAIN_DEMAND (ch % 32) 1) t
      let t := when (a == .ref && s.refForcing ch) (fun t => t.count 0xb0110) t
      let t := when (a == .mute && s.muteForcing ch) (fun t => t.count 0xb1120) t
      t.countPage ch x.entry

/-- The seats of an engine in the order of its ties: the fixed order of R239, and of the same agent on two channels first that of the
channel which did not hold the last grant (R393). -/
def State.seats (s : State) (ch : Nat) : List Seat :=
  let order := (s.engine ch).filter (fun k => !(s.chan k).lastHere) ++ (s.engine ch).filter (fun k => (s.chan k).lastHere)
  tieOrder.flatMap (fun a => order.map (fun k => (k, a)))

/-- The seat that holds an engine's grant. -/
def State.holding (s : State) (ch : Nat) : Option Seat :=
  ((s.engine ch).filterMap (fun k => (s.chan k).holder.map (fun a => (k, a)))).head?

/-- Change the age of an agent. -/
def State.setAge (s : State) (w : Seat) (f : Nat → Nat) : State :=
  s.setChan w.1 (fun c => c.setAgent w.2 (fun x => { x with age := f x.age }))

/-- An agent requests its channel and is not masked (R238). -/
def State.eligible (s : State) (w : Seat) : Bool := ((s.chan w.1).agent w.2).asks && !s.masked w.1 w.2

/-- Pass the grant to an agent (R240, R243). -/
def State.grant (s : State) (w : Seat) : State :=
  let t := forAll ((s.engine w.1).filter (fun k => k != w.1)) (fun k t => t.setChan k (fun c => { c with
    holder := none, bursts := 0, preempt := none, maskCut := false, xfer := none, lastHere := false })) s
  ((t.setChan w.1 (fun c => { (c.setAgent w.2 (fun x => { x with age := 0 })) with
    holder := some w.2, bursts := 0, preempt := none, maskCut := false, xfer := none, lastHere := true })).count
      (chnAt w.1 (0x180 + 8 * agentNum w.2))).startTransfer w.1

/-- The eligible waiting agents of an engine, in tie order (R238, R393). -/
def State.waiting (s : State) (ch : Nat) : List Seat :=
  (s.seats ch).filter (fun w => s.eligible w && (s.chan w.1).holder != some w.2)

/-- The highest effective priority, ties by the order of the list (R239). -/
def State.highest (s : State) (l : List Seat) : Option Seat :=
  l.foldl (fun b w => match b with
    | none => some w
    | some x => if s.eff x.1 x.2 < s.eff w.1 w.2 then some w else b) none

/-- The ages, the holder and its burst count as they stand. -/
def State.before (s : State) (ch : Nat) : Before :=
  let h := s.holding ch
  ⟨(s.engine ch).map (fun k => (k, (s.chan k).agents.mapAll (fun x => x.age))), h,
    match h with | some h => (s.chan h.1).bursts | none => 0⟩

/-- Pass the grant, keeping what a void grant restores (R246). -/
def State.grantFrom (s : State) (b : Before) (w : Seat) : State :=
  (s.setChan w.1 (fun c => { c with prior := some b })).grant w

/-- A contest: the winner takes the grant, the others lose a round, a displaced holder waits with age 1 (R240). A masked
agent's age does not change (R238). -/
def State.contest (s : State) (ch : Nat) (w : Seat) : State :=
  let t := forAll ((s.waiting ch).filter (fun x => x != w)) (fun x t => t.setAge x (fun n => min (n + 1) 15)) s
  let t := match s.holding ch with
    | some h => if s.eligible h then t.setAge h (fun _ => 1) else t
    | none => t
  t.grantFrom (s.before ch) w

/-- The margin in force (R242). -/
def State.margin (s : State) (ch : Nat) : Nat := s.rfn RF.CHN_PREEMPT_MARGIN (ch % 32) 0

/-- The holder continues at a decision (R240). -/
def State.holderGoesOn (s : State) (h : Seat) : Bool :=
  s.eligible h && decide ((s.chan h.1).bursts < s.burstLimit h.1 h.2) &&
    (s.waiting h.1).all (fun w => decide (s.eff w.1 w.2 < s.eff h.1 h.2 + s.margin h.1)) &&
    !((s.waiting h.1).any (fun w => s.forcing w.1 w.2) && !s.forcing h.1 h.2)

/-- The G2 values of a channel that wait for its next decision take effect (R247, R248), for the partner channel of its number
with them. -/
def State.takeG2 (s : State) (ch : Nat) : State :=
  match (s.chan ch).g2 with
  | none => s
  | some l =>
    let t : State := { s with regs := { s.regs with force := l.foldl (fun (tb : Tbl Word) e => tb.set e.1 e.2) s.regs.force } }
    ((t.setChan ch (fun c => { c with g2 := none, g2Took := true })).syncBatch ch).syncBatch (32 + ch % 32)

/-- One pass of the arbiter's decision (R240). -/
def State.decideOnce (s0 : State) (ch : Nat) : State :=
  let s := s0.refreshEngine ch
  match s.holding ch with
  | none =>
    match s.highest (s.waiting ch) with
    | some w => s.contest ch w
    | none => s
  | some h =>
    if s.holderGoesOn h then (s.setChan h.1 (fun c => { c with xfer := none, prior := none })).startTransfer h.1
    else
      match s.highest (s.waiting ch) with
      | some w => s.contest ch w
      | none =>
        if s.eligible h then
          (s.setChan h.1 (fun c => { c with bursts := 0, xfer := none, prior := none })).startTransfer h.1
        else s.setChan h.1 (fun c => { c with holder := none, xfer := none, bursts := 0, prior := none })

/-- A decision is made again where the agent that it chose turns out to have no transfer to start. -/
def State.decideUp (s : State) (ch : Nat) : Nat → State
  | 0 => s
  | n + 1 =>
    let t := s.decideOnce ch
    if (t.holding ch).isNone && !(t.waiting ch).isEmpty then t.decideUp ch n else t

/-- The arbiter's decision (R240), on the G2 values that wait for it (R247). -/
def State.decideGrant (s : State) (ch : Nat) : State := (s.takeG2 (ch % 32)).decideUp ch 17

/-- The running transfer is abandoned and waits to be restarted (R243 to R245). -/
def State.abandon (s : State) (ch : Nat) (h : Agent) (x : Xfer) (counts : Bool) : State :=
  let y : Xfer := { x with aborts := x.aborts + 1, firm := decide (2 ≤ x.aborts + 1), got := [] }
  let t := s.setChan ch (fun c => { (c.setAgent h (fun a => { a with age := 1, restart := some y })) with
    xfer := none, holder := none, bursts := 0, preempt := none, maskCut := false, flights := [] })
  let t := t.dropDraw ch
  let t := when (y.firm && !x.firm) (fun t => t.stickBits RF.CHN_FIRM_SEEN (ch % 32) 1) t
  when counts (fun t => ((t.count (chnAt ch 0x140)).countBy (chnAt ch 0x148) x.landed).stickBits RF.CHN_PREEMPTED
    (ch % 32) 1) t

/-- The preemption point (R243): the grant passes to the preempting agent, where it still waits for it. -/
def State.preemptNow (s : State) (ch : Nat) : State :=
  match (s.chan ch).preempt, (s.chan ch).holder, (s.chan ch).xfer with
  | some w, some h, some x =>
    if (s.chan ch).flights.isEmpty then
      let t := when (h == .rtq && (w.2 == .ref || w.2 == .mute) && s.forcing w.1 w.2) (fun t => t.count 0xb0130) s
      let t := (t.abandon ch h x true).refreshEngine ch
      if (t.waiting ch).contains w then t.grantFrom (t.before ch) w else t.decideGrant ch
    else s
  | _, _, _ => s

/-- The arbiter's test between decisions (R242): a preemption is decided, and made at once where no burst is in
progress. -/
def State.testPreempt (s0 : State) (ch : Nat) : State :=
  let s := s0.noteForcing ch
  match s.holding ch with
  | none => s
  | some h =>
    match (s.chan h.1).xfer, (s.chan h.1).preempt with
    | some x, none =>
      let able := (s.waiting ch).filter (fun w => !s.forcing h.1 h.2 && (s.forcing w.1 w.2 ||
        (!x.firm && decide (s.eff h.1 h.2 + s.margin ch ≤ s.eff w.1 w.2))))
      match s.highest able with
      | some w => (s.setChan h.1 (fun c => { c with preempt := some w })).preemptNow h.1
      | none => s
    | _, _ => s

/-- The waiting agents of a channel have changed: a decision when no grant is held, else the preemption test (R240, R242). -/
def State.serveWaiting (s : State) (ch : Nat) : State :=
  match s.holding ch with
  | none => if (s.waiting ch).isEmpty then s else (s.decideGrant ch).noteForcing ch
  | some _ => s.testPreempt ch

/-- An agent starts to request, and wakes the domains that mask it (R240, R372). -/
def State.askNow (s : State) (ch : Nat) (a : Agent) : State :=
  let t := forAll (s.maskers ch a) (fun d t => if t.domOn d then t else t.wake d)
    (s.setChan ch (fun c => c.setAgent a (fun x => { x with asks := true })))
  match t.holding ch with
  | none => (t.decideGrant ch).noteForcing ch
  | some _ => t.testPreempt ch

/-- An agent requests the channel where it has work for it now (R240, R242, R256). -/
def State.askIf (s : State) (ch : Nat) (a : Agent) : State :=
  if s.wants ch a && !((s.chan ch).agent a).asks && !s.longHeld ch a then s.askNow ch a else s

/-- How a power entry leaves the core dies (R269). -/
def restAfter (n : Nat) : Rest :=
  match n with
  | 44 => .asleep
  | 46 => .down
  | _ => .awake

/-- A power entry is to run on a channel: REF requests for it (R269). Core dies that are held in reset or that the bridge keeps
from this instance take no command: their channel only follows. -/
def State.runPower (s : State) (ch n : Nat) : State :=
  if s.driven ch then (s.setChan ch (fun c => { c with power := c.power ++ [n] })).askIf ch .ref
  else s.setChan ch (fun c => { c with power := [], rest := restAfter n })

/-- A channel is in power-down or about to be, and nothing leads it out yet (R366). -/
def Chan.downStands (c : Chan) : Bool :=
  match c.power.getLast? with
  | some n => n == 46
  | none => c.rest == .down

/-- A group leaves POWER_DOWN: each of its channels runs PD_EXIT (R366, R269). -/
def State.pdExit (s : State) (ch : Nat) : State :=
  let g := groupOf ch
  match (s.pwr.cgs.get g).st with
  | .powerDown =>
    let t : State := { s with pwr := { s.pwr with cgs := s.pwr.cgs.upd g (fun x => { x with st := .active, pdAt := s.now }) } }
    forAll (groupChannels g) (fun ch t => if (t.chan ch).downStands then t.runPower ch 47 else t) t
  | _ => s

/-- An agent requests the channel where it has work for it (R240, R242). From power-down the group is brought back first, and
the agent requests once the core dies are awake; REF then pulls every bank in (R366). -/
def State.agentAsks (s : State) (ch : Nat) (a : Agent) : State :=
  if (s.chan ch).downStands && s.hasWork ch a then
    (when (a == .ref) (fun t => t.setChan ch (fun c => { c with pulling := true })) s).pdExit ch
  else s.askIf ch a

/-- A pull-in behind POWER_DOWN goes on: some bank's owed count is above −PULL_LIMIT (R366). -/
def State.pullsIn (s : State) (ch : Nat) : Bool :=
  (s.chan ch).pulling && (List.range 64).any (fun b => !s.refreshStopped ch b && decide (-s.pullLimit ch < ((s.chan ch).banks.get b).owed))

/-- Every agent with work requests, the patrol apart: the core dies have come back to work. -/
def State.askAll (s : State) (ch : Nat) : State :=
  forAll [Agent.ref, .mute, .rtq, .cal, .wrd, .rdq, .aux] (fun a t => t.agentAsks ch a) s

/-- The ages, the holder and its burst count of a decision that is made again (R246). -/
def State.restore (s : State) (b : Before) : State :=
  let t := forAll b.ages (fun e t => t.setChan e.1 (fun c => tieOrder.foldl (fun c a =>
    c.setAgent a (fun y => { y with age := e.2.get (agentNum a) })) c)) s
  match b.holder with
  | some h => t.setChan h.1 (fun c => { c with holder := some h.2, bursts := b.bursts })
  | none => t

/-- A grant whose transfer has issued no row yet is void, its agent being masked: the decision that made it is made again
without the agent, with no age changed by it (R246). -/
def State.voidGrant (s : State) (ch : Nat) (h : Agent) (x : Xfer) : State :=
  let t := s.setChan ch (fun c => { (c.setAgent h (fun a => { a with restart := some x })) with
    holder := none, bursts := 0, xfer := none, preempt := none, prior := none })
  let t := match (s.chan ch).prior with
    | some b => t.restore b
    | none => t
  (t.stickBits RF.CHN_MASK_END (ch % 32) 1).decideGrant ch

/-- The preemption point of a grant that a mask ends: a transfer with bursts or rows left is abandoned, the holder keeps its
age, and a decision is made (R246). -/
def State.maskNow (s : State) (ch : Nat) : State :=
  match (s.chan ch).holder, (s.chan ch).xfer with
  | some h, some x =>
    if (s.chan ch).maskCut && (s.chan ch).flights.isEmpty then
      let age := ((s.chan ch).agent h).age
      let t := (s.abandon ch h x false).setChan ch (fun c => c.setAgent h (fun x => { x with age := age }))
      (t.stickBits RF.CHN_MASK_END (ch % 32) 1).decideGrant ch
    else s
  | _, _ => s

/-- A masking domain of the holder has left the on state (R246): its grant is void where no row has issued, and otherwise ends
at the preemption point. -/
def State.maskEnd (s : State) (ch : Nat) : State :=
  match (s.chan ch).holder, (s.chan ch).xfer with
  | some h, some x =>
    if s.masked ch h then
      if x.begun then (s.setChan ch (fun c => { c with maskCut := true })).maskNow ch else s.voidGrant ch h x
    else s
  | _, _ => s

/-! ### What a change of a limit, a bank or an owed count asks for (R242, R276, R283, R387) -/

/-- A bank that REF may want open no longer: its row is open, no transfer has selected it and its owed count is at
POST_URGE; it becomes close-due at once (R276). -/
def State.urgeClose (s : State) (ch b : Nat) : State :=
  let busy := match (s.chan ch).xfer with | some x => x.work.filterMap (s.chan ch).workBank | none => []
  if (s.bank ch b).openRow.isSome && decide (s.postUrge ch ≤ (s.bank ch b).owed) && !busy.contains b then
    s.setBank ch b (fun x => { x with closeDue := true })
  else s

/-- The limits of refresh have changed on a channel: banks become close-due, REF requests where it is forcing, and the
arbiter tests its holder (R242, R276, R387). -/
def State.refLimits (s : State) (ch : Nat) : State :=
  let t := forAll (List.range 64) (fun b t => t.urgeClose ch b) s
  let t := if t.refForcing ch then t.agentAsks ch .ref else t
  t.testPreempt ch

/-- MUTE requests where a row, a latch or a mark gives it work (R283); the decision or the test is its caller's. -/
def State.muteMarks (s : State) (ch : Nat) : State :=
  if !((s.chan ch).agent .mute).asks && !(s.chan ch).downStands && s.wants ch .mute && !s.longHeld ch .mute then
    s.setChan ch (fun c => c.setAgent .mute (fun x => { x with asks := true }))
  else s

/-- Every engine that holds no grant serves the agents that wait for it: a fence has taken a holder's transfer away (DESIGN
CHOICE, log 124). -/
def State.serveIdle (s : State) : State :=
  forAll (List.range 64) (fun ch t =>
    if tieOrder.any (fun a => ((t.chan ch).agent a).asks) && (t.holding ch).isNone then t.serveWaiting ch else t) s

end Sys2Proof.Machine
end

