-- ==== Sys2Proof/Machine/PlayerOps.lean ====
section
/-! DEFINITION. The tab player (11_tablature): the issue of a row, what a command does at the core dies and to what the channel
engine keeps, bursts, and the end of a transfer (R228, R232, R237, R250 to R256). -/

namespace Sys2Proof.Machine

/-! ### What a row sends (R250, R258, R259) -/

/-- The data of an MRW: THRESH takes the THRESH_CODE in force, DRV the SID_DRV in force, others IMM bits 7:0 (R250). -/
def State.mrwData (s : State) (ch sid : Nat) (imm : Nat) : Nat :=
  if imm / 256 = 8 then s.rf RF.MUT_THRESH_CODE
  else if imm / 256 = 1 then (s.cal.chans.get ch).trims.sidDrv.getD sid 0
  else imm % 256

/-- The radius of an NREF: the RADIUS in force where MUTE starts it, otherwise IMM bits 2:0 (R250, R281). -/
def State.rowRadius (s : State) (a : Agent) (r : BitVec 64) : Nat :=
  if a = .mute then s.rf RF.MUT_RADIUS else rowImm r % 8

/-- The command that a row sends: ROW, ARG, COLUMN and the MR fields as its encoding has them (R258, R259). -/
def State.dieCmd (s : State) (ch : Nat) (r : BitVec 64) (x : Target) (radius : Nat) : DieCmd :=
  let cmd := rowCmd r
  let sid := x.bank / 16 % 4
  { cmd := cmd, sid := sid, bank := if cmd = 4 then 0 else x.bank % 16,
    row := if [1, 5, 6, 11, 12].contains cmd then x.row else 0,
    arg := if cmd = 6 then radius else if cmd = 7 then rowImm r % 2 else 0,
    col := x.col, mr := rowImm r / 256 % 64, data := s.mrwData ch sid (rowImm r) }

/-! ### What the channel engine keeps of a command (R261) -/

/-- MUTE has written a new T to a SID; once every SID of the channel holds it, it comes into force (R281). -/
def State.threshWritten (s : State) (ch sid : Nat) : State :=
  s.setChan ch (fun c =>
    let rest := c.threshDue.filter (fun x => x != sid)
    { c with threshDue := rest, tOld := if rest.isEmpty then 2 ^ (8 + s.rf RF.MUT_THRESH_CODE) else c.tOld,
             tPrev := if rest.isEmpty then c.tOld else c.tPrev, tSince := if rest.isEmpty then s.now else c.tSince })

/-- The stage of a row repair moves on with the command that AUX has issued for it (R425, R428). -/
def State.repairIssued (s : State) (ch : Nat) (from1 to1 : RepairStage) : State :=
  { s with rpr := { s.rpr with op := s.rpr.op.map (fun o =>
      if o.ch = ch ∧ o.stage = from1 then { o with stage := to1, since := s.now } else o) } }

/-- What the channel engine keeps of a row's command that issues at fret `t`. -/
def State.keep (s : State) (ch : Nat) (r : BitVec 64) (x : Target) (t : Nat) : State :=
  let b := x.bank
  let col := s.setBank ch b (fun y => { y with idleRun := true, closeDue := s.rfn RF.CHN_IDLE_CLOSE (ch % 32) 0 == 0 })
  match rowCmd r with
  | 1 => s.openBank ch b x.row
  | 2 => s.setBank ch b (fun y => { y with openRow := none, closeDue := false, idleRun := false })
  | 3 => s.closeRow ch b
  | 4 => forAll (rowBanks r x) (fun b t => t.closeRow ch b) s
  | 5 => s.refreshed ch b
  | 6 => s.mitigate ch b x.row
  | 11 => s.repairIssued ch .issuing .sppr
  | 12 => s.repairIssued ch .hardIssue .hppr
  | 16 => col
  | 17 => col
  | 18 => col
  | 19 => if rowImm r / 256 % 64 = 8 then s.threshWritten ch (b / 16) else s
  | 20 => if rowImm r / 256 % 64 = 0x20 then s.setChan ch (fun c => c.latchMark (b / 16) t) else s
  | _ => s

/-- A row's command issues at fret `t`: it occupies its bus and starts its rules, the SIDs take it, the addressed one with the
bits of `flip` inverted on its way, and the channel engine keeps account of it. NONE sends nothing. -/
def State.sendRow (s : State) (ch : Nat) (r : BitVec 64) (x : Target) (radius : Nat) (flip : BitVec 40) (t : Nat) : State :=
  if rowCmd r = 0 then s
  else ((s.sendDies ch (s.dieCmd ch r x radius) flip t).keep ch r x t).setChan ch (fun c => c.launch r x radius t)

/-! ### Drains and captures -/

/-- WSEQ_DRAINED advances over every write that has drained with all before it (R177). -/
def advanceDrained (d : Nat) (done : List Nat) : Nat → Nat
  | 0 => d
  | n + 1 => if done.contains ((d + 1) % 65536) then advanceDrained ((d + 1) % 65536) done n else d

/-- Writes of a channel have drained: their WSEQs count (R177, R226). -/
def Chan.drainSeqs (c : Chan) (l : List Nat) : Chan :=
  let done := c.outOfOrder ++ l
  let d := advanceDrained c.drained done done.length
  { c with drained := d, outOfOrder := done.filter (fun q => decide (0 < (q + 65536 - d) % 65536) &&
      decide ((q + 65536 - d) % 65536 < 32768)) }

/-- A line leaves the write share: drained, or released by a read-modify-write that writes nothing (R222). -/
def State.shareOut (s : State) (ch : Nat) (p : WrEnt → Bool) : State :=
  let gone := ((s.chan ch).writes.filter p).length
  let t := s.setChan ch (fun c => { c with writes := c.writes.filter (fun w => !p w), shareRet := c.shareRet + gone })
  (forAll (List.range gone) (fun _ t => t.freePool) t).syncBatch ch

/-- A line as a slot protects it: encrypted, with its MAC in basic mode, and encoded (R315). -/
def KeySlot.line (x : KeySlot) (data : BitVec 512) (laddr key : Nat) : ArrayLine :=
  ⟨lineBurst x.keys laddr key x.meta1 data, laddr, x.keys, key, x.meta1, false⟩

/-- A write burst reaches a line of the core dies: the line under its slot, or void content when the slot is not ACTIVE or its
GENERATION differs (R315, R321). -/
def State.landWrite (s0 : State) (ch at0 : Nat) (w : WrEnt) : State :=
  let p := decide (32 ≤ ch)
  let s := s0.loadSlot p w.key (halfOf ch)
  let l := w.laddr % 2 ^ 30
  if s.slotHolds p w.key w.gen then
    { s with array := s.array.set at0 (some ((s.slot p w.key).line w.data l w.key)) }
  else
    ({ s with
      array := s.array.set at0 (some ⟨voidBurst s.sec.voidKey l s.sec.voidCount, l, .zero, w.key, false, true⟩),
      sec := { s.sec with voidCount := s.sec.voidCount + 1 } } : State).count 0x5128

/-- A write burst ends and stands on the core die where the SID took its WR: TX_LINE brings the line of the transfer's source, the
write share or SCRB's line buffer, and TX_RAW the pattern generator's burst, which is a sentinel's just read, the repair buffer's, or
a test pattern (R250, R291, R425, R431). -/
def State.landBurst (s : State) (ch : Nat) (f : Flight) : State :=
  match f.place with
  | none => s
  | some at0 =>
    let put := fun (l : Option ArrayLine) => ({ s with array := s.array.set at0 l } : State)
    match f.work with
    | .wrLine l q =>
      if f.dpa = 2 then match (s.chan ch).wrOf l q with | some w => s.landWrite ch at0 w | none => s
      else put none
    | .rowOp _ _ col => put ((s.rpr.op.map (fun o => o.buffer.getD col none)).getD none)
    | .wrBack b row col => put (((s.chan ch).scrubBuf.find? (fun e => e.1 == b && e.2.1 == row && e.2.2.1 == col)).map (fun e => e.2.2.2))
    | .sentArm _ => s
    | .test p => put (if f.dpa = 4 then s.rpr.bist.bind (fun b => (b.next s.rpr.bparam).bind (fun x => x.2.wr.map (fun compl =>
        ⟨b.burst p compl, 0, .zero, 0, false, false⟩))) else none)
    | _ => put none

/-- The captured lines of a finished transfer, released to the line-protection engine: the bursts of RX_LINE (R232, R250). -/
def State.capturedOf (s : State) (ch : Nat) (x : Xfer) : List Captured :=
  (x.work.zip x.got).filterMap (fun p => match p.1, p.2.dpa with
    | .rdLine u i, 1 => ((s.chan ch).rdOf u i).map (fun e =>
        ⟨u, i, e.laddr, e.bank, e.row, e.col, p.2.line, p.2.err.setWidth 576, e.rmw⟩)
    | _, _ => none)

/-- The bursts of RX_CHECK of a finished scrub, with their places: the line-protection engine checks them (R250, R269). -/
def scrubbedOf (x : Xfer) : List (Nat × Nat × Nat × Got) :=
  (x.work.zip x.got).filterMap (fun p => match p.1, p.2.dpa with
    | .scrub b row col, 5 => some (b, row, col, p.2)
    | _, _ => none)

/-- A scrub has read a row: the sweep of a retention-suspect bank or of the patrol moves on (R293). -/
def Chan.scrubbed (c : Chan) (b row : Nat) : Chan :=
  if (c.banks.get b).scrubAt = some row then { c with banks := c.banks.upd b (fun x => { x with scrubAt := some (row + 1) }) }
  else if c.sweepPtr = 32768 * b + row then { c with sweepPtr := (c.sweepPtr + 1) % 2097152 }
  else c

/-- The 72 bytes of a burst, symbol 0 first (R312). -/
def burstBytes (b : BitVec 576) : List Byte := leBytes 72 b.toNat

/-- The word that the sentinel store keeps of a burst: its CRC-32C and the word's parity (R291). -/
def sentinelOf (b : BitVec 576) : Word × Bool := (crc32c (burstBytes b), oddOnes (crc32c (burstBytes b)))

/-- A power entry has run on a channel (R269, R287, R289, R366). From the SRE the timers of the channel stop, and a calibration
run with them (R359); behind SRX the exit sweep begins. -/
def State.powerDone (s : State) (ch n : Nat) : State :=
  let t := s.setChan ch (fun c => { c with power := c.power.drop 1 })
  let t := t.setChan ch (fun c => { c with rest := restAfter n })
  match n with
  | 44 => ((t.setChan ch (fun c => { c with drain := false })).setCalGr (calGroupOf ch) (fun x => { x with run := none })).syncAge
  | 45 =>
    let t := (t.startSweep ch (t.chan ch).lostRef).setChan ch (fun c => { c with lostRef := false })
    let t := t.askAll ch
    if (t.chan ch).banks.ents.any (fun e => e.2.mustCheck) then t.agentAsks ch .scrb else t
  | 46 => t
  | _ => t.askAll ch

/-- A transfer of CAL has ended: the plan of its training goes on, or its run counts the READ_PROBE or DRV_SET (R345, R349). -/
def State.calStepDone (s : State) (ch : Nat) (x : Xfer) : State :=
  let inRun := fun (f : CalRun → CalRun) (t : State) => t.setCalGr (calGroupOf ch) (fun g => { g with run := g.run.map f })
  if s.trains ch then
    match (s.calPlan ch)[(s.calCh ch).transfers]? with
    | some p => s.setCalCh ch (fun c =>
        if c.verified + x.landed < p.2.2 then { c with verified := c.verified + x.landed }
        else { c with transfers := c.transfers + 1, verified := 0 })
    | none => s
  else if x.entry = 23 then inRun (fun r => { r with probed := r.probed ++ [ch] }) (s.count 0x7108)
  else inRun (fun r => { r with drvSet := r.drvSet ++ [ch] }) s

/-- A burst captured unaltered: the line as it arrived, none where it is a line that nothing has written (R250, R425). -/
def Got.raw (g : Got) : Option ArrayLine :=
  match g.line with
  | some l => some { l with burst := g.beats.setWidth 576 }
  | none => if g.err = 0#640 then none else some ⟨g.beats.setWidth 576, 0, .zero, 0, false, false⟩

/-- What the work items of a finished transfer that carry no host line have done. -/
def State.workDone (s : State) (ch : Nat) (x : Xfer) : State :=
  match x.work with
  | .sentArm b :: _ => { s with pwr := { s.pwr with
      sentinels := s.pwr.sentinels.set (64 * ch + b) ((x.got.head?).map (fun g => sentinelOf (g.beats.setWidth 576))) } }
  | .sentCheck b :: _ => s.setChan ch (fun c => { c with
      sentGot := c.sentGot ++ ((x.got.head?).map (fun g => (b, g.beats.setWidth 576))).toList })
  | .calStep _ :: _ => s.calStepDone ch x
  | .scrub b r _ :: _ => s.setChan ch (fun c => { (c.scrubbed b r) with scrubGot := c.scrubGot ++ scrubbedOf x })
  | .wrBack b r _ :: _ => s.setChan ch (fun c => { c with scrubBuf := c.scrubBuf.filter (fun e => !(e.1 == b && e.2.1 == r)) })
  | .rowOp _ _ _ :: _ =>
    { s with rpr := { s.rpr with op := s.rpr.op.map (fun o =>
        if o.ch ≠ ch then o
        else match o.stage with
          | .freezing => { o with stage := .waiting, buffer := (x.got.filter (fun g => g.dpa == 3)).map Got.raw }
          | .restoring => { o with stage := .comparing, bad := (x.got.filter (fun g => g.dpa == 3)).any (fun g => g.err != 0#640) }
          | _ => o) } }
  | .test _ :: _ => { s with rpr := { s.rpr with bist := s.rpr.bist.map (fun b =>
      if b.ch ≠ ch then b else b.stepped s.rpr.bparam ((x.got.filter (fun g => g.dpa == 3)).map (fun g => g.beats))) } }
  | .refBank _ :: _ => s.setChan ch (fun c => { c with pulling := s.pullsIn ch })
  | .openSid _ :: _ => (s.setChan ch (fun c => { c with opening := c.opening.drop 1 })).askAll ch
  | .powerCmd n :: _ => s.powerDone ch n
  | _ => s

/-- The work of a finished transfer takes effect: reads leave the queue with their captured lines, writes drain
(R228, R232), other work is done, the transfer's bursts count (R237). -/
def State.finishWork (s : State) (ch : Nat) (x : Xfer) : State :=
  let caps := s.capturedOf ch x
  let isRd := fun (e : RdEnt) => x.work.contains (.rdLine e.uid e.idx)
  let isWr := fun (w : WrEnt) => x.work.any (fun k => match k with
    | .wrLine l q => w.laddr == l && w.wseqs.contains q
    | _ => false)
  let gone := (s.chan ch).writes.filter isWr
  let t := s.setChan ch (fun c => { c with
    captured := c.captured ++ caps, reads := c.reads.filter (fun e => !isRd e), bursts := c.bursts + max 1 x.landed })
  let t := (t.countBy (chnAt ch 0x100) caps.length).countBy (chnAt ch 0x108) gone.length
  let t := t.setChan ch (fun c => c.drainSeqs (gone.flatMap (fun w => w.wseqs)))
  let t := if gone.isEmpty then t else t.shareOut ch isWr
  t.workDone ch x

/-- A transfer's last beat ends at fret `e`: its work takes effect and the arbiter decides; the next transfer's first row issues
from then on (R237, R240, R251). A preemption that was decided meanwhile finds the transfer ended (R243). -/
def State.endTransfer (s : State) (ch : Nat) (x : Xfer) (e : Nat) : State :=
  let banks := x.work.filterMap (s.chan ch).workBank
  let t := forAll (s.engine ch) (fun k t => t.setChan k (fun c => { c with beatEnd := e, clock := max c.clock e })) s
  let t := (t.setChan ch (fun c => { c with xfer := none })).finishWork ch x
  let t := (forAll banks (fun b t => t.urgeClose ch b) t).muteMarks ch
  let t := match (t.chan ch).preempt with
    | some w =>
      let t := (t.setChan ch (fun c => { c with preempt := none, bursts := 0 })).refreshEngine ch
      let b := t.before ch
      let t := if ((t.chan ch).agent x.agent).asks then t.setAge (ch, x.agent) (fun _ => 1) else t
      if (t.waiting ch).contains w then t.grantFrom b w else t.decideGrant ch
    | none =>
      let u := (when (t.chan ch).maskCut (fun t => t.stickBits RF.CHN_MASK_END (ch % 32) 1) t)
      (u.setChan ch (fun c => { c with maskCut := false })).decideGrant ch
  t.noteForcing ch

/-! ### Issuing a row (R253 to R255) -/

/-- After a row: the next row, the next line, or the end of the transfer (R250). -/
def Xfer.advance (x : Xfer) (r : BitVec 64) : Xfer :=
  match rowBr r with
  | 0 => { x with row := rowNext r }
  | 1 => if x.done + 1 < x.work.length then { x with done := x.done + 1, row := rowNext r } else { x with ended := true }
  | 2 =>
    let n := x.loop.getD (rowImm r) - 1
    if 0 < n then { x with row := rowNext r, loop := some n } else { x with row := x.row + 1, loop := none }
  | _ => { x with ended := true }

/-- The tokens of a row are granted, or it waits for them (R253, R299, R300). -/
def State.rowTokens (s : State) (ch cmd : Nat) (x : Target) (a : Agent) : Bool × State :=
  let urgent := (a == .ref || a == .mute) && s.forcing ch a
  match cmd with
  | 5 => s.drawRef ch (x.bank / 16) (s.bank ch x.bank).owed a urgent
  | 6 => s.drawNref ch (x.bank / 16) a urgent
  | _ => s.draw ch (x.bank / 16) (s.cost cmd) (!(a == .ref || a == .mute)) urgent

/-- A PREA of a power entry addresses a SID with no open row: it is left out (R269). -/
def State.skips (s : State) (ch : Nat) (a : Agent) (r : BitVec 64) (x : Target) : Bool :=
  rowCmd r == 4 && a == .ref && (rowBanks r x).all (fun b => (s.bank ch b).openRow.isNone)

/-- What the burst of a row with a data-path action is, from the SID that its command reaches, as it stood then (R250, R264). -/
def State.flightOf (s : State) (ch : Nat) (w : Work) (r : BitVec 64) (c : DieCmd) (flip : BitVec 40) (t : Nat) : Flight :=
  let got := c.captured flip
  let sid := match got with | some d => d.sid | none => c.sid
  let x := (s.chan ch).sids.get sid
  let heard := match got with | some d => !x.deaf d.cmd d.mr && decide (16 ≤ d.cmd) && d.cmd != 19 | none => false
  { work := w, dpa := rowDpa r, heard := heard, place := x.access ch sid got,
    beats := if heard then got.bind x.answers else none,
    cmp := if heard && c.cmd == 17 && x.compares then some sid else none,
    hot := (s.hotSids ch).contains c.sid,
    lands := t + (if rowDpa r = 2 ∨ rowDpa r = 4 then 48 else 96) }

/-- A row of the running transfer issues at fret `t`, when its rules, WAIT, bus, the room of the data path for a burst, and its
tokens allow it (R253). -/
def State.issueRow (s : State) (ch t : Nat) (room : Bool) (flip : BitVec 40) : State :=
  match (s.chan ch).xfer, (s.chan ch).preempt with
  | some x, none =>
    if x.ended || (s.chan ch).maskCut || !s.driven ch then s
    else
      let c := s.chan ch
      let r := s.tab.rows.get x.row
      let cmd := rowCmd r
      let w := x.item r
      let tgt := s.target ch r w
      let data := decide (0 < rowDpa r)
      let waited := match c.threadAt with | some t0 => decide (t0 + rowWait r ≤ t) | none => true
      if s.skips ch x.agent r tgt then
        let y := x.advance r
        let u := s.setChan ch (fun c => { c with xfer := some y })
        if y.ended && c.flights.isEmpty then u.endTransfer ch y t else u
      else if waited && (x.begun || decide (c.beatEnd ≤ t)) && (!data || room) && c.busFree cmd t && s.rulesDone ch r tgt t then
        match s.rowTokens ch cmd tgt x.agent with
        | (false, u) => u
        | (true, u) =>
          let radius := s.rowRadius x.agent r
          let fl := u.flightOf ch w r (u.dieCmd ch r tgt radius) flip t
          let u := if data && (u.chan ch).flights.isEmpty then u.pluckStart ch else u
          let y : Xfer := { (x.advance r) with begun := true, issued := x.issued + (if data then 1 else 0) }
          let u := (u.sendRow ch r tgt radius flip t).setChan ch (fun c => { c with
            xfer := some y, threadAt := if cmd = 0 then c.threadAt else some t,
            flights := if data then c.flights ++ [fl] else c.flights })
          let u := u.muteMarks ch
          if y.ended && !data && (u.chan ch).flights.isEmpty then u.endTransfer ch y (if cmd = 0 then t else t + 16)
          else u.testPreempt ch
      else s
  | _, _ => s

/-- The close-due bank that the insert slot closes: one that no transfer has selected (R234). -/
def State.insertTarget (s : State) (ch : Nat) : Option Nat :=
  let c := s.chan ch
  let busy := match c.xfer with | some x => x.work.filterMap c.workBank | none => []
  (List.range 64).find? (fun b => (c.banks.get b).closeDue && (c.banks.get b).openRow.isSome && !busy.contains b)

/-- What the insert thread runs: the chain it is in, or the CLOSE entry for a close-due bank (R234, R254). -/
def State.insertNow (s : State) (ch : Nat) : Option Insert :=
  match (s.chan ch).insert with
  | some i => some i
  | none => (s.insertTarget ch).map (fun b => ⟨b, s.firstRow 6, none⟩)

/-- The insert thread behind a row: the next row of its chain, or its end (R250). -/
def Insert.advance (i : Insert) (r : BitVec 64) : Option Insert :=
  match rowBr r with
  | 0 => some { i with row := rowNext r }
  | 2 =>
    let n := i.loop.getD (rowImm r) - 1
    some (if 0 < n then { i with row := rowNext r, loop := some n } else { i with row := i.row + 1, loop := none })
  | _ => none

/-- A row of the insert thread issues at fret `t`, under the same conditions as a transfer's (R234, R253, R254). -/
def State.issueInsert (s : State) (ch t : Nat) (room : Bool) (flip : BitVec 40) : State :=
  match s.insertNow ch with
  | none => s
  | some i =>
    let c := s.chan ch
    let r := s.tab.rows.get i.row
    let tgt : Target := ⟨i.bank, 0, 0⟩
    let waited := match c.insertAt with | some t0 => decide (t0 + rowWait r ≤ t) | none => true
    if s.driven ch && !c.atRest && waited && (rowDpa r == 0 || room) && c.busFree (rowCmd r) t && s.rulesDone ch r tgt t then
      match s.draw ch (i.bank / 16) (s.cost (rowCmd r)) true false with
      | (false, u) => u
      | (true, u) =>
        let u := (u.sendRow ch r tgt (rowImm r % 8) flip t).setChan ch (fun c => { c with
          insert := i.advance r, insertAt := if rowCmd r = 0 then c.insertAt else some t })
        let u := (when (rowCmd r == 3 && (s.bank ch i.bank).openRow.isSome) (fun u => u.count (chnAt ch 0x138)) u).muteMarks ch
        u.serveWaiting ch
    else s

/-- The mask is checked again before a transfer's first row: a masked agent's grant is void (R246). -/
def State.checkMask (s : State) (ch : Nat) : State :=
  match (s.chan ch).holder, (s.chan ch).xfer with
  | some h, some x => if !x.begun && s.masked ch h then s.voidGrant ch h x else s
  | _, _ => s

/-- The symbols of a line of the core dies as its SID sends them; those of a line that nothing has written are open (log 3). -/
def State.lineBeats (s : State) (place : Option Nat) : BitVec 576 :=
  match place with
  | none => s.freeVal.setWidth 576
  | some k => match s.array.get k with
    | some x => x.burst
    | none => Config.coldLine k

/-- The beats of a read burst as they arrive, those of `err` inverted. -/
def State.arrives (s : State) (f : Flight) (err : Beats) : Got :=
  ⟨f.dpa, f.place.bind s.array.get, (match f.beats with | some b => b | none => (s.lineBeats f.place).setWidth 640) ^^^ err, err⟩

/-- A captured burst of MUTE's MIT_READ or of a STATUS read: its result is on its way (R262, R265). -/
def State.noteGot (s : State) (ch : Nat) (f : Flight) (g : Got) : State :=
  match f.work with
  | .mitRead sid => s.setChan ch (fun c => { c with latchRead := some ⟨sid, latchesOf g.beats, f.hot⟩ })
  | .status sid => s.setChan ch (fun c => { c with
      statusGot := c.statusGot.filter (fun e => e.1 != sid) ++ [(sid, ofFirstUi 3 g.beats)] })
  | _ => s

/-- A preamble that comes `pre` frets after its command is within its window: RL − 16 to RL + 24 at Camec, WL ± 4 at a SID (R264). -/
def inWindow (write : Bool) (pre : Nat) : Bool :=
  if write then decide (28 ≤ pre) && decide (pre ≤ 36) else decide (80 ≤ pre) && decide (pre ≤ 120)

/-- A burst completes on the DQ TSVs (R228, R237): a write's data stands on the core die, or is compared with the SID's pattern, and a
read's is captured, the beats of `err` inverted on their way; the last burst ends the transfer. A SID that has not taken a read
command sends no burst, and a read preamble outside its window is absent: the capture misses (R264, R266). A SID does not take write
data whose preamble is outside its window. -/
def State.burstDone (s : State) (ch : Nat) (pre : Option Nat) (err : Beats) : State :=
  match (s.chan ch).xfer, (s.chan ch).flights with
  | some x, f :: rest =>
    let inTime := inWindow f.write (pre.getD (if f.write then 32 else 96))
    if !f.write && (!f.heard || !inTime) then s
    else
      let g := s.arrives f err
      let y : Xfer := { x with landed := x.landed + 1, got := if f.write then x.got else x.got ++ [g] }
      let s1 := (s.slewBurst ch).setChan ch (fun c => { c with flights := rest, xfer := some y, clock := max c.clock f.lands })
      let s2 := if !f.write then (when (f.beats.isNone && f.place.isNone) State.useFree s1).noteGot ch f g
        else if !inTime then s1
        else match f.cmp with
          | some sid => s1.compareWrite ch sid (((s1.chan ch).sids.get sid).patternBurst ^^^ err)
          | none => s1.landBurst ch f
      if y.ended && rest.isEmpty then s2.endTransfer ch y f.lands
      else if rest.isEmpty then (s2.preemptNow ch).maskNow ch
      else s2
  | _, _ => s

end Sys2Proof.Machine
end

