-- ==== Sys2Proof/Machine/CalOps.lean ====
section
/-! DEFINITION. Calibration: runs and their triggers, the reference and its holdover, the application of corrections,
retraining, spare TSVs and temperature-set writes (R61, R62, R342 to R360). -/

namespace Sys2Proof.Machine

/-! ### Groups -/

/-- The temperature of a group, in quarters of a degree: the higher of its two channels (log 20). -/
def State.groupTemp (s : State) (g : Nat) : Nat := max (s.chan (2 * g)).temp (s.chan (2 * g + 1)).temp

/-- The difference of two temperatures. -/
def apart (a b : Nat) : Nat := max a b - min a b

/-- A group's domain is on (R350). -/
def State.groupOn (s : State) (g : Nat) : Bool := s.domOn (8 + g)

/-- The groups whose domain is on. -/
def State.groupsOn (s : State) : List Nat := (List.range 16).filter (fun g => s.groupOn g)

/-- A reference is present (R62). -/
def State.refLocked (s : State) : Bool := s.cal.refState == .locked

/-- The group's fret trim interpolated at its temperature (R354): the higher of its two channels' values (log 20). -/
def State.fretAt (s : State) (g : Nat) : Nat :=
  max (s.interp (2 * g) 132 (s.groupTemp g)) (s.interp (2 * g + 1) 132 (s.groupTemp g))

/-- A group in NOREF holds the interpolated values of FRET_TRIM and of its channels' PLUCK_TRIM (R354). -/
def State.norefTrims (s : State) (g : Nat) : State :=
  if (s.calGr g).st = .noref then
    let t := s.setCalGr g (fun x => { x with fret := s.fretAt g })
    forAll (ownChannels g) (fun ch t => t.setCalCh ch (fun c => { c with
      trims := putTrim c.trims 0 (t.interp ch 0 (t.chan ch).temp),
      pending := c.pending.filter (fun p => p.trim != 0) })) t
  else s

/-- A group enters NOREF (R62, R354). -/
def State.enterNoref (s : State) (g : Nat) : State :=
  (s.setCalGr g (fun x => { x with st := .noref })).norefTrims g

/-! ### Temperature-set writes (R357) -/

/-- The point nearest a temperature in quarters of a degree; which of two points midway is open (log 3). -/
def nearestPoint (temp : Nat) : Nat :=
  (List.range 8).foldl (fun b t =>
    if apart (4 * pointTemp t) temp < apart (4 * pointTemp b) temp then t
    else if apart (4 * pointTemp t) temp = apart (4 * pointTemp b) temp ∧ b < t ∧ Config.midwayUp temp 8 then t else b) 0

/-- The channel's trims in force, with its group's fret trim. -/
def State.trimsOfCh (s : State) (ch : Nat) : Trims :=
  { (s.calCh ch).trims with fret := (s.calGr (calGroupOf ch)).fret }

/-- One record is rewritten whole, with SEQ counted up (R355, R357); while NVM_RDY is low it is not written (R34). -/
def State.writeSet (s : State) (ch t temp : Nat) (trims : Trims) (est : Bool) : State :=
  if !s.pins.nvmRdy then s else
  let x : TempSet := ⟨true, est, false, ((s.set ch t).seq + 1) % 2 ^ 32, temp / 4 % 256, trims.fret, trims, some s.now⟩
  let u : State := { s with cal := { s.cal with sets := s.cal.sets.set (8 * ch + t) x } }
  (u.nvmRecord (.calSet ch t) (setAddr ch t) (x.bytes ch t)).count 0x7128

/-- The rewrite of the record nearest a temperature at the end of a run, training or retraining, under a SET_WRITE and SET_TOL. -/
def State.rewriteUnder (s : State) (ch temp : Nat) (trims : Trims) (write : Bool) (tol : Nat) : State :=
  let p := nearestPoint temp
  let near := decide (apart (4 * pointTemp p) temp ≤ 4 * tol)
  let x := s.set ch p
  let old := match x.wroteAt with | some t => decide (t + 2 ^ 21 ≤ s.now) | none => true
  if ch < 32 ∧ write ∧ (s.calGr (calGroupOf ch)).st ≠ .noref ∧ (!x.valid || (near && (old || x.est))) then
    s.writeSet ch p temp trims (!near)
  else s

/-- The rewrite under the SET_WRITE and SET_TOL in force. -/
def State.rewriteSet (s : State) (ch temp : Nat) (trims : Trims) : State :=
  s.rewriteUnder ch temp trims (s.rfb RF.CAL_SET_WRITE) (s.rf RF.CAL_SET_TOL)

/-- The first calibration rewrites every record that is not valid, as ESTIMATED (R103, R357): with interpolated values,
or with the run's own values where fewer than two points are valid. -/
def State.fillSets (s : State) (ch temp : Nat) (trims : Trims) (write : Bool) : State :=
  let few := decide ((s.validPoints ch).length < 2)
  let bad := (List.range 8).filter (fun t => !(s.set ch t).valid)
  if write then
    forAll bad (fun t u => u.writeSet ch t temp (if few then trims else s.interpAll ch (4 * pointTemp t) trims) true) s
  else s

/-- CAL_COUNT and CAL_LAST (R358). -/
def State.calCounts (s : State) (ch : Nat) : State :=
  s.setCalCh ch (fun c => { c with count := (c.count + 1) % 2 ^ 32, last := s.time.stamp })

/-! ### Runs (R349 to R352) -/

/-- A run may start: D7 and the group's domain are on, its timers run, and CAL is not masked (R350, R359). -/
def State.canRun (s : State) (g : Nat) : Bool :=
  s.domOn 7 && s.groupOn g && s.clocked (2 * g) && (ownChannels g).all (fun ch => !s.masked ch .cal)

/-- A run starts: the group becomes STALE unless it is NOREF, and CAL requests its channels (R349, R351). -/
def State.startRun (s : State) (g : Nat) : State :=
  let t := s.setCalGr g (fun x => { x with
    run := some ⟨s.groupTemp g, false, false, s.now, [], [], [], s.rf RF.CAL_SLEW_MAX, s.rfb RF.CAL_SET_WRITE, s.rf RF.CAL_SET_TOL,
      s.rf RF.CAL_CAL_DELTA⟩
    dueSince := none, late := false,
    st := if x.st = .noref then .noref else .stale })
  let t := t.syncAge
  forAll (ownChannels g) (fun ch t => t.agentAsks ch .cal) t

/-- A run is due on a group: it starts at once, or as soon as it can (R350). -/
def State.dueRun (s : State) (g : Nat) : State :=
  match (s.calGr g).run, s.groupOn g with
  | some _, _ => s
  | none, false => s
  | none, true =>
    if s.canRun g then s.startRun g
    else s.setCalGr g (fun x => { x with dueSince := match x.dueSince with | some t => some t | none => some s.now })

/-- A run that is due could not start for 64 drone ticks (R350). -/
def State.lateRun (s : State) (g : Nat) : State :=
  match (s.calGr g).dueSince with
  | some t =>
    if t + 64 ≤ s.now ∧ !(s.calGr g).late then
      (s.setCalGr g (fun x => { x with st := if x.st = .fresh then .stale else x.st, late := true })).stick RF.CAL_RUN_LATE
    else s
  | none => s

/-- The triggers as the luthier judges them at a drone tick (R350): a run is due on a group. In holdover the luthier keeps the trims
and the state stays FRESH (R62): no trigger of its own starts a run, but one that was asked for starts (DEDUCED, log 134). -/
def State.runDue (s : State) (g : Nat) : Bool :=
  let x := s.calGr g
  x.dueSince.isSome ||
    (s.cal.refState != .holdover &&
      if s.groupsOn.length ≤ s.rf RF.CAL_CONT_MAX then decide (x.readyAt ≤ s.now)
      else decide (4 * s.rf RF.CAL_CAL_DELTA ≤ apart (s.groupTemp g) x.lastTemp) ||
        decide (x.lastRun + s.rf RF.CAL_MAX_INTERVAL ≤ s.now))

/-- A run that has been waiting for its group's core dies to wake starts (R359). -/
def State.startDue (s : State) (g : Nat) : State :=
  if (s.calGr g).dueSince.isSome && (s.calGr g).run.isNone && s.canRun g then s.startRun g else s

/-- The stages in which the luthier starts runs: after training (R92 steps 10 to 14). -/
def State.calibrates (s : State) : Bool :=
  match s.boot.stage with
  | .link => true
  | .refcal => true
  | .keyex => true
  | .ready => true
  | _ => false

/-- The trigger judgement of one drone tick (R350). -/
def State.judgeRuns (s : State) : State :=
  if s.calibrates then
    (forAll s.groupsOn (fun g t => (if t.runDue g then t.dueRun g else t).lateRun g) s).syncAge
  else s

/-- The corrections that a run's results call for on one channel (R349, R352, R356): the trims measured, and the write
trims set from the trained values and the interpolated sets. -/
def State.corrections (s : State) (ch : Nat) (r : CalRun) (fresh : Bool) (m : Trims) : List Corr :=
  let c := s.calCh ch
  let dropped := r.dropped.contains ch
  let kept := c.pending
  (List.range 132).filterMap (fun k =>
    let now : Int := if k = 0 then c.pluck else trimAt c.trims k
    let held := kept.find? (fun p => p.trim == k)
    let target : Option Int :=
      if k = 0 then (if fresh then some (m.pluck : Int) else none)
      else if k < 42 then some (trimAt m k : Int)
      else if (42 ≤ k ∧ k < 82) ∨ 130 ≤ k then
        some (trimOf k ((trimAt c.trained k : Int) + s.interp ch k r.temp - s.interp ch k c.trainTemp) : Int)
      else if dropped then none else some (trimAt m k : Int)
    match target with
    | none => held
    | some v =>
      let large := decide (r.slewMax < (v - now).natAbs)
      let forced := large && held.any (fun p => p.forced)
      if v = now then none else some ⟨k, v - now, large && !forced, forced⟩)

/-- A completed run's results are applied on one channel (R352). The count of bursts to the next slew step goes on, and so does the
wait for an idle period where corrections waited before. -/
def State.applyRun (s : State) (ch : Nat) (r : CalRun) (fresh : Bool) (m : Trims) : State :=
  let l := s.corrections ch r fresh m
  let t := s.setCalCh ch (fun c => { c with
    pending := l, waitSince := if c.pending.any (fun p => p.wait) then c.waitSince else s.now,
    trims := if fresh then putTrim c.trims 0 m.pluck else c.trims })
  t.calCounts ch

/-- The first run of a group fails: it is retried once, then the group is fenced (R109); a later run measures again. -/
def State.runFailed (s : State) (g : Nat) (r : CalRun) : State :=
  let x := s.calGr g
  let again := s.setCalGr g (fun x => { x with
    run := some { r with window := false, discard := false, since := s.now }, retried := true })
  (if x.firstRun && x.retried then
    (s.setCalGr g (fun x => { x with run := none })).fenceUnit .group g rsnTrain none
  else again).syncAge

/-- A run has ended: the READ_PROBEs and DRV_SETs that its channels had left have run too (R349; log 119). -/
def State.finishProbes (s : State) (g : Nat) (r : CalRun) : State :=
  forAll ((ownChannels g).filter (fun ch => !r.dropped.contains ch)) (fun ch t =>
    (t.countBy 0x7108 (32 - r.probed.count ch)).setDrv ch) s

/-- A run completes (R350 to R352, R354): its results are applied, the group is FRESH where the run measured against a
reference, and the sets are rewritten under R357. -/
def State.completeRun (s : State) (g : Nat) (ok : Bool) (fret : Nat) (even odd : Trims) : State :=
  match (s.calGr g).run with
  | none => s
  | some r =>
    if s.cal.refState ≠ .absent ∧ !r.window then s
    else if !ok then s.runFailed g r
    else
      let fresh := r.window && decide (s.cal.refState ≠ .absent)
      let first := (s.calGr g).firstRun
      let t := s.setCalGr g (fun x => { x with
        run := none, st := if fresh then .fresh else x.st, fret := if fresh then fret else x.fret,
        lastTemp := r.temp, lastRun := s.now, readyAt := s.now + 1, dueSince := none, late := false,
        firstRun := x.firstRun && !fresh, retried := false })
      let t := (t.applyRun (2 * g) r fresh even).applyRun (2 * g + 1) r fresh odd
      let t := (t.finishProbes g r).count 0x7100
      let t := forAll (if fresh then [(2 * g, even), (2 * g + 1, odd)] else []) (fun p t =>
        let now := t.trimsOfCh p.1
        let read : Trims := if r.dropped.contains p.1 then now else p.2
        let full : Trims := { now with
          fret := fret, pluck := p.2.pluck, drv := p.2.drv, vref := p.2.vref, rdeskew := read.rdeskew, rstrobe := read.rstrobe }
        let t := t.rewriteUnder p.1 r.temp full r.setWrite r.setTol
        when first (fun t => t.fillSets p.1 r.temp full r.setWrite) t) t
      let t := if 4 * r.delta ≤ apart (t.groupTemp g) r.temp then t.dueRun g else t
      forAll (groupChannels g) (fun ch t => forAll [Agent.rtq, .rdq, .wrd] (fun a t => t.agentAsks ch a) t) t

/-- A replica window ends: it counts, or it is discarded and measured again (R343, R360). -/
def State.windowEnd (s : State) (g : Nat) (lost : Bool) : State :=
  match (s.calGr g).run with
  | none => s
  | some r =>
    if r.window || s.cal.refState == .absent then s
    else if lost || r.discard || !s.refLocked then
      (s.setCalGr g (fun x => { x with run := some { r with discard := false } })).stick RF.CAL_WINDOW_DISCARD
    else
      let t := s.setCalGr g (fun x => { x with run := some { r with window := true } })
      ({ t with cal := { t.cal with ageMeas := true } } : State).syncAge

/-! ### Applying corrections (R352, R353) -/

/-- One trim in force moves by some steps. -/
def CalChan.move (c : CalChan) (k : Nat) (d : Int) : CalChan :=
  if k = 0 then { c with pluck := trimOf 0 ((c.pluck : Int) + d) }
  else { c with trims := putTrim c.trims k (trimOf k ((trimAt c.trims k : Int) + d)) }

/-- The sign of a correction: one step. -/
def oneStep (d : Int) : Int := if 0 < d then 1 else -1

/-- The group is STALE: every held trim of its channels keeps its value (R351). -/
def State.trimsHeld (s : State) (ch : Nat) : Bool := (s.calGr (calGroupOf ch)).st == .stale

/-- After 64 bursts every correction that is slewed moves by one step, between two bursts (R352, R360), unless the group's trims are
held (R351). -/
def State.slewOnce (s : State) (ch : Nat) : State :=
  let c := s.calCh ch
  let l := c.pending.filter (fun p => !p.wait)
  if 64 ≤ c.burstCount ∧ l ≠ [] ∧ (s.chan ch).flights = [] ∧ !s.trimsHeld ch then
    let moved := l.foldl (fun c p => c.move p.trim (oneStep p.steps)) c
    let rest := c.pending.filterMap (fun p =>
      if p.wait then some p
      else if p.steps - oneStep p.steps = 0 then none else some { p with steps := p.steps - oneStep p.steps })
    (s.setCalCh ch (fun _ => { moved with pending := rest, burstCount := 0 })).countBy 0x7110 l.length
  else s

/-- At an idle period all pending corrections apply at once, unless the group's trims are held (R351, R352). -/
def State.applyIdle (s : State) (ch : Nat) : State :=
  let c := s.calCh ch
  if c.pending.any (fun p => p.wait) && (s.chan ch).flights.isEmpty && !s.trimsHeld ch then
    let moved := c.pending.foldl (fun c p => c.move p.trim p.steps) c
    (s.setCalCh ch (fun _ => { moved with pending := [], burstCount := 0 })).count 0x7118
  else s

/-- No idle period has come within IDLE_WAIT: the waiting corrections are slewed. -/
def State.forceSlew (s : State) (ch : Nat) : State :=
  let c := s.calCh ch
  if c.pending.any (fun p => p.wait) && decide (c.waitSince + s.rf RF.CAL_IDLE_WAIT ≤ s.now) then
    (s.setCalCh ch (fun c => { c with pending := c.pending.map (fun p => { p with wait := false, forced := p.forced || p.wait }) })).stick
      RF.CAL_SLEW_FORCED
  else s

/-! ### The reference (R61, R62) -/

/-- The courses that are block-locked and deskewed, lowest first. -/
def State.refCourses (s : State) : List Nat := (List.range 12).filter (fun c => (s.link.courses.get c).up)

/-- The measurement windows under way are to be discarded. -/
def State.discardWindows (s : State) : State :=
  forAll (List.range 16) (fun g t => t.setCalGr g (fun x => { x with
    run := x.run.map (fun r => if r.window then r else { r with discard := true }) })) s

/-- A reference is held again: the reference course has changed where it is not the last one (R62). -/
def State.takeRef (s : State) (c : Nat) : State :=
  when (s.cal.lastRef != c && s.cal.lastRef != 15) (fun t => t.stick RF.CAL_REF_SWITCHED)
    { s with cal := { s.cal with refCourse := c, refState := .locked, holdLeft := 0, lastRef := c } }

/-- A course has come up or has lost lock: the reference follows (R61, R62). With no course left, holdover of 64 drone
ticks begins; with a first one, every group in NOREF starts a run (R350). -/
def State.followRef (s : State) : State :=
  match s.refCourses.head?, s.cal.refState with
  | some c, .locked =>
    if c = s.cal.refCourse then s
    else (({ s with cal := { s.cal with refCourse := c, lastRef := c } } : State).discardWindows).stick RF.CAL_REF_SWITCHED
  | some c, .holdover => s.takeRef c
  | some c, .absent => let t := s.takeRef c; (forAll t.groupsOn (fun g t => t.dueRun g) t).syncAge
  | none, .locked =>
    (({ s with cal := { s.cal with refCourse := 15, refState := .holdover, holdLeft := 64 } } : State).discardWindows).stick
      RF.CAL_REF_LOST
  | none, _ => s

/-- One tick of holdover passes. -/
def State.holdTick (s : State) : State := { s with cal := { s.cal with holdLeft := s.cal.holdLeft - 1 } }

/-- Holdover ends without a locked course (R62): every timer that depends on the reference enters NOREF. -/
def State.endHoldover (s : State) : State :=
  if s.cal.refState = .holdover ∧ s.cal.holdLeft = 0 then
    let t : State := { s with cal := { s.cal with refState := .absent, ageSt := .noref, ageMeas := false } }
    let t := forAll (List.range 16) (fun g t => t.enterNoref g) t
    forAll (List.range 64) (fun ch t => t.refreshAsks ch) t
  else s

/-! ### Spare TSVs (R27, R346) -/

/-- The lowest-numbered unused spare DQ TSV, past those that fail the criteria of R346 themselves. -/
def RepairMap.spare (m : RepairMap) (bad : List Nat) : Option Nat :=
  (List.range 4).find? (fun i => m.dqSpare.getD i 0xff == 0xff && !bad.contains i)

/-! ### The criteria of R346 -/

/-- A passing window falls short of its criterion; a TSV of which the result names no window is judged by its own list. -/
def short (l : List Nat) (i least : Nat) : Bool := match l[i]? with | some n => decide (n < least) | none => false

/-- A DQ or spare DQ TSV has failed: its window for writes or for reads is shorter than 9 steps. -/
def dqFails (r : TrainResult) (j : Nat) : Bool := short r.writeWin j 9 || short r.readWin j 9

/-- The DQ TSVs that have failed. -/
def dqBad (r : TrainResult) : List Nat :=
  (r.failedDq ++ (List.range 36).filter (dqFails r)).eraseDups

/-- The spare DQ TSVs that have failed: a spare must pass the same criteria as the TSV it replaces. -/
def spareBad (r : TrainResult) : List Nat := (List.range 4).filter (fun i => dqFails r (36 + i))

/-- The command TSVs that have failed: a window shorter than 32 steps. -/
def cmdBad (r : TrainResult) : List Nat :=
  (r.failedCmd ++ (List.range 18).filter (fun i => short r.cmdWin i 32)).eraseDups

/-- The read preamble has been found within RL − 16 to RL + 24 frets of the launch; RD_GATE counts from RL − 16. -/
def gateOk (r : TrainResult) : Bool := decide (r.trims.rdGate ≤ 40)

/-- A new steering: SPARE_TAKEN, its event, and the entry in the repair map. The event numbers a command TSV 36 + its
code of R421 and its spare 4 (log 21). -/
def State.steered (s : State) (ch tsv spare : Nat) (f : RepairMap → RepairMap) : State :=
  ((s.stick RF.CAL_SPARE_TAKEN).eventP (decide (32 ≤ ch)) 0x07 0x0a01 1
    (payload [(0, 1, ch % 32), (1, 1, tsv), (2, 1, spare)])).changeMap ch f

/-- Steer failed DQ TSVs, each to the lowest-numbered unused spare that is good; false when the spares run out. -/
def State.steerDq (s : State) (ch : Nat) (bad : List Nat) : List Nat → Bool × State
  | [] => (true, s)
  | d :: l =>
    match (s.rmap ch).spare bad with
    | none => (false, s)
    | some i => (s.steered ch d i (fun m => { m with dqSpare := m.dqSpare.set i d })).steerDq ch bad l

/-- Steer failed command TSVs to the one spare; false for a second one. -/
def State.steerCmd (s : State) (ch : Nat) : List Nat → Bool × State
  | [] => (true, s)
  | d :: l =>
    if (s.rmap ch).cmdSpare = 0xff then
      (s.steered ch (36 + d) 4 (fun m => { m with cmdSpare := d })).steerCmd ch l
    else (false, s)

/-- The verdict on a full training (R346): 0 passed; else the reason of the channel's fence, TSV where the spares run
out or a strobe fails for every SID, `other` where the verification fails. A strobe that fails for one SID fences that
SID alone. -/
def State.judgeTraining (s : State) (ch other : Nat) (r : TrainResult) : Nat × State :=
  match s.steerDq ch (spareBad r) (dqBad r) with
  | (okDq, t) =>
    match t.steerCmd ch (cmdBad r) with
    | (okCmd, u) =>
      if !okDq || !okCmd || r.resetFailed || r.strobeAll || decide (4 ≤ r.strobeSids.eraseDups.length) then (rsnTsv, u)
      else if !r.verifyPassed || !gateOk r then (other, u)
      else
        (0, forAll (r.strobeSids.eraseDups.filter (fun sid => !u.marked .sid (4 * ch + sid))) (fun sid t =>
          t.fenceUnit .sid (4 * ch + sid) rsnTsv none) u)

/-! ### Retraining (R348) -/

/-- A retraining of a channel starts, or joins the one that runs (R348). `bits` are the DQ bits for which it runs
step 5 (R423). A retraining that starts discards a run's read results for the channel (R351). -/
def State.retrain (s : State) (ch : Nat) (full : Bool) (bits : List Nat) : State :=
  let c := s.calCh ch
  match c.retraining with
  | true => s.setCalCh ch (fun c => { c with
      fullRun := c.fullRun || full, step5 := (c.step5 ++ bits).eraseDups })
  | false =>
    let t := s.setCalCh ch (fun c => { c with
      retraining := true, fullRun := full, inFull := full, step5 := bits, transfers := 0, verified := 0 })
    let t := t.setCalGr (calGroupOf ch) (fun x => { x with
      run := x.run.map (fun r => { r with dropped := r.dropped ++ [ch] }) })
    (((t.count 0x7120).refreshAsks ch).setChan ch (fun c => { c with missed := [] })).agentAsks ch .cal

/-- The trims that a retraining found come into force: the write and read trims of steps 3 and 4, and with steps 2 to 6
also those of the command bus. Corrections of them that were pending are superseded. -/
def CalChan.retrained (c : CalChan) (r : Trims) (full : Bool) (temp : Nat) : CalChan :=
  let t : Trims := { c.trims with
    wdeskew := r.wdeskew, rdeskew := r.rdeskew, rstrobe := r.rstrobe, wstrobe := r.wstrobe, rdGate := r.rdGate,
    csPhase := if full then r.csPhase else c.trims.csPhase, cdeskew := if full then r.cdeskew else c.trims.cdeskew }
  { c with
    trims := t, trained := t, trainTemp := temp, pending := c.pending.filter (fun p => decide (p.trim < 42)),
    retraining := false, fullRun := false, inFull := false, step5 := [] }

/-- The event of a retraining's result: 0 passed, 1 a full run follows, 2 failed (R418). -/
def State.retrainEvent (s : State) (ch result : Nat) : State :=
  s.eventP (decide (32 ≤ ch)) 0x07 0x0a02 0 (payload [(0, 1, ch % 32), (1, 1, result)])

/-- The units whose return to service waits for a channel's retraining. -/
def State.unfencingOf (s : State) (ch : Nat) : List (FUnit × Nat) :=
  s.flt.unfencing.filter (fun u => (unitChannels u.1 u.2).contains ch)

/-- They wait no longer. -/
def State.unfencingDone (s : State) (ch : Nat) : State :=
  { s with flt := { s.flt with unfencing := s.flt.unfencing.filter (fun u => !(unitChannels u.1 u.2).contains ch) } }

/-- A retraining has failed for good: RETRAIN_FAIL and the channel's fence (R346, R348), which an unfence that waited
for it leaves standing with this reason (R402). -/
def State.retrainFailed (s : State) (ch reason : Nat) : State :=
  let waiting := s.unfencingOf ch
  let t := s.setCalCh ch (fun c => { c with retraining := false, fullRun := false, inFull := false, step5 := [] })
  let t := (t.stick RF.CAL_RETRAIN_FAIL).retrainEvent ch 2
  let t := if waiting.contains (.channel, ch) then t.dropMark .channel ch else t
  let t := t.unfencingDone ch
  (t.fenceUnit .channel ch reason (some (0x07, 0x0a02))).quarReady ch

/-- A retraining has passed: the trims found are in force, the queues go on, quarantined tags may leave (R69, R171), and
the units that waited for it return to service (R402). -/
def State.retrainPassed (s : State) (ch : Nat) (r : TrainResult) : State :=
  let temp := (s.chan ch).temp
  let t := (s.testsOff ch).setCalCh ch (fun c => c.retrained r.trims c.inFull temp)
  let t := ((t.retrainEvent ch 0).calCounts ch).quarReady ch
  let t := t.rewriteSet ch temp (t.trimsOfCh ch)
  let back := t.unfencingOf ch
  let t := forAll back (fun u t => t.serviceBack u.1 u.2) (t.unfencingDone ch)
  forAll [Agent.rtq, .rdq, .wrd] (fun a t => t.agentAsks ch a) t

/-- What narrowed sweeps can find: write and read values within 16 steps of those in force (R348). -/
def narrowed (now r : Trims) : Bool :=
  ((now.wdeskew.zip r.wdeskew) ++ (now.rdeskew.zip r.rdeskew) ++ (now.rstrobe.zip r.rstrobe) ++ (now.wstrobe.zip r.wstrobe)).all
    (fun p => decide (apart p.1 p.2 ≤ 16))

/-- A retraining ends (R348, R423), its steps having run as far as its plan had left them (log 119). After steps 3, 4 and 6, a
failure or a request for FULL leads to steps 2 to 6; the bits for which step 5 ran and that fail are steered. After steps 2 to 6,
R346 judges. -/
def State.endRetrain (s : State) (ch : Nat) (r : TrainResult) : State :=
  let c := s.calCh ch
  match c.retraining, c.inFull with
  | false, _ => s
  | true, true =>
    match s.judgeTraining ch rsnRetrain r with
    | (0, t) => t.retrainPassed ch r
    | (n + 1, t) => t.retrainFailed ch (n + 1)
  | true, false =>
    let own := (dqBad r).filter (fun d => c.step5.contains d)
    match s.steerDq ch (spareBad r) own with
    | (okDq, t) =>
      let bad := !okDq || (dqBad r).any (fun d => !c.step5.contains d) || !(cmdBad r).isEmpty || r.resetFailed || r.strobeAll ||
        !r.strobeSids.isEmpty || !r.verifyPassed || !gateOk r || !narrowed c.trims r.trims
      if bad || c.fullRun then
        (if bad then t.retrainEvent ch 1 else t).setCalCh ch (fun c => { c with
          inFull := true, step5 := [], transfers := 0, verified := 0 })
      else t.retrainPassed ch r

/-- A group's run is lost with its domain: it is FRESH no longer, and a run that was due is not (R350, R359). -/
def State.loseRun (s : State) (g : Nat) : State :=
  (s.setCalGr g (fun x => { x with
    run := none, dueSince := none, late := false, st := if x.run.isSome ∧ x.st = .fresh then .stale else x.st })).syncAge

/-- Self-refresh ends on a group: it is FRESH only with a reference and at a temperature within CAL_DELTA of LAST_TEMP;
otherwise STALE, or NOREF without a reference, and a run starts at once, that is with the end of SR_EXIT, when the group's timers
and core dies can carry it (R359). -/
def State.calWake (s : State) (g : Nat) : State :=
  if (s.calGr g).st = .noref ∨ s.cal.refState = .absent then (s.enterNoref g).dueRun g
  else if s.refLocked && decide (apart (s.groupTemp g) (s.calGr g).lastTemp ≤ 4 * s.rf RF.CAL_CAL_DELTA) then
    s.setCalGr g (fun x => { x with st := .fresh })
  else (s.setCalGr g (fun x => { x with st := .stale })).dueRun g

end Sys2Proof.Machine
end

