-- ==== Sys2Proof/Machine/PwrOps.lean ====
section
/-! DEFINITION. Entries to lower power states: conditions, answers, and what a domain keeps and loses (16_power_domains,
R287). The wakes are in WakeOps. -/

namespace Sys2Proof.Machine

/-! ### Pages and groups -/

/-- The domain of the page at a byte offset of the window (R363, R463). -/
def pageDomain (off : Nat) : Nat :=
  if off < 0x2000 then 0 else if off < 0x4000 then 5 else if off < 0x7000 then 0
  else if off < 0x8000 then 7 else if off < 0x9000 then 6 else if off < 0xa000 then 7
  else if 0x10000 ≤ off ∧ off < 0x1d000 then 1
  else if 0x20000 ≤ off ∧ off < 0x41000 then 2
  else if 0x80000 ≤ off ∧ off < 0xa0000 then 8 + (off - 0x80000) / 0x2000
  else 0

/-- One channel group's power state. -/
def State.cg (s : State) (g : Nat) : CgPower := s.pwr.cgs.get g

/-- Change one channel group's power state. -/
def State.setCg (s : State) (g : Nat) (f : CgPower → CgPower) : State :=
  { s with pwr := { s.pwr with cgs := s.pwr.cgs.upd g f } }

/-- The channels of a group that this instance runs: its own two, and in double-stop mode the partner's two. -/
def State.runsOf (s : State) (g : Nat) : List Nat := if s.pair.doubleStop then groupChannels g else ownChannels g

/-- What a domain that goes off does not keep: the sticky bits and counters of its pages (R364). -/
def State.clearPages (s : State) (d : Nat) : State :=
  { s with regs := { s.regs with
      sticky := ⟨s.regs.sticky.dflt, s.regs.sticky.ents.filter (fun e => pageDomain e.1 != d)⟩,
      counters := ⟨s.regs.counters.dflt, s.regs.counters.ents.filter (fun e => pageDomain e.1 != d)⟩
      snapAcc := ⟨s.regs.snapAcc.dflt, s.regs.snapAcc.ents.filter (fun e => pageDomain e.1 != d)⟩ } }

/-! ### Self-refresh (R287, R289, R373) -/

/-- SR_ENTER is to run on a channel (R287). -/
def State.srEnter (s : State) (ch : Nat) : State := s.runPower ch 44

/-- SR_EXIT is to run on a channel, and the exit sweep behind it (R289). `lost` tells that the group's domain was off or failed
its parity: every bank is hot for one hot period, and the pointers become 0 unless the partner's mirror holds them, in which
case they stand as they were (R373). Banks with an armed sentinel wait for SENT_CHECK (R292). Core dies that have been started
anew meanwhile are awake, and only the sweep runs. -/
def State.srExit (s : State) (ch : Nat) (lost : Bool) : State :=
  let mirrored := s.boot.pairFlag && s.pair.role == .paired
  let t := s.setChan ch (fun c => { c with
    lostRef := lost && !mirrored
    banks := (List.range 64).foldl (fun tb b => tb.upd b (fun x => { x with
      hotUntil := if lost then some (s.now + 64250) else x.hotUntil,
      mustCheck := (s.pwr.sentinels.get (64 * ch + b)).isSome })) c.banks
    sentGot := [] })
  let t := when (lost && (List.range 64).any (fun b => !s.hot ch b)) (fun t => t.stick RF.MUT_HOT_ENTER) t
  if (t.chan ch).rest = .asleep ∨ (t.chan ch).power ≠ [] then t.runPower ch 45 else t.startSweep ch (lost && !mirrored)

/-- A group leaves SELF_REFRESH (R289, R359), as from off or a cold start where its domain's wake was one (R373). -/
def State.cgExit (s : State) (g : Nat) : State :=
  let lost := (s.dom (8 + g)).from0
  let t := (s.setDom (8 + g) (fun x => { x with from0 := false })).setCg g (fun x => { x with
    st := .active, idle := 0, refused := none })
  (forAll (s.runsOf g) (fun ch t => t.srExit ch lost) t).calWake g

/-! ### Entry conditions (R368, R369) -/

/-- The domain is fenced or failed. -/
def State.domFenced (s : State) (d : Nat) : Bool :=
  (s.dom d).st == .failed ||
    (if d = 3 ∨ d = 4 then s.marked .lpHalf (d - 3) else decide (8 ≤ d) && s.marked .group (d - 8))

/-- Any of some domains is on. -/
def State.anyOn (s : State) (l : List Nat) : Bool := l.any s.domOn

/-- The domains whose leaving triggers AUTO_SUPPORT for domain `d` (R363). -/
def dependents (d : Nat) : List Nat :=
  match d with
  | 2 => [1]
  | 3 => (List.range 8).map (· + 8)
  | 4 => (List.range 8).map (· + 16)
  | 5 => [1, 2, 3, 4] ++ (List.range 16).map (· + 8)
  | 6 => [1, 2, 3, 4] ++ (List.range 16).map (· + 8)
  | 7 => [1, 2, 3, 4] ++ (List.range 16).map (· + 8)
  | _ => []

/-- A request is held at the router, or a tag is outstanding or quarantined. -/
def State.requestsLeft (s : State) : Bool :=
  !s.trx.reqs.isEmpty || !s.trx.respond.isEmpty || !s.trx.quar.isEmpty || !s.trx.mgtOut.isEmpty

/-- A replay buffer holds a flit, or a credit return is pending. -/
def State.linkBusy (s : State) : Bool :=
  (List.range 12).any (fun c => !(s.link.courses.get c).buffer.isEmpty) || decide (0 < s.link.req.pending) ||
    decide (0 < s.link.wd.pending) || decide (0 < s.link.mgt.pending)

/-- An update, an SPDM exchange, an event persistence, a repair or a built-in test is in progress. -/
def State.serviceBusy (s : State) : Bool :=
  s.upd.busy || s.upd.stage0.st == 1 || s.upd.stage0.st == 3 || s.upd.activate.isSome ||
    s.sec.link.encap != 0 || s.sec.link.held.isSome || s.sec.smp.encap != 0 || s.sec.smp.held.isSome ||
    !s.evt.queue.isEmpty || s.rpr.op.isSome || s.rpr.bist.isSome

/-- Records of severity 2 or more await persistence. -/
def State.eventsLeft (s : State) : Bool :=
  s.evt.queue.any (fun r => decide (2 ≤ r.sev)) ||
    (match s.newest with
    | some r => !r.queued && decide (2 ≤ r.sev) && decide (s.rf RF.EVT_PERSIST_MIN ≤ r.sev)
    | none => false)

/-- A key slot of the key store is occupied. -/
def State.keysHeld (s : State) : Bool :=
  s.sec.own.ents.any (fun e => e.2.st != .empty) || s.sec.partner.ents.any (fun e => e.2.st != .empty)

/-- The reason codes that stand against an entry of domain 1 to 7 to a state, in the order of R368, but D6 refuses with PAIRED before
anything else (R369); in the agreed joint sleep its channel groups may rest in SELF_REFRESH, their domains on (R396). -/
def State.unmetDom (s : State) (d : Nat) (target : DomState) : List Nat :=
  (if (s.dom d).wakeFrom.isSome then [1] else []) ++
  (if (d = 1 ∨ d = 2) ∧ s.requestsLeft then [6] else []) ++
  (if d = 1 ∧ s.linkBusy then [7] else []) ++
  (if d = 6 ∧ s.pair.role = .paired ∧ !s.pair.joint then [10] else []) ++
  (if s.anyOn (dependents d) ∧ !(d = 6 ∧ s.pair.joint) then [8] else []) ++
  (if (d = 3 ∨ d = 4) ∧ target = .off ∧ s.keysHeld then [9] else []) ++
  (if d = 7 ∧ s.serviceBusy then [11] else []) ++
  (if d = 5 ∧ s.eventsLeft then [12] else []) ++
  (if s.domFenced d then [13] else []) ++
  (if d = 0 ∨ ((d = 3 ∨ d = 4) ∧ target = .off) then [14] else [])

/-- A request waits at the router, or in the ingress, for a channel of a group (R68, R370, R372). -/
def State.groupQueued (s : State) (g : Nat) : Bool :=
  s.trx.reqs.any (fun r => (match r.stage with | .queued _ => true | _ => false) && (s.channelsOf r).any (fun ch => groupOf ch == g))

/-- The reason codes that stand against an entry of a channel group to a state (R287, R368). An access that passed first is a
request at the router or in a channel engine, a stalled register read, or a wake under way (R68, R370). -/
def State.unmetCg (s : State) (g : Nat) (target : CgState) : List Nat :=
  let chs := s.runsOf g
  let deep := target == .selfRefresh || target == .deep
  (if (s.dom (8 + g)).wakeFrom.isSome ∨ s.groupQueued g ∨ s.regs.stalled.any (fun r => r.wakes == some (8 + g)) ∨ chs.any (fun ch =>
      !(s.chan ch).reads.isEmpty || !(s.chan ch).captured.isEmpty || !(s.chan ch).hazard.isEmpty) then [1] else []) ++
  (if deep && chs.any (fun ch => !(s.chan ch).writes.isEmpty) then [2] else []) ++
  (if deep && chs.any (fun ch => !(s.chan ch).backlog.isEmpty) then [3] else []) ++
  (if deep && chs.any (fun ch => (s.chan ch).banks.ents.any (fun e => decide (0 < e.2.owed))) then [4] else []) ++
  (if target == .deep && chs.any (fun ch => s.rfch RF.REF_SENT_EN ch == 1 &&
      (List.range 64).any (fun b => (s.pwr.sentinels.get (64 * ch + b)).isNone)) then [5] else []) ++
  (if s.domFenced (8 + g) then [13] else [])

/-- A reason that is answered with DELAY first. -/
def delays (code : Nat) : Bool := (2 ≤ code && code ≤ 5) || code == 7 || code == 11 || code == 12

/-! ### What a domain loses (R364) -/

/-- The link layer stops: every lane hunts, LN_TXV is low, and LN_PD is high but on lane 0 of the watched courses (R371,
R374). In retention a course keeps its sequence, counts and lane map. -/
def State.linkDown (s : State) (off : Bool) : State :=
  let low := fun (l : Lane) => { (if off then Lane.init else l) with
    st := .hunt, rxv := false, count := 0, window := [], missed := 0, txv := false, pd := true }
  let lanes := s.link.lanes.mapAll low
  let lanes := (List.range 12).foldl (fun tb c =>
    if (s.rf RF.PWR_LINK_WAKE).testBit c then tb.upd (17 * c) (fun l => { l with pd := false }) else tb) lanes
  let courses := s.link.courses.mapAll (fun (c : Course) =>
    if off then (if c.tx = .fenced then
      { Course.init with tx := .fenced, fenceWhy := c.fenceWhy, held := c.held, waitPeer := c.waitPeer } else Course.init)
    else { c with
      up := false, asm := none, parts := [], failAt := none, tx := if c.tx = .fenced ∨ c.tx = .down then
        c.tx else .retrain, retrainAt := none, limitAt := none })
  ({ s with
    link := { s.link with lanes := lanes, courses := courses, upQ := if off then [] else s.link.upQ },
    pins := { s.pins with txLock := .const false } } : State).followRef

/-- The highest owed count of a channel's banks. -/
def Chan.owedMax (c : Chan) : Int := (List.range 64).foldl (fun m b => max m (c.banks.get b).owed) (c.banks.get 0).owed

/-- A channel engine loses its state. Until the wake the refresh pointers stand as the partner's mirror recovers them: base plus
credits less the highest owed count, so that no bank is further on than the one that owes most (R373, R382). What other domains
keep of the channel stays: the core dies, its temperature and band, and suspect banks; and what the partner's mirror holds of it
stays where `mirrored` says so: its backlog (R376, R381). -/
def Chan.lose (c : Chan) (mirrored : Bool) : Chan :=
  { Chan.init with
    rest := c.rest, lostRef := c.lostRef, clock := c.clock, g2 := c.g2, g2Took := c.g2Took,
    sids := c.sids, temp := c.temp, band := c.band, bandNew := c.bandNew, tOld := c.tOld, tPrev := c.tPrev, tSince := c.tSince,
    threshDue := c.threshDue,
    backlog := if mirrored then c.backlog else []
    banks := c.banks.mapAll (fun b => { Bank.init with
      ptr := (((b.ptr : Int) + b.owed - c.owedMax) % 4096).toNat, suspect := b.suspect }) }

/-- What domain `d` loses when it goes off, or by a failed parity, in which case `cold` tells that the partner's mirror gives back
what it holds of it (R364, R376). D6 loses its mirror store and the port's numbers, but what a takeover took from the store belongs
to the units that run the partner's channels; D7 loses its code and data, the temperature sets among them. FLT_PIN.DRIVE and
the views are in the configuration store and come back (R365). -/
def State.loseDom (s : State) (d : Nat) (cold : Bool) : State :=
  let t := s.clearPages d
  match d with
  | 2 => { t with regul := { t.regul with ctx := t.regul.ctx.mapAll (fun c => { c with
      winLines := 0, shortWin := 0, latMiss := 0, deficit := 0 }) } }
  | 5 => { t with
      evt := { t.evt with ring := .const none, head := 0, queue := [] }
      flt := { t.flt with asserts := 0, lastSev := 0, lastSource := 0, lastCode := 0 } }
  | 6 => { t with pair := { t.pair with
      chans := if s.pair.step = .idle then PairSt.init.chans else s.pair.chans
      config := if s.pair.step = .idle then PairSt.init.config else s.pair.config
      epoch := if s.pair.step = .idle then 0 else s.pair.epoch
      mirrored := 0, txSeq := 0, rxSeq := 0, sent := [], waiting := [], early := [], acked := none, beat := [] } }
  | 7 => ({ t with
      sec := { t.sec with link := Spdm.init, smp := Spdm.init }
      cal := { t.cal with sets := CalSt.init.sets, groups := t.cal.groups.mapAll (fun x => { x with run := none }) } } : State).syncAge
  | _ =>
    if 8 ≤ d then (forAll (s.runsOf (d - 8)) (fun ch t => t.setChan ch (fun c => c.lose (cold &&
      s.pair.role == .paired))) t).loseRun (d - 8)
    else t

/-- A domain enters retention or off: PSW_EN falls, the agents that it masks stop, and in off its state is lost (R246,
R364, R370). -/
def State.leaveOn (s : State) (d : Nat) (target : DomState) : State :=
  let t := s.setDom d (fun _ => .resting target false)
  let t : State := { t with pins := { t.pins with pswEn := t.pins.pswEn.set d false } }
  let t := if d = 1 then t.linkDown (target == .off) else t
  let t := when (target == .off) (fun t => t.loseDom d false) t
  forAll (List.range 64) (fun ch t => t.maskEnd ch) t

/-! ### Answers (R367) -/

/-- A domain from 1 to 7 answers an entry request for retention or off: ACCEPT, DELAY, or REFUSE. -/
def State.answerDom (s : State) (d : Nat) (target : DomState) : State :=
  let lower := (s.dom d).st == .on || ((s.dom d).st == .retention && target == .off) || (s.dom d).st == .failed || d == 0
  let codes := s.unmetDom d target
  match lower, codes.find? (fun c => !delays c), codes with
  | false, _, _ => s
  | true, some c, _ => (s.setDom d (fun x => { x with refused := true })).refuseEntry d c
  | true, none, [] => (s.leaveOn d target).count 0x1100
  | true, none, _ => s.setDom d (fun x => { x with delay := some (target, s.now + s.rf RF.PWR_DELAY_LIMIT) })

/-- The trigger of AUTO_SUPPORT for a domain: every domain that the table of R363 names is not on. -/
def State.supportTrigger (s : State) (d : Nat) : Bool := !s.anyOn (dependents d)

/-- A domain whose trigger is not met may be asked again when it is met afresh (R367). -/
def State.freshTriggers (s : State) : State :=
  forAll [2, 3, 4, 5, 6, 7] (fun d t =>
    if t.supportTrigger d then t else t.setDom d (fun x => { x with refused := false })) s

/-- AUTO_SUPPORT asks the supporting domains that nothing needs any more for retention (R363; the state asked for is a
DESIGN CHOICE, log 22). -/
def State.autoSupport (s : State) : State :=
  forAll [2, 3, 4, 5, 6, 7] (fun d t =>
    if t.rfb RF.PWR_AUTO_SUPPORT && t.supportTrigger d && t.domOn d && !(t.dom d).refused && (t.dom d).delay.isNone &&
        (t.dom d).wakeFrom.isNone then t.answerDom d .retention else t) s.freshTriggers

/-- A domain's entry request, with what follows from an entry. -/
def State.requestDom (s : State) (d : Nat) (target : DomState) : State := (s.answerDom d target).autoSupport

/-- A group that has accepted DEEP: its domain leaves once the core dies of its channels are in self-refresh (R287, R364). -/
def State.deepDone (s : State) (g : Nat) : State :=
  if (s.cg g).st = .deep ∧ s.domOn (8 + g) ∧
      (s.runsOf g).all (fun ch => (s.chan ch).rest == .asleep && (s.chan ch).power.isEmpty) then
    (s.leaveOn (8 + g) (s.cg g).deepTo).autoSupport
  else s

/-- A channel group accepts an entry to a power state: its channels run the entry's rows, and DEEP leads its domain down behind
them (R269, R287, R367). -/
def State.acceptCg (s : State) (g : Nat) (target : CgState) : State :=
  let chs := s.runsOf g
  let was := (s.cg g).st
  let t := (s.setCg g (fun x => { x with st := target, delay := none, refused := none })).count 0x1100
  match target with
  | .active => t
  | .powerDown => forAll chs (fun ch t => t.runPower ch 46) t
  | .selfRefresh => forAll chs (fun ch t => t.srEnter ch) t
  | .deep => (if was = .selfRefresh then t else forAll chs (fun ch t => t.srEnter ch) t).deepDone g

/-- A group's exit from self-refresh waits until the pair, asleep together, has woken and takeover can arm again (R396). -/
def State.exitWaits (s : State) : Bool := s.pair.role == .paired && (s.pair.joint || decide (s.pair.beats < 2))

/-- The engines work towards a group's entry conditions: WRD on a drain demand, MUTE, REF by pull-in, and SCRB for the
sentinels, for which a group in self-refresh leaves it (R230, R287, R291). -/
def State.workTowards (s : State) (g : Nat) (target : CgState) : State :=
  if (s.cg g).st = .selfRefresh ∧ s.exitWaits then s.wake 6
  else
  let t := if (s.cg g).st = .selfRefresh then s.cgExit g else s
  let t := t.setCg g (fun x => { x with delay := some (target, s.now + s.rf RF.PWR_DELAY_LIMIT) })
  forAll (s.runsOf g) (fun ch t =>
    let t := t.setChan ch (fun c => { c with drain := c.drain || !c.writes.isEmpty })
    forAll [Agent.wrd, .rtq, .mute, .ref, .scrb] (fun a t => t.agentAsks ch a) t) t

/-- A channel group answers an entry request (R367, R368). A group that is already as low stays as it is, but one in DEEP
whose domain keeps its state may go off; a failed one refuses with FENCED. -/
def State.requestCg (s : State) (g : Nat) (target : CgState) : State :=
  let rank := fun (x : CgState) => match x with | .active => 0 | .powerDown => 1 | .selfRefresh => 2 | .deep => 3
  let codes := s.unmetCg g target
  if (s.dom (8 + g)).st = .failed then (s.setCg g (fun x => { x with refused := some target })).refuseEntry (8 + g) 13
  else if rank target ≤ rank (s.cg g).st then
    if target = .deep ∧ (s.cg g).deepTo = .off ∧ (s.dom (8 + g)).st = .retention ∧ (s.dom (8 + g)).wakeFrom.isNone then
      ((s.leaveOn (8 + g) .off).count 0x1100).autoSupport
    else s
  else
    match codes.find? (fun c => !delays c), codes with
    | some c, _ => (s.setCg g (fun x => { x with refused := some target })).refuseEntry (8 + g) c
    | none, [] => s.acceptCg g target
    | none, _ => s.workTowards g target

/-- A group's DELAY ends with REFUSE: sentinels armed so far lapse (R291, R367). -/
def State.endDelay (s : State) (g reason : Nat) : State :=
  let t := s.setCg g (fun x => { x with refused := x.delay.map (fun p => p.1), delay := none })
  let t : State := { t with pwr := { t.pwr with sentinels :=
    ⟨t.pwr.sentinels.dflt, t.pwr.sentinels.ents.filter (fun e => !(s.runsOf g).contains (e.1 / 64))⟩ } }
  t.refuseEntry (8 + g) reason

/-- An access to a domain that is on, or to a channel group, ends its DELAY with REFUSE, reason ACCESS (R367, R368). -/
def State.accessDom (s : State) (d : Nat) : State :=
  if 8 ≤ d ∧ (s.cg (d - 8)).delay.isSome then s.endDelay (d - 8) 1
  else if s.domOn d ∧ (s.dom d).delay.isSome then s.wakeOne d
  else s

/-- DEEP_STATE in force. -/
def State.deepState (s : State) : DomState := if s.rf RF.PWR_DEEP_STATE = 1 then .off else .retention

/-- The idle threshold of a step (R366). -/
def State.idleLimit (s : State) (k : IdleStep) : Nat :=
  match k with
  | .pd => s.rf RF.PWR_IDLE_PD
  | .sr => s.rf RF.PWR_IDLE_SR
  | .deep => s.rf RF.PWR_IDLE_DEEP

/-- The state that an idle threshold leads to. -/
def idleState (k : IdleStep) : CgState :=
  match k with
  | .pd => .powerDown
  | .sr => .selfRefresh
  | .deep => .deep

/-- A group has host work: a request queued, a write held, or an RDQ, WRD or RTQ request (R366). -/
def State.groupBusy (s : State) (g : Nat) : Bool :=
  (s.runsOf g).any (fun ch =>
    let c := s.chan ch
    !c.reads.isEmpty || !c.writes.isEmpty || [Agent.rdq, .wrd, .rtq].any (fun a => (c.agent a).asks))

/-- One drone tick of a group's idle count. -/
def State.idleTick (s : State) (g : Nat) : State :=
  s.setCg g (fun x => if s.groupBusy g then { x with idle := 0, refused := none } else { x with idle := x.idle + 1 })

/-- A request for a group's channels reaches the router: the idle count restarts, a DELAY ends with ACCESS, a pull-in behind
POWER_DOWN gives way, and a group in POWER_DOWN or SELF_REFRESH returns to ACTIVE (R366, R367, R372), behind D6 where the pair
slept together (R396). A partner channel left in self-refresh by a takeover leaves it at its first access (R389). -/
def State.touchGroup (s : State) (g : Nat) : State :=
  let t := if (s.cg g).delay.isSome then s.endDelay g 1 else s
  let t := t.setCg g (fun x => { x with idle := 0, refused := none })
  let t := forAll (s.runsOf g) (fun ch t => t.setChan ch (fun c => { c with pulling := false })) t
  match (s.cg g).st with
  | .powerDown => t.pdExit (2 * g)
  | .selfRefresh => if s.exitWaits then t.wake 6 else t.cgExit g
  | .active => forAll ((s.runsOf g).filter (fun ch => decide (32 ≤ ch) && (s.chan ch).rest == .asleep)) (fun ch t =>
      t.srExit ch false) t
  | .deep => t

end Sys2Proof.Machine
end

