-- ==== Sys2Proof/Machine/RouterOps.lean ====
section
/-! DEFINITION. The router: the judgement of a memory request (R473), regulation contexts and slots (09_regulation),
admission and dispatch, and a line's way through its channel's queues (R220 to R227). -/

namespace Sys2Proof.Machine

/-! ### Contexts, slots and urgency (R206 to R217) -/

/-- A context. -/
def State.ctx (s : State) (k : Nat) : Ctx := s.regul.ctx.get k

/-- CLASS is REALTIME. -/
def State.realtime (s : State) (k : Nat) : Bool := s.rfn RF.CTX_CLASS k 0 == 1

/-- OUT_LIMIT in force. -/
def State.outLimit (s : State) (k : Nat) : Nat := s.rfn RF.CTX_OUT_LIMIT k 0

/-- The sum of RESV in force. -/
def State.resvSum (s : State) : Nat := s.regul.ctx.ents.foldl (fun n e => n + e.2.resv) 0

/-- The free slots of the shared part: 6,144 minus the sum of all RESV, minus what contexts hold above their RESV
(R208). -/
def State.sharedFree (s : State) : Nat :=
  6144 - s.resvSum - s.regul.ctx.ents.foldl (fun n e => n + (e.2.out - e.2.resv)) 0

/-- The slots that the real-time contexts hold together (R216). -/
def State.rtOut (s : State) : Nat :=
  s.regul.ctx.ents.foldl (fun n e => n + if s.realtime e.1 then e.2.out else 0) 0

/-- The context can take a slot (R206, R208); the real-time contexts together hold at most RT_SLOTS (R216). -/
def State.canTake (s : State) (k : Nat) : Bool :=
  (!s.realtime k || decide (s.rtOut < s.rf RF.REG_RT_SLOTS)) &&
  decide ((s.ctx k).out < s.outLimit k) && (decide ((s.ctx k).out < (s.ctx k).resv) || decide (0 < s.sharedFree))

/-- The queue of a context, oldest first (R203). -/
def State.ctxQueue (s : State) (k : Nat) : List Req :=
  s.trx.reqs.filter (fun r => match r.stage with | .queued j => j == k | _ => false)

/-- The queued or outstanding transactions of a context. -/
def State.ctxReqs (s : State) (k : Nat) : List Req :=
  s.trx.reqs.filter (fun r => r.slot == some k || (match r.stage with | .queued j => j == k | _ => false))

/-- The thresholds T1 to T7 in force, in sixteenths of LAT_TARGET. -/
def State.urgSteps (s : State) : List Nat :=
  [s.rf RF.REG_T1, s.rf RF.REG_T2, s.rf RF.REG_T3, s.rf RF.REG_T4, s.rf RF.REG_T5, s.rf RF.REG_T6, s.rf RF.REG_T7]

/-- A context's URGENCY: the thresholds that the age of its oldest transaction has reached; one unit of age is 2.5 ns
(R217). -/
def State.urgency (s : State) (k : Nat) : Nat :=
  let target := s.rfn RF.CTX_LAT_TARGET k 0
  let age := (s.ctxReqs k).foldl (fun m r => max m (s.age r)) 0
  if target = 0 then 0 else (s.urgSteps.filter (fun t => decide (t * target ≤ age * 40))).length

/-- A context's quota of a window, in bytes (R215). -/
def State.quota (s : State) (k : Nat) : Nat := (s.ctx k).minEff * 125 * s.rf RF.REG_WINDOW

/-- The context is owed (R215). -/
def State.isOwed (s : State) (k : Nat) : Bool := decide (64 * (s.ctx k).winLines < s.quota k)

/-- WEIGHT in force. -/
def State.weight (s : State) (k : Nat) : Nat := s.rfn RF.CTX_WEIGHT k 0

/-- URG_MAX of the contexts whose URGENCY has reached 7. -/
def State.noteUrg (s : State) (k : Nat) : State :=
  when (decide (7 ≤ s.urgency k)) (fun t => t.stickBits RF.CTX_URG_MAX k 1) s

/-! ### The judgement of a memory request (R473, checks 3 to 10) -/

/-- What the router answers a memory request. -/
inductive Verdict where
  /-- no cause of failure applies -/
  | serve
  /-- an ERR that completes the whole request -/
  | err (code : ErrCode) (detail : Nat)
  /-- ERR FENCED for some of its lines -/
  | fenced (lines : List Nat) (detail : Nat)
  deriving DecidableEq, Repr

/-- DETAIL of ADDR, FORMAT and TAG_BUSY: the cell index and the opcode of the message (R166). -/
def cellDetail (k op : Nat) : Nat := k + 256 * op

/-- The lines of a request that are fenced. -/
def State.fencedLines (s : State) (r : Req) : List Nat :=
  r.left.filter (fun i => match s.loc (lineAddr r.hdr i) with | some l => s.lineFenced l | none => false)

/-- A line of the request is not served, or runs past the last line (R156, R192). -/
def State.addrBad (s : State) (r : Req) : Bool :=
  (List.range (linesOf r.hdr)).any (fun i => (s.loc (lineAddr r.hdr i)).isNone) ||
    decide (2 ^ 30 < hLaddr r.hdr % 2 ^ 30 + linesOf r.hdr)

/-- A memory request against checks 3 to 10 of R473. `k` is the cell index of the message. -/
def State.judge (s : State) (r : Req) (k : Nat) : Verdict :=
  let h := r.hdr
  let slot := s.slot (hPartner h) (hKey h)
  if !s.ready then .err .notReady 0
  else if hLaddr h / 2 ^ 31 != 0 || (hPartner h && !s.pair.serving) then .err .addr (cellDetail k (hOp h))
  else if s.rfn RF.RQM_DENY 0 (hRqid h) == 1 then .err .privilege 0
  else if r.clear && !s.rfb RF.SEC_CLEAR_OK then .err .clearLink 0
  else if s.addrBad r then .err .addr (cellDetail k (hOp h))
  else if s.flt.fatal then .err .fenced 0xffffffff
  else if !(s.fencedLines r).isEmpty then
    .fenced (s.fencedLines r) (((s.fencedLines r).head?.bind (fun i => s.loc (lineAddr h i))).map (fun l => l.ch) |>.getD 0)
  else if slot.st == .active && decide (s.reqLevel r < slot.cls) then .err .privilege 0
  else if slot.st != .active then .err .key 0
  else .serve

/-- ERR ADDR counts the request's lines in ADDR_ERR. -/
def State.noteAddr (s : State) (code : ErrCode) (r : Req) : State :=
  if code = .addr ∧ isMemory (hOp r.hdr) then s.countBy 0x40100 (linesOf r.hdr) else s

/-- The lines of a request that are not fenced by a verdict. -/
def Verdict.served (v : Verdict) (l : List Nat) : List Nat :=
  match v with
  | .fenced lines _ => l.filter (fun i => !lines.contains i)
  | _ => l

/-- A verdict is answered; `go` is what happens to a request that no cause stops. Of a request with some lines fenced the other
lines are served, and one ERR names the fenced ones after them (R473). -/
def State.answerVerdict (s : State) (r : Req) (v : Verdict) (go : State → State) : State :=
  match v with
  | .serve => go s
  | .err code detail => (s.noteAddr code r).fail r code detail
  | .fenced lines detail =>
    if (v.served r.left).isEmpty then s.fail r .fenced detail
    else go (s.setReq r.uid (fun x => { x with
      left := v.served x.left, down := x.down ++ lines, downCh := if x.down.isEmpty then detail else x.downCh }))

/-! ### A line in its channel's queues (R220 to R227) -/

/-- A read-modify-write of the line is in progress, or requests wait behind one (R227). -/
def Chan.lineHeld (c : Chan) (laddr : Nat) : Bool := c.hazard.any (fun h => h.1 == laddr)

/-- The newest buffered write of a line (R224). -/
def Chan.newestWrite (c : Chan) (laddr : Nat) : Option WrEnt :=
  (c.writes.filter (fun w => w.laddr == laddr && w.ready)).getLast?

/-- The WSEQ that the next write of a channel takes; the count moves on (R177). -/
def State.takeWseq (s : State) (ch : Nat) : State :=
  s.setChan ch (fun c => { c with wseqNext := (c.wseqNext + 1) % 65536 })

/-- A read enters the read queue, or is forwarded from the newest buffered write (R224, R316). -/
def State.enterRead (s : State) (r : Req) (idx : Nat) (l : Loc) (urg : Nat) : State :=
  let a := lineAddr r.hdr idx
  let rt := match r.slot with | some k => s.realtime k | none => false
  match (s.chan l.ch).newestWrite a with
  | none => s.setChan l.ch (fun c => { c with
      reads := c.reads ++ [⟨r.uid, idx, a, l.bank, l.row, l.col, rt, isRmw (hOp r.hdr), urg, 0, false⟩] })
  | some w =>
    let res := forwardLine w (hKey r.hdr) r.gen
    let t := (s.count (chnAt l.ch 0x110)).noteStatus res.1 l.ch l.bank l.row a (hKey r.hdr)
    if isRmw (hOp r.hdr) then
      t.setChan l.ch (fun c => { c with writes := c.writes.map (fun x =>
        if x.uid = r.uid ∧ !x.ready then { x with back := true, bad := decide (res.1 = stPoison), data := res.2 }
        else x) })
    else t.rdLine r idx res.1 l.ch false 0 res.2

/-- A write-share line of a request that has not entered the share yet (R227). -/
def heldWrite (r : Req) (l : Loc) (rt : Bool) : WrEnt :=
  ⟨r.uid, hLaddr r.hdr, l.bank, l.row, l.col, cellsLine r.data, hKey r.hdr, r.gen, [], rt, false, false, false, false, false, r.uid⟩

/-- The request's held write-share line enters the share: it takes a WSEQ and is acknowledged (R165, R227). -/
def State.enterHeld (s : State) (r : Req) (ch : Nat) : State :=
  let q := (s.chan ch).wseqNext
  let t := (s.setChan ch (fun c => { c with writes := c.writes.map (fun w =>
    if w.uid = r.uid ∧ !w.ready then { w with ready := true, wseqs := [q] } else w) })).takeWseq ch
  (t.syncBatch ch).wack r ch q

/-- A WR enters the write share: it coalesces with a newest buffered write that was never selected, or takes a line of
its own; either way it takes a WSEQ and its WACK (R165, R226). A line that holds a real-time write is RTQ's (R231). -/
def State.enterWrite (s : State) (r : Req) (l : Loc) : State :=
  let a := hLaddr r.hdr
  let q := (s.chan l.ch).wseqNext
  let rt := match r.slot with | some k => s.realtime k | none => false
  match (s.chan l.ch).newestWrite a with
  | some w =>
    if w.chosen then
      ((s.setChan l.ch (fun c => { c with writes := c.writes ++ [{ heldWrite r l rt with ready := true, wseqs := [q] }] })
        ).takeWseq l.ch).syncBatch l.ch |>.wack r l.ch q
    else
      let t := s.setChan l.ch (fun c => { c with
        shareRet := c.shareRet + 1,
        writes := c.writes.map (fun x => if x.laddr = a ∧ x.wseqs = w.wseqs then
          { x with uid := r.uid, data := cellsLine r.data, key := hKey r.hdr, gen := r.gen, wseqs := x.wseqs ++ [q],
                   rt := x.rt || rt, order := if x.rt then x.order else r.uid }
          else x) })
      ((t.takeWseq l.ch).freePool.count (chnAt l.ch 0x118)).wack r l.ch q
  | none =>
    ((s.setChan l.ch (fun c => { c with writes := c.writes ++ [{ heldWrite r l rt with ready := true, wseqs := [q] }] })
      ).takeWseq l.ch).syncBatch l.ch |>.wack r l.ch q

/-- A read-modify-write of a request is in progress on the channel: its read is queued or captured, or its data is back
(R227). -/
def Chan.rmwRuns (c : Chan) (uid : Nat) : Bool :=
  c.reads.any (fun e => e.uid == uid) || c.captured.any (fun e => e.uid == uid) || c.writes.any (fun w => w.uid == uid && w.back)

/-- URGENCY of the context whose slot a request holds. -/
def State.urgOf (s : State) (r : Req) : Nat := match r.slot with | some k => s.urgency k | none => 0

/-- The requests that wait behind a read-modify-write of a line go on in arrival order, up to the next read-modify-write, or up
to a read for which no entry is free (R220, R227). -/
def State.resumeLine (s : State) (ch laddr : Nat) : Nat → State
  | 0 => s
  | n + 1 =>
    match (s.chan ch).hazard.find? (fun h => h.1 == laddr) with
    | none => s
    | some h =>
      let popped := s.setChan ch (fun c => { c with hazard := c.hazard.erase h })
      let spare := (s.req h.2).any (fun r => isRmw (hOp r.hdr)) || ((s.chan ch).newestWrite laddr).isSome
      let full := decide ((if spare then 64 else 63) ≤ (s.chan ch).reads.length)
      match s.req h.2, s.loc laddr with
      | some r, some l =>
        if isRmw (hOp r.hdr) then (if (s.chan ch).rmwRuns r.uid || full then s else s.enterRead r 0 l (s.urgOf r))
        else if hOp r.hdr = 0x02 then (popped.enterHeld r ch).resumeLine ch laddr n
        else if full then s
        else (popped.enterRead r (laddr - hLaddr r.hdr) l (s.urgOf r)).resumeLine ch laddr n
      | _, _ => popped.resumeLine ch laddr n

/-- The lines of a channel on which requests wait go on where they can (R227). -/
def State.resumeAll (s : State) (ch : Nat) : State :=
  forAll ((s.chan ch).hazard.map (fun h => h.1)).eraseDups (fun a t => t.resumeLine ch a (t.chan ch).hazard.length) s

/-- A request's read-modify-write of a line, or its wait for one, has ended (R227). -/
def State.endRmw (s : State) (ch laddr uid : Nat) : State :=
  let t := s.setChan ch (fun c => { c with hazard := c.hazard.filter (fun h => !(h.1 == laddr && h.2 == uid)) })
  t.resumeLine ch laddr (t.chan ch).hazard.length

/-- A read-modify-write that writes nothing releases its write-share line (R222). -/
def State.dropHeld (s : State) (r : Req) (ch : Nat) : State :=
  s.shareOut ch (fun w => w.uid == r.uid && !w.ready)

/-- The read phase of a read-modify-write returned ERR or POISON: it writes nothing and completes with UNCORRECTABLE
(R159). -/
def State.rmwFails (s : State) (r : Req) (ch : Nat) : State :=
  ((s.dropHeld r ch).fail r .uncorrectable 0).endRmw ch (hLaddr r.hdr) r.uid

/-- One line of a dispatched request enters its channel (R220 to R227). -/
def State.enterLine (s : State) (r : Req) (idx : Nat) (urg : Nat) : State :=
  match s.loc (lineAddr r.hdr idx) with
  | none => s
  | some l =>
    let a := lineAddr r.hdr idx
    let rt := match r.slot with | some k => s.realtime k | none => false
    let held := (s.chan l.ch).lineHeld a
    let op := hOp r.hdr
    let note := fun (t : State) => t.setChan l.ch (fun c => { c with hazard := c.hazard ++ [(a, r.uid)] })
    let line := fun (t : State) => t.setChan l.ch (fun c => { c with
      writes := c.writes ++ [heldWrite r l rt], shareSent := c.shareSent + 1 })
    if isRmw op then
      let t := (note (line s)).syncBatch l.ch
      if held then t else t.enterRead r 0 l urg
    else if op = 0x02 then
      if held then (note (line s)).syncBatch l.ch
      else (s.setChan l.ch (fun c => { c with shareSent := c.shareSent + 1 })).enterWrite r l
    else if held then note s
    else s.enterRead r idx l urg

/-! ### Admission (R216, R221, R474) -/

/-- A line's row is frozen by a soft repair: its requests wait without taking an entry (R425, R427). -/
def State.rowFrozen (s : State) (l : Loc) : Bool :=
  match s.rpr.op with
  | some o => o.op == 1 && o.ch == l.ch && o.bank == l.bank && o.row == l.row && o.stage != .recording
  | none => false

/-- A channel engine has room for one line of a request beside `n` lines of the request that enter it before (R221): every line
of an RD takes an entry, the last of the 64 only for a line that hits a buffered write. -/
def State.roomFor (s : State) (r : Req) (idx n : Nat) : Bool :=
  match s.loc (lineAddr r.hdr idx) with
  | none => true
  | some l =>
    let c := s.chan l.ch
    let a := lineAddr r.hdr idx
    let op := hOp r.hdr
    if s.rowFrozen l then false
    else if isRmw op then decide (c.reads.length < 64) && decide (c.writes.length < 48)
    else if op = 0x02 then
      decide (c.writes.length < 47) ||
        (match c.newestWrite a with | some w => !w.chosen && !c.lineHeld a | none => false)
    else decide (c.reads.length + n < if (c.newestWrite a).isSome then 64 else 63)

/-- The channel of every unanswered line of a request has room for it (R221). -/
def State.roomAll (s : State) (r : Req) : Bool :=
  r.left.all (fun i =>
    let chOf := fun (k : Nat) => (s.loc (lineAddr r.hdr k)).map (fun l => l.ch)
    s.roomFor r i (r.left.filter (fun k => decide (k < i) && chOf k == chOf i)).length)

/-- The head of a context's queue is a candidate: it ends at its judgement, or it can take a slot, its write has a pool
line, its domains are on and its channels have room (R216). -/
def State.candidate (s : State) (k : Nat) : Bool :=
  match s.ctxQueue k with
  | [] => false
  | r :: _ =>
    let v := s.judge r r.cell
    let q : Req := { r with left := v.served r.left }
    match v with
    | .err _ _ => true
    | _ => q.left.isEmpty || (s.canTake k && (!isWrite (hOp r.hdr) || r.pool) && (s.domainsOf q).all s.domOn &&
        (s.channelsOf q).all (fun ch => (s.cg (groupOf ch)).st == .active && s.clocked ch && !(s.chan ch).atRest) && s.roomAll q)

/-- The contexts whose head is a candidate, in rising order. -/
def State.candidates (s : State) : List Nat :=
  sortBy (fun k => k) (((s.trx.reqs.filterMap (fun r => match r.stage with
    | .queued k => some k
    | _ => none)).eraseDups).filter s.candidate)

/-- The rank of a candidate (R216). -/
def State.rank (s : State) (k : Nat) : Nat :=
  if s.realtime k then 1 else if s.weight k = 0 ∧ !s.isOwed k then 4 else if s.isOwed k then 2 else 3

/-- The number of the head of a queue: heads are compared by age. -/
def State.headUid (s : State) (k : Nat) : Nat := match s.ctxQueue k with | r :: _ => r.uid | [] => 0

/-- The oldest head of some contexts. -/
def State.oldest (s : State) (l : List Nat) : Option Nat :=
  l.foldl (fun b k => match b with
    | none => some k
    | some x => if s.headUid k < s.headUid x then some k else b) none

/-- The lines of the head of a context's queue (R474). -/
def State.headLines (s : State) (k : Nat) : Nat := match s.ctxQueue k with | r :: _ => linesOf r.hdr | [] => 1

/-- The next of the candidates after `c`, wrapping (R474). -/
def nextAfter (l : List Nat) (c : Nat) : Nat :=
  match l.find? (fun k => decide (c < k)) with
  | some k => k
  | none => l.head?.getD c

/-- The rounds of the deficit round robin (R474); a head has at most 4 lines and a weight is 1 or more, so `fuel` rounds
of four per candidate end it. -/
def State.robin (s : State) (l : List Nat) (c : Nat) : Nat → Nat × State
  | 0 => (c, s)
  | n + 1 =>
    let k := nextAfter l c
    let t := s.setCtx k (fun x => { x with deficit := x.deficit + s.weight k })
    if t.headLines k ≤ (t.ctx k).deficit then (k, t) else t.robin l k n

/-- The context that the router admits from, with the deficits as they stand then (R216, R474). -/
def State.chooseCtx (s : State) : Option (Nat × State) :=
  let l := s.candidates
  let top := l.foldl (fun m k => min m (s.rank k)) 5
  let at1 := l.filter (fun k => s.rank k == top)
  let urg := at1.foldl (fun m k => max m (s.urgency k)) 0
  let urgent := at1.filter (fun k => s.urgency k == urg)
  match top with
  | 1 => (s.oldest at1).map (fun k => (k, s))
  | 2 => (s.oldest urgent).map (fun k => (k, s))
  | 4 => (s.oldest at1).map (fun k => (k, s))
  | 3 =>
    let c := s.regul.roundPtr
    let r := if urgent.contains c && decide (s.headLines c ≤ (s.ctx c).deficit) then (c, s)
      else s.robin urgent c (4 * urgent.length + 1)
    some (r.1, { r.2 with regul := { r.2.regul with
      roundPtr := r.1, ctx := r.2.regul.ctx.upd r.1 (fun x => { x with deficit := x.deficit - r.2.headLines r.1 }) } })
  | _ => none

/-- A deficit returns to 0 for a context without a queued request or owed (R474). -/
def State.resetDeficits (s : State) : State :=
  forAll (s.regul.ctx.keysWhere (fun c => decide (0 < c.deficit))) (fun k t =>
    if (s.ctxQueue k).isEmpty || s.isOwed k then t.setCtx k (fun c => { c with deficit := 0 }) else t) s

/-- The context takes a slot for its request (R206, R208). -/
def State.takeSlot (s : State) (k : Nat) : State :=
  let t := s.setCtx k (fun c => { c with out := c.out + 1 })
  let t : State := { t with regul := { t.regul with slotFree := t.regul.slotFree - 1 } }
  when (decide (s.outLimit k ≤ (t.ctx k).out)) (fun t => t.stickBits RF.CTX_AT_LIMIT k 1) t

/-- A request takes a use of its key slot (R321). -/
def State.takeUse (s : State) (h : Cell) : State := s.setSlot (hPartner h) (hKey h) (fun x => { x with uses := x.uses + 1 })

/-- Dispatch an admitted request: it leaves the router with its slot, its use, its timeout armed and its request cell
freed, and its lines enter their channels (R170, R188, R216). A WRP with an all-zero mask writes nothing (R158). -/
def State.dispatch (s : State) (r : Req) (k : Nat) : State :=
  let h := r.hdr
  let urg := s.urgency k
  let t := (s.takeSlot k).takeUse h
  let chs := s.channelsOf r
  let r2 : Req := { r with
    slot := some k, use := true, gen := (s.slot (hPartner h) (hKey h)).gen, chs := chs,
    deadline := some (s.now + s.rf RF.TRX_TAG_TIMEOUT), stage := .sent (chs.head?.getD 0) }
  if hOp h = 0x03 ∧ r.mask = 0#64 then
    ((t.setReq r.uid (fun _ => { r2 with stage := .queued k, chs := [] })).wackPlain
      { r2 with stage := .queued k, chs := [] } chs.head? none)
  else
    let t := (t.setReq r.uid (fun _ => r2)).freeReqCells 1
    let t := forAll chs (fun ch t => t.setChan ch (fun c => { c with
      acctSent := c.acctSent + 1, acctHeld := c.acctHeld + 1 })) t
    forAll r.left (fun i t => match t.req r.uid with | some q => t.enterLine q i urg | none => t) t

/-- The router admits the chosen head (R216). -/
def State.admitOne (s : State) : State :=
  match s.resetDeficits.chooseCtx with
  | none => s.resetDeficits
  | some (k, t) =>
    match t.ctxQueue k with
    | [] => t
    | r :: _ =>
      (t.answerVerdict r (t.judge r r.cell) (fun u => match u.req r.uid with
        | some q => (u.dispatch q k).progDone 32
        | none => u)).resetDeficits

/-- A delivered request joins its context's queue at its end; the domains its lines need are woken (R203, R204, R205, R372). -/
def State.enqueue (s : State) (r : Req) : State :=
  let k := s.ctxOf (hRqid r.hdr)
  let t : State := { s with trx := { s.trx with
    reqs := s.trx.reqs.filter (fun x => x.uid != r.uid) ++ (s.trx.reqs.filter (fun x => x.uid == r.uid)).map (fun x =>
      { x with stage := .queued k }) } }
  let t := when (hRt r.hdr != s.realtime k) (fun t => t.stickBits RF.CTX_RT_MISMATCH k 1) t
  let groups := (s.channelsOf r).map groupOf |>.eraseDups
  (forAll (s.domainsOf r) (fun d t => t.wake d) (forAll groups (fun g t => t.touchGroup g) t)).noteUrg k

/-! ### Data comes back -/

/-- The slot of an admitted request has been fenced as its line needed it: the request ends with ERR KEY (R323). -/
def State.keyLost (s : State) (r : Req) (ch : Nat) : State :=
  if isRmw (hOp r.hdr) then ((s.dropHeld r ch).fail r .key 0).endRmw ch (hLaddr r.hdr) r.uid else s.fail r .key 0

/-- A captured line is decoded, checked and decrypted, matched to its tag and sent as RDATA; the data of a tag that has
completed is discarded as late (R69, R315, R321). -/
def State.returnLine (s0 : State) (ch : Nat) (bit : Option Nat) (err : BitVec 576) : State :=
  match (s0.chan ch).captured with
  | [] => s0
  | c :: rest =>
    let s := s0.setChan ch (fun x => { x with captured := rest })
    match s.req c.uid with
    | none => s.lateData c.uid ch
    | some r =>
      let p := hPartner r.hdr
      let t := s.loadSlot p (hKey r.hdr) (halfOf ch)
      let slot := t.slot p (hKey r.hdr)
      if slot.st = .fenced then t.keyLost r ch
      else
      let res := readLine c.line (c.laddr % 2 ^ 30) (hKey r.hdr) slot.keys slot.meta1 bit (c.err ^^^ err) t.freeVal
      let t := (t.useFree).noteStatus res.1 ch c.bank c.row c.laddr (hKey r.hdr)
      if c.rmw then
        if res.1 = stPoison ∨ res.1 = stErr then t.rmwFails r ch
        else t.setChan ch (fun x => { x with writes := x.writes.map (fun w =>
          if w.uid = r.uid ∧ !w.ready then { w with back := true, corrected := decide (res.1 = stCorrected), data := res.2 }
          else w) })
      else t.rdLine r c.idx res.1 ch false 0 res.2

/-- What a read-modify-write makes of the line as it stood: the new line, and whether it writes (R159). -/
def rmwResult (r : Req) (old : BitVec 512) : BitVec 512 × Bool :=
  let d := cellsLine r.data
  let w := hWord r.hdr
  if hOp r.hdr = 0x03 then (mergeBytes old d r.mask, true)
  else if hOp r.hdr = 0x08 then (putWord old w (lineWord old w + d.extractLsb' 0 64), true)
  else if lineWord old w = d.extractLsb' 0 64 then (putWord old w (d.extractLsb' 64 64), true)
  else (old, false)

/-- The merge of a read-modify-write whose read phase has returned: the merged line enters the write share with a WSEQ,
or a CAS64 that does not match writes nothing (R159, R227). -/
def State.mergeRmw (s : State) (r : Req) (ch : Nat) (w : WrEnt) : State :=
  let res := rmwResult r w.data
  let q := (s.chan ch).wseqNext
  let st := if w.corrected then stCorrected else stOk
  match res.2 with
  | true =>
    let t := ((s.setChan ch (fun c => { c with writes := c.writes.map (fun x =>
      if x.uid = r.uid ∧ !x.ready then
        { x with ready := true, back := false, corrected := false, data := res.1, wseqs := [q], key := hKey r.hdr, gen := r.gen }
      else x) })).takeWseq ch).syncBatch ch
    let t := if hOp r.hdr = 0x03 then t.wack r ch q else t.rdLine r 0 st ch true q w.data
    t.endRmw ch (hLaddr r.hdr) r.uid
  | false => ((s.dropHeld r ch).rdLine r 0 st ch false 0 w.data).endRmw ch (hLaddr r.hdr) r.uid

/-- A tag's timeout wins its race: the unanswered lines complete with ERR TIMEOUT, the request never writes, and the
tag enters quarantine with its late deliveries (R170). -/
def State.timeoutReq (s : State) (r : Req) : State :=
  let chs := r.chs
  let owing := (chs.map (fun ch => (ch, ((s.chan ch).reads.filter (fun e => e.uid == r.uid && e.taken)).length +
    ((s.chan ch).captured.filter (fun e => e.uid == r.uid)).length))).filter (fun p => decide (0 < p.2))
  let t := forAll chs (fun ch t => if (t.chan ch).writes.any (fun w => w.uid == r.uid && !w.ready) then
    t.dropHeld r ch else t) (s.leaveReads r)
  let t := ((t.endReq r).count 0x20128).sendUp
    [errCell ErrCode.timeout.num (hTag r.hdr) (lineMask (r.left ++ r.down)) 0 false false] .answered none
  let t := t.quarantine (inWriteSpace (hOp r.hdr)) (hTag r.hdr) owing r.uid
  forAll chs (fun ch t => forAll ((t.chan ch).hazard.filter (fun h => h.2 == r.uid)) (fun h t => t.endRmw ch h.1 r.uid) t) t

/-! ### Windows (R207, R211 to R215) -/

/-- RESV of a context from its minimum (R207): real-time contexts reserve their whole limit. -/
def State.resvOf (s : State) (k minEff : Nat) : Nat :=
  if s.realtime k then s.outLimit k else (minEff * s.rf RF.REG_LLAT + 255) / 256

/-- Sum a number over the contexts that hold one. -/
def State.ctxSum (s : State) (f : Nat → Ctx → Nat) : Nat := s.regul.ctx.ents.foldl (fun n e => n + f e.1 e.2) 0

/-- One context at the close of its window: short when it completed less than its quota with work held or outstanding
(R214); its window restarts. -/
def State.closeWindow (s : State) (k : Nat) : State :=
  let short := s.isOwed k && !(s.ctxReqs k).isEmpty
  let t := s.setCtx k (fun c => { c with
    winLines := 0, shortWin := if short then min (c.shortWin + 1) (2 ^ 32 - 1) else c.shortWin })
  when short (fun t => t.stickBits RF.CTX_SHORT k 1) t

/-- Every MIN_EFF from the committed minimums and the FLOOR_NOW in force at a roll (R212), with `old` that of the roll before. All
sums are in 0.25 GB/s; the budget is FLOOR_NOW × ADMIT_FRAC ÷ 100. -/
def State.scaleMins (s : State) (old : Nat) : State :=
  let floor := s.regul.floorNow
  let budget := floor * s.rf RF.REG_ADMIT_FRAC
  let rt := s.ctxSum (fun k c => if s.realtime k then c.committed else 0)
  let ord := s.ctxSum (fun k c => if s.realtime k then 0 else c.committed)
  let whole := decide (100 * (rt + ord) ≤ budget)
  let rtOver := !whole && decide (budget ≤ 100 * rt)
  let eff := fun (k : Nat) (c : Ctx) =>
    if s.realtime k || whole then c.committed
    else if rtOver then 0
    else c.committed * (budget - 100 * rt) / (100 * ord)
  let t : State := { s with regul := { s.regul with
    ctx := ⟨s.regul.ctx.dflt, s.regul.ctx.ents.map (fun e => (e.1, { e.2 with minEff := eff e.1 e.2 }))⟩,
    lastRoll := s.now, scaled := !whole, rtOver := rtOver, rollFloor := floor, rollOld := old } }
  let t := if !whole && !s.regul.scaled then
      let u := (t.stick RF.REG_GUARANTEE_SCALED).event 0x21 0x0603 1 [(0, 2, old), (2, 2, floor)]
      when (u.rfb RF.REG_SCALE_FAULTN) State.assertPin u
    else t
  let t := t.resetDeficits
  if rtOver && !s.regul.rtOver then
    (t.stick RF.REG_RT_OVER).event 0x21 0x0604 2 [(0, 2, floor), (2, 2, rt)]
  else t

/-- A measurement window rolls (R211, R212). -/
def State.rollWindow (s : State) : State :=
  (forAll (s.regul.ctx.keysWhere (fun _ => true)) (fun k t => t.closeWindow k) s).scaleMins s.regul.rollFloor

end Sys2Proof.Machine
end

