-- ==== Sys2Proof/Machine/SensorOps.lean ====
section
/-! DEFINITION. Temperatures (R30, R31, R51, R304, R305): readings, substitutes, what a finished round gives, and the
regulator's telemetry (R306). Core-die sensor 4 × die + n is sensor number 4 × die + n, base-die sensor n is 64 + n. -/

namespace Sys2Proof.Machine

/-- The sensors of one round (R30). -/
def allSensors : List Nat := List.range 80

/-- The number of a sensor. -/
def sensorNum (base : Bool) (n : Nat) : Nat := if base then 64 + n else n

/-- The sensors that share a die with a sensor, itself among them. -/
def dieSensors (k : Nat) : List Nat :=
  if k < 64 then (List.range 4).map (fun i => 4 * (k / 4) + i) else (List.range 16).map (fun i => 64 + i)

/-- The current reading of a sensor that passes its reads. -/
def State.reading (s : State) (k : Nat) : Option Nat := if s.sensors.failed.get k then none else s.sensors.last.get k

/-- The substitute for a sensor of a die, in quarters of a degree: the highest current reading of those that pass plus 8 °C, or
150 °C (R31). -/
def State.substitute (s : State) (k : Nat) : Nat :=
  match (dieSensors k).filterMap (fun i => s.reading i) with
  | [] => 856
  | v :: l => l.foldl max v + 32

/-- A SID of the core die has shown STATUS bit 2 (R31). -/
def State.dieFlagged (s : State) (die : Nat) : Bool :=
  (List.range 128).any (fun i => dieOf (i / 4) (i % 4) == die && s.sensors.dieFlag.get i)

/-- The reading that Camec uses for a sensor, in quarters of a degree above −64 °C (R30, R31). -/
def State.sensorQuarters (s : State) (k : Nat) : Nat :=
  if k < 64 ∧ s.dieFlagged (k / 4) then s.substitute k
  else match s.reading k with
    | some v => v
    | none => s.substitute k

/-- A channel's temperature in quarters of a degree: the highest of its four SIDs' (R304). -/
def State.channelTemp (s : State) (ch : Nat) : Nat :=
  (List.range 4).foldl (fun b sid => max b (s.sensorQuarters (4 * dieOf (ch % 32) sid + ch % 8 / 2))) 0

/-- The hottest base-die sensor and its reading in quarters of a degree. -/
def State.baseHot (s : State) : Nat × Nat :=
  (List.range 16).foldl (fun b n => if b.2 < s.sensorQuarters (64 + n) then (n, s.sensorQuarters (64 + n)) else b) (0, 0)

/-- The hottest serving channel and its temperature in quarters of a degree. -/
def State.chanHot (s : State) : Nat × Nat :=
  s.serving.foldl (fun b ch => if b.2 < (s.chan ch).temp then (ch % 32, (s.chan ch).temp) else b) (0, 0)

/-- The junction has passed 150 °C: an event once per excursion (R51). -/
def State.judgeJunction (s : State) : State :=
  let hot := decide (856 < s.baseHot.2)
  let t : State := { s with capo := { s.capo with overTemp := s.capo.overTemp.set 0 hot } }
  when (hot && !s.capo.overTemp.get 0) (fun t => t.event 0x86 0x0602 2 [(0, 1, s.baseHot.1), (1, 1, s.capo.baseMax)]) t

/-- A round is complete: the channels' temperatures and bands, the trims that follow them in NOREF, the throttle input
and step, and the junction (R304, R272, R354, R305, R51). -/
def State.roundDone (s : State) : State :=
  let t := forAll s.runChannels (fun ch t => t.judgeBand ch (t.channelTemp ch)) s
  let t := forAll (List.range 16) (fun g t => t.norefTrims g) t
  let b := t.baseHot.2 / 4
  let c := t.chanHot
  let t : State := { t with
    capo := { t.capo with baseMax := b, hotCh := c.1, chMax := c.2 / 4, input := max b (c.2 / 4) },
    sensors := { t.sensors with asked := none, lastRound := t.now } }
  t.judgeStep.judgeJunction

/-- A sensor's read is done for this round; the last one ends the round. -/
def State.sensorDone (s : State) (k : Nat) : State :=
  let due := s.sensors.due.filter (fun i => i != k)
  let t : State := { s with sensors := { s.sensors with due := due, asked := some (k, s.now) } }
  if due.isEmpty then t.roundDone else t

/-- A reading is good (R31). -/
def State.sensorGood (s : State) (k v : Nat) : State :=
  ({ s with sensors := { s.sensors with
      last := s.sensors.last.set k (some v), bad := s.sensors.bad.set k 0,
      failed := s.sensors.failed.set k false } } : State).sensorDone k

/-- A reading is discarded: the read is retried once, and the sensor is marked failed when it fails twice in a row. -/
def State.sensorBad (s : State) (k : Nat) : State :=
  let n := s.sensors.bad.get k + 1
  let t : State := { s with sensors := { s.sensors with bad := s.sensors.bad.set k n, asked := some (k, s.now) } }
  if n % 2 = 1 then t
  else
    let u := when (!s.sensors.failed.get k) (fun t => t.event 0x86 0x0601 1
      [(0, 1, if k < 64 then k / 4 else 0xff), (1, 1, if k < 64 then k % 4 else k - 64)]) t
    ({ u with sensors := { u.sensors with failed := u.sensors.failed.set k true } } : State).sensorDone k

/-- A SID's STATUS has been read: bit 2 stands for its core die, with an event when it first appears there (R31). -/
def State.statusSensor (s : State) (ch sid : Nat) : State :=
  let bit := ((s.chan ch).sids.get sid).sensor
  let die := dieOf (ch % 32) sid
  let was := s.dieFlagged die
  let t : State := { s with sensors := { s.sensors with dieFlag := s.sensors.dieFlag.set (4 * (ch % 32) + sid) bit } }
  when (bit && !was) (fun t => t.event 0x86 0x0601 1 [(0, 1, die), (1, 1, 0x0f)]) t

/-- The sensor schedule starts a read of every sensor (R30). -/
def State.sensorStart (s : State) : State :=
  { s with sensors := { s.sensors with due := allSensors, asked := some (0, s.now) } }

/-- A reading arrives: it is good when its odd parity matches (R31). -/
def State.sensorGives (s : State) (x : Reading) : State :=
  let k := sensorNum x.base x.sensor
  if s.sensors.due.contains k then
    if x.par == oddParity 10 x.val.toNat then s.sensorGood k x.val.toNat else s.sensorBad k
  else s

/-! ### Regulator telemetry (R306) -/

/-- F_TELEM has fallen from what it was, below 100 % (R308). -/
def State.noteCut (s : State) (was : Nat) : State :=
  when (decide (s.telemFrac < was) && decide (s.telemFrac < 100)) (fun t => t.stick RF.CAP_TELEM_CUT) s

/-- A load reading: one above the limit lowers F_TELEM at the next drone tick, whatever follows it; it starts or ends the count of
ticks at or below 95 % of the limit. -/
def State.ildReading (s : State) (v : Nat) : State :=
  let low := decide (100 * v ≤ 95 * s.rf RF.CAP_ILD_LIMIT)
  { s with capo := { s.capo with
      ild := v,
      ildOver := s.capo.ildOver || (s.rfb RF.CAP_TELEM_EN && decide (s.rf RF.CAP_ILD_LIMIT < v)),
      ildOkFrom := if low then (match s.capo.ildOkFrom with | some t => some t | none => some s.now) else none } }

/-- At a drone tick F_TELEM falls by 5 points where a reading since the last one, or the latest reading, exceeds the limit, to 40 % at
least; with TELEM_EN clear it is 100 %. -/
def State.telemTick (s0 : State) : State :=
  let s : State := { s0 with capo := { s0.capo with ildOver := false } }
  if s.rfb RF.CAP_TELEM_EN ∧ (s0.capo.ildOver = true ∨ s.rf RF.CAP_ILD_LIMIT < s.capo.ild) then
    ({ s with capo := { s.capo with fTelem := max (min s.capo.fTelem 40) (s.capo.fTelem - 5) } } : State).noteCut s0.telemFrac
  else if s.rfb RF.CAP_TELEM_EN then s
  else { s with capo := { s.capo with fTelem := 100 } }

/-- After 16 drone ticks of low readings F_TELEM rises by 5 points. -/
def State.telemUp (s : State) : State :=
  match s.capo.ildOkFrom with
  | some t =>
    if t + 16 ≤ s.now ∧ s.capo.fTelem < 100 then
      { s with capo := { s.capo with fTelem := min 100 (s.capo.fTelem + 5), ildOkFrom := some s.now } }
    else s
  | none => s

end Sys2Proof.Machine
end

