-- ==== Sys2Proof/Machine/Flags.lean ====
section
/-! DEFINITION. The status bits and words as software reads them: every read-only field of the window, computed from the
state of the unit that it reports (the field tables of the chapters, at the offsets of 21_register_map). -/

namespace Sys2Proof.Machine

/-! ### Paths and views (R467) -/

/-- The number of a path's own copies: 0 link, 1 SMP in either form, 2 CM_REG. -/
def pathNum (p : Path) : Nat :=
  match p with
  | .link => 0
  | .smp => 1
  | .smpSession => 1
  | .wrapper => 2

/-- The selectors that each path holds for itself. -/
inductive View where
  | evt | tab | ref | mut | cal | rpr | key
  deriving DecidableEq, Repr

/-- The number of a selector. -/
def View.num : View → Nat
  | .evt => 0
  | .tab => 1
  | .ref => 2
  | .mut => 3
  | .cal => 4
  | .rpr => 5
  | .key => 6

/-- A path's selector. -/
def State.view (s : State) (p : Nat) (v : View) : Nat := s.regs.views.get (16 * p + v.num)

/-- A path's selector is written. -/
def State.setView (s : State) (p : Nat) (v : View) (x : Nat) : State :=
  { s with regs := { s.regs with views := s.regs.views.set (16 * p + v.num) x } }

/-- The key of a path's latch of R82 for the high word at an offset. -/
def latchKey (p off : Nat) : Nat := 0x200000 * p + off

/-! ### Numbers of enumerations -/

/-- STAGE. -/
def BootStage.num : BootStage → Nat
  | .reset => 0
  | .rom => 1
  | .bootrec => 2
  | .verify => 3
  | .load => 4
  | .coredie => 5
  | .train => 6
  | .link => 7
  | .refcal => 8
  | .keyex => 9
  | .ready => 10
  | .recovery => 11
  | .halted => 12

/-- FAIL_CODE. -/
def FailCode.num : FailCode → Nat
  | .none => 0
  | .romCheck => 1
  | .fuse => 2
  | .entropy => 3
  | .nvm => 4
  | .noBootRecord => 5
  | .noValidSlot => 6
  | .domainWake => 7
  | .noChannel => 8

/-- PAIR_ROLE. -/
def PairRole.num : PairRole → Nat
  | .none => 0
  | .paired => 1
  | .alone => 2
  | .mismatch => 3
  | .survivor => 4
  | .fenced => 5

/-- STATE of a domain. -/
def DomState.num : DomState → Nat
  | .off => 0
  | .retention => 1
  | .on => 2
  | .failed => 3

/-- State of a channel group. -/
def CgState.num : CgState → Nat
  | .active => 0
  | .powerDown => 1
  | .selfRefresh => 2
  | .deep => 3

/-- TX_STATE. -/
def TxState.num : TxState → Nat
  | .run => 0
  | .replay => 1
  | .stall => 2
  | .retrain => 3
  | .fenced => 4
  | .down => 5

/-- STATE of a key slot. -/
def SlotState.num : SlotState → Nat
  | .empty => 0
  | .active => 1
  | .erasing => 2
  | .fenced => 3

/-- STATE of a calibration group. -/
def CalState.num : CalState → Nat
  | .fresh => 0
  | .stale => 1
  | .noref => 2

/-- REF_STATE. -/
def RefState.num : RefState → Nat
  | .absent => 0
  | .locked => 1
  | .holdover => 2

/-- A word of bits, bit `i` set where `p i`. -/
def bitsOf (n : Nat) (p : Nat → Bool) : Nat := (List.range n).foldl (fun x i => x + (if p i then 2 ^ i else 0)) 0

/-- A word of 2-bit codes. -/
def pairsOf (n : Nat) (f : Nat → Nat) : Nat := (List.range n).foldl (fun x i => x + f i % 4 * 4 ^ i) 0

/-- The two's complement of a number in `w` bits. -/
def twos (w : Nat) (v : Int) : Nat := (v % (2 ^ w : Int)).toNat

/-! ### Status by page -/

/-- The SYS page: identity, commits, time, start-up (R64, R78 to R83, R465, R116). -/
def State.roSys (s : State) (p off lo i : Nat) : Nat :=
  match off, lo with
  | 0x004, 16 => 0x0c32
  | 0x004, 8 => 0xb1
  | 0x004, _ => b2n s.pins.instId
  | 0x014, _ => s.regs.tickets.get p
  | 0x018, _ => s.regs.doneEpoch
  | 0x020, _ => (s.regs.results.get i).epoch
  | 0x024, 16 => (s.regs.results.get i).reject
  | 0x024, 8 => (s.regs.results.get i).reason
  | 0x024, _ => (s.regs.results.get i).result
  | 0x040, _ => fieldNat s.time.stamp 31 0
  | 0x044, _ => (s.regs.latch.get (latchKey p 0x44)).toNat
  | 0x060, _ => b2n s.regs.snapBusy
  | 0x064, _ => s.regs.snapSeq
  | 0x070, 28 => s.boot.stage.num
  | 0x070, 24 => s.boot.fail.num
  | 0x070, 20 => s.pair.role.num
  | 0x070, 19 => s.boot.running
  | 0x070, 18 => b2n (s.ready && (List.range 12).any (fun c =>
      (s.link.courses.get c).up && !(s.link.courses.get c).encrypted))
  | 0x070, _ => b2n (s.boot.stage == .link && s.refCourses.isEmpty && decide (s.boot.stageAt + 64 ≤ s.now))
  | 0x074, _ => bitsOf 32 (fun n => s.boot.chReady.testBit n && !s.chFenced n)
  | 0x078, _ => s.boot.readyTick
  | 0x080, _ => b2n s.regs.sumBusy
  | 0x088, _ => s.boot.savedEpoch % 65536
  | _, _ => 0

/-- The PWR page (R380). -/
def State.roPwr (s : State) (off lo : Nat) : Nat :=
  match off, lo with
  | 0x008, _ => pairsOf 16 (fun d => (s.dom d).st.num)
  | 0x00c, _ => pairsOf 8 (fun d => (s.dom (16 + d)).st.num)
  | 0x010, _ => pairsOf 16 (fun g => (s.cg g).st.num)
  | 0x018, 24 => s.pwr.lastDom
  | 0x018, 16 => s.pwr.lastReason
  | 0x018, _ => s.pwr.refusals
  | 0x01c, _ => bitsOf 24 (fun d => (s.dom d).st == .failed)
  | _, _ => 0

/-- The FLT_WHERE bit of the page at an offset (R410). -/
def whereBit (off : Nat) : Nat :=
  if off < 0xa000 then off / 0x1000
  else if off < 0x20000 then 10 else if off < 0x21000 then 11 else if off < 0x40000 then 12
  else if off < 0x41000 then 13 else if off < 0xa0000 then 14 else if off < 0xb0000 then 15
  else if off < 0xb1000 then 16 else 17

/-- The marks at this key stand in the MODE of a page: the tables outside the function pages have none (R75; log 114). -/
def hasMode (key : Nat) : Bool := key != 0x22000 && key != 0x30000 && key != 0xc0000

/-- FLT_WHERE: a bit for every page with an RC field at 1, WRITE_DROPPED and WRITE_FAILED of its MODE among them (R75, R410). -/
def State.wherePages (s : State) : Nat :=
  let marks := fun (t : Tbl Bool) b => t.ents.any (fun e => e.2 && hasMode e.1 && whereBit e.1 == b)
  bitsOf 18 (fun b => s.regs.sticky.ents.any (fun e => e.2 != 0#32 && whereBit e.1 == b) ||
    marks s.regs.dropped b || marks s.regs.failed b)

/-- The FLT page (R406 to R410, R477). -/
def State.roFlt (s : State) (off lo : Nat) : Nat :=
  match off, lo with
  | 0x004, _ => b2n s.flt.fatal
  | 0x010, _ => bitsOf 32 (fun n => s.chFenced n)
  | 0x014, _ => s.wherePages
  | 0x018, 31 => b2n s.pinLow
  | 0x018, _ => b2n s.flt.pulseEnd.isSome
  | 0x01c, _ => s.flt.asserts
  | 0x024, 29 => s.flt.lastSev
  | 0x024, 16 => s.flt.lastSource
  | 0x024, _ => s.flt.lastCode
  | _, _ => 0

/-- EVT_TAIL: the greater of 1 and EVT_HEAD − 4,095, and 0 while the ring is empty (R412). -/
def State.evtTail (s : State) : Nat := if s.evt.head = 0 then 0 else max 1 (s.evt.head - 4095)

/-- The EVT page; the view is the path's own (R414, R420). -/
def State.roEvt (s : State) (p off i : Nat) : Nat :=
  match off with
  | 0x004 => s.evt.head
  | 0x008 => s.evtTail
  | 0x00c => b2n s.evt.logReady
  | 0x014 => b2n ((s.regs.evtCopy.get p).isNone && s.regs.views.get (16 * p + 8) == 1)
  | 0x020 => (match s.regs.evtCopy.get p with | some l => (l.getD i 0#32).toNat | none => 0)
  | 0x040 => s.evt.pseq
  | 0x044 => s.evt.logSeq
  | 0x060 => ((s.regs.logCopy.get 0).getD i 0#32).toNat
  | _ => 0

/-- The whole seconds of probation left: a second is two million drone ticks (R457, R462). -/
def State.probLeft (s : State) : Nat :=
  match s.upd.probFrom with
  | some t => (t + 2000000 * s.rf RF.UPD_PROB_WINDOW - s.now) / 2000000
  | none => 0

/-- The blocks that an image of a length needs (R442, R447). -/
def blocksOf (len : Nat) : Nat := (len + 4095) / 4096

/-- The UPD page (R462). -/
def State.roUpd (s : State) (off lo i : Nat) : Nat :=
  match off, lo with
  | 0x004, 16 => s.upd.stage0.st
  | 0x004, 12 => s.upd.result
  | 0x004, 8 => s.boot.brec.unconfirmed
  | 0x004, 7 => b2n (s.boot.brec.pending && s.boot.running == s.boot.brec.activeSlot)
  | 0x004, _ => b2n s.upd.selfPass
  | 0x008, 24 => s.boot.brec.prevSlot
  | 0x008, 16 => s.boot.running
  | 0x008, _ => s.boot.brec.seq % 65536
  | 0x00c, _ => s.boot.secVer
  | 0x010, _ => s.nvm.otpCount
  | 0x014, _ => s.probLeft
  | 0x01c, 16 => blocksOf s.upd.stage0.length
  | 0x01c, _ => popCount s.upd.stage0.bitmap 768
  | 0x040, _ => fieldNat s.boot.digest (32 * i + 31) (32 * i)
  | _, _ => 0

/-- The slots of the own bank in a state. -/
def State.slotsIn (s : State) (st : SlotState) : Nat :=
  ((List.range 2048).filter (fun k => (s.sec.own.get k).st == st)).length

/-- The slot that a path's SEC_KEYVIEW shows. -/
def State.viewedSlot (s : State) (p : Nat) : KeySlot :=
  s.slot ((s.view p .key).testBit 11) (s.view p .key % 2048)

/-- The SEC page (R341). -/
def State.roSec (s : State) (p off lo : Nat) : Nat :=
  match off, lo with
  | 0x004, 3 => b2n s.sec.lock
  | 0x004, 2 => b2n s.sec.drbgOk
  | 0x004, 1 => b2n (match s.sec.smp.session with | some x => x.secure && x.live | none => false)
  | 0x004, _ => b2n (match s.sec.link.session with | some x => x.live | none => false)
  | 0x00c, _ => b2n s.sec.lock
  | 0x010, 16 => s.slotsIn .active
  | 0x010, _ => s.slotsIn .fenced
  | 0x014, _ => s.sec.entries
  | 0x01c, 30 => (s.viewedSlot p).st.num
  | 0x01c, 28 => (s.viewedSlot p).cls
  | 0x01c, 27 => b2n (s.viewedSlot p).meta1
  | 0x01c, 26 => b2n (s.viewedSlot p).persisted
  | 0x01c, _ => (s.viewedSlot p).gen
  | _, _ => 0

/-- The CAP page (R308). -/
def State.roCap (s : State) (off lo : Nat) : Nat :=
  match off, lo with
  | 0x008, 16 => s.telemFrac
  | 0x008, _ => s.capo.step
  | 0x00c, 16 => s.floorCap
  | 0x00c, _ => s.capo.bEff / 100
  | 0x010, 24 => s.capo.input
  | 0x010, 16 => s.capo.baseMax
  | 0x010, 8 => s.capo.hotCh
  | 0x010, _ => s.capo.chMax
  | _, _ => 0

/-- The CAL page (R62, R362). While a group's domain is not on its STATE reads 3, OFF, from power-good on, although the table's
reset column gives 2 (DESIGN CHOICE, log 96). -/
def State.roCal (s : State) (p off lo : Nat) : Nat :=
  let ch := s.view p .cal % 32
  match off, lo with
  | 0x004, 24 => s.cal.refCourse
  | 0x004, 22 => s.cal.refState.num
  | 0x004, 8 => s.cal.holdLeft
  | 0x004, 3 => b2n ((List.range 16).any (fun g => (s.calGr g).st == .noref))
  | 0x004, _ => b2n s.pwr.onChecker
  | 0x008, _ => ((List.range 16).filter (fun g => (s.calGr g).run.isSome)).length
  | 0x00c, _ => pairsOf 16 (fun g => if s.groupOn g then (s.calGr g).st.num else 3)
  | 0x014, 24 => (s.calGr (ch / 2)).lastTemp / 4
  | 0x014, 23 => b2n ((s.calCh ch).pending.any (fun c => c.wait))
  | 0x014, 22 => b2n ((s.calCh ch).pending.any (fun c => !c.wait))
  | 0x014, 21 => b2n (s.calCh ch).retraining
  | 0x014, 8 => bitsOf 8 (fun t => (s.set ch t).est)
  | 0x014, _ => bitsOf 8 (fun t => (s.set ch t).valid)
  | 0x018, _ => (s.calCh ch).count
  | 0x01c, _ => fieldNat (s.calCh ch).last 31 0
  | 0x020, _ => (s.regs.latch.get (latchKey p 0x7020)).toNat
  | _, _ => 0

/-- The MIR page (R399). -/
def State.roMir (s : State) (off lo : Nat) : Nat :=
  match off, lo with
  | 0x004, 23 => b2n s.armed
  | 0x004, 22 => b2n s.pair.doubleStop
  | 0x004, 21 => b2n s.pair.joint
  | 0x004, _ => b2n s.pair.peerHalted
  | 0x008, _ => s.pair.epoch
  | 0x00c, _ => s.pair.sent.foldl (fun n m => n + m.words.length) 0
  | _, _ => 0

/-- The RPR page (R438). -/
def State.roRpr (s : State) (p off lo : Nat) : Nat :=
  let m := s.rmap (s.view p .rpr % 32)
  match off, lo with
  | 0x004, 2 => b2n s.rpr.op.isSome
  | 0x004, 1 => b2n s.rpr.bist.isSome
  | 0x004, _ => b2n s.rpr.loop.isSome
  | 0x010, 30 => s.rpr.result
  | 0x010, _ => s.rpr.reason
  | 0x018, 24 => m.soft.length
  | 0x018, 16 => m.hard.length
  | 0x018, 8 => m.column.length
  | 0x018, 4 => b2n (m.cmdSpare != 0xff)
  | 0x018, _ => bitsOf 4 (fun i => m.dqSpare.getD i 0xff != 0xff)
  | 0x028, 30 => s.rpr.bstate
  | 0x028, _ => s.rpr.bres.failBursts
  | 0x02c, 26 => s.rpr.bres.firstBank
  | 0x02c, 11 => s.rpr.bres.firstRow
  | 0x02c, _ => s.rpr.bres.firstCol
  | 0x030, _ => s.rpr.bres.dqFail % 2 ^ 32
  | 0x034, _ => s.rpr.bres.dqFail / 2 ^ 32
  | 0x044, _ => (match s.rpr.loop with | some l => bitsOf 17 (fun i => l.locked.get i) | none => 0)
  | _, _ => 0

/-- A course page (R153). -/
def State.roCrs (s : State) (c off lo : Nat) : Nat :=
  let x := s.link.courses.get c
  match off, lo with
  | 0x004, 29 => x.tx.num
  | 0x004, 28 => b2n x.nakWait
  | 0x004, 23 => x.spareRx
  | 0x004, 18 => x.spareTx
  | 0x004, 10 => x.epochRx
  | 0x004, _ => x.epochTx
  | 0x008, _ => bitsOf 17 (fun l => (s.link.lanes.get (17 * c + l)).st == .aligned)
  | _, _ => 0

/-- The LNK common page (R153). -/
def State.roLnk (s : State) (off lo : Nat) : Nat :=
  match off, lo with
  | 0x004, 16 => bitsOf 12 (fun c => (s.link.courses.get c).tx == .fenced)
  | 0x004, _ => bitsOf 12 (fun c => (s.link.courses.get c).up)
  | 0x010, 16 => s.link.wd.held
  | 0x010, _ => s.link.req.held
  | 0x014, _ => s.link.mgt.held
  | _, _ => 0

/-- The TRX page (R190). -/
def State.roTrx (s : State) (off lo : Nat) : Nat :=
  match off, lo with
  | 0x008, 16 => s.trx.rdAcct.outstanding
  | 0x008, _ => s.trx.wrAcct.outstanding
  | 0x00c, 16 => s.trx.rdAcct.quarantined
  | 0x00c, _ => s.trx.wrAcct.quarantined
  | _, _ => 0

/-- The REG page (R219). -/
def State.roReg (s : State) (off lo : Nat) : Nat :=
  match off, lo with
  | 0x008, 16 => s.topBand
  | 0x008, _ => s.regul.floorNow
  | 0x010, 16 => s.ctxSum (fun _ c => c.committed)
  | 0x010, _ => s.ctxSum (fun _ c => c.minEff)
  | 0x014, 16 => s.resvSum
  | 0x014, _ => s.sharedFree
  | _, _ => 0

/-- A context-table entry (R204). -/
def State.roCtx (s : State) (k off lo : Nat) : Nat :=
  let c := s.ctx k
  match off, lo with
  | 0x008, 16 => c.resv
  | 0x008, _ => c.minEff
  | 0x00c, 29 => s.urgency k
  | 0x00c, 16 => c.out
  | 0x00c, _ => (s.ctxQueue k).length
  | 0x010, _ => c.winLines
  | 0x028, _ => c.shortWin
  | 0x02c, _ => c.latMiss
  | _, _ => 0

/-- The MAP page (R201). -/
def State.roMap (s : State) (off i : Nat) : Nat :=
  let serve := serveList (s.rf RF.MAP_SERVE)
  match off with
  | 0x00c => serve.length
  | 0x010 => serve.length * 2 ^ 25
  | 0x014 => bitsOf 32 (fun n => serve.contains n && s.chFenced n)
  | 0x040 => s.shownPeer 0x40004
  | 0x044 => s.shownPeer 0x40008
  | 0x048 => s.shownPeer (0x40800 + 4 * i)
  | _ => 0

/-- A CHN page (R249). MASKED reads what masks the agents, and so 0xff while D8 to D23 are off, from power-good on, although the
table's reset column gives 0 (DESIGN CHOICE, log 96). -/
def State.roChn (s : State) (ch off lo : Nat) : Nat :=
  let c := s.chan ch
  match off, lo with
  | 0x004, 25 => b2n (s.forcing ch .mute)
  | 0x004, 24 => b2n (s.forcing ch .ref)
  | 0x004, 23 => b2n c.batch
  | 0x004, 20 => (match c.holder with | some a => agentNum a | none => 0)
  | 0x004, 19 => b2n c.holder.isNone
  | 0x004, 8 => tieOrder.foldl (fun x a => x + (if s.masked ch a then 2 ^ agentNum a else 0)) 0
  | 0x004, _ => tieOrder.foldl (fun x a => x + (if (c.agent a).asks then 2 ^ agentNum a else 0)) 0
  | 0x008, 16 => c.writes.length
  | 0x008, _ => c.reads.length
  | 0x00c, 16 => c.wseqNext
  | 0x00c, _ => c.drained
  | 0x010, _ => tieOrder.foldl (fun x a => x + min 15 (s.eff ch a) * 16 ^ agentNum a) 0
  | _, _ => 0

/-- The REF page (R294). -/
def State.roRef (s : State) (p off lo i : Nat) : Nat :=
  let c := s.chan (s.view p .ref % 32)
  match off, lo with
  | 0x004, _ => (List.range 32).foldl (fun b n => max b (s.chan n).band) 0
  | 0x010, 29 => c.band
  | 0x010, 28 => b2n c.sweep.isSome
  | 0x010, 19 => twos 5 ((List.range 64).foldl (fun (m : Int) b => max m (c.banks.get b).owed) (-16))
  | 0x010, 14 => twos 5 ((List.range 64).foldl (fun (m : Int) b => min m (c.banks.get b).owed) 15)
  | 0x010, _ => c.temp / 4
  | 0x014, _ => bitsOf 32 (fun b => (c.banks.get (32 * i + b)).suspect)
  | 0x810, _ => slotCount i
  | _, _ => 0

/-- The window W of a band, in drone ticks (R271). -/
def bandWindow (b : Nat) : Nat := 64000 / 2 ^ b

/-- The threshold that counts for a channel's hard limit: the larger of the old and the new T until one window of its band
has passed, then T (R286). -/
def State.hardBase (s : State) (ch : Nat) : Nat :=
  let c := s.chan ch
  if !c.threshDue.isEmpty then max c.tOld (2 ^ (8 + s.rf RF.MUT_THRESH_CODE))
  else if s.now < c.tSince + bandWindow c.band then max c.tOld c.tPrev else c.tOld

/-- The MUT page (R295). T and the hard limit are the largest of the channels', where these differ (log 23). -/
def State.roMut (s : State) (p off lo i : Nat) : Nat :=
  let c := s.chan (s.view p .mut % 32)
  match off, lo with
  | 0x008, _ => bitsOf 32 (fun n => (List.range 64).any (fun b => s.hot n b))
  | 0x010, _ => c.backlog.length
  | 0x014, _ => bitsOf 32 (fun b => s.hot (s.view p .mut % 32) (32 * i + b))
  | 0x804, 16 => (List.range 32).foldl (fun m n => max m (s.hardBase n)) 0 * 3 / 2
  | 0x804, _ => (List.range 32).foldl (fun m n => max m (s.chan n).tOld) 0
  | _, _ => 0

/-- The value of a read-only field: page copy `n`, repetition `i`, as path `p` sees it. -/
def State.roValue (s : State) (p : Nat) (f : Field) (n i : Nat) : Nat :=
  match f.page with
  | .sys => s.roSys p f.off f.lo i
  | .pwr => s.roPwr f.off f.lo
  | .flt => s.roFlt f.off f.lo
  | .evt => s.roEvt p f.off i
  | .upd => s.roUpd f.off f.lo i
  | .sec => s.roSec p f.off f.lo
  | .cap => s.roCap f.off f.lo
  | .cal => s.roCal p f.off f.lo
  | .mir => s.roMir f.off f.lo
  | .rpr => s.roRpr p f.off f.lo
  | .crs => s.roCrs n f.off f.lo
  | .lnk => s.roLnk f.off f.lo
  | .trx => s.roTrx f.off f.lo
  | .reg => s.roReg f.off f.lo
  | .rqm => 0
  | .ctx => s.roCtx n f.off f.lo
  | .map => s.roMap f.off i
  | .chn => s.roChn n f.off f.lo
  | .tab => if f.off = 0x004 then s.tab.used else f.reset
  | .ref => s.roRef p f.off f.lo i
  | .mut => s.roMut p f.off f.lo i

end Sys2Proof.Machine
end

