-- ==== Sys2Proof/Machine/RegOps.lean ====
section
/-! DEFINITION. The register window: what stands at an offset, who may read and write it, and what a read returns
(04_control_plane, 21_register_map, R337, R338). The effects of writes are in WriteOps. -/

namespace Sys2Proof.Machine

/-! ### What stands at an offset (R75, R463 to R469) -/

/-- What a word of the window is. `peek` marks an alias of R464; `x` is an offset within its page. -/
inductive RegKind where
  | unmapped
  | mode (p : Page) (n : Nat) (peek : Bool)
  | reg (p : Page) (n x : Nat) (peek : Bool)
  | counter (p : Page) (off : Nat) (high peek : Bool)
  | summary (b : Nat)
  | snapshot (x : Nat)
  | tabEntry (e : Nat)
  | tabRow (r : Nat) (high : Bool)
  deriving DecidableEq, Repr

/-- The spans of the 64-bit counters of a page (21_register_map, Counters). -/
def counterSpans (p : Page) : List (Nat × Nat) :=
  match p with
  | .pwr => [(0x100, 0x130)]
  | .evt => [(0x100, 0x128)]
  | .upd => [(0x100, 0x120)]
  | .sec => [(0x100, 0x140)]
  | .cap => [(0x100, 0x1a0)]
  | .cal => [(0x100, 0x130)]
  | .mir => [(0x100, 0x130)]
  | .rpr => [(0x100, 0x118), (0x180, 0x290)]
  | .crs => [(0x100, 0x148), (0x180, 0x208)]
  | .trx => [(0x100, 0x138)]
  | .map => [(0x100, 0x108)]
  | .chn => [(0x100, 0x150), (0x180, 0x1c0)]
  | .tab => [(0x100, 0x200)]
  | .ref => [(0x100, 0x138)]
  | .mut => [(0x100, 0x128)]
  | .ctx => [(0x020, 0x028)]
  | _ => []

/-- An offset lies in a page's counters. -/
def isCounter (p : Page) (x : Nat) : Bool := (counterSpans p).any (fun r => decide (r.1 ≤ x) && decide (x < r.2))

/-- The fields of a page's word at an offset, each with its repetition. -/
def fieldsAt (p : Page) (x : Nat) : List (Field × Nat) :=
  (fieldsOf p).filterMap (fun f =>
    if f.off ≤ x ∧ (x - f.off) % f.stride = 0 ∧ (x - f.off) / f.stride < f.rep then some (f, (x - f.off) / f.stride)
    else none)

/-- A word of a function page: `x` is its offset in the page, `y` that of the register an alias shows. -/
def pageWord (p : Page) (n x : Nat) : RegKind :=
  let peek := decide (x / 0x400 % 2 = 1)
  let y := if peek then x - 0x400 else x
  if y = 0 then .mode p n peek
  else if isCounter p y then .counter p (pageBase p n + y / 8 * 8) (decide (y % 8 = 4)) peek
  else if (fieldsAt p y).isEmpty then .unmapped
  else .reg p n y peek

/-- A word of the context table: entry `n`, offset `x` in the entry; its RC word has its alias at +0x18 (R204). -/
def ctxWord (n x : Nat) : RegKind :=
  if x = 0x18 then .reg .ctx n 0x14 true
  else if isCounter .ctx x then .counter .ctx (pageBase .ctx n + 0x20) (decide (x = 0x24)) false
  else .reg .ctx n x false

/-- What stands at a byte offset of the window (R463). -/
def regKind (off : Nat) : RegKind :=
  let x := off % 0x1000
  if off < 0x1000 then (if x < 0x800 then pageWord .sys 0 x else .summary (x - 0x800))
  else if off < 0x2000 then pageWord .pwr 0 x
  else if off < 0x3000 then pageWord .flt 0 x
  else if off < 0x4000 then pageWord .evt 0 x
  else if off < 0x5000 then pageWord .upd 0 x
  else if off < 0x6000 then pageWord .sec 0 x
  else if off < 0x7000 then pageWord .cap 0 x
  else if off < 0x8000 then pageWord .cal 0 x
  else if off < 0x9000 then pageWord .mir 0 x
  else if off < 0xa000 then pageWord .rpr 0 x
  else if off < 0x10000 then .unmapped
  else if off < 0x1c000 then pageWord .crs ((off - 0x10000) / 0x1000) x
  else if off < 0x1d000 then pageWord .lnk 0 x
  else if off < 0x20000 then .unmapped
  else if off < 0x21000 then pageWord .trx 0 x
  else if off < 0x22000 then pageWord .reg 0 x
  else if off < 0x26000 then .reg .rqm 0 (off - 0x22000) false
  else if off < 0x30000 then .unmapped
  else if off < 0x40000 then ctxWord ((off - 0x30000) / 64) (off % 64)
  else if off < 0x41000 then pageWord .map 0 x
  else if off < 0x80000 then .unmapped
  else if off < 0xa0000 then pageWord .chn ((off - 0x80000) / 0x1000) x
  else if off < 0xa1000 then pageWord .tab 0 x
  else if off < 0xa1100 then .tabEntry ((off - 0xa1000) / 4)
  else if off < 0xa2000 then .unmapped
  else if off < 0xa4000 then .tabRow ((off - 0xa2000) / 8) (decide (off % 8 = 4))
  else if off < 0xb0000 then .unmapped
  else if off < 0xb1000 then pageWord .ref 0 x
  else if off < 0xb2000 then pageWord .mut 0 x
  else if off < 0xc0000 then .unmapped
  else if off < 0xd0000 then .snapshot (off - 0xc0000)
  else .unmapped

/-- The fields of a word; the requester map repeats one word (R202). -/
def fieldsOfWord (p : Page) (x : Nat) : List (Field × Nat) :=
  match p with
  | .rqm => (fieldsOf .rqm).map (fun f => (f, x / 4))
  | p => fieldsAt p x

/-- The page, for BUSY and the domain, that an offset belongs to: its first byte (R75, R463). The requester map and the context table
have no MODE to show their BUSY in; each is taken as a page of its own, whose BUSY and marks no register shows (R86 names none:
DESIGN CHOICE, log 114). -/
def busyKey (off : Nat) : Nat :=
  if 0x22000 ≤ off ∧ off < 0x26000 then 0x22000
  else if 0x30000 ≤ off ∧ off < 0x40000 then 0x30000
  else if 0xa0000 ≤ off ∧ off < 0xa4000 then 0xa0000
  else if 0xc0000 ≤ off ∧ off < 0xd0000 then 0xc0000
  else off / 0x1000 * 0x1000

/-- The domain that holds a word, as a path sees it: the TAB entries and rows are those of the viewed channel (R463). -/
def State.wordDomain (s : State) (p off : Nat) : Nat :=
  match regKind off with
  | .mode _ _ _ => 0
  | .tabEntry _ => chDomain (s.view p .tab % 32)
  | .tabRow _ _ => chDomain (s.view p .tab % 32)
  | _ => pageDomain off

/-! ### Levels (R71, R331, R337, R433) -/

/-- The level of an access. -/
def State.accessLevel (s : State) (a : Access) : Nat :=
  match a.path with
  | .link => s.linkLevel (!(s.link.courses.get a.course).encrypted) a.priv a.secure
  | .smp => 0
  | .smpSession => match s.sec.smp.session with
    | some x => if x.live && x.secure then 2 else 0
    | none => 0
  | .wrapper => if s.sec.lock then 0 else 2

/-- While LOCK is 0 every SEC field is open (R337). -/
def State.secOpen (s : State) (p : Page) : Bool := p == .sec && !s.sec.lock

/-- The level that reads a page's fields without the suffix S. -/
def State.pageRead (s : State) (p : Page) : Nat := if s.secOpen p then 0 else if p = .evt ∨ p = .sec then 1 else 0

/-- The level that writes a page's fields without the suffix S. -/
def State.pageWrite (s : State) (p : Page) : Nat := if s.secOpen p then 0 else if p = .upd ∨ p = .sec then 2 else 1

/-- The level that reads a field. -/
def State.readLevel (s : State) (f : Field) : Nat := if f.sec && !s.secOpen f.page then 2 else s.pageRead f.page

/-- The level that writes a field. -/
def State.writeLevel (s : State) (f : Field) : Nat := if f.sec && !s.secOpen f.page then 2 else s.pageWrite f.page

/-- The level that writes MODE of a page. -/
def State.modeWrite (s : State) (p : Page) : Nat := if s.secOpen p then 0 else 1

/-! ### Recorded accesses (R73) -/

/-- FIRST_PATH's code of a path; CM_REG has the code that the table leaves reserved (log 24). -/
def firstPath (p : Path) : Nat :=
  match p with
  | .link => 0
  | .smp => 1
  | .smpSession => 2
  | .wrapper => 3

/-- SYS_ACCERR takes the path and offset of the first access recorded since its last read. -/
def State.recordAccess (s : State) (p : Path) (off : Nat) (f : Field) : State :=
  (when (!s.regs.accSeen) (fun t =>
    ({ t with regs := { t.regs with accSeen := true } } : State).stickBits RF.SYS_FIRST_PATH 0 (firstPath p)
      |>.stickBits RF.SYS_FIRST_OFFSET 0 (off / 4)) s).stick f

/-- A denied access, or one to an unmapped offset (R73, R418). -/
def State.noteAccess (s : State) (p : Path) (off : Nat) (unmapped : Bool) : State :=
  (s.recordAccess p off (if unmapped then RF.SYS_UNMAPPED else RF.SYS_DENIED)).event 0x00 0x0105 0
    [(0, 1, firstPath p), (1, 1, b2n unmapped), (4, 4, off / 4)]

/-! ### Reads -/

/-- A view field's own copy of a path (R467). -/
def viewOf (f : Field) : Option View :=
  if f = RF.EVT_SEQ then some .evt else if f = RF.TAB_CH then some .tab else if f = RF.REF_VIEW_CH then some .ref
  else if f = RF.MUT_CH then some .mut else if f = RF.CAL_VIEW_CH then some .cal else if f = RF.RPR_VIEW_CH then some .rpr
  else none

/-- The value of a field that software may both read and write. -/
def State.rwValue (s : State) (p : Nat) (f : Field) (n i : Nat) : Nat :=
  match viewOf f with
  | some v => s.view p v
  | none =>
    if f = RF.SEC_PARTNER then s.view p .key / 2048
    else if f = RF.SEC_KEYID then s.view p .key % 2048
    else if f = RF.FLT_DRIVE then b2n s.flt.drive
    else stored s.regs.force (f.addr n i) f i

/-- The value that a read of a field returns (R77, R89). -/
def State.fieldRead (s : State) (p : Nat) (f : Field) (n i : Nat) : Nat :=
  match f.acc with
  | .ro => s.roValue p f n i
  | .rc => s.sticky f n
  | .wo => 0
  | .rwb => s.rsn f n i
  | .rwp => if f = RF.SEC_LOCK then b2n s.sec.lock else s.regs.views.get 9
  | .rw => s.rwValue p f n i

/-- The fields of a word that a level may read, laid out in the word. -/
def State.wordRead (s : State) (p level : Nat) (l : List (Field × Nat)) (n : Nat) : Word :=
  BitVec.ofNat 32 ((l.filter (fun f => decide (s.readLevel f.1 ≤ level))).foldl (fun w f =>
    w + s.fieldRead p f.1 n f.2 % 2 ^ (f.1.hi + 1 - f.1.lo) * 2 ^ f.1.lo) 0)

/-- A read by a sufficient level clears the RC bits that it returned (R89, R338); one of SYS_ACCERR makes the next access
recorded the first again (R74). -/
def State.clearRc (s : State) (level : Nat) (l : List (Field × Nat)) (n : Nat) : State :=
  forAll (l.filter (fun f => f.1.acc == .rc && decide (s.readLevel f.1 ≤ level) && decide (s.writeLevel f.1 ≤ level)))
    (fun f t => { t with regs := { t.regs with
      sticky := t.regs.sticky.upd (f.1.addr n 0) (fun w => putBits w f.1.hi f.1.lo 0)
      accSeen := t.regs.accSeen && !(f.1 == RF.SYS_FIRST_OFFSET) } }) s

/-- A page has a posted write that has not taken effect (R75). -/
def State.busy (s : State) (key : Nat) : Bool := s.regs.posted.any (fun e => !e.late && busyKey e.off == key)

/-- MODE of a page as it reads (R75, R153, R465). -/
def State.modeWord (s : State) (p : Page) (n : Nat) : Word :=
  let b := pageBase p n
  let own := if p = .sys ∨ p = .crs then 0#32 else s.regs.shadow.get b &&& 0x1ff#32
  own ||| BitVec.ofNat 32 (b2n (s.busy b) * 2 ^ 31 + b2n (s.regs.dropped.get b) * 2 ^ 30 + b2n (s.regs.failed.get b) * 2 ^ 29)

/-- The value of a counter. -/
def State.counter (s : State) (off : Nat) : BitVec 64 := s.regs.counters.get off

/-- Set a path's latch of R82. -/
def State.setLatch (s : State) (p off : Nat) (v : Word) : State :=
  { s with regs := { s.regs with latch := s.regs.latch.set (latchKey p off) v } }

/-- What a read leaves behind beside its RC bits: the latches of R64, R82 and R362. -/
def State.readLatch (s : State) (p : Nat) (off : Nat) : State :=
  if off = 0x40 ∨ off = 0x440 then s.setLatch p 0x44 (BitVec.ofNat 32 (fieldNat s.time.stamp 47 32))
  else if off = 0x701c ∨ off = 0x741c then
    s.setLatch p 0x7020 (BitVec.ofNat 32 (fieldNat (s.calCh (s.view p .cal % 32)).last 47 32))
  else s

/-- A word of the state-summary window (R469). -/
def State.summaryWord (s : State) (b : Nat) : Word := BitVec.ofNat 32 (leNat ((s.regs.window.drop b).take 4))

/-- A word of the snapshot holding area (R84, R468): 64-bit words at their offsets, the first two the header. -/
def State.snapWord (s : State) (x : Nat) : Word := (s.regs.snapshot.get (x / 8)).extractLsb' (x % 8 / 4 * 32) 32

/-- A word read from the window by a level through a path: the value and the state that the read leaves (R73, R82, R89). -/
def State.readWord (s : State) (path : Path) (level off : Nat) : Word × State :=
  let p := pathNum path
  match regKind off with
  | .unmapped => (0#32, s.noteAccess path off true)
  | .summary b => (s.summaryWord b, s)
  | .snapshot x => (s.snapWord x, s)
  | .tabEntry e => (s.tab.entries.get e &&& 0x80ff03ff#32, s)
  | .tabRow r high => ((s.tab.rows.get r).extractLsb' (if high then 32 else 0) 32, s)
  | .mode pg n peek =>
    let w := s.modeWord pg n
    if peek || decide (level < s.modeWrite pg) then (w, s)
    else (w, { s with regs := { s.regs with
      dropped := s.regs.dropped.set (pageBase pg n) false, failed := s.regs.failed.set (pageBase pg n) false } })
  | .counter pg at0 high _ =>
    if level < s.pageRead pg then (0#32, s.noteAccess path off false)
    else if high then (s.regs.latch.get (latchKey p (at0 + 4)), s)
    else (((s.counter at0).setWidth 32), s.setLatch p (at0 + 4) ((s.counter at0).extractLsb' 32 32))
  | .reg pg n x peek =>
    let l := fieldsOfWord pg x
    if !l.isEmpty && l.all (fun f => decide (level < s.readLevel f.1)) then (0#32, s.noteAccess path off false)
    else
      let t := s.readLatch p off
      (s.wordRead p level l n, if peek then t else t.clearRc level l n)

/-! ### Order on a path (R74) -/

/-- Accesses of a path wait: posted writes that have not taken effect, or reads that stall. -/
def State.pathWaits (s : State) (p : Nat) : Bool :=
  s.regs.posted.any (fun e => pathNum e.access.path == p) || s.regs.stalled.any (fun r => pathNum r.access.path == p)

/-- The number of the next access that waits. -/
def State.nextOrd (s : State) : Nat := (s.regs.posted.map (·.ord) ++ s.regs.stalled.map (·.ord)).foldl max 0 + 1

/-- The wrapper's access has completed with a STATUS (R432). -/
def State.cmDone (s : State) (status : Nat) (v : Word) : State :=
  { s with rpr := { s.rpr with
      cmBusy := false,
      cmResult := BitVec.ofNat 56 (s.rpr.cmResult.toNat / 2 ^ 36 * 2 ^ 36 + status * 2 ^ 32 + v.toNat) } }

/-- An access reads a value for its master: a CFGRD's goes into its short RDATA, CM_REG's into its data register with STATUS 1
where it is denied or unmapped, any other is kept as the value that its path returned, with a status byte in an SMP session, whose
codes are the model's (R330; DESIGN CHOICE, log 141). -/
def State.giveValue (s : State) (a : Access) (tag : Option Nat) (bad : Bool) (v : Word) : State :=
  match tag.bind (fun t => s.reqOf false t), a.path with
  | some r, _ => s.rdShort r v
  | none, .wrapper => s.cmDone (b2n bad) v
  | none, .smpSession => { s with regs := { s.regs with smpValue := some v, smpStatus := some (BitVec.ofNat 8 (b2n bad)) } }
  | none, _ => { s with regs := { s.regs with smpValue := some v } }

/-- In ROM recovery mode the SMP may read the SYS page only (R98); another access is answered as a denied one (log 97). -/
def State.closedTo (s : State) (p : Path) (off : Nat) : Bool :=
  s.boot.stage == .recovery && (p == .smp || p == .smpSession) && decide (0x1000 ≤ off)

/-- A read of a word by a level is denied, or unmapped (R73). -/
def State.readBad (s : State) (level off : Nat) : Bool :=
  match regKind off with
  | .unmapped => true
  | .counter pg _ _ _ => decide (level < s.pageRead pg)
  | .reg pg _ x _ => !(fieldsOfWord pg x).isEmpty && (fieldsOfWord pg x).all (fun f => decide (level < s.readLevel f.1))
  | _ => false

/-- A read whose domain has failed to wake (R88): ERR WAKE_FAIL on the link, zero on the SMP. -/
def State.readFails (s : State) (a : Access) (off : Nat) (tag : Option Nat) (d : Nat) : State :=
  let t := s.recordAccess a.path off RF.SYS_WAKE_FAIL
  match tag.bind (fun g => t.reqOf false g) with
  | some r => t.fail r .wakeFail d
  | none => t.giveValue a none true 0#32

/-- The SMP's address phase is acknowledged, or refused (R37). -/
def State.smpAnswers (s : State) (ack : Bool) : State := { s with pins := { s.pins with smpAck := ack } }

/-- The SMP read of an offset that was refused for a domain, whose wake has failed since (R88, R375). -/
def State.nackFailed (s : State) (d off : Nat) : Bool := s.regs.nacked == some (d, off, true)

/-- A read whose data is not available: on the SMP its address is refused, and the controller sends it again (R37, R74, R88); on
another path it stalls, under its number. `w` is the domain that it waits for. -/
def State.stallRead (s : State) (a : Access) (off : Nat) (tag : Option Nat) (w : Option Nat) (ord : Nat) : State :=
  match a.path with
  | .smp => ({ s with regs := { s.regs with nacked := w.map (fun d => (d, off, false)) } } : State).smpAnswers false
  | _ => { s with regs := { s.regs with stalled := s.regs.stalled ++ [⟨a, off, tag, w, ord⟩] } }

/-- The domain of a word can answer a read now: it is on, or has failed; an unmapped offset needs none. -/
def State.readable (s : State) (p off : Nat) : Bool :=
  regKind off == .unmapped || s.domOn (s.wordDomain p off) || (s.dom (s.wordDomain p off)).st == .failed

/-- A read whose turn it is wakes a sleeping domain and waits for it, or returns (R74, R88). -/
def State.readTurn (s : State) (a : Access) (off : Nat) (tag : Option Nat) (ord : Nat) : State :=
  let p := pathNum a.path
  let d := s.wordDomain p off
  let taken : State := when (a.path == .smp) (fun t =>
    ({ t with regs := { t.regs with nacked := none } } : State).smpAnswers true) s
  if s.closedTo a.path off then (taken.noteAccess a.path off false).giveValue a tag true 0#32
  else if regKind off = .unmapped ∨ s.domOn d then
    match taken.readWord a.path (s.accessLevel a) off with
    | (v, t) => t.giveValue a tag (s.readBad (s.accessLevel a) off) v
  else if (s.dom d).st = .failed ∨ (a.path = .smp ∧ s.nackFailed d off) then taken.readFails a off tag d
  else (s.wake d).stallRead a off tag (some d) ord

/-- A read arrives: it ends a DELAY of its domain (R367), waits behind the earlier accesses of its path that wait, or has its turn
(R74). -/
def State.readReg (s : State) (a : Access) (off : Nat) (tag : Option Nat) : State :=
  let p := pathNum a.path
  let s := if s.closedTo a.path off ∨ regKind off = .unmapped then s else s.accessDom (s.wordDomain p off)
  if s.pathWaits p then s.stallRead a off tag none s.nextOrd else s.readTurn a off tag s.nextOrd

/-! ### Fields written -/

/-- The value that a word written carries into a field. -/
def Field.of (f : Field) (v : Word) : Nat := fieldNat v f.hi f.lo

/-- A write of a word is denied: its level may write no field of it, or it carries a 1 into a field that its level may
not write (R73). -/
def State.writeDenied (s : State) (level : Nat) (l : List (Field × Nat)) (v : Word) : Bool :=
  let barred := l.filter (fun f => decide (level < s.writeLevel f.1))
  (!l.isEmpty && barred.length == l.length) || barred.any (fun f => f.1.of v != 0)

/-- The bits of a word's fields that the level may write. -/
def State.writable (s : State) (level : Nat) (l : List (Field × Nat)) : Word :=
  BitVec.ofNat 32 ((l.filter (fun f => decide (s.writeLevel f.1 ≤ level))).foldl (fun w f =>
    w + (2 ^ (f.1.hi + 1 - f.1.lo) - 1) * 2 ^ f.1.lo) 0)

/-- A shadow is written, and counts as written since the group's previous commit (R77, R78). -/
def State.putShadow (s : State) (f : Field) (n i v : Nat) : State :=
  { s with regs := { s.regs with
      shadow := s.regs.shadow.upd (f.addr n i) (fun w => putBits w f.hi f.lo (v ^^^ f.resetAt i))
      touched := s.regs.touched.upd (f.addr n i) (fun w => putBits w f.hi f.lo (2 ^ 32 - 1)) } }

/-- A path's view field is written. -/
def State.putView (s : State) (p : Nat) (f : Field) (v : Nat) : State :=
  match viewOf f with
  | some w => s.setView p w v
  | none =>
    if f = RF.SEC_PARTNER then s.setView p .key (v % 2 * 2048 + s.view p .key % 2048)
    else if f = RF.SEC_KEYID then s.setView p .key (s.view p .key / 2048 * 2048 + v)
    else s

/-- A write of FLT_PIN is a release whose SEQ is not that of the last assertion: it is ignored (R409). -/
def State.pinStale (s : State) (v : Word) : Bool := !bitAt v 0 && fieldNat v 15 8 != s.flt.asserts % 256

/-- The stored effect of a word written: shadows of the RWB fields, the RW fields and views (R77). A release of FAULT_N that is ignored
stores nothing (R409). -/
def State.storeFields (s : State) (p level : Nat) (l : List (Field × Nat)) (n : Nat) (v : Word) : State :=
  forAll (l.filter (fun f => decide (s.writeLevel f.1 ≤ level))) (fun f t =>
    match f.1.acc with
    | .rwb => t.putShadow f.1 n f.2 (f.1.of v)
    | .rw =>
      if (f.1 = RF.FLT_SEQ ∨ f.1 = RF.FLT_DRIVE) ∧ s.pinStale v then t
      else (t.putForce f.1 n f.2 (f.1.of v)).putView p f.1 (f.1.of v)
    | _ => t) s

end Sys2Proof.Machine
end

