-- ==== Sys2Proof/Machine/CommitOps.lean ====
section
/-! DEFINITION. Commits: the capture of the shadows, the checks of each group, and their application (04_control_plane,
R153, R190, R193, R197 to R199, R207 to R210, R247, R268, R281, R301, R305, R366, R102). -/

namespace Sys2Proof.Machine

/-! ### Groups and buffered words (R463) -/

/-- The commit group of a buffered word by its offset; PROG_LIMIT of TRX is in G10 (R190). -/
def wordGroup (off : Nat) : Nat :=
  if off < 0x2000 then 8 else if off < 0x4000 then 10 else if off < 0x6000 then 9 else if off < 0x7000 then 6
  else if off < 0x8000 then 7 else if off < 0x10000 then 10 else if off < 0x20000 then 1
  else if off < 0x21000 then (if off = 0x20804 then 10 else 1)
  else if off < 0x40000 then 0 else if off < 0x80000 then 3 else if off < 0xb0000 then 2
  else if off < 0xb1000 then 4 else 5

/-- The page's MODE holds PRESET and EXPERT_EN (R153, R465). -/
def hasPreset (p : Page) : Bool := !(p == .sys || p == .crs || p == .rqm || p == .ctx)

/-- A word holds buffered fields. -/
def isBuffered (off : Nat) : Bool :=
  match regKind off with
  | .mode p _ false => hasPreset p
  | .reg p _ x false => (fieldsOfWord p x).any (fun f => f.1.acc == .rwb)
  | _ => false

/-- The number of profiles of a page (R153, R190, R194, R219, R249, R270, R294, R295, R308, R341, R362, R380, R399, R419,
R420, R438, R462). -/
def presetCount (p : Page) : Nat :=
  match p with
  | .lnk => 3
  | .reg => 3
  | .chn => 3
  | .map => 2
  | .ref => 2
  | .mut => 3
  | .cap => 3
  | .cal => 3
  | .pwr => 3
  | .flt => 3
  | _ => 1

/-- The pages with a MODE of their own in a group, with their copies; TRX's MODE is in G1 (DEDUCED, log 25). -/
def groupPages (g : Nat) : List (Page × Nat) :=
  match g with
  | 0 => [(.reg, 0)]
  | 1 => [(.lnk, 0), (.trx, 0)]
  | 2 => (.tab, 0) :: (List.range 32).map (fun n => (.chn, n))
  | 3 => [(.map, 0)]
  | 4 => [(.ref, 0)]
  | 5 => [(.mut, 0)]
  | 6 => [(.cap, 0)]
  | 7 => [(.cal, 0)]
  | 8 => [(.pwr, 0)]
  | 9 => [(.upd, 0), (.sec, 0)]
  | 10 => [(.flt, 0), (.evt, 0), (.mir, 0), (.rpr, 0)]
  | _ => []

/-- The groups of a mask. -/
def maskGroups (mask : Nat) : List Nat := (List.range 16).filter (fun g => mask.testBit g)

/-! ### Capture (R77, R78) -/

/-- The expert fields of a page. -/
def expertFields (p : Page) : List Field := (fieldsOf p).filter (fun f => f.acc == .rwb && decide (0x800 ≤ f.off))

/-- A page copy's expert fields take given values, but for the fields that `kept` names by offset and lowest bit. -/
def fillExpert (kept : Nat → Nat → Bool) (value : Field → Nat → Nat) (p : Page) (n : Nat) (shadow : Tbl Word) : Tbl Word :=
  (expertFields p).foldl (fun t f => (List.range f.rep).foldl (fun t i =>
    if kept (f.addr n i) f.lo then t
    else t.upd (f.addr n i) (fun w => putBits w f.hi f.lo (value f i ^^^ f.resetAt i))) t) shadow

/-- A field has been written, by the marks of a table. -/
def isTouched (t : Tbl Word) (off lo : Nat) : Bool := bitAt (t.get off) lo

/-- PRESET of a page copy in some words. -/
def presetIn (t : Tbl Word) (p : Page) (n : Nat) : Nat := fieldNat (t.get (pageBase p n)) 7 0

/-- The latest pending commit that names a group. -/
def State.lastNaming (s : State) (g : Nat) : Option Commit :=
  (s.regs.commits.filter (fun c => !c.full && c.mask.testBit g)).getLast?

/-- The shadows that a commit captures (R77, R78): behind the group's previous commit, an expert field not written since is as that
one leaves it, and a PRESET that it changes brings the profile's values. -/
def State.capture (s : State) (mask : Nat) : Tbl Word :=
  (maskGroups mask).foldl (fun t g => (groupPages g).foldl (fun t pn =>
    let new := presetIn s.regs.shadow pn.1 pn.2
    let fill := fun value => fillExpert (isTouched s.regs.touched) value pn.1 pn.2 t
    match s.lastNaming g with
    | none => if new = s.preset pn.1 pn.2 then t else fill (fun f i => profileValue f new i)
    | some c =>
      if new = presetIn c.shadow pn.1 pn.2 then fill (fun f i => stored c.shadow (f.addr pn.2 i) f i)
      else fill (fun f i => profileValue f new i)) t) s.regs.shadow

/-- The marks of the fields written since a commit, without those of some groups. -/
def untouch (t : Tbl Word) (mask : Nat) : Tbl Word := ⟨t.dflt, t.ents.filter (fun e => !mask.testBit (wordGroup e.1))⟩

/-- A commit passes the commit mutex (R78). A mask of zero does nothing (R81). -/
def State.submit (s : State) (path level mask : Nat) : State :=
  if mask = 0 then s
  else
    let e := (s.regs.epoch + 1) % 2 ^ 32
    let full := decide (4 ≤ (s.regs.commits.filter (fun c => !c.full)).length)
    let c : Commit := ⟨e, mask, level, decide (2 ≤ level) || !s.sec.lock, s.capture mask, s.regs.touched, full, false, false,
      [], [], [], none, false, 0, [], [], false, 0⟩
    { s with regs := { s.regs with
        epoch := e, tickets := s.regs.tickets.set path e, commits := s.regs.commits ++ [c],
        touched := untouch s.regs.touched mask } }

/-! ### Checks (R79, R81) -/

/-- ADMISSION. -/
def rjAdmission : Nat := 1
/-- NOT_QUIESCED. -/
def rjQuiesce : Nat := 2
/-- PRIVILEGE. -/
def rjPrivilege : Nat := 3
/-- CONSISTENCY. -/
def rjConsistency : Nat := 4
/-- QUEUE_FULL. -/
def rjFull : Nat := 5
/-- RESERVED_GROUP. -/
def rjReserved : Nat := 6

/-- A field's captured value. -/
def Commit.raw (c : Commit) (f : Field) (n i : Nat) : Nat := stored c.shadow (f.addr n i) f i

/-- The captured EXPERT_EN of a page copy. -/
def Commit.expert (c : Commit) (p : Page) (n : Nat) : Bool := bitAt (c.shadow.get (pageBase p n)) 8

/-- The value that a field takes with the commit: an expert field's is the profile's where the commit leaves EXPERT_EN at 0
(R77; DEDUCED, log 99). -/
def Commit.val (c : Commit) (f : Field) (n i : Nat) : Nat :=
  if f.off < 0x800 || c.expert f.page n then c.raw f n i else profileValue f (presetIn c.shadow f.page n) i

/-- The captured words of a group that differ from their reset values. -/
def Commit.words (c : Commit) (g : Nat) : List Nat :=
  (c.shadow.ents.map (fun e => e.1)).filter (fun off => wordGroup off == g && isBuffered off)

/-- A word is in range with the values that the commit would put into force (log 99): its fields, or its PRESET. -/
def Commit.inRange (c : Commit) (off : Nat) : Bool :=
  match regKind off with
  | .mode p n _ => decide (presetIn c.shadow p n < presetCount p)
  | .reg p n x _ => (fieldsOfWord p x).all (fun f =>
      f.1.acc != .rwb || (decide (f.1.min ≤ c.val f.1 n f.2) && decide (c.val f.1 n f.2 ≤ f.1.max)))
  | _ => true

/-- Numbers rise strictly. -/
def ascend (l : List Nat) : Bool := (l.zip (l.drop 1)).all (fun p => decide (p.1 < p.2))

/-- The contexts whose captured entries differ from their reset values. -/
def Commit.ctxs (c : Commit) : List Nat :=
  ((c.words 0).filterMap (fun off => if 0x30000 ≤ off ∧ off < 0x40000 then some ((off - 0x30000) / 64) else none)).eraseDups

/-- The budget of an admission, in hundredths of 0.25 GB/s: FLOOR_NOW × ADMIT_FRAC (R209). -/
def State.admitBudget (s : State) (c : Commit) : Nat := s.regul.floorNow * c.val RF.REG_ADMIT_FRAC 0 0

/-- The sum of the captured MIN_BW. -/
def Commit.minSum (c : Commit) : Nat := c.ctxs.foldl (fun n k => n + c.val RF.CTX_MIN_BW k 0) 0

/-- A context's captured minimum, scaled at the expert level where the sum exceeds the budget (R210). -/
def State.scaledMin (s : State) (c : Commit) (k : Nat) : Nat :=
  if 100 * c.minSum ≤ s.admitBudget c || !c.expert .reg 0 then c.val RF.CTX_MIN_BW k 0
  else c.val RF.CTX_MIN_BW k 0 * s.admitBudget c / (100 * c.minSum)

/-- RESV of a captured context from a minimum (R207). -/
def Commit.resv (c : Commit) (k min0 : Nat) : Nat :=
  if c.val RF.CTX_CLASS k 0 = 1 then c.val RF.CTX_OUT_LIMIT k 0 else (min0 * c.val RF.REG_LLAT 0 0 + 255) / 256

/-- Admission at commit (R209, R210): the reason of a failure, or whether the minimums are scaled. -/
def State.checkAdmission (s : State) (c : Commit) : Option Nat × Bool :=
  let l := c.ctxs
  let rt := l.filter (fun k => c.val RF.CTX_CLASS k 0 == 1)
  let excess := decide (s.admitBudget c < 100 * c.minSum)
  if l.any (fun k => c.val RF.CTX_CLASS k 0 != 1 && decide (c.val RF.CTX_OUT_LIMIT k 0 < c.resv k (c.val RF.CTX_MIN_BW k 0)))
  then (some rjConsistency, false)
  else if c.val RF.REG_RT_SLOTS 0 0 < rt.foldl (fun n k => n + c.val RF.CTX_OUT_LIMIT k 0) 0 then (some rjAdmission, false)
  else if excess && !c.expert .reg 0 then (some rjAdmission, false)
  else if 5120 < l.foldl (fun n k => n + c.resv k (s.scaledMin c k)) 0 then (some rjAdmission, false)
  else (none, excess)

/-- The 6 × 6 matrix of the masks that the commit would put into force (log 99) is invertible: no set of its rows adds up to zero
(R193). -/
def Commit.invertible (c : Commit) : Bool :=
  let row := fun i => c.val RF.MAP_MASK 0 i / 2 ^ 19 % 64
  ((List.range 64).filter (fun m => m != 0)).all (fun m =>
    (List.range 6).foldl (fun x i => if m.testBit i then x ^^^ row i else x) 0 != 0)

/-- The consistency with each other of the values that a group would put into force (log 99). -/
def Commit.consistent (c : Commit) (g : Nat) : Bool :=
  match g with
  | 0 => ascend ([RF.REG_T1, RF.REG_T2, RF.REG_T3, RF.REG_T4, RF.REG_T5, RF.REG_T6, RF.REG_T7].map (fun f => c.val f 0 0))
  | 2 => (List.range 32).all (fun n => decide (c.val RF.CHN_LOW_WM n 0 < c.val RF.CHN_HIGH_WM n 0))
  | 3 => c.invertible && c.val RF.MAP_SERVE 0 0 != 0
  | 6 =>
    [RF.CAP_C_ACT, RF.CAP_C_RD, RF.CAP_C_WR, RF.CAP_C_AUX].all (fun f => decide (c.val f 0 0 ≤ c.val RF.CAP_DIE_CAP 0 0)) &&
      decide (c.val RF.CAP_F2 0 0 ≤ c.val RF.CAP_F1 0 0) && decide (c.val RF.CAP_F3 0 0 ≤ c.val RF.CAP_F2 0 0) &&
      decide (c.val RF.CAP_F4 0 0 ≤ c.val RF.CAP_F3 0 0) &&
      ascend ([RF.CAP_T1, RF.CAP_T2, RF.CAP_T3, RF.CAP_T4].map (fun f => c.val f 0 0))
  | 8 => ascend (([RF.PWR_IDLE_PD, RF.PWR_IDLE_SR, RF.PWR_IDLE_DEEP].map (fun f => c.val f 0 0)).filter (fun v => v != 0))
  | _ => true

/-- The check of one named group: the reason of its failure, and whether Camec changes values (R79, R81, R209). -/
def State.checkGroup (s : State) (c : Commit) (g : Nat) : Option Nat × Bool :=
  if 11 ≤ g then (some rjReserved, false)
  else if g = 9 ∧ !c.secureLvl ∧ !c.boot then (some rjPrivilege, false)
  else if !(c.words g).all c.inRange || !c.consistent g then (some rjConsistency, false)
  else if g = 0 then s.checkAdmission c
  else (none, false)

/-- The outcome of a checking phase: REJECT_MASK, REASON, and whether values are changed. A reserved group and a lacking
privilege give their reasons first (R81). -/
def State.checkCommit (s : State) (c : Commit) : Nat × Nat × Bool :=
  let l := (maskGroups c.mask).map (fun g => (g, s.checkGroup c g))
  let bad := l.filter (fun r => r.2.1.isSome)
  let reasons := bad.filterMap (fun r => r.2.1)
  let first := if reasons.contains rjReserved then rjReserved
    else if reasons.contains rjPrivilege then rjPrivilege else reasons.head?.getD 0
  (bad.foldl (fun m r => m + 2 ^ r.1) 0, first, l.any (fun r => r.2.2))

/-! ### Completion (R78, R79, R81) -/

/-- A commit completes: its result is written and SYS_COMMIT_EPOCH takes its epoch. -/
def State.finishCommit (s : State) (c : Commit) (reject reason result : Nat) : State :=
  { s with regs := { s.regs with
      results := s.regs.results.set (c.epoch % 4) ⟨c.epoch, reject, reason, result⟩
      doneEpoch := c.epoch
      commits := s.regs.commits.filter (fun x => x.epoch != c.epoch) } }

/-- Change the commit in its checking or apply phase. -/
def State.setCommit (s : State) (e : Nat) (f : Commit → Commit) : State :=
  { s with regs := { s.regs with commits := s.regs.commits.map (fun c => if c.epoch = e then f c else c) } }

/-- The commit completes as accepted or adjusted once no group is left. -/
def State.settleCommit (s : State) (e : Nat) : State :=
  match s.regs.commits.find? (fun c => c.epoch == e) with
  | none => s
  | some c =>
    if c.checked && c.waiting.isEmpty then s.finishCommit c 0 0 (if c.adjusted then 2 else 1) else s

/-- Every write buffer of the channels that this instance runs is drained to zero (R197, R230). -/
def State.drainAll (s : State) : State :=
  forAll s.runChannels (fun ch t =>
    if (t.chan ch).writes.isEmpty then t else (t.setChan ch (fun x => { x with drain := true })).agentAsks ch .wrd) s

/-- A G0 commit that fails check 2, 3 or 4 of R209 shows in ADMIT_REJECT (R219). -/
def State.noteAdmission (s : State) (c : Commit) : State :=
  when (c.mask.testBit 0 && (s.checkGroup c 0).1 == some rjAdmission) (fun t => t.stick RF.REG_ADMIT_REJECT) s

/-- The checking phase of the oldest commit (R79), at which the MAP_QUIESCE in force governs a commit that names G3; a COMMIT_WAIT
of 0, outside its range, leaves no tick for the switch (R201; DESIGN CHOICE, log 133): a QUEUE_FULL commit completes here, in
epoch order; a failed one is rejected; one that names G3 goes on to wait for quiesce (R197), and its writes are drained (R230). -/
def State.checkNext (s : State) : State :=
  match s.regs.commits with
  | [] => s
  | c :: _ =>
    if c.checked then s
    else if c.full then s.finishCommit c c.mask rjFull 3
    else match s.checkCommit c with
      | (0, _, adjusted) =>
        let g := maskGroups c.mask
        let t := s.setCommit c.epoch (fun x => { x with
          checked := true, adjusted := adjusted, waiting := g,
          chG2 := if c.mask.testBit 2 then List.range 32 else [],
          chG4 := if c.mask.testBit 4 then List.range 32 else [],
          deadline := if c.mask.testBit 3 then some (s.now + s.rf RF.MAP_COMMIT_WAIT) else none
          checkedAt := s.now
          slotAt := (List.range 32).map (fun ch => (s.chan ch).kCount)
          mins := c.ctxs.map (fun k => (k, s.scaledMin c k))
          holds := c.mask.testBit 3 && s.rfb RF.MAP_HOLD_ON_WAIT
          uidAt := s.trx.nextUid })
        when (c.mask.testBit 3) State.drainAll t
      | (m, reason, _) => (s.noteAdmission c).finishCommit c m reason 3

/-- The commit whose groups take effect, past its checking phase. -/
def State.applying (s : State) : Option Commit :=
  match s.regs.commits with
  | [] => none
  | c :: _ => if c.checked then some c else none

/-! ### Application (R80) -/

/-- The buffered words of some offsets come into force as a commit captured them; `at0` gives the place of each. -/
def State.putWords (s : State) (c : Commit) (p : Nat → Bool) (at0 : Nat → Nat) : State :=
  let keys := c.shadow.ents.map (fun (e : Nat × Word) => e.1) ++ s.regs.force.ents.map (fun (e : Nat × Word) => e.1 % 0x200000)
  let offs := keys.eraseDups.filter (fun off => p off && isBuffered off)
  { s with regs := { s.regs with
      force := offs.foldl (fun t off => t.set (at0 off) (c.shadow.get off)) s.regs.force } }

/-- A field was written before a commit in its apply phase, or since. -/
def State.writtenFor (s : State) (c : Commit) (off lo : Nat) : Bool :=
  isTouched c.touched off lo || isTouched s.regs.touched off lo || s.regs.commits.any (fun x => isTouched x.touched off lo)

/-- The shadows of a page whose PRESET a commit changed show the profile's values, but for fields written before or since
(R77). -/
def State.showProfile (s : State) (c : Commit) (p : Page) (n : Nat) : State :=
  let new := presetIn c.shadow p n
  if new = s.preset p n then s
  else { s with regs := { s.regs with
    shadow := fillExpert (s.writtenFor c) (fun f i => profileValue f new i) p n s.regs.shadow } }

/-- The words that a group puts into force at one event. -/
def State.putGroup (s : State) (c : Commit) (g : Nat) : State :=
  (forAll (groupPages g) (fun pn t => t.showProfile c pn.1 pn.2) s).putWords c (fun off => wordGroup off == g) (fun off => off)

/-- The minimum that the check gave a context. -/
def Commit.min0 (c : Commit) (k : Nat) : Nat := ((c.mins.find? (fun m => m.1 == k)).map (fun m => m.2)).getD (c.val RF.CTX_MIN_BW k 0)

/-- G0 takes effect at a roll: the committed minimums, RESV, the allowance above a lowered OUT_LIMIT, no deficit without a WEIGHT,
and every MIN_EFF by R212's formula from the FLOOR_NOW in force (R207, R208, R210, R212, R474). -/
def State.applyG0 (s : State) (c : Commit) : State :=
  let t := s.putGroup c 0
  let keys := (c.ctxs ++ s.regul.ctx.keysWhere (fun _ => true)).eraseDups
  State.scaleMins (forAll keys (fun k t =>
    let m := c.min0 k
    t.setCtx k (fun x => { x with
      committed := m, minEff := m, resv := c.resv k m,
      deficit := if c.val RF.CTX_WEIGHT k 0 = 0 then 0 else x.deficit,
      allow := if c.val RF.CTX_OUT_LIMIT k 0 < x.out then x.out else 0 })) t) s.regul.rollOld

/-- A threshold whose hard limit exceeds the core die's rating is in force: an event of severity 1 (R281). -/
def State.warnThresh (s : State) : State :=
  let v := s.rf RF.MUT_THRESH_CODE
  when (decide (4 ≤ v)) (fun t => t.event 0x82 0x0605 1 [(0, 1, v)]) s

/-- G5 takes effect: a new T is first written to every SID of each channel (R281, R286). -/
def State.applyG5 (s : State) (c : Commit) : State :=
  let old := s.rf RF.MUT_THRESH_CODE
  let t := (s.putGroup c 5).warnThresh
  if t.rf RF.MUT_THRESH_CODE = old then t
  else forAll t.runChannels (fun ch t =>
    (t.setChan ch (fun x => { x with threshDue := [0, 1, 2, 3] })).agentAsks ch .mute) t

/-- G6 takes effect: the refresh balances follow the new cost, and what they give up lapses (R300, R308), a purse that holds less
than a raised LUMP is topped up (R298), the floor cap follows the new costs (R307; log 117), a fall of F_TELEM is noted (R308). -/
def State.applyG6 (s : State) (c : Commit) : State :=
  let t := forAll (List.range 16) (fun g t =>
    let u := t.syncRefBal g
    (u.countBy 0x6198 ((u.purse g).returned - (t.purse g).returned)).topUp g) (s.putGroup c 6)
  t.publishFloor.noteCut s.telemFrac

/-- A map commit changes a value in force (R199). -/
def State.mapChanges (s : State) (c : Commit) : Bool :=
  let t := s.putWords c (fun off => wordGroup off == 3) (fun off => off)
  t.rf RF.MAP_GRAIN != s.rf RF.MAP_GRAIN || t.rf RF.MAP_SERVE != s.rf RF.MAP_SERVE ||
    (List.range 6).any (fun i => t.rfn RF.MAP_MASK 0 i != s.rfn RF.MAP_MASK 0 i)

/-- G3 takes effect: a changed map leaves every line undefined, and counts the CH_EPOCH of every channel of the old or new
SERVE (R199). -/
def State.applyG3 (s : State) (c : Commit) : State :=
  let t := s.putGroup c 3
  if s.mapChanges c then
    let chs := (serveList (s.rf RF.MAP_SERVE) ++ serveList (t.rf RF.MAP_SERVE)).eraseDups
    let t : State := { t with array := ⟨t.array.dflt, t.array.ents.filter (fun e => decide (2 ^ 30 ≤ e.1))⟩ }
    (forAll chs (fun ch t => t.epochUp ch) t).bumpGen.publishFloor.stick RF.MAP_SWITCHED
  else t

/-- A memory request delivered during the wait of a commit with HOLD_ON_WAIT, which is held for its map (R197). -/
def Commit.keeps (c : Commit) (r : Req) : Bool := c.holds && isMemory (hOp r.hdr) && decide (c.uidAt ≤ r.uid)

/-- Quiesce for a commit (R197): no memory request but those held for its map, no tag outstanding, every write buffer drained. -/
def State.quiesced (s : State) (c : Commit) : Bool :=
  s.trx.reqs.all (fun r => c.keeps r && r.stage == .held) && s.trx.respond.isEmpty &&
    (List.range 64).all (fun ch => (s.chan ch).writes.isEmpty)

/-- A group of the commit in its apply phase has taken effect. -/
def State.groupDone (s : State) (c : Commit) (g : Nat) : State :=
  (s.setCommit c.epoch (fun x => { x with waiting := x.waiting.filter (fun h => h != g) })).settleCommit c.epoch

/-- The words in force of one channel with its G2 values: its CHN page and its copy of the TAB page (R247, R268). -/
def State.withG2 (s : State) (c : Commit) (ch : Nat) : State :=
  ((s.showProfile c .chn ch).putWords c (fun off => decide (pageBase .chn ch ≤ off) && decide (off < pageBase .chn ch + 0x1000))
    (fun off => off)).putWords c (fun off => decide (0xa0000 ≤ off) && decide (off < 0xa1000)) (chanCopy ch)

/-- A channel has taken its G2 values; the last one brings the TAB page itself (R247, R268). -/
def State.g2Done (s : State) (ch : Nat) : State :=
  match s.applying with
  | none => s
  | some c =>
    let tab := fun (off : Nat) => decide (0xa0000 ≤ off) && decide (off < 0xa1000)
    let last := decide (c.chG2 = [ch])
    let t := when last (fun t => (t.showProfile c .tab 0).putWords c tab (fun off => off)) s
    let t := t.setCommit c.epoch (fun x => { x with chG2 := x.chG2.filter (fun n => n != ch) })
    when last (fun t => t.groupDone c 2) t

/-- The words that differ between two tables, with what they become. -/
def changedWords (old new : Tbl Word) : List (Nat × Word) :=
  (((old.ents ++ new.ents).map (fun e => e.1)).eraseDups.filter (fun k => new.get k != old.get k)).map (fun k => (k, new.get k))

/-- The G2 values of one channel: they take effect at once where PREEMPT_ON_COMMIT is 1 or no grant is held, and otherwise at the
channel's next decision (R247, R248). The partner channel of its number runs on the same registers and follows (log 95). -/
def State.applyG2 (s : State) (c : Commit) (ch : Nat) : State :=
  let u := s.withG2 c ch
  if s.rfn RF.CHN_PREEMPT_ON_COMMIT ch 0 = 1 ∨ s.holding ch = none then
    (((u.syncBatch ch).syncBatch (32 + ch)).testPreempt ch).g2Done ch
  else if (s.chan ch).g2.isSome ∨ (s.chan ch).g2Took then s
  else ({ u with regs := { u.regs with force := s.regs.force } } : State).setChan ch (fun x => { x with
    g2 := some (changedWords s.regs.force u.regs.force) })

/-- The channels whose decision has taken their G2 values are done with the commit; one that holds no grant takes them now
(R247). -/
def State.settleG2 (s : State) : State :=
  match s.applying with
  | none => s
  | some c => forAll c.chG2 (fun ch t =>
      let t := if (t.chan ch).g2.isSome && (t.holding ch).isNone then t.takeG2 ch else t
      if (t.chan ch).g2Took then (t.setChan ch (fun x => { x with g2Took := false })).g2Done ch else t) s

/-- G4 takes effect on one channel (R80, R294). -/
def State.applyG4 (s : State) (c : Commit) (ch : Nat) : State :=
  let last := decide (c.chG4 = [ch])
  let ref := fun (off : Nat) => wordGroup off == 4
  let t := s.putWords c ref (chanCopy ch)
  let t := when last (fun t => (t.showProfile c .ref 0).putWords c ref (fun off => off)) t
  let t := (t.setCommit c.epoch (fun x => { x with chG4 := x.chG4.filter (fun n => n != ch) })).refLimits ch
  when last (fun t => t.groupDone c 4) t

/-- MUTE runs an entry on some channel: G5 waits for its end (R80). -/
def State.muteRuns (s : State) : Bool :=
  s.runChannels.any (fun ch => match (s.chan ch).xfer with | some x => x.agent == .mute | none => false)

/-- An SPDM message or a key operation is in progress: G9 waits for its end (R80). -/
def State.securityBusy (s : State) : Bool :=
  !s.trx.keyOps.isEmpty || !s.trx.spdm.isEmpty || !s.sec.spdmWait.isEmpty || s.sec.link.held.isSome || s.sec.smp.held.isSome

/-- A commit in its apply phase has come to the safe point of a group, on a channel for G2 and G4 (R80): a window roll for G0, a
slot boundary of the channel for G4, a drone tick for G1, G6, G7, G8 and G10; the others' are with their own events. -/
def State.safePoint (s : State) (c : Commit) (g ch : Nat) : Bool :=
  match g with
  | 0 => decide (c.checkedAt < s.now) && s.regul.lastRoll == s.now
  | 2 => true
  | 4 => (s.chan ch).kCount != c.slotAt.getD ch 0 || !s.clocked ch
  | 5 => !s.muteRuns
  | 9 => !s.securityBusy
  | _ => decide (c.checkedAt < s.now)

/-- A group of the commit in its apply phase takes effect at its safe point (R79, R80). G3 takes effect at its own switch
(R198). -/
def State.applyGroup (s : State) (g ch : Nat) : State :=
  match s.applying with
  | none => s
  | some c =>
    if c.deadline.isSome || !c.waiting.contains g || !s.safePoint c g ch then s
    else match g with
      | 0 => (s.applyG0 c).groupDone c 0
      | 2 => if c.chG2.contains ch then s.applyG2 c ch else s
      | 3 => s
      | 4 => if c.chG4.contains ch then s.applyG4 c ch else s
      | 5 => (s.applyG5 c).groupDone c 5
      | 6 => (s.applyG6 c).groupDone c 6
      | g => (s.putGroup c g).groupDone c g

/-- The map switch (R198), before COMMIT_WAIT has passed. -/
def State.switchMap (s : State) : State :=
  match s.applying with
  | none => s
  | some c =>
    if c.deadline.any (fun d => decide (s.now < d)) && s.quiesced c then
      ((s.applyG3 c).setCommit c.epoch (fun x => { x with deadline := none })).groupDone c 3
    else s

/-- COMMIT_WAIT has passed without quiesce (R197). -/
def State.mapWaitOver (s : State) : State :=
  match s.applying with
  | none => s
  | some c =>
    match c.deadline with
    | some d => if d ≤ s.now then s.finishCommit c 8 rjQuiesce 3 else s
    | none => s

/-! ### The configuration load of start-up (R102) -/

/-- The loaded words of the groups outside a mask. -/
def keptWords (t : Tbl Word) (mask : Nat) : Tbl Word :=
  ⟨0#32, t.ents.filter (fun e => !mask.testBit (wordGroup e.1) || !isBuffered e.1)⟩

/-- The loaded configuration but for G0 comes into force, on every channel. -/
def State.loadGroups (s : State) (c : Commit) : State :=
  let t := forAll [1, 3, 6, 7, 8, 9, 10, 2, 4, 5] (fun g t => t.putWords c (fun off => wordGroup off == g) (fun off => off)) s
  forAll (List.range 32) (fun ch t =>
    (t.putWords c (fun off => decide (0xa0000 ≤ off) && decide (off < 0xa1000)) (chanCopy ch)).putWords c
      (fun off => wordGroup off == 4) (chanCopy ch)) t

/-- The loaded shadows pass the checking phase as one commit naming G0 to G10 and come into force, a failing group at its
defaults. G0 is admitted against the floor of the band that the sensors have given. Every loaded field counts as written, so that
no profile takes its place (R101). -/
def State.loadCommit (s : State) : State :=
  let c : Commit := ⟨0, 0x7ff, 2, true, s.regs.shadow, .const 0xffffffff#32, false, true, false, [], List.range 32, List.range 32, none,
    true, 0, [], [], false, 0⟩
  let others := keptWords s.regs.shadow ((s.checkCommit c).1 / 2 * 2)
  let up := (List.range 32).any (fun ch => decide ((s.chan ch).band < (s.chan ch).bandNew))
  let s := when up (fun s => s.stick RF.REF_BAND_RISE) s
  let t := forAll (List.range 32) (fun ch t => t.setChan ch (fun x => { x with band := x.bandNew })) s
  let t := (t.loadGroups { c with shadow := others }).takeBudget.publishFloor
  match t.checkCommit c with
  | (mask, reason, adjusted) =>
    let keep := keptWords s.regs.shadow mask
    let c2 : Commit := { c with shadow := keep }
    let u : State := { t.noteAdmission c with regs := { (t.noteAdmission c).regs with shadow := keep } }
    let u := u.applyG0 { c2 with mins := c2.ctxs.map (fun k => (k, t.scaledMin c2 k)) }
    let u := when (mask != 0) (fun t => t.stick RF.SYS_CONFIG_ADJUSTED) u
    let u := u.warnThresh
    { u with regs := { u.regs with
        results := u.regs.results.set 0 ⟨0, mask, reason, if mask = 0 ∧ !adjusted then 1 else 2⟩ } }

end Sys2Proof.Machine
end

