-- ==== Sys2Proof/Machine/ImageOps.lean ====
section
/-! DEFINITION. What stands in MRAM for start-up and update: boot records, manifests and their components, the tablature and
its row checks, settings pages, key sections and staging records (R90, R91, R96 to R101, R252, R324, R325, R439 to R442). -/

namespace Sys2Proof.Machine

/-- A little-endian number of `n` bytes at offset `at0` of a byte string. -/
def numAt (l : List Byte) (at0 n : Nat) : Nat := leNat ((l.drop at0).take n)

/-- A 32-bit number comes after another in wrapped signed order (R91, R100). -/
def wrapsAfter (a b : Nat) : Bool := decide (0 < (a + 2 ^ 32 - b) % 2 ^ 32) && decide ((a + 2 ^ 32 - b) % 2 ^ 32 < 2 ^ 31)

/-! ### Boot records (R91, R96) -/

/-- The byte address of a boot-record copy. -/
def bootAddr (copy : Nat) : Nat := 0x1000 * copy

/-- A boot-record copy is valid and carries MAGIC. -/
def State.bootOk (s : State) (copy : Nat) : Bool :=
  numAt (s.mram (bootAddr copy) 4) 0 4 == 0x63616d63 && s.recordOk (bootAddr copy) 4096

/-- The boot record that a copy holds. -/
def State.bootAt (s : State) (copy : Nat) : BootRec :=
  let l := s.mram (bootAddr copy) 64
  ⟨numAt l 4 4, numAt l 8 1, numAt l 9 1, numAt l 10 1 == 1, numAt l 11 1, numAt l 12 4, BitVec.ofNat 384 (numAt l 16 48)⟩

/-- The 4,096 bytes of a boot record. -/
def BootRec.bytes (b : BootRec) : List Byte :=
  withCrc (leBytes 4 0x63616d63 ++ leBytes 4 b.seq ++ leBytes 1 b.activeSlot ++ leBytes 1 b.prevSlot ++
    leBytes 1 (if b.pending then 1 else 0) ++ leBytes 1 b.unconfirmed ++ leBytes 4 b.secVersion ++ leBytes 48 b.digest.toNat ++
    List.replicate 4028 0#8)

/-- The copy that the ROM selects (R96). -/
def State.bootCopy (s : State) : Option Nat :=
  match s.bootOk 0, s.bootOk 1 with
  | true, true => if wrapsAfter (s.bootAt 1).seq (s.bootAt 0).seq then some 1 else some 0
  | true, false => some 0
  | false, true => some 1
  | false, false => none

/-- A boot record is rewritten in both copies, the copy that R96 would not select first, both with SEQ + 1 (R449). -/
def State.writeBoot (s : State) (f : BootRec → BootRec) : State :=
  let b : BootRec := { f s.boot.brec with seq := (s.boot.brec.seq + 1) % 2 ^ 32 }
  let first := match s.bootCopy with
    | some c => 1 - c
    | none => 1
  let t : State := { s with boot := { s.boot with brec := b } }
  t.nvmJob .bootRecord true (wordsOf (bootAddr first) b.bytes ++ wordsOf (bootAddr (1 - first)) b.bytes)

/-! ### Manifests (R439 to R441) -/

/-- The byte address of a firmware slot. -/
def slotAddr (slot : Nat) : Nat := 0x200000 + 0x300000 * slot

/-- A component entry (R440). -/
structure Component where
  type   : Nat
  insts  : Nat
  off    : Nat
  len    : Nat
  digest : BitVec 384
  zeros  : Bool
  deriving DecidableEq, Repr

/-- A manifest, with the bytes of its signed part and of the whole. -/
structure Manifest where
  flags  : Nat
  secVer : Nat
  schema : Nat
  comps  : List Component
  signed : List Byte
  sig    : List Byte
  header : Bool
  deriving DecidableEq, Repr

/-- The component entry at a place of a manifest. -/
def componentAt (l : List Byte) (k : Nat) : Component :=
  let e := (l.drop (64 + 64 * k)).take 64
  ⟨numAt e 0 1, numAt e 1 1, numAt e 4 4, numAt e 8 4, BitVec.ofNat 384 (numAt e 16 48),
    numAt e 2 2 == 0 && numAt e 12 4 == 0⟩

/-- The manifest at the first byte of a slot. -/
def State.manifest (s : State) (slot : Nat) : Manifest :=
  let l := s.mram (slotAddr slot) 2208
  let n := numAt l 10 2
  let m := min n 32
  ⟨numAt l 9 1, numAt l 12 4, numAt l 16 2, (List.range m).map (componentAt l), l.take (64 + 64 * m), (l.drop (64 + 64 * m)).take 96,
    numAt l 0 4 == 0x666e616d && numAt l 4 2 == 1 && numAt l 6 2 == 0x0c32 && numAt l 8 1 == 0xb1 && decide (numAt l 9 1 < 2) &&
      decide (1 ≤ n) && decide (n ≤ 32) && numAt l 18 2 == 0 && numAt l 52 12 == 0⟩

/-- The manifest digest (R441). -/
def Manifest.digest (m : Manifest) : BitVec 384 := sha384 (m.signed ++ m.sig)

/-- The signature verifies over the signed part under the key whose digest is fused (R441). -/
def Manifest.signedOk (m : Manifest) : Bool := ecdsaVerify Config.manifestKey (sha384Bytes m.signed) m.sig

/-- FLAGS.PAIR. -/
def Manifest.pair (m : Manifest) : Bool := m.flags.testBit 0

/-- Two components overlap. -/
def overlap (a b : Component) : Bool := decide (a.off < b.off + b.len) && decide (b.off < a.off + a.len)

/-- No two components of a list overlap. -/
def apartAll : List Component → Bool
  | [] => true
  | a :: l => l.all (fun b => !overlap a b) && apartAll l

/-- The layout and the entry rules of R440, within an image of some length. -/
def Manifest.layoutOk (m : Manifest) (len : Nat) : Bool :=
  m.header && m.comps.all (fun c => c.zeros && decide (1 ≤ c.type) && decide (c.type ≤ 6) && decide (1 ≤ c.insts) &&
    decide (c.insts ≤ 3) && decide (0 < c.off) && c.off % 4096 == 0 && decide (c.off + c.len ≤ len) && (!m.pair || c.insts == 3)) &&
    [1, 2].all (fun i => let own := m.comps.filter (fun c => c.insts.testBit (i - 1))
      own.isEmpty || (List.range 6).all (fun t => ((own.filter (fun c => c.type == t + 1)).length == 1))) && apartAll m.comps

/-- The entry of a type for an instance. -/
def Manifest.entry (m : Manifest) (type inst : Nat) : Option Component :=
  m.comps.find? (fun c => c.type == type && c.insts.testBit inst)

/-- The first component whose digest fails (R448). -/
def State.badComponent (s : State) (slot : Nat) (m : Manifest) : Option Nat :=
  (List.range m.comps.length).find? (fun k => match m.comps[k]? with
    | some c => sha384 (s.mram (slotAddr slot + c.off) c.len) != c.digest
    | none => false)

/-! ### The tablature (R250 to R252) -/

/-- The rules that R267 lists as checked before a command. -/
def rulesBefore (cmd : Nat) : List Nat :=
  let bank := if cmd = 1 ∨ cmd = 2 ∨ cmd = 3 ∨ cmd = 4 ∨ cmd = 5 ∨ cmd = 6 ∨ cmd = 11 ∨ cmd = 12 ∨ (16 ≤ cmd ∧ cmd ≤ 18) then
    [10, 11] else []
  let sid := if cmd = 0 then [] else [12, 13, 14]
  let own := match cmd with
    | 1 => [2, 6]
    | 2 => [1, 3, 4]
    | 3 => [1, 3, 4]
    | 4 => [1, 3, 4]
    | 5 => [2]
    | 6 => [2]
    | 11 => [2]
    | 12 => [2]
    | 16 => [0, 5, 7, 9]
    | 17 => [0, 5, 8]
    | 18 => [0, 5, 7, 9]
    | 20 => [5, 7, 9]
    | _ => []
  own ++ bank ++ sid

/-- A row by itself passes the checks of R252, among `n` rows. -/
def rowOk (r : BitVec 64) (n : Nat) : Bool :=
  let cmd := rowCmd r
  (decide (cmd ≤ 12) || (decide (16 ≤ cmd) && decide (cmd ≤ 20))) && decide (rowSrc r ≤ 5) && decide (rowDpa r ≤ 5) &&
    fieldNat r 27 26 == 0 && (rulesBefore cmd).all (fun b => (rowRules r).testBit b) && !(rowRules r).testBit 15 &&
    !((cmd == 19 || cmd == 20) && rowSrc r == 1) && decide (rowNext r < n)

/-- A chain of GOTO rows from a row ends within `fuel` rows. -/
def chainEnds (rows : Tbl (BitVec 64)) (i : Nat) : Nat → Bool
  | 0 => false
  | fuel + 1 => if rowBr (rows.get i) = 0 then chainEnds rows (rowNext (rows.get i)) fuel else true

/-- The rows that a row can go to. -/
def rowsAfter (r : BitVec 64) (i : Nat) : List Nat :=
  match rowBr r with
  | 0 => [rowNext r]
  | 1 => [rowNext r]
  | 2 => [rowNext r, i + 1]
  | _ => []

/-- The rows reached from some rows, within `fuel` steps. -/
def rowsFrom (rows : Tbl (BitVec 64)) (n : Nat) (found : List Nat) : List Nat → Nat → List Nat
  | _, 0 => found
  | [], _ + 1 => found
  | i :: l, fuel + 1 =>
    let new := (rowsAfter (rows.get i) i).filter (fun j => decide (j < n) && !found.contains j && !l.contains j)
    rowsFrom rows n (found ++ new.eraseDups) (l ++ new.eraseDups) fuel

/-- A tablature passes the checks of R252. Entries carry VALID in bit 31, the agents that may start them in bits 23:16 and
their first row in bits 9:0 (R270). -/
def TabSt.ok (t : TabSt) : Bool :=
  (List.range t.used).all (fun i => rowOk (t.rows.get i) t.used && chainEnds t.rows i (t.used + 1)) &&
    (List.range 64).all (fun e =>
      let x := t.entries.get e
      !bitAt x 31 || ((List.range 8).all (fun a => a == 5 || a == 7 || !bitAt x (16 + a)) ||
        (rowsFrom t.rows t.used [fieldNat x 9 0] [fieldNat x 9 0] (t.used + 1)).all (fun i => rowCmd (t.rows.get i) != 2)))

/-- The tablature in a component: its rows, then the 64 words of the entry table, then 16 bytes with the core-die steppings that
it accepts, 0 for none (DESIGN CHOICE, log 26: the spec does not lay the component out). -/
def tabOf (l : List Byte) : TabSt :=
  let n := min ((l.length - 272) / 8) 1024
  ⟨⟨0#64, (List.range n).map (fun i => (i, BitVec.ofNat 64 (numAt l (8 * i) 8)))⟩,
    ⟨0#32, (List.range 64).map (fun i => (i, BitVec.ofNat 32 (numAt l (l.length - 272 + 4 * i) 4)))⟩, n,
    ((l.drop (l.length - 16)).map BitVec.toNat).filter (fun v => v != 0)⟩

/-- The tablature of a slot for an instance. -/
def State.tabIn (s : State) (slot inst : Nat) (m : Manifest) : TabSt :=
  match m.entry 2 inst with
  | some c => tabOf (s.mram (slotAddr slot + c.off) c.len)
  | none => TabSt.init

/-- The number of this instance: 0 A, 1 B. -/
def State.inst (s : State) : Nat := b2n s.pins.instId

/-- A slot's manifest passes the checks of R97 (step 5). `bound` is the digest that the boot record names for ACTIVE_SLOT;
PREVIOUS_SLOT is checked against its own manifest alone (R458). -/
def State.manifestOk (s : State) (slot : Nat) (bound : Option (BitVec 384)) : Bool :=
  let m := s.manifest slot
  m.layoutOk 0x2ff000 && m.signedOk &&
    (match bound with | some d => decide (m.digest = d) | none => true) && decide (s.nvm.otpCount ≤ m.secVer) &&
    s.nvmClean (slotAddr slot) 2208

/-- A slot's components pass their digests and checks (R97, R252; step 6). -/
def State.compsOk (s : State) (slot : Nat) : Bool :=
  let m := s.manifest slot
  m.comps.all (fun c => s.nvmClean (slotAddr slot + c.off) c.len) && (s.badComponent slot m).isNone && (s.tabIn slot s.inst m).ok

/-- The saved words that a slot's SCHEMA component lists for an instance, each as its byte offset in the window and its mask
(R101): 8 bytes to a word, the word offset and the mask (DESIGN CHOICE, log 26). -/
def State.schemaIn (s : State) (slot inst : Nat) (m : Manifest) : List (Nat × Nat) :=
  match m.entry 6 inst with
  | some c =>
    let l := s.mram (slotAddr slot + c.off) c.len
    (List.range (c.len / 8)).map (fun i => (4 * numAt l (8 * i) 4, numAt l (8 * i + 4) 4))
  | none => []

/-! ### Settings pages (R99 to R101) -/

/-- The byte address of a settings page. -/
def pageAddr (slot page : Nat) : Nat := 0x10000 + 0x20000 * slot + 0x10000 * page

/-- A settings page is valid: its settings record is valid and carries MAGIC. -/
def State.pageOk (s : State) (slot page : Nat) : Bool :=
  numAt (s.mram (pageAddr slot page) 4) 0 4 == 0x74746573 && s.recordOk (pageAddr slot page) 49152

/-- SEQ of a settings page. -/
def State.pageSeq (s : State) (slot page : Nat) : Nat := numAt (s.mram (pageAddr slot page) 12) 8 4

/-- The bits of a word that a schema can list: its RW, RWB and RWBS fields, but for SYS and the view selectors (R101). -/
def savedMask (off : Nat) : Nat :=
  match regKind off with
  | .mode p _ false => if hasPreset p then 0x1ff else 0
  | .reg p _ x false =>
    if p = .sys then 0
    else ((fieldsOfWord p x).filter (fun f => f.1.acc == .rwb ||
      (f.1.acc == .rw && (viewOf f.1).isNone && f.1 != RF.SEC_PARTNER && f.1 != RF.SEC_KEYID))).foldl
        (fun m f => m + (2 ^ (f.1.hi + 1 - f.1.lo) - 1) * 2 ^ f.1.lo) 0
  | _ => 0

/-- The saved bits of a word under the running schema (R101). -/
def State.savedBits (s : State) (off : Nat) : Nat :=
  ((s.boot.schemaMap.find? (fun w => w.1 == off)).map (fun w => w.2)).getD 0 &&& savedMask off

/-- The words that runs hold (R101); none where they overrun or name a word that is not listed. -/
def runWords (listed : Nat → Bool) (l : List Nat) : Nat → Option (List (Nat × Nat))
  | 0 => none
  | fuel + 1 =>
    match l with
    | [] => some []
    | h :: rest =>
      let n := h / 2 ^ 19
      if n = 0 ∨ rest.length < n then none
      else
        let own := (List.range n).map (fun i => (4 * (h % 2 ^ 19 + i), rest.getD i 0))
        if own.all (fun w => listed w.1) then (runWords listed (rest.drop n) fuel).map (fun m => own ++ m) else none

/-- The words of a settings page. -/
def State.pageWords (s : State) (slot page : Nat) : Option (List (Nat × Nat)) :=
  let len := numAt (s.mram (pageAddr slot page) 20) 16 4
  if len % 4 = 0 ∧ len ≤ 49084 then runWords (fun off => s.savedBits off != 0) (bytesWords (len / 4) (s.mram (pageAddr slot page + 64) len)) (len / 4 + 1) else none

/-- A settings page qualifies for a settings format (R99, R101). -/
def State.pageFits (s : State) (slot page schema : Nat) : Bool :=
  s.pageOk slot page && numAt (s.mram (pageAddr slot page) 6) 4 2 == schema && (s.pageWords slot page).isSome

/-- Of the pages of a slot that satisfy `p`, the one with the greater SEQ, the first of two equal ones (log 27). -/
def State.newerPage (s : State) (slot : Nat) (p : Nat → Bool) : Option Nat :=
  match p 0, p 1 with
  | true, true => if wrapsAfter (s.pageSeq slot 1) (s.pageSeq slot 0) then some 1 else some 0
  | true, false => some 0
  | false, true => some 1
  | false, false => none

/-- The newer valid settings page of a slot. -/
def State.newerValid (s : State) (slot : Nat) : Option Nat := s.newerPage slot (fun p => s.pageOk slot p)

/-- Runs of consecutive words, at most 8,191 in one. -/
def wordRuns (l : List (Nat × Nat)) : List Nat :=
  let runs := l.foldl (fun (r : List (Nat × List Nat)) w =>
    match r with
    | [] => [(w.1, [w.2])]
    | x :: rest =>
      if w.1 = x.1 + 4 * x.2.length ∧ x.2.length < 8191 then (x.1, x.2 ++ [w.2]) :: rest else (w.1, [w.2]) :: x :: rest) []
  runs.reverse.flatMap (fun r => (r.2.length * 2 ^ 19 + r.1 / 4) :: r.2)

/-- The value in force of a saved word, in the bits of its mask; DRIVE of FLT_PIN has its value with the pin. -/
def State.savedWord (s : State) (off : Nat) : Nat :=
  let w := s.regs.force.get off
  let reset := match regKind off with
    | .reg p _ x _ => (fieldsOfWord p x).foldl (fun m f => m + f.1.resetAt f.2 % 2 ^ (f.1.hi + 1 - f.1.lo) * 2 ^ f.1.lo) 0
    | _ => 0
  let drive := if off = RF.FLT_DRIVE.addr 0 0 then BitVec.ofNat 32 (b2n s.flt.drive * 2 ^ RF.FLT_DRIVE.lo) else 0#32
  (((w ^^^ BitVec.ofNat 32 reset) ||| drive) &&& BitVec.ofNat 32 (s.savedBits off)).toNat

/-- The values in force of the words that the running schema lists (R116). -/
def State.savedWords (s : State) : List (Nat × Nat) := s.boot.schemaMap.map (fun w => (w.1, s.savedWord w.1))

/-- The settings record of a page with some words (R100). -/
def State.settingsRecord (s : State) (slot page seq epoch : Nat) (words : List (Nat × Nat)) : List Byte :=
  let runs := (wordRuns words).flatMap (leBytes 4)
  withCrc (leBytes 4 0x74746573 ++ leBytes 2 s.boot.schema ++ leBytes 1 slot ++ leBytes 1 page ++ leBytes 4 seq ++ leBytes 4 epoch ++
    leBytes 4 runs.length ++ List.replicate 44 0#8 ++ runs ++ List.replicate (49084 - runs.length) 0#8)

/-- A word comes into its shadow, and into force where the field has one copy, in the bits of a mask (R101, R398). -/
def State.loadMasked (s : State) (mask off val : Nat) : State :=
  let v := BitVec.ofNat 32 (val &&& mask)
  match regKind off with
  | .mode _ _ _ => { s with regs := { s.regs with shadow := s.regs.shadow.set off (v &&& 0x1ff#32) } }
  | .reg p n x _ => forAll ((fieldsOfWord p x).filter (fun f => mask.testBit f.1.lo)) (fun f t =>
      match f.1.acc with
      | .rwb => { t with regs := { t.regs with
          shadow := t.regs.shadow.upd (f.1.addr n f.2) (fun w => putBits w f.1.hi f.1.lo (f.1.of v ^^^ f.1.resetAt f.2)) } }
      | .rw =>
        if f.1 = RF.FLT_DRIVE then { t with flt := { t.flt with drive := f.1.of v == 1 } } else t.putForce f.1 n f.2 (f.1.of v)
      | _ => t) s
  | _ => s

/-- A word of a settings page is loaded in the bits that the running schema lists (R101). -/
def State.loadWord (s : State) (off val : Nat) : State := s.loadMasked (s.savedBits off) off val

/-! ### Key sections (R324, R325) -/

/-- The key section of a settings page. -/
def State.keySection (s : State) (slot page : Nat) : List Byte := s.mram (pageAddr slot page + 49152) 16384

/-- The key section is a valid record with its magic and format. -/
def State.keyOk (s : State) (slot page : Nat) : Bool :=
  numAt (s.keySection slot page) 0 4 == 0x5359454b && numAt (s.keySection slot page) 4 2 == 1 &&
    s.recordOk (pageAddr slot page + 49152) 16384

/-- The entries of a key section, each with its place: 128 bytes whose KEYID is not 0xffff. -/
def keyEntries (l : List Byte) : List (Nat × List Byte) :=
  ((List.range (min (numAt l 6 2) 127)).map (fun e => (e, (l.drop (16 + 128 * e)).take 128))).filter (fun e =>
    numAt e.2 0 2 != 0xffff)

/-- A key section from its entries. -/
def keySectionOf (l : List (List Byte)) : List Byte :=
  withCrc (leBytes 4 0x5359454b ++ leBytes 2 1 ++ leBytes 2 l.length ++ List.replicate 8 0#8 ++ l.flatten ++
    List.replicate (16364 - 128 * l.length) 0#8)

/-- One entry of the key section comes back as an ACTIVE, PERSISTED slot with GENERATION 0; one that fails its tag leaves its
slot EMPTY (R325). -/
def State.restoreEntry (s : State) (e : Nat) (l : List Byte) : State :=
  let k := numAt l 0 2
  match unwrapSlot (rootKey s.inst) forMram s.inst l with
  | some keys => s.setSlot false (k % 2048) (fun x => { x with
      st := .active, keys := keys, cls := numAt l 2 1 % 4, meta1 := (numAt l 2 1).testBit 2, persisted := true, gen := 0,
      uses := 0, eastOk := true, westOk := true })
  | none => (s.stick RF.SEC_KEY_RESTORE_FAIL).event 0x05 0x0702 2 [(0, 1, e), (2, 2, k)]

/-! ### Staging records (R442) -/

/-- The byte address of a copy of a slot's staging record. -/
def stageAddr (slot copy : Nat) : Nat := slotAddr slot + 0x2ff000 + 0x800 * copy

/-- A copy of a staging record is valid. -/
def State.stageOk (s : State) (slot copy : Nat) : Bool :=
  numAt (s.mram (stageAddr slot copy) 4) 0 4 == 0x67747373 && s.recordOk (stageAddr slot copy) 2048

/-- The staging record in a copy: MAGIC, SEQ, STATE, length, bitmap and digest from its first byte on (DESIGN CHOICE, log 28:
the spec gives the fields and no offsets). -/
def State.stageAt (s : State) (slot copy : Nat) : Staging :=
  let l := s.mram (stageAddr slot copy) 160
  ⟨numAt l 4 4, numAt l 8 4, numAt l 12 4, BitVec.ofNat 768 (numAt l 16 96), BitVec.ofNat 384 (numAt l 112 48)⟩

/-- The bytes of a staging record. -/
def Staging.bytes (x : Staging) : List Byte :=
  withCrc (leBytes 4 0x67747373 ++ leBytes 4 x.seq ++ leBytes 4 x.st ++ leBytes 4 x.length ++ leBytes 96 x.bitmap.toNat ++
    leBytes 48 x.digest.toNat ++ List.replicate 1884 0#8)

/-- The staging record of a slot as stored: the valid copy with the greater SEQ; IDLE where none is valid (log 28). -/
def State.stageOf (s : State) (slot : Nat) : Staging :=
  match s.stageOk slot 0, s.stageOk slot 1 with
  | true, true => if wrapsAfter (s.stageAt slot 1).seq (s.stageAt slot 0).seq then s.stageAt slot 1 else s.stageAt slot 0
  | true, false => s.stageAt slot 0
  | false, true => s.stageAt slot 1
  | false, false => ⟨0, 0, 0, 0#768, 0#384⟩

/-- The copy with the lower SEQ, which is written next. -/
def State.stageNext (s : State) (slot : Nat) : Nat :=
  match s.stageOk slot 0, s.stageOk slot 1 with
  | true, true => if wrapsAfter (s.stageAt slot 1).seq (s.stageAt slot 0).seq then 0 else 1
  | true, false => 1
  | _, _ => 0

end Sys2Proof.Machine
end

