-- ==== Sys2Proof/Machine/UpdOps.lean ====
section
/-! DEFINITION. Firmware update: the service port's commands, verification, activation, the update restart's decision and
probation (20_update). -/

namespace Sys2Proof.Machine

/-! ### RESULT (R445) and STATE (R442) -/

/-- STATE: the command is not accepted in the present state. -/
def svState : Nat := 1
/-- CRC. -/
def svCrc : Nat := 2
/-- RANGE. -/
def svRange : Nat := 3
/-- FORMAT. -/
def svFormat : Nat := 4
/-- SIGNATURE. -/
def svSignature : Nat := 5
/-- VERSION. -/
def svVersion : Nat := 6
/-- DIGEST. -/
def svDigest : Nat := 7
/-- TABLATURE. -/
def svTab : Nat := 8
/-- MISMATCH. -/
def svMismatch : Nat := 9
/-- PROBATION. -/
def svProbation : Nat := 10
/-- NVM. -/
def svNvm : Nat := 11
/-- PAIR. -/
def svPair : Nat := 12

/-- ROM recovery mode (R98, R460). -/
def State.recovery (s : State) : Bool := s.boot.stage == .recovery

/-- The slot that update writes: not ACTIVE_SLOT of the selected boot record; slot A where no record is valid (R442, R460). -/
def State.targetSlot (s : State) : Nat := if s.recovery && s.bootCopy.isNone then 0 else 1 - s.boot.brec.activeSlot

/-- The running slot awaits confirmation (R454, R455). -/
def State.onProbation (s : State) : Bool := s.boot.brec.pending && s.boot.running == s.boot.brec.activeSlot

/-- A command has been taken, with its result (R443, R445). -/
def State.svc (s : State) (code result : Nat) : State := { s with upd := { s.upd with lastCode := code, result := result } }

/-- STATUS, the 16 bytes that a private read of the service port returns (R445). -/
def State.svcStatus (s : State) : List Byte :=
  withCrc (leBytes 1 s.upd.stage0.st ++ leBytes 1 s.upd.result ++ leBytes 1 s.upd.lastCode ++ leBytes 1 s.upd.component ++
    leBytes 2 (popCount s.upd.stage0.bitmap 768) ++ leBytes 2 (blocksOf s.upd.stage0.length) ++
    leBytes 1 (b2n s.onProbation + 2 * b2n s.recovery + 4 * b2n (!s.pins.instId)) ++ leBytes 1 s.boot.brec.unconfirmed ++ leBytes 2 0)

/-- What the next private read of the service port returns: STATUS, or the bitmap with its CRC-32C behind a READ_BITMAP (R443,
R444). The table has no row for the read, which changes nothing else. -/
def State.svcRead (s : State) : List Byte :=
  if s.upd.readMap then withCrc (leBytes 96 s.upd.stage0.bitmap.toNat) else s.svcStatus

/-- The staging record changes: it is written to the copy with the lower SEQ, with SEQ + 1, after the words before it; the
luthier takes the next command when the last word stands (R442, R443, R447). -/
def State.stageWith (s : State) (before : List (Nat × BitVec 64)) (f : Staging → Staging) : State :=
  let x : Staging := { f s.upd.stage0 with seq := (s.upd.stage0.seq + 1) % 2 ^ 32 }
  let slot := s.targetSlot
  let t : State := { s with upd := { s.upd with stage0 := x, busy := true } }
  t.nvmJob .staging true (before ++ wordsOf (stageAddr slot (s.stageNext slot)) x.bytes)

/-- The staging writes have ended; where one failed, the record stands as stored and the result is NVM. -/
def State.stageDone (s : State) (ok : Bool) : State :=
  let s := when (ok && s.upd.lastCode == 2) (fun t => t.count 0x4100) s
  { s with upd := { s.upd with
      busy := false, stage0 := if ok then s.upd.stage0 else s.stageOf s.targetSlot, result := if ok then s.upd.result else svNvm } }

/-- A service-port command is taken: not one that finds the luthier busy with the last, which is NACKed (R443), and it wakes
the luthier. -/
def State.service (s : State) (f : State → State) : State := if s.upd.busy then s else f (s.wake 7)

/-- A command that reads or writes the slot: RESULT NVM while NVM_RDY is low (R34). -/
def State.withNvm (s : State) (code : Nat) (go : State) : State :=
  match s.pins.nvmRdy with
  | true => go
  | false => s.svc code svNvm

/-- OPEN (R444). -/
def State.svcOpen (s : State) (len : Nat) : State :=
  if s.upd.stage0.st = 3 then s.svc 1 svState
  else if s.onProbation && !s.recovery then s.svc 1 svProbation
  else if len < 4096 ∨ 3141632 < len then s.svc 1 svRange
  else
    s.withNvm 1 (((s.svc 1 0).stageWith [] (fun x => { x with
      st := 1, length := len, bitmap := 0#768, digest := 0#384 })).event 0x04 0x0c01 0 [(0, 1, s.targetSlot), (4, 4, len)])

/-- BLOCK (R447). -/
def State.svcBlock (s : State) (n : Nat) (data : List Byte) (crc : Word) : State :=
  let x := s.upd.stage0
  if x.st ≠ 1 then s.svc 2 svState
  else if crc32c (leBytes 2 n ++ data) ≠ crc then (s.svc 2 svCrc).count 0x4108
  else if blocksOf x.length ≤ n then s.svc 2 svRange
  else
    let map := x.bitmap ||| (1#768 <<< n)
    let full := decide (popCount map 768 = blocksOf x.length)
    s.withNvm 2 ((s.svc 2 0).stageWith (wordsOf (slotAddr s.targetSlot + 4096 * n) data) (fun y => { y with
      bitmap := map, st := if full then 2 else 1 }))

/-- VERIFY begins (R448): the state is VERIFYING until the checks have ended. -/
def State.svcVerify (s : State) : State :=
  let x := s.upd.stage0
  if x.st = 2 ∨ x.st = 6 then
    let t := s.svc 3 0
    s.withNvm 3 { t with upd := { t.upd with stage0 := { x with st := 3 } } }
  else s.svc 3 svState

/-- The components of a slot are read through the NVM port. -/
def State.readComps (s : State) (slot : Nat) : State :=
  forAll (s.manifest slot).comps (fun c t => t.readsOf (slotAddr slot + c.off) c.len) s

/-- NVM_ERR rose on no word that the checks of a slot read. -/
def State.imageClean (s : State) (slot : Nat) : Bool :=
  s.nvmClean (slotAddr slot) 2208 && (s.manifest slot).comps.all (fun c => s.nvmClean (slotAddr slot + c.off) c.len)

/-- The words that the checks read up to their first failure, with NVM_FAIL for each on which NVM_ERR rises (R32, R448). -/
def State.verifyReads (s : State) (slot result : Nat) : State :=
  let t := s.readsOf (slotAddr slot) 2208
  if result = svFormat ∨ result = svSignature ∨ result = svVersion then t else t.readComps slot

/-- The checks of R448, in order: the result and the component index. -/
def State.verifyResult (s : State) (nvmOk : Bool) : Nat × Nat :=
  let slot := s.targetSlot
  let m := s.manifest slot
  let tabs := (m.comps.filter (fun c => c.type == 2)).map (fun c => tabOf (s.mram (slotAddr slot + c.off) c.len))
  if !m.layoutOk s.upd.stage0.length then (svFormat, 0)
  else if !m.signedOk then (svSignature, 0)
  else if m.secVer < s.nvm.otpCount ∨ 63 < m.secVer then (svVersion, 0)
  else match s.badComponent slot m with
    | some k => (svDigest, k)
    | none =>
      if !tabs.all TabSt.ok then (svTab, 0)
      else if !nvmOk || !s.imageClean slot then (svNvm, 0)
      else (0, 0)

/-- The checks have ended (R448). -/
def State.verifyEnd (s : State) (nvmOk : Bool) : State :=
  if s.upd.stage0.st ≠ 3 then s
  else if !s.pins.nvmRdy then
    { s with upd := { s.upd with result := svNvm, stage0 := s.stageOf s.targetSlot } }
  else
    let r := s.verifyResult nvmOk
    let m := s.manifest s.targetSlot
    let t := (s.verifyReads s.targetSlot r.1).svc s.upd.lastCode r.1
    let t : State := { t with upd := { t.upd with component := r.2 } }
    if r.1 = 0 then
      (t.stageWith [] (fun x => { x with st := 4, digest := m.digest })).event 0x04 0x0c02 0
        [(0, 4, m.secVer), (4, 8, m.digest.toNat)]
    else (t.stageWith [] (fun x => { x with st := 6 })).event 0x04 0x0c03 2 [(0, 1, r.1), (1, 1, r.2)]

/-! ### Restarts and activation (R449 to R451, R460) -/

/-- An update restart is decided (R450): memory requests complete with NOT_READY, ARMED falls, and two drone ticks of
heartbeats follow. -/
def State.decideRestart (s : State) (cause : Nat) : State :=
  match s.upd.restartAt with
  | some _ => s
  | none =>
    let t : State := { s with upd := { s.upd with restartAt := some (s.now + 2), cause := cause } }
    (forAll t.memoryReqs (fun r t => t.fail r .notReady 0) t).event 0x04 0x0c08 0 [(0, 1, cause)]

/-- A settings page as it is copied: the settings record with another SEQ and its key section (R325, R449; log 29). -/
def copiedPage (page : List Byte) (seq : Nat) : List Byte :=
  withCrc ((page.take 8) ++ leBytes 4 seq ++ ((page.drop 12).take (49148 - 12))) ++ page.drop 49152

/-- The eight bytes that make a settings page not valid: MAGIC zero. -/
def noPage (page : List Byte) : List Byte := List.replicate 4 0#8 ++ (page.drop 4).take 4

/-- The words that an activation writes to the settings pages of the new slot (R449 step 1, R460). -/
def State.activatePages (s : State) : List (Nat × BitVec 64) :=
  let dst := s.targetSlot
  let kill := fun (p : Nat) => wordsOf (pageAddr dst p) (noPage (s.mram (pageAddr dst p) 8))
  match s.recovery, s.newerValid s.boot.running with
  | false, some p =>
    wordsOf (pageAddr dst 0) (copiedPage (s.mram (pageAddr s.boot.running p) 65536) ((s.pageSeq s.boot.running p + 1) % 2 ^ 32)) ++ kill 1
  | _, _ => kill 0 ++ kill 1

/-- The boot record of an activation (R449 step 2, R460). -/
def State.activateBoot (s : State) : BootRec :=
  let m := s.manifest s.targetSlot
  ⟨if s.recovery && s.bootCopy.isNone then 1 else (s.boot.brec.seq + 1) % 2 ^ 32, s.targetSlot,
    if s.recovery then 0xff else s.boot.running, true, 0, m.secVer, s.upd.stage0.digest⟩

/-- An activation begins: the pages and both boot-record copies are written in order; the restart follows when the last word
stands. `follow` is 1 for a follow. -/
def State.activateNow (s : State) (follow : Nat) : State :=
  let b := s.activateBoot
  let first := match s.bootCopy with
    | some c => 1 - c
    | none => 1
  let t : State := { s with upd := { s.upd with activate := some follow, busy := true } }
  t.nvmJob .restart true (s.activatePages ++ wordsOf (bootAddr first) b.bytes ++ wordsOf (bootAddr (1 - first)) b.bytes)

/-- The writes of an activation have ended: the new boot record is the selected one, and the instance restarts (R449
step 3). -/
def State.activateDone (s : State) (ok : Bool) : State :=
  match s.upd.activate with
  | none => s
  | some follow =>
    let t : State := { s with upd := { s.upd with activate := none, busy := false } }
    match ok, t.bootCopy with
    | true, some c =>
      let b := t.bootAt c
      let t : State := { t with boot := { t.boot with brec := b } }
      ((t.count 0x4110).event 0x04 0x0c04 0 [(0, 1, b.activeSlot), (1, 1, follow), (4, 4, b.secVersion)]).decideRestart 0
    | _, _ => { t with upd := { t.upd with result := svNvm } }

/-- The digest that a command carries. -/
def digestOf (l : List Byte) : BitVec 384 := BitVec.ofNat 384 (leNat l)

/-- ACTIVATE (R449, R451, R460). -/
def State.svcActivate (s : State) (digest : List Byte) : State :=
  let m := s.manifest s.targetSlot
  if s.upd.stage0.st ≠ 4 then s.svc 4 svState
  else if digestOf digest ≠ s.upd.stage0.digest then s.svc 4 svMismatch
  else if m.pair && s.pins.instId && !s.recovery then
    s.withNvm 4 ((s.svc 4 0).stageWith [] (fun x => { x with st := 5 }))
  else s.withNvm 4 ((s.svc 4 0).activateNow 0)

/-- ABORT. -/
def State.svcAbort (s : State) : State :=
  if s.upd.stage0.st = 3 then s.svc 5 svState
  else s.withNvm 5 ((s.svc 5 0).stageWith [] (fun x => { x with st := 0 }))

/-- RESTART. -/
def State.svcRestart (s : State) : State :=
  if s.upd.stage0.st = 3 then s.svc 6 svState else (s.svc 6 0).decideRestart 1

/-- FOLLOW: this instance activates once it is READY and its partner runs the staged manifest (R451). -/
def State.followNow (s : State) : State :=
  if s.upd.stage0.st = 5 ∧ s.ready ∧ s.pair.peerDigest = some s.upd.stage0.digest ∧ !s.upd.busy ∧ s.pins.nvmRdy then s.activateNow 1 else s

/-! ### Confirmation and probation (R455 to R458) -/

/-- The OTP counter is burnt up to the security version of a confirmed running slot (R456). -/
def State.burnOtp (s : State) : State :=
  if !s.boot.brec.pending && s.boot.running == s.boot.brec.activeSlot && decide (s.nvm.otpCount < s.boot.brec.secVersion) then
    { s with nvm := { s.nvm with otpCount := min s.boot.brec.secVersion 63 } }
  else s

/-- The running image is confirmed: the boot record is rewritten with CONFIRMED and UNCONFIRMED 0, and the burn follows once
it stands (R456). `route` is 0 for the host and 1 for the self-test. -/
def State.confirmNow (s : State) (route : Nat) : State :=
  ((s.writeBoot (fun b => { b with pending := false, unconfirmed := 0 })).stick RF.UPD_CONFIRMED_EVT).event 0x04 0x0c05 0
    [(0, 1, route), (1, 1, s.nvm.otpCount)]

/-- The pair's part in a confirmation of a PAIR manifest (R455). -/
def State.pairAgrees (s : State) (route : Nat) : Bool :=
  !s.boot.pairFlag || s.pair.role == .paired || (route == 0 && s.pair.role == .alone)

/-- A confirmation by the host: ignored with CONFIRM_LATE behind an expiry, or with CONFIRM_REFUSED (R455, R457). The Bool
tells whether its digest matched. The result is that of the service port. -/
def State.confirmHost (s : State) (matched : Bool) : Nat × State :=
  if s.upd.probEnd then (0, s.stick RF.UPD_CONFIRM_LATE)
  else if !matched then (svMismatch, s.stick RF.UPD_CONFIRM_REFUSED)
  else if !s.onProbation then (0, s)
  else if !s.pairAgrees 0 then (svPair, s.stick RF.UPD_CONFIRM_REFUSED)
  else (0, s.confirmNow 0)

/-- The self-test passes (R455). -/
def State.selfPassed (s : State) : State :=
  if s.upd.testing then
    let t : State := { s with upd := { s.upd with testing := false, selfPass := true } }
    if t.rfb RF.UPD_AUTO_CONFIRM && t.onProbation && !t.upd.probEnd && t.pairAgrees 1 then t.confirmNow 1 else t
  else s

/-- The probation window has run out before a confirmation (R457). -/
def State.probationOver (s : State) : State :=
  match s.upd.probFrom with
  | none => s
  | some t0 =>
    if s.onProbation && !s.upd.probEnd && decide (t0 + 2000000 * s.rf RF.UPD_PROB_WINDOW ≤ s.now) then
      let t : State := { s with upd := { s.upd with probEnd := true } }
      (t.event 0x04 0x0c06 1 [(0, 1, s.boot.brec.unconfirmed)]).decideRestart 2
    else s

/-- The ROM has abandoned ACTIVE_SLOT after three unconfirmed boots (R458). -/
def State.probationLost (s : State) : Bool :=
  s.boot.brec.pending && decide (3 ≤ s.boot.brec.unconfirmed) && s.boot.running != s.boot.brec.activeSlot

/-- What update does at READY: the unconfirmed boot counts and the probation window opens, a fall-back rewrites the boot
record, a confirmed slot completes its burn, and the self-test starts (R455 to R458). -/
def State.updReady (s : State) : State :=
  let t : State := { s with upd := { s.upd with testing := true, selfPass := false, probFrom := some s.now, probEnd := false } }
  if t.onProbation then t.writeBoot (fun b => { b with unconfirmed := min (b.unconfirmed + 1) 255 })
  else if t.probationLost then
    (((t.writeBoot (fun b => { b with
      activeSlot := t.boot.running, prevSlot := 0xff, pending := false, unconfirmed := 0, secVersion := t.boot.secVer,
      digest := t.boot.digest })).stick RF.UPD_FALLBACK).count 0x4118).event 0x04 0x0c07 2 [(0, 1, t.boot.brec.activeSlot),
        (1, 1, t.boot.running)]
  else t.burnOtp

/-- The CONFIRM command (R444, R455, R460). -/
def State.svcConfirm (s : State) (digest : List Byte) : State :=
  if s.recovery then s.svc 7 svState
  else match s.confirmHost (decide (digestOf digest = s.boot.digest)) with
    | (r, t) => t.svc 7 r

/-- A write of UPD_CONFIRM with bytes 0 to 3 of the running manifest digest. -/
def State.regConfirm (s : State) (lo : Word) : State := (s.confirmHost (decide (lo = s.boot.digest.setWidth 32))).2

/-- A CONFIRM, an ACTIVATE or a RESTART: during an update restart it waits for the luthier of the new start-up; a confirmation
behind a probation's expiry is late (R452, R457). -/
def State.orLate (s : State) (c : LateCmd) (f : State → State) : State :=
  match s.upd.restartAt, c with
  | none, _ => f s
  | some _, .confirm _ => if s.upd.probEnd then f s else { s with upd := { s.upd with late := s.upd.late ++ [c] } }
  | some _, .confirmReg _ => if s.upd.probEnd then f s else { s with upd := { s.upd with late := s.upd.late ++ [c] } }
  | some _, _ => { s with upd := { s.upd with late := s.upd.late ++ [c] } }

/-- The luthier of a new start-up takes the commands that waited for it (R452). -/
def State.takeLate (s : State) : State :=
  forAll s.upd.late (fun c t => match c with
    | .confirmReg lo => t.regConfirm lo
    | .confirm d => t.svcConfirm d
    | .activate d => t.svcActivate d
    | .restart => t.svcRestart) { s with upd := { s.upd with late := [] } }

end Sys2Proof.Machine
end

