-- ==== Sys2Proof/Machine/BootOps.lean ====
section
/-! DEFINITION. Start-up: the ROM's steps, the configuration load, the core dies, and the stages up to READY (05_start_up,
R196, R340, R397). -/

namespace Sys2Proof.Machine

/-- Set the stage. -/
def State.setStage (s : State) (x : BootStage) : State := { s with boot := { s.boot with stage := x, stageAt := s.now } }

/-- A domain is switched on by start-up. -/
def State.switchOn (s : State) (d : Nat) : State :=
  let t := s.setDom d (fun x => { x with st := .on, from0 := false, wakeFrom := none, retryAt := none, tries := 0 })
  { t with pins := { t.pins with pswEn := t.pins.pswEn.set d true } }

/-- Every CHn_RST_N is held low. -/
def State.holdResets (s : State) : State := { s with pins := { s.pins with chRst := .const false } }

/-- Start-up stops in stage HALTED (R114, R115); a PENDING slot whose luthier has started counts the boot (R455). -/
def State.halt (s : State) (code : FailCode) (started : Bool) : State :=
  let t := (s.setStage .halted).holdResets
  let t : State := { t with boot := { t.boot with fail := code, waiting := false } }
  when (started && t.onProbation) (fun t => t.writeBoot (fun b => { b with unconfirmed := min (b.unconfirmed + 1) 255 })) t.assertPin

/-- ROM recovery mode (R98). -/
def State.enterRecovery (s : State) (code : FailCode) : State :=
  let t := (s.setStage .recovery).holdResets
  let t : State := { t with boot := { t.boot with fail := code } }
  let t := forAll ((List.range 24).filter (fun d => d != 0 && d != 5 && d != 7)) (fun d t =>
    let u := t.setDom d (fun x => { x with st := .off })
    { u with pins := { u.pins with pswEn := u.pins.pswEn.set d false } }) t
  ({ t with upd := { t.upd with stage0 := t.stageOf t.targetSlot } } : State).assertPin

/-- Steps 1 to 3 of R92: D5 to D7, the ROM's and the fuses' checks, the factory trims, the entropy start-up test and the DRBG. The
Bool tells whether start-up goes on. -/
def State.bootRom (s : State) (env : BootEnv) : Bool × State :=
  let t := s.setStage .rom
  let t : State := { t with nvm := { t.nvm with badWords := env.badWords } }
  if [5, 6, 7].any (fun d => env.deadDomain.contains d) then (false, t.halt .domainWake false)
  else
    let t := forAll [5, 6, 7] (fun d t => t.switchOn d) t
    if !env.romOk then (false, t.halt .romCheck false)
    else if !env.fuseOk then (false, t.halt .fuse false)
    else
      let t := forAll (List.range 16) (fun g t => t.enterNoref g) t
      if !env.entropyOk then (false, t.halt .entropy false)
      else (true, t.startDrbg)

/-- The slots that the ROM tries, in order, each with the digest that binds it (R97, R458). -/
def BootRec.tries (b : BootRec) : List (Nat × Option (BitVec 384)) :=
  let prev := if b.prevSlot ≤ 1 then [(b.prevSlot, none)] else []
  if b.pending && decide (3 ≤ b.unconfirmed) then prev else (b.activeSlot % 2, some b.digest) :: prev

/-- The channel groups' domains. -/
def groupDomains : List Nat := (List.range 16).map (· + 8)

/-- Attempt `n` to wake a domain has failed: WAKE_FAILED, SYS_ACCERR.WAKE_FAIL and its event (R375). -/
def State.noteWakeFail (s : State) (d n : Nat) : State :=
  (((s.stick RF.PWR_WAKE_FAILED).stick RF.SYS_WAKE_FAIL).count 0x1118).event 1 0x0501 2 [(0, 1, d), (1, 1, n)]

/-- The domains of the data path are switched on (R92 step 5); a channel group that fails to wake, with every retry, is fenced (R114,
R375). -/
def State.dataPathOn (s : State) (env : BootEnv) : State :=
  let t := forAll ([2, 3, 4] ++ groupDomains.filter (fun d => !env.deadDomain.contains d)) (fun d t => t.switchOn d) s
  forAll (groupDomains.filter (fun d => env.deadDomain.contains d)) (fun d t =>
    let t := forAll (List.range (t.rf RF.PWR_RETRIES + 1)) (fun n t => t.noteWakeFail d (n + 1)) t
    ((t.setDom d (fun x => { x with st := .failed })).stick RF.PWR_DOMAIN_FENCED).fenceUnit .group (d - 8) rsnWake (some (0x01, 0x0501))) t

/-- A slot has passed its checks: its components are loaded, and the data path's self-tests of line protection follow (R92 step 6,
R340). -/
def State.runSlot (s : State) (env : BootEnv) (slot : Nat) (fell : Bool) : State :=
  let m := s.manifest slot
  let t : State := { s with
    boot := { s.boot with
      running := slot, fellBack := fell, secVer := m.secVer, digest := m.digest, schema := m.schema, pairFlag := m.pair,
      schemaMap := s.schemaIn slot s.inst m }
    tab := s.tabIn slot s.inst m }
  let t := when fell (fun t => t.stick RF.SYS_SLOT_FALLBACK) t
  let t := when (!env.katEast) (fun t => t.fenceUnit .lpHalf 0 rsnLpHalf none) t
  when (!env.katWest) (fun t => t.fenceUnit .lpHalf 1 rsnLpHalf none) t

/-- Steps 5 and 6 for the slots that the ROM tries, in order (R97, R114): a slot's manifest, the domains, its components. The Bool
tells whether start-up goes on. -/
def State.trySlots (s : State) (env : BootEnv) (fell : Bool) : List (Nat × Option (BitVec 384)) → Bool × State
  | [] => (false, s.enterRecovery .noValidSlot)
  | x :: l =>
    let t := s.readsOf (slotAddr x.1) 2208
    if !t.manifestOk x.1 x.2 then t.trySlots env true l
    else if [2, 3, 4].any (fun d => env.deadDomain.contains d) then (false, t.halt .domainWake false)
    else
      let t := (when (!s.domOn 2) (fun t => t.dataPathOn env) (t.setStage .verify)).readComps x.1
      if t.compsOk x.1 then (true, t.runSlot env x.1 fell) else t.trySlots env true l

/-- Steps 4 to 6: the boot record, the slot, the domains of the data path and the self-tests of line protection (R96 to R98,
R114, R340). The Bool tells whether start-up goes on. -/
def State.bootSlot (s : State) (env : BootEnv) : Bool × State :=
  let s := (s.readsOf (bootAddr 0) 4096).readsOf (bootAddr 1) 4096
  match s.bootCopy with
  | none => (false, s.enterRecovery .noBootRecord)
  | some c =>
    let b := s.bootAt c
    ({ s with boot := { s.boot with
      brec := b, copyBad := if s.bootOk (1 - c) then none else some (1 - c), stage := .bootrec } } : State).trySlots env false b.tries

/-- The calibration sets, the repair maps and their failures, with the hard repairs that were never confirmed (R103, R104, R428). -/
def State.loadSets (s : State) : State :=
  let s := s.readsOf (setAddr 0 0) 0x40000
  let t := forAll (List.range 32) (fun ch t => forAll (List.range 8) (fun p t =>
    let x := t.readSet ch p
    let u : State := { t with cal := { t.cal with sets := t.cal.sets.set (8 * ch + p) x } }
    if x.valid then u else (u.stick RF.SYS_CALSET_BAD).event 0x07 0x0902 1 [(0, 1, ch), (1, 1, p)]) t) s
  forAll (List.range 32) (fun ch t =>
    let t := t.readsOf (repairAddr 0 ch) 2048
    let t := if t.repairOk 0 ch then t else t.readsOf (repairAddr 1 ch) 2048
    let put := fun (m : RepairMap) =>
      forAll (m.hard.filter (fun e => e.2.2)) (fun e u => (u.stick RF.RPR_UNCONFIRMED).event 0x09 0x0b04 2
        [(0, 1, ch), (1, 1, e.1), (2, 2, e.2.1)]) ({ t with rpr := { t.rpr with maps := t.rpr.maps.set ch m } } : State)
    match t.repairOk 0 ch, t.repairOk 1 ch with
    | true, _ => put (repairOf (t.mram (repairAddr 0 ch) 2048))
    | false, true => put (repairOf (t.mram (repairAddr 1 ch) 2048))
    | false, false => ((put RepairMap.init).stick RF.SYS_REPAIR_LOST).event 0x09 0x0903 2 [(0, 1, ch)]) t

/-- Step 7 reads the header of each settings page, the whole of the newer one, and the other where that does not qualify (R92,
R99). -/
def State.readPages (s : State) (slot : Nat) : State :=
  let p := if wrapsAfter (s.pageSeq slot 1) (s.pageSeq slot 0) then 1 else 0
  let t := (s.readsOf (pageAddr slot (1 - p)) 64).readsOf (pageAddr slot p) 65536
  if t.pageFits slot p s.boot.schema then t else t.readsOf (pageAddr slot (1 - p)) 65536

/-- The settings page of the running slot: its words come into the shadows, or every function keeps its defaults (R99, R101). -/
def State.loadSettings (s0 : State) : State :=
  let s := s0.readPages s0.boot.running
  let slot := s.boot.running
  match s.newerPage slot (fun p => s.pageFits slot p s.boot.schema) with
  | some p =>
    let t := forAll ((s.pageWords slot p).getD []) (fun w t => t.loadWord w.1 w.2) s
    { t with
      boot := { t.boot with pageNow := p, pageSeq := t.pageSeq slot p, setDefault := false }
      sec := { t.sec with meas4 := sha384 (s.mram (pageAddr slot p) 49152) } }
  | none =>
    (({ s with boot := { s.boot with setDefault := true } } : State).stick RF.SYS_SETTINGS_DEFAULT).event 0x00 0x0103 2 [(0, 1, 5)]

/-- The void key is drawn at start-up (R321). -/
def State.drawVoidKey (s : State) : State :=
  match s.random 32 with
  | (l, t) => { t with sec := { t.sec with voidKey := beNat l } }

/-- The number of entries in the running slot's key section (R341). -/
def State.withEntries (s : State) (n : Nat) : State := { s with sec := { s.sec with entries := n } }

/-- The key section is that of the loaded page, or of the newer valid one where none qualifies; then comes key 0,
with the CLASS that KEY0_CLASS gives (R105, R320, R325, R453). -/
def State.loadKeys (s : State) : State :=
  let slot := s.boot.running
  let page := if s.boot.setDefault then s.newerValid slot else some s.boot.pageNow
  let t := match page with
    | some p => if s.keyOk slot p then forAll (keyEntries (s.keySection slot p)) (fun e t => t.restoreEntry e.1 e.2)
        (s.withEntries (keyEntries (s.keySection slot p)).length) else s
    | none => s
  if (t.slot false 0).st = .empty then t.createSlot 0 (t.rf RF.SEC_KEY0_CLASS) false else t

/-- The sensors have been read since power-good (R30): what they answered up to step 7. -/
def State.bootSensors (s : State) (env : BootEnv) : State :=
  forAll env.readings (fun x t => t.sensorGives x) s.sensorStart

/-- Step 7: the luthier starts, and the configuration comes into force as epoch 0 (R92, R96, R102, R332, R452). -/
def State.bootLoad (s0 : State) (env : BootEnv) : State :=
  let s := s0.bootSensors env
  let t := s.setStage .load
  let t := t.event 0x00 evStart 0 [(0, 1, t.inst), (1, 1, 0xb1), (2, 1, t.boot.running)]
  let t := match t.boot.copyBad with
    | some c =>
      ((t.nvmJob .readBoot true (wordsOf (bootAddr c) t.boot.brec.bytes)).stick RF.SYS_BR_REPAIRED).event 0x00 0x0103 1 [(0, 1, 6)]
    | none => t
  let t := t.loadSettings.loadSets
  let t := t.loadCommit
  let t : State := { t with
    boot := { t.boot with savedEpoch := match t.newerValid t.boot.running with
      | some p => numAt (t.mram (pageAddr t.boot.running p) 16) 12 4
      | none => 0 }
    sec := { t.sec with meas2 := t.boot.digest, meas3 := BitVec.ofNat 64 (t.boot.secVer + t.nvm.otpCount * 2 ^ 32) }
    upd := { t.upd with stage0 := t.stageOf t.targetSlot } }
  (t.drawVoidKey.loadKeys.takeBudget).takeLate

/-- Initial training of a channel begins (R347). -/
def State.trainStart (s : State) (ch : Nat) : State :=
  s.setCalCh ch (fun c => { c with trainFrom := some s.now, trainedOk := false, transfers := 0, verified := 0 })

/-- A row that carries a command which the luthier posts to an agent at step 8: that of an entry without fixed rows which the agent may
start, where the image has one, or else a row with the command, its SID from the work item, and every rule that R267 lists as checked
before it (R11, R13, R250, R269; log 101). -/
def State.postedRow (s : State) (a : Agent) (cmd mr : Nat) : BitVec 64 :=
  let fits := fun (r : BitVec 64) => rowCmd r == cmd && (!namesMr cmd || rowImm r / 256 == mr)
  let own := (s.entryWith a (span 16 63) fits).bind (fun e => (s.chain (s.firstRow e) 64).find? fits)
  own.getD (BitVec.ofNat 64 (cmd * 2 ^ 59 + 5 * 2 ^ 56 + ((rulesBefore cmd).foldl (fun n i => n + 2 ^ i) 0) * 2 ^ 40 + 3 * 2 ^ 14 +
    (if namesMr cmd then mr * 256 else 0)))

/-- A posted command plays: its row issues as soon as its bus is free and its rules have expired, and starts its timers (R253,
R261). -/
def State.playPosted (s : State) (ch : Nat) (a : Agent) (cmd mr data : Nat) (x : Target) : State :=
  let r := s.postedRow a cmd mr
  let t := s.firstFret ch r x
  let d : DieCmd := ⟨cmd, x.bank / 16, if namesMr cmd then 0 else x.bank % 16, if namesMr cmd then 0 else x.row, 0, 0, mr, data⟩
  (s.sendDies ch d 0#40 t).setChan ch (fun c => c.launch r x 0 t)

/-- What step 8 posts for one SID: to CAL the MRWs of LAT, DRV and THRESH and the MRRs of ID0, ID1 and GEOM, to AUX the SPPRs of the
repair map's soft entries (R92, R106, R263, R281, R425): agent, command, mode register, data, and the target. -/
def State.startCmds (s : State) (ch sid : Nat) : List (Agent × Nat × Nat × Nat × Target) :=
  let mrw := fun (mr data : Nat) => (Agent.cal, 19, mr, data, (⟨16 * sid, 0, 0⟩ : Target))
  let mrr := fun (mr : Nat) => (Agent.cal, 20, mr, 0, (⟨16 * sid, 0, 0⟩ : Target))
  [mrw 0 0x62, mrw 1 ((s.calCh ch).trims.sidDrv.getD sid 0), mrw 8 (s.rf RF.MUT_THRESH_CODE), mrr 0x10, mrr 0x11, mrr 0x12] ++
    ((s.rmap ch).soft.filter (fun e => e.1 / 16 == sid)).map (fun e => (Agent.aux, 11, 0, 0, ⟨e.1, e.2, 0⟩))

/-- CHn_RST_N rises: the core dies of a channel come out of reset with their identity alone. -/
def State.releaseDies (s : State) (ch : Nat) : State :=
  let t := s.setChan ch (fun c => { c with
    sids := (List.range 4).foldl (fun tb i => tb.upd i (fun x => { Sid.init with id0 := x.id0, id1 := x.id1, geom := x.geom })) c.sids
    rest := .awake, power := [] })
  if ch < 32 then { t with pins := { t.pins with chRst := t.pins.chRst.set ch true } } else t

/-- Step 8 on one channel: its core dies are released and programmed, and its refresh starts (R106, R281, R342). In RECOVERY and
HALTED every CHn_RST_N stays low (R98, R115). -/
def State.dieStart (s : State) (ch : Nat) : State :=
  if s.boot.stage = .halted ∨ s.boot.stage = .recovery then s
  else
    let v := s.rf RF.MUT_THRESH_CODE
    let t := s.releaseDies ch
    let t := forAll (List.range 4) (fun sid t => forAll (t.startCmds ch sid) (fun c t =>
      t.playPosted ch c.1 c.2.1 c.2.2.1 c.2.2.2.1 c.2.2.2.2) t) t
    t.setChan ch (fun c => { c with tOld := 2 ^ (8 + v), tPrev := 2 ^ (8 + v), tSince := s.now, threshDue := [] })

/-- What the SIDs of a channel answer to the reads of ID0, ID1 and GEOM. -/
def State.putIdents (s : State) (l : List SidIdent) (ch : Nat) : State :=
  forAll (List.range 4) (fun sid t => match l.find? (fun e => e.sid == 4 * ch + sid) with
    | some e => t.setSid ch sid (fun x => { x with id0 := e.id0, id1 := e.id1, geom := e.geom })
    | none => t.setSid ch sid (fun x => { x with id0 := Sid.init.id0, id1 := Sid.init.id1, geom := Sid.init.geom })) s

/-- A SID passes the read-back of step 8 (R106). -/
def Sid.passes (x : Sid) (accept : List Nat) : Bool := x.id0 == 0x48#8 && accept.contains x.id1.toNat && x.geom == 0x4f#8

/-- Every SID of a channel passes the read-back of step 8. -/
def State.identOk (s : State) (ch : Nat) : Bool := (List.range 4).all (fun sid => ((s.chan ch).sids.get sid).passes s.tab.accept)

/-- Step 8 on some channels, with what their SIDs answer. -/
def State.startDies (s : State) (l : List SidIdent) (chs : List Nat) : State :=
  forAll chs (fun ch t => (t.putIdents l ch).dieStart ch) s

/-- Steps 8 and 9: the core dies, with one channel reset and repetition where a SID fails its read-back, then the training of every
channel in service (R92, R106, R107). -/
def State.bootDies (s : State) (env : BootEnv) : State :=
  let t := s.setStage .coredie
  let live := (List.range 32).filter (fun ch => !t.resetDriven ch && t.groupOn (groupOf ch))
  let t := forAll (List.range 16) (fun g t => if t.groupOn g then t.setCg g (fun x => { x with st := .active, idle := 0 }) else t) t
  let t := forAll (List.range 16) (fun g t => t.enterNoref g) t
  let t := t.startDies env.idents live
  let again := live.filter (fun ch => !t.identOk ch)
  let t := t.startDies env.idents2 again
  let t := forAll (again.filter (fun ch => !t.identOk ch)) (fun ch t => t.fenceUnit .channel ch rsnTrain none) t
  let left := live.filter (fun ch => !t.marked .channel ch)
  let t := forAll left (fun ch t => t.trainStart ch) t
  ({ t with
    boot := { t.boot with trainLeft := left }
    pair := { t.pair with idSentAt := some t.now, ident := [] } } : State).setStage .train

/-- Step 8 of a held start: each CHn_RST_N is released while the bridge holds the lines, and the identity exchange begins
(R397). -/
def State.bootHeld (s : State) : State :=
  let t := s.setStage .coredie
  { t with
    pins := { t.pins with chRst := (List.range 32).foldl (fun tb ch => tb.set ch true) t.pins.chRst }
    pair := { t.pair with role := .fenced, idSentAt := some t.now, ident := [] }
    boot := { t.boot with heldStart := true } }

/-- Steps 4 to 9, once the NVM is ready. -/
def State.bootRest (s : State) (env : BootEnv) : State :=
  match ({ s with boot := { s.boot with waiting := false } } : State).bootSlot env with
  | (false, t) => t
  | (true, t) => if t.pins.sfenced then (t.bootLoad env).bootHeld else (t.bootLoad env).bootDies env

/-- Start-up from step 1 or, in an update restart, from step 2 (R92, R450): steps 1 to 3, then the rest as soon as NVM_RDY is
high. -/
def State.startUp (s : State) (env : BootEnv) : State :=
  match s.bootRom env with
  | (false, t) => t
  | (true, t) =>
    if t.pins.nvmRdy then t.bootRest env else { t with boot := { t.boot with waiting := true, stageAt := t.now } }

/-! ### Lanes and courses -/

/-- The stages of start-up in which the link comes up. -/
def State.linkStages (s : State) : Bool := s.boot.stage == .link || s.boot.stage == .refcal || s.boot.stage == .keyex

/-- A course. -/
def State.course (s : State) (c : Nat) : Course := s.link.courses.get c

/-- Change a course. -/
def State.setCourse (s : State) (c : Nat) (f : Course → Course) : State :=
  { s with link := { s.link with courses := s.link.courses.upd c f } }

/-- A physical lane. -/
def State.lane (s : State) (c l : Nat) : Lane := s.link.lanes.get (17 * c + l)

/-- Change one physical lane. -/
def State.setLane (s : State) (c l : Nat) (f : Lane → Lane) : State :=
  { s with link := { s.link with lanes := s.link.lanes.upd (17 * c + l) f } }

/-- Change every lane of a course. -/
def State.setLanes (s : State) (c : Nat) (f : Lane → Lane) : State := forAll (List.range 17) (fun l t => t.setLane c l f) s

/-- From step 10 on, and when D1 wakes, Camec transmits on every lane of a course that is not fenced, and asks for receiver
adaptation (R108). The transmit clocks are locked from then on (CR_TXLK, R23: no rule says when, DESIGN CHOICE, log 109). -/
def State.linkStart (s0 : State) : State :=
  let s : State := { s0 with pins := { s0.pins with txLock := .const true } }
  forAll ((List.range 12).filter (fun c => (s.course c).tx != .fenced)) (fun c t =>
    t.setLanes c (fun x => { x with pd := false, txv := true, eqReq := true })) s

/-! ### From training to READY -/

/-- At traffic-ready, SERVE in force keeps only the channels of SYS_CHREADY, and the floor follows (R196, R211). -/
def State.trimServe (s : State) : State :=
  let serve := s.rf RF.MAP_SERVE
  let kept := serve &&& s.roSys 0 0x074 0 0
  if kept = serve then s
  else
    let t := (s.putForce RF.MAP_SERVE 0 0 kept)
    let t : State := { t with regs := { t.regs with
      shadow := t.regs.shadow.set (RF.MAP_SERVE.addr 0 0) (t.regs.force.get (RF.MAP_SERVE.addr 0 0)) } }
    (t.publishFloor.stick RF.MAP_SERVE_TRIMMED).event 0x22 0x0406 1 [(0, 4, serve - kept)]

/-- Training has ended on every channel (R107): step 10 begins and D1 is woken; without a trained channel Camec stops once the
identity exchange has given a pair role (R112, R114). -/
def State.trainingOver (s : State) : State :=
  if s.boot.stage = .train ∧ s.boot.trainLeft = [] then
    if s.boot.chReady ≠ 0 then
      if s.domOn 1 then (s.setStage .link).linkStart else (s.setStage .link).wake 1
    else if s.pair.role = .none then s
    else s.halt .noChannel true
  else s

/-- A channel leaves initial training. -/
def State.leaveTraining (s : State) (ch : Nat) (ok : Bool) : State :=
  let t := s.setCalCh ch (fun c => { c with trainFrom := none, trainedOk := ok })
  { t with boot := { t.boot with
      trainLeft := t.boot.trainLeft.filter (fun n => n != ch),
      chReady := if ok then t.boot.chReady ||| 2 ^ ch else t.boot.chReady } }

/-- A channel fails its initial training (R107, R346, R347). -/
def State.trainFails (s : State) (ch reason : Nat) : State :=
  (((s.leaveTraining ch false).fenceUnit .channel ch reason none).quarReady ch).trainingOver

/-- The initial training of a channel has ended (R345, R346), its steps having run as far as its plan had left them: SID_DRV stands
in every SID, and TESTCTL is cleared (log 119). -/
def State.trainDone (s : State) (ch : Nat) (r : TrainResult) : State :=
  if (s.calCh ch).trainFrom.isNone then s
  else match s.judgeTraining ch rsnTrain r with
    | (0, t) =>
      let temp := (t.chan ch).temp
      let t := t.setCalCh ch (fun c => { c with
        trims := { r.trims with fret := c.trims.fret, pluck := c.trims.pluck }, trained := r.trims, trainTemp := temp })
      let t := (t.setDrv ch).testsOff ch
      ((t.leaveTraining ch true).calCounts ch).trainingOver
    | (n + 1, t) => t.trainFails ch (n + 1)

/-- The BOOTSTAT word that the READY event carries. -/
def State.bootWord (s : State) : Word := s.wordRead 0 2 (fieldsAt .sys 0x070) 0

/-- The change to READY (R92 step 14, R110, R111). -/
def State.enterReady (s : State) : State :=
  let t := s.trimServe.setStage .ready
  let t : State := { t with
    boot := { t.boot with readyTick := fieldNat t.time.stamp 31 0 }
    flt := { t.flt with generation := 1 }
    pins := { t.pins with smpIbi := true }
    trx := { t.trx with prog := .const none } }
  (t.event 0x00 0x0102 0 [(0, 4, t.bootWord.toNat), (4, 4, t.roSys 0 0x074 0 0)]).updReady

/-- Every up course runs encrypted, and one is up (R110). -/
def State.allEncrypted (s : State) : Bool :=
  let up := (List.range 12).filter (fun c => (s.link.courses.get c).up)
  !up.isEmpty && up.all (fun c => (s.link.courses.get c).encrypted)

/-- A channel group has its first calibration behind it, or is out of service. -/
def State.groupSettled (s : State) (g : Nat) : Bool :=
  !s.groupOn g || s.marked .group g || !(s.calGr g).firstRun || (ownChannels g).all (fun ch => s.chFenced ch)

/-- Start-up goes on from LINK, REFCAL and KEYEX as soon as it can (R108 to R110). -/
def State.bootGoesOn (s0 : State) : State :=
  let s := s0.trainingOver
  let a := if s.boot.stage = .link ∧ s.refLocked then
      forAll (List.range 16) (fun g t =>
        if (t.cg g).st = .selfRefresh ∧ t.groupOn g then t.cgExit g else t) (s.setStage .refcal)
    else s
  let b := if a.boot.stage = .refcal ∧ (List.range 16).all a.groupSettled then
      (if a.rfb RF.SEC_CLEAR_OK then a.enterReady else a.setStage .keyex)
    else a
  if b.boot.stage = .keyex ∧ b.allEncrypted then b.enterReady else b

/-- No course has locked 64 drone ticks into step 10: the channel groups are put into self-refresh, each through its entry handshake
(R108, R287). -/
def State.linkWait (s : State) : State :=
  if s.boot.stage = .link ∧ s.refCourses = [] ∧ s.boot.stageAt + 64 ≤ s.now then
    forAll (List.range 16) (fun g t => if t.groupOn g then t.requestCg g .selfRefresh else t) s
  else s

end Sys2Proof.Machine
end

