-- ==== Sys2Proof/Machine/PairOps.lean ====
section
/-! DEFINITION. The instance pair: the mirror port, what it carries, heartbeats, arming, takeover, double-stop mode, joint
sleep and handback (17_pair, R112, R113, R326). Message layouts other than that of HEARTBEAT are a DESIGN CHOICE (log 30). -/

namespace Sys2Proof.Machine

/-! ### Messages (R383) -/

/-- IDENTITY. -/
def mtIdentity : Nat := 0x01
/-- HEARTBEAT. -/
def mtHeartbeat : Nat := 0x02
/-- REF_BASE. -/
def mtRefBase : Nat := 0x03
/-- BACKLOG. -/
def mtBacklog : Nat := 0x04
/-- KEY. -/
def mtKey : Nat := 0x05
/-- REPAIR. -/
def mtRepair : Nat := 0x06
/-- CONFIG. -/
def mtConfig : Nat := 0x07
/-- TRIMS. -/
def mtTrims : Nat := 0x08
/-- SLEEP. -/
def mtSleep : Nat := 0x09
/-- PAIRKEY. -/
def mtPairkey : Nat := 0x0a
/-- HANDBACK. -/
def mtHandback : Nat := 0x0b

/-- The check word over the other words. -/
def mirCheck (l : List Word) : Word := crc32c (l.flatMap wordBytes)

/-- A whole message: word 0 with TYPE, SEQ and LEN, the body, and the check word. -/
def mirFrame (type seq : Nat) (body : List Word) : List Word :=
  let l := BitVec.ofNat 32 (type * 2 ^ 24 + seq % 256 * 2 ^ 16 + (body.length + 2) % 65536) :: body
  l ++ [mirCheck l]

/-- TYPE of a message. -/
def mirType (l : List Word) : Nat := fieldNat (l.headD 0#32) 31 24

/-- SEQ of a message. -/
def mirSeq (l : List Word) : Nat := fieldNat (l.headD 0#32) 23 16

/-- A message passes its check: its length is LEN, and its last word is the CRC-32C over the others. -/
def mirOk (l : List Word) : Bool :=
  decide (2 ≤ l.length) && fieldNat (l.headD 0#32) 15 0 == l.length && l.getLast? == some (mirCheck l.dropLast)

/-- The words between word 0 and the check word. -/
def mirBody (l : List Word) : List Word := (l.drop 1).dropLast

/-- Word `i` of a body. -/
def bodyWord (b : List Word) (i : Nat) : Word := b.getD i 0#32

/-- The words of a byte string. -/
def toWords (l : List Byte) : List Word := (bytesWords ((l.length + 3) / 4) l).map (fun v => BitVec.ofNat 32 v)

/-- The ordered exchange is open: PAIRED, or between a survivor and the held start whose identity has matched (R397, R398). -/
def State.portOpen (s : State) : Bool :=
  s.pair.role == .paired || ((s.pair.role == .survivor || s.pair.role == .fenced) && s.pair.idSeen)

/-- Words leave on MIR_TXD. -/
def State.mirWords (s : State) (n : Nat) : State := s.countBy 0x8120 n

/-- SEQ of a heartbeat or an identity record, half the range away from the state messages', so that its acknowledgement is never
one of theirs (DESIGN CHOICE, log 30). -/
def PairSt.freeSeq (p : PairSt) : Nat := (p.txSeq + 128) % 256

/-- Send a state message now. -/
def State.mirPlace (s : State) (type : Nat) (body : List Word) (keyOp : Option Nat) : State :=
  let w := mirFrame type s.pair.txSeq body
  ({ s with pair := { s.pair with
      sent := s.pair.sent ++ [⟨s.pair.txSeq, w, s.now, s.now, keyOp⟩], txSeq := (s.pair.txSeq + 1) % 256 } } : State).mirWords
    w.length

/-- Send a state message, behind those that the limit of 64 unacknowledged messages, or a sleeping D6, holds back (R384). -/
def State.mirSend (s : State) (type : Nat) (body : List Word) (keyOp : Option Nat) : State :=
  if s.domOn 6 ∧ s.pair.sent.length < 64 ∧ s.pair.waiting = [] then s.mirPlace type body keyOp
  else { s with pair := { s.pair with waiting := s.pair.waiting ++ [(BitVec.ofNat 32 type :: body, keyOp)] } }

/-- Send the messages that were held back, as far as the limit allows. -/
def State.mirPump (s : State) : Nat → State
  | 0 => s
  | n + 1 =>
    match s.pair.waiting with
    | [] => s
    | w :: rest =>
      if s.domOn 6 ∧ s.pair.sent.length < 64 then
        ((({ s with pair := { s.pair with waiting := rest } } : State)).mirPlace (w.1.headD 0#32).toNat (w.1.drop 1) w.2).mirPump n
      else s

/-! ### What is mirrored (R381, R382) -/

/-- The credits that bank `b` has received among the first `k` of its channel (R273). -/
def creditsOf (k b : Nat) : Nat := (k + 63 - b) / 64

/-- The base of a bank's refresh pointer (R382). -/
def Chan.base (c : Chan) (b : Nat) : Nat :=
  (((c.banks.get b).ptr + (c.banks.get b).owed - (creditsOf c.kCount b : Int)) % 4096).toNat

/-- REF_BASE of a channel: its number and two bases to the word. -/
def State.refBaseBody (s : State) (ch : Nat) : List Word :=
  let c := s.chan ch
  BitVec.ofNat 32 ch :: (List.range 32).map (fun i => BitVec.ofNat 32 (c.base (2 * i) + c.base (2 * i + 1) * 2 ^ 16))

/-- BACKLOG: channel, bank, whether the entry is added, and its row. -/
def backlogBody (ch : Nat) (add : Bool) (e : Backlog) : List Word :=
  [BitVec.ofNat 32 (ch + e.bank * 2 ^ 8 + b2n add * 2 ^ 31), BitVec.ofNat 32 e.row]

/-- REPAIR of a channel: its number and its record. -/
def State.repairBody (s : State) (ch : Nat) : List Word := BitVec.ofNat 32 (ch % 32) :: toWords ((s.rmap ch).bytes (ch % 32))

/-- TRIMS of a channel: its number and its trims in force. -/
def State.trimsBody (s : State) (ch : Nat) : List Word := BitVec.ofNat 32 (ch % 32) :: toWords (Trims.bytes (s.trimsOfCh ch))

/-- A KEY_ERASE has zeroised a slot and waits for the partner's acknowledgement (R319). -/
def State.eraseOpen (s : State) (k : Nat) : Bool := s.trx.keyOps.any (fun o => o.phase == 2 && !bitAt o.hdr 48 && fieldNat o.hdr 42 32 == k)

/-- KEY of an occupied slot: KEYID and the slot wrapped under the pair key with a drawn IV; of an erased one KEYID with bit 31
set. -/
def State.keyBody (s : State) (partner : Bool) (k : Nat) : List Word × State :=
  let x := s.slot partner k
  match s.sec.pairKey with
  | none => ([BitVec.ofNat 32 (k + 2 ^ 31)], s)
  | some key =>
    if x.st = .empty ∨ (!partner && s.eraseOpen k) then ([BitVec.ofNat 32 (k + 2 ^ 31)], s)
    else
      let d := s.random 12
      (BitVec.ofNat 32 k :: toWords (wrapSlot key forPair s.inst k x d.1), d.2)

/-- The value in force of a buffered word. -/
def State.forceWord (s : State) (off : Nat) : Nat :=
  match regKind off with
  | .mode p n false => if hasPreset p then (s.regs.force.get (pageBase p n)).toNat % 512 else 0
  | .reg p n x false => ((fieldsOfWord p x).filter (fun f => f.1.acc == .rwb)).foldl (fun w f =>
      w + s.rfn f.1 n f.2 % 2 ^ (f.1.hi + 1 - f.1.lo) * 2 ^ f.1.lo) 0
  | _ => 0

/-- The buffered words of a commit group, in rising order within each page. -/
def groupOffs (g : Nat) : List Nat :=
  let words := fun (at0 n : Nat) => (List.range n).map (fun i => at0 + 4 * i)
  let own := (groupPages g).flatMap (fun p => words (pageBase p.1 p.2) 1024)
  let more := if g = 0 then words 0x22000 4096 ++ words 0x30000 16384 else if g = 10 then [0x20804] else []
  (own ++ more).filter (fun off => wordGroup off == g && isBuffered off)

/-- CONFIG of one group: the group, whether it is the commit's last part, the epoch, and the words in runs (R381). -/
def State.configBody (s : State) (g : Nat) (last : Bool) (epoch : Nat) : List Word :=
  BitVec.ofNat 32 (g + b2n last * 2 ^ 31) :: BitVec.ofNat 32 epoch ::
    (wordRuns ((groupOffs g).map (fun off => (off, s.forceWord off)))).map (fun v => BitVec.ofNat 32 v)

/-- Send the wrapped form of a slot, or its erasure. -/
def State.sendKey (s : State) (k : Nat) (keyOp : Option Nat) : State :=
  match s.keyBody false k with
  | (b, t) => t.mirSend mtKey b keyOp

/-- Send the configuration of some groups as the parts of one commit. -/
def State.sendConfig (s : State) (groups : List Nat) (epoch : Nat) : State :=
  forAll groups (fun g t => t.mirSend mtConfig (t.configBody g (groups.getLast? == some g) epoch) none) s

/-- Everything that is mirrored at changes, sent when the pair becomes PAIRED. -/
def State.mirrorAll (s : State) : State :=
  let t := forAll (List.range 32) (fun ch t =>
    let t := ((t.mirSend mtRefBase (t.refBaseBody ch) none).mirSend mtRepair (t.repairBody ch) none).mirSend mtTrims
      (t.trimsBody ch) none
    forAll (t.chan ch).backlog (fun e t => t.mirSend mtBacklog (backlogBody ch true e) none) t) s
  t.sendConfig (List.range 11) t.regs.doneEpoch

/-- The occupied slots, sent once the pair key is agreed (R326). -/
def State.sendKeys (s : State) : State :=
  forAll ((List.range 2048).filter (fun k => (s.slot false k).st != .empty)) (fun k t => t.sendKey k none) s

/-- An entry of one backlog that another lacks. -/
def backlogLess (a b : List Backlog) : List Backlog := a.filter (fun e => !b.any (fun x => x.bank == e.bank && x.row == e.row))

/-- The key slots in which two states differ as the partner's bank sees them. -/
def slotsChanged (s t : State) : List Nat :=
  ((s.sec.own.ents ++ t.sec.own.ents).map (fun (e : Nat × KeySlot) => e.1)).eraseDups.filter (fun k =>
    let x := s.slot false k
    let y := t.slot false k
    ((x.st == .empty) != (y.st == .empty) && !s.eraseOpen k) || x.gen != y.gen || (t.eraseOpen k && !s.eraseOpen k))

/-- What the step from `s` to `t` changed of the mirrored items goes to the partner (R381, R382). A repair map goes once both copies of
it have been written (R422); one that is not written, while NVM_RDY is low, goes at once. -/
def State.mirrorFrom (s t : State) : State :=
  if s.pair.role = .paired ∧ t.pair.role = .paired then
    let u := forAll (List.range 32) (fun ch u =>
      let a := s.chan ch
      let b := t.chan ch
      let u := when ((s.rmap ch).seq != (t.rmap ch).seq && !t.nvm.jobs.any (fun j => j.why == .repairMap ch)) (fun u =>
        u.mirSend mtRepair (t.repairBody ch) none) u
      let u := when ((s.calCh ch).count != (t.calCh ch).count) (fun u => u.mirSend mtTrims (t.trimsBody ch) none) u
      let u := forAll (backlogLess b.backlog a.backlog) (fun e u => u.mirSend mtBacklog (backlogBody ch true e) none) u
      let u := forAll (backlogLess a.backlog b.backlog) (fun e u => u.mirSend mtBacklog (backlogBody ch false e) none) u
      when (!(List.range 64).all (fun i => a.base i == b.base i)) (fun u => u.mirSend mtRefBase (t.refBaseBody ch) none) u) t
    let u := when t.sec.pairKey.isSome (fun u => forAll (slotsChanged s t) (fun k u =>
      u.sendKey k (if t.eraseOpen k then some k else none)) u) u
    match s.regs.commits.find? (fun c => c.epoch == t.regs.doneEpoch) with
    | some c =>
      if s.regs.doneEpoch ≠ t.regs.doneEpoch ∧ ((t.regs.results.get (t.regs.doneEpoch % 4)).result = 1 ∨
          (t.regs.results.get (t.regs.doneEpoch % 4)).result = 2) then
        u.sendConfig ((maskGroups c.mask).filter (fun g => decide (g ≤ 10))) t.regs.doneEpoch
      else u
    | none => u
  else t

/-! ### Identity (R112) -/

/-- The identity record: INST_ID with the settings format, the security version and the manifest digest. -/
def State.identityBody (s : State) : List Word :=
  BitVec.ofNat 32 (s.inst + s.boot.schema * 2 ^ 16) :: BitVec.ofNat 32 s.boot.secVer ::
    (List.range 12).map (fun i => s.boot.digest.extractLsb' (32 * i) 32)

/-- Camec sends its identity record: once per drone tick until the partner's has come, then every 64 ticks, counted from the first one
sent. -/
def State.identityTick (s : State) : State :=
  match s.pair.idSentAt with
  | none => s
  | some t0 =>
    if s.domOn 6 ∧ (!s.pair.idSeen ∨ (s.now - t0) % 64 = 0) then
      let w := mirFrame mtIdentity s.pair.freeSeq s.identityBody
      let t1 := if s.pair.ident = [] then s.now else t0
      ({ s with pair := { s.pair with ident := w, idSentAt := some t1 } } : State).mirWords w.length
    else s

/-- What of two identities differs, in the numbering of PAIR_MISMATCH (R418). -/
def State.identityDiff (s : State) (b : List Word) : Option Nat :=
  let own := s.identityBody
  if fieldNat (bodyWord b 0) 15 0 = s.inst then some 0
  else if b.drop 2 ≠ own.drop 2 then some 1
  else if bodyWord b 1 ≠ bodyWord own 1 then some 2
  else if fieldNat (bodyWord b 0) 31 16 ≠ s.boot.schema then some 3
  else none

/-- The pair role changes (R184). -/
def State.setRole (s : State) (r : PairRole) : State :=
  if s.pair.role = r then s else ({ s with pair := { s.pair with role := r } } : State).bumpGen

/-- The mirror port starts afresh. -/
def State.portReset (s : State) : State :=
  { s with pair := { s.pair with
      txSeq := 0, rxSeq := 0, sent := [], waiting := [], early := [], missed := 0, gotBeat := false, ownOffer := 0, peerOffer := 0,
      sleepSent := false, joint := false } }

/-- What PAIRKEY carries: the ephemeral public key and the nonce, the identity key's signature over both, and what the device
certificate does not take from the template, the identity's public key and Bistinto's signature (R326, R328; the body is a DESIGN
CHOICE, log 32). -/
def pairShare (inst d : Nat) (nonce : List Byte) : List Byte :=
  let body := pointBytes (mulPoint d g384) ++ nonce
  body ++ ecdsaSign (identityKey inst) (sha384Bytes body) ++ pointBytes (mulPoint (identityKey inst) g384) ++
    (Config.fusedSignature inst ++ List.replicate 96 0#8).take 96

/-- The signature of a PAIRKEY body verifies through the chain: the device certificate under the product key, the ephemeral key
under the certificate's. -/
def pairVerified (l : List Byte) : Bool :=
  ecdsaVerify Config.productKey (sha384Bytes (Config.certHead ++ (l.drop 224).take 96 ++ Config.certTail)) ((l.drop 320).take 96) &&
    ecdsaVerify (pointOf (l.drop 224)) (sha384Bytes (l.take 128)) ((l.drop 128).take 96)

/-- The pair key of two verified shares: HKDF of the shared secret with both nonces, A's first, as its salt (R326). -/
def pairKeyOf (inst d : Nat) (nonce l : List Byte) : Option Nat :=
  let other := (l.drop 96).take 32
  if pairVerified l && onCurve (pointOf l) then
    some (beNat (hkdfExpand (hkdfExtract (if inst = 0 then nonce ++ other else other ++ nonce) (ecdh d (pointOf l)))
      (labelBytes "camec pair") 32))
  else none

/-- The instances agree a pair key: this one draws its ephemeral key and nonce and sends them signed (R326). -/
def State.startPairKey (s : State) : State :=
  let d := s.random 88
  let x := (privateKey (d.1.take 56), d.1.drop 56)
  let t : State := { d.2 with pair := { d.2.pair with share := some x }, sec := { d.2.sec with pairKey := none } }
  t.mirSend mtPairkey (toWords (pairShare t.inst x.1 x.2)) none

/-- The roles disagree: no mirroring and no takeover, with the event's field (R112, R326). -/
def State.mismatch (s : State) (field : Nat) : State :=
  ((s.portReset).setRole .mismatch).event 0x08 0x0801 2 [(0, 1, field)]

/-- The pair becomes PAIRED: mirroring starts and takeover can be armed (R112, R381). -/
def State.becomePaired (s : State) : State :=
  let t := s.portReset.setRole .paired
  ({ t with pair := { t.pair with beats := 2, peerArmed := false, peerHalted := false } } : State).startPairKey.mirrorAll

/-- A partner's identity record that passed its check (R112, R397, R451). -/
def State.takeIdentity (s : State) (b : List Word) : State :=
  let digest : BitVec 384 := (List.range 12).foldl (fun d i => d ||| ((bodyWord b (i + 2)).setWidth 384 <<< (32 * i))) 0#384
  let was := s.pair.idSeen
  let t : State := { s with pair := { s.pair with idSeen := true, peerDigest := some digest } }
  match s.pair.role, s.identityDiff b with
  | .none, none => t.becomePaired.followNow
  | .alone, none => t.becomePaired.followNow
  | .mismatch, none => t.becomePaired.followNow
  | .paired, none => if 2 ≤ s.pair.missed then t.becomePaired.followNow else t.followNow
  | .survivor, none => if was then t else t.portReset.startPairKey
  | .fenced, none => if was then t else t.portReset.startPairKey
  | .mismatch, some _ => t.followNow
  | .survivor, some n => ({ t with pair := { t.pair with idSeen := false } } : State).event 0x08 0x0801 2 [(0, 1, n)]
  | .fenced, some n => ({ t with pair := { t.pair with idSeen := false } } : State).event 0x08 0x0801 2 [(0, 1, n)]
  | _, some n => (t.mismatch n).followNow

/-- No identity record has come within 2,048 drone ticks of the first one sent (R112). -/
def State.alone (s : State) : State :=
  match s.pair.idSentAt with
  | none => s
  | some t0 => if s.pair.role = .none ∧ !s.pair.idSeen ∧ t0 + 2048 ≤ s.now then s.setRole .alone else s

/-! ### Heartbeats (R385) -/

/-- STATE of a channel record (R187). -/
def State.chanCode (s : State) (ch : Nat) : Nat :=
  if 32 ≤ ch ∧ !s.pair.doubleStop then 7
  else if s.chFenced ch then 5
  else if 32 ≤ ch then 6
  else if !s.domOn (chDomain ch) then 0
  else if (s.calCh ch).retraining || (s.calCh ch).trainFrom.isSome then 4
  else match (s.cg (groupOf ch)).st with
    | .active => 1
    | .powerDown => 2
    | .selfRefresh => 3
    | .deep => 0

/-- The words of a HEARTBEAT between its header and its check word. -/
def State.beatBody (s : State) (offer : Bool) : List Word :=
  [s.time.stamp.setWidth 32, (s.time.stamp >>> 32).setWidth 32,
    BitVec.ofNat 32 (b2n (s.boot.stage == .halted) * 2 ^ 31 + b2n s.flt.fatal * 2 ^ 30 + b2n s.armedOwn * 2 ^ 29 +
      b2n offer * 2 ^ 28 + s.pair.role.num * 2 ^ 25),
    BitVec.ofNat 32 s.regs.doneEpoch] ++
  (List.range 16).map (fun w => BitVec.ofNat 32 ((s.chan (2 * w)).drained + (s.chan (2 * w + 1)).drained * 2 ^ 16)) ++
  (List.range 32).map (fun n => BitVec.ofNat 32 (s.chanCode n * 2 ^ 28 + (s.chan n).band * 2 ^ 25 +
    twos 5 (s.chan n).owedMax * 2 ^ 20 + (s.chan n).kCount % 2 ^ 18))

/-- Every channel group is in self-refresh: the instance offers sleep (R396). -/
def State.offersSleep (s : State) : Bool :=
  s.pair.role == .paired && (List.range 16).all (fun g => (s.cg g).st == .selfRefresh || (s.cg g).st == .deep)

/-- Both instances have offered sleep in two heartbeats: takeover is disarmed and SLEEP goes out (R396). -/
def State.sleepNow (s : State) : State :=
  if s.pair.role = .paired ∧ 2 ≤ s.pair.ownOffer ∧ 2 ≤ s.pair.peerOffer ∧ !s.pair.sleepSent then
    ({ s with pair := { s.pair with sleepSent := true } } : State).mirSend mtSleep [0#32] none
  else s

/-- A heartbeat goes out at a drone tick: while PAIRED, in stage HALTED, and once more after a fault of severity 4 (R113, R381,
R388, R406). -/
def State.beatTick (s : State) : State :=
  let halted := s.boot.stage == .halted
  if s.domOn 6 ∧ (halted ∨ s.pair.lastBeat ∨ (s.pair.role = .paired ∧ !s.flt.fatal ∧ s.pair.step = .idle)) then
    let offer := s.offersSleep
    let w := mirFrame mtHeartbeat s.pair.freeSeq (s.beatBody offer)
    let t : State := { s with pair := { s.pair with
      beat := w, lastBeat := false, ownOffer := if offer then s.pair.ownOffer + 1 else 0,
      sleepSent := s.pair.sleepSent && offer } }
    ((t.count 0x8100).mirWords w.length).sleepNow
  else s

/-- The refresh words and WSEQ_DRAINED of a heartbeat come into the mirror store. -/
def State.takeWords (s : State) (b : List Word) : State :=
  { s with pair := { s.pair with chans := (List.range 32).foldl (fun tb n =>
      let w := bodyWord b (20 + n)
      let q := bodyWord b (4 + n / 2)
      let owed := fieldNat w 24 20
      tb.upd n (fun m => { m with
        st := fieldNat w 31 28, band := fieldNat w 27 25, owed := if 16 ≤ owed then (owed : Int) - 32 else owed,
        k := fieldNat w 17 0, drained := if n % 2 = 0 then fieldNat q 15 0 else fieldNat q 31 16 })) s.pair.chans } }

/-- This instance declares its partner failed and asks for the fence (R388, R389). -/
def State.declare (s : State) (reason : Nat) : State :=
  if s.pair.role = .paired ∧ s.pair.step = .idle then
    let t : State := { s with
      pins := { s.pins with brgFreq := true }
      pair := { s.pair with
        step := .freq, reason := reason, declared := s.now, declStamp := s.time.stamp, idSeen := false, sent := [], waiting := [],
        early := [], peerArmed := false
        chans := (List.range 32).foldl (fun tb n => tb.upd n (fun m => { m with given := 0 })) s.pair.chans } }
    ((t.stick RF.MIR_TAKEOVER).count 0x8128).event 0x08 0x0802 2 [(0, 1, 1 - s.inst), (1, 1, reason)]
  else s

/-- The groups whose requests waited for the pair to wake leave self-refresh (R396). -/
def State.sleptGroups (s : State) : State :=
  let gs := ((s.trx.reqs.filter (fun r => match r.stage with | .queued _ => true | _ => false)).flatMap (fun r =>
    (s.channelsOf r).map groupOf)).eraseDups
  forAll gs (fun g t => if (t.cg g).st = .selfRefresh then t.touchGroup g else t) s

/-- A heartbeat that passed its check (R384 to R386, R388, R398). -/
def State.takeBeat (s : State) (b : List Word) : State :=
  let f := bodyWord b 2
  let t := (s.takeWords b).count 0x8108
  let t : State := { t with pair := { t.pair with
    gotBeat := true, beatAt := t.now, beats := t.pair.beats + 1, peerHalted := bitAt f 31, peerArmed := bitAt f 29,
    peerOffer := if bitAt f 28 then t.pair.peerOffer + 1 else 0 } }
  let t := when (bitAt f 30 && !bitAt f 31) (fun t => t.declare 1) t
  let t := when (t.pair.role == .survivor && !t.pair.doubleStop && t.pair.step == .idle && fieldNat f 27 25 == PairRole.paired.num)
    (fun t => (t.setRole .paired).mirrorAll.sendKeys) t
  let t := t.sleepNow
  let t := if t.pair.beats = 2 then t.sleptGroups else t
  if t.armed && !s.armed then forAll (List.range 32) (fun ch t => t.refLimits ch) t else t

/-- The heartbeat window of a drone tick closes (R68, R388). -/
def State.closeBeat (s : State) : State :=
  if s.pair.role = .paired ∧ !s.pair.joint ∧ s.domOn 6 ∧ s.pair.step = .idle ∧ s.pair.lastWin ≠ s.now then
    let t : State := { s with pair := { s.pair with
      lastWin := s.now, gotBeat := false, missed := if s.pair.gotBeat then 0 else s.pair.missed + 1 } }
    if s.pair.gotBeat then t
    else
      let t := (t.stick RF.MIR_MISS_SEEN).count 0x8110
      if s.armed ∧ 2 ≤ t.pair.missed then t.declare 0 else t
  else s

/-! ### State messages (R384) -/

/-- The change of one partner channel in the mirror store. -/
def State.setMir (s : State) (n : Nat) (f : MirChan → MirChan) : State :=
  { s with pair := { s.pair with chans := s.pair.chans.upd (n % 32) f } }

/-- REF_BASE. -/
def State.takeRefBase (s : State) (b : List Word) : State :=
  s.setMir (bodyWord b 0).toNat (fun m => { m with bases := (List.range 64).foldl (fun tb i =>
    let w := bodyWord b (1 + i / 2)
    tb.set i (if i % 2 = 0 then fieldNat w 15 0 else fieldNat w 31 16)) m.bases })

/-- BACKLOG. -/
def State.takeBacklog (s : State) (b : List Word) : State :=
  let w := bodyWord b 0
  let bank := fieldNat w 13 8
  let row := (bodyWord b 1).toNat % 32768
  s.setMir (fieldNat w 4 0) (fun m => { m with
    backlog := (m.backlog.filter (fun e => !(e.bank == bank && e.row == row))) ++ (if bitAt w 31 then [⟨bank, row, 0⟩] else []) })

/-- A wrapped slot comes into a bank of the key store; a failed unwrap is a mismatch of the pair key (R326). -/
def State.takeSlotKey (s : State) (partner : Bool) (inst : Nat) (b : List Word) : State :=
  let k := fieldNat (bodyWord b 0) 10 0
  if bitAt (bodyWord b 0) 31 then s.zeroSlot partner k
  else
    let l := (b.drop 1).flatMap wordBytes
    match s.sec.pairKey.bind (fun key => unwrapSlot key forPair inst l) with
    | some keys => s.setSlot partner k (fun x => { x with
        st := .active, keys := keys, cls := numAt l 2 1 % 4, meta1 := (numAt l 2 1).testBit 2, gen := (x.gen + 1) % 65536,
        uses := 0, eastOk := true, westOk := true })
    | none => s.mismatch 4

/-- REPAIR. -/
def State.takeRepair (s : State) (b : List Word) : State :=
  s.setMir (bodyWord b 0).toNat (fun m => { m with repair := (b.drop 1).flatMap wordBytes })

/-- The words of a CONFIG part. -/
def configWords (b : List Word) : List (Nat × Nat) :=
  (runWords (fun off => savedMask off != 0) ((b.drop 2).map (fun w => w.toNat)) (b.length + 1)).getD []

/-- CONFIG; its last part carries the partner's mirrored epoch. -/
def State.takeConfig (s : State) (b : List Word) : State :=
  let words := configWords b
  { s with pair := { s.pair with
      config := words.foldl (fun tb w => tb.set w.1 (BitVec.ofNat 32 w.2)) s.pair.config,
      epoch := if bitAt (bodyWord b 0) 31 then (bodyWord b 1).toNat else s.pair.epoch } }

/-- TRIMS. -/
def State.takeTrims (s : State) (b : List Word) : State :=
  s.setMir (bodyWord b 0).toNat (fun m => { m with trims := some (trimsOf ((b.drop 1).flatMap wordBytes)) })

/-- SLEEP: with the wake flag the pair is awake again. -/
def State.takeSleep (s : State) (b : List Word) : State :=
  if bitAt (bodyWord b 0) 0 then
    { s with pair := { s.pair with joint := false, sleepSent := false, peerOffer := 0 } }
  else s

/-- PAIRKEY: the partner's key verifies and the pair key follows, or the roles disagree (R326). -/
def State.takePairkey (s : State) (b : List Word) : State :=
  match s.pair.share.bind (fun x => pairKeyOf s.inst x.1 x.2 (b.flatMap wordBytes)) with
  | some key =>
    let t : State := { s with sec := { s.sec with pairKey := some key } }
    if t.pair.role = .paired then t.sendKeys else t
  | none => s.mismatch 4

/-- HANDBACK: kept until the bridge releases the returning instance. -/
def State.takeHandback (s : State) (b : List Word) : State :=
  if s.pair.role = .fenced then { s with pair := { s.pair with handMsgs := s.pair.handMsgs ++ [b] } } else s

/-- Apply a state message (R383). The mirror store follows the partner while PAIRED only: in double-stop mode it stays as it was
at the takeover (R200, R381, R392). -/
def State.applyMir (s : State) (l : List Word) : State :=
  let b := mirBody l
  match mirType l, s.pair.role with
  | 0x03, .paired => s.takeRefBase b
  | 0x04, .paired => s.takeBacklog b
  | 0x05, .paired => s.takeSlotKey true (1 - s.inst) b
  | 0x06, .paired => s.takeRepair b
  | 0x07, .paired => s.takeConfig b
  | 0x08, .paired => s.takeTrims b
  | 0x09, .paired => s.takeSleep b
  | 0x0a, _ => s.takePairkey b
  | 0x0b, _ => s.takeHandback b
  | _, _ => s

/-- The message with the SEQ that is next in order is applied, and those behind it that came early. -/
def State.drainMir (s : State) : Nat → State
  | 0 => s
  | n + 1 =>
    match s.pair.early.find? (fun e => e.1 == s.pair.rxSeq) with
    | none => s
    | some e =>
      ((({ s with pair := { s.pair with
          rxSeq := (s.pair.rxSeq + 1) % 256, early := s.pair.early.filter (fun x => x.1 != e.1) } } : State)).applyMir e.2).drainMir n

/-- A message's SEQ goes out on the acknowledgement channel. -/
def State.ackMir (s : State) (seq : Nat) : State := { s with pair := { s.pair with acked := some seq } }

/-- The partner is held declared failed: MIR_RXREQ and MIR_SKRXREQ are clamped low from the declaration until the identity of a
held start has matched in double-stop mode (R42, R397; the end is a DESIGN CHOICE, log 32). -/
def State.clamped (s : State) : Bool :=
  s.pair.step == .freq || s.pair.step == .opening || s.pair.step == .retraining || (s.pair.step == .doubleStop && !s.pair.idSeen)

/-- The clamp lets a held start's identity record through, and only in double-stop mode: without it R397's exchange could not
end the clamp (DESIGN CHOICE, log 32). -/
def State.hearsNot (s : State) (type : Nat) : Bool := s.clamped && !(s.pair.step == .doubleStop && type == mtIdentity)

/-- A message of a type arrives (R384): one that fails its check is discarded, one that passes it is acknowledged and applied
once, in SEQ order; heartbeats and identity records stand outside the order. A sleeping D6 is woken by MIR_RXREQ (R396). -/
def State.receive (s : State) (type : Nat) (l : List Word) : State :=
  if s.hearsNot type || !mirOk l || mirType l != type then s
  else if !s.domOn 6 then s.wake 6
  else if type = mtIdentity then
    if s.pair.idSentAt.isSome then (s.ackMir (mirSeq l)).takeIdentity (mirBody l) else s
  else if type = mtHeartbeat then (if s.portOpen && l.length == 54 then (s.ackMir (mirSeq l)).takeBeat (mirBody l) else s)
  else if !s.portOpen then s
  else
    let d := (mirSeq l + 256 - s.pair.rxSeq) % 256
    if 192 ≤ d then s.ackMir (mirSeq l)
    else if d < 64 then
      let t : State := { s with pair := { s.pair with
        early := if s.pair.early.any (fun e => e.1 == mirSeq l) then s.pair.early else s.pair.early ++ [(mirSeq l, l)] } }
      (t.ackMir (mirSeq l)).drainMir 65
    else s

/-- A message that stood in its SEQ's place. -/
def State.sentMsg (s : State) (seq : Nat) : Option MirMsg := s.pair.sent.find? (fun m => m.seq == seq)

/-- An epoch's CONFIG part is still to be acknowledged. -/
def State.configLeft (s : State) (epoch : Word) : Bool :=
  s.pair.sent.any (fun m => mirType m.words == mtConfig && m.words.getD 2 0#32 == epoch) ||
    s.pair.waiting.any (fun w => w.1.headD 0#32 == BitVec.ofNat 32 mtConfig && w.1.getD 2 0#32 == epoch)

/-- The partner acknowledges a SEQ (R384): the mirrored epoch follows its last CONFIG part, D6 goes to sleep behind its SLEEP. -/
def State.acknowledged (s : State) (seq : Nat) : State :=
  match s.sentMsg seq with
  | none => s
  | some m =>
    let t := ({ s with pair := { s.pair with sent := s.pair.sent.filter (fun x => x.seq != seq) } } : State).mirPump 64
    let e := m.words.getD 2 0#32
    if mirType m.words = mtConfig ∧ !t.configLeft e then { t with pair := { t.pair with mirrored := e.toNat } }
    else if mirType m.words = mtSleep ∧ !bitAt (m.words.getD 1 0#32) 0 ∧ t.pair.sleepSent then
      ({ t with pair := { t.pair with joint := true } } : State).requestDom 6 .retention
    else t

/-- A state message has gone unacknowledged for 4 drone ticks: it is resent (R384). -/
def State.resendMir (s : State) (seq : Nat) : State :=
  match s.sentMsg seq with
  | some m =>
    if m.at0 + 4 ≤ s.now ∧ s.domOn 6 then
      (({ s with pair := { s.pair with sent := s.pair.sent.map (fun x =>
          if x.seq = seq then { x with at0 := s.now } else x) } } : State).count 0x8118).mirWords m.words.length
    else s
  | none => s

/-- A mirror word has gone unacknowledged for 64 drone ticks while takeover is armed (R388). -/
def State.noAck (s : State) : State :=
  if s.armed && s.pair.sent.any (fun m => decide (m.first + 64 ≤ s.now)) then s.declare 2 else s

/-- D6 is on again after the pair slept: takeover re-arms with two heartbeats, and SLEEP goes out with the wake flag (R396). -/
def State.pairAwake (s : State) : State :=
  if s.pair.role = .paired ∧ s.pair.joint then
    let t : State := { s with pair := { s.pair with
      joint := false, sleepSent := false, beats := 0, ownOffer := 0, peerOffer := 0, missed := 0, gotBeat := false } }
    (t.mirSend mtSleep [1#32] none).mirPump 64
  else s.mirPump 64

/-! ### Takeover (R389 to R395) -/

/-- This instance's request for the fence has won (R40, R389): a takeover drains the buffered writes (R230). -/
def State.fenceWon (s : State) : State :=
  if s.pair.step = .freq then
    let t : State := { s with
      pins := { s.pins with brgFgnt := true, brgXen := true }
      pair := { s.pair with step := .opening } }
    (t.setRole .survivor).drainAll
  else s

/-- ⌈a ÷ I⌉ for an age of `n` drone ticks in a band (R390): 0.5 µs ÷ 7,812.5 ns = 8 ÷ 125, doubled by each band. -/
def intervalsIn (n band : Nat) : Nat := (n * 2 ^ band * 8 + 124) / 125

/-- TAKE_OPEN takes a partner channel of this STATE, or leaves it in self-refresh (R389; log 32). -/
def takenState (st : Nat) : Bool := decide (st ≤ 4)

/-- The partner channel is in self-refresh. -/
def asleepState (st : Nat) : Bool := st == 3 || st == 0

/-- Credits fall to the partner channels from the declaration on, before the crossover opens (R390). -/
def State.creditsEarly (s : State) (ch : Nat) : Bool :=
  decide (32 ≤ ch) && (s.pair.step == .freq || s.pair.step == .opening)

/-- One credit to a partner channel whose context does not exist yet. -/
def State.creditEarly (s : State) (ch : Nat) : State := s.setMir ch (fun m => { m with given := m.given + 1 })

/-- The channel engine's context of a partner channel (R389 to R392). Where it refreshes, AUX runs TAKE_OPEN, the entries 48 to 55
that the tablature gives it, in their order, each for the four SIDs; the status, the threshold and the mitigation latches of each
SID stay due until they have come. WSEQ_DRAINED goes on from the mirrored value, with the own writes numbered half the range past it:
the spec does not say (DESIGN CHOICE, log 135). -/
def State.takeContext (s : State) (n : Nat) : Chan :=
  let m := s.pair.chans.get n
  let late := intervalsIn (s.pair.declared - s.pair.beatAt) m.band
  let v := s.rf RF.MUT_THRESH_CODE
  let pv := fieldNat (s.peerWord (RF.MUT_THRESH_CODE.addr 0 0)) RF.MUT_THRESH_CODE.hi RF.MUT_THRESH_CODE.lo
  let asleep := asleepState m.st
  let dies := if asleep ∧ v = pv then [] else [0, 1, 2, 3]
  { Chan.init with
    wseqNext := (m.drained + 0x8000) % 65536, drained := m.drained,
    banks := (List.range 64).foldl (fun tb b => tb.set b { Bank.init with
      owed := if asleep then 0 else m.owed + late + (creditsOf (m.k + m.given) b - creditsOf m.k b : Nat),
      ptr := (((m.bases.get b : Int) + creditsOf m.k b - m.owed) % 4096).toNat,
      hotUntil := some (s.now + 64250) }) Chan.init.banks,
    slotNext := (m.k + m.given) % 64, kCount := m.k + m.given, band := m.band, bandNew := (s.chan n).bandNew,
      temp := (s.chan n).temp, backlog := m.backlog,
    sids := .const { Sid.init with thresh := pv, selfRef := asleep, pdown := m.st == 2 },
    rest := if asleep then .asleep else .awake, opening := if asleep then [] else s.entriesFor .aux (span 48 55),
    tOld := 2 ^ (8 + v), tPrev := 2 ^ (8 + pv), tSince := s.now,
    threshDue := dies, mitAsk := if asleep then [] else [0, 1, 2, 3], statusDue := if asleep then [] else [0, 1, 2, 3] }

/-- A partner channel's command trims, and the trims from which its retraining starts: those mirrored plus the crossover's
offsets (R389). -/
def State.crossTrims (s : State) (n : Nat) : Trims :=
  let t := ((s.pair.chans.get n).trims).getD Trims.init
  (List.range 153).foldl (fun t k => putTrim t k (trimOf k ((trimAt t k : Int) + Config.crossover n k))) t

/-- The channel group whose engine takes a partner channel that refreshes is woken for it: refresh never lapses (R21). -/
def State.wakeEngine (s : State) (g : Nat) : State := if s.domOn (8 + g) then s.touchGroup g else s.wake (8 + g)

/-- The crossover is connected: a context for each partner channel, and TAKE_OPEN where it refreshes (R389). BRG_XRDY, which R42
clamps while the partner is held declared failed, is taken here as R389 has it wait for it once BRG_XEN is up (DESIGN CHOICE, log
32). -/
def State.openPartner (s : State) : State :=
  if s.pair.step = .opening then
    let t : State := { s with pins := { s.pins with brgXrdy := true }, pair := { s.pair with step := .retraining } }
    let t := forAll (List.range 32) (fun n t =>
      let m := t.pair.chans.get n
      let t := t.setChan (32 + n) (fun _ => if takenState m.st then s.takeContext n else Chan.init)
      let t : State := { t with rpr := { t.rpr with maps := t.rpr.maps.set (32 + n) (repairOf m.repair) } }
      let t := t.setCalCh (32 + n) (fun c => { c with trims := s.crossTrims n, trained := s.crossTrims n, trainTemp := (s.chan n).temp })
      if takenState m.st then t
      else { t with flt := { t.flt with marks := addMark t.flt.marks .channel (32 + n) rsnInstance } }) t
    let t := forAll (List.range 16) (fun g t => t.syncRefBal g) t
    forAll ((List.range 32).filter (fun n => takenState (s.pair.chans.get n).st && !asleepState (s.pair.chans.get n).st)) (fun n t =>
      (t.wakeEngine (groupOf n)).askAll (32 + n)) t
  else s

/-- TAKEOVER_NOTICE (R394) goes up, with an IBI on the SMP. -/
def State.takeoverNotice (s : State) (reason : Nat) (stamp : BitVec 48) (done : Completes) : State :=
  ({ s with pins := { s.pins with smpIbi := true } } : State).sendUp
    [mgmtCell 7 0 1 ((1 - s.inst) + reason * 2 ^ 4 + stamp.toNat * 2 ^ 8 + s.flt.generation * 2 ^ 56)] done none

/-- The trims that a retraining through the crossover found are not this command's to tell: each is a free value (log 3). -/
def State.freeTrims (s : State) (ch : Nat) : State :=
  forAll ((List.range 153).filter (fun k => decide (42 ≤ k) && k != 132)) (fun k t =>
    (t.setCalCh ch (fun c => { c with trims := putTrim c.trims k (t.freeVal.toNat % (trimMax k + 1)) })).useFree) s

/-- Retraining of the partner channels has ended: failing channels are fenced, and double-stop mode begins (R389, R395). -/
def State.enterDouble (s : State) (failed : List Nat) : State :=
  if s.pair.step = .retraining then
    let live := (List.range 32).filter (fun n => takenState (s.pair.chans.get n).st)
    let t := forAll (live.filter (fun n => !failed.contains n)) (fun n t => t.freeTrims (32 + n)) s
    let t : State := { t with pair := { t.pair with step := .doubleStop, doubleStop := true } }
    let t := forAll (live.filter (fun n => failed.contains n)) (fun n t =>
      t.fenceUnit .channel (32 + n) rsnRetrain (some (0x07, 0x0a02))) t
    (t.bumpGen.publishFloor).takeoverNotice t.pair.reason t.pair.declStamp .notice
  else s

/-- TAKEOVER_NOTICE has been placed in a flit: requests for the partner's half are served (R395). -/
def State.serveBoth (s : State) : State :=
  if s.pair.step = .doubleStop then { s with pair := { s.pair with serving := true } } else s

/-! ### Fenced by the partner (R41, R397) -/

/-- BRG_SFENCED rises: every own channel is fenced, and the fault is instance-fatal (R41, R406). An instance whose own request for
the fence lost lowers BRG_FREQ, so that it is not granted when the winner's fence ends: R389 says only that its takeover ends
there (DESIGN CHOICE, log 32). -/
def State.bridgeFenced (s : State) : State :=
  let t : State := { s with pins := { s.pins with sfenced := true, brgFreq := false }, pair := { s.pair with step := .idle } }
  (t.fatalFault 0x08 noCause rsnBridge).setRole .fenced

/-! ### Handback (R398) -/

/-- The write of HANDBACK: requests for the partner's half answer ERR ADDR from this instant. -/
def State.startHandback (s : State) : State :=
  if s.pair.step = .doubleStop ∧ s.pair.idSeen ∧ s.sec.pairKey.isSome then
    let t : State := { s with pair := { s.pair with step := .draining, serving := false, handWait := s.now } }
    forAll (List.range 32) (fun n t => t.agentAsks (32 + n) .wrd) t
  else s

/-- No request for the partner's half is outstanding and its write shares are drained. -/
def State.partnerDrained (s : State) : Bool :=
  s.trx.reqs.all (fun r => !(isMemory (hOp r.hdr) && hPartner r.hdr)) &&
    (List.range 32).all (fun n => (s.chan (32 + n)).writes.isEmpty)

/-- A partner channel has run SR_ENTER, or is fenced and cannot. -/
def State.partnerRests (s : State) (n : Nat) : Bool := (s.chan (32 + n)).rest == .asleep || s.chFenced (32 + n)

/-- The entry conditions of R287 hold for a partner channel: no write is buffered, no mitigation is due, no bank is owed. -/
def State.partnerMay (s : State) (n : Nat) : Bool :=
  let c := s.chan (32 + n)
  c.writes.isEmpty && c.backlog.isEmpty && c.power.isEmpty && c.banks.ents.all (fun e => decide (e.2.owed ≤ 0))

/-- Each partner channel whose entry conditions hold runs SR_ENTER; the others serve what they are owed first (R287, R398). -/
def State.enterPartner (s : State) : State :=
  forAll (List.range 32) (fun n t =>
    if t.partnerRests n then t
    else if t.partnerMay n then t.srEnter (32 + n)
    else forAll [Agent.wrd, .mute, .ref] (fun a t => t.agentAsks (32 + n) a) t) s

/-- The HANDBACK messages, once every partner channel has run SR_ENTER. -/
def State.sendHandback (s : State) : State :=
  if s.pair.step = .entering ∧ (List.range 32).all s.partnerRests then
    let hand := fun (type : Nat) (b : List Word) (u : State) => u.mirSend mtHandback (BitVec.ofNat 32 type :: b) none
    let t : State := { s with pair := { s.pair with step := .sending } }
    let t := forAll ((List.range 2048).filter (fun k => (s.slot true k).st != .empty)) (fun k u =>
      match u.keyBody true k with
      | (b, v) => hand mtKey b v) t
    let t := forAll (List.range 32) (fun n u =>
      hand mtTrims (u.trimsBody (32 + n)) (hand mtRepair (u.repairBody (32 + n)) u)) t
    hand mtConfig (0#32 :: 0#32 :: (wordRuns (t.pair.config.ents.map (fun (e : Nat × Word) => (e.1, e.2.toNat)))).map (fun v =>
      BitVec.ofNat 32 v)) t
  else s

/-- The handback goes on: SR_ENTER runs once the partner's half is drained, and the messages go once it has run everywhere. It is
looked at by HANDBACK_DRAINED and at every drone tick (log 131). -/
def State.handbackOn (s : State) : State :=
  let t : State := if s.pair.step = .draining ∧ s.partnerDrained then { s with pair := { s.pair with step := .entering } } else s
  if t.pair.step = .entering then t.enterPartner.sendHandback else t

/-- The partner's units are this instance's no longer. -/
def State.dropPartner (s : State) : State :=
  { s with
    flt := { s.flt with marks := s.flt.marks.filter (fun m => !unitPartner m.unit m.index) }
    chans := (List.range 32).foldl (fun tb n => tb.set (32 + n) Chan.init) s.chans }

/-- The handback messages are acknowledged: the bridge is released and double-stop mode ends. -/
def State.endHandback (s : State) : State :=
  if s.pair.step = .sending ∧ s.pair.sent = [] ∧ s.pair.waiting = [] then
    let t : State := { s with
      pins := { s.pins with brgXen := false, brgFreq := false, brgFgnt := false, brgXrdy := false }
      pair := { s.pair with step := .idle, doubleStop := false, serving := false } }
    let t := (t.dropPartner.bumpGen.publishFloor).stick RF.MIR_HANDBACK_DONE
    let t := forAll (List.range 16) (fun g t => t.syncRefBal g) t
    (t.event 0x08 0x0803 0 [(0, 1, 0)]).takeoverNotice 3 t.time.stamp .nothing
  else s

/-- The drain has not completed within HANDBACK_WAIT: the handback is abandoned. -/
def State.handbackOver (s : State) : State :=
  if s.pair.step = .draining ∧ s.pair.handWait + s.rf RF.MIR_HANDBACK_WAIT ≤ s.now then
    (({ s with pair := { s.pair with step := .doubleStop, serving := true } } : State).stick RF.MIR_HANDBACK_FAIL).event 0x08 0x0803
      0 [(0, 1, 1)]
  else s

/-- One HANDBACK message comes into force at the returning instance (R398, step 5). -/
def State.applyHand (s : State) (b : List Word) : State :=
  let x := b.drop 1
  let n := (bodyWord x 0).toNat % 32
  match (bodyWord b 0).toNat with
  | 0x05 => s.takeSlotKey false (1 - s.inst) x
  | 0x06 => { s with rpr := { s.rpr with maps := s.rpr.maps.set n (repairOf ((x.drop 1).flatMap wordBytes)) } }
  | 0x07 => forAll (configWords x) (fun w t => t.loadMasked (savedMask w.1) w.1 w.2) s
  | 0x08 => s.setCalCh n (fun c => { c with trims := trimsOf ((x.drop 1).flatMap wordBytes) })
  | _ => s

/-- What the neighbours answer to step 8 of a held start that the bridge releases without a handback (log 31). -/
def heldEnv : BootEnv := ⟨true, true, true, true, [], [], [], [], [], true, true⟩

/-- The own slots that no KEY message of a handback names hold no key of the returned instance: R105's fresh key 0 goes
(R398, step 5). -/
def State.dropOwnKeys (s : State) (msgs : List (List Word)) : State :=
  let named := (msgs.filter (fun b => bodyWord b 0 == 0x05#32)).map (fun b => fieldNat (bodyWord b 1) 10 0)
  forAll (((s.sec.own.ents.map (fun (e : Nat × KeySlot) => e.1))).filter (fun k => !named.contains k))
    (fun k t => t.zeroSlot false k) s

/-- BRG_SFENCED falls (R41, R398 step 5): a held start goes on, with the handback's state where it has it. -/
def State.bridgeReleased (s : State) : State :=
  let t : State := { s with pins := { s.pins with sfenced := false } }
  if t.boot.heldStart ∧ t.boot.stage = .coredie then
    let t : State := { t with boot := { t.boot with heldStart := false } }
    match t.pair.handMsgs with
    | [] =>
      ({ t with pair := { t.pair with role := .none, idSeen := false } } : State).bootDies heldEnv
    | msgs =>
      let t := (forAll msgs (fun b t => t.applyHand b) (({ t with pair :=
        { t.pair with handMsgs := [] } } : State).dropOwnKeys msgs)).loadCommit
      let live := (List.range 32).filter (fun ch => !t.chFenced ch)
      let t := forAll (List.range 16) (fun g t =>
        if t.groupOn g then t.setCg g (fun x => { x with st := .active, idle := 0 }) else t) t
      let t := forAll live (fun ch t => (t.setChan ch (fun c => { c with
        tOld := 2 ^ (8 + t.rf RF.MUT_THRESH_CODE), tPrev := 2 ^ (8 + t.rf RF.MUT_THRESH_CODE), tSince := t.now })).srExit ch true) t
      let t := forAll (List.range 16) (fun g t => t.enterNoref g) t
      let t := forAll live (fun ch t => t.trainStart ch) t
      ({ t with boot := { t.boot with trainLeft := live } } : State).setStage .train
  else t

/-- A returned instance is PAIRED from READY on (R398, step 6). -/
def State.returned (s : State) : State :=
  if s.pair.role = .fenced ∧ s.ready ∧ s.pair.idSeen then
    let t := s.setRole .paired
    ({ t with pair := { t.pair with beats := 2 } } : State).mirrorAll.sendKeys
  else s

end Sys2Proof.Machine
end

