-- ==== Sys2Proof/Machine/Mirror.lean ====
section
/-! DEFINITION. The outcome that every meaning shares. -/

namespace Sys2Proof.Machine

/-- Start-up goes on where it can (R108 to R110), and a returned instance becomes PAIRED with READY (R398). -/
def State.goOn (s : State) : State := s.settleG2.bootGoesOn.returned

/-- What no command's effect drives stands as in `u`: the queue of waiting commands, and the inputs that only their own events
change: PWR_GOOD, the INST_ID strap, NVM_RDY, BRG_SFENCED and REG_OCW (R23). -/
def State.withInputs (u t : State) : State :=
  { t with
    pins := { t.pins with
      pwrGood := u.pins.pwrGood, instId := u.pins.instId, nvmRdy := u.pins.nvmRdy, sfenced := u.pins.sfenced, regOcw := u.pins.regOcw }
    pending := u.pending }

/-- The instance runs: PWR_GOOD is high (R43), and the wrapper has not stopped its agents (R433). -/
def State.running (s : State) : Bool := s.pins.pwrGood && !s.rpr.wsStop

/-- The outcome of a meaning: the new state `t`, with what it changed of the mirrored items on its way to the partner (R381);
the old one while PWR_GOOD is low (R43: held in reset) or while the wrapper has stopped every agent (R433). A command that names a
unit the part does not have stops. -/
def act (ok : Bool) (s t : State) : Host.Outcome State Fault Refusal :=
  match ok with
  | true => .next (match s.running with | true => s.withInputs (s.mirrorFrom t) | false => s)
  | false => .fault .noSuchUnit

/-- The outcome of an event on a pin: `u` is the state with the pin's new level alone, which holds while Camec is in reset or
stopped. -/
def actPin (ok : Bool) (s u t : State) : Host.Outcome State Fault Refusal :=
  match ok with
  | true => .next (match s.running with | true => u.withInputs (s.mirrorFrom t) | false => u)
  | false => .fault .noSuchUnit

/-- The outcome of PWR_GOOD at a new level (R43, R44), which acts in reset and on stopped agents too. -/
def actPower (level : Bool) (ok : Bool) (s t : State) : Host.Outcome State Fault Refusal :=
  match ok with
  | true => .next (({ s with pins := { s.pins with pwrGood := level } } : State).withInputs t)
  | false => .fault .noSuchUnit

/-- The outcome of a wrapper command: it acts while PWR_GOOD and, but for WRSTN's own level, WRSTN are high, stopped agents or not
(R48, R432, R433). -/
def actWrapper (high : Bool) (s t : State) : Host.Outcome State Fault Refusal :=
  .next (match s.pins.pwrGood && high with | true => s.withInputs t | false => s)

end Sys2Proof.Machine
end

