-- ==== Sys2Proof/Machine/RprOps.lean ====
section
/-! DEFINITION. Repair, built-in test, loopbacks and the IEEE 1500 wrapper (19_repair_test). -/

namespace Sys2Proof.Machine

/-! ### Results (R438) -/

/-- NO_SPARE. -/
def rrNoSpare : Nat := 1
/-- NOT_FENCED. -/
def rrNotFenced : Nat := 2
/-- BUSY. -/
def rrBusy : Nat := 3
/-- REFRESH. -/
def rrRefresh : Nat := 4
/-- RANGE. -/
def rrRange : Nat := 5
/-- CORE_DIE. -/
def rrCoreDie : Nat := 6
/-- NVM. -/
def rrNvm : Nat := 7

/-- RESULT and REASON. -/
def State.rprResult (s : State) (result reason : Nat) : State :=
  { s with rpr := { s.rpr with result := result, reason := reason } }

/-- The channel is fenced by FLT_CTL (R428, R430). -/
def State.cmdFenced (s : State) (ch : Nat) : Bool := (s.reasonsOf .channel ch).contains rsnCommand

/-- A repair fails: RESULT, REPAIR_FAIL and REPAIR_FAILED; nothing is changed (R424 to R429, R437). -/
def State.repairFails (s : State) (o : RepairOp) (reason : Nat) : State :=
  (((({ s with rpr := { s.rpr with op := none } } : State).rprResult 2 reason).stick RF.RPR_REPAIR_FAIL).event 0x09 0x0b02 2
    [(0, 1, o.ch), (1, 1, o.bank), (2, 2, o.row), (4, 1, o.op), (5, 1, reason)])

/-- A repair has been recorded whole. -/
def State.repairDone (s : State) (o : RepairOp) : State :=
  let t : State := { s with rpr := { s.rpr with op := none } }
  if o.bad then t.repairFails o rrCoreDie
  else
    let t := ((t.rprResult 1 0).stick RF.RPR_REPAIR_DONE).count 0x9100
    match o.op with
    | 1 => t.event 0x09 0x0b01 0 [(0, 1, o.ch), (1, 1, o.bank), (2, 2, o.row), (4, 1, 0)]
    | 2 => t.event 0x09 0x0b01 0 [(0, 1, o.ch), (1, 1, o.bank), (2, 2, o.row), (4, 1, 1)]
    | 3 => t.event 0x09 0x0b03 1 [(0, 1, o.ch), (1, 1, o.bank), (2, 1, o.col), (3, 1, o.dq)]
    | _ => t

/-- The spare rows of a bank that a record uses (R424). -/
def RepairMap.rowsIn (m : RepairMap) (bank : Nat) : Nat :=
  (m.soft.filter (fun e => e.1 == bank)).length + (m.hard.filter (fun e => e.1 == bank)).length

/-- The operation that a write of RPR_CMD names, with the arguments of RPR_ARG. -/
def State.repairOf (s : State) (op ch bank : Nat) : RepairOp :=
  ⟨op, ch, bank, s.rf RF.RPR_ARG_ROW, s.rf RF.RPR_ARG_COLUMN, s.rf RF.RPR_DQ, .freezing, false, [], s.now, false⟩

/-- A repair operation begins: a write while one runs is ignored, with RESULT FAILED and reason BUSY (R438). -/
def State.repairStart (s : State) (o : RepairOp) (go : State → State) : State :=
  match s.rpr.op with
  | some _ => s.rprResult 2 rrBusy
  | none => go (({ s with rpr := { s.rpr with op := some o } } : State).rprResult 3 0)

/-- Change the repair operation in progress. -/
def State.setOp (s : State) (f : RepairOp → RepairOp) : State :=
  { s with rpr := { s.rpr with op := s.rpr.op.map f } }

/-! ### Soft repair of a row (R425 to R427) -/

/-- An operation's change to the repair map is recorded; while NVM_RDY is low it ends with reason NVM and is not (R34). -/
def State.recordMap (s : State) (o : RepairOp) (f : RepairMap → RepairMap) (g : RepairOp → RepairOp) : State :=
  match s.pins.nvmRdy with
  | true => (s.changeMap o.ch f).setOp g
  | false => s.repairFails o rrNvm

/-- The 16 lines of the row are replaced. -/
def State.putRow (s : State) (o : RepairOp) (l : List (Option ArrayLine)) : State :=
  { s with array := (List.range 16).foldl (fun a c => a.set (arrayKey o.ch o.bank o.row c) (l.getD c none)) s.array }

/-- AUX requests for the next step of the repair in progress, if it has one (R425, R428). -/
def State.auxRepairs (s : State) : State :=
  match s.rpr.op with
  | some o => s.agentAsks o.ch .aux
  | none => s

/-- SOFT_ROW: the row is frozen, and AUX saves it once nothing on it is queued (R424, R425). -/
def State.softRow (s : State) (ch bank : Nat) : State :=
  let o := s.repairOf 1 ch bank
  s.repairStart o (fun t =>
    if 4 ≤ (t.rmap ch).rowsIn bank ∨ 128 ≤ (t.rmap ch).soft.length then t.repairFails o rrNoSpare
    else t.auxRepairs)

/-- The refresh condition of SPPR is met: AUX requests for it (R425, R426). -/
def State.spprNow (s : State) : State :=
  match s.rpr.op with
  | some o => if o.stage = .waiting ∧ s.spprMay o then (s.setOp (fun x => { x with stage := .issuing })).auxRepairs else s
  | none => s

/-- The refresh condition has not been met within REPAIR_WAIT: the row is released as it was (R426). -/
def State.repairWaitOver (s : State) : State :=
  match s.rpr.op with
  | some o =>
    if (o.stage = .freezing ∨ o.stage = .waiting ∨ (o.stage = .issuing ∧ !s.spprMay o)) ∧
        o.since + s.rf RF.RPR_REPAIR_WAIT ≤ s.now then s.repairFails o rrRefresh
    else s
  | none => s

/-- tSPPR has passed: AUX requests for ROW_RESTORE, which writes the 16 bursts back and reads them again (R425). -/
def State.rowRestore (s : State) : State :=
  match s.rpr.op with
  | some o => if o.stage = .sppr then (s.setOp (fun x => { x with stage := .restoring })).auxRepairs else s
  | none => s

/-- The comparison has ended: the row is released and recorded, or the bank's next spare row is tried once (R425). A burst read back
otherwise than the buffer holds it fails the comparison; so does one of which only the command tells (`told` false). After a second
failure the lines read with whatever status R315 gives: their content is open. -/
def State.rowCompared (s : State) (told : Bool) : State :=
  match s.rpr.op with
  | some o =>
    let same := told && !o.bad
    if o.stage ≠ .comparing then s
    else if !same && !o.second then s.setOp (fun x => { x with stage := .waiting, second := true, since := s.now, bad := false })
    else
      let t := if same then s else s.putRow o []
      t.recordMap o (fun m => { m with soft := m.soft ++ [(o.bank, o.row)] }) (fun x => { x with
        stage := .recording, bad := !same })
  | none => s

/-! ### Hard repair of a row (R428) and column entries (R429) -/

/-- HARD_ROW: the entry is recorded UNCONFIRMED before HPPR issues. -/
def State.hardRow (s : State) (ch bank : Nat) : State :=
  let o := s.repairOf 2 ch bank
  s.repairStart o (fun t =>
    if !t.cmdFenced ch then t.repairFails o rrNotFenced
    else if 4 ≤ (t.rmap ch).rowsIn bank ∨ 128 ≤ (t.rmap ch).hard.length then t.repairFails o rrNoSpare
    else t.recordMap o (fun m => { m with hard := m.hard ++ [(bank, o.row, true)] }) (fun x => { x with
      stage := .recording }))

/-- HPPR's 400,000 drone ticks have passed: the entry is confirmed and a soft entry for its row goes. -/
def State.hpprDone (s : State) : State :=
  match s.rpr.op with
  | some o =>
    if o.stage = .hppr ∧ o.since + 400000 ≤ s.now then
      s.recordMap o (fun m => { m with
        hard := m.hard.map (fun e => if e.1 = o.bank ∧ e.2.1 = o.row then (e.1, e.2.1, false) else e)
        soft := m.soft.filter (fun e => !(e.1 == o.bank && e.2 == o.row)) }) (fun x => { x with stage := .hardDone })
    else s
  | none => s

/-- COL_ADD: one entry for each bank and column; a full list is NO_SPARE (log 34). -/
def State.colAdd (s : State) (ch bank : Nat) : State :=
  let o := s.repairOf 3 ch bank
  s.repairStart o (fun t =>
    if 35 < o.dq ∨ (t.rmap ch).column.any (fun e => e.2.1 == bank && e.2.2 == o.col) then t.repairFails o rrRange
    else if 64 ≤ (t.rmap ch).column.length then t.repairFails o rrNoSpare
    else t.recordMap o (fun m => { m with column := m.column ++ [(o.dq, bank, o.col)] }) (fun x => { x with
      stage := .recording }))

/-- COL_REMOVE: an entry that does not stand is out of range (log 34). -/
def State.colRemove (s : State) (ch bank : Nat) : State :=
  let o := s.repairOf 4 ch bank
  s.repairStart o (fun t =>
    if (t.rmap ch).column.any (fun e => e.2.1 == bank && e.2.2 == o.col) then
      t.recordMap o (fun m => { m with column := m.column.filter (fun e => !(e.2.1 == bank && e.2.2 == o.col)) })
        (fun x => { x with stage := .recording })
    else t.repairFails o rrRange)

/-- The job writes a repair map. -/
def NvmWhy.isRepair (w : NvmWhy) : Bool := match w with | .repairMap _ => true | _ => false

/-- A repair map goes to the partner (R381, R422). -/
def State.mirrorMap (s : State) (ch : Nat) : State :=
  if s.pair.role = .paired then s.mirSend mtRepair (s.repairBody ch) none else s

/-- Both copies of a repair map have been written, or the port has failed (R422, R34): an operation that waits for them goes on,
or fails and leaves the map as MRAM holds it. A map that stands goes to the partner. -/
def State.repairWritten (s : State) (ok : Bool) : State :=
  match s.jobFor NvmWhy.isRepair with
  | none => s
  | some j =>
    let t := s.endJob NvmWhy.isRepair ok
    match t.rpr.op, j.why with
    | some o, .repairMap ch =>
      if o.ch ≠ ch ∨ !(o.stage == .recording || o.stage == .hardDone) then t.mirrorMap ch
      else if !ok then
        ({ t with rpr := { t.rpr with maps := t.rpr.maps.set ch (t.storedMap ch) } } : State).repairFails o rrNvm
      else if o.op = 2 ∧ o.stage = .recording then ((t.mirrorMap ch).setOp (fun x => { x with stage := .hardIssue })).auxRepairs
      else (t.mirrorMap ch).repairDone o
    | none, .repairMap ch => t.mirrorMap ch
    | _, _ => t

/-! ### Built-in test (R430, R431) -/

/-- START: a test runs on a channel fenced by command; a reserved test, scope or background is out of range (log 34). -/
def State.bistStart (s : State) (test scope ch bank back : Nat) : State :=
  match s.rpr.bist with
  | some _ => s.rprResult 2 rrBusy
  | none =>
    if !s.cmdFenced ch then s.rprResult 2 rrNotFenced
    else if 1 < test ∨ 2 < scope ∨ 4 < back then s.rprResult 2 rrRange
    else
      (({ s with rpr := { s.rpr with
          bist := some ⟨ch, test, scope, bank, back, false, 0, ⟨0, 0, 0, 0, 0⟩⟩, bstate := 1, bres := ⟨0, 0, 0, 0, 0⟩,
          bparam := s.rf RF.RPR_HAMMER_K } } : State).count 0x9108).agentAsks ch .aux

/-- ABORT: the test ends with its next transfer. -/
def State.bistAbort (s : State) : State :=
  { s with rpr := { s.rpr with bist := s.rpr.bist.map (fun b => { b with abort := true }) } }

/-- The banks of a test's scope. -/
def Bist.banks (b : Bist) : List Nat :=
  match b.scope with
  | 0 => [b.bank]
  | 1 => (List.range 16).map (fun i => 16 * (b.bank / 16) + i)
  | _ => List.range 64

/-- A test ends: its results and BIST_DONE; it wrote raw data over its scope (R430, R431, R437). `q` is what the transfers showed
that no command reported burst by burst (log 143). -/
def State.bistEnd (s : State) (q : BistResult) : State :=
  match s.rpr.bist with
  | none => s
  | some b =>
    let r := joinResults b.res q
    let n := min r.failBursts (2 ^ 24 - 1)
    let code := if b.abort then 2 else if n = 0 then 0 else 1
    let t : State := { s with
      rpr := { s.rpr with
        bist := none, bstate := if b.abort then 0 else if n = 0 then 2 else 3, bres := { r with failBursts := n } }
      array := ⟨s.array.dflt, s.array.ents.filter (fun e =>
        !(e.1 / 524288 / 64 == b.ch && b.banks.contains (e.1 / 524288 % 64)))⟩ }
    let t := t.setChan b.ch (fun c => { c with
      banks := b.banks.foldl (fun tb i => tb.upd i (fun x => { x with acts := 0 })) c.banks })
    ((t.reinitChannel b.ch).stick RF.RPR_BIST_END).event 0x09 0x0b05 0 [(0, 1, b.ch), (1, 1, b.test), (2, 1, code), (4, 4, n)]

/-! ### Loopbacks (R434 to R436) -/

/-- The byte offset of a course page. -/
def crsAt (c off : Nat) : Nat := pageBase .crs c + off

/-- A lane hunts. -/
def Lane.hunt (x : Lane) : Lane := { x with st := .hunt, count := 0, window := [], missed := 0 }

/-- The lanes of a course that are LOCKED or ALIGNED: so many exits LOCK_LOSS counts when all of them hunt (R153). -/
def State.lockedLanes (s : State) (c : Nat) : Nat :=
  ((List.range 17).filter (fun l => (s.lane c l).st == .locked || (s.lane c l).st == .aligned)).length

/-- The lanes of a course stop transmitting: LN_TXV low, LN_PD high; they hunt from then on, and LOCK_LOSS counts those that were
locked (R151, R153; R124 and R152 name HUNT at UNFENCE: DESIGN CHOICE, log 130). -/
def State.darkLanes (s : State) (c : Nat) : State :=
  (s.countBy (crsAt c 0x140) (s.lockedLanes c)).setLanes c (fun x =>
    { x.hunt with txv := false, sent := [], words := [], pd := true, eqReq := false })

/-- A loopback ends, with LOOP_DONE, and the lanes it had switched on go dark with their fenced course. A course that was not yet
up stays out of traffic until its UNFENCE (R434), as one fenced by command, without a fence event (DESIGN CHOICE, log 144). -/
def State.loopEnd (s : State) : State :=
  match s.rpr.loop with
  | none => s
  | some x =>
    let t : State := { s with rpr := { s.rpr with loop := none } }
    let t := if (t.course x.course).tx = .down then
        t.setCourse x.course (fun y => { y with tx := .fenced, fenceWhy := some .command }) else t
    let t := forAll (List.range 17) (fun l t => t.setLane x.course l (fun y => { y with lb := 0 })) t
    let t := when ((t.course x.course).tx == .fenced) (fun t => t.darkLanes x.course) t
    t.event 0x09 0x0b06 0 [(0, 1, x.course), (1, 1, x.mode), (4, 3, x.hadErr)]

/-- A course may be looped: fenced with reason COMMAND, or not yet up (R434). -/
def State.loopable (s : State) (c : Nat) : Bool :=
  let x := s.link.courses.get c
  decide (c < 12) && ((x.tx == .fenced && x.fenceWhy == some .command) || (!x.up && x.tx == .down))

/-- A loopback starts: the checkers start afresh, and mode FAR's buffers half full (R435, R436). In NESL and FAR the selected
lanes transmit, whatever the fence of the course had switched off; in NEPL LN_TXV stays low (DEDUCED, log 145). What the words are
with which a buffer starts is open (log 3). -/
def State.loopStart (s : State) (mode c lanes : Nat) : State :=
  if !s.loopable c || s.rpr.loop.isSome then s.stick RF.RPR_LOOP_REFUSED
  else
    let w := List.replicate 4 (s.freeVal.setWidth 66)
    let t : State := { s.useFree with rpr := { s.rpr with
      loop := some ⟨mode, c, lanes, .const 0, .const false, .const [], .const 0#31, 0,
        (List.range 17).foldl (fun tb p => tb.set p (BitVec.ofNat 31 (p + 1))) (.const 0#31),
        .const (if mode = 3 then w else []), .const none⟩ } }
    forAll ((List.range 17).filter (fun l => lanes.testBit l)) (fun l t => t.setLane c l (fun y => { y with
      lb := if mode = 1 then 1 else y.lb, txv := decide (mode ≠ 2), pd := if mode = 2 then y.pd else false })) t

/-- The next bit of PRBS-31 after the last 31 (x^31 + x^28 + 1). -/
def prbsBit (r : BitVec 31) : Bool := (bitAt r 30).xor (bitAt r 27)

/-- One bit joins the last 31. -/
def prbsShift (r : BitVec 31) (b : Bool) : BitVec 31 := (r <<< 1) ||| (if b then 1#31 else 0#31)

/-- The checker over the 64 bits of a block, first bit lowest: the register after them and the bits in error. A locked checker
runs by itself; one that is not follows the received bits. -/
def prbsCheck (locked : Bool) (r : BitVec 31) (payload : BitVec 64) : BitVec 31 × Nat :=
  (List.range 64).foldl (fun (x : BitVec 31 × Nat) i =>
    let want := prbsBit x.1
    let got := bitAt payload i
    (prbsShift x.1 (if locked then want else got), if want == got then x.2 else x.2 + 1)) (r, 0)

/-- A lane sends a block, through its gearbox (R119). -/
def Lane.emit (x : Lane) (hdr : BitVec 2) (p : BitVec 64) : Lane :=
  let g := gearbox x.gear x.gearN (blockBits hdr p)
  { x with sent := x.sent ++ [(hdr, p)], words := x.words ++ g.1, gear := g.2.1, gearN := g.2.2 }

/-- The generator's next 64 bits, first bit lowest: the register behind them, and the payload (R436). -/
def prbsWord (r : BitVec 31) : BitVec 31 × BitVec 64 :=
  (List.range 64).foldl (fun (x : BitVec 31 × BitVec 64) i =>
    (prbsShift x.1 (prbsBit x.1), if prbsBit x.1 then x.2 ||| (1#64 <<< i) else x.2)) (r, 0#64)

/-- A selected lane carries its next block of the pattern in NESL and NEPL, with the data header (R436); in NEPL it does not leave
the link layer. -/
def State.loopSends (s : State) (x : Loop) (l : Nat) : BitVec 64 × State :=
  let g := prbsWord (x.gen.get l)
  let t : State := { s with rpr := { s.rpr with loop := some { x with gen := x.gen.set l g.1 } } }
  (g.2, if x.mode = 1 then t.setLane x.course l (fun y => { y with sent := [], words := [] }.emit 0b01#2 g.2) else t)

/-- A block returns on a selected lane in NESL or NEPL: LOCKED, LB_BITS and LB_ERR (R436). -/
def State.loopCheck (s : State) (x : Loop) (l : Nat) (hdr : BitVec 2) (payload : BitVec 64) : State :=
  let locked := x.locked.get l
  let res := prbsCheck locked (x.prbs.get l) payload
  let bad := decide (0 < res.2) || hdr != 0b01#2
  let good := if bad then 0 else x.good.get l + 1
  let bads := (bad :: x.bads.get l).take 64
  let lost := locked && decide (16 ≤ (bads.filter (fun b => b)).length)
  let now := (locked && !lost) || (!locked && decide (64 ≤ good))
  let y : Loop := { x with
    prbs := x.prbs.set l res.1, good := x.good.set l (if lost then 0 else good), bads := x.bads.set l (if lost then [] else bads),
    locked := x.locked.set l now,
    hadErr := if locked && decide (0 < res.2) then x.hadErr ||| 2 ^ l else x.hadErr }
  let t : State := { s with rpr := { s.rpr with loop := some y } }
  if locked then (t.countBy (0x9180 + 16 * l) 64).countBy (0x9188 + 16 * l) res.2 else t

/-- A word passes a selected lane's elastic buffer in FAR: it is kept half full, one word leaving for each that comes (R435;
log 35). -/
def State.loopFar (s : State) (x : Loop) (l : Nat) (hdr : BitVec 2) (payload : BitVec 64) : State :=
  match x.far.get l ++ [hdr ++ payload] with
  | [] => s
  | w :: rest =>
    { s with rpr := { s.rpr with loop := some { x with far := x.far.set l rest, farOut := x.farOut.set l (some w) } } }

/-- A block time on a looped lane; the Bool tells that the loopback took it. In NEPL the block that the lane carries returns to
its checker in the link layer; otherwise the word comes in on LN_RXD, which is ignored while LN_RXV is low (R25, R435). -/
def State.loopBlock (s : State) (c l : Nat) (hdr : BitVec 2) (payload : BitVec 64) : Bool × State :=
  match s.rpr.loop with
  | none => (false, s)
  | some x =>
    if x.course ≠ c ∨ !x.lanes.testBit l then (false, s)
    else if x.mode = 3 then (true, if (s.link.lanes.get (17 * c + l)).rxv then s.loopFar x l hdr payload else s)
    else
      match s.loopSends x l with
      | (p, t) =>
        let y := (t.rpr.loop).getD x
        (true, if x.mode = 2 then t.loopCheck y l 0b01#2 p
          else if (s.link.lanes.get (17 * c + l)).rxv then t.loopCheck y l hdr payload else t)

/-! ### The wrapper (R432, R433) -/

/-- A wrapper instruction is loaded. -/
def State.loadIr (s : State) (ir : Nat) : State := { s with rpr := { s.rpr with ir := ir } }

/-- WRSTN takes a level with WS_BYPASS, which low selects by itself: the wrapper is then transparent (R48). WBY captures 0. -/
def State.wrapperReset (s : State) (level : Bool) : State :=
  { s with pins := { s.pins with wrstN := level }, rpr := { s.rpr with ir := 0, wby := false } }

/-- UpdateWR of WS_EXTEST or WS_INTEST loads the boundary register and stops every agent; WS_INTEST acts as WS_BYPASS once SEC_LOCK
is set. -/
def State.wrapperStop (s : State) (ir : Nat) (cells : BitVec 2505) : State :=
  if ir = 2 ∧ s.sec.lock then s.loadIr 0
  else { s with rpr := { s.rpr with ir := ir, wsStop := true, boundary := cells } }

/-- CM_SRAM: the SRAMs of the named domains are tested in stage RECOVERY or HALTED, and otherwise REFUSED; a bypass once
SEC_LOCK is set. -/
def State.cmSram (s : State) (data : Word) (failed : BitVec 24) : State :=
  if s.sec.lock then s.loadIr 0
  else
    let ok := s.boot.stage == .recovery || s.boot.stage == .halted
    { s with rpr := { s.rpr with
        ir := 17, cmSram := if ok then (failed &&& data.setWidth 24).setWidth 32 else 0x80000000#32 } }

end Sys2Proof.Machine
end

