-- ==== Sys2Proof/Machine/LinkOps.lean ====
section
/-! DEFINITION. The Rila link layer up to the flit: lanes, markers, courses, spare lanes, retraining, fences, keys and their
epochs (06_rila_link, R61, R62, R108, R333, R334). -/

namespace Sys2Proof.Machine

/-! ### Lanes and courses -/

/-- The grid on which flits are numbered: 256 marker periods of 16,383 blocks, 4 to a flit (R123). -/
def flitNumbers : Nat := 1048512

/-- On that grid, a number lies past another. -/
def gridPast (a b : Nat) : Bool := let d := (b + flitNumbers - a % flitNumbers) % flitNumbers; decide (0 < d) && decide (d < 524256)

/-- Another course of the link is up (R139). -/
def State.otherUp (s : State) (c : Nat) : Bool := (List.range 12).any (fun d => d != c && (s.course d).up)

/-- The physical lane that is ALIGNED and carries a logical lane. -/
def State.laneOf (s : State) (c k : Nat) : Option Nat :=
  match (List.range 17).filter (fun l => (s.lane c l).st == .aligned && (s.lane c l).logLane == k) with
  | [l] => some l
  | _ => none

/-- Logical lanes 0 to 15 are each ALIGNED on a distinct physical lane (R125). -/
def State.lanesReady (s : State) (c : Nat) : Bool := (List.range 16).all (fun k => (s.laneOf c k).isSome)

/-! ### Keys of a course (R333 to R335) -/

/-- The secret of epoch 1 of a course in one direction, 1 for upstream. -/
def courseSecret (ems c d g : Nat) : Nat :=
  beNat (hkdfExpand (beBytes 48 ems) (labelBytes "rila" ++ leBytes 1 c ++ leBytes 1 d ++ leBytes 4 g) 48)

/-- The secret of the next epoch. -/
def nextSecret (k : Nat) : Nat := beNat (hkdfExpand (beBytes 48 k) (labelBytes "rila next") 48)

/-- The key of an epoch. -/
def epochKey (k : Nat) : Nat := beNat ((hkdfExpand (beBytes 48 k) (labelBytes "rila key") 32).take 32)

/-- The epoch after another: 255 is followed by 1 (R135). -/
def epochAfter (e : Nat) : Nat := if e = 255 then 1 else e + 1

/-- The export secret of a link session that is held. -/
def State.linkSecret (s : State) : Option Nat :=
  match s.sec.link.session with
  | some x => if x.live then some x.secret else none
  | none => none

/-- A course that comes up afresh while a link session is held is encrypted from its first flit (R334). -/
def State.freshKeys (s : State) (c : Nat) : State :=
  match s.linkSecret with
  | none => s
  | some ems =>
    let g := s.sec.courseGen.get c
    let rx := courseSecret ems c 0 g
    s.setCourse c (fun x => { x with
      encrypted := true, epochRx := 1, epochTx := 1, keyRx := some rx, keyNextRx := some (nextSecret rx),
      keyTx := some (courseSecret ems c 1 g), sentUnder := 0, verified := 0 })

/-- After FINISH_RSP every up course holds the keys of epoch 1, and is encrypted once a flit under them has verified (R334). -/
def State.offerKeys (s : State) (ems : Nat) : State :=
  let t : State := { s with sec := { s.sec with courseGen := .const 0 } }
  forAll (List.range 12) (fun c t =>
    if (t.course c).encrypted || (t.course c).tx == .down || (t.course c).tx == .fenced then t
    else t.setCourse c (fun x => { x with
      keyRx := none, keyNextRx := some (courseSecret ems c 0 0), keyTx := some (courseSecret ems c 1 0), epochRx := 0, epochTx := 0 })) t

/-- The transmitter moves to the next epoch (R135). -/
def Course.moveTx (x : Course) : Course :=
  { x with epochTx := epochAfter x.epochTx, keyTx := x.keyTx.map nextSecret, sentUnder := 0, moveAll := false }

/-- The epoch under which a received flit verifies, as the receiver holds its keys (R135, R136): the course with that key
current, or none where the flit is refused. A flit with a KEY_EPOCH on a clear course that has been offered no key is refused like
one with an unheld epoch (R136 speaks of encrypted courses: DESIGN CHOICE, log 110). -/
def Course.verify (x : Course) (epoch : Nat) : Option Course :=
  if !x.encrypted && epoch == 0 then some x
  else if x.encrypted && epoch == x.epochRx && decide (x.verified < 2 ^ 30) then some { x with verified := x.verified + 1 }
  else match x.keyNextRx with
    | none => none
    | some k =>
      if epoch = (if x.encrypted then epochAfter x.epochRx else 1) then
        some { x with
          encrypted := true, epochRx := epoch, keyRx := some k, keyNextRx := some (nextSecret k), verified := 1,
          epochTx := if x.encrypted then x.epochTx else 1, sentUnder := if x.encrypted then x.sentUnder else 0 }
      else none

/-! ### Replay runs and retraining (R139, R472) -/

/-- A replay run starts: every unacknowledged flit is resent in order; `bump` raises the oldest flit's replay count. -/
def State.startReplay (s : State) (c : Nat) (bump : Bool) : State :=
  (s.setCourse c (fun x => { x with
    tx := .replay, run := x.buffer.map (fun f => f.seq),
    buffer := match x.buffer with
      | [] => []
      | f :: l => { f with replays := f.replays + b2n bump } :: l })).count (crsAt c 0x110)

/-- RUN or STALL, by the room in the replay buffer. -/
def Course.idleTx (x : Course) : TxState := if 256 ≤ x.buffer.length then .stall else .run

/-- A course stops delivering: it is not up, nothing is assembled, and no spare lane is being moved (R125, R148, R472). -/
def Course.still (x : Course) : Course :=
  { x with up := false, asm := none, parts := [], failAt := none, mapReq := none, switchTx := none, moved := none }

/-- A message of a flit that a fenced course holds: until the host has answered, what it completed is outstanding again, unless the
number has been used anew (R150, R169). A FENCE or a notice that it has released stays released. -/
def State.reclaim (s : State) (m0 : UpMsg) : UpMsg × State :=
  let m := { m0 with fenceOf := none, again := true }
  match m.done with
  | .tag w g =>
    if s.tagBusy w g then ({ m with done := .nothing }, s)
    else
      let t := s.acct w TagAcct.take
      (m, { t with trx := { t.trx with respond := t.trx.respond ++ [(w, g)] } })
  | .mtag g =>
    if s.mtagBusy g then ({ m with done := .nothing }, s)
    else (m, { s with trx := { s.trx with mgtOut := s.trx.mgtOut ++ [g] } })
  | .summary g =>
    if s.trx.resyncs.any (fun x => x.mtag == g) then
      (m, { s with trx := { s.trx with resyncs := s.trx.resyncs.map (fun x => if x.mtag = g then
        { x with parts := x.parts + 1 } else x) } })
    else if s.mtagBusy g then ({ m with done := .nothing }, s)
    else ({ m with done := .mtag g }, { s with trx := { s.trx with mgtOut := s.trx.mgtOut ++ [g] } })
  | .notice => ({ m with done := .nothing }, s)
  | _ => (m, s)

/-- The messages of a held flit, the last first, so that the last part of a SUMMARY is the one that completes its tag. -/
def State.reclaimMsgs (s : State) : List UpMsg → List UpMsg × State
  | [] => ([], s)
  | m :: l =>
    let r := s.reclaimMsgs l
    let x := r.2.reclaim m
    (x.1 :: r.1, x.2)

/-- The flits of a fenced course that have not been acknowledged. A COURSE_DOWN among them stands on every other course already, and
carries no message to take back. -/
def State.reclaimFlits (s : State) : List SentFlit → List SentFlit × State
  | [] => ([], s)
  | f :: l =>
    let r := s.reclaimFlits l
    let x := r.2.reclaimMsgs (if f.ftype = 1 then f.msgs else [])
    ({ f with msgs := x.1 } :: r.1, x.2)

/-- The COURSE_DOWN cell of a fenced course (R150). -/
def courseDownCell (c reason accepted : Nat) : Cell := cellOf [(0, 8, c), (8, 8, reason), (16, 48, accepted)]

/-- The code of a course fence (R150). -/
def CourseReason.num (r : CourseReason) : Nat :=
  match r with
  | .lanes => 0
  | .retrain => 1
  | .command => 2
  | .tag => 3

/-- A course is fenced (R149 to R151): it stops transmitting, every other up course reports it, and the flits it has not had
acknowledged wait for the host's answer. Its lanes, powered down by LN_PD, hunt from then on (R124 and R152 name HUNT at UNFENCE:
DESIGN CHOICE, log 130). The last course's fence is instance-fatal. -/
def State.fenceCourse (s : State) (c : Nat) (why : CourseReason) : State :=
  let was := decide ((s.course c).tx = .fenced)
  let t := s.fenceUnit .course c why.num none
  let t := t.stickBits RF.CRS_FENCED_EVT c 1
  let t := when t.linkStages (fun t => t.stick RF.SYS_LINK_DEGRADED) t
  match was with
  | true => t
  | false =>
    let accepted := ((t.course c).expect + 2 ^ 48 - 1) % 2 ^ 48
    let t := t.darkLanes c
    let r := t.reclaimFlits (t.course c).buffer
    let t := (r.2.setCourse c Course.still).setCourse c (fun x => { x with
      tx := .fenced, fenceWhy := some why, held := x.held ++ r.1, buffer := [], run := [], nakWait := false, nakDue := false,
      waitPeer := true, retrainAt := none, limitAt := none, downs := [] })
    let t := forAll (List.range 12) (fun d t =>
      if (t.course d).up then t.setCourse d (fun x => { x with downs := x.downs ++ [courseDownCell c why.num accepted] }) else t) t
    let t := match t.rpr.loop with
      | some l => if l.course = c ∧ why ≠ CourseReason.command then t.loopEnd else t
      | none => t
    let t := t.followRef
    if (List.range 12).all (fun d => (t.course d).tx == .fenced) then t.fatalFault (0x10 + c) noCause rsnInstance else t

/-- A course enters RETRAIN, and its FAILED lanes hunt (R124); the third time within 1,024 drone ticks, while another course is up,
it is fenced. While no other course is up the retrain is not counted (R139, R472). A course that is DOWN only hunts (DEDUCED:
it has no sequence to replay; log 102). -/
def State.enterRetrain (s : State) (c : Nat) : State :=
  let t := s.setLanes c (fun x => if x.st = .failed then x.hunt else x)
  if (s.course c).tx = .fenced then s
  else if (s.course c).tx = .down then t
  else
    let l := (if s.otherUp c then [s.now] else []) ++ (s.course c).retrains.filter (fun t => decide (s.now ≤ t + 1024))
    let t := (t.setCourse c Course.still).setCourse c (fun x => { x with
      tx := .retrain, run := [], spareRx := 16, spareTx := 16, retrains := l,
      retrainAt := some s.now, limitAt := some (s.now + s.rf RF.LNK_RETRAIN_LIMIT) })
    let t := t.followRef
    if 3 ≤ l.length && t.otherUp c then t.fenceCourse c .retrain else t

/-- A course is retrained: every lane returns to HUNT (R124, R139). -/
def State.retrainCourse (s : State) (c : Nat) : State :=
  if (s.course c).tx = .fenced then s
  else ((s.countBy (crsAt c 0x140) (s.lockedLanes c)).setLanes c (fun x => { x.hunt with leftAt := none })).enterRetrain c

/-- The one logical lane of a course that has no ALIGNED lane, where the spare is aligned and could take it (R147). -/
def State.lacksOne (s : State) (c : Nat) : Option Nat :=
  match (List.range 16).filter (fun k => (s.laneOf c k).isNone) with
  | [k] => if (s.laneOf c 16).isSome ∧ s.rfb RF.LNK_AUTO_SPARE then some k else none
  | _ => none

/-- RETRAIN_LIMIT has passed while another course is up (R139). During start-up it bounds the bring-up of a course too: one that
lacks a single lane then asks for its spare, and another, or one that has asked, is fenced (R108 gives no time: DESIGN CHOICE,
log 102). -/
def State.retrainOver (s : State) (c : Nat) : State :=
  let x := s.course c
  match x.tx, x.limitAt with
  | .retrain, some d => if s.otherUp c ∧ d ≤ s.now then s.fenceCourse c .retrain else s
  | .down, some d =>
    if s.otherUp c ∧ d ≤ s.now then
      match x.mapReq, s.lacksOne c with
      | none, some k => s.setCourse c (fun x => { x with
          mapReq := some k, mapAge := 0, limitAt := some (s.now + s.rf RF.LNK_RETRAIN_LIMIT) })
      | _, _ => s.fenceCourse c .retrain
    else s
  | _, _ => s

/-! ### Courses up and down (R125) -/

/-- The limits of courses in RETRAIN start afresh when the first other course comes up: they were suspended until then (R472;
log 36). During start-up that of courses still DOWN starts then (log 102). -/
def State.resumeLimits (s : State) (c : Nat) : State :=
  if s.otherUp c then s
  else forAll (List.range 12) (fun d t =>
    if d ≠ c ∧ ((t.course d).tx = .retrain ∨ ((t.course d).tx = .down ∧ t.linkStages)) then
      t.setCourse d (fun x => { x with limitAt := some (t.now + t.rf RF.LNK_RETRAIN_LIMIT) })
    else t) s

/-- The number of the first flit that starts on every lane of a course after its next block (R125). -/
def State.firstFlit (s : State) (c : Nat) : Nat :=
  (List.range 16).foldl (fun n k => match s.laneOf c k with
    | some l => if gridPast n (((s.lane c l).block + 3) / 4) then ((s.lane c l).block + 3) / 4 % flitNumbers else n
    | none => n) (match s.laneOf c 0 with | some l => ((s.lane c l).block + 3) / 4 % flitNumbers | none => 0)

/-- Flits are assembled from the next boundary on, unless they already are (R125). -/
def State.startAssembly (s : State) (c : Nat) : State :=
  match (s.course c).asm with
  | some _ => s
  | none => s.setCourse c (fun x => { x with asm := some (s.firstFlit c), parts := [] })

/-- A course has come up: afresh, with its keys and in RUN, or after a retrain with a replay run (R125, R139, R334). -/
def State.courseUp (s : State) (c : Nat) : State :=
  let x := s.course c
  let t := s.resumeLimits c
  let t := (t.setCourse c (fun x => { x with up := true, retrainAt := none, limitAt := none })).startAssembly c
  let t := match x.tx with
    | .down =>
      let t : State := if x.unfenceAt.isSome ∧ x.next = 0 ∧ x.expect = 0 then
          { t with sec := { t.sec with courseGen := t.sec.courseGen.upd c (· + 1) } }
        else t
      (t.setCourse c (fun x => { x with tx := .run })).freshKeys c
    | .retrain => if x.buffer.isEmpty then t.setCourse c (fun x => { x with tx := .run }) else t.startReplay c false
    | _ => t
  t.followRef.goOn

/-- A course's lanes have changed: it is up while its 16 logical lanes are aligned (R125). -/
def State.settleCourse (s : State) (c : Nat) : State :=
  let ready := s.lanesReady c && (s.course c).tx != .fenced
  if ready == (s.course c).up then s
  else if ready then s.courseUp c
  else (s.setCourse c (fun x => { x with up := false })).followRef

/-! ### Spare lanes (R147, R148) -/

/-- What becomes of a course whose logical lane has failed. -/
inductive SpareVerdict where
  | nothing | ask | fence
  deriving DecidableEq, Repr

/-- A logical lane of a course has failed: its move to the spare is asked for, or the course is to be fenced: within 1,024 drone ticks
of UNFENCE in any state (R152), or where the spare carries a lane, is asked for another, or is not aligned (R147). -/
def State.spareVerdict (s : State) (c k : Nat) : SpareVerdict :=
  let x := s.course c
  let again := match x.unfenceAt with | some t => decide (s.now ≤ t + 1024) | none => false
  if k = 16 ∨ x.tx = .fenced ∨ x.mapReq = some k then .nothing
  else if again then .fence
  else if x.tx = .down ∨ x.tx = .retrain then .nothing
  else if x.spareRx ≠ 16 ∨ x.mapReq.isSome then .fence
  else if !s.rfb RF.LNK_AUTO_SPARE then .nothing
  else if (s.laneOf c 16).isNone then .fence
  else .ask

/-- A logical lane of a course has failed (R147, R152). A fence waits out `wait` drone ticks, in which the whole course may prove lost
(R472). Its reason is LANES, also for the second fence of R152, which names none (DESIGN CHOICE, log 103). -/
def State.spareLane (s : State) (c k wait : Nat) : State :=
  match s.spareVerdict c k with
  | .nothing => s
  | .ask => s.setCourse c (fun x => { x with mapReq := some k, mapAge := 0 })
  | .fence =>
    if wait = 0 then s.fenceCourse c .lanes
    else s.setCourse c (fun x => { x with failAt := some (x.failAt.getD (s.now + wait)) })

/-- The courses whose failed lanes have proved no loss of the whole course are fenced (R147, R472). -/
def State.failedLanes (s : State) : State :=
  forAll (List.range 12) (fun c t => match (t.course c).failAt with
    | some d => if d ≤ t.now then (t.setCourse c (fun x => { x with failAt := none })).fenceCourse c .lanes else t
    | none => t) s

/-- Another lane of the course left ALIGNED within the last marker period of 16,384 blocks, 33.8 drone ticks (R472). -/
def State.leftLately (s : State) (c l : Nat) : Bool :=
  (List.range 17).any (fun p => p != l &&
    (match (s.lane c p).leftAt with | some t => decide (s.now ≤ t + 33) | none => false))

/-- A lane leaves LOCKED or ALIGNED for another state. A lane that leaves ALIGNED fails its logical lane, or is part of the loss
of the whole course (R124, R147, R472). -/
def State.laneLeaves (s : State) (c l : Nat) (f : Lane → Lane) : State :=
  let x := s.lane c l
  let t := s.setLane c l f
  match x.st with
  | .hunt => t
  | .failed => t
  | .locked => t.count (crsAt c 0x140)
  | .aligned =>
    let t := (t.setLane c l (fun y => { y with leftAt := some s.now })).count (crsAt c 0x140)
    if t.leftLately c l then
      let t := t.setCourse c (fun x => { x with failAt := none })
      if (t.course c).tx = .down ∨ (t.course c).tx = .retrain then t.settleCourse c else t.retrainCourse c
    else (t.settleCourse c).spareLane c x.logLane 34

/-- The corrected bytes of a lane within 1,024 drone ticks. -/
def Lane.corrected (x : Lane) : Nat := x.corr.foldl (fun n p => n + p.2) 0

/-- The FEC has corrected bytes of a flit: they count for their lanes, and past FEC_LANE_THRESH within 1,024 drone ticks the lane is
spared (R131, R132, R147). -/
def State.noteFec (s : State) (c : Nat) (corrected : List Nat) : State :=
  forAll corrected (fun b t =>
    let k := b / 8 % 16
    match t.laneOf c k with
    | none => t
    | some l =>
      let t := (t.setLane c l (fun x => { x with corr := corrMore s.now x.corr })).count (crsAt c (0x180 + 8 * l))
      if t.rf RF.LNK_FEC_LANE_THRESH < (t.lane c l).corrected then t.spareLane c k 0 else t) s

/-- LANE_MAP from the host: this side is to move an upstream lane onto its spare (R148). -/
def State.takeMap (s : State) (c : Nat) (p : BitVec 64) : State :=
  let k := fieldNat p 23 16
  if fieldNat p 15 8 = c ∧ k < 16 ∧ (s.course c).spareTx = 16 then s.setCourse c (fun x => { x with switchTx := some k }) else s

/-- The event of a spared lane, 0 downstream or 1 upstream. -/
def State.sparedEvent (s : State) (c k l d : Nat) : State :=
  let t := s.stickBits RF.CRS_SPARED_EVT c 1
  let t := when t.linkStages (fun t => t.stick RF.SYS_LINK_DEGRADED) t
  t.event (0x10 + c) 0x0301 1 [(0, 1, c), (1, 1, k), (2, 1, l), (3, 1, d)]

/-- LANE_SWITCH from the host: from the next flit boundary the aligned spare carries the lane, and the failed lane, which may still
have blocks of the flit before it to deliver, the spare's filler (R148). -/
def State.takeSwitch (s : State) (c : Nat) (p : BitVec 64) : State :=
  let k := fieldNat p 23 16
  if (s.course c).mapReq = some k then
    match s.laneOf c 16 with
    | none => s
    | some l =>
      let moved : Moved := ⟨k, l, s.laneOf c k, ((s.lane c l).block + 3) / 4 % flitNumbers⟩
      let t := forAll (List.range 17) (fun i t =>
        t.setLane c i (fun x => if x.logLane = k then { x with logLane := 16 } else x)) s
      let t := t.setLane c l (fun x => { x with logLane := k })
      let t := t.setCourse c (fun x => { x with spareRx := k, mapReq := none, moved := some moved })
      (t.sparedEvent c k l 0).settleCourse c
  else s

/-- LN_RXV of a lane falls: it returns to HUNT (R25, R124). -/
def State.rxvFalls (s : State) (c l : Nat) : State :=
  if !(s.lane c l).rxv then s
  else (s.setLane c l (fun x => { x with rxv := false })).laneLeaves c l (fun x => { x.hunt with rxv := false })

/-- LN_RXV of a lane rises, which counts as a loss of its block lock (R25) beside the exits from LOCKED and ALIGNED that LOCK_LOSS
counts (R153; DEDUCED, log 104). -/
def State.rxvRises (s : State) (c l : Nat) : State :=
  if (s.lane c l).rxv then s
  else (s.setLane c l (fun x => { x.hunt with rxv := true, st := if x.st = .failed then .failed else .hunt })).count (crsAt c 0x140)

/-- The SerDes has finished adapting the receiver. -/
def State.eqAck (s : State) (c l : Nat) : State := s.setLane c l (fun x => { x with eqReq := false })

/-- During a retrain LN_EQREQ rises on lanes that have not relocked after 8 drone ticks (R139). -/
def State.eqTick (s : State) : State :=
  forAll (List.range 12) (fun c t =>
    match (t.course c).retrainAt with
    | some t0 =>
      if (t.course c).tx = .retrain ∧ t0 + 8 = t.now then
        t.setLanes c (fun x => if x.st = .hunt then { x with eqReq := true } else x)
      else t
    | none => t) s

/-! ### UNFENCE (R152) -/

/-- UNFENCE: the course hunts, its counts restart at 0 (R152). An unanswered COURSE_DOWN stays awaited. -/
def State.unfenceCourse (s : State) (c : Nat) : State :=
  if (s.course c).tx ≠ .fenced then s.unfenceIgnored .course c
  else
    let t := s.setCourse c (fun x => { Course.init with
      unfenceAt := some s.now, held := x.held, waitPeer := x.waitPeer, retrains := [], last := x.last })
    let t := t.setLanes c (fun x => { x.hunt with pd := false, txv := true, eqReq := true, leftAt := none })
    t.serviceBack .course c

end Sys2Proof.Machine
end

