-- ==== Sys2Proof/Machine/CtlOps.lean ====
section
/-! DEFINITION. The operations that software starts through the control registers and that no chapter of its own holds: the state
summary (R183 to R187), the counter snapshot (R83, R84, R468), fences by command (R402 to R404, R470), the pin (R409), the event
view and the log (R414 to R417), the saved configuration (R116) and the lock fuse (R433). -/

namespace Sys2Proof.Machine

/-! ### The state summary (R186, R187) -/

/-- A channel record: `code` its STATE, `drained` its WSEQ_DRAINED. -/
def State.chanRecord (s : State) (ch code drained : Nat) : List Byte :=
  let c := s.chan ch
  let suspect := (List.range 64).any (fun b => (c.banks.get b).suspect)
  leBytes 1 (code + c.band * 16 + b2n suspect * 128) ++ leBytes 1 (min (c.temp / 4) 255) ++ leBytes 2 drained ++
    leBytes 1 c.writes.length ++ leBytes 1 c.reads.length ++ leBytes 1 (s.flt.chEpoch.get ch).toNat ++
    leBytes 1 (if s.chFenced ch then s.chReason ch else 0)

/-- A partner-channel record: ABSENT but in double-stop mode, with the WSEQ_DRAINED that was mirrored at takeover (R181, R187). -/
def State.partnerRecord (s : State) (n : Nat) : List Byte :=
  if s.pair.doubleStop then s.chanRecord (32 + n) (s.chanCode (32 + n)) (s.pair.chans.get n).drained
  else 7#8 :: List.replicate 7 0#8

/-- CTX_OUT of a context. -/
def State.ctxCode (s : State) (k : Nat) : Nat :=
  let o := (s.ctx k).out
  if o = 0 then 0 else if s.outLimit k ≤ o then 15 else min 13 (Nat.log2 o + 1)

/-- The number of returned credits of a class: pending or travelling (R145). -/
def Credit.returned (c : Credit) : Nat := c.pending + c.flying

/-- Bytes 0 to 255 of the summary. -/
def State.summaryHead (s : State) : List Byte :=
  let z := fun (n : Nat) => List.replicate n 0#8
  leBytes 4 0x53554d31 ++ leBytes 2 1 ++ leBytes 2 0x0c32 ++ leBytes 1 0xb1 ++ leBytes 1 s.inst ++ leBytes 1 s.boot.running ++
  leBytes 1 s.pair.role.num ++ leBytes 1 s.boot.stage.num ++ z 3 ++
  leBytes 4 s.flt.generation ++ leBytes 4 s.regs.doneEpoch ++ leBytes 6 s.time.stamp.toNat ++ z 2 ++
  leBytes 4 s.evt.head ++ leBytes 4 s.evtTail ++ leBytes 4 s.boot.secVer ++
  leBytes 2 (bitsOf 12 (fun c => (s.course c).up)) ++ leBytes 2 (bitsOf 12 (fun c => (s.course c).tx == .fenced)) ++ z 16 ++
  leBytes 2 s.trx.rdAcct.free ++ leBytes 2 s.trx.rdAcct.outstanding ++ leBytes 2 s.trx.rdAcct.quarantined ++
  leBytes 2 s.trx.wrAcct.free ++ leBytes 2 s.trx.wrAcct.outstanding ++ leBytes 2 s.trx.wrAcct.quarantined ++
  leBytes 2 s.link.req.held ++ leBytes 2 s.link.req.consumed ++ leBytes 2 s.link.req.returned ++
  leBytes 2 s.link.wd.held ++ leBytes 2 s.link.wd.consumed ++ leBytes 2 s.link.wd.returned ++
  leBytes 1 s.link.mgt.held ++ leBytes 1 s.link.mgt.consumed ++ leBytes 1 s.link.mgt.returned ++ z 1 ++
  leBytes 2 s.regul.poolFree ++ leBytes 2 s.regul.poolUsed ++ leBytes 4 s.flt.ledgerFail ++ z 28 ++
  leBytes 6 (pairsOf 24 (fun d => (s.dom d).st.num)) ++ leBytes 2 (bitsOf 16 (fun g => s.marked .group g)) ++
  leBytes 1 (bitsOf 2 (fun h => s.marked .lpHalf h)) ++ z 3 ++
  leBytes 2 (s.slotsIn .active) ++ leBytes 2 (s.slotsIn .fenced) ++ leBytes 16 (bitsOf 128 (fun i => s.marked .sid i)) ++
  leBytes 4 (s.ctxSum (fun _ c => c.out)) ++ leBytes 1 (s.sticky RF.REG_GUARANTEE_SCALED 0) ++ z 91

/-- The 2,048 bytes of the state summary. -/
def State.summary (s : State) : List Byte :=
  withCrc (s.summaryHead ++
    (List.range 32).flatMap (fun n => s.chanRecord n (s.chanCode n) (s.chan n).drained) ++
    (List.range 32).flatMap (fun n => s.partnerRecord n) ++
    (List.range 256).map (fun i => BitVec.ofNat 8 (bitsOf 8 (fun j => ((s.chan (i / 8)).banks.get (i % 8 * 8 + j)).suspect))) ++
    (List.range 256).map (fun i => BitVec.ofNat 8 (bitsOf 8 (fun j => (s.sec.own.get (8 * i + j)).st != .empty))) ++
    (List.range 512).map (fun i => BitVec.ofNat 8 (s.ctxCode (2 * i) + 16 * s.ctxCode (2 * i + 1))) ++ List.replicate 252 0#8)

/-- A capture into the summary window (R183, R469). -/
def State.captureWindow (s : State) : State := { s with regs := { s.regs with window := s.summary } }

/-- CAPTURE of SYS_SUMCTL: ignored while a capture is in progress; SUM_BUSY falls with the next drone tick (log 37). -/
def State.sumCapture (s : State) : State :=
  if s.regs.sumBusy then s
  else { s.captureWindow with regs := { s.captureWindow.regs with sumBusy := true } }

/-- The eight SUMMARY parts of one capture (R168). -/
def State.sendSummary (s : State) (mtag : Nat) : State :=
  let l := s.summary
  forAll (List.range 8) (fun p t =>
    t.sendUp (summaryHdr mtag p s.flt.generation (p == 7) ::
      (List.range 16).map (fun i => bytesCell ((l.drop (256 * p + 16 * i)).take 16))) (.summary mtag) none) s

/-! ### The counter snapshot (R83, R84, R468) -/

/-- The place in the holding area of the counter at a byte offset of the window. -/
def holdingAt (off : Nat) : Option Nat :=
  let x := off % 0x1000 - 0x100
  if off < 0xa000 then some (0x200 + 0x200 * (off / 0x1000) + x)
  else if 0x10000 ≤ off ∧ off < 0x1c000 then some (0x1600 + 0x200 * ((off - 0x10000) / 0x1000) + x)
  else if 0x20000 ≤ off ∧ off < 0x21000 then some (0x3000 + x)
  else if 0x30000 ≤ off ∧ off < 0x40000 then some (0x8000 + 8 * ((off - 0x30000) / 64))
  else if 0x40000 ≤ off ∧ off < 0x41000 then some (0x3400 + x)
  else if 0x80000 ≤ off ∧ off < 0xa0000 then some (0x4000 + 0x200 * ((off - 0x80000) / 0x1000) + x)
  else if 0xa0000 ≤ off ∧ off < 0xa1000 then some (0x3600 + x)
  else if 0xb0000 ≤ off ∧ off < 0xb1000 then some (0x3800 + x)
  else if 0xb1000 ≤ off ∧ off < 0xb2000 then some (0x3a00 + x)
  else none

/-- The domain of a counter in the valid mask: its page's, and for a channel's CAPTURE_MISS its channel group's (R463, R468). -/
def counterDomain (off : Nat) : Nat :=
  if 0xa0100 ≤ off ∧ off < 0xa0200 then 8 + (off - 0xa0100) / 16 else pageDomain off

/-- A domain keeps its counters: it is on or in retention (R84). -/
def State.domKept (s : State) (d : Nat) : Bool := (s.dom d).st == .on || (s.dom d).st == .retention

/-- SNAP: the capture begins; a write during one is ignored. -/
def State.snapStart (s : State) : State :=
  if s.regs.snapBusy then s
  else { s with regs := { s.regs with
    snapBusy := true, snapStamp := s.time.stamp, snapMask := bitsOf 24 s.domKept } }

/-- The capture ends: the holding area is whole, the pending accumulators are added to their counters. -/
def State.snapEnd (s : State) : State :=
  if s.regs.snapBusy then
    let seq := (s.regs.snapSeq + 1) % 2 ^ 32
    let mask := bitsOf 24 (fun d => s.regs.snapMask.testBit d && s.domKept d)
    let head : Tbl (BitVec 64) :=
      ((Tbl.const 0#64).set 0 (s.regs.snapStamp.setWidth 64)).set 1 (BitVec.ofNat 64 (seq + mask * 2 ^ 32))
    { s with regs := { s.regs with
      snapBusy := false, snapSeq := seq,
      snapshot := (s.regs.counters.ents.filter (fun e => mask.testBit (counterDomain e.1))).foldl (fun tb e =>
        match holdingAt e.1 with | some x => tb.set (x / 8) e.2 | none => tb) head,
      counters := s.regs.snapAcc.ents.foldl (fun tb e => tb.upd e.1 (· + BitVec.ofNat 64 e.2)) s.regs.counters,
      snapAcc := .const 0 } }
  else s

/-! ### Fences by command (R402 to R404, R419, R470) -/

/-- The unit that a write of FLT_CTL names; those of partner channels in double-stop mode. -/
def State.ctlUnit (s : State) (v : Word) : Option (FUnit × Nat) :=
  let i := fieldNat v 11 0
  let m := if s.pair.doubleStop then 2 else 1
  match fieldNat v 27 24 with
  | 0 => if i < 32 * m then some (.channel, i) else none
  | 1 => if i < 128 * m then some (.sid, i) else none
  | 2 => if i < 2048 * m then some (.bank, i) else none
  | 3 => if i < 2 then some (.lpHalf, i) else none
  | _ => none

/-- A unit that contains this one is fenced. -/
def State.insideFenced (s : State) (u : FUnit) (i : Nat) : Bool :=
  s.flt.fatal ||
    match u with
    | .bank => s.marked .sid (i / 16) || s.chFenced (i / 64)
    | .sid => s.chFenced (i / 4)
    | .channel => s.marked .group (i / 2) || s.marked .lpHalf (halfOf i)
    | _ => false

/-- FENCE by FLT_CTL. -/
def State.ctlFence (s : State) (v : Word) : State :=
  match s.ctlUnit v with
  | some (u, i) => s.fenceUnit u i rsnCommand none
  | none => s

/-- A channel whose CHn_RST_N was driven low repeats step 8 of R92, with every refresh pointer at 0 and the exit sweep of R289
(R470); in HALTED it stays in reset (R115). -/
def State.dieAgain (s : State) (ch : Nat) : State :=
  ((s.dieStart ch).setChan ch (fun c => { c with
    banks := c.banks.mapAll (fun b => { b with openRow := none, ptr := 0 }) })).startSweep ch true

/-- A unit's return to service begins with its channel's full retraining (R402). -/
def State.returnBy (s : State) (u : FUnit) (i ch : Nat) : State :=
  let low := s.resetDriven ch
  let t : State := { s with flt := { s.flt with unfencing := s.flt.unfencing ++ [(u, i)] } }
  let t := when (low && !t.resetDriven ch) (fun t => t.dieAgain ch) t
  (t.wake (chDomain ch)).retrain ch true []

/-- UNFENCE by FLT_CTL: ignored inside a fenced unit; a bank returns at once, a SID and a channel through a full retraining, a
line-protection half through its self-tests, with every slot reloaded from the other half (R402, R403). -/
def State.ctlUnfence (s : State) (v : Word) (ok : Bool) : State :=
  match s.ctlUnit v with
  | none => s
  | some (u, i) =>
    if s.insideFenced u i then s.unfenceIgnored u i
    else if !s.marked u i || s.flt.unfencing.contains (u, i) then s
    else match u with
      | .bank => s.serviceBack .bank i
      | .sid => (s.setSid (i / 4) (i % 4) (fun x => { x with hold := false, capErr := false })).returnBy .sid i (i / 4)
      | .channel => s.returnBy .channel i i
      | .lpHalf =>
        match ok with
        | true =>
          let load := fun (k : KeySlot) => if i = 0 then { k with eastOk := k.westOk } else { k with westOk := k.eastOk }
          ({ s with sec := { s.sec with own := s.sec.own.mapAll load, partner := s.sec.partner.mapAll load } } : State).serviceBack
            .lpHalf i
        | false => (s.dropMark .lpHalf i).fenceUnit .lpHalf i rsnLpHalf none
      | _ => s

/-! ### FAULT_N (R408, R409) -/

/-- A write of FLT_PIN with DRIVE = 1. -/
def State.pinHold (s : State) : State := { s with flt := { s.flt with drive := true } }

/-- A write of FLT_PIN with DRIVE = 0: it releases the pin only for the assertions that the writer has seen. -/
def State.pinRelease (s : State) (seq : Nat) : State :=
  if seq = s.flt.asserts % 256 then { s with flt := { s.flt with drive := false } } else s.stick RF.FLT_RELEASE_STALE

/-- The FAULT_N pulse has run out. -/
def State.pulseOver (s : State) : State :=
  match s.flt.pulseEnd with
  | some t => if t ≤ s.now then { s with flt := { s.flt with pulseEnd := none } } else s
  | none => s

/-! ### The event view and the log (R414 to R417, R420) -/

/-- The words of a record. -/
def EvRec.words (r : EvRec) (seq : Nat) : List Word := toWords (r.bytes seq)

/-- A write of a SEQ to a path's EVT_VIEW copies the record whole, or shows VIEW_MISS. -/
def State.viewRecord (s : State) (p seq : Nat) : State :=
  let hit := (s.evt.ring.get (seq % 4096)).filter (fun r => r.seq == seq && decide (seq ≤ s.evt.head))
  { s with regs := { s.regs with
    evtCopy := s.regs.evtCopy.set p (hit.map (fun r => r.words r.seq)),
    views := s.regs.views.set (16 * p + 8) (b2n hit.isNone) } }

/-- The byte address of a log slot. -/
def logAddr (slot : Nat) : Nat := 0xb0000 + 32 * (slot % 16384)

/-- A write of EVT_LOGIDX loads a log slot, zero where it cannot be read (R32, R34). -/
def State.viewLog (s : State) (slot : Nat) : State :=
  let read := s.pins.nvmRdy && s.nvmClean (logAddr slot) 32
  when s.pins.nvmRdy (fun t => t.readsOf (logAddr slot) 32) { s with regs := { s.regs with
    logCopy := s.regs.logCopy.set 0 (if read then toWords (s.mram (logAddr slot) 32) else []),
    views := s.regs.views.set 9 (slot % 16384) } }

/-- The newest record has stood for PERSIST_DELAY drone ticks: it is queued for persistence (R415). -/
def State.persistDue (s : State) : State :=
  match s.newest with
  | some r =>
    if s.persists r && decide (r.born + s.rf RF.EVT_PERSIST_DELAY ≤ s.now) then s.queueRec r
    else s
  | none => s

/-- An event record is being written to the log. -/
def State.logging (s : State) : Bool := (s.jobFor (fun w => match w with | .eventLog _ => true | _ => false)).isSome

/-- The luthier begins to write the oldest queued record to the next log slot (R416), one record at a time. -/
def State.persistNext (s : State) : State :=
  match s.evt.queue with
  | [] => s
  | r :: _ =>
    if s.evt.logReady && s.domOn 7 && s.pins.nvmRdy && !s.logging then
      s.nvmRecord (.eventLog r.seq) (logAddr s.evt.logSlot) (r.bytes ((s.evt.logSeq + 1) % 2 ^ 32))
    else s

/-- An event record stands in the log: it leaves the queue (R416). A record whose writing failed stays there, and its slot is
written again (log 98). -/
def State.logWritten (s : State) (seq : Nat) : State :=
  match s.evt.queue.find? (fun r => r.seq == seq) with
  | none => s
  | some r =>
    (({ s with evt := { s.evt with
      queue := s.evt.queue.erase r, logSeq := (s.evt.logSeq + 1) % 2 ^ 32, logSlot := (s.evt.logSlot + 1) % 16384, pseq := r.seq,
      started := s.evt.started || r.code == evStart } } : State)).count 0x3110

/-- A log slot holds a valid record (R91). -/
def State.logOk (s : State) (slot : Nat) : Bool := s.recordOk (logAddr slot) 32

/-- The log scan ends (R417): writing goes on behind the valid record with the greatest LOG_SEQ, or at slot 0 with LOG_BAD. The
START event of the power cycle is persisted first. -/
def State.logScanned (s : State) : State :=
  if s.boot.stage = .ready ∧ !s.evt.logReady ∧ s.domOn 7 ∧ s.pins.nvmRdy then
    let best := (List.range 16384).foldl (fun (b : Option (Nat × Nat)) slot =>
      if s.logOk slot then
        let q := numAt (s.mram (logAddr slot) 4) 0 4
        match b with
        | some x => if wrapsAfter q x.2 then some (slot, q) else b
        | none => some (slot, q)
      else b) none
    let start := s.evt.ring.ents.filterMap (fun e => e.2.filter (fun r => r.code == evStart && !r.queued))
    let s := s.readsOf 0xb0000 0x80000
    let t : State := { s with evt := { s.evt with
      logReady := true,
      logSlot := match best with | some x => (x.1 + 1) % 16384 | none => 0
      logSeq := match best with | some x => x.2 | none => 0
      queue := if s.evt.started then s.evt.queue else start.take 1 ++ s.evt.queue } }
    when best.isNone (fun t => t.stick RF.EVT_LOG_BAD) t
  else s

/-! ### Answers to writes (R71, R371) -/

/-- A write asks for a lower state of D1 (R371, R380). -/
def sleepsLink (off : Nat) (v : Word) : Bool :=
  off == 0x1014 && fieldNat v 4 0 == 1 && (fieldNat v 9 8 == 1 || fieldNat v 9 8 == 2)

/-- A write is acknowledged: a CFGWR with WACK, CM_REG with its STATUS. The WACK of a PWR_REQ for D1 is followed until the host has
acknowledged its flit (R371). In an SMP session a status byte answers it (R330; log 141). -/
def State.ackWrite (s : State) (a : Access) (off : Nat) (v : Word) (tag : Option Nat) (bad : Bool) : State :=
  match tag.bind (fun g => s.reqOf true g), a.path with
  | some r, _ =>
    let t := s.wackPlain r none none
    if sleepsLink off v && !bad then t.sendUp [] .sleepOk none else t
  | none, .wrapper => s.cmDone (b2n bad) 0#32
  | none, .smpSession => { s with regs := { s.regs with smpStatus := some (BitVec.ofNat 8 (b2n bad)) } }
  | none, _ => s

/-! ### The saved configuration (R116) and the lock fuse (R433) -/

/-- A settings page is being written for a save or a persisted key: one at a time. -/
def State.pageWriting (s : State) : Bool :=
  (s.nvm.jobs ++ s.nvm.deferred).any (fun j => match j.why with | .settings _ => true | _ => false)

/-- A SAVE passes the commit mutex: the values in force are captured with SYS_COMMIT_EPOCH. -/
def State.captureSave (s : State) : State := { s with boot := { s.boot with saving := some (s.savedWords, s.regs.doneEpoch) } }

/-- One settings page of the running slot is written with what a SAVE captured, its key section first and its settings record last.
Where neither page is valid it is page 0, with SEQ 1 and no key (DESIGN CHOICE, log 100). -/
def State.saveStart (s : State) (x : List (Nat × Nat) × Nat) : State :=
  let slot := s.boot.running
  let newer := s.newerValid slot
  let page := match newer with | some p => 1 - p | none => 0
  let seq := match newer with | some p => (s.pageSeq slot p + 1) % 2 ^ 32 | none => 1
  let keys := match newer with
    | some p => s.keySection slot p
    | none => keySectionOf []
  s.nvmJob (.settings none) true (wordsOf (pageAddr slot page + 49152) keys ++
    wordsOf (pageAddr slot page) (s.settingsRecord slot page seq x.2 x.1))

/-- A write of LOCK = 1 programs the one-time fuse (R337, R433). -/
def State.lockNow (s : State) : State :=
  { s with nvm := { s.nvm with lockFuse := true }, sec := { s.sec with lock := true } }

end Sys2Proof.Machine
end

