-- ==== Sys2Proof/Machine/WakeOps.lean ====
section
/-! DEFINITION. Wakes of domains and their failures, and the requests that software makes of the power controller (16_power_domains
R372 to R377, R402, R470). -/

namespace Sys2Proof.Machine

/-! ### A wake that succeeds (R372 to R377) -/

/-- PSW_EN rises for the waking domains whose domains woken first are on, or have failed. -/
def State.unblock (s : State) : State :=
  forAll (List.range 24) (fun d t =>
    if (t.dom d).wakeFrom.isSome && (t.dom d).retryAt.isNone && !t.pins.pswEn.get d && !t.wakeBlocked d then t.beginWake d else t) s

/-- A domain's readiness can end its wake: an attempt runs, its switch is driven, and nothing is to be woken first (R375). -/
def State.wakeRuns (s : State) (d : Nat) : Bool :=
  (s.dom d).wakeFrom.isSome && (s.dom d).retryAt.isNone && s.pins.pswEn.get d && !s.wakeBlocked d

/-- A word of the window belongs to a domain's configuration: a buffered word of one of its pages. -/
def configOf (d off : Nat) : Bool := isBuffered off && pageDomain off == d

/-- The configuration of a domain is loaded anew from the settings page of start-up, or takes its reset values where none was
loaded (R377). -/
def State.revertConfig (s : State) (d : Nat) : State :=
  let keep := fun (t : Tbl Word) => (⟨t.dflt, t.ents.filter (fun e => !configOf d (e.1 % 0x200000))⟩ : Tbl Word)
  let old := s.regs.force
  let t : State := { s with regs := { s.regs with shadow := keep s.regs.shadow } }
  let words := if s.boot.setDefault then [] else ((s.pageWords s.boot.running s.boot.pageNow).getD []).filter (fun w => configOf d w.1)
  let t := forAll words (fun w t => t.loadWord w.1 w.2) t
  let own := t.regs.shadow.ents.filter (fun e => configOf d e.1)
  let force := own.foldl (fun (tb : Tbl Word) e => tb.set e.1 e.2) (keep old)
  let copies := force.ents.filter (fun e => configOf d e.1)
  let t : State := { t with regs := { t.regs with force := copies.foldl (fun (tb : Tbl Word) e =>
    (List.range 32).foldl (fun tb ch => if 0x80000 ≤ e.1 ∧ d = chDomain ch then tb.set (chanCopy ch e.1) e.2 else tb) tb) force } }
  when (d == 2) (fun t => forAll (t.regul.ctx.keysWhere (fun _ => true)) (fun k t =>
    let m := t.rfn RF.CTX_MIN_BW k 0
    t.setCtx k (fun x => { x with committed := m, resv := t.resvOf k m })) t) t

/-- The words that a domain loads from the configuration store failed their parity (R377): they come from the partner's mirror,
where it holds the epoch in force, and are then as they were; otherwise from the settings page. -/
def State.storeFailed (s : State) (d : Nat) : State :=
  let mirrored := s.pair.role == .paired && s.pair.mirrored == s.regs.doneEpoch
  ((when (!mirrored) (fun t => t.revertConfig d) s).stick RF.PWR_CONFIG_REVERTED).event 1 0x0503 2 [(0, 1, d)]

/-- A retained word failed its parity: the wake goes on as one from off, with what the partner's mirror holds where the pair is
PAIRED (R376). A line-protection half takes its slots from the other half (R323). -/
def State.coldStart (s : State) (d : Nat) : State :=
  let t := s.setDom d (fun x => { x with from0 := true, cold := true })
  let t := ((t.stick RF.PWR_COLD_START).count 0x1120).event 1 0x0502 2 [(0, 1, d)]
  let t := if d = 1 then t.linkDown true else t
  let load := fun (k : KeySlot) => if d = 3 then { k with eastOk := k.westOk } else { k with westOk := k.eastOk }
  let t : State := if d = 3 ∨ d = 4 then
      { t with sec := { t.sec with own := t.sec.own.mapAll load, partner := t.sec.partner.mapAll load } }
    else t
  let t := t.loseDom d true
  forAll (t.wakeFirst d) (fun e t => if t.domOn e then t else t.wake e) t

/-- D1 comes up from off as a fresh bring-up: every course, a fenced one too, returns to HUNT and counts a generation, and the credit
ledger starts again with the whole grant pending (R372, R144). The wake of step 10 is the first and finds both as they stand at
power-good. -/
def State.linkFresh (s : State) : State :=
  let t : State := { s with
    link := { s.link with req := LinkSt.init.req, wd := LinkSt.init.wd, mgt := LinkSt.init.mgt, crWaited := false }
    sec := { s.sec with courseGen := s.sec.courseGen.mapAll (· + 1) } }
  let t := forAll ((List.range 12).filter (fun c => (s.course c).tx == .fenced)) (fun c t => t.unfenceCourse c) t
  t.event 2 0x0204 0 [(0, 1, 0), (1, 1, 0)]

/-- A component of the running slot can be read and has the digest that its manifest gives (R364, R441). -/
def State.compGood (s : State) (type : Nat) : Bool :=
  let slot := s.boot.running
  match (s.manifest slot).entry type s.inst with
  | some c => s.nvmClean (slotAddr slot + c.off) c.len && sha384 (s.mram (slotAddr slot + c.off) c.len) == c.digest
  | none => true

/-- The components that a wake from off reads again: luthier code, link microcode and calibration microcode for D7, the tablature for
a channel group (R92, R364). -/
def reloaded (d : Nat) : List Nat := if d = 7 then [1, 3, 4] else if 8 ≤ d then [2] else []

/-- The reload of a wake from off completes (R364, R375): what the domain reads again stands in the slot as its manifest has it. -/
def State.reloadOk (s : State) (d : Nat) : Bool := !(s.dom d).from0 || (reloaded d).all s.compGood

/-- D7 reads the temperature sets again, which it lost when it was off (R103, R364). -/
def State.luthierUp (s : State) : State :=
  forAll (List.range 32) (fun ch t => forAll (List.range 8) (fun p t =>
    { t with cal := { t.cal with sets := t.cal.sets.set (8 * ch + p) (t.readSet ch p) } }) t) s

/-- The trims of a group that wakes from off come from the temperature sets (R354, R356, R364). -/
def State.setTrims (s : State) (g : Nat) : State :=
  forAll (ownChannels g) (fun ch t => t.setCalCh ch (fun c => { c with
    trims := t.interpAll ch (t.chan ch).temp c.trims, pending := [] })) s

/-- A channel group's domain is on: its channels leave self-refresh, behind the pair's waking where the pair slept together
(R396). A fenced group is in service again, its channels' core dies started anew and retrained in full (R375, R402, R470). Behind a
cold start a paired instance takes the trims back from its partner's mirror: they are as they were (R376). -/
def State.groupUp (s : State) (g : Nat) (kept : Bool) : State :=
  let back := s.marked .group g
  let t := s.setCg g (fun x => { x with st := .selfRefresh, delay := none })
  let t := if (s.dom (8 + g)).from0 && !kept then t.setTrims g else t
  let t := when back (fun t => forAll (ownChannels g) (fun ch t => if t.resetDriven ch then t else t.dieAgain ch)
    (t.serviceBack .group g)) t
  let t := if t.exitWaits then t else t.cgExit g
  when back (fun t => forAll (ownChannels g) (fun ch t => t.retrain ch true []) t) t

/-- Start-up has reached step 10, from which Camec transmits on its lanes (R108). -/
def State.linkMay (s : State) : Bool := s.linkStages || s.boot.stage == .ready

/-- What a domain does once it is on; `fresh` tells that it woke from off or by a cold start, `cold` that it was a cold start. Before
step 10 the lanes stay as start-up holds them (R108). -/
def State.domUp (s : State) (d : Nat) (fresh cold selfOk : Bool) : State :=
  if d = 1 then
    let t := when (fresh && s.linkMay && s.boot.stage != .link) State.linkFresh s
    let t := when t.linkMay State.linkStart t
    when (fresh && !selfOk) (fun t => t.fatalFault 0x1c noCause rsnInstance) t
  else if d = 3 ∨ d = 4 then when (fresh && !selfOk) (fun t => t.fenceUnit .lpHalf (d - 3) rsnLpHalf none) s
  else if d = 5 then s.flushHold
  else if d = 6 then
    if fresh && s.pair.idSentAt.isSome && (s.pair.role == .paired || s.pair.role == .alone || s.pair.role == .mismatch) then
      let t := s.portReset.setRole .none
      { t with pair := { t.pair with idSentAt := some t.now, ident := [], idSeen := false } }
    else s.pairAwake
  else if d = 7 then when fresh State.luthierUp s
  else if 8 ≤ d then s.groupUp (d - 8) (cold && s.pair.role == .paired)
  else s

/-- A domain is on: the agents that it masked are eligible, and the arbiters take them into account at once (R238, R240, R242). -/
def State.unmask (s : State) : State :=
  forAll (List.range 64) (fun ch t => if tieOrder.any (fun a => ((t.chan ch).agent a).asks) then t.serveWaiting ch else t) s

/-- A domain's readiness arrives before its wake timer (R375): it is on, unless a failed parity makes the wake a cold start that
still waits for a domain woken first, or the reload of a wake from off fails, which leaves the wake to its timer. Every wake loads
the domain's words from the configuration store (R365, R377). -/
def State.wakeReady (s : State) (d : Nat) (retOk storeOk selfOk : Bool) : State :=
  if s.wakeRuns d then
    let t : State := { s with pins := { s.pins with pswRdy := s.pins.pswRdy.set d true } }
    let t := when (!retOk && !(t.dom d).from0) (fun t => t.coldStart d) t
    if t.wakeBlocked d || !t.reloadOk d then t
    else
      let fresh := (t.dom d).from0
      let cold := (t.dom d).cold
      let t := when (!storeOk) (fun t => t.storeFailed d) t
      let t := (t.setDom d (fun x => .resting .on (decide (8 ≤ d) && x.from0))).count 0x1108
      (t.domUp d fresh cold selfOk).unmask.unblock.freshTriggers
  else s

/-! ### A wake that fails (R375) -/

/-- A posted write to a domain that fails to wake is discarded (R87). -/
def State.discardWrite (s : State) (e : Posted) : State :=
  ({ s with regs := { s.regs with
    posted := s.regs.posted.erase e, failed := s.regs.failed.set (busyKey e.off) true } } : State).recordAccess e.access.path e.off
    RF.SYS_WAKE_FAIL

/-- Every access stalled on a domain completes: reads and requests with ERR WAKE_FAIL, those that the ingress holds for D2 among
them, and posted writes discarded (R87, R88, R375). What the luthier holds for D7 is in KeyMsgOps and SpdmOps. -/
def State.failWaiting (s : State) (d : Nat) : State :=
  let rs := s.regs.stalled.filter (fun r => r.wakes == some d)
  let t : State := { s with regs := { s.regs with
    stalled := s.regs.stalled.filter (fun r => r.wakes != some d)
    nacked := s.regs.nacked.map (fun x => (x.1, x.2.1, x.2.2 || x.1 == d)) } }
  let t := forAll rs (fun r t => t.readFails r.access r.off r.tag d) t
  let waiting := t.trx.reqs.filter (fun r => match r.stage with
    | .queued _ => (t.domainsOf r).contains d
    | .held => d == 2
    | _ => false)
  let t := forAll waiting (fun r t => t.fail r .wakeFail d) t
  forAll (t.regs.posted.filter (fun e => e.wakes == some d)) (fun e t =>
    let u := t.discardWrite e
    when e.late (fun u => u.ackWrite e.access e.off e.val e.tag false) u) t

/-- The wake timer of an attempt runs: its switch is driven, also while a cold start waits for a domain woken first (R376). -/
def State.wakeTimed (s : State) (d : Nat) : Bool :=
  (s.dom d).wakeFrom.isSome && (s.dom d).retryAt.isNone && s.pins.pswEn.get d

/-- The wake timer of an attempt has passed, as it stood when the wake started (R380): PSW_EN falls, what is stalled on the domain
completes, and the next step of the series falls due after 8 drone ticks, or at once behind the last retry (R375). -/
def State.wakeExpired (s : State) (d : Nat) : State :=
  match s.wakeTimed d, (s.dom d).wakeFrom with
  | true, some t0 =>
    if t0 + (s.dom d).timer ≤ s.now then
      let n := (s.dom d).tries + 1
      let t : State := { s with pins := { s.pins with pswEn := s.pins.pswEn.set d false, pswRdy := s.pins.pswRdy.set d false } }
      let t := t.setDom d (fun x => { x with
        tries := n, retryAt := some (s.now + (if (s.dom d).limit < n then 0 else 8)) })
      (t.noteWakeFail d n).failWaiting d
    else s
  | _, _ => s

/-- A domain is out of service, for the code of an event and a reason of R405, with the consequence of R375's table; supporting domains
that nothing needs any more are asked for retention (R363). -/
def State.domLost (s : State) (d code reason : Nat) : State :=
  let t := s.setDom d (fun x => .resting .failed x.from0)
  let t : State := { t with pins := { t.pins with pswEn := t.pins.pswEn.set d false } }
  let t := t.failWaiting d
  let t := if d = 1 ∨ d = 2 ∨ d = 5 then t.fatalFault 1 code rsnInstance
    else if d = 3 ∨ d = 4 then t.fenceUnit .lpHalf (d - 3) rsnLpHalf (some (1, code))
    else if d = 6 then (t.portReset.setRole .mismatch).lastFault 3 1 code
    else if d = 7 then
      let t := ({ t with cal := { t.cal with groups := t.cal.groups.mapAll (fun x => { x with
        run := none, st := if x.st = .fresh then .stale else x.st }) } } : State).syncAge
      t.lastFault 3 1 code
    else
      let t := (t.setCg (d - 8) (fun x => { x with st := .deep, delay := none, deepTo := .off })).fenceUnit .group (d - 8) reason
        (some (1, code))
      t.loseDom d false
  (forAll (List.range 64) (fun ch t => t.maskEnd ch) t).unblock.autoSupport

/-- The next step after a failed attempt: another attempt, or, behind the last retry, the domain's fence (R375). -/
def State.wakeAgain (s : State) (d : Nat) : State :=
  match (s.dom d).retryAt with
  | none => s
  | some t0 =>
    if s.now < t0 then s
    else if (s.dom d).tries ≤ (s.dom d).limit then s.beginWake d
    else (s.stick RF.PWR_DOMAIN_FENCED).domLost d 0x0501 rsnWake

/-- PSW_RDY of a domain falls while its PSW_EN is high: a fault of severity 3, or 4 for D1, D2 and D5 (R45). -/
def State.pswDrops (s : State) (d : Nat) : State :=
  if d = 0 ∨ !s.pins.pswEn.get d then s
  else
    let sev := if d = 1 ∨ d = 2 ∨ d = 5 then 4 else 3
    let t : State := { s with pins := { s.pins with pswRdy := s.pins.pswRdy.set d false } }
    (t.event 1 0x0506 sev [(0, 1, d)]).domLost d 0x0506 rsnPower

/-! ### Requests of software (R367, R371, R372, R375) -/

/-- PWR_REQ with TARGET ON. -/
def State.powerOn (s : State) (d : Nat) : State := if d = 0 then s else s.wake d

/-- PWR_REQ with TARGET RETENTION or OFF: a channel group enters DEEP in that domain state; a request for D1 that came by the link
waits until the host has acknowledged its WACK (R371). -/
def State.powerDown (s : State) (p : Path) (d : Nat) (target : DomState) : State :=
  if 8 ≤ d then (s.setCg (d - 8) (fun x => { x with deepTo := target })).requestCg (d - 8) .deep
  else if d = 1 ∧ p = .link then s.setDom 1 (fun x => { x with waitAck := some target })
  else s.requestDom d target

/-- The host has acknowledged the flit with the WACK of a PWR_REQ for D1 (R371). -/
def State.linkAcked (s : State) : State :=
  match (s.dom 1).waitAck with
  | none => s
  | some target =>
    let left := s.link.upQ.any (fun m => m.done == .sleepOk) ||
      (List.range 12).any (fun c => ((s.course c).buffer ++ (s.course c).held).any (fun f => f.msgs.any (fun m => m.done == .sleepOk)))
    if left then s else (s.setDom 1 (fun x => { x with waitAck := none })).requestDom 1 target

/-- PWR_UNFENCE (R375): FAILED is cleared and a new series of attempts starts, for D3 and D4, which never enter off, as one from
retention; a group fenced while its domain is on returns at once. -/
def State.powerUnfence (s : State) (d : Nat) : State :=
  if (s.dom d).st = .failed then
    (s.setDom d (fun _ => if d = 3 ∨ d = 4 then .resting .retention false else .resting .off true)).wake d
  else if 8 ≤ d ∧ s.domOn d ∧ s.marked .group (d - 8) then
    let g := d - 8
    let t := s.serviceBack .group g
    forAll (ownChannels g) (fun ch t => if t.resetDriven ch then t else (t.dieAgain ch).retrain ch true []) t
  else s

/-- LN_RXV has risen on lane 0 of a watched course while D1 is not on (R374). -/
def State.linkWakes (s : State) (c : Nat) : State :=
  if (s.rf RF.PWR_LINK_WAKE).testBit c ∧ !s.domOn 1 then s.wake 1 else s

/-- The SMP's static address (R35). -/
def State.smpStatic (s : State) : BitVec 7 := if s.pins.instId then 0x5b#7 else 0x5a#7

/-- The service port's static address (R35). -/
def State.svcStatic (s : State) : BitVec 7 := if s.pins.instId then 0x5d#7 else 0x5c#7

/-- BCR of a sideband port: the SMP's, or the service port's (R35). -/
def portBcr (svc : Bool) : BitVec 8 := if svc then 0x00#8 else 0x06#8

/-- DCR of either port (R35). -/
def portDcr : BitVec 8 := 0x00#8

/-- The Provisional ID of a sideband port (R35). -/
def State.portId (s : State) (svc : Bool) : BitVec 48 :=
  BitVec.ofNat 48 (Config.mipiManufacturer.toNat * 2 ^ 33 + 0x0c32 * 2 ^ 16 + 2 * b2n svc + b2n s.pins.instId)

/-- What a port gives in ENTDAA: its Provisional ID, BCR and DCR, most significant first. -/
def State.daaAnswer (s : State) (svc : Bool) : State :=
  { s with pins := { s.pins with daa := some (s.portId svc ++ portBcr svc ++ portDcr) } }

/-- The service port acknowledges its address, and with an assignment takes it (R35). -/
def State.svcTakes (s : State) (new : Option (BitVec 7)) : State :=
  { s with pins := { s.pins with svcAck := true, svcAddr := new.orElse (fun _ => s.pins.svcAddr) } }

/-- An address match on the SMP wakes the domains that SMP_WAKE names (R37, R374). -/
def State.smpMatch (s : State) : State :=
  (forAll ((List.range 7).map (· + 1)) (fun d t =>
    if (t.rf RF.PWR_SMP_WAKE).testBit (d - 1) && !t.domOn d then t.wake d else t) s).smpAnswers true

/-- The SMP takes a dynamic address (R35). -/
def State.takeAddress (s : State) (new : BitVec 7) : State :=
  ({ s with pins := { s.pins with smpAddr := some new } } : State).smpAnswers true

/-- A transfer on a sideband bus (R35, R37; the service port's stand beside the SMP's in one command, log 132): an access matches
on the dynamic address or, in legacy I2C, on the static one; ENTDAA and SETDASA give an address to a target without one, SETNEWDA
replaces it. Another target's transfer changes nothing. The service port has no legacy I2C, and wakes no domain. -/
def State.smpTransfer (s : State) (x : SmpXfer) : State :=
  match x with
  | .sdr a => if s.pins.smpAddr = some a then s.smpMatch else s
  | .hdrDdr a => if s.pins.smpAddr = some a then s.smpMatch else s
  | .i2c a => if a = s.smpStatic then s.smpMatch else s
  | .entdaa new => if s.pins.smpAddr = none then (s.daaAnswer false).takeAddress new else s
  | .setdasa static new => if static = s.smpStatic ∧ s.pins.smpAddr = none then s.smpMatch.takeAddress new else s
  | .setnewda old new => if s.pins.smpAddr = some old then s.smpMatch.takeAddress new else s
  | .svcSdr a => if s.pins.svcAddr = some a then s.svcTakes none else s
  | .svcDdr a => if s.pins.svcAddr = some a then s.svcTakes none else s
  | .svcEntdaa new => if s.pins.svcAddr = none then (s.daaAnswer true).svcTakes (some new) else s
  | .svcSetdasa static new => if static = s.svcStatic ∧ s.pins.svcAddr = none then s.svcTakes (some new) else s
  | .svcSetnewda old new => if s.pins.svcAddr = some old then s.svcTakes (some new) else s

/-! ### Entries (R366, R367) -/

/-- A group's idle count has reached a threshold: an entry is requested, POWER_DOWN again only once IDLE_PD ticks have passed
since the group last left it, and the pull-in of its banks has ended (R366). -/
def State.idleReached (s : State) (g : Nat) (k : IdleStep) : State :=
  let lim := s.idleLimit k
  let x := s.cg g
  if 0 < lim ∧ lim ≤ x.idle ∧ x.refused ≠ some (idleState k) ∧ x.delay = none ∧ s.domOn (8 + g) ∧
      (k ≠ .pd ∨ (x.pdAt + lim ≤ s.now ∧ !(s.runsOf g).any s.pullsIn)) then
    match k with
    | .deep => (s.setCg g (fun x => { x with deepTo := s.deepState })).requestCg g .deep
    | k => s.requestCg g (idleState k)
  else s

/-- A delaying domain's entry conditions hold: it answers ACCEPT (R367). -/
def State.delayMet (s : State) (d : Nat) : State :=
  if 8 ≤ d then
    match (s.cg (d - 8)).delay with
    | some (target, _) => if s.unmetCg (d - 8) target = [] then s.acceptCg (d - 8) target else s
    | none => s
  else
    match (s.dom d).delay with
    | some (target, _) => if s.unmetDom d target = [] then ((s.leaveOn d target).count 0x1100).autoSupport else s
    | none => s

/-- DELAY_LIMIT has passed: the domain refuses with the first condition still unmet, or answers ACCEPT (R367). -/
def State.delayOver (s : State) (d : Nat) : State :=
  if 8 ≤ d then
    match (s.cg (d - 8)).delay with
    | some (target, t0) =>
      if s.now < t0 then s
      else match s.unmetCg (d - 8) target with
        | c :: _ => s.endDelay (d - 8) c
        | [] => s.acceptCg (d - 8) target
    | none => s
  else
    match (s.dom d).delay with
    | some (target, t0) =>
      if s.now < t0 then s
      else match s.unmetDom d target with
        | c :: _ => (s.setDom d (fun x => { x with delay := none, refused := true })).refuseEntry d c
        | [] => ((s.leaveOn d target).count 0x1100).autoSupport
    | none => s

end Sys2Proof.Machine
end

