-- ==== Sys2Proof/Machine/KeyMsgOps.lean ====
section
/-! DEFINITION. The KEY_* messages: their checks, their turns at a slot, the erase and the key section (14_security R318 to R325,
R454). -/

namespace Sys2Proof.Machine

/-! ### Fields and checks (R318) -/

/-- KEYID. -/
def kId (h : Cell) : Nat := fieldNat h 42 32
/-- CLASS. -/
def kClass (h : Cell) : Nat := fieldNat h 44 43
/-- META of KEY_CREATE, ON of KEY_PERSIST. -/
def kFlag (h : Cell) : Bool := bitAt h 45
/-- PARTNER. -/
def kPartner (h : Cell) : Bool := bitAt h 48

/-- The reserved bits of a KEY_* payload are zero: 4 KEY_CREATE, 5 KEY_ERASE, 6 KEY_PERSIST. -/
def kReservedOk (h : Cell) : Bool :=
  fieldNat h 127 49 == 0 && (mSub h == 5 || !kPartner h) && (mSub h == 4 || kClass h == 0) && (mSub h != 5 || !kFlag h)

/-- The cause for which a KEY_* message fails before it reaches its slot. -/
def State.keyBad (s : State) (h : Cell) (clear : Bool) : Option ErrCode :=
  let level := s.linkLevel clear (bitAt h 46) (bitAt h 47)
  let class0 := if mSub h = 4 then kClass h else (s.slot (kPartner h) (kId h)).cls
  if !kReservedOk h || (mSub h == 4 && kClass h == 3) || (kPartner h && !s.pair.doubleStop) then some .format
  else if level < max 1 class0 ∨ (kId h = 0 ∧ level < 2) ∨ (mSub h = 4 ∧ kFlag h ∧ !s.rfb RF.SEC_EXPERT_META_OK) ∨
      (mSub h = 6 ∧ !s.rfb RF.SEC_PERSIST_EN) then some .privilege
  else none

/-! ### The key section (R324, R325) -/

/-- Entry of a slot in the key section: the slot wrapped under the device root key, with a drawn IV. -/
def State.keyEntry (s : State) (k : Nat) : List Byte × State :=
  let d := s.random 12
  (wrapSlot (rootKey s.inst) forMram s.inst k (s.slot false k) d.1, d.2)

/-- The entries of the newer page of a slot. -/
def State.heldEntries (s : State) (slot : Nat) : List (List Byte) :=
  let p := (s.newerValid slot).getD 1
  if s.keyOk slot p then (keyEntries (s.keySection slot p)).map (fun e => e.2) else []

/-- The words that rewrite the older page of a slot as its newer one with other entries. -/
def State.pageWith (s : State) (slot : Nat) (l : List (List Byte)) : List (Nat × BitVec 64) :=
  let p := (s.newerValid slot).getD 1
  let page := copiedPage (s.mram (pageAddr slot p) 49152 ++ keySectionOf l) ((s.pageSeq slot p + 1) % 2 ^ 32)
  wordsOf (pageAddr slot (1 - p) + 49152) (page.drop 49152) ++ wordsOf (pageAddr slot (1 - p)) (page.take 49152)

/-- Entries without those of a slot. -/
def entriesBut (k : Nat) (l : List (List Byte)) : List (List Byte) := l.filter (fun e => numAt e 0 2 % 2048 != k)

/-! ### Turns (R319, R320, R325) -/

/-- The message that has a management tag. -/
def State.keyOp (s : State) (mtag : Nat) : Option KeyOp := s.trx.keyOps.find? (fun o => o.mtag == mtag)

/-- Change a message. -/
def State.setKeyOp (s : State) (mtag : Nat) (f : KeyOp → KeyOp) : State :=
  { s with trx := { s.trx with keyOps := s.trx.keyOps.map (fun o => if o.mtag = mtag then f o else o) } }

/-- A message ends, with its WACK or an ERR KEY. -/
def State.endKeyOp (s : State) (mtag : Nat) (ok : Bool) : State :=
  let t : State := { s with trx := { s.trx with keyOps := s.trx.keyOps.filter (fun o => o.mtag != mtag) } }
  match ok with
  | true => t.wackMgt mtag
  | false => t.failMgt .key mtag 0

/-- The erase's last use is released: both copies are zeroised, a persisted entry is to be withdrawn, and the partner's copy to be
erased; the slot stays as it is until both are done (R319, scenario 17). -/
def State.eraseSlot (s : State) (o : KeyOp) : State :=
  let p := kPartner o.hdr
  let k := kId o.hdr
  (s.setKeyOp o.mtag (fun o => { o with phase := 2, page := (s.slot p k).persisted && !p })).setSlot p k (fun x => { x with keys := .zero })

/-- The erase completes: the slot is EMPTY, or key 0 is drawn afresh and ACTIVE (R319, R320). -/
def State.slotErased (s : State) (o : KeyOp) : State :=
  let p := kPartner o.hdr
  let k := kId o.hdr
  let t := if k = 0 ∧ !p then
      let d := s.reseed.drawKeys
      (d.2.setSlot false 0 (fun x => { x with
        st := .active, keys := d.1, gen := (x.gen + 1) % 65536, persisted := false, eastOk := true, westOk := true })).count 0x5118
    else s.zeroSlot p k
  let t := if (s.slot p k).st = .fenced then (t.dropMark .key (keyIndex p k)).bumpGen else t
  (t.count 0x5120).endKeyOp o.mtag true

/-- A page write for a message begins. While the running slot is PENDING an erase also takes the entry out of the previous slot's
newer page (R454). -/
def State.startPage (s : State) (o : KeyOp) : State :=
  let k := kId o.hdr
  let slot := s.boot.running
  if mSub o.hdr = 6 ∧ kFlag o.hdr then
    match s.keyEntry k with
    | (e, t) => (t.setKeyOp o.mtag (fun o => { o with phase := 1 })).nvmJob (.settings (some o.mtag)) true
        (t.pageWith slot (entriesBut k (t.heldEntries slot) ++ [e]))
  else
    let prev := s.boot.brec.prevSlot
    let also := mSub o.hdr == 5 && s.boot.brec.pending && decide (prev < 2) && decide (prev ≠ slot) &&
      decide ((entriesBut k (s.heldEntries prev)).length < (s.heldEntries prev).length)
    let words := s.pageWith slot (entriesBut k (s.heldEntries slot)) ++
      (if also then s.pageWith prev (entriesBut k (s.heldEntries prev)) else [])
    let t := s.setKeyOp o.mtag (fun o => if mSub o.hdr = 6 then { o with phase := 1 } else o)
    (when also (fun t => t.stick RF.UPD_PREV_KEYS_EDITED) t).nvmJob (.settings (some o.mtag)) true words

/-- A message has its turn at its slot. -/
def State.keyTurn (s : State) (o : KeyOp) : State :=
  let p := kPartner o.hdr
  let k := kId o.hdr
  let x := s.slot p k
  if mSub o.hdr = 4 then
    if k = 0 ∨ !s.sec.drbgOk ∨ x.st ≠ .empty then s.endKeyOp o.mtag false
    else (s.createSlot k (kClass o.hdr) (kFlag o.hdr)).endKeyOp o.mtag true
  else if mSub o.hdr = 5 then
    match x.st with
    | .empty => s.endKeyOp o.mtag true
    | .active => (s.setSlot p k (fun x => { x with st := .erasing })).setKeyOp o.mtag (fun o => { o with phase := 1 })
    | .erasing => s.endKeyOp o.mtag false
    | .fenced => s.eraseSlot o
  else
    let held := s.heldEntries s.boot.running
    if x.st ≠ .active ∨ !s.pins.nvmRdy ∨ (kFlag o.hdr ∧ 127 ≤ (entriesBut k held).length) then s.endKeyOp o.mtag false
    else if !kFlag o.hdr && (entriesBut k held).length == held.length then
      (s.setSlot false k (fun x => { x with persisted := false })).endKeyOp o.mtag true
    else s.setKeyOp o.mtag (fun o => { o with page := true })

/-- A message waits for no earlier one of its slot. -/
def State.keyFirst (s : State) (o : KeyOp) : Bool :=
  (s.trx.keyOps.find? (fun x => kId x.hdr == kId o.hdr && kPartner x.hdr == kPartner o.hdr)).any (fun x => x.mtag == o.mtag)

/-- The partner's copy of an erased slot is still to be acknowledged (R319). -/
def State.eraseSent (s : State) (k : Nat) : Bool :=
  s.pair.role == .paired && s.sec.pairKey.isSome &&
    (s.pair.sent.any (fun m => m.keyOp == some k) || s.pair.waiting.any (fun w => w.2 == some k))

/-- Erases whose page write and whose partner's acknowledgement are in are complete: their WACK goes out (R319, R341). -/
def State.keyFinish (s : State) : State :=
  forAll s.trx.keyOps (fun o t =>
    if o.phase = 2 ∧ !o.page ∧ (kPartner o.hdr ∨ !t.eraseSent (kId o.hdr)) then t.slotErased o else t) s

/-- The KEY_* messages that wait for D7 end with ERR WAKE_FAIL (R375). -/
def State.keysFail (s : State) : State :=
  forAll (s.trx.keyOps.filter (fun o => o.phase == 0)) (fun o t =>
    ({ t with trx := { t.trx with keyOps := t.trx.keyOps.filter (fun x => x.mtag != o.mtag) } } : State).failMgt .wakeFail o.mtag 7) s

/-- The luthier serves the KEY_* messages that wait: each slot's one at a time, and one page write at a time (R319, R325); a
KEY_PERSIST that still waits for its page when NVM_RDY is low ends with ERR KEY (R34). Without D7 they fail as the accesses of a
failed domain do. -/
def State.keyServe (s : State) : State :=
  if s.trx.keyOps.isEmpty then s
  else if (s.dom 7).st = .failed then s.keysFail
  else if s.domOn 7 then
    let t := forAll s.trx.keyOps (fun o t => match t.keyOp o.mtag with
      | some x => if x.phase = 0 ∧ !x.page ∧ t.keyFirst x then t.keyTurn x else t
      | none => t) s
    let t : State := if t.pins.nvmRdy then t else
      forAll (t.trx.keyOps.filter (fun o => o.page && o.phase == 0 && mSub o.hdr == 6)) (fun o t => t.endKeyOp o.mtag false) t
    let t : State := match t.trx.keyOps.find? (fun o => o.page && (o.phase != 1 || mSub o.hdr == 5)) with
      | some o => if t.pageWriting ∨ !t.pins.nvmRdy then t else t.startPage o
      | none => t
    if t.pair.role = .paired ∧ t.sec.pairKey.isSome then t else t.keyFinish
  else s

/-- An accepted message joins the queue; where the pair mirrors no keys, an erase is complete with its slot. -/
def State.keyAccept (s : State) (mtag : Nat) (h : Cell) : State :=
  (({ s with trx := { s.trx with keyOps := s.trx.keyOps ++ [⟨mtag, h, 0, false⟩] } } : State).wake 7).keyServe

/-- KEY_ERASE_COMPLETE: the last use of an erasing slot has been released. -/
def State.keyErased (s : State) (k : Nat) (partner : Bool) : State :=
  match s.trx.keyOps.find? (fun o => mSub o.hdr == 5 && o.phase == 1 && kId o.hdr == k && kPartner o.hdr == partner) with
  | some o => if (s.slot partner k).uses = 0 ∧ s.domOn 7 then (s.eraseSlot o).keyServe else s
  | none => s

/-- The page write of a message has ended. A failed one leaves the key section as it was, and the message ends with ERR KEY (R34). -/
def State.keyPageDone (s : State) (mtag : Nat) (ok : Bool) : State :=
  match s.keyOp mtag with
  | none => s
  | some o =>
    let t := match mSub o.hdr == 6, ok with
      | true, true => (s.setSlot false (kId o.hdr) (fun x => { x with persisted := kFlag o.hdr })).endKeyOp mtag true
      | _, false => s.endKeyOp mtag false
      | false, true => s.setKeyOp mtag (fun o => { o with page := false })
    let t := if ok then t.withEntries (t.heldEntries t.boot.running).length else t
    t.keyFinish.keyServe

end Sys2Proof.Machine
end

