-- ==== Sys2Proof/Machine/WriteOps.lean ====
section
/-! DEFINITION. Writes of the register window: what they are answered, when they take effect, and what the registers do that act
on a write (04_control_plane R71 to R77, R85 to R87; the field tables of the chapters). -/

namespace Sys2Proof.Machine

/-! ### What a write does (R73, R77) -/

/-- Every retention-suspect mark of a channel is cleared (R293). -/
def State.clearSuspects (s : State) (ch : Nat) : State :=
  s.setChan ch (fun c => { c with banks := c.banks.mapAll (fun b => { b with suspect := false }) })

/-- A write of UNFENCE by FLT_CTL through a path that does not carry the outcome of the half's self-test: it is a free value
(log 3). -/
def State.ctlUnfenceFree (s : State) (v : Word) : State :=
  match s.ctlUnit v with
  | some (.lpHalf, _) => s.useFree.ctlUnfence v (bitAt s.freeVal 0)
  | _ => s.ctlUnfence v true

/-- FLT_CTL (R419): 1 FENCE, 2 UNFENCE. -/
def State.fltCtl (s : State) (v : Word) : State :=
  match fieldNat v 31 28 with
  | 1 => s.ctlFence v
  | 2 => s.ctlUnfenceFree v
  | _ => s

/-- FLT_PIN (R409). -/
def State.fltPin (s : State) (v : Word) : State :=
  match bitAt v 0 with
  | true => s.pinHold
  | false => s.pinRelease (fieldNat v 15 8)

/-- PWR_REQ (R380). -/
def State.pwrReq (s : State) (p : Path) (v : Word) : State :=
  let d := fieldNat v 4 0
  if d = 0 ∨ 23 < d then s
  else match fieldNat v 9 8 with
    | 0 => s.powerOn d
    | 1 => s.powerDown p d .retention
    | 2 => s.powerDown p d .off
    | _ => s

/-- RPR_CMD (R438). -/
def State.rprCmd (s : State) (v : Word) : State :=
  let ch := fieldNat v 27 23
  let bank := fieldNat v 22 17
  match fieldNat v 31 28 with
  | 1 => s.softRow ch bank
  | 2 => s.hardRow ch bank
  | 3 => s.colAdd ch bank
  | 4 => s.colRemove ch bank
  | _ => s

/-- RPR_BCTL (R438). -/
def State.rprBctl (s : State) (v : Word) : State :=
  match fieldNat v 31 28 with
  | 1 => s.bistStart (fieldNat v 27 24) (fieldNat v 23 22) (fieldNat v 21 17) (fieldNat v 16 11) (fieldNat v 10 8)
  | 2 => s.bistAbort
  | _ => s

/-- RPR_LCTL (R435, R438). -/
def State.rprLctl (s : State) (v : Word) : State :=
  match fieldNat v 31 30 with
  | 0 => s.loopEnd
  | m => if fieldNat v 27 24 < 12 then s.loopStart m (fieldNat v 27 24) (fieldNat v 16 0) else s.stick RF.RPR_LOOP_REFUSED

/-- CRS_CTL (R153). -/
def State.crsCtl (s : State) (c : Nat) (v : Word) : State :=
  let t := when (bitAt v 1) (fun t => t.fenceCourse c .command) s
  let t := when (bitAt v 2) (fun t => t.unfenceCourse c) t
  when (bitAt v 0) (fun t => t.retrainCourse c) t

/-- CAL_RUN: a run at once on each named group (R350). -/
def State.calRuns (s : State) (groups : Nat) : State := forAll (maskGroups groups) (fun g t => t.dueRun g) s

/-- What a register does on a write beside storing its fields. `v` holds the bits that the writer may write. -/
def State.writeActs (s : State) (path : Path) (level off : Nat) (v : Word) : State :=
  let p := pathNum path
  match off with
  | 0x10 => s.submit p level (fieldNat v 15 0)
  | 0x60 => when (bitAt v 0) State.snapStart s
  | 0x80 => when (bitAt v 0) State.sumCapture s
  | 0x1014 => s.pwrReq path v
  | 0x1020 => if 1 ≤ fieldNat v 4 0 ∧ fieldNat v 4 0 < 24 then s.powerUnfence (fieldNat v 4 0) else s
  | 0x2018 => s.fltPin v
  | 0x2020 => s.fltCtl v
  | 0x3010 => s.viewRecord p v.toNat
  | 0x3048 => s.viewLog (fieldNat v 13 0)
  | 0x4018 => s.orLate (.confirmReg v) (fun t => t.regConfirm v)
  | 0x500c => when (bitAt v 0) State.lockNow s
  | 0x7024 => s.calRuns (fieldNat v 15 0)
  | 0x7028 => s.retrain (fieldNat v 4 0) (bitAt v 31) []
  | 0x8010 => when (bitAt v 0) State.startHandback s
  | 0x9008 => s.rprCmd v
  | 0x9020 => s.rprBctl v
  | 0x9040 => s.rprLctl v
  | 0xb001c => s.clearSuspects (fieldNat v 4 0)
  | _ => if 0x10000 ≤ off ∧ off < 0x1c000 ∧ off % 0x1000 = 0x10 then s.crsCtl ((off - 0x10000) / 0x1000) v else s

/-- MODE of a page is written: PRESET and EXPERT_EN are buffered (R75, R77). -/
def State.writeMode (s : State) (off : Nat) (v : Word) : State :=
  { s with regs := { s.regs with shadow := s.regs.shadow.set off (v &&& 0x1ff#32), touched := s.regs.touched.set off 0x1ff#32 } }

/-- A write by a level is denied (R73). -/
def State.writeBad (s : State) (level off : Nat) (v : Word) : Bool :=
  match regKind off with
  | .unmapped => true
  | .mode p _ false => decide (level < s.modeWrite p)
  | .counter p _ _ false => decide (level < s.pageWrite p)
  | .reg p _ x false => s.writeDenied level (fieldsOfWord p x) v
  | .tabEntry _ => decide (level < 1)
  | .tabRow _ _ => decide (level < 1)
  | .snapshot _ => decide (level < 1)
  | _ => false

/-- A write takes effect in every field that its level may write; a denied one is recorded (R73, R77). Writes of aliases, of the
state summary and of read-only words change nothing (R464, R469). -/
def State.applyWrite (s : State) (path : Path) (level off : Nat) (v : Word) : State :=
  let t := when (s.writeBad level off v) (fun t => t.noteAccess path off (regKind off == .unmapped)) s
  match regKind off with
  | .mode p _ false => if hasPreset p ∧ s.modeWrite p ≤ level then t.writeMode off v else t
  | .reg p n x false =>
    let l := fieldsOfWord p x
    if l.all (fun f => decide (level < s.writeLevel f.1)) then t
    else (t.storeFields (pathNum path) level l n v).writeActs path level off (v &&& s.writable level l)
  | _ => t

/-! ### Posted writes (R74, R85 to R87) -/

/-- A write is posted whatever its domain: a field coded RWP, a register held in D0, one backed by MRAM. -/
def State.posts (s : State) (p off : Nat) : Bool := s.wordDomain p off == 0 || off == 0x3048

/-- The write saves the configuration (R116). -/
def Posted.saves (e : Posted) : Bool := e.off == 0x88 && bitAt e.val 16 && decide (1 ≤ e.level)

/-- A posted write leaves the list. -/
def State.unpost (s : State) (e : Posted) : State := { s with regs := { s.regs with posted := s.regs.posted.erase e } }

/-- A save captures what it saves between two commits, and begins to write once no other page write runs (R116); while NVM_RDY is
low it fails at once (R34). -/
def State.saveTurn (s : State) (e : Posted) : State :=
  let t := when (s.boot.saving.isNone && s.applying.isNone) State.captureSave s
  match t.boot.saving with
  | none => t
  | some x =>
    if t.pageWriting then t
    else if t.pins.nvmRdy then t.saveStart x
    else (({ t with boot := { t.boot with saving := none } } : State).unpost e).stick RF.SYS_SAVE_FAILED

/-- The first of a path's accesses that wait: a write, or a read that stalls. -/
def State.firstWaiting (s : State) (p : Nat) : Option (Posted ⊕ StalledRead) :=
  let w := s.regs.posted.find? (fun e => pathNum e.access.path == p)
  let r := s.regs.stalled.find? (fun r => pathNum r.access.path == p)
  match w, r with
  | none, none => none
  | some e, none => some (.inl e)
  | none, some x => some (.inr x)
  | some e, some x => if e.ord < x.ord then some (.inl e) else some (.inr x)

/-- A stalled read leaves the list. -/
def State.unstall (s : State) (r : StalledRead) : State := { s with regs := { s.regs with stalled := s.regs.stalled.erase r } }

/-- A late write waits for a domain that sleeps. -/
def State.lateWaits (s : State) (e : Posted) (d : Nat) : State :=
  ({ s with regs := { s.regs with posted := s.regs.posted.map (fun x => if x = e then { x with wakes := some d } else x) } } : State).wake d

/-- A read that waited behind its path waits for a domain that sleeps. -/
def State.readWaits (s : State) (r : StalledRead) (d : Nat) : State :=
  ({ s with regs := { s.regs with stalled := s.regs.stalled.map (fun x => if x = r then { x with wakes := some d } else x) } } : State).wake
    d

/-- The accesses of a path that wait take effect in the order of their arrival, up to the next posted write; a save at the front
begins (R74). -/
def State.drainPath (s : State) (p : Nat) : Nat → State
  | 0 => s
  | n + 1 =>
    match s.firstWaiting p with
    | none => s
    | some (.inl e) =>
      let d := s.wordDomain p e.off
      if !e.late then (if e.saves then s.saveTurn e else s)
      else if regKind e.off = .unmapped ∨ s.domOn d then
        ((((s.unpost e).applyWrite e.access.path e.level e.off e.val).ackWrite e.access e.off e.val e.tag
          (s.writeBad e.level e.off e.val))).drainPath p n
      else if (s.dom d).st = .failed then
        (((s.discardWrite e)).ackWrite e.access e.off e.val e.tag false).drainPath p n
      else s.lateWaits e d
    | some (.inr r) =>
      if s.closedTo r.access.path r.off ∨ s.readable p r.off then
        ((s.unstall r).readTurn r.access r.off r.tag r.ord).drainPath p n
      else s.readWaits r (s.wordDomain p r.off)

/-- Every path is drained. -/
def State.drainWrites (s : State) : State :=
  forAll [0, 1, 2] (fun p t => t.drainPath p (t.regs.posted.length + t.regs.stalled.length + 1)) s

/-- A posted write to a page takes effect, once it is the first of its path and its domain is on; a domain that has failed discards
it (R85, R87). The entry that a PWR_REQ of the link asked for begins at once where the host has acknowledged its WACK by then
(R371). -/
def State.postedEffect (s : State) (page : Nat) : State :=
  match s.regs.posted.find? (fun e => !e.late && busyKey e.off == busyKey (0x1000 * page)) with
  | none => s
  | some e =>
    let p := pathNum e.access.path
    let d := s.wordDomain p e.off
    if s.firstWaiting p ≠ some (.inl e) ∨ e.saves then s
    else if s.domOn d then
      let t := (s.unpost e).applyWrite e.access.path e.level e.off e.val
      (when (sleepsLink e.off e.val) State.linkAcked t).drainWrites
    else if (s.dom d).st = .failed then (s.discardWrite e).drainWrites
    else s.wake d

/-- The level by which a write is judged: while LOCK is 0 an SYS_COMMIT that names G9 needs only OPEN (R337). -/
def State.writesAt (s : State) (level off : Nat) (v : Word) : Nat :=
  if off = 0x10 ∧ bitAt v 9 ∧ !s.sec.lock then max 1 level else level

/-- A register write arrives (R71 to R74, R85, R86); in ROM recovery mode the SMP may write nothing (R98). It ends a DELAY of its
domain (R367), and waits behind the accesses of its path that wait. `own` tells that the table has a row of its own for it: that
row is its effect, so that it is posted only behind its path's accesses or for a domain that is not on. A write that BUSY drops is
one of a register, MODE or counter of the page; a write of an alias, of an unmapped offset or of the state summary changes nothing
and is answered as at any time, without WRITE_DROPPED (R86 speaks of a page's writes alone: DESIGN CHOICE, log 125). -/
def State.writeReg (s : State) (a : Access) (off : Nat) (v : Word) (tag : Option Nat) (own : Bool) : State :=
  let p := pathNum a.path
  let s := if s.closedTo a.path 0x1000 ∨ regKind off = .unmapped then s else s.accessDom (s.wordDomain p off)
  let level := s.writesAt (s.accessLevel a) off v
  let d := s.wordDomain p off
  let bad := s.writeBad level off v
  let plain := match regKind off with
    | .unmapped => true
    | .summary _ => true
    | .snapshot _ => true
    | .mode _ _ peek => peek
    | .reg _ _ _ peek => peek
    | .counter _ _ _ peek => peek
    | _ => false
  let entry := fun (w : Option Nat) => (⟨a, level, off, v, w, false, none, s.nextOrd⟩ : Posted)
  let post := fun (t : State) (w : Option Nat) => ({ t with regs := { t.regs with posted := t.regs.posted ++ [entry w] } } : State)
  if s.closedTo a.path 0x1000 then (s.noteAccess a.path off false).ackWrite a off v tag true
  else if plain then (s.applyWrite a.path level off v).ackWrite a off v tag bad
  else if s.busy (busyKey off) then
    ({ s with regs := { s.regs with dropped := s.regs.dropped.set (busyKey off) true } } : State).ackWrite a off v tag false
  else if !s.domOn d && (s.dom d).st == .failed then
    ((post s (some d)).discardWrite (entry (some d))).ackWrite a off v tag false
  else if !s.domOn d then (post (s.wake d) (some d)).ackWrite a off v tag bad
  else if (s.posts p off && !own) || off == 0x88 then ((post s none).ackWrite a off v tag bad).drainWrites
  else if s.pathWaits p then
    { s with regs := { s.regs with posted := s.regs.posted ++ [{ (entry none) with late := true, tag := tag }] } }
  else (s.applyWrite a.path level off v).ackWrite a off v tag bad

/-- The settings page of a save has been written, or the port has failed (R116). -/
def State.saveDone (s : State) (failed : Bool) : State :=
  match s.jobFor (fun w => w == .settings none) with
  | none => s
  | some _ =>
    let t := s.endJob (fun w => w == .settings none) (!failed)
    let t : State := { t with regs := { t.regs with posted := t.regs.posted.filter (fun e => !e.saves) } }
    let t := when failed (fun t => t.stick RF.SYS_SAVE_FAILED) t
    let t : State := { t with boot := { t.boot with saving := none, savedEpoch := match t.newerValid t.boot.running with
      | some p => numAt (t.mram (pageAddr t.boot.running p) 16) 12 4
      | none => 0 } }
    t.keyServe.drainWrites

/-- The wrapper's register access: CM_REG's 56 bits start one access, which reads BUSY until it completes (R432). -/
def State.cmReg (s : State) (data : BitVec 56) : State :=
  let off := 4 * fieldNat data 54 36
  let a : Access := ⟨.wrapper, 0, false, false⟩
  if s.rpr.cmBusy then s
  else
    let t : State := { s with rpr := { s.rpr with
      ir := 16, cmBusy := true, cmResult := BitVec.ofNat 56 (data.toNat / 2 ^ 36 * 2 ^ 36 + 2 * 2 ^ 32) } }
    if bitAt data 55 then t.writeReg a off (data.setWidth 32) none false else t.readReg a off none

end Sys2Proof.Machine
end

