-- ==== Sys2Proof/Machine/DeliverOps.lean ====
section
/-! DEFINITION. The delivery of downstream messages (R143, R154 to R162, R169, R185, R471, R473): credits, formats, tags, what
holds a request at the router, and the management messages. -/

namespace Sys2Proof.Machine

/-! ### Credits (R142, R143) -/

/-- A ledger, in R18's order, is found wrong: its bit in FLT_LEDGER and in LEDGER_FAIL (R407). -/
def State.ledgerFails (s : State) (l : Nat) : State :=
  ({ s with flt := { s.flt with ledgerFail := s.flt.ledgerFail ||| 2 ^ l } } : State).stickBits RF.FLT_MISMATCH 0 (2 ^ l)

/-- The first class in which the host holds fewer credits than a message has cells: 0 request, 1 write data, 2 management. -/
def State.lacking (s : State) (req wd mgt : Nat) : Option Nat :=
  if s.link.req.held < req then some 0 else if s.link.wd.held < wd then some 1 else if s.link.mgt.held < mgt then some 2 else none

/-- A cell arrives without a credit: its message is discarded, and the link's credit ledger is wrong (R143). -/
def State.overrun (s : State) (cls : Nat) : State :=
  (((s.stick RF.LNK_CR_OVERRUN).ledgerFails 0).event 0x1c 0x0302 4 [(0, 1, cls)]).fatalFault 0x1c 0x0302 rsnInstance

/-- Credits are used by cells that arrive. -/
def Credit.use (c : Credit) (n : Nat) : Credit := { c with held := c.held - n, consumed := c.consumed + n }

/-- The cells of a message arrive against their credits. -/
def State.useCells (s : State) (req wd mgt : Nat) : State :=
  { s with link := { s.link with req := s.link.req.use req, wd := s.link.wd.use wd, mgt := s.link.mgt.use mgt } }

/-- The course delivers: it is up, and the link's domain is on. -/
def State.delivers (s : State) (c : Nat) : Bool := s.domOn 1 && (s.course c).up

/-! ### Answers of the checks of a message (R157, R158, R166, R471) -/

/-- A FORMAT notice for a message that names no tag; the TAG that the notice carries is open (log 3). -/
def State.noTagNotice (s : State) (detail : Nat) : State := s.useFree.notice .format (s.freeVal.toNat % 4096) detail false

/-- An ERR FORMAT completes a free tag: the tag is outstanding until the ERR is placed. -/
def State.formatErr (s : State) (w : Bool) (tag lines detail : Nat) : State :=
  ((s.acct w TagAcct.take).noteErr .format).answer w tag [errCell ErrCode.format.num tag lines detail false false] none

/-- A message with a bad format: ERR FORMAT where its tag is free, a FORMAT notice otherwise. -/
def State.badFormat (s : State) (w : Bool) (tag lines detail : Nat) : State :=
  if w && tag.testBit 11 then s.noTagNotice detail
  else if s.tagBusy w tag then s.notice .format tag detail false
  else s.formatErr w tag lines detail

/-- The same for a management tag. -/
def State.badMgt (s : State) (mtag detail : Nat) : State :=
  if s.mtagBusy mtag then s.notice .format mtag detail true
  else ({ s with trx := { s.trx with mgtOut := s.trx.mgtOut ++ [mtag] } } : State).failMgt .format mtag detail

/-- LINES of an ERR FORMAT: every line of a memory request. -/
def allLines (h : Cell) : Nat := if isMemory (hOp h) then lineMask (List.range (linesOf h)) else 0

/-! ### What holds a request at the router (R160, R185, R197, R204) -/

/-- A delivered request stays at the router: D2 is not on; a FENCE of its requester is not answered yet; an earlier request of its
requester is held; a RESYNC drains; its requester's earlier requests are queued in another context; or it is a memory request
delivered since a map commit with HOLD_ON_WAIT began to wait. What is held only for the map holds up no other access. -/
def State.heldBack (s : State) (r : Req) : Bool :=
  let q := hRqid r.hdr
  let keeps := fun (x : Req) => match s.applying with | some c => c.keeps x | none => false
  !s.domOn 2 || s.trx.fences.contains q ||
    s.trx.reqs.any (fun x => x.stage == .held && hRqid x.hdr == q && decide (x.uid < r.uid) &&
      (isMemory (hOp r.hdr) || !keeps x)) ||
    s.trx.resyncs.any (fun x => x.drain && decide (x.uid ≤ r.uid)) ||
    (isMemory (hOp r.hdr) &&
      (s.trx.reqs.any (fun x => hRqid x.hdr == q && (match x.stage with | .queued k => k != s.ctxOf q | _ => false)) || keeps r))

/-- A request that nothing holds goes on: a memory request joins its context's queue, to be judged at the router's admission mutex
(R473; log 61), a FENCE waits for its requester's earlier requests, a CFGRD or CFGWR accesses its register (R110, R160, R161). -/
def State.proceed (s : State) (r : Req) : State :=
  let h := r.hdr
  let a : Access := ⟨.link, r.course, hPriv h, hSecure h⟩
  let waits := s.setReq r.uid (fun x => { x with stage := .waiting })
  if hOp h = 0x0c then
    if s.ready then { waits with trx := { waits.trx with fences := waits.trx.fences ++ [hRqid h] } } else s.fail r .notReady 0
  else if hOp h = 0x10 then waits.readReg a (4 * hOffset h) (some (hTag h))
  else if hOp h = 0x11 then waits.writeReg a (4 * hOffset h) (BitVec.ofNat 32 (hData h)) (some (hTag h)) false
  else s.enqueue r

/-- The held requests that nothing holds any more go on, in delivery order. -/
def State.releaseHeld (s : State) : State :=
  forAll (s.trx.reqs.filter (fun r => r.stage == .held)) (fun r t => match t.req r.uid with
    | some q => if q.stage == .held && !t.heldBack q then t.proceed q else t
    | none => t) s

/-! ### Requests (R155 to R161, R169) -/

/-- The request that a message makes as it is delivered: every line of a memory request is still to be answered. -/
def State.newReq (s : State) (c k : Nat) (h : Cell) (data : List Cell) (mask : BitVec 64) : Req :=
  { uid := s.trx.nextUid, hdr := h, data := data, mask := mask, clear := !(s.course c).encrypted, pool := false, stage := .held,
    left := if isMemory (hOp h) then List.range (linesOf h) else [], slot := none, deadline := none, bornAge := s.regul.ageNow,
    use := false, gen := 0, chs := [], course := c, cell := k, down := [], downCh := 0 }

/-- A request that passes checks 1 and 2 takes its tag, a write a pool line where one is free, and goes on or is held (R160, R169,
R222). -/
def State.acceptReq (s : State) (c k : Nat) (h : Cell) (data : List Cell) (mask : BitVec 64) : State :=
  let r := s.newReq c k h data mask
  let t := s.acct (inWriteSpace (hOp h)) TagAcct.take
  let t : State := { t with trx := { t.trx with reqs := t.trx.reqs ++ [r], nextUid := r.uid + 1 } }
  let t := when (isWrite (hOp h)) State.takePool t
  (when (!t.domOn 2) (fun t => t.wake 2) t).releaseHeld

/-- A request is delivered on a course, its header at cell `k` of its flit. `mask` is the content of the MASK cell that a WRP
names, where it names one (R158). -/
def State.deliverReq (s : State) (c k : Nat) (h : Cell) (data : List Cell) (mask : Option (BitVec 64)) : State :=
  let op := hOp h
  let w := inWriteSpace op
  let n := wdCells op
  let detail := cellDetail k op
  if !s.delivers c then s
  else match s.lacking 1 n 0 with
  | some cls => s.overrun cls
  | none =>
    let t := (s.useCells 1 n 0).count 0x20100
    if !reservedOk h || (w && bitAt h 19) || (op == 0x03 && mask.isNone) then
      ((t.freeReqCells 1).freeWdCells n).badFormat w (hTag h) (allLines h) detail
    else if t.tagBusy w (hTag h) then ((t.freeReqCells 1).freeWdCells n).notice .tagBusy (hTag h) detail false
    else t.acceptReq c k h data (mask.getD 0#64)

/-- A request row's event: a message with this opcode whose cells fit its flit. -/
def State.deliverAs (s : State) (op c k : Nat) (h : Cell) (data : List Cell) (mask : Option (BitVec 64)) : State :=
  if hOp h = op ∧ k + 1 + wdCells op ≤ 30 then s.deliverReq c k h data mask else s

/-- A MASK cell's bytes 1 to 7 are zero. -/
def maskOk (m : Cell) : Bool := fieldNat m 63 8 == 0

/-- The mask of a MASK cell. -/
def maskOf (m : Cell) : BitVec 64 := m.extractLsb' 64 64

/-- A MASK cell is delivered: it completes nothing; a malformed one is answered with a FORMAT notice (R158). -/
def State.deliverMask (s : State) (c k : Nat) (m : Cell) : State :=
  if !s.delivers c || hOp m != 0x04 then s
  else match s.lacking 1 0 0 with
  | some cls => s.overrun cls
  | none =>
    let t := (s.useCells 1 0 0).freeReqCells 1
    if maskOk m then t else t.noTagNotice (cellDetail k 0x04)

/-- A message whose extent cannot be trusted (R471): an unknown opcode, NCELLS of 0 or 31, or cells past cell 29. -/
def extentBad (k : Nat) (h : Cell) : Bool :=
  match msgCells h with
  | none => true
  | some n => n == 0 || n == 31 || decide (30 < k + n)

/-- A message at which parsing stops: its header cell alone is consumed, and returned (R471). -/
def State.deliverBad (s : State) (c k : Nat) (h : Cell) : State :=
  let op := hOp h
  if !s.delivers c || op == 0 || !extentBad k h then s
  else if op = 0x20 then match s.lacking 0 0 1 with
    | some cls => s.overrun cls
    | none => (((s.useCells 0 0 1).freeMgtCells 1).count 0x20100).badMgt (mTag h) (cellDetail k op)
  else match s.lacking 1 0 0 with
    | some cls => s.overrun cls
    | none => (((s.useCells 1 0 0).freeReqCells 1).count 0x20100).badFormat (inWriteSpace op) (hTag h) (allLines h) (cellDetail k op)

/-! ### Management messages (R162, R185, R65, R318, R330) -/

/-- The payload of a management message leaves its reserved bits zero, its subtype is known, and it takes the cells that its
subtype takes. A subtype without a payload beyond the header takes one (DEDUCED from R162, log 40). -/
def mgmtOk (h : Cell) : Bool :=
  let n := mCells h
  let len := fieldNat h 47 32
  mReservedOk h &&
    match mSub h with
    | 1 => n == 1 && fieldNat h 127 33 == 0
    | 2 => n == 1 && fieldNat h 127 80 == 0
    | 3 => fieldNat h 63 49 == 0 && decide (1 ≤ len) && decide (len ≤ 472) && n == 1 + (len - 8 + 15) / 16
    | 4 => n == 1
    | 5 => n == 1
    | 6 => n == 1
    | _ => false

/-- The tags that are outstanding, each with its space. -/
def State.outTags (s : State) : List (Bool × Nat) :=
  s.trx.reqs.map (fun r => (inWriteSpace (hOp r.hdr), hTag r.hdr)) ++ s.trx.respond

/-- RESYNC: the summary is captured at once, or once the tags outstanding now are (R185). -/
def State.resync (s : State) (mtag : Nat) (drain : Bool) : State :=
  let x : Resync := ⟨mtag, drain, if drain then s.outTags else [], !drain, 8, s.trx.nextUid⟩
  let t : State := { s.count 0x20130 with trx := { s.trx with resyncs := s.trx.resyncs ++ [x] } }
  if drain then t else t.sendSummary mtag

/-- SUMMARY_CAPTURE: the tags that a RESYNC with DRAIN waited for have completed or entered quarantine (R185). -/
def State.summaryCapture (s : State) (mtag : Nat) : State :=
  if s.trx.resyncs.any (fun x => x.mtag == mtag && !x.shown && x.wait.isEmpty) then
    ({ s with trx := { s.trx with resyncs := s.trx.resyncs.map (fun x => if x.mtag = mtag then { x with shown := true } else x) } } :
      State).sendSummary mtag
  else s

/-- What an accepted management message does; an SPDM message waits for its answer (R330). -/
def State.mgmtActs (s : State) (clear : Bool) (h : Cell) (detail : Nat) : State :=
  let m := mTag h
  match mSub h with
  | 1 => s.resync m (bitAt h 32)
  | 2 => ({ s with time := { s.time with setting := s.time.setting ++ [(h.extractLsb' 32 48, s.time.stamp)] } } : State).wackMgt m
  | 3 => { s with trx := { s.trx with spdm := s.trx.spdm ++ [m] } }
  | _ => match s.keyBad h clear with
    | some e => s.failMgt e m (if e = .format then detail else 0)
    | none => s.keyAccept m h

/-- A management message is delivered: its cells are freed with it (R142, R162, R169). -/
def State.deliverMgmt (s : State) (c k : Nat) (h : Cell) : State :=
  let m := mTag h
  let n := mCells h
  let detail := cellDetail k 0x20
  if !s.delivers c then s
  else match s.lacking 0 0 n with
  | some cls => s.overrun cls
  | none =>
    let t := ((s.useCells 0 0 n).freeMgtCells n).count 0x20100
    if !mgmtOk h then t.badMgt m detail
    else if t.mtagBusy m then t.notice .tagBusy m detail true
    else ({ t with trx := { t.trx with mgtOut := t.trx.mgtOut ++ [m] } } : State).mgmtActs (!(s.course c).encrypted) h detail

/-- A management row's event: a message of this subtype whose cells fit its flit. -/
def State.deliverMgmtAs (s : State) (sub c k : Nat) (h : Cell) : State :=
  if hOp h = 0x20 ∧ mSub h = sub ∧ !extentBad k h then s.deliverMgmt c k h else s

/-! ### FENCE (R160) -/

/-- FENCE_COMPLETE: every request that its requester delivered before it has completed. -/
def State.fenceDone (s : State) (tag : Nat) : State :=
  match s.reqOf true tag with
  | none => s
  | some r =>
    if hOp r.hdr = 0x0c ∧ r.stage = .waiting ∧
        s.trx.reqs.all (fun x => hRqid x.hdr != hRqid r.hdr || decide (r.uid ≤ x.uid)) then
      s.wackPlain r none (some (hRqid r.hdr))
    else s

/-! ### The messages of a flit (R126, R158, R471) -/

/-- The messages of a flit are delivered in cell order, up to PAD, the last cell, or a message whose extent cannot be trusted.
`masks` holds the well-formed MASK cells so far; `fuel` bounds the messages. -/
def State.deliverCells (s : State) (c : Nat) (cells : List Cell) (masks : List (Nat × BitVec 64)) (k : Nat) : Nat → State
  | 0 => s
  | fuel + 1 =>
    match cells.drop k with
    | [] => s
    | h :: rest =>
      if hOp h = 0 then s
      else if extentBad k h then s.deliverBad c k h
      else
        let n := (msgCells h).getD 1
        let mask := (masks.find? (fun m => m.1 == hMptr h)).map (fun m => m.2)
        let t := if hOp h = 0x04 then s.deliverMask c k h
          else if hOp h = 0x20 then s.deliverMgmt c k h
          else s.deliverReq c k h (rest.take (wdCells (hOp h))) mask
        t.deliverCells c cells (if hOp h = 0x04 ∧ maskOk h then masks ++ [(k, maskOf h)] else masks) (k + n) fuel

end Sys2Proof.Machine
end

