-- ==== Sys2Proof/Machine/FlitOps.lean ====
section
/-! DEFINITION. Flits received and sent (R126 to R146, R150): verification, acknowledgement, sequence, replay, and what becomes of a
message when it is placed in a sequenced flit. -/

namespace Sys2Proof.Machine

/-! ### Placement (R144, R146, R169) -/

/-- The messages that go into the next flit, in order, with room for 30 cells, and those left (R126, R146). -/
def takeFit : Nat → List UpMsg → List UpMsg × List UpMsg
  | _, [] => ([], [])
  | room, m :: l =>
    if m.cells.length ≤ room then
      let r := takeFit (room - m.cells.length) l
      (m :: r.1, r.2)
    else ([], m :: l)

/-- What the placement of a message in a sequenced flit completes (R160, R168, R169, R185, R395). A message that a course fence took
back was counted before (R150). -/
def State.placed (s : State) (m : UpMsg) : State :=
  let once := fun (t : State) (o : Nat) => when (!m.again) (fun t => t.count o) t
  let t := when (m.cells.any (fun h => hOp h == 0x32) && decide (m.cells.length = 1)) (fun t => once t 0x20110) s
  let t := match m.done with
    | .nothing => t
    | .answered => once t 0x20108
    | .tag w g =>
      let u := ((once t 0x20108).acct w TagAcct.give).tagGone w g
      { u with trx := { u.trx with respond := u.trx.respond.erase (w, g) } }
    | .mtag g =>
      let u := once t 0x20108
      { u with trx := { u.trx with mgtOut := u.trx.mgtOut.erase g } }
    | .summary g =>
      let l := t.trx.resyncs.map (fun x => if x.mtag = g then { x with parts := x.parts - 1 } else x)
      if l.any (fun x => x.mtag == g && x.parts == 0) then
        let u := once t 0x20108
        { u with trx := { u.trx with resyncs := l.filter (fun x => x.mtag != g), mgtOut := u.trx.mgtOut.erase g } }
      else { t with trx := { t.trx with resyncs := l } }
    | .sleepOk => t
    | .notice => t.serveBoth
  match m.fenceOf with
  | some q => { t with trx := { t.trx with fences := t.trx.fences.erase q } }
  | none => t

/-- Pending returns go into a flit up to the field's maximum (R144). -/
def Credit.fly (c : Credit) (n : Nat) : Credit := { c with pending := c.pending - n, flying := c.flying + n }

/-- A MSG flit without cells is due for the pending returns (R144). -/
def State.creditsDue (s : State) : Bool :=
  decide (s.rf RF.LNK_CR_BATCH ≤ s.link.req.pending) || decide (s.rf RF.LNK_CR_BATCH ≤ s.link.wd.pending) ||
    (s.link.crWaited && decide (0 < s.link.req.pending + s.link.wd.pending + s.link.mgt.pending))

/-- The host's COURSE_DOWN names the last upstream flit that it accepted on a fenced course: the flits up to it are freed, and what
their messages completed is complete; the messages and credit returns of the later ones are queued ahead of every message not yet
placed (R150). Nothing accepted is named by a value of 2^47 or more, and Camec's own cell names it by 2^48 - 1 (the spec gives no
value: DESIGN CHOICE, log 105). -/
def State.peerDown (s : State) (c accepted : Nat) : State :=
  let x := s.course c
  if !x.waitPeer then s
  else
    let done := fun (f : SentFlit) => decide (f.seq ≤ accepted) && decide (accepted < 2 ^ 47)
    let back := x.held.filter (fun f => !done f)
    let gone := x.held.filter done
    let sum := fun (l : List SentFlit) (g : SentFlit → Nat) => l.foldl (fun n f => n + g f) 0
    let move := fun (k : Credit) (g : SentFlit → Nat) => { k with
      flying := k.flying - sum x.held g, pending := k.pending + sum back g, held := k.held + sum gone g }
    let t : State := { s with link := { s.link with
      upQ := back.flatMap (fun f => f.msgs) ++ s.link.upQ,
      req := move s.link.req (fun f => f.crReq), wd := move s.link.wd (fun f => f.crWd), mgt := move s.link.mgt (fun f => f.crMgt) } }
    let t := t.setCourse c (fun x => { x with held := [], waitPeer := false })
    (forAll (gone.flatMap (fun f => f.msgs)) (fun m t => t.placed m) t).releaseHeld

/-! ### Reception (R132, R135, R136, R138) -/

/-- The receiver discards a flit that failed, or a sequenced flit ahead of E: a NAK is due, unless one has been sent (R138). -/
def State.rxBad (s : State) (c : Nat) : State :=
  s.setCourse c (fun x => { x with nakDue := x.nakDue || !x.nakWait, nakWait := true })

/-- A flit fails its authentication: it is counted, and the fourth within 1,024 flits fences the course (R136). -/
def State.tagFails (s : State) (c : Nat) : State :=
  let n := (s.course c).rxCount
  let l := n :: (s.course c).fails.filter (fun k => decide (n < k + 1024))
  let t := (s.count (crsAt c 0x130)).setCourse c (fun x => { x with fails := l })
  if 4 ≤ l.length then t.fenceCourse c .tag else t.rxBad c

/-- A flit arrives at the link layer: the bytes that the FEC corrected count for their lanes. -/
def State.flitArrives (s : State) (c : Nat) (corrected : List Nat) : State :=
  (s.noteFec c corrected).setCourse c (fun x => { x with rxCount := x.rxCount + 1 })

/-- The course's receiver and transmitter run: it has come up, though a lane of it may be lost since (R138, R148). -/
def State.receives (s : State) (c : Nat) : Bool :=
  s.domOn 1 && ((s.course c).tx == .run || (s.course c).tx == .replay || (s.course c).tx == .stall)

/-- A received flit failed its FEC, its CRC, its authentication, or carries a reserved FTYPE (R129, R132, R136).
A course with a failed lane that it cannot spare is fenced with its first flit that fails (Scenario 7 of 07; log 103). -/
def State.flitFails (s : State) (c : Nat) (kind : FlitFail) (corrected : List Nat) : State :=
  if !s.receives c then s
  else
    let t := s.flitArrives c corrected
    let t := match kind with
      | .fec => (t.count (crsAt c 0x128)).rxBad c
      | .crc => (t.count (crsAt c 0x120)).rxBad c
      | .ftype => (t.count (crsAt c 0x120)).rxBad c
      | .tag => t.tagFails c
    when (t.course c).failAt.isSome (fun t => t.fenceCourse c .lanes) t

/-! ### Acknowledgement and replay (R137, R139, R141, R145) -/

/-- An ACK field covers a sequence number: it is the nearest extended count at or past it (R134). -/
def covers (ack seq : Nat) : Bool := decide ((ack + 4096 - seq % 4096) % 4096 < 2048)

/-- The flits that an acknowledgement covers leave the replay buffer, and their credits are the host's (R137, R145). -/
def State.freeFlits (s : State) (c ack : Nat) : State :=
  let x := s.course c
  let gone := x.buffer.filter (fun f => covers ack f.seq)
  let rest := x.buffer.filter (fun f => !covers ack f.seq)
  let sum := fun (g : SentFlit → Nat) => gone.foldl (fun n f => n + g f) 0
  let move := fun (k : Credit) (n : Nat) => { k with flying := k.flying - n, held := k.held + n }
  let run := x.run.filter (fun q => rest.any (fun f => f.seq == q))
  let t : State := { s with link := { s.link with
    req := move s.link.req (sum (fun f => f.crReq)), wd := move s.link.wd (sum (fun f => f.crWd)),
    mgt := move s.link.mgt (sum (fun f => f.crMgt)) } }
  t.setCourse c (fun x =>
    let y : Course := { x with buffer := rest, run := run, acked := gone.foldl (fun m f => max m (f.seq + 1)) x.acked }
    match x.tx with
    | .stall => { y with tx := y.idleTx }
    | .replay => if run.isEmpty then { y with tx := y.idleTx } else y
    | _ => y)

/-- A NAK or the replay timer starts a replay run, unless one runs; past REPLAY_LIMIT the course is retrained (R139, R141). -/
def State.replayEvent (s : State) (c : Nat) : State :=
  let x := s.course c
  if x.buffer.isEmpty ∨ (x.tx ≠ .run ∧ x.tx ≠ .stall) then s
  else
    let t := s.startReplay c true
    match (t.course c).buffer with
    | f :: _ => if t.rf RF.LNK_REPLAY_LIMIT < f.replays then t.retrainCourse c else t
    | [] => t

/-- ACK and ACK_KIND of a received flit (R128, R139). The reserved kind 3 is taken as NONE (DESIGN CHOICE, log 106). -/
def State.takeAck (s : State) (c : Nat) (hdr : BitVec 64) : State :=
  match fKind hdr with
  | 1 => s.freeFlits c (fAck hdr)
  | 2 => (s.freeFlits c (fAck hdr)).replayEvent c
  | _ => s

/-! ### A flit that passes its checks (R132, R138) -/

/-- How far a 12-bit SEQ lies past E, modulo 4,096. -/
def seqPast (expect seq : Nat) : Nat := (seq + 4096 - expect % 4096) % 4096

/-- The SEQ of a sequenced flit, and its delivery: the cells of a MSG flit, or the cell of a COURSE_DOWN (R129, R138, R140). A NAK that
is due and not sent yet is dropped when flit E arrives (R138 does not say: DESIGN CHOICE, log 128). -/
def State.takeSeq (s : State) (c : Nat) (hdr : BitVec 64) (cells : List Cell) : State :=
  let d := seqPast (s.course c).expect (fSeq hdr)
  if d = 0 then
    let t := s.setCourse c (fun x => { x with expect := x.expect + 1, nakWait := false, nakDue := false })
    if fType hdr = 1 then t.deliverCells c cells [] 0 31
    else match cells with
      | [] => t
      | m :: _ => if fieldNat m 7 0 < 12 then t.peerDown (fieldNat m 7 0) (fieldNat m 63 16) else t
  else if d < 2048 then s.rxBad c
  else s

/-- A flit passes its FEC and CRC (R132): it is verified, its acknowledgement is taken, and then its SEQ and contents. -/
def State.flitRx (s : State) (c : Nat) (hdr : BitVec 64) (cells : List Cell) (corrected : List Nat) : State :=
  if !s.delivers c then s
  else
    let t := s.flitArrives c corrected
    if !t.delivers c then t
    else match (t.course c).verify (fEpoch hdr) with
    | none => t.tagFails c
    | some x =>
      let fresh := x.encrypted != (t.course c).encrypted
      let t := ((t.setCourse c (fun _ => x)).count (crsAt c 0x108)).takeAck c hdr
      let t := when (fresh) State.goOn t
      if fType hdr = 0 ∨ !t.delivers c then t else t.takeSeq c hdr cells

/-! ### Transmission (R128, R133 to R139) -/

/-- The IV of an upstream flit (R134); `seq` and `ack` are extended counts, one more than the field's value. -/
def flitIv (c kind : Nat) (idle : Bool) (seq ack : Nat) : BitVec 96 :=
  BitVec.ofNat 96 (c * 2 ^ 92 + 2 ^ 91 + b2n idle * 2 ^ 90 + kind * 2 ^ 84 + (seq + 2 ^ 40 - 1) % 2 ^ 40 * 2 ^ 40 +
    (ack + 2 ^ 40 - 1) % 2 ^ 40)

/-- The logical lane that physical lane `p` of the transmitter carries, 16 for the spare's filler. That lane p carries logical lane p
while the spare is idle is Camec's own order (R118 leaves it open: DESIGN CHOICE, log 107). -/
def Course.txLane (x : Course) (p : Nat) : Nat := if p = 16 then x.spareTx else if x.spareTx = p then 16 else p

/-- The control block of the idle spare (R122, R148): LANE_SWITCH for a lane that is to move, LANE_MAP every 16 blocks while one is
asked for, and the filler otherwise. While the spare carries a lane there is none to send LANE_MAP on, and none is sent (the spec does
not say where it goes: DESIGN CHOICE, log 127). -/
def Course.control (x : Course) (c j : Nat) : BitVec 64 :=
  match x.switchTx, x.mapReq with
  | some k, _ => if j = 0 then controlPayload 0x4b 0 k else controlPayload 0x2d 0 0
  | none, some k => if j = 0 ∧ x.mapAge % 4 = 0 then controlPayload 0x33 c k else controlPayload 0x2d 0 0
  | none, none => controlPayload 0x2d 0 0

/-- A lane sends a block whose payload is scrambled (R121). -/
def Lane.send (x : Lane) (hdr : BitVec 2) (p : BitVec 64) : Lane :=
  let r := scramble x.scr p
  { x with scr := r.1 }.emit hdr r.2

/-- At its place in the marker period every lane of a course sends its marker, before data block `j` of the flit (R123). -/
def State.sendMarkers (s : State) (c j : Nat) : State :=
  let x := s.course c
  if x.txPos = 0 then
    let t := forAll (List.range 17) (fun p t => t.setLane c p (fun y =>
      y.emit 0b10#2 (markerPayload j x.mseq (x.txLane p) p c))) s
    t.setCourse c (fun x => { x with txPos := 1, mseq := (x.mseq + 1) % 256 })
  else s

/-- Data block `j` of a flit leaves on every lane (R122, R123, R127). -/
def State.sendSlot (s0 : State) (c : Nat) (flit : List Byte) (j : Nat) : State :=
  let s := s0.sendMarkers c j
  let x := s.course c
  let t := forAll (List.range 17) (fun p t => t.setLane c p (fun y =>
    if x.txLane p < 16 then y.send 0b01#2 (lanePayload flit (x.txLane p) j)
    else y.send 0b10#2 (if p = 16 then x.control c j else controlPayload 0x2d 0 0))) s
  t.setCourse c (fun x => { x with txPos := (x.txPos + 1) % 16384 })

/-- A flit leaves as four blocks on every lane, with a marker where one is due; then the spare takes a lane that is to move, from the
next flit on (R123, R127, R148). -/
def State.sendFlit (s : State) (c : Nat) (flit : List Byte) : State :=
  let t := forAll (List.range 17) (fun p t => t.setLane c p (fun y => { y with sent := [], words := [] })) s
  let t := forAll (List.range 4) (fun j t => t.sendSlot c flit j) t
  match (t.course c).switchTx with
  | some k => (t.setCourse c (fun x => { x with spareTx := k, switchTx := none, mapAge := x.mapAge + 1 })).sparedEvent c k 16 1
  | none => t.setCourse c (fun x => { x with mapAge := x.mapAge + 1 })

/-- A flit leaves: with the current ACK, ACK_KIND and KEY_EPOCH, counted under its key (R126, R133, R135, R138). `seq` is its
extended SEQ plus one, so that SEQ and ACK stand at 4,095, and at 2^40 - 1 in the IV, before the first sequenced flit (R128 names
no value there: DESIGN CHOICE, log 108). -/
def State.emit (s : State) (c ftype seq crReq crWd crMgt : Nat) (cells : List Cell) : State :=
  let x := s.course c
  let y := if x.encrypted && (x.moveAll || decide (2 ^ 29 ≤ x.sentUnder)) then x.moveTx else x
  let kind := if x.nakDue then 2 else 1
  let hdr := flitHdr ftype (seq + 4095) (x.expect + 4095) kind crReq crWd crMgt (if y.encrypted then y.epochTx else 0)
  let iv := flitIv c kind (ftype == 0) seq x.expect
  let plain := padTo 480 (cells.flatMap cellBytes)
  let out : List Byte × BitVec 64 := match y.encrypted, y.keyTx with
    | true, some k =>
      let ct := gcmCrypt (epochKey k) iv plain
      (ct, gcmTag64 (epochKey k) iv (leBytes 8 hdr.toNat) ct)
    | _, _ => (plain, 0#64)
  let flit := flitBytes hdr out.1 out.2
  let t := s.setCourse c (fun _ => { y with
    nakDue := false, sentUnder := y.sentUnder + b2n y.encrypted, last := some ⟨hdr, cells, iv, out.2, flit⟩ })
  (when x.nakDue (fun t => t.count (crsAt c 0x138)) (t.count (crsAt c 0x100))).sendFlit c flit

/-- A new sequenced flit: it is numbered, stored for replay and sent, its credits travel, and its messages are placed. -/
def State.newFlit (s : State) (c ftype : Nat) (msgs : List UpMsg) : State :=
  let q := (s.course c).next
  let r := min s.link.req.pending 255
  let w := min s.link.wd.pending 1023
  let m := min s.link.mgt.pending 15
  let t : State := { s with link := { s.link with
    req := s.link.req.fly r, wd := s.link.wd.fly w, mgt := s.link.mgt.fly m, crWaited := false } }
  let t := t.setCourse c (fun x => { x with next := q + 1, buffer := x.buffer ++ [⟨q, ftype, msgs, r, w, m, 0⟩] })
  let t := t.emit c ftype (q + 1) r w m (msgs.flatMap (fun m => m.cells))
  (forAll msgs (fun m t => t.placed m) t).releaseHeld

/-- The transmitter of a course sends: D1 is on, the course is not fenced, and no loopback has it (R108, R149, R434). -/
def State.sends (s : State) (c : Nat) : Bool :=
  s.domOn 1 && (s.course c).tx != .fenced && (match s.rpr.loop with | some l => l.course != c | none => true)

/-- The course's transmitter starts a flit (R129, R137, R139, R144, R146, R150). A course that is not up, or has lost a lane, sends
IDLE flits and resends; new messages go out on up courses. -/
def State.flitTx (s : State) (c : Nat) : State :=
  if !s.sends c then s
  else
    let x := s.course c
    let idle := fun (t : State) => t.emit c 0 x.next 0 0 0 []
    match x.tx, x.run with
    | .replay, q :: rest =>
      let t := s.setCourse c (fun x => { x with run := rest, tx := if rest.isEmpty then x.idleTx else .replay })
      match x.buffer.find? (fun f => f.seq == q) with
      | some f => (t.emit c f.ftype (q + 1) f.crReq f.crWd f.crMgt (f.msgs.flatMap (fun m => m.cells))).count (crsAt c 0x118)
      | none => idle t
    | .run, _ =>
      if 256 ≤ x.buffer.length then idle (s.setCourse c (fun x => { x with tx := .stall }))
      else if !x.up then idle s
      else match x.downs with
        | d :: rest => (s.setCourse c (fun x => { x with downs := rest })).newFlit c 2 [⟨[d], .nothing, none, false⟩]
        | [] =>
          match takeFit 30 s.link.upQ with
          | (m :: l, rest) => ({ s with link := { s.link with upQ := rest } } : State).newFlit c 1 (m :: l)
          | ([], _) => if s.creditsDue then s.newFlit c 1 [] else idle s
    | _, _ => idle s

/-- The replay timer of a course reaches REPLAY_TIMEOUT (R139). -/
def State.replayTimeout (s : State) (c : Nat) : State := if s.receives c then s.replayEvent c else s

/-- NAK_RESEND flit times have passed since the last NAK: it is sent again (R138). -/
def State.nakAgain (s : State) (c : Nat) : State :=
  if s.receives c && (s.course c).nakWait then s.setCourse c (fun x => { x with nakDue := true }) else s

/-- A pending return has waited CR_WAIT flit times (R144). -/
def State.crWaits (s : State) : State :=
  if 0 < s.link.req.pending + s.link.wd.pending + s.link.mgt.pending then { s with link := { s.link with crWaited := true } } else s

end Sys2Proof.Machine
end

