-- ==== Sys2Proof/Machine/SpdmCode.lean ====
section
/-! DEFINITION. The bytes of SPDM: the messages of DSP0274, its key schedule, and the secured messages of DSP0277 (14_security R328 to
R332). The spec names these standards and does not repeat them, so that their layouts and labels are PRESUMED (log 41). -/

namespace Sys2Proof.Machine

/-! ### The chain and what Camec offers (R328, R329) -/

/-- The certificate chain of slot 0 with its header: its length, and the digest of its root certificate. -/
def spdmChain (inst : Nat) : List Byte :=
  leBytes 2 (52 + (certChain inst).length) ++ leBytes 2 0 ++ sha384Bytes Config.rootCert ++ certChain inst

/-- The digest of the chain. -/
def chainDigest (inst : Nat) : List Byte := sha384Bytes (spdmChain inst)

/-- Flags of CAPABILITIES: CERT, CHAL, MEAS with signature, ENCRYPT, MAC, MUT_AUTH, KEY_EX, ENCAP and KEY_UPD. -/
def spdmFlags : Nat := 2 ^ 1 + 2 ^ 2 + 2 * 2 ^ 3 + 2 ^ 6 + 2 ^ 7 + 2 ^ 8 + 2 ^ 9 + 2 ^ 12 + 2 ^ 14

/-- VERSION: 1.2 and 1.3. -/
def versionBody : List Byte := [0#8, 0#8, 0#8, 2#8, 0x00#8, 0x12#8, 0x00#8, 0x13#8]

/-- CAPABILITIES: the crypto timing exponent is not stated; DataTransferSize and MaxSPDMmsgSize are 472 bytes. -/
def capabilitiesBody (n : Nat) : List Byte :=
  [0#8, 0#8, 0#8, Config.spdmByte n 0, 0#8, 0#8] ++ leBytes 4 spdmFlags ++ leBytes 4 472 ++ leBytes 4 472

/-- ALGORITHMS: the DMTF measurement specification, SHA-384, ECDSA P-384 for both sides, secp384r1, AES-256-GCM and the SPDM key
schedule. -/
def algorithmsBody : List Byte :=
  [4#8, 0#8] ++ leBytes 2 52 ++ [0x01#8, 0x00#8] ++ leBytes 4 0x04 ++ leBytes 4 0x80 ++ leBytes 4 0x02 ++ List.replicate 12 0#8 ++
    [0#8, 0#8, 0#8, 0#8] ++ [0x02#8, 0x20#8, 0x10#8, 0x00#8] ++ [0x03#8, 0x20#8, 0x02#8, 0x00#8] ++
    [0x04#8, 0x20#8, 0x80#8, 0x00#8] ++ [0x05#8, 0x20#8, 0x01#8, 0x00#8]

/-- DIGESTS: slot 0 alone holds a chain. -/
def digestsBody (inst : Nat) : List Byte := [0#8, 1#8] ++ chainDigest inst

/-- CERTIFICATE: `n` bytes of the chain from `offset` on, and how much remains. -/
def certificateBody (inst offset n : Nat) : List Byte :=
  [0#8, 0#8] ++ leBytes 2 n ++ leBytes 2 ((spdmChain inst).length - offset - n) ++ ((spdmChain inst).drop offset).take n

/-- The identity key's signature over the messages up to a point, of which Camec holds what a command brings. -/
def spdmSigned (inst n : Nat) (l : List Byte) : List Byte := ecdsaSign (identityKey inst) (beBytes 48 (Config.transcript n l).toNat)

/-- CHALLENGE_AUTH: the chain's digest, Camec's nonce, no opaque data, and the signature. -/
def challengeBody (inst n : Nat) (nonce own : List Byte) : List Byte :=
  [0#8, 1#8] ++ chainDigest inst ++ own ++ leBytes 2 0 ++ spdmSigned inst n nonce

/-- A measurement block (R332): index, the DMTF specification, and the value type, digest or raw, with its value. -/
def measurementBlock (index type : Nat) (raw : Bool) (value : List Byte) : List Byte :=
  leBytes 1 index ++ [0x01#8] ++ leBytes 2 (value.length + 3) ++ leBytes 1 (type + (if raw then 0x80 else 0)) ++
    leBytes 2 value.length ++ value

/-- MEASUREMENTS: how many there are where only that was asked, some blocks, Camec's nonce, no opaque data, and the signature. -/
def measurementsBody (inst n count : Nat) (blocks : List (List Byte)) (own : List Byte) : List Byte :=
  leBytes 1 count ++ [0#8] ++ leBytes 1 blocks.length ++ leBytes 3 blocks.flatten.length ++ blocks.flatten ++ own ++ leBytes 2 0 ++
    spdmSigned inst n blocks.flatten

/-! ### The key schedule -/

/-- HKDF-Expand with a label of SPDM. -/
def spdmExpand (secret : List Byte) (len : Nat) (label : String) (context : List Byte) : List Byte :=
  hkdfExpand secret (leBytes 2 len ++ labelBytes "spdm1.2 " ++ labelBytes label ++ context) len

/-- The handshake secret of a shared secret. -/
def handshakeSecret (z : List Byte) : List Byte := hkdfExtract (List.replicate 48 0#8) z

/-- The master secret of a handshake secret. -/
def masterSecret (hs : List Byte) : List Byte := hkdfExtract (spdmExpand hs 48 "derived" []) (List.replicate 48 0#8)

/-- The export master secret (R333). -/
def exportSecret (hs th : List Byte) : List Byte := spdmExpand (masterSecret hs) 48 "exp master" th

/-- The transcript hash that a session's secrets take. -/
def spdmHash (n : Nat) (l : List Byte) : List Byte := beBytes 48 (Config.transcript n l).toNat

/-- KEY_EXCHANGE_RSP: the session's half that Camec names, whether the requester is to authenticate, random data, Camec's
ephemeral key, no opaque data, the signature, and the HMAC under the finished key. -/
def exchangeBody (inst n id d : Nat) (mutAuth : Bool) (random out : List Byte) : List Byte :=
  [0#8, 0#8] ++ leBytes 2 id ++ (if mutAuth then [0x04#8, 0#8] else [0#8, 0#8]) ++ random ++ pointBytes (mulPoint d g384) ++ leBytes 2 0 ++
    spdmSigned inst n random ++ hmac (spdmExpand out 48 "finished" []) (spdmHash n random)

/-! ### Messages on their transports (R330) -/

/-- A message: the version byte, the code, and the rest. -/
def spdmMessage (code : Nat) (body : List Byte) : List Byte := (if code = 0x04 then 0x10#8 else 0x12#8) :: leBytes 1 code ++ body

/-- A secured message of DSP0277 under a session's outgoing secret: on the SMP with the MCTP message type in front of what is
sealed, and a sequence number of two bytes (DSP0275); on the link with none. -/
def Session.seal (y : Session) (t : Transport) (msg : List Byte) : List Byte :=
  let data := match t with | .smp => 0x05#8 :: msg | .link => msg
  let head := leBytes 4 y.id ++ (match t with | .smp => leBytes 2 y.sent | .link => []) ++ leBytes 2 (data.length + 18)
  let key := beNat (spdmExpand y.out 32 "key" [])
  let iv := BitVec.ofNat 96 (beNat (xorBytes (spdmExpand y.out 12 "iv" []) (leBytes 12 y.sent)))
  let ct := gcmCrypt key iv (leBytes 2 data.length ++ data)
  head ++ ct ++ blockBytes (gcmTag key iv head ct)

/-- What a transport carries of a message: on the link the bytes of MGMT subtype SPDM, on the SMP with the MCTP message type 0x05,
or 0x06 for a secured one. -/
def spdmCarried (x : Spdm) (t : Transport) (msg : List Byte) : List Byte :=
  match t, x.session with
  | .link, none => msg
  | .link, some y => y.seal .link msg
  | .smp, none => 0x05#8 :: msg
  | .smp, some y => 0x06#8 :: y.seal .smp msg

/-- The cells of a MGMT message of subtype SPDM: LEN, SECURED, and the bytes from header byte 8 on. -/
def spdmCells (mtag : Nat) (secured : Bool) (l : List Byte) : List Cell :=
  let more := (l.length - 8 + 15) / 16
  mgmtCell 3 mtag (1 + more) (l.length + (if secured then 2 ^ 16 else 0) + leNat (l.take 8) * 2 ^ 32) ::
    (List.range more).map (fun i => bytesCell ((l.drop (8 + 16 * i)).take 16))

end Sys2Proof.Machine
end

