-- ==== Sys2Proof/Machine/SpdmOps.lean ====
section
/-! DEFINITION. The SPDM responder (14_security R328 to R334). Response and error codes are those of DSP0274, which R329 names without
repeating them (PRESUMED, log 41). -/

namespace Sys2Proof.Machine

/-! ### A connection (R329) -/

/-- The connection on a transport. -/
def State.spdm (s : State) (t : Transport) : Spdm :=
  match t with
  | .link => s.sec.link
  | .smp => s.sec.smp

/-- Change the connection on a transport. -/
def State.setSpdm (s : State) (t : Transport) (f : Spdm → Spdm) : State :=
  { s with sec := match t with
      | .link => { s.sec with link := f s.sec.link }
      | .smp => { s.sec with smp := f s.sec.smp } }

/-- A session is established. -/
def Spdm.live (x : Spdm) : Bool := x.session.any (fun y => y.live)

/-! ### Answers (R330) -/

/-- A response goes out, in the session where one is held: on the link it completes its management tag. -/
def State.spdmAnswer (s : State) (t : Transport) (mtag code : Nat) (body : List Byte) : State :=
  let x := s.spdm t
  let l := spdmCarried x t (spdmMessage code body)
  let u := (s.setSpdm t (fun x => { x with
    last := some (code, body), carried := l, session := x.session.map (fun y => { y with sent := y.sent + 1 }) })).useFree
  match t with
  | .smp => u
  | .link => ({ u with trx := { u.trx with spdm := u.trx.spdm.filter (· != mtag) } } : State).sendUp
      (spdmCells mtag x.session.isSome l) (.mtag mtag) none

/-- ERROR with an error code. -/
def State.spdmError (s : State) (t : Transport) (mtag code : Nat) : State := s.spdmAnswer t mtag 0x7f [BitVec.ofNat 8 code, 0#8]

/-- 32 random bytes for a nonce: drawn, or open while the DRBG is out of service (R327). -/
def State.spdmNonce (s : State) : List Byte × State :=
  if s.sec.drbgOk then s.random 32 else (leBytes 32 s.freeVal.toNat, s.useFree)

/-- InvalidRequest. -/
def spdmInvalid : Nat := 0x01
/-- UnexpectedRequest. -/
def spdmUnexpected : Nat := 0x04
/-- Unspecified. -/
def spdmUnspecified : Nat := 0x05
/-- DecryptError. -/
def spdmDecrypt : Nat := 0x06
/-- SessionLimitExceeded. -/
def spdmSessionLimit : Nat := 0x0a
/-- ResponseNotReady. -/
def spdmNotReady : Nat := 0x42

/-- A response that Camec may defer: whether it does is open, and comes from a free value (R329, log 42). The ERROR that says so names
the request, and a delay and token that are open. -/
def State.spdmDefer (s : State) (t : Transport) (mtag code : Nat) (body : List Byte) : State :=
  if bitAt s.freeVal 0 then
    (s.useFree.setSpdm t (fun x => { x with held := some (code, body) })).spdmAnswer t mtag 0x7f
      [BitVec.ofNat 8 spdmNotReady, 0#8, Config.spdmByte s.free 0, BitVec.ofNat 8 (code + 0x80), Config.spdmByte s.free 1,
        Config.spdmByte s.free 2]
  else s.useFree.spdmAnswer t mtag code body

/-! ### The connection, the chain and the measurements (R328, R329, R332) -/

/-- GET_VERSION starts the negotiation again; versions 1.2 and 1.3. -/
def State.spdmVersion (s : State) (t : Transport) (mtag : Nat) : State :=
  (s.setSpdm t (fun x => { x with stage := 1, held := none })).spdmAnswer t mtag 0x04 versionBody

/-- GET_CAPABILITIES. -/
def State.spdmCapabilities (s : State) (t : Transport) (mtag : Nat) : State :=
  if (s.spdm t).stage = 0 then s.spdmError t mtag spdmUnexpected
  else (s.setSpdm t (fun x => { x with stage := max 2 x.stage })).spdmAnswer t mtag 0x61 (capabilitiesBody s.free)

/-- NEGOTIATE_ALGORITHMS: `supported` tells that the requester offers the one set that Camec supports. -/
def State.spdmAlgorithms (s : State) (t : Transport) (mtag : Nat) (supported : Bool) : State :=
  if (s.spdm t).stage < 2 then s.spdmError t mtag spdmUnexpected
  else if supported then (s.setSpdm t (fun x => { x with stage := 3 })).spdmAnswer t mtag 0x63 algorithmsBody
  else s.spdmError t mtag spdmInvalid

/-- A request that needs the negotiation to have ended. -/
def State.spdmNegotiated (s : State) (t : Transport) (mtag : Nat) (f : State → State) : State :=
  if (s.spdm t).stage = 3 then f s else s.spdmError t mtag spdmUnexpected

/-- GET_DIGESTS: only slot 0 holds a chain. -/
def State.spdmDigests (s : State) (t : Transport) (mtag : Nat) : State :=
  s.spdmNegotiated t mtag (fun s => s.spdmAnswer t mtag 0x01 (digestsBody s.inst))

/-- The bytes of the chain that a response may carry within 472 bytes: a secured message spends up to 27 more. -/
def State.certRoom (s : State) (t : Transport) : Nat := if (s.spdm t).session.isSome then 437 else 464

/-- GET_CERTIFICATE: the portion of slot 0's chain that fits a message. -/
def State.spdmCertificate (s : State) (t : Transport) (mtag slot offset len : Nat) : State :=
  s.spdmNegotiated t mtag (fun s =>
    if slot ≠ 0 ∨ (spdmChain s.inst).length ≤ offset then s.spdmError t mtag spdmInvalid
    else s.spdmAnswer t mtag 0x02
      (certificateBody s.inst offset (min (min len (s.certRoom t)) ((spdmChain s.inst).length - offset))))

/-- CHALLENGE over slot 0, signed. -/
def State.spdmChallenge (s : State) (t : Transport) (mtag slot nonce : Nat) : State :=
  s.spdmNegotiated t mtag (fun s =>
    if slot ≠ 0 then s.spdmError t mtag spdmInvalid
    else
      let d := s.spdmNonce
      d.2.spdmDefer t mtag 0x03 (challengeBody s.inst s.free (leBytes 32 nonce) d.1))

/-- One measurement (R332), by its index. -/
def State.measurement (s : State) (i : Nat) : List Byte :=
  match i with
  | 1 => measurementBlock 1 0x00 false (sha384Bytes Config.rom)
  | 2 => measurementBlock 2 0x01 false (leBytes 48 s.sec.meas2.toNat)
  | 3 => measurementBlock 3 0x07 true (leBytes 8 s.sec.meas3.toNat)
  | 4 => measurementBlock 4 0x03 false (leBytes 48 s.sec.meas4.toNat)
  | _ => measurementBlock 5 0x02 true (leBytes 1 0xb1 ++ leBytes 1 s.inst ++ leBytes 1 (b2n s.sec.lock) ++
      leBytes 1 (s.rf RF.SEC_ROOT_VALID) ++
      leBytes 1 (b2n (s.rfb RF.SEC_CLEAR_OK) * 8 + b2n (s.rfb RF.SEC_PERSIST_EN) * 4 + s.rf RF.SEC_KEY0_CLASS) ++
      leBytes 1 (s.rf RF.SEC_EXPERT_META_OK) ++ leBytes 1 s.pair.role.num ++ [0#8])

/-- GET_MEASUREMENTS: how many there are (index 0), one of them, or all (index 0xff), signed. -/
def State.spdmMeasurements (s : State) (t : Transport) (mtag index : Nat) : State :=
  s.spdmNegotiated t mtag (fun s =>
    let d := s.spdmNonce
    let give := fun (count : Nat) (l : List (List Byte)) =>
      d.2.spdmDefer t mtag 0x60 (measurementsBody s.inst s.free count l d.1)
    if index = 0 then give 5 []
    else if index = 0xff then give 0 ((List.range 5).map (fun i => s.measurement (i + 1)))
    else if index ≤ 5 then give 0 [s.measurement index]
    else s.spdmError t mtag spdmInvalid)

/-- RESPOND_IF_READY retrieves the deferred response. -/
def State.spdmRespond (s : State) (t : Transport) (mtag : Nat) : State :=
  match (s.spdm t).held with
  | some (code, content) => (s.setSpdm t (fun x => { x with held := none })).spdmAnswer t mtag code content
  | none => s.spdmError t mtag spdmUnexpected

/-- The encapsulated request for the requester's chain: GET_CERTIFICATE of slot 0 from its start. -/
def askCertificate : List Byte := [0x12#8, 0x82#8, 0#8, 0#8, 0#8, 0#8] ++ leBytes 2 437

/-! ### Sessions (R327, R329, R331, R333, R334) -/

/-- KEY_EXCHANGE: one session on a transport; the DRBG is reseeded for it, and must be in service. `share` is the requester's ephemeral
public key, x then y, which must be a point of the curve. -/
def State.spdmExchange (s : State) (t : Transport) (mtag share : Nat) (mutAuth : Bool) : State :=
  s.spdmNegotiated t mtag (fun s =>
    if (s.spdm t).session.isSome then s.spdmError t mtag spdmSessionLimit
    else if !s.sec.drbgOk then s.spdmError t mtag spdmUnspecified
    else if !onCurve (pointOf (beBytes 96 share)) then s.spdmError t mtag spdmInvalid
    else
      let g := s.reseed.random 90
      let d := privateKey (g.1.take 56)
      let random := (g.1.drop 56).take 32
      let id := leNat (g.1.drop 88)
      let hs := handshakeSecret (ecdh d (pointOf (beBytes 96 share)))
      let out := spdmExpand hs 48 "rsp hs data" (spdmHash s.free random)
      let whole := leNat [Config.spdmByte s.free 0, Config.spdmByte s.free 1] + id * 2 ^ 16
      (g.2.spdmAnswer t mtag 0x64 (exchangeBody s.inst s.free id d mutAuth random out)).setSpdm t (fun x => { x with
        session := some ⟨0, false, false, mutAuth, false, 0, whole, hs, out, 0⟩
        encap := b2n mutAuth }))

/-- GET_ENCAPSULATED_REQUEST: GET_DIGESTS, then GET_CERTIFICATE, for mutual authentication. -/
def State.spdmEncap (s : State) (t : Transport) (mtag : Nat) : State :=
  match (s.spdm t).encap with
  | 0 => s.spdmError t mtag spdmUnexpected
  | 1 => s.spdmAnswer t mtag 0x6a ([0#8, 0#8] ++ [0x12#8, 0x81#8, 0#8, 0#8])
  | _ => s.spdmAnswer t mtag 0x6a ([0#8, 0#8] ++ askCertificate)

/-- The digest of a root certificate is that of a provisioned root (R331). -/
def State.rootProvisioned (s : State) (root : List Byte) : Bool :=
  (List.range 4).any (fun r => (s.rf RF.SEC_ROOT_VALID).testBit r &&
    (List.range 12).flatMap (fun w => leBytes 4 (s.rfn RF.SEC_DIGEST 0 (12 * r + w))) == root)

/-- DELIVER_ENCAPSULATED_RESPONSE: the digests, then the chain, whose root decides the role (R331). -/
def State.spdmDeliver (s : State) (t : Transport) (mtag : Nat) (chainOk : Bool) (root : List Byte) : State :=
  match (s.spdm t).encap with
  | 0 => s.spdmError t mtag spdmUnexpected
  | 1 => (s.setSpdm t (fun x => { x with encap := 2 })).spdmAnswer t mtag 0x6b ([0#8, 1#8, 0#8, 0#8, 0#8, 0#8] ++ askCertificate)
  | _ =>
    (s.setSpdm t (fun x => { x with
      encap := 0
      session := x.session.map (fun y => { y with chain := chainOk, secure := chainOk && s.rootProvisioned root }) })).spdmAnswer
      t mtag 0x6b [0#8, 0#8, 0#8, 0#8, 0#8, 0#8]

/-- FINISH: the session is established once its requester has verified, and completed mutual authentication where KEY_EXCHANGE asked
for it. On the link every course's keys come from it (R333, R334). -/
def State.spdmFinish (s : State) (t : Transport) (mtag : Nat) (verified : Bool) : State :=
  match (s.spdm t).session with
  | none => s.spdmError t mtag spdmUnexpected
  | some y =>
    if y.live then s.spdmError t mtag spdmUnexpected
    else if verified ∧ (!y.mauth ∨ (y.chain ∧ (s.spdm t).encap = 0)) then
      let th := spdmHash s.free []
      let ems := beNat (exportSecret y.hs th)
      let u := ((s.spdmAnswer t mtag 0x65 [0#8, 0#8]).setSpdm t (fun x => { x with
        session := some { y with
          live := true, secret := ems, out := spdmExpand (masterSecret y.hs) 48 "rsp app data" th, sent := 0 } })).count 0x5138
      match t with
      | .link => (u.offerKeys ems).goOn
      | .smp => u
    else (s.spdmError t mtag spdmDecrypt).setSpdm t (fun x => { x with session := none, encap := 0 })

/-- KEY_UPDATE moves the session keys; on the link UpdateAllKeys also moves every course's upstream epoch, and the host moves the
downstream ones, which Camec's receivers follow (R333, R135). -/
def State.spdmUpdate (s : State) (t : Transport) (mtag : Nat) (all : Bool) : State :=
  if !(s.spdm t).live then s.spdmError t mtag spdmUnexpected
  else
    let u := (s.setSpdm t (fun x => { x with session := x.session.map (fun y => { y with
      keyNo := y.keyNo + 1
      out := if all then spdmExpand y.out 48 "traffic upd" [] else y.out
      sent := if all then 0 else y.sent }) })).spdmAnswer t mtag 0x69 [if all then 2#8 else 1#8, Config.spdmByte s.free 0]
    match t, all with
    | .link, true => forAll (List.range 12) (fun c u =>
        if (u.course c).encrypted then u.setCourse c (fun x => { x with moveAll := true }) else u) u
    | _, _ => u

/-- END_SESSION: encrypted courses keep their key chains (R334). -/
def State.spdmEnd (s : State) (t : Transport) (mtag : Nat) : State :=
  if !(s.spdm t).live then s.spdmError t mtag spdmUnexpected
  else (s.spdmAnswer t mtag 0x6c [0#8, 0#8]).setSpdm t (fun x => { x with session := none, encap := 0, held := none })

/-! ### Requests that wait for the luthier (R363, R375) -/

/-- The luthier runs its firmware: its domain is on, and start-up has passed step 7. -/
def State.responder (s : State) : Bool :=
  s.domOn 7 && match s.boot.stage with
    | .coredie | .train | .link | .refcal | .keyex | .ready => true
    | _ => false

/-- A request arrives: on the link under a management tag, which MSG_FLIT_RX may have marked already (R330, R169); on the SMP in
MCTP. -/
def State.spdmArrives (s : State) (t : Transport) (mtag : Nat) (f : State → State) : State :=
  match t with
  | .smp => f s
  | .link =>
    if s.trx.spdm.contains mtag then f s
    else if !(s.domOn 1 && (List.range 12).any (fun c => (s.course c).up)) then s
    else if s.mtagBusy mtag then s.notice .tagBusy mtag 0 true
    else f { s with trx := { s.trx with mgtOut := s.trx.mgtOut ++ [mtag], spdm := s.trx.spdm ++ [mtag] } }

/-- A request is served, or waits while the luthier's domain wakes; a failed domain fails it as it fails other accesses. -/
def State.spdmRow (s : State) (t : Transport) (mtag : Nat) (i : Instr) (f : State → State) : State :=
  s.spdmArrives t mtag (fun s =>
    if s.responder then f (s.accessDom 7)
    else if (s.dom 7).st = .failed then match t with
      | .smp => s
      | .link => ({ s with trx := { s.trx with spdm := s.trx.spdm.filter (· != mtag) } } : State).failMgt .wakeFail mtag 7
    else if s.domOn 7 then s
    else ({ s with sec := { s.sec with spdmWait := s.sec.spdmWait ++ [i] } } : State).wake 7)

/-- What the responder makes of a request. -/
def State.spdmRun (i : Instr) (s : State) : State :=
  match i with
  | .getVersion t m => s.spdmVersion t m
  | .getCapabilities t m => s.spdmCapabilities t m
  | .negotiateAlgorithms t m ok => s.spdmAlgorithms t m ok
  | .getDigests t m => s.spdmDigests t m
  | .getCertificate t m slot off len => s.spdmCertificate t m slot off len
  | .challenge t m slot nonce => s.spdmChallenge t m slot nonce
  | .getMeasurements t m i => s.spdmMeasurements t m i
  | .keyExchange t m share mauth => s.spdmExchange t m share mauth
  | .finish t m ok => s.spdmFinish t m ok
  | .getEncapsulatedRequest t m => s.spdmEncap t m
  | .deliverEncapsulatedResponse t m ok root => s.spdmDeliver t m ok root
  | .keyUpdate t m all => s.spdmUpdate t m all
  | .endSession t m => s.spdmEnd t m
  | .respondIfReady t m => s.spdmRespond t m
  | _ => s

/-- The transport and management tag of a request. -/
def spdmTag (i : Instr) : Option (Transport × Nat) :=
  match i with
  | .getVersion t m | .getCapabilities t m | .negotiateAlgorithms t m _ | .getDigests t m | .getCertificate t m _ _ _
  | .challenge t m _ _ | .getMeasurements t m _ | .keyExchange t m _ _ | .finish t m _ | .getEncapsulatedRequest t m
  | .deliverEncapsulatedResponse t m _ _ | .keyUpdate t m _ | .endSession t m | .respondIfReady t m => some (t, m)
  | _ => none

/-- The SPDM requests that wait for D7 end (R375): one of the link with ERR WAKE_FAIL, one of the SMP without an answer. -/
def State.spdmFail (s : State) (l : List Instr) : State :=
  forAll l (fun i t => match spdmTag i with
    | some (.link, m) => ({ t with trx := { t.trx with spdm := t.trx.spdm.filter (· != m) } } : State).failMgt .wakeFail m 7
    | _ => t) s

/-- The luthier's domain is on: the requests that waited run in their order. Where it has failed they fail. -/
def State.spdmServe (s : State) : State :=
  let l := s.sec.spdmWait
  let t : State := { s with sec := { s.sec with spdmWait := [] } }
  if s.responder then forAll l (fun i t => t.spdmRun i) t
  else if (s.dom 7).st = .failed then t.spdmFail l
  else s

/-- An attempt to wake D7 has failed: what the luthier was to serve ends (R375). -/
def State.luthierFails (s : State) : State :=
  ({ s with sec := { s.sec with spdmWait := [] } } : State).keysFail.spdmFail s.sec.spdmWait

end Sys2Proof.Machine
end

