-- ==== Sys2Proof/Machine/NvmOps.lean ====
section
/-! DEFINITION. The NVM port (R32 to R34): the acknowledgement of a word, failed accesses, and NVM_RDY. -/

namespace Sys2Proof.Machine

/-! ### The end of a record -/

/-- What follows the last word of a record. A settings page saved by software and a repair map end with rows of their own. -/
def State.jobDone (s : State) (j : NvmJob) : State :=
  match j.why with
  | .settings none => s
  | .repairMap _ => s
  | .settings (some m) => (s.endJob (fun w => w == j.why) true).keyPageDone m true
  | .staging => (s.endJob (fun w => w == j.why) true).stageDone true
  | .restart => (s.endJob (fun w => w == j.why) true).activateDone true
  | .bootRecord => (s.endJob (fun w => w == j.why) true).burnOtp
  | .eventLog q => (s.endJob (fun w => w == j.why) true).logWritten q
  | _ => s.endJob (fun w => w == j.why) true

/-- A temperature-set record whose writing failed stands as MRAM now holds it, and the write does not count against the next
(R34, R357). -/
def State.setTorn (s : State) (ch p : Nat) : State :=
  let x := s.readSet ch p
  { s with cal := { s.cal with sets := s.cal.sets.set (8 * ch + p) x } }

/-- A record's writing has failed: it is torn, and the operation ends as its chapter gives for a check-word failure (R32, R34). -/
def State.jobFails (s : State) (j : NvmJob) : State :=
  match j.why with
  | .settings none => s.saveDone true
  | .repairMap _ => s.repairWritten false
  | .settings (some m) => (s.endJob (fun w => w == j.why) false).keyPageDone m false
  | .staging => (s.endJob (fun w => w == j.why) false).stageDone false
  | .restart => (s.endJob (fun w => w == j.why) false).activateDone false
  | .calSet ch p => (s.endJob (fun w => w == j.why) false).setTorn ch p
  | _ => s.endJob (fun w => w == j.why) false

/-! ### Words (R32, R33) -/

/-- The job whose word the port accesses. -/
def State.portJob (s : State) : Option NvmJob := s.nvm.jobs.find? (fun j => !j.words.isEmpty)

/-- The port starts the next word access, if any is left. -/
def State.portNext (s : State) : State :=
  { s with nvm := { s.nvm with reqSince := if s.portJob.isSome then some s.now else none } }

/-- A job goes on with other words. -/
def State.setWords (s : State) (j : NvmJob) (l : List (Nat × BitVec 64)) : State :=
  { s with nvm := { s.nvm with jobs := s.nvm.jobs.map (fun x => if x = j then { x with words := l } else x) } }

/-- A word access fails: the word is bad, and the record with it. -/
def State.wordFails (s : State) (j : NvmJob) (addr : Nat) (err : Bool) : State :=
  let t := s.nvmFail addr err j.write
  let t : State := { t with nvm := { t.nvm with badWords := if t.nvm.badWords.contains addr then
    t.nvm.badWords else addr :: t.nvm.badWords } }
  (t.jobFails j).portNext

/-- The word under access is complete: what is left of its record is `rest`. -/
def State.wordLands (s : State) (j : NvmJob) (w : Nat × BitVec 64) (rest : List (Nat × BitVec 64)) : State :=
  let t := (when j.write (fun t => t.landWords [w]) s).setWords j rest
  if rest.isEmpty then t.jobDone { j with words := [] } else t

/-- NVM_ACK: the word under access is complete, or NVM_ERR rose on it. -/
def State.nvmAcked (s : State) (err : Bool) : State :=
  match s.portJob with
  | none => s
  | some j =>
    match j.words with
    | [] => s
    | w :: rest =>
      if err then s.wordFails j w.1 true else (s.wordLands j w rest).portNext

/-- A word has not been acknowledged within 4 drone ticks. -/
def State.nvmLate (s : State) : State :=
  match s.portJob, s.nvm.reqSince with
  | some j, some t0 => if t0 + 4 ≤ s.now then s.wordFails j ((j.words.head?.map (fun w => w.1)).getD 0) false else s
  | _, _ => s

/-! ### NVM_RDY (R34, R93) -/

/-- The work that waits for NVM_RDY: writes of the boot record. -/
def NvmJob.waits (j : NvmJob) : Bool := j.why == .bootRecord || j.why == .readBoot

/-- NVM_RDY falls: no further access starts, the records under way are torn, and the boot-record writes are deferred. Whether the
word under access completes is open (R32: it completes or fails), and comes from a free value; a record whose last word
completes is whole, and ends as any other. -/
def State.nvmFalls (s : State) : State :=
  if !s.pins.nvmRdy then s
  else
    let first := s.portJob.bind (fun j => j.words.head?.map (fun w => (j, w)))
    let t : State := { s with pins := { s.pins with nvmRdy := false } }
    let t := match first with
      | some (j, w) =>
        let u := (t.nvmFail w.1 false j.write).useFree
        if bitAt s.freeVal 0 then u.wordLands j w (j.words.drop 1) else u
      | none => t.nvmFail 0 false false
    let keep := t.nvm.jobs.filter (fun j => j.waits && !j.words.isEmpty)
    let cut := t.nvm.jobs.filter (fun j => !j.waits && !j.words.isEmpty)
    let t : State := { t with nvm := { t.nvm with
      jobs := t.nvm.jobs.filter (fun j => !j.waits || j.words.isEmpty), deferred := t.nvm.deferred ++ keep, reqSince := none } }
    (forAll cut (fun j t => t.jobFails j) t).keyServe

/-- NVM_RDY rises: start-up goes on, or the deferred work is completed in its order. -/
def State.nvmRises (s : State) (env : BootEnv) : State :=
  if s.pins.nvmRdy then s
  else
    let t : State := { s with pins := { s.pins with nvmRdy := true } }
    if t.boot.waiting then t.bootRest env
    else
      let t : State := { t with nvm := { t.nvm with jobs := t.nvm.jobs ++ t.nvm.deferred, deferred := [] } }
      t.portNext.keyServe.drainWrites

/-- NVM_RDY has not risen 1 ms after PWR_GOOD (R93). -/
def State.nvmNever (s : State) : State :=
  if s.boot.waiting ∧ s.boot.stageAt + 2000 ≤ s.now then s.halt .nvm false else s

end Sys2Proof.Machine
end

