-- ==== Sys2Proof/Machine/DroneOps.lean ====
section
/-! DEFINITION. The drone tick with its per-tick checks (R18, R63 to R66, R189, R407), the drones (R378, R379), the fall of PWR_GOOD
(R44) and the update restart (R450). -/

namespace Sys2Proof.Machine

/-! ### Time (R64 to R66) -/

/-- A tick of the timestamp and of the elapsed ticks. -/
def State.timeTick (s : State) : State :=
  { s with time := { s.time with elapsed := s.time.elapsed + 1, stamp := s.time.stamp + 1#48 } }

/-- The steps of the TIME_SETs of one tick, T less the own count each. A later one's own count moves with the steps before it, so that
the timestamp agrees with the host's after each (R65; DEDUCED, log 113). -/
def stepsOf (moved : BitVec 48) : List (BitVec 48 × BitVec 48) → List (BitVec 48)
  | [] => []
  | x :: l => (x.1 - (x.2 + moved)) :: stepsOf (moved + (x.1 - (x.2 + moved))) l

/-- The TIME_SETs since the last tick step the timestamp, in order, each with its event. -/
def State.applySets (s : State) : State :=
  forAll (stepsOf 0#48 s.time.setting) (fun d t =>
    let new := t.time.stamp + d
    ({ t with time := { t.time with stamp := new } } : State).event 0x00 0x0104 0
      [(0, 6, t.time.stamp.toNat), (6, 6, new.toNat)]) { s with time := { s.time with setting := [] } }

/-! ### Ledgers (R18 to R20, R407) -/

/-- A mismatch: FLT_LEDGER, LEDGER_FAIL and the event with the imbalance and the units held. -/
def State.mismatched (s : State) (partner : Bool) (l scope : Nat) (diff : Int) (held sev : Nat) : State :=
  (s.ledgerFails l).eventP partner 0x02 0x0203 sev
    (payload [(0, 1, l), (1, 1, scope), (4, 4, twos 32 diff), (8, 4, held % 2 ^ 32)])

/-- A ledger whose scope is the link, the router or the instance: a mismatch is instance-fatal. -/
def State.checkWhole (s : State) (l scope : Nat) (diff : Int) (held : Nat) : State :=
  if diff = 0 ∨ s.flt.fatal then s
  else (s.mismatched false l scope diff held 4).fatalFault 0x02 0x0203 rsnInstance

/-- A built-in test runs on a channel: its tag and share accounts are not checked (R20, R430). -/
def State.underTest (s : State) (ch : Nat) : Bool := s.rpr.bist.any (fun b => b.ch == ch)

/-- A ledger of one channel: a mismatch fences the channel. -/
def State.checkChan (s : State) (l ch : Nat) (diff : Int) (held : Nat) : State :=
  if diff = 0 ∨ s.chFenced ch ∨ s.underTest ch then s
  else (s.mismatched (decide (32 ≤ ch)) l (ch % 32) diff held 3).fenceUnit .channel ch rsnLedger (some (0x02, 0x0203))

/-- What the four counts of a credit class lack (R145). -/
def Credit.diff (c : Credit) : Int := (c.issued : Int) - (c.consumed + c.pending + c.flying + c.held : Nat)

/-- What the router account of a tag space lacks (R172). -/
def TagAcct.diff (a : TagAcct) : Int := (a.size : Int) - (a.free + a.outstanding + a.quarantined : Nat)

/-- A context holds no more slots than its OUT_LIMIT, or than a commit found it with (R208). -/
def State.outOk (s : State) (k : Nat) : Bool := decide ((s.ctx k).out ≤ max (s.outLimit k) (s.ctx k).allow)

/-- The regulation-slot ledger (R208). -/
def State.checkSlots (s : State) : State :=
  let sum := s.ctxSum (fun _ c => c.out)
  let diff : Int := 6144 - (s.regul.slotFree + sum + s.regul.slotRet : Nat)
  let above := (s.regul.ctx.keysWhere (fun _ => true)).find? (fun k => !s.outOk k)
  match s.rfb RF.REG_LEDGER_OVR, above with
  | true, _ => s
  | false, none => s.checkWhole 4 0 diff s.regul.slotFree
  | false, some k => s.checkWhole 4 0 (if diff = 0 then (s.outLimit k : Int) - (s.ctx k).out else diff) s.regul.slotFree

/-- The token ledger of a channel group, and its refresh balance (R300, R303). -/
def State.checkTokens (s : State) (g : Nat) : State :=
  let p := s.purse g
  let diff : Int := (p.issued : Int) - (p.consumed + p.returned + p.purse + p.refBal + p.muteBal : Nat)
  let ref : Int := (p.refBal : Int) - (s.rf RF.CAP_C_REF * s.owedSum g : Nat)
  let d := if diff = 0 then ref else diff
  if d = 0 ∨ s.rfb RF.CAP_LEDGER_OVR ∨ s.flt.fatal ∨ s.marked .group g then s
  else (s.mismatched false 5 g d (p.purse + p.refBal + p.muteBal) 3).fenceUnit .group g rsnTokens (some (0x02, 0x0203))

/-- An override has been removed: the ledger is re-initialised from the resource state, with an event (R20). Bit 0 is that of the
slots, bit 1 that of the tokens. -/
def State.overridesEnd (s : State) : State :=
  let now0 := b2n (s.rfb RF.REG_LEDGER_OVR) + 2 * b2n (s.rfb RF.CAP_LEDGER_OVR)
  let was := s.flt.ovrSeen
  let t : State := { s with flt := { s.flt with ovrSeen := now0 } }
  let t := when (was.testBit 0 && !now0.testBit 0) (fun t =>
    ({ t with regul := { t.regul with slotFree := 6144 - t.ctxSum (fun _ c => c.out), slotRet := 0 } } : State).event 0x02 0x0204 0
      [(0, 1, 4), (1, 1, 0)]) t
  when (was.testBit 1 && !now0.testBit 1) (fun t => forAll (List.range 16) (fun g t =>
    ((t.syncRefBal g).setPurse g (fun p => { p with
      issued := p.purse + p.refBal + p.muteBal, consumed := 0, returned := 0 })).event 0x02 0x0204 0 [(0, 1, 5), (1, 1, g)]) t) t

/-- The ledger checks of a drone tick, in R18's order. -/
def State.checkLedgers (s : State) : State :=
  let t := s.overridesEnd
  let t := if t.domOn 1 then
      ((t.checkWhole 0 0 t.link.req.diff t.link.req.held).checkWhole 0 1 t.link.wd.diff t.link.wd.held).checkWhole 0 2
        t.link.mgt.diff t.link.mgt.held
    else t
  let t := (t.checkWhole 1 0 t.trx.rdAcct.diff t.trx.rdAcct.free).checkWhole 1 1 t.trx.wrAcct.diff t.trx.wrAcct.free
  let t := forAll t.runChannels (fun ch t =>
    let c := t.chan ch
    t.checkChan 2 ch ((c.acctSent : Int) - (c.acctDone + c.acctHeld : Nat)) c.acctHeld) t
  let t := t.checkWhole 3 0xff (2048 - (t.regul.poolFree + t.regul.poolUsed + t.regul.poolRet : Nat)) t.regul.poolFree
  let t := forAll t.runChannels (fun ch t =>
    let c := t.chan ch
    let d : Int := (c.shareSent : Int) - (c.writes.length + c.shareRet : Nat)
    t.checkChan 3 ch (if d = 0 ∧ 48 < c.writes.length then 48 - (c.writes.length : Int) else d) c.writes.length) t
  forAll (List.range 16) (fun g t => t.checkTokens g) t.checkSlots

/-! ### The progress monitor (R189) -/

/-- A draw of the channel's transfer or insert thread waits at the capo: for its purse, or for a die window (R299, R301). -/
def State.drawWaits (s : State) (ch : Nat) : Bool :=
  ((s.chan ch).xfer.isSome || (s.insertNow ch).isSome) &&
    ((s.chan ch).dieHold || (s.purse (groupOf ch)).wants.any (fun w => w.ch == ch))

/-- Work waits at a point (its numbers are those of `progDone`). -/
def State.progWaits (s : State) (k : Nat) : Bool :=
  if k = 32 then s.trx.reqs.any (fun r => match r.stage with
    | .queued _ => (s.domainsOf r).all (fun d => s.domOn d)
    | .held => !(s.regs.commits.any (fun c => c.deadline.isSome))
    | _ => false)
  else if k = 33 then s.runChannels.any s.drawWaits
  else
    let ch := if k < 32 then k else k - 32
    !s.chFenced ch && s.domOn (chDomain ch) && (!(s.chan ch).reads.isEmpty || !(s.chan ch).writes.isEmpty)

/-- The points watched. -/
def State.progPoints (s : State) : List Nat :=
  List.range 34 ++ (if s.pair.doubleStop then (List.range 32).map (· + 64) else [])

/-- The tick from which a point's waiting work counts. -/
def State.progTick (s : State) : State :=
  forAll s.progPoints (fun k t =>
    { t with trx := { t.trx with prog := t.trx.prog.set k (match t.progWaits k, t.trx.prog.get k with
      | true, some t0 => some t0
      | true, none => some t.now
      | false, _ => none) } }) s

/-- A point has had work waiting and has completed none for PROG_LIMIT drone ticks. -/
def State.progDue (s : State) (k : Nat) : Bool :=
  s.progWaits k && (match s.trx.prog.get k with
    | some t0 => decide (t0 + s.rf RF.TRX_PROG_LIMIT ≤ s.now)
    | none => false)

/-- PROG_STALL and STALL_POINT, the first since the last read. -/
def State.noteStall (s : State) (point : Nat) : State :=
  (when (s.sticky RF.TRX_PROG_STALL 0 == 0) (fun t => t.stickBits RF.TRX_STALL_POINT 0 point) s).stick RF.TRX_PROG_STALL

/-- PROG_STALL at a point: a channel is fenced, its partner channel in double-stop mode likewise; the router's and the capo's stall
is instance-fatal. -/
def State.progStalls (s : State) (point : Nat) : State :=
  if 32 ≤ point then
    if s.progDue point then (((s.noteStall point).event 0x20 0x0206 4 [(0, 1, point)]).progDone point).fatalFault 0x20 0x0206 rsnInstance
    else s
  else
    forAll ([(point, point)] ++ (if s.pair.doubleStop then [(64 + point, 32 + point)] else [])) (fun k t =>
      if t.progDue k.1 then
        (((t.noteStall point).eventP (decide (32 ≤ k.2)) 0x20 0x0206 3 (payload [(0, 1, point)])).progDone k.1).fenceUnit .channel k.2
          rsnStall (some (0x20, 0x0206))
      else t) s

/-! ### The tick (R63) -/

/-- A drone tick: time, the ledgers, the capo's refill, telemetry, holdover, the calibration triggers, the idle counts, the lanes'
equalisation requests, the progress monitor, identity and heartbeat, what the luthier has waiting, and a decision on each channel
that a fence has left without a grant while agents ask (R240). -/
def State.droneTick (s : State) : State :=
  let t := s.timeTick.applySets
  let t : State := { t with regs := { t.regs with sumBusy := false } }
  let t := t.checkLedgers.refill
  let t := when (decide (0 < t.capo.step)) (fun t => t.count 0x6190) t
  let t := t.telemTick.holdTick.judgeRuns
  let t := forAll (List.range 16) (fun g t => t.idleTick g) t
  let t := when (t.pair.step == .entering) State.handbackOn t
  t.failedLanes.eqTick.progTick.identityTick.beatTick.keyServe.drainWrites.unmask.goOn

/-! ### The drones (R378, R379) -/

/-- Both drones have failed: a fault of severity 4. -/
def State.dronesFail (s : State) : State := s.fatalFault 0x01 noCause rsnInstance

/-- The checker declares the primary failed and supplies the tick. -/
def State.primaryFails (s : State) : State :=
  if s.pwr.onChecker then s
  else
    let t := (({ s with pwr := { s.pwr with onChecker := true } } : State).stick RF.PWR_DRONE_SWITCH).event 0x01 0x0504 2 []
    when s.pwr.checkerBad State.dronesFail t

/-- The checker fails its tests against the primary, which continues unless it has failed before. -/
def State.checkerFails (s : State) : State :=
  if s.pwr.checkerBad then s
  else
    let t := (({ s with pwr := { s.pwr with checkerBad := true } } : State).stick RF.PWR_CHECKER_FAIL).event 0x01 0x0505 1 []
    when s.pwr.onChecker State.dronesFail t

/-! ### Power-good (R43, R44) -/

/-- The pins of an instance that is held in reset: what its neighbours drive stays. -/
def State.coldPins (s : State) : PinSt :=
  { PinSt.init s.pins.instId with
    nvmRdy := s.pins.nvmRdy, sfenced := s.pins.sfenced, regOcw := s.pins.regOcw, txLock := s.pins.txLock, wrstN := s.pins.wrstN }

/-- Non-volatile memory as it stands once its writes have stopped. -/
def State.coldNvm (s : State) : NvmSt := { s.nvm with jobs := [], deferred := [], reqSince := none, badWords := [] }

/-- PWR_GOOD falls: every write to MRAM stops between words, every CHn_RST_N is low and the volatile state is lost. -/
def State.powerFalls (s : State) : State := State.cold s.coldPins s.coldNvm s.free s.pending

/-- PWR_GOOD rises: start-up from step 1 (R92). The regulator's supplies are ready by then (R45). -/
def State.powerRises (s : State) (env : BootEnv) : State :=
  ({ s with pins := { s.pins with pwrGood := true, regRdy := 7#3, wrstN := env.wrstN } } : State).startUp env

/-! ### The update restart (R450) -/

/-- The register store of D0: the accesses under way end, the pages of the other domains are lost, and the configuration comes anew
from the settings page. -/
def State.restartRegs (s : State) : RegSt :=
  let t := forAll ((List.range 23).map (· + 1)) (fun d t => t.clearPages d) s
  { t.regs with
    shadow := .const 0#32, force := .const 0#32, touched := .const 0#32, posted := [], stalled := [], commits := [], sumBusy := false }

/-- What an update restart keeps: D0 with time, its sticky bits and counters, the sideband ports' addresses, a pulse of FAULT_N
(R46), the event hold, the drones and the UPD page, and a fatal fault with LEDGER_FAIL, which only PWR_GOOD ends (R406, R407). -/
def State.restartCold (s : State) : State :=
  let pins : PinSt := { s.coldPins with
    pwrGood := true, regRdy := s.pins.regRdy, smpAddr := s.pins.smpAddr, svcAddr := s.pins.svcAddr, daa := s.pins.daa }
  let c := State.cold pins s.coldNvm s.free s.pending
  { c with
    time := s.time
    regs := s.restartRegs
    evt := { c.evt with hold := s.evt.hold, holdLost := s.evt.holdLost }
    flt := { c.flt with
      fatal := s.flt.fatal, pulseEnd := s.flt.pulseEnd, ledgerFail := s.flt.ledgerFail,
        marks := s.flt.marks.filter (fun m => m.unit == .inst) }
    pwr := { c.pwr with
      onChecker := s.pwr.onChecker, checkerBad := s.pwr.checkerBad, lastDom := s.pwr.lastDom, lastReason := s.pwr.lastReason,
      refusals := s.pwr.refusals }
    upd := { c.upd with
      result := s.upd.result, lastCode := s.upd.lastCode, component := s.upd.component, cause := s.upd.cause, late := s.upd.late } }

/-- Two drone ticks after the decision the instance starts again from step 2. -/
def State.restartGoes (s : State) (env : BootEnv) : State :=
  match s.upd.restartAt with
  | none => s
  | some t0 => if t0 ≤ s.now then s.restartCold.startUp env else s

end Sys2Proof.Machine
end

