-- ==== Sys2Proof/Machine/Boot.lean ====
section
/-! DEFINITION. PWR_GOOD, the NVM port and start-up (02_boundary, 05_start_up). -/

namespace Sys2Proof.Machine

/-- PWR_GOOD rises and start-up begins (R92, R397). -/
def opPwrGoodRise (env : BootEnv) (s : State) : State := if s.pins.pwrGood then s else s.powerRises env

/-- PWR_GOOD_RISE. -/
def execPwrGoodRise (env : BootEnv) (s : State) : Host.Outcome State Fault Refusal :=
  actPower true (Instr.wellFormed (.pwrGoodRise env)) s (opPwrGoodRise env s)

/-- PWR_GOOD falls (R44). -/
def opPwrGoodFall (s : State) : State := if s.pins.pwrGood then s.powerFalls else s

/-- PWR_GOOD_FALL. -/
def execPwrGoodFall (s : State) : Host.Outcome State Fault Refusal := actPower false (Instr.wellFormed .pwrGoodFall) s (opPwrGoodFall s)

/-- NVM_RDY has not risen 1 ms after PWR_GOOD (R93). -/
def opNvmRdyTimeout (s : State) : State :=
  s.nvmNever

/-- NVM_RDY_TIMEOUT. -/
def execNvmRdyTimeout (s : State) : Host.Outcome State Fault Refusal :=
  act (Instr.wellFormed .nvmRdyTimeout) s (opNvmRdyTimeout s)


/-- NVM_RDY falls (R34). -/
def opNvmRdyFall (s : State) : State := s.nvmFalls

/-- NVM_RDY_FALL. -/
def execNvmRdyFall (s : State) : Host.Outcome State Fault Refusal :=
  actPin (Instr.wellFormed .nvmRdyFall) s { s with pins := { s.pins with nvmRdy := false } } (opNvmRdyFall s)

/-- NVM_RDY rises (R34, R92). -/
def opNvmRdyRise (env : BootEnv) (s : State) : State := s.nvmRises env

/-- NVM_RDY_RISE. -/
def execNvmRdyRise (env : BootEnv) (s : State) : Host.Outcome State Fault Refusal :=
  actPin (Instr.wellFormed (.nvmRdyRise env)) s { s with pins := { s.pins with nvmRdy := true } } (opNvmRdyRise env s)

/-- The word under access is acknowledged (R32, R33). -/
def opNvmAck (err : Bool) (s : State) : State :=
  s.nvmAcked err

/-- NVM_ACK. -/
def execNvmAck (err : Bool) (s : State) : Host.Outcome State Fault Refusal :=
  act (Instr.wellFormed (.nvmAck err)) s (opNvmAck err s)


/-- The word under access is not acknowledged within 4 drone ticks (R32). -/
def opNvmAccessTimeout (s : State) : State :=
  s.nvmLate

/-- NVM_ACCESS_TIMEOUT. -/
def execNvmAccessTimeout (s : State) : Host.Outcome State Fault Refusal :=
  act (Instr.wellFormed .nvmAccessTimeout) s (opNvmAccessTimeout s)


/-- The initial training of a channel ends (R345, R346). -/
def opTrainingComplete (ch : Nat) (res : TrainResult) (s : State) : State :=
  (s.trainDone ch res).goOn

/-- TRAINING_COMPLETE. -/
def execTrainingComplete (ch : Nat) (res : TrainResult) (s : State) : Host.Outcome State Fault Refusal :=
  act (Instr.wellFormed (.trainingComplete ch res)) s (opTrainingComplete ch res s)


/-- A channel has not passed step 6 within 4.0 ms, 8,000 drone ticks (R347). -/
def opTrainingTimeout (ch : Nat) (s : State) : State :=
  match (s.calCh ch).trainFrom with
  | some t0 => if t0 + 8000 ≤ s.now then (s.trainFails ch rsnTrain).goOn else s
  | none => s

/-- TRAINING_TIMEOUT. -/
def execTrainingTimeout (ch : Nat) (s : State) : Host.Outcome State Fault Refusal :=
  act (Instr.wellFormed (.trainingTimeout ch)) s (opTrainingTimeout ch s)


/-- No course has locked 64 drone ticks into step 10 (R108). -/
def opLinkWaitTimeout (s : State) : State :=
  s.linkWait

/-- LINK_WAIT_TIMEOUT. -/
def execLinkWaitTimeout (s : State) : Host.Outcome State Fault Refusal :=
  act (Instr.wellFormed .linkWaitTimeout) s (opLinkWaitTimeout s)


end Sys2Proof.Machine
end

