-- ==== Sys2Proof/Machine/Calib.lean ====
section
/-! DEFINITION. The commands of calibration (15_calibration, 12_refresh_mute R293). -/

namespace Sys2Proof.Machine

/-- A replica window ends (R343, R360). -/
def opReplicaWindowEnd (g : Nat) (lost : Bool) (s : State) : State :=
  s.windowEnd g lost

/-- REPLICA_WINDOW_END. -/
def execReplicaWindowEnd (g : Nat) (lost : Bool) (s : State) : Host.Outcome State Fault Refusal :=
  act (Instr.wellFormed (.replicaWindowEnd g lost)) s (opReplicaWindowEnd g lost s)


/-- A calibration run ends (R350 to R352, R354, R109). -/
def opCalRunComplete (g : Nat) (ok : Bool) (fret : Nat) (even odd : Trims) (s : State) : State :=
  (s.completeRun g ok fret even odd).goOn

/-- CAL_RUN_COMPLETE. -/
def execCalRunComplete (g : Nat) (ok : Bool) (fret : Nat) (even odd : Trims) (s : State) : Host.Outcome State Fault Refusal :=
  act (Instr.wellFormed (.calRunComplete g ok fret even odd)) s (opCalRunComplete g ok fret even odd s)


/-- After 64 bursts a correction moves by one step (R352). -/
def opSlewStep (ch : Nat) (s : State) : State :=
  s.slewOnce ch

/-- SLEW_STEP. -/
def execSlewStep (ch : Nat) (s : State) : Host.Outcome State Fault Refusal :=
  act (Instr.wellFormed (.slewStep ch)) s (opSlewStep ch s)


/-- An idle period applies all pending corrections (R353). -/
def opIdlePeriod (ch : Nat) (s : State) : State :=
  s.applyIdle ch

/-- IDLE_PERIOD. -/
def execIdlePeriod (ch : Nat) (s : State) : Host.Outcome State Fault Refusal :=
  act (Instr.wellFormed (.idlePeriod ch)) s (opIdlePeriod ch s)


/-- No idle period has come within IDLE_WAIT (R352). -/
def opIdleWaitExpiry (ch : Nat) (s : State) : State :=
  s.forceSlew ch

/-- IDLE_WAIT_EXPIRY. -/
def execIdleWaitExpiry (ch : Nat) (s : State) : Host.Outcome State Fault Refusal :=
  act (Instr.wellFormed (.idleWaitExpiry ch)) s (opIdleWaitExpiry ch s)


/-- A retraining ends (R348, R402, R423). -/
def opRetrainComplete (ch : Nat) (res : TrainResult) (s : State) : State :=
  (s.endRetrain ch res).goOn

/-- RETRAIN_COMPLETE. -/
def execRetrainComplete (ch : Nat) (res : TrainResult) (s : State) : Host.Outcome State Fault Refusal :=
  act (Instr.wellFormed (.retrainComplete ch res)) s (opRetrainComplete ch res s)


/-- A write of CAL_RUN (R350). -/
def opCalRun (a : Access) (groups : BitVec 16) (s : State) : State :=
  s.writeReg a 0x7024 (groups.setWidth 32) none true

/-- CAL_RUN. -/
def execCalRun (a : Access) (groups : BitVec 16) (s : State) : Host.Outcome State Fault Refusal :=
  act (Instr.wellFormed (.calRun a groups)) s (opCalRun a groups s)


/-- A write of CAL_RETRAIN (R348). -/
def opCalRetrain (a : Access) (ch : Nat) (full : Bool) (s : State) : State :=
  s.writeReg a 0x7028 (BitVec.ofNat 32 (ch + b2n full * 2 ^ 31)) none true

/-- CAL_RETRAIN. -/
def execCalRetrain (a : Access) (ch : Nat) (full : Bool) (s : State) : Host.Outcome State Fault Refusal :=
  act (Instr.wellFormed (.calRetrain a ch full)) s (opCalRetrain a ch full s)


/-- A write of REF_SUSCLR (R293). -/
def opRefSusclr (a : Access) (ch : Nat) (s : State) : State :=
  s.writeReg a 0xb001c (BitVec.ofNat 32 ch) none true

/-- REF_SUSCLR. -/
def execRefSusclr (a : Access) (ch : Nat) (s : State) : Host.Outcome State Fault Refusal :=
  act (Instr.wellFormed (.refSusclr a ch)) s (opRefSusclr a ch s)


end Sys2Proof.Machine
end

