-- ==== Sys2Proof/Machine/Channel.lean ====
section
/-! DEFINITION. The commands of the channel engines (10_channel_scheduling, 11_tablature, 12_refresh_mute): requests of
agents, tab rows, bursts, refresh credits, latches and sentinels. -/

namespace Sys2Proof.Machine

/-! ### Corrections, column entries and the scrub's lines (R293, R315, R423, R429) -/

/-- The DQ bit whose symbols are erased for a line (R429). -/
def State.erasedBit (s : State) (ch bank col : Nat) : Option Nat :=
  ((s.rmap ch).column.find? (fun e => e.2.1 == bank && e.2.2 == col)).map (fun e => e.1)

/-- A correction counts against its DQ bit; at TSV_THRESH within 1,024 drone ticks CAL retrains the channel with step 5
for that bit, whose count starts again (R423). -/
def State.noteCorrection (s : State) (ch bit : Nat) : State :=
  let k := 36 * ch + bit
  let l := corrMore s.now (s.rpr.corr.get k)
  let steer := s.rfb RF.RPR_AUTO_STEER && decide (s.rf RF.RPR_TSV_THRESH ≤ l.foldl (fun n p => n + p.2) 0)
  let t : State := { s with rpr := { s.rpr with corr := s.rpr.corr.set k (if steer then [] else l) } }
  if steer then t.retrain ch false [bit] else t

/-- The DQ bits that the engine corrects in a burst of a line, by the layout that it decodes. -/
def correctedIn (line : Option ArrayLine) (expert : Bool) (bit : Option Nat) (err : BitVec 576) : List Nat :=
  let syms := unerased bit (symbolsIn err)
  match line with
  | some x => if !x.void && x.expert == expert && decide (syms.length ≤ fixable expert bit.isSome) then syms.map (fun j => j / 2) else []
  | none => []

/-- A burst that a scrub has captured is checked: its status counts as a read's, a corrected line goes to SCRB's line buffer to be
written back, and a retention-suspect bank counts a line that reads POISON or ERR (R293, R315). -/
def State.scrubLook (s : State) (ch : Nat) (e : Nat × Nat × Nat × Got) : State :=
  match e with
  | (b, row, col, g) =>
    let bit := s.erasedBit ch b col
    let err := g.err.setWidth 576
    let st := scrubLine g.line bit err s.freeVal
    let t := s.useFree
    let t := match g.line with
      | none => t
      | some x =>
        let t := t.noteStatus st ch b row x.laddr x.key
        let t := forAll (correctedIn g.line x.expert bit err) (fun d t => t.noteCorrection ch d) t
        if st = stCorrected then t.setChan ch (fun c => { c with scrubBuf := c.scrubBuf ++ [(b, row, col, x)] }) else t
    if (st = stPoison ∨ st = stErr) ∧ (t.bank ch b).scrubAt.isSome then
      t.setBank ch b (fun x => { x with scrubBad := x.scrubBad + 1 })
    else t

/-- The line-protection engine checks the bursts that SCRB has captured. -/
def State.scrubChecked (s : State) (ch : Nat) : State :=
  forAll (s.chan ch).scrubGot (fun e t => t.scrubLook ch e) (s.setChan ch (fun c => { c with scrubGot := [] }))

/-! ### Requests, rows and bursts -/

/-- An agent starts requesting the channel at fret `t` (R240, R242, R256). -/
def opAgentRequest (ch : Nat) (a : Agent) (t : Nat) (s : State) : State :=
  ((s.setChan ch (fun c => { c with clock := max c.clock t })).agentAsks ch a).settleG2

/-- AGENT_REQUEST. -/
def execAgentRequest (ch : Nat) (a : Agent) (s : State) (t : Nat := 0) : Host.Outcome State Fault Refusal :=
  act (Instr.wellFormed (.agentRequest ch a t)) s (opAgentRequest ch a t s)

/-- What follows the rows and bursts of a channel: requests that waited for an entry go on (R227), a calibration run that waited
for its group to wake starts (R359), and a group whose core dies have all reached self-refresh for DEEP leaves with its domain,
which a request that waits for it wakes again (R287, R370). -/
def State.afterRows (s : State) (ch : Nat) : State :=
  let t := (((s.scrubChecked ch).resumeAll ch).startDue (calGroupOf ch)).settleG2
  let u := t.deepDone (groupOf ch)
  when (t.domOn (chDomain ch) && !u.domOn (chDomain ch)) (fun u => forAll (u.trx.reqs.filter (fun r =>
    (match r.stage with | .queued _ => true | _ => false) && (u.domainsOf r).contains (chDomain ch))) (fun _ u =>
      u.wake (chDomain ch)) u) u

/-- The preemption point of a decided preemption (R243). -/
def opPreemptionPoint (ch : Nat) (s : State) : State := (s.preemptNow ch).settleG2

/-- PREEMPTION_POINT. -/
def execPreemptionPoint (ch : Nat) (s : State) : Host.Outcome State Fault Refusal :=
  act (Instr.wellFormed (.preemptionPoint ch)) s (opPreemptionPoint ch s)

/-- A tab row issues at fret `t`, of the insert thread or of the running transfer; `room` tells whether the data path has room
for its burst, and `flip` which command bits reach the SID inverted (R246, R253, R254, R260). -/
def opTabRowIssue (ch : Nat) (insert : Bool) (t : Nat) (room : Bool) (flip : BitVec 40) (s : State) : State :=
  let u := match insert with
    | true => s.issueInsert ch t room flip
    | false => (s.checkMask ch).issueRow ch t room flip
  let sent := (u.chan ch).rowBus != (s.chan ch).rowBus || (u.chan ch).colBus != (s.chan ch).colBus
  (when sent (fun u => u.progDone (if ch < 32 then ch else 32 + ch)) u).afterRows ch

/-- TAB_ROW_ISSUE. -/
def execTabRowIssue (ch : Nat) (insert : Bool) (t : Nat) (s : State) (room : Bool := true) (flip : BitVec 40 := 0#40) :
    Host.Outcome State Fault Refusal :=
  act (Instr.wellFormed (.tabRowIssue ch insert t room flip)) s (opTabRowIssue ch insert t room flip s)

/-- The slot that the line-protection engine loads for the channel's next burst: that of the write-share line it drains. -/
def State.drainSlot (s : State) (ch : Nat) : Option Nat :=
  match (s.chan ch).flights with
  | f :: _ => match f.work with
    | .wrLine l q => ((s.chan ch).wrOf l q).map (fun w => w.key)
    | _ => none
  | [] => none

/-- A burst completes (R228, R237). `bad` names the copies of the slot loaded for it whose check fails (R323). -/
def opBurstComplete (ch : Nat) (pre : Option Nat) (err : Beats) (bad : Nat) (s : State) : State :=
  let t := match s.drainSlot ch with
    | some k => s.spoil (decide (32 ≤ ch)) k bad
    | none => s
  (t.burstDone ch pre err).afterRows ch

/-- BURST_COMPLETE. -/
def execBurstComplete (ch : Nat) (s : State) (pre : Option Nat := none) (err : BitVec 640 := 0#640) (bad : Nat := 0) :
    Host.Outcome State Fault Refusal :=
  act (Instr.wellFormed (.burstComplete ch pre err bad)) s (opBurstComplete ch pre err bad s)

/-- CAL asks every SID of each active channel for its STATUS every STAT_POLL drone ticks (R266), the partner's channels that this
instance runs with them (R392). -/
def opStatPoll (s : State) : State :=
  forAll (List.range (if s.shared then 64 else 32)) (fun ch t =>
    if s.now % s.rfch RF.TAB_STAT_POLL ch = 0 ∧ (s.pwr.cgs.get (groupOf ch)).st = .active ∧ s.domOn (chDomain ch) ∧
        (ch < 32 ∨ (s.chan ch).rest = .awake) ∧ !s.resetDriven ch then
      t.setChan ch (fun c => { c with statusDue := [0, 1, 2, 3] })
    else t) s

/-- STAT_POLL. -/
def execStatPoll (s : State) : Host.Outcome State Fault Refusal :=
  act (Instr.wellFormed .statPoll) s (opStatPoll s)

/-- A bank's idle timer expires: the bank becomes close-due, unless a running transfer has selected it (R233, R235). -/
def opBankIdleTimeout (ch b : Nat) (s : State) : State :=
  let busy := match (s.chan ch).xfer with | some x => x.work.filterMap (s.chan ch).workBank | none => []
  if (s.bank ch b).idleRun && (s.bank ch b).openRow.isSome then
    s.setBank ch b (fun x => { x with idleRun := false, closeDue := !busy.contains b })
  else s

/-- BANK_IDLE_TIMEOUT. -/
def execBankIdleTimeout (ch b : Nat) (s : State) : Host.Outcome State Fault Refusal :=
  act (Instr.wellFormed (.bankIdleTimeout ch b)) s (opBankIdleTimeout ch b s)

/-- The slot timer expires: a slot boundary, at which a new band takes effect, and one credit; REF forces where the
credit brings its bank to the limit (R272 to R275). A partner channel has credits from the declaration of its failure on (R390). -/
def opSlotTimerExpiry (ch : Nat) (s : State) : State :=
  if s.creditsEarly ch then s.creditEarly ch
  else if s.clocked ch then
    ((s.takeBand ch).credit ch).refLimits ch
  else s

/-- SLOT_TIMER_EXPIRY. -/
def execSlotTimerExpiry (ch : Nat) (s : State) : Host.Outcome State Fault Refusal :=
  act (Instr.wellFormed (.slotTimerExpiry ch)) s (opSlotTimerExpiry ch s)

/-- The result of a MIT_READ arrives (R262, R282). -/
def opMitlatchRx (ch sid : Nat) (s : State) : State :=
  match (s.chan ch).latchRead with
  | some x => if x.sid = sid then ((s.takeLatches ch sid x.rows).muteMarks ch).serveWaiting ch else s
  | none => s

/-- MITLATCH_RX. -/
def execMitlatchRx (ch sid : Nat) (s : State) : Host.Outcome State Fault Refusal :=
  act (Instr.wellFormed (.mitlatchRx ch sid)) s (opMitlatchRx ch sid s)

/-- A bank's hot period ends (R282). -/
def opHotPeriodExpiry (ch b : Nat) (s : State) : State :=
  match (s.bank ch b).hotUntil with
  | some t => if t ≤ s.now then s.setBank ch b (fun x => { x with hotUntil := none }) else s
  | none => s

/-- HOT_PERIOD_EXPIRY. -/
def execHotPeriodExpiry (ch b : Nat) (s : State) : Host.Outcome State Fault Refusal :=
  act (Instr.wellFormed (.hotPeriodExpiry ch b)) s (opHotPeriodExpiry ch b s)

/-- Every bank has received 4,096 credits of the exit sweep: it ends (R289). -/
def opExitSweepEnd (ch : Nat) (s : State) : State :=
  if (s.chan ch).sweep = some 0 then s.setChan ch (fun c => { c with sweep := none }) else s

/-- EXIT_SWEEP_END. -/
def execExitSweepEnd (ch : Nat) (s : State) : Host.Outcome State Fault Refusal :=
  act (Instr.wellFormed (.exitSweepEnd ch)) s (opExitSweepEnd ch s)

/-- SENT_CHECK has read a bank's sentinel after a deep self-refresh: a CRC-32C that differs from the stored one, or a stored word whose
parity fails, makes the bank retention-suspect (R292, R293). `crc` is what the bits that the core die has lost change in the CRC-32C, 0
where it has lost none; `parityOk` tells that the stored word has lost no bit (log 138). Other agents then use the bank. -/
def opSentCheckResult (ch b : Nat) (crc : Word) (parityOk : Bool) (s : State) : State :=
  match (s.bank ch b).mustCheck, (s.chan ch).sentGot.find? (fun e => e.1 == b), s.pwr.sentinels.get (64 * ch + b) with
  | true, some e, some kept =>
    let parityOk := parityOk && oddOnes kept.1 == kept.2
    let good := parityOk && kept.1 == (crc32c (burstBytes e.2) ^^^ crc)
    let t := (s.setBank ch b (fun x => { x with mustCheck := false })).count 0xb0120
    let t := t.setChan ch (fun c => { c with sentGot := c.sentGot.filter (fun e => e.1 != b) })
    let t : State := { t with pwr := { t.pwr with sentinels := t.pwr.sentinels.set (64 * ch + b) none } }
    let t := when (!parityOk) (fun t => t.stick RF.REF_SENT_STORE_ERR) t
    let t := when (!good) (fun t => t.suspect ch b) t
    let t := t.askAll ch
    if (List.range 64).any (fun i => (t.chan ch).checkDue i || (t.bank ch i).scrubAt.isSome) then t.agentAsks ch .scrb else t
  | _, _, _ => s

/-- SENT_CHECK_RESULT. -/
def execSentCheckResult (ch b : Nat) (crc : Word) (parityOk : Bool) (s : State) : Host.Outcome State Fault Refusal :=
  act (Instr.wellFormed (.sentCheckResult ch b crc parityOk)) s (opSentCheckResult ch b crc parityOk s)

/-- The scrub of a suspect bank has read its last row, with its count of lines that read POISON or ERR, `counted` those among them
whose damage no burst has shown; under SENT_FENCE UNCORR any such line fences the bank (R293). -/
def opSuspectScrubEnd (ch b counted : Nat) (s : State) : State :=
  if (s.bank ch b).scrubAt = some 32768 then
    let t := s.setBank ch b (fun x => { x with scrubAt := none })
    if s.rfch RF.REF_SENT_FENCE ch = 1 ∧ 0 < counted + (s.bank ch b).scrubBad then
      t.fenceUnit .bank (64 * ch + b) rsnSentinel (some (0x40 + ch % 32, 0x0404))
    else t
  else s

/-- SUSPECT_SCRUB_END. -/
def execSuspectScrubEnd (ch b counted : Nat) (s : State) : Host.Outcome State Fault Refusal :=
  act (Instr.wellFormed (.suspectScrubEnd ch b counted)) s (opSuspectScrubEnd ch b counted s)

end Sys2Proof.Machine
end

