-- ==== Sys2Proof/Machine/Control.lean ====
section
/-! DEFINITION. The commands of the control plane (04_control_plane, 08_address_mapping, 05_start_up R116). -/

namespace Sys2Proof.Machine

/-- A write of SYS_COMMIT (R78, R81). -/
def opSysCommit (a : Access) (groups : BitVec 16) (s : State) : State :=
  s.writeReg a 0x10 (groups.setWidth 32) none true

/-- SYS_COMMIT. -/
def execSysCommit (a : Access) (groups : BitVec 16) (s : State) : Host.Outcome State Fault Refusal :=
  act (Instr.wellFormed (.sysCommit a groups)) s (opSysCommit a groups s)


/-- The oldest queued commit is checked (R79). -/
def opCommitCheck (s : State) : State :=
  s.checkNext

/-- COMMIT_CHECK. -/
def execCommitCheck (s : State) : Host.Outcome State Fault Refusal :=
  act (Instr.wellFormed .commitCheck) s (opCommitCheck s)


/-- A group of the commit in its apply phase reaches its safe point; G2 and G4 channel by channel (R80). -/
def opGroupApply (g ch : Nat) (s : State) : State :=
  (s.applyGroup g ch).releaseHeld.goOn

/-- GROUP_APPLY. -/
def execGroupApply (g ch : Nat) (s : State) : Host.Outcome State Fault Refusal :=
  act (Instr.wellFormed (.groupApply g ch)) s (opGroupApply g ch s)


/-- The map switch passes the admission mutex, and what waited for it goes on (R198). -/
def opMapSwitch (s : State) : State :=
  s.switchMap.releaseHeld

/-- MAP_SWITCH. -/
def execMapSwitch (s : State) : Host.Outcome State Fault Refusal :=
  act (Instr.wellFormed .mapSwitch) s (opMapSwitch s)


/-- COMMIT_WAIT has passed without quiesce, and what waited for the switch goes on (R197). -/
def opCommitWaitExpiry (s : State) : State :=
  s.mapWaitOver.releaseHeld

/-- COMMIT_WAIT_EXPIRY. -/
def execCommitWaitExpiry (s : State) : Host.Outcome State Fault Refusal :=
  act (Instr.wellFormed .commitWaitExpiry) s (opCommitWaitExpiry s)


/-- A register write without a row of its own (R74, R77, R85, R86). -/
def opRegisterWrite (a : Access) (off : Nat) (val : Word) (s : State) : State :=
  s.writeReg a (4 * off) val none false

/-- REGISTER_WRITE. -/
def execRegisterWrite (a : Access) (off : Nat) (val : Word) (s : State) : Host.Outcome State Fault Refusal :=
  act (Instr.wellFormed (.registerWrite a off val)) s (opRegisterWrite a off val s)


/-- A posted write to a page takes effect, or is discarded with its domain (R85, R87). -/
def opPostedWriteEffect (page : Nat) (s : State) : State :=
  s.postedEffect page

/-- POSTED_WRITE_EFFECT. -/
def execPostedWriteEffect (page : Nat) (s : State) : Host.Outcome State Fault Refusal :=
  act (Instr.wellFormed (.postedWriteEffect page)) s (opPostedWriteEffect page s)


/-- A read of a register whose domain is not on wakes it and stalls (R88). -/
def opSleepingDomainRead (a : Access) (off : Nat) (s : State) : State :=
  s.readReg a (4 * off) none

/-- SLEEPING_DOMAIN_READ. -/
def execSleepingDomainRead (a : Access) (off : Nat) (s : State) : Host.Outcome State Fault Refusal :=
  act (Instr.wellFormed (.sleepingDomainRead a off)) s (opSleepingDomainRead a off s)


/-- A read of a register with RC fields clears the bits it returned as 1 (R89, R338). -/
def opRcRead (a : Access) (off : Nat) (s : State) : State :=
  s.readReg a (4 * off) none

/-- RC_READ. -/
def execRcRead (a : Access) (off : Nat) (s : State) : Host.Outcome State Fault Refusal :=
  act (Instr.wellFormed (.rcRead a off)) s (opRcRead a off s)


/-- A read of a low word latches its high word for the path (R82, R64). -/
def opCounterLowRead (a : Access) (off : Nat) (s : State) : State :=
  s.readReg a (4 * off) none

/-- COUNTER_LOW_READ. -/
def execCounterLowRead (a : Access) (off : Nat) (s : State) : Host.Outcome State Fault Refusal :=
  act (Instr.wellFormed (.counterLowRead a off)) s (opCounterLowRead a off s)


/-- A write of SNAP (R83). -/
def opSysSnap (a : Access) (s : State) : State :=
  s.writeReg a 0x60 1#32 none true

/-- SYS_SNAP. -/
def execSysSnap (a : Access) (s : State) : Host.Outcome State Fault Refusal :=
  act (Instr.wellFormed (.sysSnap a)) s (opSysSnap a s)


/-- The capture ends (R83, R84). -/
def opSnapCaptureComplete (s : State) : State :=
  s.snapEnd

/-- SNAP_CAPTURE_COMPLETE. -/
def execSnapCaptureComplete (s : State) : Host.Outcome State Fault Refusal :=
  act (Instr.wellFormed .snapCaptureComplete) s (opSnapCaptureComplete s)


/-- A write of CAPTURE (R183). -/
def opSysSumctlCapture (a : Access) (s : State) : State :=
  s.writeReg a 0x80 1#32 none true

/-- SYS_SUMCTL_CAPTURE. -/
def execSysSumctlCapture (a : Access) (s : State) : Host.Outcome State Fault Refusal :=
  act (Instr.wellFormed (.sysSumctlCapture a)) s (opSysSumctlCapture a s)


/-- An SMP read of the summary captures it at one instant (R183, R469). -/
def opSmpSummaryRead (s : State) : State :=
  s.captureWindow

/-- SMP_SUMMARY_READ. -/
def execSmpSummaryRead (s : State) : Host.Outcome State Fault Refusal :=
  act (Instr.wellFormed .smpSummaryRead) s (opSmpSummaryRead s)


/-- A write of SAVE (R116). -/
def opSysSave (a : Access) (s : State) : State :=
  s.writeReg a 0x88 0x10000#32 none true

/-- SYS_SAVE. -/
def execSysSave (a : Access) (s : State) : Host.Outcome State Fault Refusal :=
  act (Instr.wellFormed (.sysSave a)) s (opSysSave a s)


/-- The settings page has been written, or has failed (R116, R34). -/
def opSaveComplete (failed : Bool) (s : State) : State :=
  s.saveDone failed

/-- SAVE_COMPLETE. -/
def execSaveComplete (failed : Bool) (s : State) : Host.Outcome State Fault Refusal :=
  act (Instr.wellFormed (.saveComplete failed)) s (opSaveComplete failed s)


/-- A transfer to this target's address on the SMP is acknowledged and wakes domains (R35, R37, R374). -/
def opSmpAddressMatch (x : SmpXfer) (s : State) : State := s.smpTransfer x

/-- SMP_ADDRESS_MATCH. -/
def execSmpAddressMatch (s : State) (x : SmpXfer := .sdr 0#7) : Host.Outcome State Fault Refusal :=
  act (Instr.wellFormed (.smpAddressMatch x)) s (opSmpAddressMatch x s)


end Sys2Proof.Machine
end

