-- ==== Sys2Proof/Machine/Drone.lean ====
section
/-! DEFINITION. The drone tick, the drones and holdover (03_self_timed_core, 16_power_domains R378, R379). -/

namespace Sys2Proof.Machine

/-- A drone tick (R63). -/
def opDroneTick (s : State) : State :=
  s.droneTick.serveIdle

/-- DRONE_TICK. -/
def execDroneTick (s : State) : Host.Outcome State Fault Refusal :=
  act (Instr.wellFormed .droneTick) s (opDroneTick s)


/-- The checker declares the primary failed (R378). -/
def opDronePrimaryFail (s : State) : State :=
  s.primaryFails

/-- DRONE_PRIMARY_FAIL. -/
def execDronePrimaryFail (s : State) : Host.Outcome State Fault Refusal :=
  act (Instr.wellFormed .dronePrimaryFail) s (opDronePrimaryFail s)


/-- The checker fails its tests (R379). -/
def opDroneCheckerFail (s : State) : State :=
  s.checkerFails

/-- DRONE_CHECKER_FAIL. -/
def execDroneCheckerFail (s : State) : Host.Outcome State Fault Refusal :=
  act (Instr.wellFormed .droneCheckerFail) s (opDroneCheckerFail s)


/-- Holdover ends without a locked course (R62). -/
def opHoldoverExpiry (s : State) : State :=
  s.endHoldover

/-- HOLDOVER_EXPIRY. -/
def execHoldoverExpiry (s : State) : Host.Outcome State Fault Refusal :=
  act (Instr.wellFormed .holdoverExpiry) s (opHoldoverExpiry s)


end Sys2Proof.Machine
end

