-- ==== Sys2Proof/Machine/Faults.lean ====
section
/-! DEFINITION. The commands of faults, fences, the event recorder and entropy (18_faults_events, 07_rila_transactions R189, 14_security R327, R433). -/

namespace Sys2Proof.Machine

/-- A progress point has stalled (R189). -/
def opProgStall (point : Nat) (s : State) : State :=
  s.progStalls point

/-- PROG_STALL. -/
def execProgStall (point : Nat) (s : State) : Host.Outcome State Fault Refusal :=
  act (Instr.wellFormed (.progStall point)) s (opProgStall point s)


/-- The FAULT_N pulse has run out (R408). -/
def opFaultNPulseEnd (s : State) : State :=
  s.pulseOver

/-- FAULT_N_PULSE_END. -/
def execFaultNPulseEnd (s : State) : Host.Outcome State Fault Refusal :=
  act (Instr.wellFormed .faultNPulseEnd) s (opFaultNPulseEnd s)


/-- A write of FLT_CTL with OP FENCE (R402). -/
def opFltFence (a : Access) (val : Word) (s : State) : State :=
  s.writeReg a 0x2020 (putBits val 31 28 1) none true

/-- FLT_FENCE. -/
def execFltFence (a : Access) (val : Word) (s : State) : Host.Outcome State Fault Refusal :=
  act (Instr.wellFormed (.fltFence a val)) s (opFltFence a val s)


/-- A write of FLT_CTL with OP UNFENCE (R402, R403), with the outcome of a line-protection half's self-tests. -/
def opFltUnfence (a : Access) (val : Word) (selfTestOk : Bool) (s : State) : State :=
  let v := putBits val 31 28 2
  if s.domOn 5 ∧ !s.busy (busyKey 0x2020) ∧ !s.pathWaits (pathNum a.path) ∧ !s.writeBad (s.accessLevel a) 0x2020 v ∧
      !s.closedTo a.path 0x1000 then
    ((s.accessDom 5).ctlUnfence v selfTestOk).ackWrite a 0x2020 v none false
  else s.writeReg a 0x2020 v none true

/-- FLT_UNFENCE. -/
def execFltUnfence (a : Access) (val : Word) (selfTestOk : Bool) (s : State) : Host.Outcome State Fault Refusal :=
  act (Instr.wellFormed (.fltUnfence a val selfTestOk)) s (opFltUnfence a val selfTestOk s)


/-- A write of FLT_PIN with DRIVE = 1 (R409). -/
def opFltPinHold (a : Access) (seq : Byte) (s : State) : State :=
  s.writeReg a 0x2018 (BitVec.ofNat 32 (1 + seq.toNat * 2 ^ 8)) none true

/-- FLT_PIN_HOLD. -/
def execFltPinHold (a : Access) (seq : Byte) (s : State) : Host.Outcome State Fault Refusal :=
  act (Instr.wellFormed (.fltPinHold a seq)) s (opFltPinHold a seq s)


/-- A write of FLT_PIN with DRIVE = 0 (R409). -/
def opFltPinRelease (a : Access) (seq : Byte) (s : State) : State :=
  s.writeReg a 0x2018 (BitVec.ofNat 32 (seq.toNat * 2 ^ 8)) none true

/-- FLT_PIN_RELEASE. -/
def execFltPinRelease (a : Access) (seq : Byte) (s : State) : Host.Outcome State Fault Refusal :=
  act (Instr.wellFormed (.fltPinRelease a seq)) s (opFltPinRelease a seq s)


/-- A write of EVT_VIEW (R414). -/
def opEvtView (a : Access) (seq : Nat) (s : State) : State :=
  s.writeReg a 0x3010 (BitVec.ofNat 32 seq) none true

/-- EVT_VIEW. -/
def execEvtView (a : Access) (seq : Nat) (s : State) : Host.Outcome State Fault Refusal :=
  act (Instr.wellFormed (.evtView a seq)) s (opEvtView a seq s)


/-- A write of EVT_LOGIDX (R420). -/
def opEvtLogidx (a : Access) (slot : Nat) (s : State) : State :=
  s.writeReg a 0x3048 (BitVec.ofNat 32 slot) none true

/-- EVT_LOGIDX. -/
def execEvtLogidx (a : Access) (slot : Nat) (s : State) : Host.Outcome State Fault Refusal :=
  act (Instr.wellFormed (.evtLogidx a slot)) s (opEvtLogidx a slot s)


/-- PERSIST_DELAY has passed since the newest record was created (R415). -/
def opPersistDelayExpiry (s : State) : State :=
  s.persistDue

/-- PERSIST_DELAY_EXPIRY. -/
def execPersistDelayExpiry (s : State) : Host.Outcome State Fault Refusal :=
  act (Instr.wellFormed .persistDelayExpiry) s (opPersistDelayExpiry s)


/-- The luthier writes a queued record to the log (R416). -/
def opEventPersist (s : State) : State :=
  s.persistNext

/-- EVENT_PERSIST. -/
def execEventPersist (s : State) : Host.Outcome State Fault Refusal :=
  act (Instr.wellFormed .eventPersist) s (opEventPersist s)


/-- The log scan ends (R417). -/
def opLogScanDone (s : State) : State :=
  s.logScanned

/-- LOG_SCAN_DONE. -/
def execLogScanDone (s : State) : Host.Outcome State Fault Refusal :=
  act (Instr.wellFormed .logScanDone) s (opLogScanDone s)


/-- A write of LOCK = 1 (R433). -/
def opSecLock (a : Access) (s : State) : State :=
  s.writeReg a 0x500c 1#32 none true

/-- SEC_LOCK. -/
def execSecLock (a : Access) (s : State) : Host.Outcome State Fault Refusal :=
  act (Instr.wellFormed (.secLock a)) s (opSecLock a s)


/-- A test of the entropy source has failed: the DRBG is out of service until the start-up test passes, which is repeated every 1,024
drone ticks (R327). -/
def State.entropyFails (s : State) (test : Nat) : State :=
  (({ s with sec := { s.sec with drbgOk := false, retestAt := some (s.now + 1024) } } : State).stick RF.SEC_ENTROPY_FAIL).event 0x05
    0x0703 2 [(0, 1, test)]

/-- A continuous health test fails while the DRBG is in service: the repetition count test (0) or the adaptive proportion test (1), and
only on `raw` bits that fail it where the command brings them (R327). -/
def opEntropyHealthFail (test : Nat) (raw : Option (BitVec 1024)) (s : State) : State :=
  let fails := match raw with
    | some w => if test = 0 then rctFails w else if test = 1 then aptFails w else rctFails w || aptFails w
    | none => true
  if s.sec.drbgOk && fails then s.entropyFails test else s

/-- ENTROPY_HEALTH_FAIL. -/
def execEntropyHealthFail (test : Nat) (s : State) (raw : Option (BitVec 1024) := none) : Host.Outcome State Fault Refusal :=
  act (Instr.wellFormed (.entropyHealthFail test raw)) s (opEntropyHealthFail test raw s)


/-- The start-up test is repeated: both tests over 1,024 samples, which `raw` holds where the command brings them (R327). -/
def opEntropyRetest (pass : Bool) (raw : Option (BitVec 1024)) (s : State) : State :=
  match s.sec.retestAt with
  | none => s
  | some t0 =>
    if s.now < t0 then s
    else if pass && raw.all (fun w => !rctFails w && !aptFails w) then ({ s with sec := { s.sec with retestAt := none } } : State).startDrbg
    else s.entropyFails 2

/-- ENTROPY_RETEST. -/
def execEntropyRetest (pass : Bool) (s : State) (raw : Option (BitVec 1024) := none) : Host.Outcome State Fault Refusal :=
  act (Instr.wellFormed (.entropyRetest pass raw)) s (opEntropyRetest pass raw s)


end Sys2Proof.Machine
end

