-- ==== Sys2Proof/Machine/BlockOps.lean ====
section
/-! DEFINITION. Reception up to the flit (R119 to R127, R131 to R134): blocks of a lane's stream, markers, control blocks, the flits
that data blocks make, and their decoding and verification. -/

namespace Sys2Proof.Machine

/-! ### A received flit (R131 to R134) -/

/-- The extended count nearest an expected one whose low 12 bits were received, modulo 2^40 (R134). -/
def nearest40 (want field : Nat) : Nat :=
  let d := (field + 4096 - want % 4096) % 4096
  (want + 2 ^ 40 + (if d < 2048 then d else d + 2 ^ 40 - 4096)) % 2 ^ 40

/-- The IV of a downstream flit (R134): its SEQ is nearest E, and its ACK nearest the last sequenced flit sent. -/
def Course.rxIv (x : Course) (c : Nat) (hdr : BitVec 64) : BitVec 96 :=
  BitVec.ofNat 96 (c * 2 ^ 92 + b2n (fType hdr == 0) * 2 ^ 90 + fKind hdr * 2 ^ 84 + nearest40 x.expect (fSeq hdr) * 2 ^ 40 +
    nearest40 (x.next + 2 ^ 40 - 1) (fAck hdr))

/-- The 512 bytes of a flit go through R132's steps: FEC, CRC-32C, the type, GCM verification where the course is encrypted, and then
its acknowledgement, SEQ and contents. No bytes stand for a flit of which a lane is missing (R131). -/
def State.flitBytesRx (s : State) (c : Nat) (flit : Option (List Byte)) : State :=
  match flit.bind fecDecode with
  | none => s.flitFails c .fec []
  | some (f, fixed) =>
    let hdr := flitHeader f
    if !flitCrcOk f then s.flitFails c .crc fixed
    else if 3 ≤ fType hdr then s.flitFails c .ftype fixed
    else match (s.course c).verify (fEpoch hdr) with
    | none => s.flitFails c .tag fixed
    | some y =>
      match y.encrypted, y.keyRx with
      | false, _ => s.flitRx c hdr (cellsOf (flitBody f)) fixed
      | true, none => s.flitFails c .tag fixed
      | true, some k =>
        let iv := (s.course c).rxIv c hdr
        if gcmTag64 (epochKey k) iv (f.take 8) (flitBody f) = flitTag f then
          s.flitRx c hdr (cellsOf (gcmCrypt (epochKey k) iv (flitBody f))) fixed
        else s.flitFails c .tag fixed

/-! ### Assembly (R125, R127) -/

/-- The logical lane of a flit's blocks on an ALIGNED physical lane: up to the flit before a move to the spare it is the old one
(R148). -/
def State.carries (s : State) (c l f : Nat) : Nat :=
  match (s.course c).moved with
  | none => (s.lane c l).logLane
  | some m =>
    if !gridPast f m.flit then (s.lane c l).logLane
    else if l = m.spare then 16
    else if m.old = some l then m.lane
    else (s.lane c l).logLane

/-- A data block of a flit to be assembled is kept until the flit's other blocks are there. -/
def State.keepBlock (s : State) (c l : Nat) (x : Lane) (p : BitVec 64) : State :=
  let k := s.carries c l (x.block / 4)
  match (s.course c).asm with
  | some f =>
    if x.st = .aligned ∧ k < 16 ∧ !gridPast (x.block / 4) f then
      s.setCourse c (fun y => { y with parts := y.parts ++ [⟨x.block / 4, k, x.block % 4, p⟩] })
    else s
  | none => s

/-- Every lane that carries a logical lane has passed the last block of a flit. -/
def State.lanesPast (s : State) (c f : Nat) : Bool :=
  (List.range 17).all (fun l => (s.lane c l).st != .aligned || decide (16 ≤ s.carries c l f) || gridPast f ((s.lane c l).block / 4))

/-- The blocks of a flit have arrived on every lane: its bytes are put together under R127, where none is missing. -/
def State.flitDone (s : State) (c f : Nat) : State :=
  match (s.course c).asm with
  | some g =>
    if gridPast f g || !s.lanesPast c f then s
    else
      let mine := (s.course c).parts.filter (fun q => q.flit == f)
      let at0 := fun (k j : Nat) => (mine.find? (fun q => q.lane == k && q.index == j)).map (fun q => q.payload)
      let whole := (List.range 64).all (fun i => (at0 (i % 16) (i / 16)).isSome)
      let t := s.setCourse c (fun y => { y with
        asm := some ((f + 1) % flitNumbers), parts := y.parts.filter (fun q => gridPast f q.flit),
        moved := y.moved.filter (fun m => gridPast f m.flit) })
      t.flitBytesRx c (if whole then some (flitFrom (fun k j => (at0 k j).getD 0#64)) else none)
  | none => s

/-- A block outside the marker positions has passed on a lane, which was `x` as it came: where the lane was ALIGNED, the next block's
number and the flit that it may complete (R125). -/
def State.passBlock (s : State) (c l : Nat) (x : Lane) : State :=
  if x.st = .aligned then
    let n := (s.lane c l).block
    let t := s.setLane c l (fun y => { y with block := (n + 1) % (4 * flitNumbers) })
    if n % 4 = 3 then t.flitDone c (n / 4) else t
  else s

/-! ### Headers (R120, R122, R124) -/

/-- One header reaches a lane (R124): the new lane, and whether it must leave its state for HUNT. `isMark` tells that the block
was a valid marker, which keeps its own account of marker positions. -/
def Lane.header (x : Lane) (valid isMark : Bool) : Lane × Bool :=
  match x.st with
  | .failed => (x, false)
  | .hunt =>
    if !valid then ({ x with cand := (x.cand + 1) % 66, count := 0 }, false)
    else if x.count + 1 = 64 then ({ x with st := .locked, count := 0, window := [], since := 0, missed := 0, eqReq := false }, false)
    else ({ x with count := x.count + 1 }, false)
  | .locked =>
    let w := (valid :: x.window).take 64
    let y := { x with window := w, since := x.since + 1 }
    (y, decide (16 ≤ (w.filter (fun v => !v)).length) || (!isMark && decide (32768 ≤ y.since)))
  | .aligned =>
    let w := (valid :: x.window).take 64
    let due := !isMark && decide (16384 ≤ x.since + 1)
    let y := { x with window := w, since := if due then 0 else x.since + 1, missed := if due then x.missed + 1 else x.missed }
    (y, decide (16 ≤ (w.filter (fun v => !v)).length) || decide (3 ≤ y.missed))

/-- The lane's data are heard: D1 is on, the word is valid, and the course is not fenced (R25, R149). -/
def State.hears (s : State) (c l : Nat) : Bool := s.domOn 1 && (s.lane c l).rxv && (s.course c).tx != .fenced

/-- A lane takes the outcome of a header. -/
def State.takeHeader (s : State) (c l : Nat) (r : Lane × Bool) : State :=
  if r.2 then (s.setLane c l (fun _ => r.1)).laneLeaves c l Lane.hunt else s.setLane c l (fun _ => r.1)

/-! ### Markers (R123 to R125) -/

/-- A lane has aligned with its marker at a block position: lanes whose markers lie more than 32 blocks before the latest are
treated as FAILED (R125). Positions are those within a marker period. -/
def State.checkSkew (s : State) (c l : Nat) : State :=
  let late := fun (a b : Nat) => (a + 16384 - b % 16384) % 16384
  let far := fun (n : Nat) => decide (32 < n) && decide (n < 8192)
  let own := (s.lane c l).markAt
  let others := (List.range 17).filter (fun p => p != l && (s.lane c p).st == .aligned)
  if others.any (fun p => far (late ((s.lane c p).markAt % 16384) own)) then s.laneLeaves c l (fun x => { x with st := .failed })
  else forAll (others.filter (fun p => far (late (own % 16384) (s.lane c p).markAt))) (fun p t =>
    t.laneLeaves c p (fun x => { x with st := .failed })) s

/-- The number, on the grid of flits, of the first block after a marker: MSEQ gives the marker period and FLIT_PHASE the place in a
flit (R123, R125). -/
def markerBlock (p : BitVec 64) : Nat :=
  (fieldNat p 31 24 * 16383 + (fieldNat p 33 32 + fieldNat p 31 24) % 4) % (4 * flitNumbers)

/-- The block position at which a lane's next block stands: its own when ALIGNED, another ALIGNED lane's otherwise. Lanes below it have
had their block of this block time. -/
def State.blockPos (s : State) (c l : Nat) : Nat :=
  match (if (s.lane c l).st = .aligned then [l] else []) ++ (List.range 17).filter (fun p => (s.lane c p).st == .aligned) with
  | p :: _ => ((s.lane c p).markAt + (s.lane c p).since + (if p < l then 0 else 1)) % 16384
  | [] => 0

/-- A marker arrives at a block position (R123, R124): LOCKED lanes align or fail, ALIGNED ones confirm their place. A marker away from
the lane's marker position is a valid header in the place of another block, and nothing more. -/
def State.markerRx (s : State) (c l : Nat) (p : BitVec 64) (at0 : Nat) : State :=
  if !s.hears c l then s
  else
    let ok := isMarker p
    let own := fieldNat p 11 8 == c
    let k := fieldNat p 21 17
    let x := s.lane c l
    let missed := fun (t : State) => t.takeHeader c l ({ x with since := 0, missed := x.missed + 1 }, decide (3 ≤ x.missed + 1))
    match x.st, ok, own with
    | .locked, true, true =>
      let t := s.setLane c l (fun x => { x with
        st := .aligned, logLane := k, markAt := at0, since := 0, missed := 0, window := (true :: x.window).take 64,
        block := markerBlock p })
      (t.checkSkew c l).settleCourse c
    | .locked, true, false => s.laneLeaves c l (fun x => { x with st := .failed })
    | .aligned, true, own =>
      if at0 % 16384 ≠ x.markAt % 16384 then (s.takeHeader c l (x.header true false)).passBlock c l x
      else if own && k == x.logLane then
        (s.setLane c l (fun x => { x with
          markAt := at0, since := 0, missed := 0, window := (true :: x.window).take 64, block := markerBlock p })).checkSkew c l
      else missed s
    | _, ok, _ => s.takeHeader c l (x.header ok false)

/-! ### Blocks (R119 to R122) -/

/-- A control block other than a marker, descrambled: its header counts, and on the idle spare of the course it acts (R118, R122,
R148). -/
def State.controlRx (s : State) (c l : Nat) (p : BitVec 64) : State :=
  let x := s.lane c l
  let t := (s.takeHeader c l (x.header (controlOk p) false)).passBlock c l x
  if controlOk p ∧ x.st = .aligned ∧ x.logLane = 16 then
    (if fieldNat p 7 0 = 0x33 then t.takeMap c p else if fieldNat p 7 0 = 0x4b then t.takeSwitch c p else t)
  else t

/-- LANE_MAP arrives on a lane. -/
def State.laneMapRx (s : State) (c l : Nat) (p : BitVec 64) : State :=
  if s.hears c l ∧ fieldNat p 7 0 = 0x33 then s.controlRx c l p else s

/-- LANE_SWITCH arrives on a lane. -/
def State.laneSwitchRx (s : State) (c l : Nat) (p : BitVec 64) : State :=
  if s.hears c l ∧ fieldNat p 7 0 = 0x4b then s.controlRx c l p else s

/-- A data block, descrambled. -/
def State.dataRx (s : State) (c l : Nat) (p : BitVec 64) : State :=
  let x := s.lane c l
  ((s.takeHeader c l (x.header true false)).keepBlock c l x p).passBlock c l x

/-- The next block is at the place of an ALIGNED lane's marker (R123, R124). -/
def Lane.markerDue (x : Lane) : Bool := x.st == .aligned && decide (16384 ≤ x.since + 1)

/-- The descrambler's register before the block at the candidate position: the last 58 scrambled bits of the payload before it, unless
that was a marker, over which it does not advance (R121). A lane that has moved its candidate reads them from its stream. -/
def Lane.register (x : Lane) : BitVec 58 :=
  let b := blockAt x.older x.prev x.cand
  if x.st = .hunt ∧ !(b.1 == 0b10#2 && isMarker b.2) then (scrambler true x.descr b.2).1 else x.descr

/-- The next 66 bits of a lane's stream arrive (R119): the block at the candidate position is a marker, a data block, another control
block, or has an invalid header. `hdr` is written in send order. At the marker position of an ALIGNED lane there is no other block
than a marker: one that arrives damaged there is a missed marker (R124), and neither a block of a flit nor of the scrambler. Over any
other block, one with an invalid header too, the descrambler advances (R121 speaks of valid ones: DESIGN CHOICE, log 126). -/
def State.blockRx (s : State) (c l : Nat) (hdr : BitVec 2) (p : BitVec 64) : State :=
  match s.loopBlock c l hdr p with
  | (true, t) => t
  | (false, _) =>
    if !s.hears c l then s
    else
      let x := s.lane c l
      let b := blockAt x.prev (blockBits hdr p) x.cand
      let d := descramble x.register b.2
      let t := s.setLane c l (fun x => { x with prev := blockBits hdr p, older := x.prev })
      let u := t.setLane c l (fun x => { x with descr := d.1 })
      if b.1 = 0b10#2 ∧ isMarker b.2 = true then t.markerRx c l b.2 (t.blockPos c l)
      else if x.markerDue then t.takeHeader c l ((t.lane c l).header (b.1 == 0b01#2) false)
      else if b.1 = 0b01#2 then u.dataRx c l d.2
      else if b.1 = 0b10#2 then u.controlRx c l d.2
      else (u.takeHeader c l ((u.lane c l).header false false)).passBlock c l x

end Sys2Proof.Machine
end

