-- ==== Sys2Proof/Machine/Link.lean ====
section
/-! DEFINITION. The commands of the Rila link (06_rila_link): lanes, markers, flits, courses and their control register. -/

namespace Sys2Proof.Machine

/-- A lane's word-valid falls (R25). -/
def opLnRxvFall (c l : Nat) (s : State) : State := s.rxvFalls c l

/-- LN_RXV_FALL. -/
def execLnRxvFall (c l : Nat) (s : State) : Host.Outcome State Fault Refusal :=
  act (Instr.wellFormed (.lnRxvFall c l)) s (opLnRxvFall c l s)


/-- A lane's word-valid rises (R25); the wake of a sleeping link is LINK_WAKE's (R374). -/
def opLnRxvRise (c l : Nat) (s : State) : State := s.rxvRises c l

/-- LN_RXV_RISE. -/
def execLnRxvRise (c l : Nat) (s : State) : Host.Outcome State Fault Refusal :=
  act (Instr.wellFormed (.lnRxvRise c l)) s (opLnRxvRise c l s)


/-- The SerDes has adapted a lane (R23). -/
def opLnEqack (c l : Nat) (s : State) : State := s.eqAck c l

/-- LN_EQACK. -/
def execLnEqack (c l : Nat) (s : State) : Host.Outcome State Fault Refusal :=
  act (Instr.wellFormed (.lnEqack c l)) s (opLnEqack c l s)


/-- A 66-bit block arrives on a lane (R120 to R124, R435); a course that comes up may let start-up go on (R108). -/
def opLaneBlockRx (c l : Nat) (hdr : BitVec 2) (payload : BitVec 64) (s : State) : State := s.blockRx c l hdr payload

/-- LANE_BLOCK_RX. -/
def execLaneBlockRx (c l : Nat) (hdr : BitVec 2) (payload : BitVec 64) (s : State) : Host.Outcome State Fault Refusal :=
  act (Instr.wellFormed (.laneBlockRx c l hdr payload)) s (opLaneBlockRx c l hdr payload s)


/-- An alignment marker arrives (R123 to R125). -/
def opMarker (c l : Nat) (payload : BitVec 64) (at0 : Nat) (s : State) : State := s.markerRx c l payload at0

/-- MARKER. -/
def execMarker (c l : Nat) (payload : BitVec 64) (at0 : Nat) (s : State) : Host.Outcome State Fault Refusal :=
  act (Instr.wellFormed (.marker c l payload at0)) s (opMarker c l payload at0 s)


/-- LANE_MAP from the host (R148). -/
def opLaneMap (c l : Nat) (payload : BitVec 64) (s : State) : State := s.laneMapRx c l payload

/-- LANE_MAP. -/
def execLaneMap (c : Nat) (payload : BitVec 64) (s : State) (l : Nat := 16) : Host.Outcome State Fault Refusal :=
  act (Instr.wellFormed (.laneMap c payload l)) s (opLaneMap c l payload s)


/-- LANE_SWITCH from the host (R148). -/
def opLaneSwitch (c l : Nat) (payload : BitVec 64) (s : State) : State := s.laneSwitchRx c l payload

/-- LANE_SWITCH. -/
def execLaneSwitch (c : Nat) (payload : BitVec 64) (s : State) (l : Nat := 16) : Host.Outcome State Fault Refusal :=
  act (Instr.wellFormed (.laneSwitch c payload l)) s (opLaneSwitch c l payload s)


/-- An IDLE flit passes its FEC and CRC (R129, R132). -/
def opIdleFlitRx (c : Nat) (hdr : BitVec 64) (corrected : List Nat) (s : State) : State :=
  if fType hdr = 0 then s.flitRx c hdr [] corrected else s

/-- IDLE_FLIT_RX. -/
def execIdleFlitRx (c : Nat) (hdr : BitVec 64) (corrected : List Nat) (s : State) : Host.Outcome State Fault Refusal :=
  act (Instr.wellFormed (.idleFlitRx c hdr corrected)) s (opIdleFlitRx c hdr corrected s)


/-- A MSG flit passes its FEC and CRC: its cells are delivered once (R132, R138, R140). -/
def opMsgFlitRx (c : Nat) (hdr : BitVec 64) (cells : List Cell) (corrected : List Nat) (s : State) : State :=
  if fType hdr = 1 then s.flitRx c hdr cells corrected else s

/-- MSG_FLIT_RX. -/
def execMsgFlitRx (c : Nat) (hdr : BitVec 64) (cells : List Cell) (corrected : List Nat) (s : State) : Host.Outcome State Fault Refusal :=
  act (Instr.wellFormed (.msgFlitRx c hdr cells corrected)) s (opMsgFlitRx c hdr cells corrected s)


/-- A COURSE_DOWN flit passes its FEC and CRC: the host's answer to a fence (R150). -/
def opCourseDown (c : Nat) (hdr : BitVec 64) (cell : Cell) (corrected : List Nat) (s : State) : State :=
  if fType hdr = 2 then s.flitRx c hdr [cell] corrected else s

/-- COURSE_DOWN. -/
def execCourseDown (c : Nat) (hdr : BitVec 64) (cell : Cell) (corrected : List Nat) (s : State) : Host.Outcome State Fault Refusal :=
  act (Instr.wellFormed (.courseDown c hdr cell corrected)) s (opCourseDown c hdr cell corrected s)


/-- A course transmitter starts a flit (R139, R144, R146). -/
def opFlitTx (c : Nat) (s : State) : State := s.flitTx c

/-- FLIT_TX. -/
def execFlitTx (c : Nat) (s : State) : Host.Outcome State Fault Refusal :=
  act (Instr.wellFormed (.flitTx c)) s (opFlitTx c s)


/-- The replay timer reaches REPLAY_TIMEOUT (R139). -/
def opReplayTimeout (c : Nat) (s : State) : State := s.replayTimeout c

/-- REPLAY_TIMEOUT. -/
def execReplayTimeout (c : Nat) (s : State) : Host.Outcome State Fault Refusal :=
  act (Instr.wellFormed (.replayTimeout c)) s (opReplayTimeout c s)


/-- NAK_RESEND flit times pass in NAK_WAIT (R138). -/
def opNakResend (c : Nat) (s : State) : State := s.nakAgain c

/-- NAK_RESEND. -/
def execNakResend (c : Nat) (s : State) : Host.Outcome State Fault Refusal :=
  act (Instr.wellFormed (.nakResend c)) s (opNakResend c s)


/-- A pending credit return has waited CR_WAIT flit times (R144). -/
def opCrWait (s : State) : State := s.crWaits

/-- CR_WAIT. -/
def execCrWait (s : State) : Host.Outcome State Fault Refusal :=
  act (Instr.wellFormed .crWait) s (opCrWait s)


/-- RETRAIN_LIMIT passes while another course is up (R139). -/
def opRetrainLimit (c : Nat) (s : State) : State := s.retrainOver c

/-- RETRAIN_LIMIT. -/
def execRetrainLimit (c : Nat) (s : State) : Host.Outcome State Fault Refusal :=
  act (Instr.wellFormed (.retrainLimit c)) s (opRetrainLimit c s)


/-- A received flit fails (R129, R132, R136, R138). -/
def opFlitCrcFailure (c : Nat) (kind : FlitFail) (_hdr : BitVec 64) (corrected : List Nat) (s : State) : State :=
  s.flitFails c kind corrected

/-- FLIT_CRC_FAILURE. -/
def execFlitCrcFailure (c : Nat) (kind : FlitFail) (hdr : BitVec 64) (corrected : List Nat) (s : State) : Host.Outcome State Fault Refusal :=
  act (Instr.wellFormed (.flitCrcFailure c kind hdr corrected)) s (opFlitCrcFailure c kind hdr corrected s)


/-- A write of FENCE in CRS_CTL (R149). -/
def opCrsFence (a : Access) (c : Nat) (s : State) : State := s.writeReg a (crsAt c 0x10) 2#32 none true

/-- CRS_FENCE. -/
def execCrsFence (a : Access) (c : Nat) (s : State) : Host.Outcome State Fault Refusal :=
  act (Instr.wellFormed (.crsFence a c)) s (opCrsFence a c s)


/-- A write of UNFENCE in CRS_CTL (R152). -/
def opCrsUnfence (a : Access) (c : Nat) (s : State) : State := s.writeReg a (crsAt c 0x10) 4#32 none true

/-- CRS_UNFENCE. -/
def execCrsUnfence (a : Access) (c : Nat) (s : State) : Host.Outcome State Fault Refusal :=
  act (Instr.wellFormed (.crsUnfence a c)) s (opCrsUnfence a c s)


/-- A write of RETRAIN in CRS_CTL (R139). -/
def opCrsRetrain (a : Access) (c : Nat) (s : State) : State := s.writeReg a (crsAt c 0x10) 1#32 none true

/-- CRS_RETRAIN. -/
def execCrsRetrain (a : Access) (c : Nat) (s : State) : Host.Outcome State Fault Refusal :=
  act (Instr.wellFormed (.crsRetrain a c)) s (opCrsRetrain a c s)


end Sys2Proof.Machine
end

