-- ==== Sys2Proof/Machine/Pair.lean ====
section
/-! DEFINITION. The messages of the mirror port and the events of the bridge (17_pair, 05_start_up R112, 02_boundary R38 to R42). -/

namespace Sys2Proof.Machine

/-- IDENTITY (R112, R397). -/
def opMirIdentity (words : List Word) (s : State) : State :=
  s.receive mtIdentity words

/-- IDENTITY. -/
def execMirIdentity (words : List Word) (s : State) : Host.Outcome State Fault Refusal :=
  act (Instr.wellFormed (.mirIdentity words)) s (opMirIdentity words s)


/-- No identity record has come within 2,048 drone ticks (R112). -/
def opPairAloneTimeout (s : State) : State :=
  s.alone

/-- PAIR_ALONE_TIMEOUT. -/
def execPairAloneTimeout (s : State) : Host.Outcome State Fault Refusal :=
  act (Instr.wellFormed .pairAloneTimeout) s (opPairAloneTimeout s)


/-- HEARTBEAT (R384 to R386). -/
def opMirHeartbeat (words : List Word) (s : State) : State :=
  s.receive mtHeartbeat words

/-- HEARTBEAT. -/
def execMirHeartbeat (words : List Word) (s : State) : Host.Outcome State Fault Refusal :=
  act (Instr.wellFormed (.mirHeartbeat words)) s (opMirHeartbeat words s)


/-- REF_BASE (R382). -/
def opMirRefBase (words : List Word) (s : State) : State :=
  s.receive mtRefBase words

/-- REF_BASE. -/
def execMirRefBase (words : List Word) (s : State) : Host.Outcome State Fault Refusal :=
  act (Instr.wellFormed (.mirRefBase words)) s (opMirRefBase words s)


/-- BACKLOG (R381). -/
def opMirBacklog (words : List Word) (s : State) : State :=
  s.receive mtBacklog words

/-- BACKLOG. -/
def execMirBacklog (words : List Word) (s : State) : Host.Outcome State Fault Refusal :=
  act (Instr.wellFormed (.mirBacklog words)) s (opMirBacklog words s)


/-- KEY (R326). -/
def opMirKey (words : List Word) (s : State) : State :=
  s.receive mtKey words

/-- KEY. -/
def execMirKey (words : List Word) (s : State) : Host.Outcome State Fault Refusal :=
  act (Instr.wellFormed (.mirKey words)) s (opMirKey words s)


/-- REPAIR (R422). -/
def opMirRepair (words : List Word) (s : State) : State :=
  s.receive mtRepair words

/-- REPAIR. -/
def execMirRepair (words : List Word) (s : State) : Host.Outcome State Fault Refusal :=
  act (Instr.wellFormed (.mirRepair words)) s (opMirRepair words s)


/-- CONFIG (R381). -/
def opMirConfig (words : List Word) (s : State) : State :=
  s.receive mtConfig words

/-- CONFIG. -/
def execMirConfig (words : List Word) (s : State) : Host.Outcome State Fault Refusal :=
  act (Instr.wellFormed (.mirConfig words)) s (opMirConfig words s)


/-- TRIMS (R381). -/
def opMirTrims (words : List Word) (s : State) : State :=
  s.receive mtTrims words

/-- TRIMS. -/
def execMirTrims (words : List Word) (s : State) : Host.Outcome State Fault Refusal :=
  act (Instr.wellFormed (.mirTrims words)) s (opMirTrims words s)


/-- SLEEP (R396). -/
def opMirSleep (words : List Word) (s : State) : State :=
  s.receive mtSleep words

/-- SLEEP. -/
def execMirSleep (words : List Word) (s : State) : Host.Outcome State Fault Refusal :=
  act (Instr.wellFormed (.mirSleep words)) s (opMirSleep words s)


/-- PAIRKEY (R326). -/
def opMirPairkey (words : List Word) (s : State) : State :=
  s.receive mtPairkey words

/-- PAIRKEY. -/
def execMirPairkey (words : List Word) (s : State) : Host.Outcome State Fault Refusal :=
  act (Instr.wellFormed (.mirPairkey words)) s (opMirPairkey words s)


/-- HANDBACK (R398). -/
def opMirHandback (words : List Word) (s : State) : State :=
  s.receive mtHandback words

/-- HANDBACK_MSG. -/
def execMirHandback (words : List Word) (s : State) : Host.Outcome State Fault Refusal :=
  act (Instr.wellFormed (.mirHandback words)) s (opMirHandback words s)


/-- A message's SEQ is acknowledged, unless MIR_SKRXREQ is clamped (R42); an erase that waited for it is complete (R384, R319). -/
def opMirrorAck (seq : Nat) (s : State) : State :=
  if s.clamped then s else (s.acknowledged seq).keyFinish.keyServe

/-- MIRROR_ACK. -/
def execMirrorAck (seq : Nat) (s : State) : Host.Outcome State Fault Refusal :=
  act (Instr.wellFormed (.mirrorAck seq)) s (opMirrorAck seq s)


/-- A state message has waited 4 drone ticks for its acknowledgement (R384). -/
def opMirrorResendTimeout (seq : Nat) (s : State) : State :=
  s.resendMir seq

/-- MIRROR_RESEND_TIMEOUT. -/
def execMirrorResendTimeout (seq : Nat) (s : State) : Host.Outcome State Fault Refusal :=
  act (Instr.wellFormed (.mirrorResendTimeout seq)) s (opMirrorResendTimeout seq s)


/-- A word has gone unacknowledged for 64 drone ticks (R388). -/
def opMirrorNoackTimeout (s : State) : State :=
  s.noAck

/-- MIRROR_NOACK_TIMEOUT. -/
def execMirrorNoackTimeout (s : State) : Host.Outcome State Fault Refusal :=
  act (Instr.wellFormed .mirrorNoackTimeout) s (opMirrorNoackTimeout s)


/-- MIR_RXREQ rises while D6 is not on (R396), unless it is clamped (R42). -/
def opMirRxreqWake (s : State) : State :=
  if s.domOn 6 || s.clamped then s else s.wake 6

/-- MIR_RXREQ_WAKE. -/
def execMirRxreqWake (s : State) : Host.Outcome State Fault Refusal :=
  act (Instr.wellFormed .mirRxreqWake) s (opMirRxreqWake s)


/-- A heartbeat window closes (R388). -/
def opHeartbeatWindowClose (s : State) : State :=
  s.closeBeat

/-- HEARTBEAT_WINDOW_CLOSE. -/
def execHeartbeatWindowClose (s : State) : Host.Outcome State Fault Refusal :=
  act (Instr.wellFormed .heartbeatWindowClose) s (opHeartbeatWindowClose s)


/-- This instance's fence request wins (R40, R389). -/
def opBrgFgnt (s : State) : State :=
  s.fenceWon

/-- BRG_FGNT. -/
def execBrgFgnt (s : State) : Host.Outcome State Fault Refusal :=
  act (Instr.wellFormed .brgFgnt) s (opBrgFgnt s)


/-- The partner fences this instance (R41, R406). -/
def opBrgSfencedRise (s : State) : State := s.bridgeFenced

/-- BRG_SFENCED_RISE. -/
def execBrgSfencedRise (s : State) : Host.Outcome State Fault Refusal :=
  actPin (Instr.wellFormed .brgSfencedRise) s { s with pins := { s.pins with sfenced := true } } (opBrgSfencedRise s)

/-- The bridge releases this instance (R41, R398). -/
def opBrgSfencedFall (s : State) : State := s.bridgeReleased.goOn

/-- BRG_SFENCED_FALL. -/
def execBrgSfencedFall (s : State) : Host.Outcome State Fault Refusal :=
  actPin (Instr.wellFormed .brgSfencedFall) s { s with pins := { s.pins with sfenced := false } } (opBrgSfencedFall s)

/-- The crossover is connected (R389). -/
def opBrgXrdy (s : State) : State :=
  s.openPartner

/-- BRG_XRDY. -/
def execBrgXrdy (s : State) : Host.Outcome State Fault Refusal :=
  act (Instr.wellFormed .brgXrdy) s (opBrgXrdy s)


/-- The partner channels have been retrained (R389, R394). -/
def opTakeoverRetrainDone (failedChs : List Nat) (s : State) : State :=
  s.enterDouble failedChs

/-- TAKEOVER_RETRAIN_DONE. -/
def execTakeoverRetrainDone (failedChs : List Nat) (s : State) : Host.Outcome State Fault Refusal :=
  act (Instr.wellFormed (.takeoverRetrainDone failedChs)) s (opTakeoverRetrainDone failedChs s)


/-- A write of HANDBACK (R398). -/
def opHandback (a : Access) (s : State) : State :=
  s.writeReg a 0x8010 1#32 none true

/-- HANDBACK. -/
def execHandback (a : Access) (s : State) : Host.Outcome State Fault Refusal :=
  act (Instr.wellFormed (.handback a)) s (opHandback a s)


/-- The partner's half is drained: SR_ENTER runs, then the handback messages go (R398). -/
def opHandbackDrained (s : State) : State :=
  s.handbackOn

/-- HANDBACK_DRAINED. -/
def execHandbackDrained (s : State) : Host.Outcome State Fault Refusal :=
  act (Instr.wellFormed .handbackDrained) s (opHandbackDrained s)


/-- The handback messages are acknowledged (R398). -/
def opHandbackAcked (s : State) : State :=
  s.endHandback

/-- HANDBACK_ACKED. -/
def execHandbackAcked (s : State) : Host.Outcome State Fault Refusal :=
  act (Instr.wellFormed .handbackAcked) s (opHandbackAcked s)


/-- The drain has not completed within HANDBACK_WAIT (R398). -/
def opHandbackWaitExpiry (s : State) : State :=
  s.handbackOver

/-- HANDBACK_WAIT_EXPIRY. -/
def execHandbackWaitExpiry (s : State) : Host.Outcome State Fault Refusal :=
  act (Instr.wellFormed .handbackWaitExpiry) s (opHandbackWaitExpiry s)


end Sys2Proof.Machine
end

