-- ==== Sys2Proof/Machine/Power.lean ====
section
/-! DEFINITION. The commands of the power controller (16_power_domains) and PSW_RDY (R45). -/

namespace Sys2Proof.Machine

/-- What waited for a domain goes on behind a change of its state: for D7 what the luthier serves, then held requests, posted writes
and stalled reads, and start-up (R87, R88, R110). -/
def State.afterDom (s : State) (d : Nat) : State :=
  ((when (d == 7) (fun t => t.keyServe.spdmServe) s).releaseHeld.drainWrites).goOn

/-- A channel group's idle count has reached a threshold (R366). -/
def opIdleThresholdExpiry (g : Nat) (step : IdleStep) (s : State) : State :=
  s.idleReached g step

/-- IDLE_THRESHOLD_EXPIRY. -/
def execIdleThresholdExpiry (g : Nat) (step : IdleStep) (s : State) : Host.Outcome State Fault Refusal :=
  act (Instr.wellFormed (.idleThresholdExpiry g step)) s (opIdleThresholdExpiry g step s)


/-- A delaying domain's conditions hold (R367). -/
def opEntryConditionsMet (d : Nat) (s : State) : State :=
  s.delayMet d

/-- ENTRY_CONDITIONS_MET. -/
def execEntryConditionsMet (d : Nat) (s : State) : Host.Outcome State Fault Refusal :=
  act (Instr.wellFormed (.entryConditionsMet d)) s (opEntryConditionsMet d s)


/-- DELAY_LIMIT has passed (R367). -/
def opDelayLimitExpiry (d : Nat) (s : State) : State :=
  s.delayOver d

/-- DELAY_LIMIT_EXPIRY. -/
def execDelayLimitExpiry (d : Nat) (s : State) : Host.Outcome State Fault Refusal :=
  act (Instr.wellFormed (.delayLimitExpiry d)) s (opDelayLimitExpiry d s)


/-- A write of PWR_REQ with TARGET ON (R372). -/
def opPwrReqOn (a : Access) (d : Nat) (s : State) : State :=
  s.writeReg a 0x1014 (BitVec.ofNat 32 d) none true

/-- PWR_REQ_ON. -/
def execPwrReqOn (a : Access) (d : Nat) (s : State) : Host.Outcome State Fault Refusal :=
  act (Instr.wellFormed (.pwrReqOn a d)) s (opPwrReqOn a d s)


/-- A write of PWR_REQ with TARGET RETENTION (R367, R371). -/
def opPwrReqRetention (a : Access) (d : Nat) (s : State) : State :=
  s.writeReg a 0x1014 (BitVec.ofNat 32 (d + 2 ^ 8)) none true

/-- PWR_REQ_RETENTION. -/
def execPwrReqRetention (a : Access) (d : Nat) (s : State) : Host.Outcome State Fault Refusal :=
  act (Instr.wellFormed (.pwrReqRetention a d)) s (opPwrReqRetention a d s)


/-- A write of PWR_REQ with TARGET OFF (R367, R371). -/
def opPwrReqOff (a : Access) (d : Nat) (s : State) : State :=
  s.writeReg a 0x1014 (BitVec.ofNat 32 (d + 2 * 2 ^ 8)) none true

/-- PWR_REQ_OFF. -/
def execPwrReqOff (a : Access) (d : Nat) (s : State) : Host.Outcome State Fault Refusal :=
  act (Instr.wellFormed (.pwrReqOff a d)) s (opPwrReqOff a d s)


/-- The host has acknowledged the WACK of D1's request (R371). -/
def opLinkEntryAcked (s : State) : State :=
  s.linkAcked

/-- LINK_ENTRY_ACKED. -/
def execLinkEntryAcked (s : State) : Host.Outcome State Fault Refusal :=
  act (Instr.wellFormed .linkEntryAcked) s (opLinkEntryAcked s)


/-- A domain is on (R372 to R377). -/
def opWakeReady (d : Nat) (retParityOk storeParityOk selfTestOk : Bool) (s : State) : State :=
  (s.wakeReady d retParityOk storeParityOk selfTestOk).afterDom d

/-- WAKE_READY. -/
def execWakeReady (d : Nat) (retParityOk storeParityOk selfTestOk : Bool) (s : State) : Host.Outcome State Fault Refusal :=
  act (Instr.wellFormed (.wakeReady d retParityOk storeParityOk selfTestOk)) s (opWakeReady d retParityOk storeParityOk selfTestOk s)


/-- A wake attempt has failed (R375). -/
def opWakeTimerExpiry (d : Nat) (s : State) : State :=
  let t := s.wakeExpired d
  (when (d == 7 && (s.dom 7).retryAt.isNone && (t.dom 7).retryAt.isSome) State.luthierFails t).afterDom d

/-- WAKE_TIMER_EXPIRY. -/
def execWakeTimerExpiry (d : Nat) (s : State) : Host.Outcome State Fault Refusal :=
  act (Instr.wellFormed (.wakeTimerExpiry d)) s (opWakeTimerExpiry d s)


/-- A failed wake is retried, or its domain is lost (R375). -/
def opWakeRetry (d : Nat) (s : State) : State :=
  (s.wakeAgain d).afterDom d

/-- WAKE_RETRY. -/
def execWakeRetry (d : Nat) (s : State) : Host.Outcome State Fault Refusal :=
  act (Instr.wellFormed (.wakeRetry d)) s (opWakeRetry d s)


/-- A write of PWR_UNFENCE (R375). -/
def opPwrUnfence (a : Access) (d : Nat) (s : State) : State :=
  s.writeReg a 0x1020 (BitVec.ofNat 32 d) none true

/-- PWR_UNFENCE. -/
def execPwrUnfence (a : Access) (d : Nat) (s : State) : Host.Outcome State Fault Refusal :=
  act (Instr.wellFormed (.pwrUnfence a d)) s (opPwrUnfence a d s)


/-- LN_RXV rises on a watched lane while D1 sleeps (R374). -/
def opLinkWake (c : Nat) (s : State) : State :=
  s.linkWakes c

/-- LINK_WAKE. -/
def execLinkWake (c : Nat) (s : State) : Host.Outcome State Fault Refusal :=
  act (Instr.wellFormed (.linkWake c)) s (opLinkWake c s)


/-- PSW_RDY falls while PSW_EN is high (R45). -/
def opPswRdyFall (d : Nat) (s : State) : State :=
  (s.pswDrops d).afterDom d

/-- PSW_RDY_FALL. -/
def execPswRdyFall (d : Nat) (s : State) : Host.Outcome State Fault Refusal :=
  act (Instr.wellFormed (.pswRdyFall d)) s (opPswRdyFall d s)


end Sys2Proof.Machine
end

