-- ==== Sys2Proof/Machine/Reads.lean ====
section
/-! DEFINITION. The commands of data and STATUS that come back from the core dies (14_security R315, 11_tablature R265,
R266, 19_repair_test R423, R429). -/

namespace Sys2Proof.Machine

/-! ### Lines read by the host -/

/-- The DQ bits that an engine corrects in a returned line: those of the symbols damaged outside the erased bit, where they are
few enough for the slot's layout (R313, R429). -/
def State.correctedBits (s : State) (c : Captured) (bit : Option Nat) (err : BitVec 576) : List Nat :=
  let expert := match s.req c.uid with
    | some r => (s.slot (hPartner r.hdr) (hKey r.hdr)).meta1
    | none => false
  correctedIn c.line expert bit err

/-- A captured line is decoded, checked and decrypted, and goes to its tag (R315). `damage` lists the symbols that the core die or the
TSVs have damaged, beside those that arrived inverted; `bad` names the copies of the slot loaded for it whose check fails (R323). -/
def opReadDataReturn (ch : Nat) (damage : List (Nat × Byte)) (bad : Nat) (s0 : State) : State :=
  match (s0.chan ch).captured with
  | [] => s0
  | c :: _ =>
    let s := match s0.req c.uid with
      | some r => s0.spoil (hPartner r.hdr) (hKey r.hdr) bad
      | none => s0
    let bit := s.erasedBit ch c.bank c.col
    let bits := s.correctedBits c bit (c.err ^^^ damageBits damage)
    forAll bits (fun b t => t.noteCorrection ch b) (s.returnLine ch bit (damageBits damage))

/-- READ_DATA_RETURN. -/
def execReadDataReturn (ch : Nat) (damage : List (Nat × Byte)) (s : State) (bad : Nat := 0) : Host.Outcome State Fault Refusal :=
  act (Instr.wellFormed (.readDataReturn ch damage bad)) s (opReadDataReturn ch damage bad s)

/-! ### Capture misses (R264, R265) -/

/-- The SID that the running transfer reads: its next burst's. -/
def State.readSid (s : State) (ch : Nat) (x : Xfer) : Nat :=
  match (s.chan ch).flights with
  | f :: _ =>
    (match (s.chan ch).workBank f.work with
    | some b => b / 16
    | none => match f.work with
      | .status sid => sid
      | .mitRead sid => sid
      | _ => ((s.chan ch).workBank (x.work.getD x.done (.test 0))).getD 0 / 16)
  | [] => 0

/-- The transfer is a STATUS read that a capture miss asked for. -/
def statusAfterMiss (c : Chan) (x : Xfer) : Bool :=
  match x.work with
  | [.status n] => c.missed.any (fun e => e.1 == n)
  | _ => false

/-- A read preamble is absent (R265): the transfer is abandoned and CAL asks for the SID's STATUS, or, on the second miss
of that STATUS read or of a marked transfer, CAL retrains the channel. -/
def opCaptureMiss (ch : Nat) (s : State) : State :=
  match (s.chan ch).xfer, (s.chan ch).holder, (s.chan ch).flights with
  | some x, some h, f :: _ =>
    if f.write then s
    else
      let sid := s.readSid ch x
      let t := ((s.count (0xa0100 + 8 * (ch % 32))).stick RF.TAB_CAPTURE_MISS).eventP (decide (32 ≤ ch)) (0x40 + ch % 32)
        0x0405 1 (payload [(0, 1, ch % 32), (1, 1, sid)])
      if statusAfterMiss (s.chan ch) x then
        ((t.setChan ch (fun c => { (c.setAgent h (fun a => { a with age := 1 })) with
          xfer := none, holder := none, bursts := 0, preempt := none, maskCut := false, flights := [],
          missed := c.missed.filter (fun e => e.1 != sid) })).retrain ch false []).decideGrant ch
      else if x.marked then ((t.abandon ch h x false).retrain ch false []).decideGrant ch
      else
        let t := t.abandon ch h x false
        let t := t.setChan ch (fun c => { c with missed := c.missed ++ [(sid, h)] })
        (t.setChan ch (fun c => c.setAgent .cal (fun a => { a with asks := true }))).decideGrant ch
  | _, _, _ => s

/-- CAPTURE_MISS. -/
def execCaptureMiss (ch : Nat) (s : State) : Host.Outcome State Fault Refusal :=
  act (Instr.wellFormed (.captureMiss ch)) s (opCaptureMiss ch s)

/-- The transfers that missed on a SID are marked: each restarts as its agent's next work (R265). -/
def Chan.markRestart (c : Chan) (sid : Nat) : Chan :=
  let d := (c.missed.filter (fun e => e.1 == sid)).foldl (fun c e =>
    c.setAgent e.2 (fun x => { x with restart := x.restart.map (fun y => { y with marked := true }) })) c
  { d with missed := d.missed.filter (fun e => e.1 != sid) }

/-- A STATUS read returns with bits 2:0 of the SID's STATUS as captured (R263, R265, R266): CAPERR after a miss, or HOLD at any time,
fences the SID; a clean STATUS after a miss marks the transfer; bit 2 stands for a failed sensor (R31). `st` are bits that stand in the
SID by what has no command here, a sensor's failure or an error on its pins (log 139). -/
def opStatusResult (ch sid : Nat) (st : BitVec 3) (s : State) : State :=
  let c := s.chan ch
  let missed := c.missed.any (fun e => e.1 == sid)
  match c.statusGot.find? (fun e => e.1 == sid) with
  | none => s
  | some e =>
    let v := BitVec.ofNat 3 e.2 ||| st
    let t := s.setChan ch (fun c => { c with
      statusGot := c.statusGot.filter (fun e => e.1 != sid), statusDue := c.statusDue.filter (fun n => n != sid) })
    let t := (t.setSid ch sid (fun x => { x with
      capErr := x.capErr || bitAt st 0, hold := x.hold || bitAt st 1, sensor := x.sensor || bitAt st 2 })).statusSensor ch sid
    if bitAt v 1 || (missed && bitAt v 0) then
      let t := t.setChan ch (fun c => { c with missed := c.missed.filter (fun e => e.1 != sid) })
      let t := t.stick RF.TAB_SID_HOLD
      if t.marked .sid (4 * ch + sid) then t
      else t.fenceUnit .sid (4 * ch + sid) rsnSidHold (if missed then some (0x40 + ch % 32, 0x0405) else none)
    else if missed then
      let t := t.setChan ch (fun c => c.markRestart sid)
      forAll [Agent.rtq, .rdq, .wrd, .mute] (fun a t => t.agentAsks ch a) t
    else t

/-- STATUS_RESULT. -/
def execStatusResult (ch sid : Nat) (st : BitVec 3) (s : State) : Host.Outcome State Fault Refusal :=
  act (Instr.wellFormed (.statusResult ch sid st)) s (opStatusResult ch sid st s)

end Sys2Proof.Machine
end

