-- ==== Sys2Proof/Machine/Repair.lean ====
section
/-! DEFINITION. The commands of repair, built-in test, loopbacks and the wrapper (19_repair_test). -/

namespace Sys2Proof.Machine

/-- RPR_CMD SOFT_ROW (R424, R425). -/
def opSoftRow (a : Access) (val : Word) (s : State) : State :=
  s.writeReg a 0x9008 (putBits val 31 28 1) none true

/-- SOFT_ROW. -/
def execSoftRow (a : Access) (val : Word) (s : State) : Host.Outcome State Fault Refusal :=
  act (Instr.wellFormed (.softRow a val)) s (opSoftRow a val s)


/-- The refresh condition of SPPR is met (R425, R426). -/
def opSpprReady (s : State) : State :=
  s.spprNow

/-- SPPR_READY. -/
def execSpprReady (s : State) : Host.Outcome State Fault Refusal :=
  act (Instr.wellFormed .spprReady) s (opSpprReady s)


/-- REPAIR_WAIT has passed (R426). -/
def opRepairWaitExpiry (s : State) : State :=
  s.repairWaitOver

/-- REPAIR_WAIT_EXPIRY. -/
def execRepairWaitExpiry (s : State) : Host.Outcome State Fault Refusal :=
  act (Instr.wellFormed .repairWaitExpiry) s (opRepairWaitExpiry s)


/-- tSPPR has passed (R425). -/
def opTspprExpiry (s : State) : State :=
  s.rowRestore

/-- TSPPR_EXPIRY. -/
def execTspprExpiry (s : State) : Host.Outcome State Fault Refusal :=
  act (Instr.wellFormed .tspprExpiry) s (opTspprExpiry s)


/-- The comparison of the restored row ends (R425). -/
def opRowRestoreDone (same : Bool) (s : State) : State :=
  s.rowCompared same

/-- ROW_RESTORE_DONE. -/
def execRowRestoreDone (same : Bool) (s : State) : Host.Outcome State Fault Refusal :=
  act (Instr.wellFormed (.rowRestoreDone same)) s (opRowRestoreDone same s)


/-- Both copies of a repair map stand, or their writing has failed (R422, R34). -/
def opRepairRecordWritten (ok : Bool) (s : State) : State :=
  s.repairWritten ok

/-- REPAIR_RECORD_WRITTEN. -/
def execRepairRecordWritten (ok : Bool) (s : State) : Host.Outcome State Fault Refusal :=
  act (Instr.wellFormed (.repairRecordWritten ok)) s (opRepairRecordWritten ok s)


/-- RPR_CMD HARD_ROW (R428). -/
def opHardRow (a : Access) (val : Word) (s : State) : State :=
  s.writeReg a 0x9008 (putBits val 31 28 2) none true

/-- HARD_ROW. -/
def execHardRow (a : Access) (val : Word) (s : State) : Host.Outcome State Fault Refusal :=
  act (Instr.wellFormed (.hardRow a val)) s (opHardRow a val s)


/-- HPPR has run its 400,000 drone ticks (R428). -/
def opHpprCountExpiry (s : State) : State :=
  s.hpprDone

/-- HPPR_COUNT_EXPIRY. -/
def execHpprCountExpiry (s : State) : Host.Outcome State Fault Refusal :=
  act (Instr.wellFormed .hpprCountExpiry) s (opHpprCountExpiry s)


/-- RPR_CMD COL_ADD (R429). -/
def opColAdd (a : Access) (val : Word) (s : State) : State :=
  s.writeReg a 0x9008 (putBits val 31 28 3) none true

/-- COL_ADD. -/
def execColAdd (a : Access) (val : Word) (s : State) : Host.Outcome State Fault Refusal :=
  act (Instr.wellFormed (.colAdd a val)) s (opColAdd a val s)


/-- RPR_CMD COL_REMOVE (R429). -/
def opColRemove (a : Access) (val : Word) (s : State) : State :=
  s.writeReg a 0x9008 (putBits val 31 28 4) none true

/-- COL_REMOVE. -/
def execColRemove (a : Access) (val : Word) (s : State) : Host.Outcome State Fault Refusal :=
  act (Instr.wellFormed (.colRemove a val)) s (opColRemove a val s)


/-- RPR_BCTL START (R430, R431). -/
def opBistStart (a : Access) (val : Word) (s : State) : State :=
  s.writeReg a 0x9020 (putBits val 31 28 1) none true

/-- BIST_START. -/
def execBistStart (a : Access) (val : Word) (s : State) : Host.Outcome State Fault Refusal :=
  act (Instr.wellFormed (.bistStart a val)) s (opBistStart a val s)


/-- RPR_BCTL ABORT (R431). -/
def opBistAbort (a : Access) (s : State) : State :=
  s.writeReg a 0x9020 (BitVec.ofNat 32 (2 * 2 ^ 28)) none true

/-- BIST_ABORT. -/
def execBistAbort (a : Access) (s : State) : Host.Outcome State Fault Refusal :=
  act (Instr.wellFormed (.bistAbort a)) s (opBistAbort a s)


/-- A test ends (R431, R437). -/
def opBistEnd (res : BistResult) (s : State) : State :=
  s.bistEnd res

/-- BIST_END. -/
def execBistEnd (res : BistResult) (s : State) : Host.Outcome State Fault Refusal :=
  act (Instr.wellFormed (.bistEnd res)) s (opBistEnd res s)


/-- RPR_LCTL mode NESL (R434, R435). -/
def opLoopNesl (a : Access) (val : Word) (s : State) : State :=
  s.writeReg a 0x9040 (putBits val 31 30 1) none true

/-- LOOP_NESL. -/
def execLoopNesl (a : Access) (val : Word) (s : State) : Host.Outcome State Fault Refusal :=
  act (Instr.wellFormed (.loopNesl a val)) s (opLoopNesl a val s)


/-- RPR_LCTL mode NEPL (R434, R435). -/
def opLoopNepl (a : Access) (val : Word) (s : State) : State :=
  s.writeReg a 0x9040 (putBits val 31 30 2) none true

/-- LOOP_NEPL. -/
def execLoopNepl (a : Access) (val : Word) (s : State) : Host.Outcome State Fault Refusal :=
  act (Instr.wellFormed (.loopNepl a val)) s (opLoopNepl a val s)


/-- RPR_LCTL mode FAR (R434, R435). -/
def opLoopFar (a : Access) (val : Word) (s : State) : State :=
  s.writeReg a 0x9040 (putBits val 31 30 3) none true

/-- LOOP_FAR. -/
def execLoopFar (a : Access) (val : Word) (s : State) : Host.Outcome State Fault Refusal :=
  act (Instr.wellFormed (.loopFar a val)) s (opLoopFar a val s)


/-- RPR_LCTL mode OFF (R435). -/
def opLoopOff (a : Access) (s : State) : State :=
  s.writeReg a 0x9040 0#32 none true

/-- LOOP_OFF. -/
def execLoopOff (a : Access) (s : State) : Host.Outcome State Fault Refusal :=
  act (Instr.wellFormed (.loopOff a)) s (opLoopOff a s)


/-- WRSTN takes a level, and WS_BYPASS is loaded (R48, R432). -/
def opWsBypass (wrstN : Bool) (s : State) : State := s.wrapperReset wrstN

/-- WS_BYPASS. -/
def execWsBypass (s : State) (wrstN : Bool := true) : Host.Outcome State Fault Refusal :=
  actWrapper true s (opWsBypass wrstN s)


/-- WS_EXTEST: every agent stops (R433). -/
def opWsExtest (cells : BitVec 2505) (s : State) : State := s.wrapperStop 1 cells

/-- WS_EXTEST. -/
def execWsExtest (s : State) (cells : BitVec 2505 := 0#2505) : Host.Outcome State Fault Refusal :=
  actWrapper s.pins.wrstN s (opWsExtest cells s)


/-- WS_INTEST: every agent stops, until SEC_LOCK makes it a bypass (R433). -/
def opWsIntest (cells : BitVec 2505) (s : State) : State := s.wrapperStop 2 cells

/-- WS_INTEST. -/
def execWsIntest (s : State) (cells : BitVec 2505 := 0#2505) : Host.Outcome State Fault Refusal :=
  actWrapper s.pins.wrstN s (opWsIntest cells s)


/-- CM_REG: one register access (R432, R433). -/
def opCmReg (data : BitVec 56) (s : State) : State := if s.pins.wrstN then s.cmReg data else s

/-- CM_REG. While the wrapper has stopped every agent the instruction is loaded and no access is made; while WRSTN is low neither
is (R48). -/
def execCmReg (data : BitVec 56) (s : State) : Host.Outcome State Fault Refusal :=
  actPin (Instr.wellFormed (.cmReg data)) s (if s.pins.pwrGood && s.pins.wrstN then s.loadIr 16 else s) (opCmReg data s)

/-- CM_SRAM: a test of the SRAMs of domains (R432, R433). -/
def opCmSram (data : Word) (failed : BitVec 24) (s : State) : State := s.cmSram data failed

/-- CM_SRAM. -/
def execCmSram (data : Word) (failed : BitVec 24) (s : State) : Host.Outcome State Fault Refusal :=
  actWrapper s.pins.wrstN s (opCmSram data failed s)


/-- CM_ID: the data register captures the identification value (R432). -/
def opCmId (s : State) : State :=
  let t := s.loadIr 18
  { t with rpr := { t.rpr with cmId := 0x0c3200b1#32 } }

/-- CM_ID. -/
def execCmId (s : State) : Host.Outcome State Fault Refusal :=
  actWrapper s.pins.wrstN s (opCmId s)


end Sys2Proof.Machine
end

