-- ==== Sys2Proof/Machine/Requests.lean ====
section
/-! DEFINITION. The Rila messages (07_rila_transactions, 14_security): requests, MASK, FENCE, malformed messages and management
messages, each delivered by itself as MSG_FLIT_RX delivers it. -/

namespace Sys2Proof.Machine

/-- A read of 1 to 4 lines (R155, R473). -/
def opRd (c k : Nat) (hdr : Cell) (s : State) : State := s.deliverAs 0x01 c k hdr [] none

/-- RD. -/
def execRd (c k : Nat) (hdr : Cell) (s : State) : Host.Outcome State Fault Refusal :=
  act (Instr.wellFormed (.rd c k hdr)) s (opRd c k hdr s)


/-- A write of a line (R158). -/
def opWr (c k : Nat) (hdr : Cell) (data : List Cell) (s : State) : State := s.deliverAs 0x02 c k hdr data none

/-- WR. -/
def execWr (c k : Nat) (hdr : Cell) (data : List Cell) (s : State) : Host.Outcome State Fault Refusal :=
  act (Instr.wellFormed (.wr c k hdr data)) s (opWr c k hdr data s)


/-- A masked write; `mask` is that of the MASK cell that MPTR names, where it names one (R158). -/
def opWrp (c k : Nat) (hdr : Cell) (data : List Cell) (mask : Option (BitVec 64)) (s : State) : State :=
  s.deliverAs 0x03 c k hdr data mask

/-- WRP. -/
def execWrp (c k : Nat) (hdr : Cell) (data : List Cell) (mask : Option (BitVec 64)) (s : State) : Host.Outcome State Fault Refusal :=
  act (Instr.wellFormed (.wrp c k hdr data mask)) s (opWrp c k hdr data mask s)


/-- A MASK cell (R158). -/
def opMask (c k : Nat) (cell : Cell) (s : State) : State := s.deliverMask c k cell

/-- MASK. -/
def execMask (c k : Nat) (cell : Cell) (s : State) : Host.Outcome State Fault Refusal :=
  act (Instr.wellFormed (.mask c k cell)) s (opMask c k cell s)


/-- An atomic addition (R159). -/
def opFadd64 (c k : Nat) (hdr data : Cell) (s : State) : State := s.deliverAs 0x08 c k hdr [data] none

/-- FADD64. -/
def execFadd64 (c k : Nat) (hdr : Cell) (data : Cell) (s : State) : Host.Outcome State Fault Refusal :=
  act (Instr.wellFormed (.fadd64 c k hdr data)) s (opFadd64 c k hdr data s)


/-- An atomic compare and swap (R159). -/
def opCas64 (c k : Nat) (hdr data : Cell) (s : State) : State := s.deliverAs 0x09 c k hdr [data] none

/-- CAS64. -/
def execCas64 (c k : Nat) (hdr : Cell) (data : Cell) (s : State) : Host.Outcome State Fault Refusal :=
  act (Instr.wellFormed (.cas64 c k hdr data)) s (opCas64 c k hdr data s)


/-- A FENCE (R160). -/
def opFence (c k : Nat) (hdr : Cell) (s : State) : State := s.deliverAs 0x0c c k hdr [] none

/-- FENCE. -/
def execFence (c k : Nat) (hdr : Cell) (s : State) : Host.Outcome State Fault Refusal :=
  act (Instr.wellFormed (.fence c k hdr)) s (opFence c k hdr s)


/-- A FENCE completes (R160). -/
def opFenceComplete (tag : Nat) (s : State) : State := s.fenceDone tag

/-- FENCE_COMPLETE. -/
def execFenceComplete (tag : Nat) (s : State) : Host.Outcome State Fault Refusal :=
  act (Instr.wellFormed (.fenceComplete tag)) s (opFenceComplete tag s)


/-- A register read by the link (R161). -/
def opCfgrd (c k : Nat) (hdr : Cell) (s : State) : State := s.deliverAs 0x10 c k hdr [] none

/-- CFGRD. -/
def execCfgrd (c k : Nat) (hdr : Cell) (s : State) : Host.Outcome State Fault Refusal :=
  act (Instr.wellFormed (.cfgrd c k hdr)) s (opCfgrd c k hdr s)


/-- A register write by the link (R161). -/
def opCfgwr (c k : Nat) (hdr : Cell) (s : State) : State := s.deliverAs 0x11 c k hdr [] none

/-- CFGWR. -/
def execCfgwr (c k : Nat) (hdr : Cell) (s : State) : Host.Outcome State Fault Refusal :=
  act (Instr.wellFormed (.cfgwr c k hdr)) s (opCfgwr c k hdr s)


/-- A message whose extent cannot be trusted (R471). -/
def opMalformedMessage (c k : Nat) (hdr : Cell) (s : State) : State := s.deliverBad c k hdr

/-- MALFORMED_MESSAGE. -/
def execMalformedMessage (c k : Nat) (hdr : Cell) (s : State) : Host.Outcome State Fault Refusal :=
  act (Instr.wellFormed (.malformedMessage c k hdr)) s (opMalformedMessage c k hdr s)


/-- RESYNC (R185). -/
def opResync (c k : Nat) (hdr : Cell) (s : State) : State := s.deliverMgmtAs 1 c k hdr

/-- RESYNC. -/
def execResync (c k : Nat) (hdr : Cell) (s : State) : Host.Outcome State Fault Refusal :=
  act (Instr.wellFormed (.resync c k hdr)) s (opResync c k hdr s)


/-- The summary of a RESYNC with DRAIN is captured (R185). -/
def opSummaryCapture (mtag : Nat) (s : State) : State := s.summaryCapture mtag

/-- SUMMARY_CAPTURE. -/
def execSummaryCapture (mtag : Nat) (s : State) : Host.Outcome State Fault Refusal :=
  act (Instr.wellFormed (.summaryCapture mtag)) s (opSummaryCapture mtag s)


/-- TIME_SET (R65). -/
def opTimeSet (c k : Nat) (hdr : Cell) (s : State) : State := s.deliverMgmtAs 2 c k hdr

/-- TIME_SET. -/
def execTimeSet (c k : Nat) (hdr : Cell) (s : State) : Host.Outcome State Fault Refusal :=
  act (Instr.wellFormed (.timeSet c k hdr)) s (opTimeSet c k hdr s)


/-- KEY_CREATE (R318, R319). -/
def opKeyCreate (c k : Nat) (hdr : Cell) (s : State) : State := s.deliverMgmtAs 4 c k hdr

/-- KEY_CREATE. -/
def execKeyCreate (c k : Nat) (hdr : Cell) (s : State) : Host.Outcome State Fault Refusal :=
  act (Instr.wellFormed (.keyCreate c k hdr)) s (opKeyCreate c k hdr s)


/-- KEY_ERASE (R318, R319). -/
def opKeyErase (c k : Nat) (hdr : Cell) (s : State) : State := s.deliverMgmtAs 5 c k hdr

/-- KEY_ERASE. -/
def execKeyErase (c k : Nat) (hdr : Cell) (s : State) : Host.Outcome State Fault Refusal :=
  act (Instr.wellFormed (.keyErase c k hdr)) s (opKeyErase c k hdr s)


/-- The last use of an erasing slot is released (R319). -/
def opKeyEraseComplete (key : Nat) (partner : Bool) (s : State) : State := s.keyErased key partner

/-- KEY_ERASE_COMPLETE. -/
def execKeyEraseComplete (key : Nat) (partner : Bool) (s : State) : Host.Outcome State Fault Refusal :=
  act (Instr.wellFormed (.keyEraseComplete key partner)) s (opKeyEraseComplete key partner s)


/-- KEY_PERSIST (R318, R325). -/
def opKeyPersist (c k : Nat) (hdr : Cell) (s : State) : State := s.deliverMgmtAs 6 c k hdr

/-- KEY_PERSIST. -/
def execKeyPersist (c k : Nat) (hdr : Cell) (s : State) : Host.Outcome State Fault Refusal :=
  act (Instr.wellFormed (.keyPersist c k hdr)) s (opKeyPersist c k hdr s)


end Sys2Proof.Machine
end

