-- ==== Sys2Proof/Machine/Router.lean ====
section
/-! DEFINITION. The commands of the router and of regulation (07_rila_transactions, 09_regulation): admission, merges, timeouts,
quarantine, windows and ages. -/

namespace Sys2Proof.Machine

/-- The router admits one request; requests of other contexts may join their queues behind it (R204, R216). -/
def opRouterAdmit (s : State) : State := if s.domOn 2 then s.admitOne.releaseHeld else s

/-- ROUTER_ADMIT. -/
def execRouterAdmit (s : State) : Host.Outcome State Fault Refusal :=
  act (Instr.wellFormed .routerAdmit) s (opRouterAdmit s)


/-- The read phase of a read-modify-write has returned; the merge writes, or the request ends with UNCORRECTABLE (R159, R227). -/
def opRmwMerge (tag : Nat) (writeSpace : Bool) (s : State) : State :=
  match s.reqOf writeSpace tag with
  | none => s
  | some r =>
    match r.stage with
    | .sent ch =>
      match (s.chan ch).writes.find? (fun w => w.uid == r.uid && !w.ready && w.back) with
      | none => s
      | some w => if w.bad then s.rmwFails r ch else s.mergeRmw r ch w
    | _ => s

/-- RMW_MERGE. -/
def execRmwMerge (tag : Nat) (writeSpace : Bool) (s : State) : Host.Outcome State Fault Refusal :=
  act (Instr.wellFormed (.rmwMerge tag writeSpace)) s (opRmwMerge tag writeSpace s)


/-- A tag's timeout passes before its request is answered (R68, R170). -/
def opTagTimeout (tag : Nat) (writeSpace : Bool) (s : State) : State :=
  match s.reqOf writeSpace tag with
  | none => s
  | some r =>
    match r.deadline with
    | some d => if d ≤ s.now then (s.timeoutReq r).releaseHeld else s
    | none => s

/-- TAG_TIMEOUT. -/
def execTagTimeout (tag : Nat) (writeSpace : Bool) (s : State) : Host.Outcome State Fault Refusal :=
  act (Instr.wellFormed (.tagTimeout tag writeSpace)) s (opTagTimeout tag writeSpace s)


/-- A quarantined tag leaves quarantine at the tick after its late data, or with its channel's retraining or fence: QUAR_END goes
up (R69, R171). -/
def opQuarantineEnd (tag : Nat) (writeSpace : Bool) (s : State) : State :=
  match s.trx.quar.find? (fun q => q.write == writeSpace && q.tag == tag) with
  | none => s
  | some q =>
    match q.ready with
    | some d =>
      if d ≤ s.now then
        let t := s.acct writeSpace TagAcct.quarOut
        ({ t with trx := { t.trx with quar := t.trx.quar.filter (fun x => !(x.write == writeSpace && x.tag == tag)) } } :
          State).notice .quarEnd tag 0 false
      else s
    | none => s

/-- QUARANTINE_END. -/
def execQuarantineEnd (tag : Nat) (writeSpace : Bool) (s : State) : Host.Outcome State Fault Refusal :=
  act (Instr.wellFormed (.quarantineEnd tag writeSpace)) s (opQuarantineEnd tag writeSpace s)


/-- A measurement window rolls at each multiple of WINDOW in elapsed ticks (R66, R68, R212). -/
def opWindowRoll (s : State) : State :=
  if s.domOn 2 ∧ s.now % s.rf RF.REG_WINDOW = 0 ∧ s.regul.lastRoll < s.now then s.rollWindow else s

/-- WINDOW_ROLL. -/
def execWindowRoll (s : State) : Host.Outcome State Fault Refusal :=
  act (Instr.wellFormed .windowRoll) s (opWindowRoll s)


/-- The unit of 2.5 ns of the age counters passes; a context whose URGENCY reaches 7 shows it (R217, R475). -/
def opAgeUnitExpiry (s : State) : State :=
  if s.domOn 2 then
    let t : State := { s with regul := { s.regul with ageNow := s.regul.ageNow + 1 } }
    forAll ((t.trx.reqs.filterMap (fun r => match r.stage with
      | .queued k => some k
      | _ => r.slot)).eraseDups) (fun k t => t.noteUrg k) t
  else s

/-- AGE_UNIT_EXPIRY. -/
def execAgeUnitExpiry (s : State) : Host.Outcome State Fault Refusal :=
  act (Instr.wellFormed .ageUnitExpiry) s (opAgeUnitExpiry s)


end Sys2Proof.Machine
end

