-- ==== Sys2Proof/Machine/Sensors.lean ====
section
/-! DEFINITION. The commands of the sensors, the regulator and the capo (02_boundary R30, R31; 13_capo_thermal). -/

namespace Sys2Proof.Machine

/-- The sensor schedule starts a read of every sensor (R30). -/
def opSensorRound (s : State) : State := s.sensorStart

/-- SENSOR_ROUND. -/
def execSensorRound (s : State) : Host.Outcome State Fault Refusal :=
  act (Instr.wellFormed .sensorRound) s (opSensorRound s)

/-- A reading arrives: it is good when its odd parity matches (R31). -/
def opSensorRead (base : Bool) (sensor : Nat) (val : BitVec 10) (par : Bool) (s : State) : State :=
  s.sensorGives ⟨base, sensor, val, par⟩

/-- SENSOR_READ. -/
def execSensorRead (base : Bool) (sensor : Nat) (val : BitVec 10) (par : Bool) (s : State) :
    Host.Outcome State Fault Refusal :=
  act (Instr.wellFormed (.sensorRead base sensor val par)) s (opSensorRead base sensor val par s)

/-- No acknowledge within 2 drone ticks (R31). -/
def opSensorAckTimeout (base : Bool) (sensor : Nat) (s : State) : State :=
  let k := sensorNum base sensor
  match s.sensors.asked with
  | some (_, t) => if s.sensors.due.contains k ∧ t + 2 ≤ s.now then s.sensorBad k else s
  | none => s

/-- SENSOR_ACK_TIMEOUT. -/
def execSensorAckTimeout (base : Bool) (sensor : Nat) (s : State) : Host.Outcome State Fault Refusal :=
  act (Instr.wellFormed (.sensorAckTimeout base sensor)) s (opSensorAckTimeout base sensor s)

/-- A regulator load reading arrives (R306). -/
def opRegIldReading (v : BitVec 10) (s : State) : State := s.ildReading v.toNat

/-- REG_ILD_READING. -/
def execRegIldReading (v : BitVec 10) (s : State) : Host.Outcome State Fault Refusal :=
  act (Instr.wellFormed (.regIldReading v)) s (opRegIldReading v s)

/-- Sixteen drone ticks of low readings have passed (R306). -/
def opTelemRise (s : State) : State := s.telemUp

/-- TELEM_RISE. -/
def execTelemRise (s : State) : Host.Outcome State Fault Refusal :=
  act (Instr.wellFormed .telemRise) s (opTelemRise s)

/-- REG_OCW rises: F_TELEM is capped at OCW_FRAC from the next refill (R306, R302). -/
def opRegOcwRise (s : State) : State :=
  if s.pins.regOcw then s
  else
    (({ s with
        pins := { s.pins with regOcw := true }, capo := { s.capo with ocwHold :=
          none } } : State).stick RF.CAP_OCW_SEEN).noteCut s.telemFrac

/-- REG_OCW_RISE. -/
def execRegOcwRise (s : State) : Host.Outcome State Fault Refusal :=
  actPin (Instr.wellFormed .regOcwRise) s { s with pins := { s.pins with regOcw := true } } (opRegOcwRise s)

/-- REG_OCW falls: the cap holds for 64 drone ticks more (R306). -/
def opRegOcwFall (s : State) : State :=
  if s.pins.regOcw then
    { s with pins := { s.pins with regOcw := false }, capo := { s.capo with ocwHold := some (s.now + 64) } }
  else s

/-- REG_OCW_FALL. -/
def execRegOcwFall (s : State) : Host.Outcome State Fault Refusal :=
  actPin (Instr.wellFormed .regOcwFall) s { s with pins := { s.pins with regOcw := false } } (opRegOcwFall s)

/-- The hold of the cap ends (R306). -/
def opOcwHoldExpiry (s : State) : State :=
  match s.capo.ocwHold with
  | some t => if t ≤ s.now then { s with capo := { s.capo with ocwHold := none } } else s
  | none => s

/-- OCW_HOLD_EXPIRY. -/
def execOcwHoldExpiry (s : State) : Host.Outcome State Fault Refusal :=
  act (Instr.wellFormed .ocwHoldExpiry) s (opOcwHoldExpiry s)

/-- A die window rolls: its count starts from 0 (R301). -/
def opDieWindowRoll (die : Nat) (s : State) : State :=
  { s with capo := { s.capo with
      dieCount := s.capo.dieCount.set die 0, dieNo := s.capo.dieNo.upd die (· + 1) } }

/-- DIE_WINDOW_ROLL. -/
def execDieWindowRoll (die : Nat) (s : State) : Host.Outcome State Fault Refusal :=
  act (Instr.wellFormed (.dieWindowRoll die)) s (opDieWindowRoll die s)

end Sys2Proof.Machine
end

