-- ==== Sys2Proof/Machine/Spdm.lean ====
section
/-! DEFINITION. The meanings of the SPDM requests (14_security R328 to R334). -/

namespace Sys2Proof.Machine

/-- The effect of GET_VERSION (R329). -/
def opGetVersion (t : Transport) (mtag : Nat) (s : State) : State :=
  s.spdmRow t mtag (.getVersion t mtag) (fun s => s.spdmVersion t mtag)

/-- GET_VERSION. -/
def execGetVersion (t : Transport) (mtag : Nat) (s : State) : Host.Outcome State Fault Refusal :=
  act (Instr.wellFormed (.getVersion t mtag)) s (opGetVersion t mtag s)


/-- The effect of GET_CAPABILITIES (R329). -/
def opGetCapabilities (t : Transport) (mtag : Nat) (s : State) : State :=
  s.spdmRow t mtag (.getCapabilities t mtag) (fun s => s.spdmCapabilities t mtag)

/-- GET_CAPABILITIES. -/
def execGetCapabilities (t : Transport) (mtag : Nat) (s : State) : Host.Outcome State Fault Refusal :=
  act (Instr.wellFormed (.getCapabilities t mtag)) s (opGetCapabilities t mtag s)


/-- The effect of NEGOTIATE_ALGORITHMS (R329). -/
def opNegotiateAlgorithms (t : Transport) (mtag : Nat) (supported : Bool) (s : State) : State :=
  s.spdmRow t mtag (.negotiateAlgorithms t mtag supported) (fun s => s.spdmAlgorithms t mtag supported)

/-- NEGOTIATE_ALGORITHMS. -/
def execNegotiateAlgorithms (t : Transport) (mtag : Nat) (supported : Bool) (s : State) : Host.Outcome State Fault Refusal :=
  act (Instr.wellFormed (.negotiateAlgorithms t mtag supported)) s (opNegotiateAlgorithms t mtag supported s)


/-- The effect of GET_DIGESTS (R328, R329). -/
def opGetDigests (t : Transport) (mtag : Nat) (s : State) : State :=
  s.spdmRow t mtag (.getDigests t mtag) (fun s => s.spdmDigests t mtag)

/-- GET_DIGESTS. -/
def execGetDigests (t : Transport) (mtag : Nat) (s : State) : Host.Outcome State Fault Refusal :=
  act (Instr.wellFormed (.getDigests t mtag)) s (opGetDigests t mtag s)


/-- The effect of GET_CERTIFICATE (R328). -/
def opGetCertificate (t : Transport) (mtag slot offset len : Nat) (s : State) : State :=
  s.spdmRow t mtag (.getCertificate t mtag slot offset len) (fun s => s.spdmCertificate t mtag slot offset len)

/-- GET_CERTIFICATE. -/
def execGetCertificate (t : Transport) (mtag slot offset len : Nat) (s : State) : Host.Outcome State Fault Refusal :=
  act (Instr.wellFormed (.getCertificate t mtag slot offset len)) s (opGetCertificate t mtag slot offset len s)


/-- The effect of CHALLENGE (R329). -/
def opChallenge (t : Transport) (mtag slot : Nat) (nonce : Nat) (s : State) : State :=
  s.spdmRow t mtag (.challenge t mtag slot nonce) (fun s => s.spdmChallenge t mtag slot nonce)

/-- CHALLENGE. -/
def execChallenge (t : Transport) (mtag slot : Nat) (nonce : Nat) (s : State) : Host.Outcome State Fault Refusal :=
  act (Instr.wellFormed (.challenge t mtag slot nonce)) s (opChallenge t mtag slot nonce s)


/-- The effect of GET_MEASUREMENTS (R332). -/
def opGetMeasurements (t : Transport) (mtag index : Nat) (s : State) : State :=
  s.spdmRow t mtag (.getMeasurements t mtag index) (fun s => s.spdmMeasurements t mtag index)

/-- GET_MEASUREMENTS. -/
def execGetMeasurements (t : Transport) (mtag index : Nat) (s : State) : Host.Outcome State Fault Refusal :=
  act (Instr.wellFormed (.getMeasurements t mtag index)) s (opGetMeasurements t mtag index s)


/-- The effect of KEY_EXCHANGE (R327, R329). -/
def opKeyExchange (t : Transport) (mtag : Nat) (share : Nat) (mutAuth : Bool) (s : State) : State :=
  s.spdmRow t mtag (.keyExchange t mtag share mutAuth) (fun s => s.spdmExchange t mtag share mutAuth)

/-- KEY_EXCHANGE. -/
def execKeyExchange (t : Transport) (mtag : Nat) (share : Nat) (mutAuth : Bool) (s : State) : Host.Outcome State Fault Refusal :=
  act (Instr.wellFormed (.keyExchange t mtag share mutAuth)) s (opKeyExchange t mtag share mutAuth s)


/-- The effect of FINISH (R333, R334). -/
def opFinish (t : Transport) (mtag : Nat) (verified : Bool) (s : State) : State :=
  s.spdmRow t mtag (.finish t mtag verified) (fun s => s.spdmFinish t mtag verified)

/-- FINISH. -/
def execFinish (t : Transport) (mtag : Nat) (verified : Bool) (s : State) : Host.Outcome State Fault Refusal :=
  act (Instr.wellFormed (.finish t mtag verified)) s (opFinish t mtag verified s)


/-- The effect of GET_ENCAPSULATED_REQUEST (R329). -/
def opGetEncapsulatedRequest (t : Transport) (mtag : Nat) (s : State) : State :=
  s.spdmRow t mtag (.getEncapsulatedRequest t mtag) (fun s => s.spdmEncap t mtag)

/-- GET_ENCAPSULATED_REQUEST. -/
def execGetEncapsulatedRequest (t : Transport) (mtag : Nat) (s : State) : Host.Outcome State Fault Refusal :=
  act (Instr.wellFormed (.getEncapsulatedRequest t mtag)) s (opGetEncapsulatedRequest t mtag s)


/-- The effect of DELIVER_ENCAPSULATED_RESPONSE (R329, R331). -/
def opDeliverEncapsulatedResponse (t : Transport) (mtag : Nat) (chainOk : Bool) (root : List Byte) (s : State) : State :=
  s.spdmRow t mtag (.deliverEncapsulatedResponse t mtag chainOk root) (fun s => s.spdmDeliver t mtag chainOk root)

/-- DELIVER_ENCAPSULATED_RESPONSE. -/
def execDeliverEncapsulatedResponse (t : Transport) (mtag : Nat) (chainOk : Bool) (root : List Byte) (s : State) : Host.Outcome State Fault Refusal :=
  act (Instr.wellFormed (.deliverEncapsulatedResponse t mtag chainOk root)) s (opDeliverEncapsulatedResponse t mtag chainOk root s)


/-- The effect of KEY_UPDATE (R333). -/
def opKeyUpdate (t : Transport) (mtag : Nat) (all : Bool) (s : State) : State :=
  s.spdmRow t mtag (.keyUpdate t mtag all) (fun s => s.spdmUpdate t mtag all)

/-- KEY_UPDATE. -/
def execKeyUpdate (t : Transport) (mtag : Nat) (all : Bool) (s : State) : Host.Outcome State Fault Refusal :=
  act (Instr.wellFormed (.keyUpdate t mtag all)) s (opKeyUpdate t mtag all s)


/-- The effect of END_SESSION (R334). -/
def opEndSession (t : Transport) (mtag : Nat) (s : State) : State :=
  s.spdmRow t mtag (.endSession t mtag) (fun s => s.spdmEnd t mtag)

/-- END_SESSION. -/
def execEndSession (t : Transport) (mtag : Nat) (s : State) : Host.Outcome State Fault Refusal :=
  act (Instr.wellFormed (.endSession t mtag)) s (opEndSession t mtag s)


/-- The effect of RESPOND_IF_READY (R329). -/
def opRespondIfReady (t : Transport) (mtag : Nat) (s : State) : State :=
  s.spdmRow t mtag (.respondIfReady t mtag) (fun s => s.spdmRespond t mtag)

/-- RESPOND_IF_READY. -/
def execRespondIfReady (t : Transport) (mtag : Nat) (s : State) : Host.Outcome State Fault Refusal :=
  act (Instr.wellFormed (.respondIfReady t mtag)) s (opRespondIfReady t mtag s)


end Sys2Proof.Machine
end

