-- ==== Sys2Proof/Machine/Update.lean ====
section
/-! DEFINITION. The commands of firmware update (20_update). -/

namespace Sys2Proof.Machine

/-- OPEN (R444). -/
def opSvcOpen (length : Nat) (s : State) : State :=
  s.service (fun t => t.svcOpen length)

/-- OPEN. -/
def execSvcOpen (length : Nat) (s : State) : Host.Outcome State Fault Refusal :=
  act (Instr.wellFormed (.svcOpen length)) s (opSvcOpen length s)


/-- BLOCK (R447). -/
def opSvcBlock (index : Nat) (data : List Byte) (crc : Word) (s : State) : State :=
  s.service (fun t => t.svcBlock index data crc)

/-- BLOCK. -/
def execSvcBlock (index : Nat) (data : List Byte) (crc : Word) (s : State) : Host.Outcome State Fault Refusal :=
  act (Instr.wellFormed (.svcBlock index data crc)) s (opSvcBlock index data crc s)


/-- VERIFY (R448). -/
def opSvcVerify (s : State) : State :=
  s.service State.svcVerify

/-- VERIFY. -/
def execSvcVerify (s : State) : Host.Outcome State Fault Refusal :=
  act (Instr.wellFormed .svcVerify) s (opSvcVerify s)


/-- The checks of VERIFY have ended (R448). -/
def opVerifyDone (nvmOk : Bool) (s : State) : State :=
  s.verifyEnd nvmOk

/-- VERIFY_DONE. -/
def execVerifyDone (nvmOk : Bool) (s : State) : Host.Outcome State Fault Refusal :=
  act (Instr.wellFormed (.verifyDone nvmOk)) s (opVerifyDone nvmOk s)


/-- ACTIVATE (R449, R451, R452). -/
def opSvcActivate (digest : List Byte) (s : State) : State :=
  s.service (fun t => t.orLate (.activate digest) (fun t => t.svcActivate digest))

/-- ACTIVATE. -/
def execSvcActivate (digest : List Byte) (s : State) : Host.Outcome State Fault Refusal :=
  act (Instr.wellFormed (.svcActivate digest)) s (opSvcActivate digest s)


/-- ABORT (R444). -/
def opSvcAbort (s : State) : State :=
  s.service State.svcAbort

/-- ABORT. -/
def execSvcAbort (s : State) : Host.Outcome State Fault Refusal :=
  act (Instr.wellFormed .svcAbort) s (opSvcAbort s)


/-- RESTART (R444, R450, R452). -/
def opSvcRestart (s : State) : State :=
  s.service (fun t => t.orLate .restart State.svcRestart)

/-- RESTART. -/
def execSvcRestart (s : State) : Host.Outcome State Fault Refusal :=
  act (Instr.wellFormed .svcRestart) s (opSvcRestart s)


/-- CONFIRM (R444, R452, R455). -/
def opSvcConfirm (digest : List Byte) (s : State) : State :=
  s.service (fun t => t.orLate (.confirm digest) (fun t => t.svcConfirm digest))

/-- CONFIRM. -/
def execSvcConfirm (digest : List Byte) (s : State) : Host.Outcome State Fault Refusal :=
  act (Instr.wellFormed (.svcConfirm digest)) s (opSvcConfirm digest s)


/-- READ_BITMAP: the next private read returns the bitmap (R444). -/
def opSvcReadBitmap (s : State) : State :=
  s.service (fun t =>
    let u := t.svc 8 0
    { u with upd := { u.upd with readMap := true } })

/-- READ_BITMAP. -/
def execSvcReadBitmap (s : State) : Host.Outcome State Fault Refusal :=
  act (Instr.wellFormed .svcReadBitmap) s (opSvcReadBitmap s)


/-- A write of UPD_CONFIRM (R455). -/
def opUpdConfirm (a : Access) (digestLo : Word) (s : State) : State :=
  s.writeReg a 0x4018 digestLo none true

/-- UPD_CONFIRM. -/
def execUpdConfirm (a : Access) (digestLo : Word) (s : State) : Host.Outcome State Fault Refusal :=
  act (Instr.wellFormed (.updConfirm a digestLo)) s (opUpdConfirm a digestLo s)


/-- The update restart goes on with start-up (R450). -/
def opUpdateRestartProceed (env : BootEnv) (s : State) : State :=
  s.restartGoes env

/-- UPDATE_RESTART_PROCEED. -/
def execUpdateRestartProceed (env : BootEnv) (s : State) : Host.Outcome State Fault Refusal :=
  act (Instr.wellFormed (.updateRestartProceed env)) s (opUpdateRestartProceed env s)


/-- An instance in FOLLOW activates (R451). -/
def opFollowActivate (s : State) : State :=
  s.followNow

/-- FOLLOW_ACTIVATE. -/
def execFollowActivate (s : State) : Host.Outcome State Fault Refusal :=
  act (Instr.wellFormed .followActivate) s (opFollowActivate s)


/-- The self-test of the running image passes (R455). -/
def opSelftestPass (s : State) : State :=
  s.selfPassed

/-- SELFTEST_PASS. -/
def execSelftestPass (s : State) : Host.Outcome State Fault Refusal :=
  act (Instr.wellFormed .selftestPass) s (opSelftestPass s)


/-- The probation window has run out (R457). -/
def opProbationExpiry (s : State) : State :=
  s.probationOver

/-- PROBATION_EXPIRY. -/
def execProbationExpiry (s : State) : Host.Outcome State Fault Refusal :=
  act (Instr.wellFormed .probationExpiry) s (opProbationExpiry s)


end Sys2Proof.Machine
end

