-- ==== Sys2Proof/Machine/Dispatch.lean ====
section
/-! DEFINITION. The dispatch of a command to its meaning, one arm per command. -/

namespace Sys2Proof.Machine

def exec (i : Instr) (s : State) : Host.Outcome State Fault Refusal :=
  match i with
  | .pwrGoodRise env => Sys2Proof.Machine.execPwrGoodRise env s
  | .pwrGoodFall => Sys2Proof.Machine.execPwrGoodFall s
  | .nvmRdyTimeout => Sys2Proof.Machine.execNvmRdyTimeout s
  | .nvmRdyFall => Sys2Proof.Machine.execNvmRdyFall s
  | .nvmRdyRise env => Sys2Proof.Machine.execNvmRdyRise env s
  | .nvmAck err => Sys2Proof.Machine.execNvmAck err s
  | .nvmAccessTimeout => Sys2Proof.Machine.execNvmAccessTimeout s
  | .trainingComplete ch res => Sys2Proof.Machine.execTrainingComplete ch res s
  | .trainingTimeout ch => Sys2Proof.Machine.execTrainingTimeout ch s
  | .linkWaitTimeout => Sys2Proof.Machine.execLinkWaitTimeout s
  | .droneTick => Sys2Proof.Machine.execDroneTick s
  | .dronePrimaryFail => Sys2Proof.Machine.execDronePrimaryFail s
  | .droneCheckerFail => Sys2Proof.Machine.execDroneCheckerFail s
  | .holdoverExpiry => Sys2Proof.Machine.execHoldoverExpiry s
  | .lnRxvFall c l => Sys2Proof.Machine.execLnRxvFall c l s
  | .lnRxvRise c l => Sys2Proof.Machine.execLnRxvRise c l s
  | .lnEqack c l => Sys2Proof.Machine.execLnEqack c l s
  | .laneBlockRx c l hdr payload => Sys2Proof.Machine.execLaneBlockRx c l hdr payload s
  | .marker c l payload at0 => Sys2Proof.Machine.execMarker c l payload at0 s
  | .laneMap c payload l => Sys2Proof.Machine.execLaneMap c payload s l
  | .laneSwitch c payload l => Sys2Proof.Machine.execLaneSwitch c payload s l
  | .idleFlitRx c hdr corrected => Sys2Proof.Machine.execIdleFlitRx c hdr corrected s
  | .msgFlitRx c hdr cells corrected => Sys2Proof.Machine.execMsgFlitRx c hdr cells corrected s
  | .courseDown c hdr cell corrected => Sys2Proof.Machine.execCourseDown c hdr cell corrected s
  | .flitTx c => Sys2Proof.Machine.execFlitTx c s
  | .replayTimeout c => Sys2Proof.Machine.execReplayTimeout c s
  | .nakResend c => Sys2Proof.Machine.execNakResend c s
  | .crWait => Sys2Proof.Machine.execCrWait s
  | .retrainLimit c => Sys2Proof.Machine.execRetrainLimit c s
  | .rd c k hdr => Sys2Proof.Machine.execRd c k hdr s
  | .wr c k hdr data => Sys2Proof.Machine.execWr c k hdr data s
  | .wrp c k hdr data mask => Sys2Proof.Machine.execWrp c k hdr data mask s
  | .mask c k cell => Sys2Proof.Machine.execMask c k cell s
  | .fadd64 c k hdr data => Sys2Proof.Machine.execFadd64 c k hdr data s
  | .cas64 c k hdr data => Sys2Proof.Machine.execCas64 c k hdr data s
  | .fence c k hdr => Sys2Proof.Machine.execFence c k hdr s
  | .fenceComplete tag => Sys2Proof.Machine.execFenceComplete tag s
  | .cfgrd c k hdr => Sys2Proof.Machine.execCfgrd c k hdr s
  | .cfgwr c k hdr => Sys2Proof.Machine.execCfgwr c k hdr s
  | .malformedMessage c k hdr => Sys2Proof.Machine.execMalformedMessage c k hdr s
  | .resync c k hdr => Sys2Proof.Machine.execResync c k hdr s
  | .summaryCapture mtag => Sys2Proof.Machine.execSummaryCapture mtag s
  | .timeSet c k hdr => Sys2Proof.Machine.execTimeSet c k hdr s
  | .keyCreate c k hdr => Sys2Proof.Machine.execKeyCreate c k hdr s
  | .keyErase c k hdr => Sys2Proof.Machine.execKeyErase c k hdr s
  | .keyEraseComplete key partner => Sys2Proof.Machine.execKeyEraseComplete key partner s
  | .keyPersist c k hdr => Sys2Proof.Machine.execKeyPersist c k hdr s
  | .getVersion t mtag => Sys2Proof.Machine.execGetVersion t mtag s
  | .getCapabilities t mtag => Sys2Proof.Machine.execGetCapabilities t mtag s
  | .negotiateAlgorithms t mtag supported => Sys2Proof.Machine.execNegotiateAlgorithms t mtag supported s
  | .getDigests t mtag => Sys2Proof.Machine.execGetDigests t mtag s
  | .getCertificate t mtag slot offset len => Sys2Proof.Machine.execGetCertificate t mtag slot offset len s
  | .challenge t mtag slot nonce => Sys2Proof.Machine.execChallenge t mtag slot nonce s
  | .getMeasurements t mtag index => Sys2Proof.Machine.execGetMeasurements t mtag index s
  | .keyExchange t mtag share mutAuth => Sys2Proof.Machine.execKeyExchange t mtag share mutAuth s
  | .finish t mtag verified => Sys2Proof.Machine.execFinish t mtag verified s
  | .getEncapsulatedRequest t mtag => Sys2Proof.Machine.execGetEncapsulatedRequest t mtag s
  | .deliverEncapsulatedResponse t mtag chainOk root => Sys2Proof.Machine.execDeliverEncapsulatedResponse t mtag chainOk root s
  | .keyUpdate t mtag all => Sys2Proof.Machine.execKeyUpdate t mtag all s
  | .endSession t mtag => Sys2Proof.Machine.execEndSession t mtag s
  | .respondIfReady t mtag => Sys2Proof.Machine.execRespondIfReady t mtag s
  | .routerAdmit => Sys2Proof.Machine.execRouterAdmit s
  | .rmwMerge tag writeSpace => Sys2Proof.Machine.execRmwMerge tag writeSpace s
  | .tagTimeout tag writeSpace => Sys2Proof.Machine.execTagTimeout tag writeSpace s
  | .quarantineEnd tag writeSpace => Sys2Proof.Machine.execQuarantineEnd tag writeSpace s
  | .windowRoll => Sys2Proof.Machine.execWindowRoll s
  | .ageUnitExpiry => Sys2Proof.Machine.execAgeUnitExpiry s
  | .sysCommit a groups => Sys2Proof.Machine.execSysCommit a groups s
  | .commitCheck => Sys2Proof.Machine.execCommitCheck s
  | .groupApply g ch => Sys2Proof.Machine.execGroupApply g ch s
  | .mapSwitch => Sys2Proof.Machine.execMapSwitch s
  | .commitWaitExpiry => Sys2Proof.Machine.execCommitWaitExpiry s
  | .registerWrite a off val => Sys2Proof.Machine.execRegisterWrite a off val s
  | .postedWriteEffect page => Sys2Proof.Machine.execPostedWriteEffect page s
  | .sleepingDomainRead a off => Sys2Proof.Machine.execSleepingDomainRead a off s
  | .rcRead a off => Sys2Proof.Machine.execRcRead a off s
  | .counterLowRead a off => Sys2Proof.Machine.execCounterLowRead a off s
  | .sysSnap a => Sys2Proof.Machine.execSysSnap a s
  | .sysSumctlCapture a => Sys2Proof.Machine.execSysSumctlCapture a s
  | .smpSummaryRead => Sys2Proof.Machine.execSmpSummaryRead s
  | .sysSave a => Sys2Proof.Machine.execSysSave a s
  | .saveComplete failed => Sys2Proof.Machine.execSaveComplete failed s
  | .smpAddressMatch x => Sys2Proof.Machine.execSmpAddressMatch s x
  | .sensorRound => Sys2Proof.Machine.execSensorRound s
  | .sensorRead base sensor val par => Sys2Proof.Machine.execSensorRead base sensor val par s
  | .sensorAckTimeout base sensor => Sys2Proof.Machine.execSensorAckTimeout base sensor s
  | .regIldReading v => Sys2Proof.Machine.execRegIldReading v s
  | .telemRise => Sys2Proof.Machine.execTelemRise s
  | .regOcwRise => Sys2Proof.Machine.execRegOcwRise s
  | .regOcwFall => Sys2Proof.Machine.execRegOcwFall s
  | .ocwHoldExpiry => Sys2Proof.Machine.execOcwHoldExpiry s
  | .pswRdyFall d => Sys2Proof.Machine.execPswRdyFall d s
  | .dieWindowRoll die => Sys2Proof.Machine.execDieWindowRoll die s
  | .agentRequest ch a t => Sys2Proof.Machine.execAgentRequest ch a s t
  | .preemptionPoint ch => Sys2Proof.Machine.execPreemptionPoint ch s
  | .tabRowIssue ch insert t room flip => Sys2Proof.Machine.execTabRowIssue ch insert t s room flip
  | .burstComplete ch pre err bad => Sys2Proof.Machine.execBurstComplete ch s pre err bad
  | .readDataReturn ch damage bad => Sys2Proof.Machine.execReadDataReturn ch damage s bad
  | .captureMiss ch => Sys2Proof.Machine.execCaptureMiss ch s
  | .statusResult ch sid st => Sys2Proof.Machine.execStatusResult ch sid st s
  | .statPoll => Sys2Proof.Machine.execStatPoll s
  | .bankIdleTimeout ch b => Sys2Proof.Machine.execBankIdleTimeout ch b s
  | .slotTimerExpiry ch => Sys2Proof.Machine.execSlotTimerExpiry ch s
  | .mitlatchRx ch sid => Sys2Proof.Machine.execMitlatchRx ch sid s
  | .hotPeriodExpiry ch b => Sys2Proof.Machine.execHotPeriodExpiry ch b s
  | .exitSweepEnd ch => Sys2Proof.Machine.execExitSweepEnd ch s
  | .sentCheckResult ch b crc parityOk => Sys2Proof.Machine.execSentCheckResult ch b crc parityOk s
  | .suspectScrubEnd ch b counted => Sys2Proof.Machine.execSuspectScrubEnd ch b counted s
  | .replicaWindowEnd g lost => Sys2Proof.Machine.execReplicaWindowEnd g lost s
  | .calRunComplete g ok fret even odd => Sys2Proof.Machine.execCalRunComplete g ok fret even odd s
  | .slewStep ch => Sys2Proof.Machine.execSlewStep ch s
  | .idlePeriod ch => Sys2Proof.Machine.execIdlePeriod ch s
  | .idleWaitExpiry ch => Sys2Proof.Machine.execIdleWaitExpiry ch s
  | .retrainComplete ch res => Sys2Proof.Machine.execRetrainComplete ch res s
  | .calRun a groups => Sys2Proof.Machine.execCalRun a groups s
  | .calRetrain a ch full => Sys2Proof.Machine.execCalRetrain a ch full s
  | .refSusclr a ch => Sys2Proof.Machine.execRefSusclr a ch s
  | .idleThresholdExpiry g step => Sys2Proof.Machine.execIdleThresholdExpiry g step s
  | .entryConditionsMet d => Sys2Proof.Machine.execEntryConditionsMet d s
  | .delayLimitExpiry d => Sys2Proof.Machine.execDelayLimitExpiry d s
  | .pwrReqOn a d => Sys2Proof.Machine.execPwrReqOn a d s
  | .pwrReqRetention a d => Sys2Proof.Machine.execPwrReqRetention a d s
  | .pwrReqOff a d => Sys2Proof.Machine.execPwrReqOff a d s
  | .linkEntryAcked => Sys2Proof.Machine.execLinkEntryAcked s
  | .wakeReady d retParityOk storeParityOk selfTestOk => Sys2Proof.Machine.execWakeReady d retParityOk storeParityOk selfTestOk s
  | .wakeTimerExpiry d => Sys2Proof.Machine.execWakeTimerExpiry d s
  | .wakeRetry d => Sys2Proof.Machine.execWakeRetry d s
  | .pwrUnfence a d => Sys2Proof.Machine.execPwrUnfence a d s
  | .linkWake c => Sys2Proof.Machine.execLinkWake c s
  | .mirIdentity words => Sys2Proof.Machine.execMirIdentity words s
  | .pairAloneTimeout => Sys2Proof.Machine.execPairAloneTimeout s
  | .mirHeartbeat words => Sys2Proof.Machine.execMirHeartbeat words s
  | .mirRefBase words => Sys2Proof.Machine.execMirRefBase words s
  | .mirBacklog words => Sys2Proof.Machine.execMirBacklog words s
  | .mirKey words => Sys2Proof.Machine.execMirKey words s
  | .mirRepair words => Sys2Proof.Machine.execMirRepair words s
  | .mirConfig words => Sys2Proof.Machine.execMirConfig words s
  | .mirTrims words => Sys2Proof.Machine.execMirTrims words s
  | .mirSleep words => Sys2Proof.Machine.execMirSleep words s
  | .mirPairkey words => Sys2Proof.Machine.execMirPairkey words s
  | .mirHandback words => Sys2Proof.Machine.execMirHandback words s
  | .mirrorAck seq => Sys2Proof.Machine.execMirrorAck seq s
  | .mirrorResendTimeout seq => Sys2Proof.Machine.execMirrorResendTimeout seq s
  | .mirrorNoackTimeout => Sys2Proof.Machine.execMirrorNoackTimeout s
  | .mirRxreqWake => Sys2Proof.Machine.execMirRxreqWake s
  | .heartbeatWindowClose => Sys2Proof.Machine.execHeartbeatWindowClose s
  | .brgFgnt => Sys2Proof.Machine.execBrgFgnt s
  | .brgSfencedRise => Sys2Proof.Machine.execBrgSfencedRise s
  | .brgSfencedFall => Sys2Proof.Machine.execBrgSfencedFall s
  | .brgXrdy => Sys2Proof.Machine.execBrgXrdy s
  | .takeoverRetrainDone failedChs => Sys2Proof.Machine.execTakeoverRetrainDone failedChs s
  | .handback a => Sys2Proof.Machine.execHandback a s
  | .handbackDrained => Sys2Proof.Machine.execHandbackDrained s
  | .handbackAcked => Sys2Proof.Machine.execHandbackAcked s
  | .handbackWaitExpiry => Sys2Proof.Machine.execHandbackWaitExpiry s
  | .progStall point => Sys2Proof.Machine.execProgStall point s
  | .faultNPulseEnd => Sys2Proof.Machine.execFaultNPulseEnd s
  | .fltFence a val => Sys2Proof.Machine.execFltFence a val s
  | .fltUnfence a val selfTestOk => Sys2Proof.Machine.execFltUnfence a val selfTestOk s
  | .fltPinHold a seq => Sys2Proof.Machine.execFltPinHold a seq s
  | .fltPinRelease a seq => Sys2Proof.Machine.execFltPinRelease a seq s
  | .evtView a seq => Sys2Proof.Machine.execEvtView a seq s
  | .evtLogidx a slot => Sys2Proof.Machine.execEvtLogidx a slot s
  | .persistDelayExpiry => Sys2Proof.Machine.execPersistDelayExpiry s
  | .eventPersist => Sys2Proof.Machine.execEventPersist s
  | .logScanDone => Sys2Proof.Machine.execLogScanDone s
  | .crsFence a c => Sys2Proof.Machine.execCrsFence a c s
  | .crsUnfence a c => Sys2Proof.Machine.execCrsUnfence a c s
  | .crsRetrain a c => Sys2Proof.Machine.execCrsRetrain a c s
  | .secLock a => Sys2Proof.Machine.execSecLock a s
  | .entropyHealthFail test raw => Sys2Proof.Machine.execEntropyHealthFail test s raw
  | .entropyRetest pass raw => Sys2Proof.Machine.execEntropyRetest pass s raw
  | .softRow a val => Sys2Proof.Machine.execSoftRow a val s
  | .spprReady => Sys2Proof.Machine.execSpprReady s
  | .repairWaitExpiry => Sys2Proof.Machine.execRepairWaitExpiry s
  | .tspprExpiry => Sys2Proof.Machine.execTspprExpiry s
  | .rowRestoreDone same => Sys2Proof.Machine.execRowRestoreDone same s
  | .repairRecordWritten ok => Sys2Proof.Machine.execRepairRecordWritten ok s
  | .hardRow a val => Sys2Proof.Machine.execHardRow a val s
  | .hpprCountExpiry => Sys2Proof.Machine.execHpprCountExpiry s
  | .colAdd a val => Sys2Proof.Machine.execColAdd a val s
  | .colRemove a val => Sys2Proof.Machine.execColRemove a val s
  | .bistStart a val => Sys2Proof.Machine.execBistStart a val s
  | .bistAbort a => Sys2Proof.Machine.execBistAbort a s
  | .bistEnd res => Sys2Proof.Machine.execBistEnd res s
  | .loopNesl a val => Sys2Proof.Machine.execLoopNesl a val s
  | .loopNepl a val => Sys2Proof.Machine.execLoopNepl a val s
  | .loopFar a val => Sys2Proof.Machine.execLoopFar a val s
  | .loopOff a => Sys2Proof.Machine.execLoopOff a s
  | .wsBypass wrstN => Sys2Proof.Machine.execWsBypass s wrstN
  | .wsExtest cells => Sys2Proof.Machine.execWsExtest s cells
  | .wsIntest cells => Sys2Proof.Machine.execWsIntest s cells
  | .cmReg data => Sys2Proof.Machine.execCmReg data s
  | .cmSram data failed => Sys2Proof.Machine.execCmSram data failed s
  | .cmId => Sys2Proof.Machine.execCmId s
  | .svcOpen length => Sys2Proof.Machine.execSvcOpen length s
  | .svcBlock index data crc => Sys2Proof.Machine.execSvcBlock index data crc s
  | .svcVerify => Sys2Proof.Machine.execSvcVerify s
  | .verifyDone nvmOk => Sys2Proof.Machine.execVerifyDone nvmOk s
  | .svcActivate digest => Sys2Proof.Machine.execSvcActivate digest s
  | .svcAbort => Sys2Proof.Machine.execSvcAbort s
  | .svcRestart => Sys2Proof.Machine.execSvcRestart s
  | .svcConfirm digest => Sys2Proof.Machine.execSvcConfirm digest s
  | .svcReadBitmap => Sys2Proof.Machine.execSvcReadBitmap s
  | .updConfirm a digestLo => Sys2Proof.Machine.execUpdConfirm a digestLo s
  | .updateRestartProceed env => Sys2Proof.Machine.execUpdateRestartProceed env s
  | .followActivate => Sys2Proof.Machine.execFollowActivate s
  | .selftestPass => Sys2Proof.Machine.execSelftestPass s
  | .probationExpiry => Sys2Proof.Machine.execProbationExpiry s
  | .flitCrcFailure c kind hdr corrected => Sys2Proof.Machine.execFlitCrcFailure c kind hdr corrected s
  | .snapCaptureComplete => Sys2Proof.Machine.execSnapCaptureComplete s

end Sys2Proof.Machine
end

