-- ==== Sys2Proof/Safety.lean ====
section
/-! DEFINITION. What counts as a safe state and a safe run, and the conditions in which the statements speak. -/

namespace Sys2Proof.Machine

/-- A safe state: no fault of severity 4 (R406), no ledger found wrong since power-good (R407), and the MRAM in its canonical
form. -/
def State.safe (s : State) : Prop := s.flt.fatal = false ∧ s.flt.ledgerFail = 0 ∧ Memory.wf s.nvm.mem = true

/-- A safe step: it answers a next state, which is safe. -/
def State.stepsSafely (s : State) : Prop := ∃ t, step s = .next t ∧ t.safe

/-- A safe run of `n` steps. -/
def State.runsSafely (s : State) : Nat → Prop
  | 0 => s.safe
  | n + 1 => s.safe ∧ ∃ t, step s = .next t ∧ t.runsSafely n

/-- While PWR_GOOD is low the instance is held in reset (R43, R44): all that is volatile stands at its reset value, every
CHn_RST_N and every PSW_EN is low, nothing asks the bridge or the management controller for anything, and the NVM port is idle. -/
def State.heldInReset (s : State) : Prop :=
  s.pins.pwrGood = false →
    s = State.cold s.pins s.nvm s.free s.pending ∧ s.pins.chRst = .const false ∧ s.pins.pswEn = .const false ∧
      s.pins.brgFreq = false ∧ s.pins.brgXen = false ∧ s.pins.smpAck = false ∧ s.pins.smpIbi = false ∧
      s.nvm.jobs = [] ∧ s.nvm.deferred = [] ∧ s.nvm.reqSince = none

/-- A SECURE write of a register whose domain is on with no entry delayed, whose page has no posted write, behind no posted write of
its path, and not on the SMP in ROM recovery mode: it takes effect at once (R71 to R75, R85, R86, R98). -/
def State.writeOpen (s : State) (a : Access) (off : Nat) (v : Word) : Prop :=
  s.running = true ∧ s.accessLevel a = 2 ∧ s.domOn (s.wordDomain (pathNum a.path) off) = true ∧
    (s.dom (s.wordDomain (pathNum a.path) off)).delay = none ∧ s.busy (busyKey off) = false ∧
    s.pathWaits (pathNum a.path) = false ∧ s.writeBad 2 off v = false ∧ s.closedTo a.path 0x1000 = false

/-! ### Frames -/

/-- The parts of State, by which the statements say what a command leaves unchanged. -/
inductive Part where
  | time | regs | pins | nvm | evt | flt | link | trx | regul | chans | array | tab | capo | sensors | sec | cal | pwr | boot
  | pair | rpr | upd | free | pending
  deriving DecidableEq, Repr

/-- A part is the same in two states. -/
def Part.same (p : Part) (s t : State) : Prop :=
  match p with
  | .time => t.time = s.time
  | .regs => t.regs = s.regs
  | .pins => t.pins = s.pins
  | .nvm => t.nvm = s.nvm
  | .evt => t.evt = s.evt
  | .flt => t.flt = s.flt
  | .link => t.link = s.link
  | .trx => t.trx = s.trx
  | .regul => t.regul = s.regul
  | .chans => t.chans = s.chans
  | .array => t.array = s.array
  | .tab => t.tab = s.tab
  | .capo => t.capo = s.capo
  | .sensors => t.sensors = s.sensors
  | .sec => t.sec = s.sec
  | .cal => t.cal = s.cal
  | .pwr => t.pwr = s.pwr
  | .boot => t.boot = s.boot
  | .pair => t.pair = s.pair
  | .rpr => t.rpr = s.rpr
  | .upd => t.upd = s.upd
  | .free => t.free = s.free
  | .pending => t.pending = s.pending

/-- Every part outside a list is unchanged. -/
def State.changesOnly (s t : State) (l : List Part) : Prop := ∀ p : Part, p ∉ l → p.same s t

/-! ### How commands arrive -/

/-- A request with header `h` arrives on course `c` at cell `k` and passes checks 1 and 2: it has its credits, its reserved fields
are zero, and its tag is free (R143, R155, R157). -/
def State.reqArrives (s : State) (c k : Nat) (h : Cell) : Prop :=
  s.running = true ∧ c < 12 ∧ k + 1 + wdCells (hOp h) ≤ 30 ∧ s.delivers c = true ∧ s.lacking 1 (wdCells (hOp h)) 0 = none ∧
    reservedOk h = true ∧ s.tagBusy (inWriteSpace (hOp h)) (hTag h) = false ∧
    (inWriteSpace (hOp h) = true → bitAt h 19 = false)

/-- Nothing holds a request of requester `q` at the router (R160, R185, R197, R204), and the requests there are numbered below the
next. -/
def State.routerOpen (s : State) (q : Nat) : Prop :=
  s.domOn 2 = true ∧ s.trx.fences.contains q = false ∧ s.trx.resyncs = [] ∧ (∀ c ∈ s.regs.commits, c.deadline = none) ∧
    ∀ x ∈ s.trx.reqs, x.uid < s.trx.nextUid ∧ x.stage ≠ .held ∧ ∀ j, x.stage = .queued j → hRqid x.hdr = q → j = s.ctxOf q

/-- From `s` to `t` the request with header `h` has taken its tag and its credits and waits in its context's queue. -/
def State.joinsQueue (s t : State) (h : Cell) (data : List Cell) (mask : BitVec 64) : Prop :=
  (∃ r, t.req s.trx.nextUid = some r ∧ r.stage = .queued (s.ctxOf (hRqid h)) ∧ r.hdr = h ∧ r.data = data ∧ r.mask = mask ∧
    r.left = List.range (linesOf h)) ∧
  t.trx.nextUid = s.trx.nextUid + 1 ∧
  (if inWriteSpace (hOp h) = true then t.trx.wrAcct = s.trx.wrAcct.take ∧ t.trx.rdAcct = s.trx.rdAcct
    else t.trx.rdAcct = s.trx.rdAcct.take ∧ t.trx.wrAcct = s.trx.wrAcct) ∧
  t.link.req = s.link.req.use 1 ∧ t.link.wd.held = s.link.wd.held - wdCells (hOp h) ∧ t.link.upQ = s.link.upQ ∧
  t.nvm = s.nvm ∧ t.array = s.array ∧ t.time = s.time

/-- A management message of one cell, with header `h` and subtype `sub`, arrives on course `c` at cell `k` and passes its checks
(R143, R162, R169). -/
def State.mgmtArrives (s : State) (c k sub : Nat) (h : Cell) : Prop :=
  s.running = true ∧ c < 12 ∧ k < 30 ∧ s.delivers c = true ∧ 1 ≤ s.link.mgt.held ∧ hOp h = 0x20 ∧ mSub h = sub ∧ mCells h = 1 ∧
    mgmtOk h = true ∧ s.mtagBusy (mTag h) = false

/-- An SPDM request arrives while the responder runs and no entry of its domain is delayed: on the link under a management tag that
is free, or that its flit's delivery has marked (R330). -/
def State.spdmOpen (s : State) (tr : Transport) (m : Nat) : Prop :=
  s.running = true ∧ m < 64 ∧ s.responder = true ∧ (s.dom 7).delay = none ∧
    (tr = .link → s.trx.spdm.contains m = true ∨
      (s.domOn 1 = true ∧ (List.range 12).any (fun c => (s.course c).up) = true ∧ s.mtagBusy m = false))

/-- From `s` to `t` a response with this code and body has gone out, sealed in the session `y` where there is one; on the link it
completes its management tag. -/
def State.spdmSent (s t : State) (y : Option Session) (tr : Transport) (m code : Nat) (body : List Byte) : Prop :=
  (t.spdm tr).last = some (code, body) ∧
    (t.spdm tr).carried = spdmCarried { s.spdm tr with session := y } tr (spdmMessage code body) ∧
    (tr = .link → t.link.upQ = s.link.upQ ++ [⟨spdmCells m y.isSome (t.spdm tr).carried, .mtag m, none, false⟩])

/-- From `s` to `t` a response has gone out, or Camec has deferred it, as a free value decides (R329, log 42): an ERROR names its
request, and the response is held. `n` numbers the free value. -/
def State.spdmMaySend (s t : State) (n : Nat) (tr : Transport) (m code : Nat) (body : List Byte) : Prop :=
  if bitAt (Config.free n) 0 = true then
    s.spdmSent t (s.spdm tr).session tr m 0x7f [0x42#8, 0#8, Config.spdmByte n 0, BitVec.ofNat 8 (code + 0x80), Config.spdmByte n 1,
      Config.spdmByte n 2] ∧ (t.spdm tr).held = some (code, body)
  else s.spdmSent t (s.spdm tr).session tr m code body

/-- Nothing waits for a change of a domain's state: no posted write or stalled read, no key operation, no SPDM request, no
request and no commit; start-up has ended and no handback is under way. -/
def State.nothingWaits (s : State) : Prop :=
  s.regs.commits = [] ∧ s.regs.posted = [] ∧ s.regs.stalled = [] ∧ s.trx.keyOps = [] ∧ s.sec.spdmWait = [] ∧ s.trx.reqs = [] ∧
    s.boot.stage = .ready ∧ s.pair.role ≠ .fenced

/-- A channel engine stands for itself: it runs no partner channel, no request waits for one of its entries, no commit is at work, no
scrubbed burst is to be checked, and its group has no calibration run due and is not on the way to a deep self-refresh (R227, R247,
R287, R293, R359, R393). -/
def State.channelAlone (s : State) (ch : Nat) : Prop :=
  s.engine ch = [ch] ∧ (s.chan ch).hazard = [] ∧ s.applying = none ∧ (s.chan ch).g2 = none ∧ (s.chan ch).scrubGot = [] ∧
    (s.calGr (calGroupOf ch)).dueSince = none ∧ (s.cg (groupOf ch)).st ≠ .deep

/-- A command that the encodings of R258 and R259 admit: each field that its encoding has is in its range, every other is 0. -/
def DieCmd.admitted (c : DieCmd) : Prop :=
  c.sid < 4 ∧
    ((c.cmd ≤ 12 ∧ c.bank < 16 ∧ c.row < 32768 ∧ c.arg < 16 ∧ c.col = 0 ∧ c.mr = 0 ∧ c.data = 0) ∨
     (16 ≤ c.cmd ∧ c.cmd ≤ 18 ∧ c.bank < 16 ∧ c.col < 16 ∧ c.row = 0 ∧ c.arg = 0 ∧ c.mr = 0 ∧ c.data = 0) ∨
     (c.cmd = 19 ∧ c.mr < 64 ∧ c.data < 256 ∧ c.bank = 0 ∧ c.row = 0 ∧ c.arg = 0 ∧ c.col = 0) ∨
     (c.cmd = 20 ∧ c.mr < 64 ∧ c.data = 0 ∧ c.bank = 0 ∧ c.row = 0 ∧ c.arg = 0 ∧ c.col = 0))

/-- A channel as it stands once it has reached fret `t`. -/
def State.atFret (s : State) (ch t : Nat) : State := s.setChan ch (fun c => { c with clock := max c.clock t })

/-- A row's command may issue on its bus at fret `t`, `last` being the launch of its thread's latest command (R253). -/
def State.rowMay (s : State) (ch t : Nat) (last : Option Nat) (r : BitVec 64) (x : Target) : Prop :=
  s.driven ch = true ∧ (∀ t0, last = some t0 → t0 + rowWait r ≤ t) ∧ (s.chan ch).busFree (rowCmd r) t = true ∧
    s.rulesDone ch r x t = true

/-- A mirror message of a type passes its check at a port that takes it (R42, R383, R384). -/
def State.mirArrives (s : State) (type : Nat) (l : List Word) : Prop :=
  s.running = true ∧ l.length < 65536 ∧ mirOk l = true ∧ mirType l = type ∧ s.domOn 6 = true ∧ s.clamped = false

/-- It is the state message that is next in order (R384). -/
def State.mirNext (s : State) (type : Nat) (l : List Word) : Prop :=
  s.mirArrives type l ∧ s.portOpen = true ∧ mirSeq l = s.pair.rxSeq ∧ s.pair.early = []

/-- From `s` to `t` it has been acknowledged and applied. -/
def State.mirTaken (s t : State) (l : List Word) : Prop :=
  t.pair.rxSeq = (s.pair.rxSeq + 1) % 256 ∧ t.pair.acked = some (mirSeq l) ∧ t.pair.early = []

/-- The update service answers at once: no write of its own is under way, no restart is decided, D7 is on and stays so, and NVM_RDY
is high (R443 to R445, R34). -/
def State.serviceOpen (s : State) : Prop :=
  s.running = true ∧ s.upd.busy = false ∧ s.upd.restartAt = none ∧ s.domOn 7 = true ∧ (s.dom 7).delay = none ∧ s.pins.nvmRdy = true

/-! ### Arithmetic without carries, for the check code of R130 -/

/-- The product of two polynomials over GF(2), coded as the bits of numbers. -/
def clMul (q g : Nat) : Nat := (List.range (q.log2 + 1)).foldl (fun x i => if q.testBit i then x ^^^ g * 2 ^ i else x) 0

/-- The lowest `n` bits of a number in the reverse order. -/
def bitsReversed (n v : Nat) : Nat := (List.range n).foldl (fun x i => 2 * x + v / 2 ^ i % 2) 0

/-- The bits of a byte string as one number, the first byte highest, each byte with its lowest bit first. -/
def bitsOfMessage (l : List Byte) : Nat := l.foldl (fun x b => 256 * x + bitsReversed 8 b.toNat) 0

end Sys2Proof.Machine
end

