-- ==== Sys2Proof/Certificates/Slice0/Obligations.lean ====
section
/-! DEFINITION. The statements for the provers, one definition each; OBLIGATIONS.json lists them. -/

open Sys2Proof Sys2Proof.Machine

/-! ### The machine as a whole -/

/-- A step takes the command at the front of the queue and runs it on the state with the queue's rest. The queue is the block
model's (log 4). -/
def Obligations.StepRunsTheFrontCommand : Prop :=
  ∀ (s : State) (c : Instr) (l : List Instr), s.pending = c :: l → step s = exec c { s with pending := l }

/-- Every command answers a next state where its operands name units that the part has, and the fault noSuchUnit elsewhere; none
is refused. That a command which names an absent unit stops is the model's own choice (log 1). -/
def Obligations.OutcomesAreTotal : Prop :=
  ∀ (c : Instr) (s : State),
    (c.wellFormed = true → ∃ t, exec c s = .next t) ∧ (c.wellFormed = false → exec c s = .fault .noSuchUnit)

/-- A command takes only its own effect: the waiting queue is untouched by every command, and each of the input pins PWR_GOOD,
NVM_RDY, BRG_SFENCED, REG_OCW and WRSTN keeps its level under every command but that pin's events, and the strap under all of them;
start-up reads the level of WRSTN at power-good. -/
def Obligations.InputsFollowTheirOwnEvents : Prop :=
  ∀ (c : Instr) (s t : State), exec c s = .next t →
    t.pending = s.pending ∧ t.pins.instId = s.pins.instId ∧
    ((∀ env, c ≠ .pwrGoodRise env) → c ≠ .pwrGoodFall → t.pins.pwrGood = s.pins.pwrGood) ∧
    ((∀ env, c ≠ .nvmRdyRise env) → c ≠ .nvmRdyFall → t.pins.nvmRdy = s.pins.nvmRdy) ∧
    (c ≠ .brgSfencedRise → c ≠ .brgSfencedFall → t.pins.sfenced = s.pins.sfenced) ∧
    (c ≠ .regOcwRise → c ≠ .regOcwFall → t.pins.regOcw = s.pins.regOcw) ∧
    ((∀ env, c ≠ .pwrGoodRise env) → (∀ b, c ≠ .wsBypass b) → t.pins.wrstN = s.pins.wrstN)

/-- While PWR_GOOD is low the instance is held in reset, whatever command comes: an invariant of every step. -/
def Obligations.HeldInResetIsKept : Prop :=
  ∀ s t : State, s.heldInReset → step s = .next t → t.heldInReset

/-- The machine after reset is held in reset. Values that the spec does not give are the model's (log 2). -/
def Obligations.ResetIsHeldInReset : Prop := State.reset.heldInReset ∧ Memory.wf State.reset.nvm.mem = true

/-- Once the wrapper's boundary or internal test has stopped every agent, a command other than the wrapper's own, those of
PWR_GOOD and those of the four input pins changes nothing at all, until PWR_GOOD falls. -/
def Obligations.StoppedAgentsStand : Prop :=
  ∀ (c : Instr) (s : State), c.wellFormed = true → s.pins.pwrGood = true → s.rpr.wsStop = true →
    (∀ env, c ≠ .pwrGoodRise env) → c ≠ .pwrGoodFall → (∀ env, c ≠ .nvmRdyRise env) → c ≠ .nvmRdyFall →
    c ≠ .brgSfencedRise → c ≠ .brgSfencedFall → c ≠ .regOcwRise → c ≠ .regOcwFall →
    (∀ b, c ≠ .wsBypass b) → (∀ x, c ≠ .wsExtest x) → (∀ x, c ≠ .wsIntest x) → (∀ d, c ≠ .cmReg d) → (∀ d f, c ≠ .cmSram d f) → c ≠ .cmId →
    exec c s = .next s

/-- MRAM: what was written is read, every other byte reads as before, and the canonical form is kept; a word is eight bytes, the
lowest first. Two memories in canonical form that read alike at every address are the same data. -/
def Obligations.MramReadsWhatWasWritten : Prop :=
  (∀ (m : List Host.Cell), Memory.wf m = true →
     (∀ a b, Memory.wf (memWrite m a b) = true ∧ memRead (memWrite m a b) a = b ∧
       ∀ x, x ≠ a → memRead (memWrite m a b) x = memRead m x) ∧
     (∀ w v, w < 0x100000 → Memory.wf (memWriteWord m w v) = true ∧ memReadWord (memWriteWord m w v) w = v ∧
       ∀ x, x < 8 * w ∨ 8 * w + 8 ≤ x → memRead (memWriteWord m w v) x = memRead m x)) ∧
  (∀ m n : List Host.Cell, Memory.wf m = true → Memory.wf n = true → (∀ a, memRead m a = memRead n a) → m = n)

/-! ### Power-good, NVM and start-up -/

/-- PWR_GOOD falls: the instance is held in reset and what is not non-volatile is lost. MRAM, the OTP counter and the lock fuse
stand; no write is left under way. PWR_GOOD rises: D5 to D7 are switched on, and start-up waits for the NVM where NVM_RDY is low;
a failed check of the ROM, the fuses or the entropy source, and a domain that does not wake, halt it with FAULT_N asserted. Reset
values that the spec does not give are the model's (log 2). -/
def Obligations.PowerGoodFallsAndRises : Prop :=
  (∀ s : State, s.pins.pwrGood = true →
     ∃ t, exec .pwrGoodFall s = .next t ∧
       t.pins.pwrGood = false ∧ t = State.cold t.pins t.nvm s.free s.pending ∧ t.pins.chRst = .const false ∧
       t.nvm.mem = s.nvm.mem ∧ t.nvm.otpCount = s.nvm.otpCount ∧ t.nvm.lockFuse = s.nvm.lockFuse ∧
       t.nvm.jobs = [] ∧ t.nvm.deferred = []) ∧
  (∀ (env : BootEnv) (s : State), env.wellFormed = true → s.pins.pwrGood = false → s.pins.nvmRdy = false →
     ((env.deadDomain.contains 5 || env.deadDomain.contains 6 || env.deadDomain.contains 7) = false →
       (env.romOk = true ∧ env.fuseOk = true ∧ env.entropyOk = true →
         ∃ t, exec (.pwrGoodRise env) s = .next t ∧ t.pins.pwrGood = true ∧ t.boot.stage = .rom ∧ t.boot.waiting = true ∧
           t.domOn 5 = true ∧ t.domOn 6 = true ∧ t.domOn 7 = true ∧ t.sec.drbgOk = true ∧ t.nvm.mem = s.nvm.mem ∧
           s.changesOnly t [.boot, .nvm, .pwr, .pins, .sec, .cal, .free]) ∧
       (env.romOk = false ∨ env.fuseOk = false ∨ env.entropyOk = false →
         ∃ t, exec (.pwrGoodRise env) s = .next t ∧ t.boot.stage = .halted ∧
           t.boot.fail = (if env.romOk = false then .romCheck else if env.fuseOk = false then .fuse else .entropy) ∧
           t.flt.asserts = (s.flt.asserts + 1) % 2 ^ 32 ∧ t.flt.pulseEnd.isSome = true ∧
           s.changesOnly t [.boot, .nvm, .pwr, .pins, .flt, .cal])) ∧
     ((env.deadDomain.contains 5 || env.deadDomain.contains 6 || env.deadDomain.contains 7) = true →
       ∃ t, exec (.pwrGoodRise env) s = .next t ∧ t.boot.stage = .halted ∧ t.boot.fail = .domainWake ∧
         t.pins.chRst = .const false ∧ t.flt.asserts = (s.flt.asserts + 1) % 2 ^ 32))

/-- NVM_RDY at its new level: a start-up that waits goes on with the boot record; otherwise no access starts while it is low, and
the writes deferred are taken up in their order when it rises. A rise that never comes halts start-up. A word of a record reaches
MRAM whole at its acknowledgement, and the port goes on with the record's next word; a word on which NVM_ERR rose, or that is not
acknowledged within 4 drone ticks, leaves MRAM as it was and ends the record. -/
def Obligations.NvmReadyAndWords : Prop :=
  (∀ (env : BootEnv) (s : State), env.wellFormed = true → s.running = true →
     (s.pins.nvmRdy = true → s.trx.keyOps = [] → (∀ j ∈ s.nvm.jobs, j.waits = true ∧ 2 ≤ j.words.length) →
       ∃ t, exec .nvmRdyFall s = .next t ∧ t.pins.nvmRdy = false ∧ t.nvm.jobs = [] ∧ t.nvm.reqSince = none ∧
         t.nvm.deferred.map (fun j => j.why) = (s.nvm.deferred ++ s.nvm.jobs).map (fun j => j.why) ∧
         ∀ a, memRead t.nvm.mem a = memRead s.nvm.mem a ∨
           ∃ j w, s.portJob = some j ∧ j.words.head? = some w ∧ a / 8 = w.1 % 0x100000) ∧
     (s.pins.nvmRdy = false → s.boot.waiting = false → s.trx.keyOps = [] → s.regs.posted = [] → s.regs.stalled = [] →
       ∃ t, exec (.nvmRdyRise env) s = .next t ∧ t.pins.nvmRdy = true ∧ t.nvm.jobs = s.nvm.jobs ++ s.nvm.deferred ∧
         t.nvm.deferred = [] ∧ s.changesOnly t [.nvm, .pins]) ∧
     (s.pins.nvmRdy = false → s.boot.waiting = true → s.bootCopy = none →
       ∃ t, exec (.nvmRdyRise env) s = .next t ∧ t.pins.nvmRdy = true ∧ t.boot.stage = .recovery ∧ t.boot.fail = .noBootRecord ∧
         t.pins.chRst = .const false ∧ (s.nvm.badWords = [] → t.flt.asserts = (s.flt.asserts + 1) % 2 ^ 32)) ∧
     (s.boot.waiting = true → s.boot.stageAt + 2000 ≤ s.now →
       ∃ t, exec .nvmRdyTimeout s = .next t ∧ t.boot.stage = .halted ∧ t.boot.fail = .nvm ∧ t.boot.waiting = false ∧
         t.pins.chRst = .const false ∧ t.flt.asserts = (s.flt.asserts + 1) % 2 ^ 32 ∧ s.changesOnly t [.boot, .pins, .flt])) ∧
  (∀ (s : State) (j : NvmJob) (w : Nat × BitVec 64) (rest : List (Nat × BitVec 64)) (q : Nat), s.running = true →
     (s.portJob = some j → j.words = w :: rest → rest ≠ [] →
       ∃ t, exec (.nvmAck false) s = .next t ∧ t.nvm.reqSince = some s.now ∧ t.portJob.map (fun x => x.words) = some rest ∧
         (∀ a, memRead t.nvm.mem a = memRead (if j.write then memWriteWord s.nvm.mem w.1 w.2 else s.nvm.mem) a) ∧
         s.changesOnly t [.nvm]) ∧
     (s.nvm.jobs = [j] → j.words = w :: rest → j.why = .eventLog q →
       (∃ t, exec (.nvmAck true) s = .next t ∧ t.nvm.jobs = [] ∧ t.nvm.reqSince = none ∧ t.nvm.badWords.contains w.1 = true ∧
         t.nvm.mem = s.nvm.mem) ∧
       (∀ t0, s.nvm.reqSince = some t0 → t0 + 4 ≤ s.now →
         ∃ t, exec .nvmAccessTimeout s = .next t ∧ t.nvm.jobs = [] ∧ t.nvm.reqSince = none ∧ t.nvm.badWords.contains w.1 = true ∧
           t.nvm.mem = s.nvm.mem)) ∧
     (s.nvm.jobs = [⟨.eventLog q, true, [w]⟩] →
       ∃ t, exec (.nvmAck false) s = .next t ∧ t.nvm.jobs = [] ∧ t.nvm.reqSince = none ∧
         t.nvm.mem = memWriteWord s.nvm.mem w.1 w.2 ∧ s.changesOnly t [.nvm, .evt, .regs]))

/-- The initial training of one channel among several: what it found comes into force and the channel is ready, or the channel is
fenced once its 4.0 ms have passed; the others train on. No course has locked 64 drone ticks into step 10: every active channel
group waits in self-refresh. -/
def Obligations.TrainingPassesOrFences : Prop :=
  (∀ (s : State) (ch : Nat) (res : TrainResult) (t0 : Nat), s.running = true → ch < 32 → s.boot.stage = .train →
     (s.calCh ch).trainFrom = some t0 → (s.boot.trainLeft.any (fun n => n != ch)) = true →
     (res.wellFormed = true → dqBad res = [] → cmdBad res = [] → gateOk res = true → res.strobeAll = false → res.strobeSids = [] →
       res.resetFailed = false → res.verifyPassed = true →
       ∃ t, exec (.trainingComplete ch res) s = .next t ∧ t.boot.chReady = s.boot.chReady ||| 2 ^ ch ∧
         t.boot.trainLeft = s.boot.trainLeft.filter (fun n => n != ch) ∧ (t.calCh ch).trainFrom = none ∧
         (t.calCh ch).trained = res.trims ∧ (t.calCh ch).trainTemp = (s.chan ch).temp ∧
         (t.calCh ch).trims = { res.trims with fret := (s.calCh ch).trims.fret, pluck := (s.calCh ch).trims.pluck } ∧
         (t.calCh ch).count = ((s.calCh ch).count + 1) % 2 ^ 32 ∧ (t.calCh ch).last = s.time.stamp ∧
         s.changesOnly t [.cal, .boot, .pair, .regs, .chans]) ∧
     (t0 + 8000 ≤ s.now →
       ∃ t, exec (.trainingTimeout ch) s = .next t ∧ t.boot.chReady = s.boot.chReady ∧
         t.boot.trainLeft = s.boot.trainLeft.filter (fun n => n != ch) ∧ (t.calCh ch).trainFrom = none ∧
         t.marked .channel ch = true)) ∧
  (∀ s : State, s.running = true → s.boot.stage = .link → s.refCourses = [] → s.boot.stageAt + 64 ≤ s.now →
     ∃ t, exec .linkWaitTimeout s = .next t ∧ t.boot = s.boot ∧
       ∀ g, g < 16 → s.groupOn g = true → (s.cg g).st = .active → s.unmetCg g .selfRefresh = [] → (s.dom (8 + g)).st ≠ .failed →
         (t.cg g).st = .selfRefresh)

/-! ### The drone -/

/-- A drone tick counts the elapsed ticks and the timestamp by one, and a TIME_SET that waits steps the timestamp by its T less
its own count; where no register write is posted and no loopback runs, the core dies' lines, the tablature, the sensors and the
repair unit are not touched. A drone that is declared failed leaves the other to supply the tick; the failure of the second is a
fault of severity 4. Holdover that ends without a locked course leaves no reference, and every channel group in NOREF. -/
def Obligations.DronesKeepTimeAndFailOver : Prop :=
  (∀ s : State, s.running = true →
     ∃ t, exec .droneTick s = .next t ∧ t.time.elapsed = s.time.elapsed + 1 ∧ t.time.setting = [] ∧
       (s.time.setting = [] → t.time.stamp = s.time.stamp + 1#48) ∧
       (∀ v own, s.time.setting = [(v, own)] → t.time.stamp = s.time.stamp + 1#48 + (v - own)) ∧
       (s.regs.posted = [] → s.rpr.loop = none → t.array = s.array ∧ t.tab = s.tab ∧ t.sensors = s.sensors ∧ t.rpr = s.rpr)) ∧
  (∀ s : State, s.running = true →
     (s.pwr.onChecker = false →
       ∃ t, exec .dronePrimaryFail s = .next t ∧ t.pwr.onChecker = true ∧
         t.flt.fatal = (s.flt.fatal || s.pwr.checkerBad) ∧ t.time = s.time ∧ t.nvm = s.nvm) ∧
     (s.pwr.checkerBad = false →
       ∃ t, exec .droneCheckerFail s = .next t ∧ t.pwr.checkerBad = true ∧
         t.flt.fatal = (s.flt.fatal || s.pwr.onChecker) ∧ t.time = s.time ∧ t.nvm = s.nvm)) ∧
  (∀ s : State, s.running = true → s.cal.refState = .holdover → s.cal.holdLeft = 0 →
     ∃ t, exec .holdoverExpiry s = .next t ∧ t.cal.refState = .absent ∧ t.cal.ageSt = .noref ∧
       (∀ g, g < 16 → (t.calGr g).st = .noref) ∧ t.pwr = s.pwr ∧ t.nvm = s.nvm)

/-! ### Lanes, courses and flits -/

/-- The word-valid of a lane: its rise puts the lane into HUNT, or leaves it FAILED, and counts in LOCK_LOSS; its fall puts a lane
that is in HUNT or LOCKED into HUNT, and counts where it was LOCKED; so it does with the only ALIGNED lane of a course that is down,
which counts and notes when it left. LN_EQREQ falls at LN_EQACK. A lane in HUNT that receives a block reads the header at its candidate
position of the bits received, and goes to the next position on a bad header; the 64th good data header in a row makes it LOCKED and
lowers LN_EQREQ. -/
def Obligations.LanesHuntAndLock : Prop :=
  (∀ (s : State) (c l : Nat), s.running = true → c < 12 → l < 17 →
     ((s.lane c l).rxv = false →
       ∃ t, exec (.lnRxvRise c l) s = .next t ∧
         t.lane c l = { (s.lane c l).hunt with rxv := true, st := if (s.lane c l).st = .failed then .failed else .hunt } ∧
         (∀ i, i ≠ 17 * c + l → t.link.lanes.get i = s.link.lanes.get i) ∧ t.link.courses = s.link.courses ∧
         (s.regs.snapBusy = false → t.counter (crsAt c 0x140) = s.counter (crsAt c 0x140) + 1#64) ∧ s.changesOnly t [.link, .regs]) ∧
     ((s.lane c l).rxv = true → (s.lane c l).st = .hunt ∨ (s.lane c l).st = .locked →
       ∃ t, exec (.lnRxvFall c l) s = .next t ∧ t.lane c l = { (s.lane c l).hunt with rxv := false } ∧
         (∀ i, i ≠ 17 * c + l → t.link.lanes.get i = s.link.lanes.get i) ∧ t.link.courses = s.link.courses ∧
         (s.regs.snapBusy = false → t.counter (crsAt c 0x140) =
           s.counter (crsAt c 0x140) + (if (s.lane c l).st = .locked then 1#64 else 0#64)) ∧ s.changesOnly t [.link, .regs]) ∧
     ((s.lane c l).rxv = true → (s.lane c l).st = .aligned → (s.course c).tx = .down → (s.course c).up = false →
       (∀ p, p < 17 → p ≠ l → (s.lane c p).st ≠ .aligned) → s.leftLately c l = false → (s.course c).unfenceAt = none →
       ∃ t, exec (.lnRxvFall c l) s = .next t ∧
         t.lane c l = { (s.lane c l).hunt with rxv := false, leftAt := some s.now } ∧ t.link.courses = s.link.courses ∧
         (s.regs.snapBusy = false → t.counter (crsAt c 0x140) = s.counter (crsAt c 0x140) + 1#64) ∧ s.changesOnly t [.link, .regs]) ∧
     (∃ t, exec (.lnEqack c l) s = .next t ∧ t.lane c l = { s.lane c l with eqReq := false } ∧
       (∀ i, i ≠ 17 * c + l → t.link.lanes.get i = s.link.lanes.get i) ∧ t.link.courses = s.link.courses ∧
       s.changesOnly t [.link])) ∧
  (∀ (s : State) (c l : Nat) (hdr : BitVec 2) (p : BitVec 64), s.running = true → c < 12 → l < 17 → s.rpr.loop = none →
     s.hears c l = true → (s.lane c l).st = .hunt →
     ((blockAt (s.lane c l).prev (blockBits hdr p) (s.lane c l).cand).1 = 0b01#2 → (s.lane c l).count + 1 < 64 →
       ∃ t, exec (.laneBlockRx c l hdr p) s = .next t ∧ (t.lane c l).st = .hunt ∧ (t.lane c l).count = (s.lane c l).count + 1 ∧
         (t.lane c l).cand = (s.lane c l).cand ∧ s.changesOnly t [.link]) ∧
     ((blockAt (s.lane c l).prev (blockBits hdr p) (s.lane c l).cand).1 = 0b01#2 → (s.lane c l).count + 1 = 64 →
       ∃ t, exec (.laneBlockRx c l hdr p) s = .next t ∧ (t.lane c l).st = .locked ∧ (t.lane c l).eqReq = false ∧
         s.changesOnly t [.link]) ∧
     ((blockAt (s.lane c l).prev (blockBits hdr p) (s.lane c l).cand).1 = 0b00#2 ∨
         (blockAt (s.lane c l).prev (blockBits hdr p) (s.lane c l).cand).1 = 0b11#2 →
       ∃ t, exec (.laneBlockRx c l hdr p) s = .next t ∧ (t.lane c l).st = .hunt ∧ (t.lane c l).count = 0 ∧
         (t.lane c l).cand = ((s.lane c l).cand + 1) % 66 ∧ s.changesOnly t [.link]))

/-- A valid marker of the lane's own course aligns a LOCKED lane and gives it its logical lane; one of another course fails it.
Spare lanes: an aligned lane that is lost is asked to move to the spare; the host's LANE_SWITCH on the spare puts the logical lane
on it; the host's LANE_MAP on the spare asks this side to move an upstream lane. -/
def Obligations.LanesAlignFailAndSpare : Prop :=
  (∀ (s : State) (c l : Nat) (p : BitVec 64) (at0 : Nat), s.running = true → c < 12 → l < 17 → s.hears c l = true →
     (s.lane c l).st = .locked → fieldNat p 7 0 = 0x1e → p.extractLsb' 56 8 = blockCheck p →
     (fieldNat p 11 8 = c → (s.course c).up = false → (∀ q, q < 17 → q ≠ l → (s.lane c q).st ≠ .aligned) →
       ∃ t, exec (.marker c l p at0) s = .next t ∧ (t.lane c l).st = .aligned ∧ (t.lane c l).logLane = fieldNat p 21 17 ∧
         (t.lane c l).markAt = at0 ∧ t.link.courses = s.link.courses ∧ s.changesOnly t [.link]) ∧
     (fieldNat p 11 8 ≠ c →
       ∃ t, exec (.marker c l p at0) s = .next t ∧ (t.lane c l).st = .failed ∧ t.link.courses = s.link.courses ∧
         s.changesOnly t [.link, .regs])) ∧
  (∀ (s : State) (c l k : Nat) (p : BitVec 64), s.running = true → c < 12 → l < 17 → k < 16 →
     (fieldNat p 7 0 = 0x33 → p.extractLsb' 56 8 = blockCheck p → fieldNat p 15 8 = c → fieldNat p 23 16 = k →
       s.hears c l = true → s.laneOf c 16 = some l → ((s.lane c l).header true false).2 = false → (s.lane c l).block % 4 ≠ 3 →
       (s.course c).spareTx = 16 →
       ∃ t, exec (.laneMap c p l) s = .next t ∧ t.course c = { s.course c with switchTx := some k } ∧ s.changesOnly t [.link]) ∧
     (fieldNat p 7 0 = 0x4b → p.extractLsb' 56 8 = blockCheck p → fieldNat p 23 16 = k → (s.course c).mapReq = some k →
       s.hears c l = true → s.laneOf c 16 = some l → ((s.lane c l).header true false).2 = false → (s.lane c l).block % 4 ≠ 3 →
       ∃ t, exec (.laneSwitch c p l) s = .next t ∧ (t.lane c l).logLane = k ∧ (t.course c).spareRx = k ∧
         (t.course c).mapReq = none) ∧
     ((s.lane c l).rxv = true → (s.lane c l).st = .aligned → (s.lane c l).logLane = k → (s.course c).tx = .run →
       (s.course c).up = true → (s.course c).unfenceAt = none → (s.course c).mapReq = none → (s.course c).spareRx = 16 →
       s.leftLately c l = false → (∀ q, q < 17 → q ≠ l → (s.lane c q).logLane ≠ k) →
       (s.laneOf c 16).isSome = true → s.rfb RF.LNK_AUTO_SPARE = true →
       ∃ t, exec (.lnRxvFall c l) s = .next t ∧ (t.course c).mapReq = some k ∧ (t.course c).up = false ∧
         (t.lane c l).st = .hunt ∧ (t.lane c l).rxv = false))

/-- A flit in sequence without a message moves E on; one ahead of E makes a NAK due and is discarded; one behind E is discarded
silently. An IDLE flit carries no sequence number that counts: E stands, and its acknowledgement frees what it covers, whose
credits are then the host's. The host's COURSE_DOWN on another course names the last flit that it accepted on a fenced one: the
flits past it give their messages back to the head of the queue and their credits back to the pending ones. -/
def Obligations.FlitsMoveTheLedger : Prop :=
  (∀ (s : State) (c : Nat) (hdr : BitVec 64) (cells : List Cell), s.running = true → c < 12 → s.delivers c = true →
     s.regs.snapBusy = false → (s.course c).encrypted = false → fEpoch hdr = 0 → fKind hdr = 0 → cells.length = 30 →
     (fType hdr = 1 → cells.head?.map hOp = some 0 → seqPast (s.course c).expect (fSeq hdr) = 0 →
       ∃ t, exec (.msgFlitRx c hdr cells []) s = .next t ∧ (t.course c).expect = (s.course c).expect + 1 ∧
         (t.course c).nakWait = false ∧ (t.course c).nakDue = false ∧ (t.course c).rxCount = (s.course c).rxCount + 1 ∧
         t.counter (crsAt c 0x108) = s.counter (crsAt c 0x108) + 1#64 ∧ s.changesOnly t [.link, .regs]) ∧
     (fType hdr = 1 → 0 < seqPast (s.course c).expect (fSeq hdr) → seqPast (s.course c).expect (fSeq hdr) < 2048 →
       ∃ t, exec (.msgFlitRx c hdr cells []) s = .next t ∧ (t.course c).expect = (s.course c).expect ∧
         (t.course c).nakWait = true ∧ (t.course c).nakDue = ((s.course c).nakDue || !(s.course c).nakWait) ∧
         s.changesOnly t [.link, .regs]) ∧
     (fType hdr = 1 → 2048 ≤ seqPast (s.course c).expect (fSeq hdr) →
       ∃ t, exec (.msgFlitRx c hdr cells []) s = .next t ∧
         t.course c = { s.course c with rxCount := (s.course c).rxCount + 1 } ∧ s.changesOnly t [.link, .regs])) ∧
  (∀ (s : State) (c : Nat) (hdr : BitVec 64) (f : SentFlit), s.running = true → c < 12 → s.delivers c = true →
     s.regs.snapBusy = false → (s.course c).encrypted = false → fEpoch hdr = 0 → fType hdr = 0 →
     (fKind hdr = 0 →
       ∃ t, exec (.idleFlitRx c hdr []) s = .next t ∧
         t.course c = { s.course c with rxCount := (s.course c).rxCount + 1 } ∧
         t.counter (crsAt c 0x108) = s.counter (crsAt c 0x108) + 1#64 ∧ t.link.upQ = s.link.upQ ∧
         s.changesOnly t [.link, .regs]) ∧
     (fKind hdr = 1 → (s.course c).buffer = [f] → covers (fAck hdr) f.seq = true → (s.course c).tx = .run →
       ∃ t, exec (.idleFlitRx c hdr []) s = .next t ∧ (t.course c).buffer = [] ∧ (t.course c).expect = (s.course c).expect ∧
         (t.course c).acked = max (s.course c).acked (f.seq + 1) ∧
         t.link.req = { s.link.req with flying := s.link.req.flying - f.crReq, held := s.link.req.held + f.crReq } ∧
         t.link.wd = { s.link.wd with flying := s.link.wd.flying - f.crWd, held := s.link.wd.held + f.crWd } ∧
         t.link.mgt = { s.link.mgt with flying := s.link.mgt.flying - f.crMgt, held := s.link.mgt.held + f.crMgt } ∧
         s.changesOnly t [.link, .regs])) ∧
  (∀ (s : State) (c e : Nat) (hdr : BitVec 64) (cell : Cell) (f : SentFlit), s.running = true → c < 12 → e < 12 → e ≠ c →
     s.delivers c = true → (s.course c).encrypted = false → fEpoch hdr = 0 → fKind hdr = 0 → fType hdr = 2 →
     seqPast (s.course c).expect (fSeq hdr) = 0 → (∀ r ∈ s.trx.reqs, r.stage ≠ .held) → fieldNat cell 7 0 = e →
       (s.course e).waitPeer = true → (s.course e).held = [f] →
     fieldNat cell 63 16 < f.seq →
     ∃ t, exec (.courseDown c hdr cell []) s = .next t ∧ (t.course c).expect = (s.course c).expect + 1 ∧
       (t.course e).held = [] ∧ (t.course e).waitPeer = false ∧ t.link.upQ = f.msgs ++ s.link.upQ ∧
       t.link.req = { s.link.req with flying := s.link.req.flying - f.crReq, pending := s.link.req.pending + f.crReq } ∧
       s.changesOnly t [.link, .regs])

/-- The transmitter in RUN: with nothing to send it sends an IDLE flit, whose header carries the next SEQ and the ACK of the last
flit received; a message that waits goes into a sequenced flit, which takes the next SEQ, is kept for replay and carries the
pending returns. -/
def Obligations.TransmitterSendsIdleOrMessages : Prop :=
  ∀ (s : State) (c : Nat) (m : UpMsg), s.running = true → c < 12 → s.delivers c = true → (s.course c).tx = .run →
    (s.course c).buffer.length < 256 → (s.course c).downs = [] → (s.course c).switchTx = none →
    (s.course c).encrypted = false → s.regs.snapBusy = false → s.rpr.loop = none →
    (s.link.upQ = [] → s.creditsDue = false →
      ∃ t, exec (.flitTx c) s = .next t ∧ (t.course c).next = (s.course c).next ∧ (t.course c).buffer = (s.course c).buffer ∧
        (t.course c).last.map (fun x => x.header) =
          some (flitHdr 0 ((s.course c).next + 4095) ((s.course c).expect + 4095) (if (s.course c).nakDue then 2 else 1) 0 0 0 0) ∧
        (t.course c).nakDue = false ∧ t.counter (crsAt c 0x100) = s.counter (crsAt c 0x100) + 1#64 ∧
        s.changesOnly t [.link, .regs]) ∧
    (s.link.upQ = [m] → m.cells.length ≤ 30 → m.cells.length ≠ 1 → m.done = .nothing → m.fenceOf = none → s.trx.reqs = [] →
      ∃ t, exec (.flitTx c) s = .next t ∧ (t.course c).next = (s.course c).next + 1 ∧ t.link.upQ = [] ∧
        (t.course c).buffer = (s.course c).buffer ++
          [⟨(s.course c).next, 1, [m], min s.link.req.pending 255, min s.link.wd.pending 1023, min s.link.mgt.pending 15, 0⟩] ∧
        t.link.req.pending = s.link.req.pending - min s.link.req.pending 255 ∧
        t.link.req.flying = s.link.req.flying + min s.link.req.pending 255 ∧
        (t.course c).last.map (fun x => x.cells) = some m.cells ∧
        t.counter (crsAt c 0x100) = s.counter (crsAt c 0x100) + 1#64)

/-- Replay, NAKs and credit returns: the replay timer resends from the oldest flit and raises its replay count; a NAK that has
waited is due again; a return that has waited is due. A retrain past its limit, while another course is up, fences the course, and
the other course reports it. -/
def Obligations.LinkTimersAct : Prop :=
  ∀ (s : State) (c d : Nat) (f : SentFlit) (dl : Nat), s.running = true → c < 12 → d < 12 → d ≠ c →
    (s.domOn 1 = true → (s.course c).tx = .run → (s.course c).buffer = [f] →
      f.replays + 1 ≤ s.rf RF.LNK_REPLAY_LIMIT →
      ∃ t, exec (.replayTimeout c) s = .next t ∧ (t.course c).tx = .replay ∧ (t.course c).run = [f.seq] ∧
        (t.course c).buffer = [{ f with replays := f.replays + 1 }] ∧ s.changesOnly t [.link, .regs]) ∧
    (s.receives c = true → (s.course c).nakWait = true →
      ∃ t, exec (.nakResend c) s = .next t ∧ t.course c = { s.course c with nakDue := true } ∧ s.changesOnly t [.link]) ∧
    (0 < s.link.req.pending + s.link.wd.pending + s.link.mgt.pending →
      ∃ t, exec .crWait s = .next t ∧ t.link = { s.link with crWaited := true } ∧ s.changesOnly t [.link]) ∧
    ((s.course c).tx = .retrain → (s.course c).limitAt = some dl → dl ≤ s.now → (s.course d).up = true →
      (s.course d).tx ≠ .fenced → s.rpr.loop = none →
      ∃ t, exec (.retrainLimit c) s = .next t ∧ (t.course c).tx = .fenced ∧ (t.course c).up = false ∧
        (t.course c).fenceWhy = some .retrain ∧ t.marked .course c = true ∧
        (t.course d).downs = (s.course d).downs ++ [courseDownCell c 1 (((s.course c).expect + 2 ^ 48 - 1) % 2 ^ 48)])

/-- A flit that failed its FEC or its CRC, or carries a reserved FTYPE, is discarded and a NAK is due; so is one that fails its
authentication, which is counted towards the course's fence: the fourth among 1,024 flits fences the course for reason TAG. A byte
that the FEC corrected counts for its lane. -/
def Obligations.FailedFlitsAskForReplay : Prop :=
  ∀ (s : State) (c b l : Nat) (hdr : BitVec 64), s.running = true → c < 12 → l < 17 → b < 512 → s.receives c = true →
    (s.course c).failAt = none → s.regs.snapBusy = false →
    (∀ k, k ≠ .tag → ∃ t, exec (.flitCrcFailure c k hdr []) s = .next t ∧ (t.course c).expect = (s.course c).expect ∧
      (t.course c).nakWait = true ∧ (t.course c).nakDue = ((s.course c).nakDue || !(s.course c).nakWait) ∧
      (t.course c).rxCount = (s.course c).rxCount + 1 ∧
      t.counter (crsAt c (if k = .fec then 0x128 else 0x120)) = s.counter (crsAt c (if k = .fec then 0x128 else 0x120)) + 1#64 ∧
      s.changesOnly t [.link, .regs]) ∧
    ((s.course c).fails.length < 3 →
      ∃ t, exec (.flitCrcFailure c .tag hdr []) s = .next t ∧ (t.course c).nakWait = true ∧
        (t.course c).fails.head? = some ((s.course c).rxCount + 1) ∧
        t.counter (crsAt c 0x130) = s.counter (crsAt c 0x130) + 1#64 ∧ s.changesOnly t [.link, .regs]) ∧
    ((s.course c).fails.length = 3 → (∀ k ∈ (s.course c).fails, (s.course c).rxCount + 1 < k + 1024) →
      ∃ t, exec (.flitCrcFailure c .tag hdr []) s = .next t ∧ (t.course c).tx = .fenced ∧ (t.course c).up = false ∧
        (t.course c).fenceWhy = some .tag ∧ t.marked .course c = true ∧
        t.counter (crsAt c 0x130) = s.counter (crsAt c 0x130) + 1#64 ∧ t.nvm = s.nvm ∧ t.array = s.array) ∧
    (s.laneOf c (b / 8 % 16) = some l → (s.lane c l).corrected < s.rf RF.LNK_FEC_LANE_THRESH →
      ∃ t, exec (.flitCrcFailure c .crc hdr [b]) s = .next t ∧ (t.lane c l).corr = corrMore s.now (s.lane c l).corr ∧
        t.counter (crsAt c (0x180 + 8 * l)) = s.counter (crsAt c (0x180 + 8 * l)) + 1#64 ∧ s.changesOnly t [.link, .regs])

/-- The commands of CRS_CTL: FENCE stops a course, and every other up course reports it; UNFENCE lets it hunt with its counts at
0; RETRAIN sends it to RETRAIN. -/
def Obligations.CourseCommandsAct : Prop :=
  ∀ (s : State) (a : Access) (c d : Nat), a.course < 12 → c < 12 → d < 12 → d ≠ c → s.rpr.loop = none →
    (s.writeOpen a (crsAt c 0x10) 2#32 → (s.course c).tx ≠ .fenced → (s.course d).up = true → (s.course d).tx ≠ .fenced →
      ∃ t, exec (.crsFence a c) s = .next t ∧ (t.course c).tx = .fenced ∧ (t.course c).up = false ∧
        (t.course c).fenceWhy = some .command ∧ t.marked .course c = true ∧
        (t.course d).downs = (s.course d).downs ++ [courseDownCell c 2 (((s.course c).expect + 2 ^ 48 - 1) % 2 ^ 48)]) ∧
    (s.writeOpen a (crsAt c 0x10) 4#32 → (s.course c).tx = .fenced →
      ∃ t, exec (.crsUnfence a c) s = .next t ∧ (t.course c).tx = .down ∧ (t.course c).expect = 0 ∧ (t.course c).next = 0 ∧
        (t.course c).unfenceAt = some s.now ∧ (t.course c).held = (s.course c).held ∧ t.marked .course c = false ∧
        ∀ l, l < 17 → (t.lane c l).st = .hunt) ∧
    (s.writeOpen a (crsAt c 0x10) 1#32 → (s.course c).tx = .run → (s.course c).retrains = [] →
      ∃ t, exec (.crsRetrain a c) s = .next t ∧ (t.course c).tx = .retrain ∧ (t.course c).up = false ∧
        (t.course c).retrainAt = some s.now ∧
        (t.course c).limitAt = some (s.now + s.rf RF.LNK_RETRAIN_LIMIT) ∧ (∀ l, l < 17 → (t.lane c l).st = .hunt))

/-! ### Requests -/

/-- A memory request whose format is good, whose tag is free and for which there are credits takes its tag and its credits and waits in
the queue of its requester's context, every line still to be answered, where nothing holds its requester's requests. -/
def Obligations.MemoryRequestsJoinTheirQueue : Prop :=
  ∀ (s : State) (c k : Nat) (h d : Cell) (data : List Cell) (m : BitVec 64), s.reqArrives c k h → s.routerOpen (hRqid h) →
    (hOp h = 0x01 →
      ∃ t, exec (.rd c k h) s = .next t ∧ s.joinsQueue t h [] 0#64) ∧
    (hOp h = 0x02 → data.length = 4 →
      ∃ t, exec (.wr c k h data) s = .next t ∧ s.joinsQueue t h data 0#64) ∧
    (hOp h = 0x03 → data.length = 4 →
      ∃ t, exec (.wrp c k h data (some m)) s = .next t ∧ s.joinsQueue t h data m) ∧
    (hOp h = 0x08 →
      ∃ t, exec (.fadd64 c k h d) s = .next t ∧ s.joinsQueue t h [d] 0#64) ∧
    (hOp h = 0x09 →
      ∃ t, exec (.cas64 c k h d) s = .next t ∧ s.joinsQueue t h [d] 0#64)

/-- The one read that waits, where a check stops it, is answered at the router with one ERR that names each of its lines; its tag
stays outstanding until the ERR is placed. A MASK cell gives its cell back and completes nothing. Of a message whose extent cannot be
trusted the header alone is consumed: one of management, and one outside the write space that is no memory request, is answered with
ERR FORMAT where its tag is free. -/
def Obligations.ReadsMasksAndMalformedMessages : Prop :=
  (∀ (s : State) (r : Req) (k : Nat) (e : ErrCode) (detail : Nat), s.running = true → s.domOn 2 = true → s.trx.reqs = [r] →
     r.stage = .queued k → hOp r.hdr = 0x01 → r.slot = none → r.use = false → s.judge r r.cell = .err e detail →
     ∃ t, exec .routerAdmit s = .next t ∧ t.trx.reqs = [] ∧ t.trx.respond = s.trx.respond ++ [(false, hTag r.hdr)] ∧
       t.link.upQ = s.link.upQ ++
         [⟨[errCell e.num (hTag r.hdr) (lineMask (r.left ++ r.down)) detail false false], .tag false (hTag r.hdr), none, false⟩] ∧
       t.link.req.held = s.link.req.held ∧ t.link.req.pending = s.link.req.pending + 1 ∧ t.nvm = s.nvm ∧ t.array = s.array) ∧
  (∀ (s : State) (c k : Nat) (h : Cell), s.running = true → c < 12 → k < 30 → s.delivers c = true →
     (hOp h = 0x04 → maskOk h = true → 1 ≤ s.link.req.held →
       ∃ t, exec (.mask c k h) s = .next t ∧ t.link.req.held = s.link.req.held - 1 ∧
         t.link.req.pending = s.link.req.pending + 1 ∧ t.link.req.consumed = s.link.req.consumed ∧
         t.link.upQ = s.link.upQ ∧ s.changesOnly t [.link]) ∧
     (extentBad k h = true → hOp h = 0x20 → 1 ≤ s.link.mgt.held → s.mtagBusy (mTag h) = false →
       ∃ t, exec (.malformedMessage c k h) s = .next t ∧ t.trx.mgtOut = s.trx.mgtOut ++ [mTag h] ∧
         t.link.upQ = s.link.upQ ++ [⟨[errCell 5 (mTag h) 0 (cellDetail k 0x20) true false], .mtag (mTag h), none, false⟩] ∧
         t.link.mgt.held = s.link.mgt.held - 1 ∧ t.link.mgt.pending = s.link.mgt.pending + 1 ∧
         s.changesOnly t [.link, .trx, .regs]) ∧
     (extentBad k h = true → hOp h ≠ 0x20 → hOp h ≠ 0 → inWriteSpace (hOp h) = false → isMemory (hOp h) = false →
       1 ≤ s.link.req.held → s.tagBusy false (hTag h) = false →
       ∃ t, exec (.malformedMessage c k h) s = .next t ∧ t.trx.respond = s.trx.respond ++ [(false, hTag h)] ∧
         t.link.upQ = s.link.upQ ++
           [⟨[errCell 5 (hTag h) 0 (cellDetail k (hOp h)) false false], .tag false (hTag h), none, false⟩] ∧
         t.link.req.held = s.link.req.held - 1 ∧ t.link.req.pending = s.link.req.pending + 1 ∧
         s.changesOnly t [.link, .trx, .regs]))

/-- A FENCE holds its requester's later requests, and is acknowledged once its requester's earlier requests have completed. -/
def Obligations.FenceHoldsAndCompletes : Prop :=
  ∀ (s : State) (c k tag : Nat) (h : Cell) (r : Req),
    (s.reqArrives c k h → s.routerOpen (hRqid h) → hOp h = 0x0c → s.ready = true →
      ∃ t, exec (.fence c k h) s = .next t ∧ t.trx.fences = s.trx.fences ++ [hRqid h] ∧
        (∃ q, t.req s.trx.nextUid = some q ∧ q.stage = .waiting ∧ q.hdr = h) ∧ t.trx.wrAcct = s.trx.wrAcct.take ∧
        t.link.upQ = s.link.upQ ∧ t.nvm = s.nvm ∧ t.array = s.array) ∧
    (s.running = true → tag < 2048 → s.trx.reqs = [r] → r.names true tag = true → hOp r.hdr = 0x0c → r.stage = .waiting →
      r.slot = none → r.use = false → r.chs = [] →
      ∃ t, exec (.fenceComplete tag) s = .next t ∧ t.trx.reqs = [] ∧ t.trx.respond = s.trx.respond ++ [(true, tag)] ∧
        t.link.upQ = s.link.upQ ++ [⟨[wackCell tag 0 0 false 0], .tag true tag, some (hRqid r.hdr), false⟩] ∧
        t.link.req.pending = s.link.req.pending + 1 ∧ s.changesOnly t [.link, .trx])

/-- CFGRD and CFGWR: a read answers the word in a short RDATA, and a write of a buffered register on a domain that is on and holds
no word of D0 sets its shadow and is acknowledged with WACK; neither passes a regulation context. -/
def Obligations.LinkRegisterAccesses : Prop :=
  ∀ (s : State) (c k : Nat) (h : Cell), s.reqArrives c k h → s.routerOpen (hRqid h) → s.pathWaits 0 = false →
    (hOp h = 0x10 → s.domOn (s.wordDomain 0 (4 * hOffset h)) = true →
      ∃ t v, exec (.cfgrd c k h) s = .next t ∧ t.trx.reqs = s.trx.reqs ∧ t.trx.respond = s.trx.respond ++ [(false, hTag h)] ∧
        t.link.upQ = s.link.upQ ++ [⟨[rdataShort (hTag h) v], .tag false (hTag h), none, false⟩] ∧
        (∀ (f : Field) (i n x : Nat) (p : Page), regKind (4 * hOffset h) = .reg p n x false → fieldsOfWord p x = [(f, i)] →
          f.acc = .rwb → s.readLevel f ≤ s.accessLevel ⟨.link, c, hPriv h, hSecure h⟩ →
          v = s.rsn f n i % 2 ^ (f.hi + 1 - f.lo) * 2 ^ f.lo % 2 ^ 32) ∧
        t.nvm = s.nvm ∧ t.array = s.array) ∧
    (∀ (f : Field) (i n x : Nat) (p : Page), hOp h = 0x11 → regKind (4 * hOffset h) = .reg p n x false →
      fieldsOfWord p x = [(f, i)] → f.acc = .rwb → f.addr n i = 4 * hOffset h →
      s.writeLevel f ≤ s.accessLevel ⟨.link, c, hPriv h, hSecure h⟩ →
      s.wordDomain 0 (4 * hOffset h) ≠ 0 → s.domOn (s.wordDomain 0 (4 * hOffset h)) = true → s.busy (busyKey (4 * hOffset h)) = false →
      ∃ t, exec (.cfgwr c k h) s = .next t ∧ t.rsn f n i = f.of (BitVec.ofNat 32 (hData h)) ∧ t.regs.force = s.regs.force ∧
        t.trx.reqs = s.trx.reqs ∧ t.trx.respond = s.trx.respond ++ [(true, hTag h)] ∧
        t.link.upQ = s.link.upQ ++ [⟨[wackCell (hTag h) 0 0 false 0], .tag true (hTag h), none, false⟩] ∧
        t.nvm = s.nvm ∧ t.array = s.array)

/-- RESYNC sends the eight parts of the state summary, each under its number and the fault generation, at once or, with DRAIN,
once the tags then outstanding are answered. TIME_SET takes its T against the own count at its delivery, to step the timestamp at
the next tick, and is acknowledged. That these messages take one cell is the model's reading (log 40). -/
def Obligations.ResyncAndTimeSet : Prop :=
  (∀ (s : State) (c k m : Nat) (h : Cell) (x : Resync),
     (s.mgmtArrives c k 1 h → bitAt h 32 = false →
       ∃ t, exec (.resync c k h) s = .next t ∧ t.link.upQ.length = s.link.upQ.length + 8 ∧
         (t.link.upQ.drop s.link.upQ.length).map (fun m => m.cells.head?) =
           (List.range 8).map (fun p => some (summaryHdr (mTag h) p s.flt.generation (p == 7))) ∧
         t.trx.mgtOut = s.trx.mgtOut ++ [mTag h] ∧ t.trx.reqs = s.trx.reqs ∧ t.link.mgt.held = s.link.mgt.held - 1 ∧
         s.changesOnly t [.link, .trx, .regs]) ∧
     (s.mgmtArrives c k 1 h → bitAt h 32 = true →
       ∃ t, exec (.resync c k h) s = .next t ∧ t.link.upQ = s.link.upQ ∧
         t.trx.resyncs.map (fun y => (y.mtag, y.drain, y.wait)) =
           s.trx.resyncs.map (fun y => (y.mtag, y.drain, y.wait)) ++ [(mTag h, true, s.outTags)] ∧
         s.changesOnly t [.link, .trx, .regs]) ∧
     (s.running = true → m < 64 → s.trx.resyncs = [x] → x.mtag = m → x.shown = false → x.wait = [] →
       ∃ t, exec (.summaryCapture m) s = .next t ∧ t.trx.resyncs = [{ x with shown := true }] ∧
         t.link.upQ.length = s.link.upQ.length + 8 ∧
         (t.link.upQ.drop s.link.upQ.length).map (fun y => y.cells.head?) =
           (List.range 8).map (fun p => some (summaryHdr m p s.flt.generation (p == 7))) ∧ s.changesOnly t [.link, .trx])) ∧
  (∀ (s : State) (c k : Nat) (h : Cell), s.mgmtArrives c k 2 h →
     ∃ t, exec (.timeSet c k h) s = .next t ∧ t.time.stamp = s.time.stamp ∧ t.time.elapsed = s.time.elapsed ∧
       t.time.setting = s.time.setting ++ [(h.extractLsb' 32 48, s.time.stamp)] ∧
       t.link.upQ = s.link.upQ ++ [⟨[wackMt (mTag h)], .mtag (mTag h), none, false⟩] ∧ s.changesOnly t [.link, .trx, .regs, .time])

/-! ### Keys and SPDM -/

/-- With no other KEY_* message under way, D7 on and an instance that is not paired, a KEY_* message that passes its checks acts: a
KEY_CREATE fills an EMPTY slot, counts its GENERATION up and is acknowledged; a KEY_ERASE makes an ACTIVE slot ERASING; a
KEY_PERSIST with ON begins to write its page where NVM_RDY is high and fewer than 127 other entries stand, and without ON
it is acknowledged at once where the running slot holds no entry of its key. The last use of an
ERASING slot other than key 0 that is not PERSISTED is released: its keys are zeroised, it is EMPTY with its GENERATION as it was,
and the erase is acknowledged. That these messages take one cell is the model's reading (log 40). -/
def Obligations.KeySlotsMoveByTheirMessages : Prop :=
  (∀ (s : State) (c k : Nat) (h : Cell), s.trx.keyOps = [] → s.domOn 7 = true → (s.dom 7).delay = none → s.pair.role ≠ .paired →
     s.keyBad h (!(s.course c).encrypted) = none →
     (s.mgmtArrives c k 4 h → kId h ≠ 0 → s.sec.drbgOk = true → (s.slot false (kId h)).st = .empty →
       ∃ t, exec (.keyCreate c k h) s = .next t ∧ (t.slot false (kId h)).st = .active ∧ (t.slot false (kId h)).cls = kClass h ∧
         (t.slot false (kId h)).keys = s.reseed.drawKeys.1 ∧
         (t.slot false (kId h)).meta1 = kFlag h ∧ (t.slot false (kId h)).gen = ((s.slot false (kId h)).gen + 1) % 65536 ∧
         (t.slot false (kId h)).uses = (s.slot false (kId h)).uses ∧ (∀ j, j ≠ kId h → t.slot false j = s.slot false j) ∧
         t.trx.keyOps = [] ∧
         t.link.upQ = s.link.upQ ++ [⟨[wackMt (mTag h)], .mtag (mTag h), none, false⟩] ∧
           s.changesOnly t [.link, .trx, .regs, .sec, .free]) ∧
     (s.mgmtArrives c k 5 h → (s.slot (kPartner h) (kId h)).st = .active →
       ∃ t, exec (.keyErase c k h) s = .next t ∧
         t.slot (kPartner h) (kId h) = { s.slot (kPartner h) (kId h) with st := .erasing } ∧
         t.trx.keyOps = [⟨mTag h, h, 1, false⟩] ∧ t.link.upQ = s.link.upQ ∧ s.changesOnly t [.link, .trx, .regs, .sec]) ∧
     (s.mgmtArrives c k 6 h → kFlag h = true → (s.slot false (kId h)).st = .active → s.pins.nvmRdy = true → s.pageWriting = false →
       (entriesBut (kId h) (s.heldEntries s.boot.running)).length < 127 →
       ∃ t, exec (.keyPersist c k h) s = .next t ∧ t.trx.keyOps = [⟨mTag h, h, 1, true⟩] ∧
         t.nvm.jobs.map (fun j => j.why) = s.nvm.jobs.map (fun j => j.why) ++ [.settings (some (mTag h))] ∧
         t.nvm.mem = s.nvm.mem ∧ t.link.upQ = s.link.upQ ∧ s.changesOnly t [.link, .trx, .regs, .sec, .nvm]) ∧
     (s.mgmtArrives c k 6 h → kFlag h = false → (s.slot false (kId h)).st = .active → s.pins.nvmRdy = true → s.pageWriting = false →
       entriesBut (kId h) (s.heldEntries s.boot.running) = s.heldEntries s.boot.running →
       ∃ t, exec (.keyPersist c k h) s = .next t ∧ t.slot false (kId h) = { s.slot false (kId h) with persisted := false } ∧
         (∀ j, j ≠ kId h → t.slot false j = s.slot false j) ∧ t.trx.keyOps = [] ∧ t.nvm = s.nvm ∧
         t.link.upQ = s.link.upQ ++ [⟨[wackMt (mTag h)], .mtag (mTag h), none, false⟩] ∧
         s.changesOnly t [.link, .trx, .regs, .sec])) ∧
  (∀ (s : State) (m key : Nat) (h : Cell) (p : Bool), s.running = true → key < 2048 → s.trx.keyOps = [⟨m, h, 1, false⟩] →
     mSub h = 5 → kId h = key → kPartner h = p → s.domOn 7 = true → (s.slot p key).uses = 0 → (s.slot p key).st = .erasing →
     (s.slot p key).persisted = false → (key = 0 → p = true) → s.pair.role ≠ .paired →
     ∃ t, exec (.keyEraseComplete key p) s = .next t ∧ (t.slot p key).st = .empty ∧ (t.slot p key).keys = .zero ∧
       (t.slot p key).gen = (s.slot p key).gen ∧ t.trx.keyOps = [] ∧
       t.link.upQ = s.link.upQ ++ [⟨[wackMt m], .mtag m, none, false⟩] ∧ s.changesOnly t [.link, .trx, .regs, .sec])

/-- The SPDM negotiation: GET_VERSION starts it afresh, GET_CAPABILITIES and NEGOTIATE_ALGORITHMS end it. What a negotiated connection
answers: the digest of the chain in slot 0, a portion of it, and with a drawn nonce CHALLENGE_AUTH and one measurement, which may be
deferred as a free value decides (log 42), and RESPOND_IF_READY retrieves them. Each answer counts in the session that carries it.
The codes and layouts of the answers are those of DSP0274, which the spec does not repeat (log 41). -/
def Obligations.SpdmNegotiatesAndAnswers : Prop :=
  (∀ (s : State) (tr : Transport) (m : Nat), s.spdmOpen tr m →
     (∃ t, exec (.getVersion tr m) s = .next t ∧ (t.spdm tr).stage = 1 ∧ (t.spdm tr).held = none ∧
       (t.spdm tr).session = (s.spdm tr).session.map (fun y => { y with sent := y.sent + 1 }) ∧
       s.spdmSent t (s.spdm tr).session tr m 0x04 versionBody ∧ s.changesOnly t [.sec, .link, .trx, .free]) ∧
     (1 ≤ (s.spdm tr).stage →
       ∃ t, exec (.getCapabilities tr m) s = .next t ∧ (t.spdm tr).stage = max 2 (s.spdm tr).stage ∧
         s.spdmSent t (s.spdm tr).session tr m 0x61 (capabilitiesBody s.free) ∧
         ((t.spdm tr).last.map (fun x => x.2.drop 10)) = some (leBytes 4 472 ++ leBytes 4 472) ∧
         s.changesOnly t [.sec, .link, .trx, .free]) ∧
     (2 ≤ (s.spdm tr).stage →
       ∃ t, exec (.negotiateAlgorithms tr m true) s = .next t ∧ (t.spdm tr).stage = 3 ∧
         s.spdmSent t (s.spdm tr).session tr m 0x63 algorithmsBody ∧ s.changesOnly t [.sec, .link, .trx, .free])) ∧
  (∀ (s : State) (tr : Transport) (m off len nonce i : Nat) (r : Nat × List Byte), s.spdmOpen tr m →
     off < 65536 → len < 65536 → i < 65536 →
     ((s.spdm tr).stage = 3 →
       (∃ t, exec (.getDigests tr m) s = .next t ∧
         s.spdmSent t (s.spdm tr).session tr m 0x01 (digestsBody s.inst) ∧ s.changesOnly t [.sec, .link, .trx, .free]) ∧
       (∃ t, exec (.getCertificate tr m 0 off len) s = .next t ∧
         (off < (spdmChain s.inst).length → s.spdmSent t (s.spdm tr).session tr m 0x02
           (certificateBody s.inst off (min (min len (s.certRoom tr)) ((spdmChain s.inst).length - off)))) ∧
         ((spdmChain s.inst).length ≤ off → s.spdmSent t (s.spdm tr).session tr m 0x7f [0x01#8, 0#8]) ∧
         s.changesOnly t [.sec, .link, .trx, .free]) ∧
       (∃ t, exec (.challenge tr m 0 nonce) s = .next t ∧
         s.spdmMaySend t s.spdmNonce.2.free tr m 0x03 (challengeBody s.inst s.free (leBytes 32 nonce) s.spdmNonce.1) ∧
         s.changesOnly t [.sec, .link, .trx, .free]) ∧
       (1 ≤ i → i ≤ 5 →
         ∃ t, exec (.getMeasurements tr m i) s = .next t ∧
           s.spdmMaySend t s.spdmNonce.2.free tr m 0x60 (measurementsBody s.inst s.free 0 [s.measurement i] s.spdmNonce.1) ∧
           s.changesOnly t [.sec, .link, .trx, .free])) ∧
     ((s.spdm tr).held = some r →
       ∃ t, exec (.respondIfReady tr m) s = .next t ∧ (t.spdm tr).held = none ∧
         s.spdmSent t (s.spdm tr).session tr m r.1 r.2 ∧ s.changesOnly t [.sec, .link, .trx, .free]))

/-- SPDM sessions: KEY_EXCHANGE with a point of the curve opens one whose secrets are those of the shared secret, FINISH establishes it
where no mutual authentication was asked for, KEY_UPDATE moves its keys, and on the link with UpdateAllKeys the epochs of every
encrypted course, and END_SESSION ends it while the courses stand. Mutual authentication: Camec asks for the digests and then for the
chain, whose root decides the role. The codes and layouts of the answers are those of DSP0274, which the spec does not repeat
(log 41). -/
def Obligations.SpdmSessionsAndMutualAuthentication : Prop :=
  (∀ (s : State) (tr : Transport) (m share d : Nat) (ma all : Bool) (y : Session) (g hs random out : List Byte), s.spdmOpen tr m →
     ((s.spdm tr).stage = 3 → (s.spdm tr).session = none → s.sec.drbgOk = true → onCurve (pointOf (beBytes 96 share)) = true →
       g = (s.reseed.random 90).1 → d = privateKey (g.take 56) → random = (g.drop 56).take 32 →
       hs = handshakeSecret (ecdh d (pointOf (beBytes 96 share))) → out = spdmExpand hs 48 "rsp hs data" (spdmHash s.free random) →
       ∃ t, exec (.keyExchange tr m share ma) s = .next t ∧
         s.spdmSent t none tr m 0x64 (exchangeBody s.inst s.free (leNat (g.drop 88)) d ma random out) ∧ (t.spdm tr).encap = b2n ma ∧
         (t.spdm tr).session.map (fun z => (z.live, z.secure, z.mauth, z.hs, z.out, z.sent)) = some (false, false, ma, hs, out, 0) ∧
         s.changesOnly t [.sec, .link, .trx, .free, .regs]) ∧
     ((s.spdm tr).session = some y → y.live = false → y.mauth = false →
       ∃ t, exec (.finish tr m true) s = .next t ∧
         (t.spdm tr).session = some { y with
           live := true, secret := beNat (exportSecret y.hs (spdmHash s.free [])),
           out := spdmExpand (masterSecret y.hs) 48 "rsp app data" (spdmHash s.free []), sent := 0 } ∧
         s.spdmSent t (some y) tr m 0x65 [0#8, 0#8]) ∧
     ((s.spdm tr).session = some y → y.live = true →
       (∃ t, exec (.keyUpdate tr m all) s = .next t ∧
         (t.spdm tr).session = some { y with
           keyNo := y.keyNo + 1, out := if all then spdmExpand y.out 48 "traffic upd" [] else y.out,
           sent := if all then 1 else y.sent + 1 } ∧
         (t.spdm tr).last = some (0x69, [if all then 2#8 else 1#8, Config.spdmByte s.free 0]) ∧
         (∀ c, c < 12 → tr = .link → all = true → (s.course c).encrypted = true → (t.course c).moveAll = true) ∧
         s.changesOnly t [.sec, .link, .trx, .free]) ∧
       (∃ t, exec (.endSession tr m) s = .next t ∧ (t.spdm tr).session = none ∧ (t.spdm tr).encap = 0 ∧ (t.spdm tr).held = none ∧
         s.spdmSent t (some y) tr m 0x6c [0#8, 0#8] ∧ t.link.courses = s.link.courses ∧
         s.changesOnly t [.sec, .link, .trx, .free]))) ∧
  (∀ (s : State) (tr : Transport) (m : Nat) (ok : Bool) (root : List Byte) (y : Session), s.spdmOpen tr m → root.length = 48 →
     ((s.spdm tr).encap = 1 →
       (∃ t, exec (.getEncapsulatedRequest tr m) s = .next t ∧
         s.spdmSent t (s.spdm tr).session tr m 0x6a [0#8, 0#8, 0x12#8, 0x81#8, 0#8, 0#8] ∧ (t.spdm tr).encap = 1 ∧
         s.changesOnly t [.sec, .link, .trx, .free]) ∧
       (∃ t, exec (.deliverEncapsulatedResponse tr m ok root) s = .next t ∧ (t.spdm tr).encap = 2 ∧
         s.spdmSent t (s.spdm tr).session tr m 0x6b ([0#8, 1#8, 0#8, 0#8, 0#8, 0#8] ++ askCertificate) ∧
         s.changesOnly t [.sec, .link, .trx, .free])) ∧
     ((s.spdm tr).encap = 2 → (s.spdm tr).session = some y →
       ∃ t, exec (.deliverEncapsulatedResponse tr m ok root) s = .next t ∧ (t.spdm tr).encap = 0 ∧
         (t.spdm tr).session = some { y with chain := ok, secure := ok && s.rootProvisioned root, sent := y.sent + 1 } ∧
         s.spdmSent t (some y) tr m 0x6b [0#8, 0#8, 0#8, 0#8, 0#8, 0#8] ∧ s.changesOnly t [.sec, .link, .trx, .free]))

/-! ### The router -/

/-- The router admits the one read that waits: it takes a regulation slot and a use of its key, its timeout is armed, its cell is
freed, and its line enters its channel's read queue. -/
def Obligations.AdmissionDispatchesToTheChannel : Prop :=
  ∀ (s : State) (r : Req) (k : Nat) (l : Loc), s.running = true → s.domOn 2 = true → s.trx.reqs = [r] → r.stage = .queued k →
    hOp r.hdr = 0x01 → hLen r.hdr = 0 → r.left = [0] → s.candidate k = true → s.judge r r.cell = .serve →
    s.loc (hLaddr r.hdr) = some l → (s.chan l.ch).lineHeld (hLaddr r.hdr) = false →
    (s.chan l.ch).newestWrite (hLaddr r.hdr) = none →
    ∃ t, exec .routerAdmit s = .next t ∧ (t.ctx k).out = (s.ctx k).out + 1 ∧ t.regul.slotFree = s.regul.slotFree - 1 ∧
      (t.slot (hPartner r.hdr) (hKey r.hdr)).uses = (s.slot (hPartner r.hdr) (hKey r.hdr)).uses + 1 ∧
      (∃ q, t.req r.uid = some q ∧ q.stage = .sent l.ch ∧ q.slot = some k ∧
        q.deadline = some (s.now + s.rf RF.TRX_TAG_TIMEOUT) ∧ q.chs = [l.ch]) ∧
      (∃ e, (t.chan l.ch).reads = (s.chan l.ch).reads ++ [e] ∧ e.uid = r.uid ∧ e.laddr = hLaddr r.hdr ∧ e.bank = l.bank ∧
        e.row = l.row ∧ e.col = l.col) ∧
      t.link.req.pending = s.link.req.pending + 1 ∧ t.link.upQ = s.link.upQ ∧ t.array = s.array ∧ t.nvm = s.nvm

/-- The merge of an atomic addition whose read phase has returned: the line with its word increased enters the write share with
the next WSEQ, and the old line is answered with that WSEQ. A tag's timeout completes its unanswered lines with ERR TIMEOUT and
puts the tag into quarantine, out of which it comes with a QUAR_END notice once its late data are in. -/
def Obligations.WritesMergeAndTagsTimeOut : Prop :=
  (∀ (s : State) (r : Req) (ch k : Nat) (w : WrEnt), s.running = true → ch < 64 → s.trx.reqs = [r] → hOp r.hdr = 0x08 →
     r.stage = .sent ch → r.slot = some k → r.left = [0] → r.down = [] → r.chs = [ch] →
     (s.chan ch).writes = [w] → w.uid = r.uid → w.ready = false → w.back = true → w.bad = false →
     (s.chan ch).hazard = [(hLaddr r.hdr, r.uid)] →
     ∃ t, exec (.rmwMerge (hTag r.hdr) false) s = .next t ∧ t.trx.reqs = [] ∧
       (t.chan ch).wseqNext = ((s.chan ch).wseqNext + 1) % 65536 ∧ (t.chan ch).hazard = [] ∧
       (∃ x, (t.chan ch).writes = [x] ∧ x.ready = true ∧ x.wseqs = [(s.chan ch).wseqNext] ∧ x.laddr = w.laddr ∧
         x.data = putWord w.data (hWord r.hdr)
           (lineWord w.data (hWord r.hdr) + (cellsLine r.data).extractLsb' 0 64)) ∧
       t.link.upQ = s.link.upQ ++ [⟨rdataHdr (hTag r.hdr) (if w.corrected then 1 else 0) 0 ch (s.chan ch).drained true true
         (s.chan ch).wseqNext :: lineCells w.data, .tag false (hTag r.hdr), none, false⟩] ∧
       t.trx.respond = s.trx.respond ++ [(false, hTag r.hdr)] ∧ t.array = s.array ∧ t.nvm = s.nvm) ∧
  (∀ (s : State) (tag : Nat) (ws : Bool) (r : Req) (d : Nat) (q : Quar), s.running = true → tag < 2048 →
     (s.trx.reqs = [r] → r.names ws tag = true → r.deadline = some d → d ≤ s.now →
       (∀ ch ∈ r.chs, (∀ e ∈ (s.chan ch).reads, e.uid ≠ r.uid) ∧ (∀ e ∈ (s.chan ch).captured, e.uid ≠ r.uid) ∧
         (∀ w ∈ (s.chan ch).writes, w.uid = r.uid → w.ready = true) ∧ ∀ h ∈ (s.chan ch).hazard, h.2 ≠ r.uid) →
       ∃ t, exec (.tagTimeout tag ws) s = .next t ∧ t.trx.reqs = [] ∧
         t.link.upQ = s.link.upQ ++ [⟨[errCell 2 tag (lineMask (r.left ++ r.down)) 0 false false], .answered, none, false⟩] ∧
         t.trx.quar = s.trx.quar ++ [⟨ws, tag, [], some (s.now + 1), r.uid⟩] ∧
         (if ws = true then t.trx.wrAcct = s.trx.wrAcct.quarIn else t.trx.rdAcct = s.trx.rdAcct.quarIn) ∧
         t.array = s.array ∧ t.nvm = s.nvm) ∧
     (s.trx.quar.find? (fun x => x.write == ws && x.tag == tag) = some q → q.ready = some d → d ≤ s.now →
       ∃ t, exec (.quarantineEnd tag ws) s = .next t ∧
         t.trx.quar = s.trx.quar.filter (fun x => !(x.write == ws && x.tag == tag)) ∧
         (if ws = true then t.trx.wrAcct = s.trx.wrAcct.quarOut else t.trx.rdAcct = s.trx.rdAcct.quarOut) ∧
         t.link.upQ = s.link.upQ ++ [⟨[errCell 12 tag 0 0 false true], .nothing, none, false⟩] ∧ s.changesOnly t [.link, .trx]))

/-- A measurement window rolls: every context starts a new window, with an effective minimum of at most its committed one; the
unit of the age counters passes. -/
def Obligations.WindowsAndAges : Prop :=
  ∀ s : State, s.running = true → s.domOn 2 = true →
    (s.now % s.rf RF.REG_WINDOW = 0 → s.regul.lastRoll < s.now →
      ∃ t, exec .windowRoll s = .next t ∧ t.regul.lastRoll = s.now ∧ t.regul.rollFloor = s.regul.floorNow ∧
        (∀ k, k ∈ s.regul.ctx.keysWhere (fun _ => true) → (t.ctx k).winLines = 0 ∧ (t.ctx k).committed = (s.ctx k).committed ∧
          (t.ctx k).minEff ≤ (t.ctx k).committed ∧ (t.ctx k).out = (s.ctx k).out) ∧
        t.regul.slotFree = s.regul.slotFree ∧ t.link = s.link ∧ t.trx = s.trx ∧ t.nvm = s.nvm) ∧
    (∃ t, exec .ageUnitExpiry s = .next t ∧ t.regul = { s.regul with ageNow := s.regul.ageNow + 1 } ∧
      s.changesOnly t [.regul, .regs])

/-! ### The control plane -/

/-- SYS_COMMIT captures the shadows under the next epoch, or with four commits queued marks the commit to be turned away; the
check of the oldest commit turns it away, rejects it, or lets its groups wait for their safe points. -/
def Obligations.CommitsAreCapturedAndChecked : Prop :=
  ∀ (s : State) (a : Access) (groups : BitVec 16) (c : Commit) (rest : List Commit),
    (a.course < 12 → s.writeOpen a 0x10 (groups.setWidth 32) → groups ≠ 0#16 →
      ∃ t x, exec (.sysCommit a groups) s = .next t ∧ t.regs.commits = s.regs.commits ++ [x] ∧
        x.epoch = (s.regs.epoch + 1) % 2 ^ 32 ∧ x.mask = groups.toNat ∧ x.checked = false ∧ x.shadow = s.capture groups.toNat ∧
        x.full = decide (4 ≤ (s.regs.commits.filter (fun y => !y.full)).length) ∧ t.regs.epoch = x.epoch ∧
        t.regs.tickets.get (pathNum a.path) = x.epoch ∧ t.regs.force = s.regs.force ∧ t.regs.shadow = s.regs.shadow ∧
        s.changesOnly t [.regs, .rpr]) ∧
    (s.running = true → s.regs.commits = c :: rest → c.checked = false →
      (c.full = true →
        ∃ t, exec .commitCheck s = .next t ∧ t.regs.results.get (c.epoch % 4) = ⟨c.epoch, c.mask, 5, 3⟩ ∧
          t.regs.doneEpoch = c.epoch ∧ t.regs.force = s.regs.force ∧ s.changesOnly t [.regs]) ∧
      (c.full = false → (s.checkCommit c).1 ≠ 0 →
        ∃ t, exec .commitCheck s = .next t ∧
          t.regs.results.get (c.epoch % 4) = ⟨c.epoch, (s.checkCommit c).1, (s.checkCommit c).2.1, 3⟩ ∧
          t.regs.doneEpoch = c.epoch ∧ t.regs.force = s.regs.force ∧ s.changesOnly t [.regs]) ∧
      (c.full = false → (s.checkCommit c).1 = 0 → c.mask.testBit 3 = false →
        ∃ t x, exec .commitCheck s = .next t ∧ t.regs.commits.head? = some x ∧ x.checked = true ∧
          x.waiting = maskGroups c.mask ∧ x.adjusted = (s.checkCommit c).2.2 ∧ x.deadline = none ∧ x.shadow = c.shadow ∧
          x.checkedAt = s.now ∧ (∀ k, k ∈ c.ctxs → x.min0 k = s.scaledMin c k) ∧
          t.regs.force = s.regs.force ∧ t.regs.doneEpoch = s.regs.doneEpoch ∧ s.changesOnly t [.regs]))

/-- A group at its safe point: the captured words of the group, and no others, come into force, and with the last group the commit
completes. Group 0 also gives each context the minimum that the check gave it. The map switch puts the captured map into force at
quiesce; a changed map leaves every line undefined. A commit that waits past its time is rejected, with its map unchanged. -/
def Obligations.GroupsAndMapsComeIntoForce : Prop :=
  (∀ (s : State) (c : Commit) (g ch : Nat), s.running = true → s.boot.stage = .ready → s.pair.role ≠ .fenced → ch < 32 →
     s.regs.commits = [c] → c.checked = true → c.deadline = none → c.waiting = [g] → c.shadow.dflt = 0#32 →
     s.regs.force.dflt = 0#32 → s.safePoint c g ch = true → (∀ r ∈ s.trx.reqs, r.stage ≠ .held) →
     (g = 1 ∨ g = 7 ∨ g = 8 ∨ g = 10 →
       ∃ t, exec (.groupApply g ch) s = .next t ∧
         (∀ off, off < 0x200000 → wordGroup off = g → isBuffered off = true → t.regs.force.get off = c.shadow.get off) ∧
         (∀ off, off < 0x200000 → wordGroup off ≠ g → t.regs.force.get off = s.regs.force.get off) ∧ t.regs.commits = [] ∧
         t.regs.doneEpoch = c.epoch ∧
         t.regs.results.get (c.epoch % 4) = ⟨c.epoch, 0, 0, if c.adjusted = true then 2 else 1⟩ ∧
         s.changesOnly t [.regs, .pair]) ∧
     (g = 0 →
       ∃ t, exec (.groupApply 0 ch) s = .next t ∧ (∀ k, k ∈ c.ctxs → (t.ctx k).committed = c.min0 k) ∧
         t.regs.commits = [] ∧ t.regs.doneEpoch = c.epoch ∧ s.changesOnly t [.regs, .regul, .pair])) ∧
  (∀ (s : State) (c : Commit) (d : Nat), s.running = true → s.regs.commits = [c] → c.checked = true → c.deadline = some d →
     s.trx.reqs = [] →
     (s.quiesced c = true → s.now < d → c.waiting = [3] → c.shadow.dflt = 0#32 → s.regs.force.dflt = 0#32 →
       ∃ t, exec .mapSwitch s = .next t ∧
         (∀ off, off < 0x200000 → wordGroup off = 3 → isBuffered off = true → t.regs.force.get off = c.shadow.get off) ∧
         (s.mapChanges c = true → (∀ k, k < 2 ^ 30 → t.array.get k = s.array.dflt) ∧ t.sticky RF.MAP_SWITCHED 0 = 1) ∧
         (s.mapChanges c = false → t.array = s.array) ∧ (∀ k, 2 ^ 30 ≤ k → t.array.get k = s.array.get k) ∧
         t.regs.commits = [] ∧ t.regs.doneEpoch = c.epoch ∧
         s.changesOnly t [.regs, .array, .flt, .chans, .regul, .pair]) ∧
     (d ≤ s.now →
       ∃ t, exec .commitWaitExpiry s = .next t ∧ t.regs.results.get (c.epoch % 4) = ⟨c.epoch, 8, 2, 3⟩ ∧
         t.regs.doneEpoch = c.epoch ∧ t.regs.commits = [] ∧ t.regs.force = s.regs.force ∧ s.changesOnly t [.regs]))

/-- A register write with sufficient level: a buffered field's shadow takes the value, at once or, in D0, as a posted write that
takes effect later; the value in force stands. One to a domain that is on with an entry delayed takes effect and ends the entry. -/
def Obligations.WritesReachTheShadow : Prop :=
  ∀ (s : State) (a : Access) (off page n x i d : Nat) (val : Word) (p : Page) (f : Field) (e : Posted) (q : DomState × Nat), a.course < 12 →
    (off < 524288 → s.writeOpen a (4 * off) val → regKind (4 * off) = .reg p n x false → fieldsOfWord p x = [(f, i)] →
      f.acc = .rwb →
      (s.wordDomain (pathNum a.path) (4 * off) ≠ 0 →
        ∃ t, exec (.registerWrite a off val) s = .next t ∧ t.rsn f n i = f.of val ∧ t.regs.force = s.regs.force ∧
          (∀ o, o ≠ f.addr n i → t.regs.shadow.get o = s.regs.shadow.get o) ∧ t.regs.posted = s.regs.posted ∧
          s.changesOnly t [.regs, .rpr]) ∧
      (s.wordDomain (pathNum a.path) (4 * off) = 0 → s.regs.posted = [] → s.regs.stalled = [] →
        ∃ t, exec (.registerWrite a off val) s = .next t ∧ t.regs.shadow = s.regs.shadow ∧ t.regs.force = s.regs.force ∧
          t.regs.posted = [⟨a, 2, 4 * off, val, none, false, none, s.nextOrd⟩] ∧ t.busy (busyKey (4 * off)) = true ∧
          s.changesOnly t [.regs, .rpr])) ∧
    (off < 524288 → s.running = true → s.accessLevel a = 2 → s.domOn d = true → (s.dom d).delay = some q →
      d = s.wordDomain (pathNum a.path) (4 * off) →
      d ≠ 0 → s.busy (busyKey (4 * off)) = false → s.pathWaits (pathNum a.path) = false → s.writeBad 2 (4 * off) val = false →
      s.closedTo a.path 0x1000 = false → regKind (4 * off) = .reg p n x false → fieldsOfWord p x = [(f, i)] → f.acc = .rwb →
      ∃ t, exec (.registerWrite a off val) s = .next t ∧ t.rsn f n i = f.of val ∧ (t.dom d).delay = none ∧ (t.dom d).refused = true ∧
        (t.dom d).st = .on ∧ t.nvm = s.nvm ∧ t.array = s.array) ∧
    (s.running = true → page < 512 → s.regs.posted = [e] → e.late = false → e.saves = false →
      busyKey e.off = busyKey (0x1000 * page) → regKind e.off = .reg p n x false → fieldsOfWord p x = [(f, i)] → f.acc = .rwb →
      s.domOn (s.wordDomain (pathNum e.access.path) e.off) = true → s.writeBad e.level e.off e.val = false → s.regs.stalled = [] →
      ∃ t, exec (.postedWriteEffect page) s = .next t ∧ t.regs.posted = [] ∧ t.rsn f n i = f.of e.val ∧
        t.regs.force = s.regs.force ∧ s.changesOnly t [.regs])

/-- Reads: of a sleeping domain, which wakes and stalls the read, or has the SMP's address refused; of a status that clears what it
returned; of a counter's low word, which latches the high word. -/
def Obligations.ReadsActAsTheirRegisterSays : Prop :=
  ∀ (s : State) (a : Access) (off n x i : Nat) (p : Page) (f : Field) (peek : Bool) (at0 : Nat), s.running = true →
    a.course < 12 → off < 524288 → s.pathWaits (pathNum a.path) = false →
    s.closedTo a.path (4 * off) = false →
    (∀ d, s.wordDomain (pathNum a.path) (4 * off) = d → regKind (4 * off) ≠ .unmapped → s.domOn d = false →
      (s.dom d).st ≠ .failed → (s.dom d).wakeFrom = none → s.wakeFirst d = [] → s.mayWake d = true → s.nackFailed d (4 * off) = false →
      ∃ t, exec (.sleepingDomainRead a off) s = .next t ∧
        (a.path ≠ .smp → t.regs.stalled = s.regs.stalled ++ [⟨a, 4 * off, none, some d, s.nextOrd⟩]) ∧
        (a.path = .smp → t.regs.nacked = some (d, 4 * off, false) ∧ t.pins.smpAck = false ∧ t.regs.stalled = s.regs.stalled) ∧
        (t.dom d).wakeFrom = some s.now ∧ t.pins.pswEn.get d = !s.wakeBlocked d ∧ s.changesOnly t [.regs, .pins, .pwr]) ∧
    (a.path ≠ .wrapper → s.domOn (s.wordDomain (pathNum a.path) (4 * off)) = true →
      (s.dom (s.wordDomain (pathNum a.path) (4 * off))).delay = none →
      (regKind (4 * off) = .reg p n x false → fieldsOfWord p x = [(f, i)] → f.acc = .rc → s.readLevel f ≤ s.accessLevel a →
        s.writeLevel f ≤ s.accessLevel a →
        ∃ t v, exec (.rcRead a off) s = .next t ∧ t.regs.smpValue = some v ∧ f.of v = s.sticky f n ∧ t.sticky f n = 0 ∧
          (∀ o, o ≠ f.addr n 0 → t.regs.sticky.get o = s.regs.sticky.get o) ∧ t.regs.shadow = s.regs.shadow ∧
          s.changesOnly t [.regs, .pins]) ∧
      (regKind (4 * off) = .counter p at0 false peek → s.pageRead p ≤ s.accessLevel a →
        ∃ t, exec (.counterLowRead a off) s = .next t ∧ t.regs.smpValue = some ((s.counter at0).setWidth 32) ∧
          t.regs.latch.get (latchKey (pathNum a.path) (at0 + 4)) = (s.counter at0).extractLsb' 32 32 ∧
          t.regs.counters = s.regs.counters ∧ s.changesOnly t [.regs, .pins]))

/-- The counter snapshot and the summary window: SNAP begins a capture at the present timestamp, whose end adds what was counted
meanwhile; a capture of the summary shows it as it stands. SAVE writes one settings page, which stands when it has landed; a
failure leaves MRAM as it was. A match of the SMP's dynamic address is acknowledged, and wakes the domains that SMP_WAKE names. -/
def Obligations.SnapshotsSummariesAndSaves : Prop :=
  (∀ (s : State) (a : Access), a.course < 12 →
     (s.writeOpen a 0x60 1#32 → s.regs.snapBusy = false →
       ∃ t, exec (.sysSnap a) s = .next t ∧ t.regs.snapBusy = true ∧ t.regs.snapStamp = s.time.stamp ∧
         t.regs.counters = s.regs.counters ∧ t.regs.snapshot = s.regs.snapshot ∧ s.changesOnly t [.regs, .rpr]) ∧
     (s.running = true → s.regs.snapBusy = true →
       ∃ t, exec .snapCaptureComplete s = .next t ∧ t.regs.snapBusy = false ∧ t.regs.snapSeq = (s.regs.snapSeq + 1) % 2 ^ 32 ∧
         (s.regs.snapAcc.dflt = 0 → Tbl.rising s.regs.snapAcc.ents = true →
           ∀ off, t.counter off = s.counter off + BitVec.ofNat 64 (s.regs.snapAcc.get off)) ∧ s.changesOnly t [.regs]) ∧
     (s.writeOpen a 0x80 1#32 → s.regs.sumBusy = false →
       ∃ t, exec (.sysSumctlCapture a) s = .next t ∧ t.regs.window = s.summary ∧ t.regs.sumBusy = true ∧
         s.changesOnly t [.regs, .rpr]) ∧
     (s.running = true → exec .smpSummaryRead s = .next { s with regs := { s.regs with window := s.summary } })) ∧
  (∀ (s : State) (a : Access) (adr : BitVec 7) (e : Posted) (words : List (Nat × BitVec 64)), a.course < 12 →
     (s.writeOpen a 0x88 0x10000#32 → s.regs.posted = [] → s.regs.stalled = [] → s.pins.nvmRdy = true → s.pageWriting = false →
       s.boot.saving = none → s.applying = none →
       ∃ t, exec (.sysSave a) s = .next t ∧
         t.nvm.jobs.map (fun j => j.why) = s.nvm.jobs.map (fun j => j.why) ++ [.settings none] ∧ t.nvm.mem = s.nvm.mem ∧
         t.regs.posted = [⟨a, 2, 0x88, 0x10000#32, none, false, none, s.nextOrd⟩] ∧ t.boot.saving = some (s.savedWords, s.regs.doneEpoch) ∧
         s.changesOnly t [.regs, .nvm, .rpr, .boot]) ∧
     (s.running = true → s.nvm.jobs = [⟨.settings none, true, words⟩] → s.regs.posted = [e] → e.saves = true →
       s.trx.keyOps = [] → s.regs.stalled = [] →
       (∃ t, exec (.saveComplete false) s = .next t ∧ t.nvm.jobs = [] ∧ t.regs.posted = [] ∧
         t.nvm.mem = words.foldl (fun m w => memWriteWord m w.1 w.2) s.nvm.mem ∧ s.changesOnly t [.regs, .nvm, .boot]) ∧
       (∃ t, exec (.saveComplete true) s = .next t ∧ t.nvm.jobs = [] ∧ t.regs.posted = [] ∧ t.nvm.mem = s.nvm.mem ∧
         t.sticky RF.SYS_SAVE_FAILED 0 = 1 ∧ s.changesOnly t [.regs, .nvm, .boot])) ∧
     (s.running = true → s.pins.smpAddr = some adr →
       ∃ t, exec (.smpAddressMatch (.sdr adr)) s = .next t ∧ t.pins.smpAck = true ∧ t.pins.smpAddr = some adr ∧
         (∀ d, 2 ≤ d → d ≤ 7 → (s.rf RF.PWR_SMP_WAKE).testBit (d - 1) = true → s.domOn d = false → (s.dom d).st ≠ .failed →
           (s.dom d).wakeFrom = none → (t.dom d).wakeFrom = some s.now) ∧
         s.changesOnly t [.regs, .pins, .pwr, .evt, .flt]))

/-! ### Sensors, telemetry and the die windows -/

/-- A round asks every sensor; a good reading stands, the last of a round gives the throttle its input; a bad reading or a missing
acknowledge is retried once, and a second failure in a row marks the sensor failed. The regulator's telemetry and the die windows:
a load reading starts or ends the wait for F_TELEM to rise; REG_OCW caps F_TELEM while it is high and for 64 drone ticks more; a
die window starts again at 0. -/
def Obligations.SensorsAndTelemetry : Prop :=
  (∀ (s : State) (base : Bool) (n k j t0 : Nat) (v : BitVec 10) (par : Bool), s.running = true →
     (n < if base = true then 16 else 64) → k = sensorNum base n →
     (exec .sensorRound s =
       .next { s with sensors := { s.sensors with due := List.range 80, asked := some (0, s.now) } }) ∧
     (s.sensors.due.contains k = true → par = oddParity 10 v.toNat → s.sensors.due.filter (fun i => i != k) ≠ [] →
       exec (.sensorRead base n v par) s = .next { s with sensors := { s.sensors with
         last := s.sensors.last.set k (some v.toNat), bad := s.sensors.bad.set k 0, failed := s.sensors.failed.set k false,
         due := s.sensors.due.filter (fun i => i != k), asked := some (k, s.now) } }) ∧
     (s.sensors.due = [k] → par = oddParity 10 v.toNat →
       ∃ t, exec (.sensorRead base n v par) s = .next t ∧ t.sensors.due = [] ∧ t.sensors.asked = none ∧
         t.sensors.lastRound = s.now ∧ t.sensors.last.get k = some v.toNat ∧
         t.capo.input = max t.capo.baseMax t.capo.chMax ∧ t.link = s.link ∧ t.trx = s.trx ∧ t.array = s.array ∧ t.nvm = s.nvm) ∧
     (s.sensors.due.contains k = true → s.sensors.bad.get k % 2 = 0 →
       (par ≠ oddParity 10 v.toNat →
         exec (.sensorRead base n v par) s = .next { s with sensors := { s.sensors with
           bad := s.sensors.bad.set k (s.sensors.bad.get k + 1), asked := some (k, s.now) } }) ∧
       (s.sensors.asked = some (j, t0) → t0 + 2 ≤ s.now →
         exec (.sensorAckTimeout base n) s = .next { s with sensors := { s.sensors with
           bad := s.sensors.bad.set k (s.sensors.bad.get k + 1), asked := some (k, s.now) } })) ∧
     (s.sensors.due.contains k = true → s.sensors.bad.get k % 2 = 1 → s.sensors.due.filter (fun i => i != k) ≠ [] →
       par ≠ oddParity 10 v.toNat →
       ∃ t, exec (.sensorRead base n v par) s = .next t ∧ t.sensors.failed.get k = true ∧
         t.sensors.due = s.sensors.due.filter (fun i => i != k) ∧ t.sensors.last = s.sensors.last ∧
         s.changesOnly t [.sensors, .regs, .pins, .evt, .flt, .pwr])) ∧
  (∀ (s : State) (v : BitVec 10) (die t0 : Nat), s.running = true →
     (∃ t, exec (.regIldReading v) s = .next t ∧ t.capo.ild = v.toNat ∧
       (95 * s.rf RF.CAP_ILD_LIMIT < 100 * v.toNat → t.capo.ildOkFrom = none) ∧
       (100 * v.toNat ≤ 95 * s.rf RF.CAP_ILD_LIMIT → t.capo.ildOkFrom = some (s.capo.ildOkFrom.getD s.now)) ∧
       t.capo.fTelem = s.capo.fTelem ∧ s.changesOnly t [.capo]) ∧
     (s.capo.ildOkFrom = some t0 → t0 + 16 ≤ s.now → s.capo.fTelem < 100 →
       exec .telemRise s = .next { s with capo := { s.capo with
         fTelem := min 100 (s.capo.fTelem + 5), ildOkFrom := some s.now } }) ∧
     (s.pins.regOcw = false →
       ∃ t, exec .regOcwRise s = .next t ∧ t.pins = { s.pins with regOcw := true } ∧ t.capo = { s.capo with ocwHold := none } ∧
         t.sticky RF.CAP_OCW_SEEN 0 = 1 ∧ s.changesOnly t [.pins, .capo, .regs]) ∧
     (s.pins.regOcw = true →
       exec .regOcwFall s = .next { s with
         pins := { s.pins with regOcw := false }, capo := { s.capo with ocwHold := some (s.now + 64) } }) ∧
     (s.capo.ocwHold = some t0 → t0 ≤ s.now → exec .ocwHoldExpiry s = .next { s with capo := { s.capo with ocwHold := none } }) ∧
     (die < 16 →
       ∃ t, exec (.dieWindowRoll die) s = .next t ∧ t.capo.dieCount.get die = 0 ∧
         t.capo.dieNo.get die = s.capo.dieNo.get die + 1 ∧
         (∀ i, i ≠ die → t.capo.dieCount.get i = s.capo.dieCount.get i) ∧ s.changesOnly t [.capo]))

/-! ### The channel engines -/

/-- Arbitration: an agent that asks takes a free channel with the transfer that it chooses, one that was abandoned first; one that
asks of a held channel waits; at a decided preemption the abandoned transfer waits to be restarted, with age 1. -/
def Obligations.AgentsTakeTheChannel : Prop :=
  ∀ (s u : State) (ch t0 : Nat) (a h w : Agent) (x y : Xfer), s.running = true → ch < 64 → s.channelAlone ch →
    (u = s.atFret ch t0 → u.wants ch a = true → u.longHeld ch a = false → ((s.chan ch).agent a).asks = false →
      s.masked ch a = false → (s.chan ch).downStands = false →
      ((s.chan ch).holder = some h → h ≠ a → (s.chan ch).xfer = none →
        ∃ t, exec (.agentRequest ch a t0) s = .next t ∧ ((t.chan ch).agent a).asks = true ∧ (t.chan ch).holder = some h ∧
          (t.chan ch).xfer = none ∧ (∀ b, b ≠ a → (t.chan ch).agent b = (s.chan ch).agent b) ∧
          s.changesOnly t [.chans, .regs]) ∧
      ((s.chan ch).holder = none → (∀ b, b ≠ a → ((s.chan ch).agent b).asks = false) → u.nextXfer ch a = some y →
        ∃ t, exec (.agentRequest ch a t0) s = .next t ∧ (t.chan ch).holder = some a ∧ ((t.chan ch).agent a).age = 0 ∧
          ((t.chan ch).agent a).asks = true ∧ (t.chan ch).bursts = 0 ∧ (t.chan ch).xfer = some y ∧
          s.changesOnly t [.chans, .regs])) ∧
    ((s.chan ch).preempt = some (ch, w) → (s.chan ch).holder = some h → (s.chan ch).xfer = some x → (s.chan ch).flights = [] → w ≠ h →
      ((s.chan ch).agent w).asks = true → s.masked ch w = false → s.wants ch w = true → s.longHeld ch w = false →
      ∃ t, exec (.preemptionPoint ch) s = .next t ∧
        ((t.chan ch).agent h).restart = some { x with aborts := x.aborts + 1, firm := decide (2 ≤ x.aborts + 1), got := [] } ∧
        ((t.chan ch).agent h).age = 1 ∧ (t.chan ch).preempt = none ∧ ((t.chan ch).holder ≠ some h) ∧ t.array = s.array ∧
        t.nvm = s.nvm ∧ t.link = s.link ∧ t.trx = s.trx)

/-- Tab rows and bursts: a PRE row closes its bank, in the SID too, and the transfer goes on with the next row; the insert thread
closes a close-due bank; a write burst stands on the core die where the SID took its WR, encrypted and encoded under its slot for
its line address. Commands carry their time in frets (log 6). -/
def Obligations.RowsIssueAndBurstsLand : Prop :=
  ∀ (s : State) (ch t0 b k l q : Nat) (room : Bool) (x : Xfer) (r : BitVec 64) (f : Flight) (rest : List Flight) (w : WrEnt),
    s.running = true → ch < 64 → s.channelAlone ch →
    ((s.chan ch).xfer = some x → (s.chan ch).holder = some x.agent → (s.chan ch).preempt = none → (s.chan ch).maskCut = false →
      x.ended = false → x.begun = true → s.tab.rows.get x.row = r → rowCmd r = 2 → rowDpa r = 0 → rowBr r = 0 →
      (s.target ch r (x.item r)).bank = b → b < 64 → ((s.chan ch).sids.get (b / 16)).hold = false →
      s.rowMay ch t0 (s.chan ch).threadAt r (s.target ch r (x.item r)) →
      (∀ a, a ≠ x.agent → ((s.chan ch).agent a).asks = false) → (s.bank ch b).hotUntil = none → s.wants ch .mute = false →
      ∃ t, exec (.tabRowIssue ch false t0 room 0#40) s = .next t ∧ (t.bank ch b).openRow = none ∧
        (∀ i, i ≠ b → t.bank ch i = s.bank ch i) ∧ ((t.chan ch).sids.get (b / 16)).rows.get (b % 16) = none ∧
        (t.chan ch).rowBus = some t0 ∧ (t.chan ch).colBus = (s.chan ch).colBus ∧ (t.chan ch).threadAt = some t0 ∧
        (t.chan ch).xfer = some { x with row := rowNext r } ∧ t.capo = s.capo ∧ t.array = s.array ∧
        t.nvm = s.nvm ∧ t.link = s.link) ∧
    ((s.chan ch).insert = none → s.insertTarget ch = some b → s.tab.rows.get (s.firstRow 6) = r → rowCmd r = 3 → rowDpa r = 0 →
      rowBr r = 3 → (s.chan ch).atRest = false → s.rowMay ch t0 (s.chan ch).insertAt r ⟨b, 0, 0⟩ →
      (∀ a, ((s.chan ch).agent a).asks = false) → (s.bank ch b).hotUntil = none → s.wants ch .mute = false →
      s.regs.snapBusy = false →
      ∃ t, exec (.tabRowIssue ch true t0 room 0#40) s = .next t ∧ (t.bank ch b).openRow = none ∧ (t.bank ch b).closeDue = false ∧
        (∀ i, i ≠ b → t.bank ch i = s.bank ch i) ∧ (t.chan ch).rowBus = some t0 ∧ (t.chan ch).xfer = (s.chan ch).xfer ∧
        (t.chan ch).insert = none ∧ (t.chan ch).insertAt = some t0 ∧
        t.counter (chnAt ch 0x138) = s.counter (chnAt ch 0x138) + 1#64 ∧ t.array = s.array ∧ t.nvm = s.nvm ∧ t.link = s.link) ∧
    ((s.chan ch).xfer = some x → (s.chan ch).flights = f :: rest → rest ≠ [] → f.write = true → f.work = .wrLine l q → f.dpa = 2 →
      f.cmp = none →
      f.place = some k → (s.chan ch).wrOf l q = some w →
      s.slotHolds (decide (32 ≤ ch)) w.key w.gen = true → (s.slot (decide (32 ≤ ch)) w.key).eastOk = true →
      (s.slot (decide (32 ≤ ch)) w.key).westOk = true →
      ∃ t, exec (.burstComplete ch) s = .next t ∧ (t.chan ch).flights = rest ∧
        (t.chan ch).xfer = some { x with landed := x.landed + 1 } ∧
        t.array.get k = some ((s.slot (decide (32 ≤ ch)) w.key).line w.data (w.laddr % 2 ^ 30) w.key) ∧
        (∀ i, i ≠ k → t.array.get i = s.array.get i) ∧ (t.chan ch).writes = (s.chan ch).writes ∧
        s.changesOnly t [.chans, .array, .cal])

/-- The core dies: every command that the encodings admit is captured from its four beats as it was sent, and from beats with one
bit inverted nothing is. What comes back from them: a burst that decodes and verifies under its slot answers its tag with its
line, cleanly; a missed read preamble abandons the transfer and asks for the SID's STATUS; a STATUS that shows HOLD fences the
SID; the poll asks every active channel for the STATUS of its four SIDs. -/
def Obligations.CoreDiesAnswer : Prop :=
  (∀ (s : State) (ch sid : Nat) (c : Captured) (r : Req) (d : BitVec 512) (y : Xfer) (h : Agent) (f : Flight) (fs : List Flight)
     (st : BitVec 3) (n : Nat), s.running = true → ch < 64 → sid < 4 →
     ((s.chan ch).captured = [c] → c.rmw = false → s.trx.reqs = [r] → r.uid = c.uid → hOp r.hdr = 0x01 → r.left = [c.idx] →
       r.down = [] → readLine c.line (c.laddr % 2 ^ 30) (hKey r.hdr) (s.slot (hPartner r.hdr) (hKey r.hdr)).keys
         (s.slot (hPartner r.hdr) (hKey r.hdr)).meta1 none c.err s.freeVal = (stOk, d) →
       (s.slot (hPartner r.hdr) (hKey r.hdr)).st = .active → (s.slot (hPartner r.hdr) (hKey r.hdr)).eastOk = true →
       (s.slot (hPartner r.hdr) (hKey r.hdr)).westOk = true → (s.rmap ch).column = [] →
       ∃ t, exec (.readDataReturn ch []) s = .next t ∧ (t.chan ch).captured = [] ∧ t.trx.reqs = [] ∧
         t.link.upQ = s.link.upQ ++ [⟨rdataHdr (hTag r.hdr) 0 c.idx ch (s.chan ch).drained true false 0 :: lineCells d,
           .tag false (hTag r.hdr), none, false⟩] ∧
         t.trx.respond = s.trx.respond ++ [(false, hTag r.hdr)] ∧ t.array = s.array ∧ t.nvm = s.nvm) ∧
     ((s.chan ch).xfer = some y → (s.chan ch).holder = some h → (s.chan ch).flights = f :: fs → f.write = false →
       statusAfterMiss (s.chan ch) y = false → y.marked = false → s.regs.snapBusy = false →
       ∃ t, exec (.captureMiss ch) s = .next t ∧ (t.chan ch).missed = (s.chan ch).missed ++ [(s.readSid ch y, h)] ∧
         t.sticky RF.TAB_CAPTURE_MISS 0 = 1 ∧
         t.counter (0xa0100 + 8 * (ch % 32)) = s.counter (0xa0100 + 8 * (ch % 32)) + 1#64 ∧ t.array = s.array ∧ t.nvm = s.nvm ∧
         t.link = s.link) ∧
     ((s.chan ch).statusGot.find? (fun e => e.1 == sid) = some (sid, n) →
       ((s.chan ch).missed.any (fun e => e.1 == sid) = false → bitAt (BitVec.ofNat 3 n ||| st) 1 = false →
         ∃ t, exec (.statusResult ch sid st) s = .next t ∧
           (t.chan ch).sids.get sid =
             { (s.chan ch).sids.get sid with
               capErr := ((s.chan ch).sids.get sid).capErr || bitAt st 0, hold := ((s.chan ch).sids.get sid).hold || bitAt st 1,
               sensor := ((s.chan ch).sids.get sid).sensor || bitAt st 2 } ∧
           (t.chan ch).statusGot = (s.chan ch).statusGot.filter (fun e => e.1 != sid) ∧
           (t.chan ch).statusDue = (s.chan ch).statusDue.filter (fun n => n != sid) ∧ t.array = s.array ∧ t.nvm = s.nvm ∧
           t.link = s.link ∧ t.trx = s.trx) ∧
       (bitAt (BitVec.ofNat 3 n ||| st) 1 = true →
         ∃ t, exec (.statusResult ch sid st) s = .next t ∧ t.marked .sid (4 * ch + sid) = true ∧
           t.sticky RF.TAB_SID_HOLD 0 = 1 ∧ t.nvm = s.nvm)) ∧
     (∃ t, exec .statPoll s = .next t ∧ s.changesOnly t [.chans] ∧
       ∀ i, i < 64 →
         (if (i < 32 ∨ s.shared = true ∧ (s.chan i).rest = .awake) ∧ s.now % s.rfch RF.TAB_STAT_POLL i = 0 ∧
             (s.pwr.cgs.get (groupOf i)).st = .active ∧ s.domOn (chDomain i) = true ∧ s.resetDriven i = false then
               t.chan i = { s.chan i with statusDue := [0, 1, 2, 3] }
           else t.chan i = s.chan i))) ∧
  (∀ (c : DieCmd), c.admitted →
     c.captured 0#40 = some c ∧ ∀ i, i < (if onColumn c.cmd then 32 else 40) → c.captured (BitVec.twoPow 40 i) = none)

/-- Refresh and mitigation: the slot timer gives the next bank one credit, the idle timer makes an open bank close-due, latches
that were read join the backlog and the bank counts from the read, and the hot period and the exit sweep end. Sentinels: one that
reads as it was stored, with its parity, clears its bank; any other makes the bank retention-suspect, and under SENT_FENCE UNCORR
a suspect bank in which the scrub counts a bad line is fenced. REF_SUSCLR clears a channel's marks. -/
def Obligations.RefreshAndSentinels : Prop :=
  (∀ (s : State) (ch b sid t0 : Nat) (rows : List (Option Nat)) (hot : Bool), s.running = true → ch < 64 → b < 64 → sid < 4 →
     (s.creditsEarly ch = false → s.clocked ch = true → (s.chan ch).slotNext = b → s.refreshStopped ch b = false →
       ∃ t, exec (.slotTimerExpiry ch) s = .next t ∧ (t.bank ch b).owed = (s.bank ch b).owed + 1 ∧
         (∀ i, i ≠ b → (t.bank ch i).owed = (s.bank ch i).owed) ∧ (t.chan ch).slotNext = (b + 1) % 64 ∧
         (t.chan ch).kCount = (s.chan ch).kCount + 1 ∧ (t.chan ch).band = (s.chan ch).bandNew ∧ t.array = s.array ∧ t.nvm = s.nvm) ∧
     ((s.chan ch).xfer = none → (s.bank ch b).idleRun = true → (s.bank ch b).openRow.isSome = true →
       ∃ t, exec (.bankIdleTimeout ch b) s = .next t ∧
         t.bank ch b = { s.bank ch b with idleRun := false, closeDue := true } ∧
         (∀ i, i ≠ b → t.bank ch i = s.bank ch i) ∧ s.changesOnly t [.chans]) ∧
     ((s.chan ch).latchRead = some ⟨sid, rows, hot⟩ →
       ∃ t, exec (.mitlatchRx ch sid) s = .next t ∧ (t.chan ch).latchRead = none ∧
         (∀ i row, i < 16 → rows.getD i none = some row →
           ((t.chan ch).backlog.any (fun e => e.bank == 16 * sid + i && e.row == row)) = true) ∧
         (∀ i, i < 16 → (t.bank ch (16 * sid + i)).acts =
           (s.bank ch (16 * sid + i)).acts - (s.bank ch (16 * sid + i)).actsAt) ∧ t.array = s.array ∧ t.nvm = s.nvm ∧ t.link = s.link) ∧
     ((s.bank ch b).hotUntil = some t0 → t0 ≤ s.now →
       ∃ t, exec (.hotPeriodExpiry ch b) s = .next t ∧ t.bank ch b = { s.bank ch b with hotUntil := none } ∧
         (∀ i, i ≠ b → t.bank ch i = s.bank ch i) ∧ s.changesOnly t [.chans]) ∧
     ((s.chan ch).sweep = some 0 →
       ∃ t, exec (.exitSweepEnd ch) s = .next t ∧ t.chan ch = { s.chan ch with sweep := none } ∧ s.changesOnly t [.chans])) ∧
  (∀ (s : State) (ch b n : Nat) (crc : Word) (ok : Bool) (burst : BitVec 576) (kept : Word × Bool) (a : Access), a.course < 12 →
    b < 64 → n < 524288 →
     (s.running = true → ch < 64 → (s.bank ch b).mustCheck = true →
       (s.chan ch).sentGot.find? (fun e => e.1 == b) = some (b, burst) → s.pwr.sentinels.get (64 * ch + b) = some kept →
       ∃ t, exec (.sentCheckResult ch b crc ok) s = .next t ∧ (t.bank ch b).mustCheck = false ∧
         t.pwr.sentinels.get (64 * ch + b) = none ∧
         (t.bank ch b).suspect = ((s.bank ch b).suspect || !(ok && oddOnes kept.1 == kept.2 &&
           kept.1 == (crc32c (burstBytes burst) ^^^ crc))) ∧
         t.nvm = s.nvm ∧ t.array = s.array) ∧
     (s.running = true → ch < 64 → (s.bank ch b).scrubAt = some 32768 → s.rfch RF.REF_SENT_FENCE ch = 1 → 0 < n + (s.bank ch b).scrubBad →
       ∃ t, exec (.suspectScrubEnd ch b n) s = .next t ∧ t.marked .bank (64 * ch + b) = true ∧ (t.bank ch b).scrubAt = none ∧
         t.nvm = s.nvm ∧
         t.array = s.array) ∧
     (ch < 32 → s.writeOpen a 0xb001c (BitVec.ofNat 32 ch) →
       ∃ t, exec (.refSusclr a ch) s = .next t ∧ (∀ i, t.bank ch i = { s.bank ch i with suspect := false }) ∧
         (∀ i, i ≠ ch → t.chan i = s.chan i) ∧ s.changesOnly t [.chans, .regs, .rpr]))

/-! ### Calibration -/

/-- A calibration run: CAL_RUN starts it, a window that is not disturbed counts, and its completion makes the group FRESH with the
measured fret trim; a run that fails measures again. -/
def Obligations.RunsMakeGroupsFresh : Prop :=
  ∀ (s : State) (a : Access) (g fret : Nat) (even odd : Trims) (r : CalRun), g < 16 →
    (a.course < 12 → s.writeOpen a 0x7024 (BitVec.ofNat 32 (2 ^ g)) → s.canRun g = true → (s.calGr g).run = none →
      s.cal.refState ≠ .holdover →
      ∃ t, exec (.calRun a (BitVec.ofNat 16 (2 ^ g))) s = .next t ∧
        (t.calGr g).run = some ⟨s.groupTemp g, false, false, s.now, [], [], [], s.rf RF.CAL_SLEW_MAX, s.rfb RF.CAL_SET_WRITE,
          s.rf RF.CAL_SET_TOL, s.rf RF.CAL_CAL_DELTA⟩ ∧
        (t.calGr g).st = (if (s.calGr g).st = .noref then .noref else .stale) ∧
        (∀ i, i ≠ g → t.calGr i = s.calGr i) ∧ s.changesOnly t [.cal, .chans, .regs, .rpr, .pwr]) ∧
    (s.running = true → (s.calGr g).run = some r →
      (r.window = false → s.refLocked = true →
        (r.discard = false →
          ∃ t, exec (.replicaWindowEnd g false) s = .next t ∧ (t.calGr g).run = some { r with window := true } ∧
            (∀ i, i ≠ g → t.calGr i = s.calGr i) ∧ s.changesOnly t [.cal]) ∧
        (∃ t, exec (.replicaWindowEnd g true) s = .next t ∧ (t.calGr g).run = some { r with discard := false } ∧
          t.sticky RF.CAL_WINDOW_DISCARD 0 = 1 ∧ (∀ i, i ≠ g → t.calGr i = s.calGr i) ∧ s.changesOnly t [.cal, .regs])) ∧
      (s.nothingWaits → even.wellFormed = true → odd.wellFormed = true → fret < 128 → r.window = true →
        s.cal.refState ≠ .absent →
        (apart (s.groupTemp g) r.temp < 4 * r.delta →
          ∃ t, exec (.calRunComplete g true fret even odd) s = .next t ∧ (t.calGr g).st = .fresh ∧ (t.calGr g).fret = fret ∧
            (t.calGr g).run = none ∧ (t.calGr g).lastTemp = r.temp ∧ (t.calGr g).lastRun = s.now ∧
            (t.calGr g).firstRun = false ∧ (t.calCh (2 * g)).count = ((s.calCh (2 * g)).count + 1) % 2 ^ 32 ∧
            (∀ i, i ≠ g → t.calGr i = s.calGr i) ∧ t.array = s.array ∧ t.link = s.link) ∧
        ((s.calGr g).firstRun = false ∨ (s.calGr g).retried = false →
          ∃ t, exec (.calRunComplete g false fret even odd) s = .next t ∧
            (t.calGr g).run = some { r with window := false, discard := false, since := s.now } ∧ (t.calGr g).retried = true ∧
            (t.calGr g).st = (s.calGr g).st ∧ s.changesOnly t [.cal])))

/-- Corrections: one that is slewed moves by one step after 64 bursts, those that wait apply whole at an idle period, and none
waits past IDLE_WAIT. A retraining starts on CAL_RETRAIN, and what it found comes into force or leads to a full one. -/
def Obligations.CorrectionsAndRetrainings : Prop :=
  ∀ (s : State) (a : Access) (ch : Nat) (p : Corr) (full : Bool) (res : TrainResult), a.course < 12 →
    (s.running = true → ch < 64 → (s.calCh ch).pending = [p] →
      (p.wait = false → s.trimsHeld ch = false → 64 ≤ (s.calCh ch).burstCount → (s.chan ch).flights = [] →
        ∃ t, exec (.slewStep ch) s = .next t ∧
          t.calCh ch = { (s.calCh ch).move p.trim (oneStep p.steps) with
            pending := if p.steps - oneStep p.steps = 0 then []
              else [{ p with steps := p.steps - oneStep p.steps }],
            burstCount := 0 } ∧
          (∀ i, i ≠ ch → t.calCh i = s.calCh i) ∧ s.changesOnly t [.cal, .regs]) ∧
      (p.wait = true → s.trimsHeld ch = false → (s.chan ch).flights = [] →
        ∃ t, exec (.idlePeriod ch) s = .next t ∧
          t.calCh ch = { (s.calCh ch).move p.trim p.steps with pending := [], burstCount := 0 } ∧
          (∀ i, i ≠ ch → t.calCh i = s.calCh i) ∧ s.changesOnly t [.cal, .regs]) ∧
      (p.wait = true → (s.calCh ch).waitSince + s.rf RF.CAL_IDLE_WAIT ≤ s.now →
        ∃ t, exec (.idleWaitExpiry ch) s = .next t ∧ (t.calCh ch).pending = [{ p with wait := false, forced := true }] ∧
          t.sticky RF.CAL_SLEW_FORCED 0 = 1 ∧ (∀ i, i ≠ ch → t.calCh i = s.calCh i) ∧ s.changesOnly t [.cal, .regs])) ∧
    (ch < 32 → s.writeOpen a 0x7028 (BitVec.ofNat 32 (ch + b2n full * 2 ^ 31)) → (s.calCh ch).retraining = false →
      ∃ t, exec (.calRetrain a ch full) s = .next t ∧ (t.calCh ch).retraining = true ∧ (t.calCh ch).inFull = full ∧
        (t.calCh ch).trims = (s.calCh ch).trims ∧ (∀ i, i ≠ ch → t.calCh i = s.calCh i) ∧ t.array = s.array ∧ t.nvm = s.nvm ∧
        t.link = s.link) ∧
    (s.running = true → s.nothingWaits → ch < 64 → res.wellFormed = true → (s.calCh ch).retraining = true →
      (s.calCh ch).inFull = false → (s.calCh ch).fullRun = false → (s.calCh ch).step5 = [] → dqBad res = [] →
      cmdBad res = [] → res.strobeAll = false → res.strobeSids = [] → res.resetFailed = false →
      (res.verifyPassed = true → gateOk res = true → narrowed (s.calCh ch).trims res.trims = true → s.flt.unfencing = [] →
        ∃ t, exec (.retrainComplete ch res) s = .next t ∧ (t.calCh ch).retraining = false ∧
          (t.calCh ch).trims.wdeskew = res.trims.wdeskew ∧ (t.calCh ch).trims.rdeskew = res.trims.rdeskew ∧
          (t.calCh ch).trims.rstrobe = res.trims.rstrobe ∧ (t.calCh ch).trims.cdeskew = (s.calCh ch).trims.cdeskew ∧
          (t.calCh ch).count = ((s.calCh ch).count + 1) % 2 ^ 32 ∧ (t.calCh ch).last = s.time.stamp ∧
          (∀ i, i ≠ ch → t.calCh i = s.calCh i) ∧ t.array = s.array ∧ t.link = s.link) ∧
      (res.verifyPassed = false →
        ∃ t, exec (.retrainComplete ch res) s = .next t ∧ (t.calCh ch).retraining = true ∧ (t.calCh ch).inFull = true ∧
          (t.calCh ch).trims = (s.calCh ch).trims ∧ (∀ i, i ≠ ch → t.calCh i = s.calCh i) ∧ t.array = s.array ∧
          t.nvm = s.nvm ∧ t.link = s.link))

/-! ### Power domains -/

/-- Entries: a group at its idle threshold goes down where nothing stands against it; a domain asked for retention or off leaves
the on state, at once or once its conditions hold, and refuses with the first condition still unmet when its time is up. -/
def Obligations.DomainsEnterLowPower : Prop :=
  ∀ (s : State) (a : Access) (g d c t0 : Nat) (l : List Nat) (target : DomState) (cgt : CgState), a.course < 12 →
    (s.running = true → g < 16 → (s.cg g).st = .active → 0 < s.idleLimit .pd → s.idleLimit .pd ≤ (s.cg g).idle →
      (s.cg g).refused ≠ some .powerDown → (s.cg g).delay = none → s.domOn (8 + g) = true →
      (s.cg g).pdAt + s.idleLimit .pd ≤ s.now → s.unmetCg g .powerDown = [] →
      ∃ t, exec (.idleThresholdExpiry g .pd) s = .next t ∧ (t.cg g).st = .powerDown ∧
        (∀ ch, ch ∈ s.runsOf g → (t.chan ch).downStands = true) ∧ (∀ i, i ≠ g → t.cg i = s.cg i) ∧
        s.changesOnly t [.pwr, .chans, .regs]) ∧
    (s.running = true → g < 16 → (s.cg g).delay = some (cgt, t0) → s.unmetCg g cgt = [] →
      ∃ t, exec (.entryConditionsMet (8 + g)) s = .next t ∧ (t.cg g).st = cgt ∧ (t.cg g).delay = none ∧ t.array = s.array ∧
        t.nvm = s.nvm ∧ t.trx = s.trx) ∧
    (1 ≤ d → d ≤ 7 → target = .retention ∨ target = .off →
      (s.running = true → (s.dom d).delay = some (target, t0) →
        (s.unmetDom d target = [] →
          ∃ t, exec (.entryConditionsMet d) s = .next t ∧ (t.dom d).st = target ∧ t.pins.pswEn.get d = false ∧
            t.array = s.array ∧ t.nvm = s.nvm ∧ t.trx = s.trx) ∧
        (s.unmetDom d target = c :: l → t0 ≤ s.now →
          ∃ t, exec (.delayLimitExpiry d) s = .next t ∧ (t.dom d).st = (s.dom d).st ∧ (t.dom d).delay = none ∧
            t.pwr.lastDom = d ∧ t.pwr.lastReason = c ∧ t.pwr.refusals = min (s.pwr.refusals + 1) 65535 ∧
            t.sticky RF.PWR_REFUSED 0 = 1 ∧ s.changesOnly t [.pwr, .regs])) ∧
      (2 ≤ d → s.domOn d = true → s.unmetDom d target = [] →
        (target = .retention → s.writeOpen a 0x1014 (BitVec.ofNat 32 (d + 2 ^ 8)) →
          ∃ t, exec (.pwrReqRetention a d) s = .next t ∧ (t.dom d).st = .retention ∧ t.pins.pswEn.get d = false ∧
            t.array = s.array ∧ t.nvm = s.nvm ∧ t.trx = s.trx) ∧
        (target = .off → s.writeOpen a 0x1014 (BitVec.ofNat 32 (d + 2 * 2 ^ 8)) →
          ∃ t, exec (.pwrReqOff a d) s = .next t ∧ (t.dom d).st = .off ∧ t.pins.pswEn.get d = false ∧ t.array = s.array ∧
            t.nvm = s.nvm ∧ t.trx = s.trx)) ∧
      (s.running = true → s.domOn 1 = true → (s.dom 1).waitAck = some target → s.link.upQ = [] →
        (∀ k, k < 12 → (s.course k).buffer = [] ∧ (s.course k).held = []) → s.unmetDom 1 target = [] →
        ∃ t, exec .linkEntryAcked s = .next t ∧ (t.dom 1).st = target ∧ t.pins.pswEn.get 1 = false ∧ t.array = s.array ∧
          t.nvm = s.nvm ∧ t.trx = s.trx))

/-- Wakes: a request of software, of the link or behind an unfence starts one; readiness ends it; a timer that runs out fails the
attempt, which is tried again or costs the domain; a switch that drops out costs it at once. -/
def Obligations.DomainsWakeOrFail : Prop :=
  ∀ (s : State) (a : Access) (c d t0 : Nat), a.course < 12 → d < 24 →
    (2 ≤ d → d ≤ 7 →
      (s.writeOpen a 0x1014 (BitVec.ofNat 32 d) → s.domOn d = false → (s.dom d).st ≠ .failed → (s.dom d).wakeFrom = none →
        s.mayWake d = true →
        ∃ t, exec (.pwrReqOn a d) s = .next t ∧ (t.dom d).wakeFrom = some s.now ∧ t.pins.pswEn.get d = !s.wakeBlocked d ∧
          (∀ i, i ≠ d → t.dom i = s.dom i) ∧ s.changesOnly t [.pwr, .pins, .regs, .rpr]) ∧
      (s.writeOpen a 0x1020 (BitVec.ofNat 32 d) → (s.dom d).st = .failed → s.mayWake d = true →
        ∃ t, exec (.pwrUnfence a d) s = .next t ∧ (t.dom d).st = .off ∧ (t.dom d).wakeFrom = some s.now ∧
          (∀ i, i ≠ d → t.dom i = s.dom i) ∧ s.changesOnly t [.pwr, .pins, .regs, .rpr])) ∧
    (s.running = true → c < 12 → (s.rf RF.PWR_LINK_WAKE).testBit c = true → s.domOn 1 = false → (s.dom 1).st ≠ .failed →
      (s.dom 1).wakeFrom = none → s.mayWake 1 = true →
      ∃ t, exec (.linkWake c) s = .next t ∧ (t.dom 1).wakeFrom = some s.now ∧
        s.changesOnly t [.pwr, .pins, .regs]) ∧
    (s.running = true → s.nothingWaits →
      (d = 2 ∨ d = 3 ∨ d = 4 ∨ d = 7 → s.wakeRuns d = true → (s.dom d).from0 = false →
        ∃ t, exec (.wakeReady d true true true) s = .next t ∧ (t.dom d).st = .on ∧ (t.dom d).wakeFrom = none ∧
          s.changesOnly t [.pwr, .pins, .regs, .chans]) ∧
      (1 ≤ d → s.wakeTimed d = true → (s.dom d).wakeFrom = some t0 → t0 + (s.dom d).timer ≤ s.now →
        ∃ t, exec (.wakeTimerExpiry d) s = .next t ∧ (t.dom d).tries = (s.dom d).tries + 1 ∧
          (t.dom d).retryAt = some (s.now + (if (s.dom d).limit < (s.dom d).tries + 1 then 0 else 8)) ∧
          t.pins.pswEn.get d = false ∧ t.sticky RF.PWR_WAKE_FAILED 0 = 1 ∧ t.array = s.array ∧ t.nvm = s.nvm ∧
          t.link = s.link) ∧
      (1 ≤ d → (s.dom d).retryAt = some t0 → t0 ≤ s.now →
        ((s.dom d).tries ≤ (s.dom d).limit →
          ∃ t, exec (.wakeRetry d) s = .next t ∧ (t.dom d).wakeFrom = some s.now ∧ (t.dom d).retryAt = none ∧
            (∀ i, i ≠ d → t.dom i = s.dom i) ∧ s.changesOnly t [.pwr, .pins]) ∧
        ((s.dom d).limit < (s.dom d).tries →
          ∃ t, exec (.wakeRetry d) s = .next t ∧ (t.dom d).st = .failed ∧ t.sticky RF.PWR_DOMAIN_FENCED 0 = 1 ∧
            t.nvm = s.nvm)) ∧
      (1 ≤ d → s.pins.pswEn.get d = true →
        ∃ t, exec (.pswRdyFall d) s = .next t ∧ (t.dom d).st = .failed ∧ t.pins.pswRdy.get d = false ∧
          t.pins.pswEn.get d = false ∧ (d = 1 ∨ d = 2 ∨ d = 5 → t.flt.fatal = true) ∧ t.nvm = s.nvm))

/-! ### The instance pair -/

/-- Identities: a partner's that agrees with the own makes the instances PAIRED, one that differs a MISMATCH, and none within its
time leaves the instance ALONE. Heartbeats: one that comes brings the partner's channel words; a window without one counts a miss,
and an armed instance declares its partner failed at the second, as when a word goes unacknowledged for 64 drone ticks. The places
of the fields in the messages are the model's reading (log 30). -/
def Obligations.PairingAndHeartbeats : Prop :=
  (∀ (s : State) (l : List Word) (n t0 : Nat), s.upd.stage0.st ≠ 5 →
     (s.mirArrives mtIdentity l → s.pair.idSentAt.isSome = true →
       (s.pair.role = .none → s.identityDiff (mirBody l) = none →
         ∃ t, exec (.mirIdentity l) s = .next t ∧ t.pair.role = .paired ∧ t.pair.idSeen = true ∧
           t.pair.acked = some (mirSeq l) ∧ t.pair.rxSeq = 0 ∧ t.array = s.array ∧ t.nvm = s.nvm ∧ t.link = s.link) ∧
       (s.pair.role = .none → s.identityDiff (mirBody l) = some n →
         ∃ t, exec (.mirIdentity l) s = .next t ∧ t.pair.role = .mismatch ∧ t.pair.idSeen = true ∧ t.pair.sent = [] ∧
           t.array = s.array ∧ t.nvm = s.nvm ∧ t.link = s.link) ∧
       (s.pair.role = .paired → s.identityDiff (mirBody l) = none → s.pair.missed < 2 →
         ∃ t, exec (.mirIdentity l) s = .next t ∧ t.pair.role = .paired ∧ t.pair.idSeen = true ∧
           t.pair.acked = some (mirSeq l) ∧ t.pair.sent = s.pair.sent ∧ s.changesOnly t [.pair])) ∧
     (s.running = true → s.pair.idSentAt = some t0 → s.pair.role = .none → s.pair.idSeen = false → t0 + 2048 ≤ s.now →
       ∃ t, exec .pairAloneTimeout s = .next t ∧ t.pair = { s.pair with role := .alone } ∧ s.changesOnly t [.pair, .flt])) ∧
  (∀ (s : State) (l : List Word) (m : MirMsg) (n : Nat),
     (s.mirArrives mtHeartbeat l → s.portOpen = true → l.length = 54 → n < 32 →
       ∃ t, exec (.mirHeartbeat l) s = .next t ∧ t.pair.gotBeat = true ∧ t.pair.beatAt = s.now ∧
         t.pair.acked = some (mirSeq l) ∧ (t.pair.chans.get n).st = fieldNat (bodyWord (mirBody l) (20 + n)) 31 28 ∧
         (t.pair.chans.get n).k = fieldNat (bodyWord (mirBody l) (20 + n)) 17 0 ∧
         (t.pair.chans.get n).drained = (if n % 2 = 0 then fieldNat (bodyWord (mirBody l) (4 + n / 2)) 15 0
           else fieldNat (bodyWord (mirBody l) (4 + n / 2)) 31 16) ∧ t.nvm = s.nvm ∧ t.array = s.array) ∧
     (s.running = true → s.pair.role = .paired → s.pair.joint = false → s.domOn 6 = true → s.pair.step = .idle →
       (s.pair.lastWin ≠ s.now →
         (s.pair.gotBeat = true →
           ∃ t, exec .heartbeatWindowClose s = .next t ∧
             t.pair = { s.pair with lastWin := s.now, gotBeat := false, missed := 0 } ∧ s.changesOnly t [.pair]) ∧
         (s.pair.gotBeat = false → s.armed = false ∨ s.pair.missed = 0 →
           ∃ t, exec .heartbeatWindowClose s = .next t ∧
             t.pair = { s.pair with lastWin := s.now, missed := s.pair.missed + 1 } ∧
             t.sticky RF.MIR_MISS_SEEN 0 = 1 ∧ s.changesOnly t [.pair, .regs]) ∧
         (s.pair.gotBeat = false → s.armed = true → 1 ≤ s.pair.missed →
           ∃ t, exec .heartbeatWindowClose s = .next t ∧ t.pair.step = .freq ∧ t.pair.reason = 0 ∧ t.pins.brgFreq = true ∧
             t.pair.declared = s.now ∧ t.sticky RF.MIR_TAKEOVER 0 = 1 ∧ t.nvm = s.nvm ∧ t.chans = s.chans)) ∧
       (s.armed = true → s.pair.sent = [m] → m.first + 64 ≤ s.now →
         ∃ t, exec .mirrorNoackTimeout s = .next t ∧ t.pair.step = .freq ∧ t.pair.reason = 2 ∧ t.pins.brgFreq = true ∧
           t.pair.sent = [] ∧ t.nvm = s.nvm ∧ t.chans = s.chans)))

/-- State messages in order: each is acknowledged and applied once, to what its type carries. The mirror port: an acknowledgement
ends its message, and with the last CONFIG part moves the mirrored epoch; a message that waits 4 drone ticks is sent again;
MIR_RXREQ wakes D6. The places of the fields in the messages are the model's reading (log 30). -/
def Obligations.MirrorPortAndMessages : Prop :=
  (∀ (s : State) (l : List Word) (k i : Nat),
     (s.mirNext mtRefBase l → s.pair.role = .paired → i < 64 →
       ∃ t, exec (.mirRefBase l) s = .next t ∧ s.mirTaken t l ∧
         (t.pair.chans.get ((bodyWord (mirBody l) 0).toNat % 32)).bases.get i =
           (if i % 2 = 0 then fieldNat (bodyWord (mirBody l) (1 + i / 2)) 15 0
             else fieldNat (bodyWord (mirBody l) (1 + i / 2)) 31 16) ∧ s.changesOnly t [.pair]) ∧
     (s.mirNext mtBacklog l → s.pair.role = .paired →
       ∃ t, exec (.mirBacklog l) s = .next t ∧ s.mirTaken t l ∧
         (t.pair.chans.get (fieldNat (bodyWord (mirBody l) 0) 4 0)).backlog.any (fun e =>
           e.bank == fieldNat (bodyWord (mirBody l) 0) 13 8 && e.row == (bodyWord (mirBody l) 1).toNat % 32768) =
             bitAt (bodyWord (mirBody l) 0) 31 ∧ s.changesOnly t [.pair]) ∧
     (s.mirNext mtKey l → s.pair.role = .paired → bitAt (bodyWord (mirBody l) 0) 31 = true → fieldNat (bodyWord (mirBody l) 0) 10 0 = k →
       ∃ t, exec (.mirKey l) s = .next t ∧ s.mirTaken t l ∧ (t.slot true k).st = .empty ∧ (t.slot true k).keys = .zero ∧
         (∀ j, j ≠ k → t.slot true j = s.slot true j) ∧ s.changesOnly t [.pair, .sec]) ∧
     (s.mirNext mtKey l → s.pair.role = .paired → bitAt (bodyWord (mirBody l) 0) 31 = false → fieldNat (bodyWord (mirBody l) 0) 10 0 = k →
       ∃ t, exec (.mirKey l) s = .next t ∧ (∀ j, j ≠ k → t.slot true j = s.slot true j) ∧ t.sec.own = s.sec.own ∧
         (∀ keys, s.sec.pairKey.bind (fun q => unwrapSlot q forPair (1 - s.inst) (((mirBody l).drop 1).flatMap wordBytes)) =
             some keys →
           s.mirTaken t l ∧ (t.slot true k).st = .active ∧ (t.slot true k).keys = keys ∧
             (t.slot true k).gen = ((s.slot true k).gen + 1) % 65536 ∧ s.changesOnly t [.pair, .sec]) ∧
         (s.sec.pairKey.bind (fun q => unwrapSlot q forPair (1 - s.inst) (((mirBody l).drop 1).flatMap wordBytes)) = none →
           t.slot true k = s.slot true k)) ∧
     (s.mirNext mtRepair l → s.pair.role = .paired →
       ∃ t, exec (.mirRepair l) s = .next t ∧ s.mirTaken t l ∧
         (t.pair.chans.get ((bodyWord (mirBody l) 0).toNat % 32)).repair = ((mirBody l).drop 1).flatMap wordBytes ∧
         s.changesOnly t [.pair]) ∧
     (s.mirNext mtConfig l → s.pair.role = .paired →
       ∃ t, exec (.mirConfig l) s = .next t ∧ s.mirTaken t l ∧
         t.pair.epoch = (if bitAt (bodyWord (mirBody l) 0) 31 then (bodyWord (mirBody l) 1).toNat else s.pair.epoch) ∧
         t.pair.config = (configWords (mirBody l)).foldl (fun tb w => tb.set w.1 (BitVec.ofNat 32 w.2)) s.pair.config ∧
         s.changesOnly t [.pair]) ∧
     (s.mirNext mtTrims l → s.pair.role = .paired →
       ∃ t, exec (.mirTrims l) s = .next t ∧ s.mirTaken t l ∧
         (t.pair.chans.get ((bodyWord (mirBody l) 0).toNat % 32)).trims =
           some (trimsOf (((mirBody l).drop 1).flatMap wordBytes)) ∧ s.changesOnly t [.pair]) ∧
     (s.mirNext mtSleep l → s.pair.role = .paired → bitAt (bodyWord (mirBody l) 0) 0 = true →
       ∃ t, exec (.mirSleep l) s = .next t ∧ s.mirTaken t l ∧ t.pair.joint = false ∧ t.pair.sleepSent = false ∧
         s.changesOnly t [.pair]) ∧
     (s.mirNext mtPairkey l →
       ∃ t, exec (.mirPairkey l) s = .next t ∧
         (∀ key, s.pair.share.bind (fun x => pairKeyOf s.inst x.1 x.2 ((mirBody l).flatMap wordBytes)) = some key →
           s.mirTaken t l ∧ t.sec.pairKey = some key) ∧
         (s.pair.share.bind (fun x => pairKeyOf s.inst x.1 x.2 ((mirBody l).flatMap wordBytes)) = none → s.pair.role = .paired →
           t.pair.role = .mismatch) ∧
         t.array = s.array ∧ t.nvm = s.nvm ∧ t.link = s.link) ∧
     (s.mirNext mtHandback l → s.pair.role = .fenced → s.boot.stage ≠ .ready →
       ∃ t, exec (.mirHandback l) s = .next t ∧ s.mirTaken t l ∧ t.pair.handMsgs = s.pair.handMsgs ++ [mirBody l] ∧
         s.changesOnly t [.pair])) ∧
  (∀ (s : State) (m : MirMsg), s.running = true →
     (s.clamped = false → s.pair.sent = [m] → m.seq < 256 → s.pair.waiting = [] → s.trx.keyOps = [] → mirType m.words = mtConfig →
       ∃ t, exec (.mirrorAck m.seq) s = .next t ∧
         t.pair = { s.pair with sent := [], mirrored := (m.words.getD 2 0#32).toNat } ∧ s.changesOnly t [.pair]) ∧
     (s.pair.sent = [m] → m.seq < 256 → m.at0 + 4 ≤ s.now → s.domOn 6 = true → s.regs.snapBusy = false →
       ∃ t, exec (.mirrorResendTimeout m.seq) s = .next t ∧ t.pair = { s.pair with sent := [{ m with at0 := s.now }] } ∧
         t.counter 0x8118 = s.counter 0x8118 + 1#64 ∧ s.changesOnly t [.pair, .regs]) ∧
     (s.clamped = false → s.domOn 6 = false → (s.dom 6).st ≠ .failed → (s.dom 6).wakeFrom = none → s.mayWake 6 = true →
       ∃ t, exec .mirRxreqWake s = .next t ∧ (t.dom 6).wakeFrom = some s.now ∧ (∀ i, i ≠ 6 → t.dom i = s.dom i) ∧
         s.changesOnly t [.pwr, .pins]))

/-- Takeover: the fence that is won makes a survivor of this instance, the crossover brings the partner's channels, and with their
retraining double-stop mode begins; the instance that the bridge fences is fenced itself, until the bridge releases it. Which
states of the partner's channels are taken over, and a held start that is released without a handback, are the model's readings
(log 31, log 32). -/
def Obligations.TakeoverReachesDoubleStop : Prop :=
  ∀ (s : State) (n : Nat), s.running = true →
    (s.pair.step = .freq → (∀ ch, ch < 64 → (s.chan ch).downStands = false) →
      ∃ t, exec .brgFgnt s = .next t ∧ t.pair = { s.pair with step := .opening, role := .survivor } ∧
        t.pins.brgFgnt = true ∧ t.pins.brgXen = true ∧ s.changesOnly t [.pair, .pins, .flt, .chans, .regs, .pwr]) ∧
    (s.pair.step = .opening → n < 32 →
      ∃ t, exec .brgXrdy s = .next t ∧ t.pair.step = .retraining ∧ t.pins.brgXrdy = true ∧
        ((s.pair.chans.get n).st ≤ 4 →
          (t.chan (32 + n)).drained = (s.pair.chans.get n).drained ∧ (t.chan (32 + n)).band = (s.pair.chans.get n).band ∧
            (t.chan (32 + n)).backlog = (s.pair.chans.get n).backlog) ∧
        (4 < (s.pair.chans.get n).st → t.marked .channel (32 + n) = true) ∧
        ((s.cg (groupOf n)).st = .active → t.chan n = s.chan n) ∧ t.array = s.array ∧
        t.nvm = s.nvm ∧ t.link = s.link) ∧
    (s.pair.step = .retraining →
      ∃ t, exec (.takeoverRetrainDone []) s = .next t ∧ t.pair.step = .doubleStop ∧ t.pair.doubleStop = true ∧
        t.pins.smpIbi = true ∧ t.link.upQ.map (fun m => m.done) = s.link.upQ.map (fun m => m.done) ++ [.notice] ∧
        s.changesOnly t [.pair, .cal, .free, .flt, .regul, .link, .pins]) ∧
    (s.flt.fatal = false →
      ∃ t, exec .brgSfencedRise s = .next t ∧ t.pins.sfenced = true ∧ t.pins.brgFreq = false ∧ t.pair.role = .fenced ∧
        t.pair.step = .idle ∧ t.flt.fatal = true ∧ t.marked .inst 0 = true ∧ t.nvm = s.nvm) ∧
    (s.boot.heldStart = false → s.boot.stage = .ready → s.pair.role ≠ .fenced →
      exec .brgSfencedFall s = .next { s with pins := { s.pins with sfenced := false } }) ∧
    (s.boot.heldStart = true → s.boot.stage = .coredie → s.pair.handMsgs = [] →
      ∃ t, exec .brgSfencedFall s = .next t ∧ t.pins.sfenced = false ∧ t.boot.heldStart = false)

/-- Handback: HANDBACK stops the service of the partner's half; once it is drained each partner channel runs SR_ENTER, once they rest
the handback messages go out, with their acknowledgement double-stop mode ends, and past HANDBACK_WAIT the service resumes. When it is
looked at whether the channels rest is the model's choice (log 131). -/
def Obligations.HandbackEndsDoubleStop : Prop :=
  ∀ (s : State) (a : Access) (k : Nat), a.course < 12 →
    (s.writeOpen a 0x8010 1#32 → (∀ n, n < 32 → (s.chan (32 + n)).downStands = false) → s.pair.step = .doubleStop →
      s.pair.idSeen = true → s.sec.pairKey.isSome = true →
      ∃ t, exec (.handback a) s = .next t ∧ t.pair = { s.pair with step := .draining, serving := false, handWait := s.now } ∧
        (∀ n, n < 32 → t.chan n = s.chan n) ∧ s.changesOnly t [.pair, .regs, .rpr, .chans, .pwr, .pins]) ∧
    (s.running = true → s.pair.step = .draining →
      (s.partnerDrained = true →
        ((∀ n, n < 32 → s.partnerRests n = true) →
          ∃ t, exec .handbackDrained s = .next t ∧ t.pair.step = .sending ∧ t.chans = s.chans ∧ t.array = s.array ∧ t.nvm = s.nvm ∧
            t.link = s.link ∧ s.pair.sent.length + s.pair.waiting.length < t.pair.sent.length + t.pair.waiting.length) ∧
        (k < 32 → s.partnerRests k = false → s.partnerMay k = true → s.driven (32 + k) = true →
          ∃ t, exec .handbackDrained s = .next t ∧ t.pair = { s.pair with step := .entering } ∧
            (t.chan (32 + k)).power = [44] ∧
            (∀ n, n < 32 → (t.chan n).reads = (s.chan n).reads ∧ (t.chan n).writes = (s.chan n).writes ∧
              (t.chan n).banks = (s.chan n).banks) ∧
            t.array = s.array ∧ t.nvm = s.nvm ∧
            t.link = s.link)) ∧
      (s.pair.handWait + s.rf RF.MIR_HANDBACK_WAIT ≤ s.now →
        ∃ t, exec .handbackWaitExpiry s = .next t ∧ t.pair.step = .doubleStop ∧ t.pair.serving = true ∧
          t.sticky RF.MIR_HANDBACK_FAIL 0 = 1 ∧ t.chans = s.chans ∧ t.array = s.array ∧ t.nvm = s.nvm ∧ t.link = s.link)) ∧
    (s.running = true → s.pair.step = .sending → s.pair.sent = [] → s.pair.waiting = [] →
      ∃ t, exec .handbackAcked s = .next t ∧ t.pair.step = .idle ∧ t.pair.doubleStop = false ∧ t.pins.brgXen = false ∧
        t.pins.brgFreq = false ∧ t.sticky RF.MIR_HANDBACK_DONE 0 = 1 ∧ (∀ n, n < 32 → t.chan (32 + n) = Chan.init) ∧
        (∀ n, n < 32 → t.chan n = s.chan n) ∧ t.array = s.array ∧ t.nvm = s.nvm)

/-! ### Faults, fences and events -/

/-- Fences: FLT_CTL fences a unit and returns one to service, a channel that does not progress is fenced, and an engine's stall is
fatal. FAULT_N is held by FLT_PIN and released only for the assertions that the writer has seen. -/
def Obligations.FencesAndTheFaultPin : Prop :=
  ∀ (s : State) (a : Access) (v : Word) (u : FUnit) (i n t0 : Nat) (ok : Bool) (q : Byte), a.course < 12 →
    (s.writeOpen a 0x2020 (putBits v 31 28 1) → s.ctlUnit v = some (u, i) →
      ∃ t, exec (.fltFence a v) s = .next t ∧ t.marked u i = true ∧ t.nvm = s.nvm ∧ t.time = s.time) ∧
    (s.writeOpen a 0x2020 (putBits v 31 28 2) → s.ctlUnit v = some (u, i) → s.insideFenced u i = false →
      s.marked u i = true → s.flt.unfencing = [] →
      (u = .bank ∨ (u = .lpHalf ∧ ok = true) →
        ∃ t, exec (.fltUnfence a v ok) s = .next t ∧ t.marked u i = false ∧ t.nvm = s.nvm ∧ t.time = s.time) ∧
      (u = .channel →
        ∃ t, exec (.fltUnfence a v ok) s = .next t ∧ t.marked .channel i = true ∧ t.flt.unfencing = [(.channel, i)] ∧
          (t.calCh i).retraining = true ∧ t.nvm = s.nvm ∧ t.time = s.time)) ∧
    (s.running = true → s.progDue n = true →
      (n < 32 → s.pair.doubleStop = false →
        ∃ t, exec (.progStall n) s = .next t ∧ t.marked .channel n = true ∧ t.nvm = s.nvm) ∧
      (32 ≤ n → n < 34 → ∃ t, exec (.progStall n) s = .next t ∧ t.flt.fatal = true ∧ t.nvm = s.nvm)) ∧
    (s.running = true → s.flt.pulseEnd = some t0 → t0 ≤ s.now →
      exec .faultNPulseEnd s = .next { s with flt := { s.flt with pulseEnd := none } }) ∧
    (s.writeOpen a 0x2018 (BitVec.ofNat 32 (1 + q.toNat * 2 ^ 8)) →
      ∃ t, exec (.fltPinHold a q) s = .next t ∧ t.flt = { s.flt with drive := true } ∧ s.changesOnly t [.flt, .regs, .rpr]) ∧
    (s.writeOpen a 0x2018 (BitVec.ofNat 32 (q.toNat * 2 ^ 8)) →
      (q.toNat = s.flt.asserts % 256 →
        ∃ t, exec (.fltPinRelease a q) s = .next t ∧ t.flt = { s.flt with drive := false } ∧
          s.changesOnly t [.flt, .regs, .rpr]) ∧
      (q.toNat ≠ s.flt.asserts % 256 →
        ∃ t, exec (.fltPinRelease a q) s = .next t ∧ t.sticky RF.FLT_RELEASE_STALE 0 = 1 ∧ s.changesOnly t [.regs, .rpr]))

/-- Events: a view copies the record with its SEQ or shows that it is gone; a record that has stood its time is queued, and the
luthier writes it to the next slot of the log, and it leaves the queue with its last word; the scan finds where the log goes on; LOCK
burns its fuse. Entropy: a failed health test takes the DRBG out of service for 1,024 drone ticks at least; the repeated start-up test,
where its raw bits pass, brings it back with a state drawn from 2,048 raw bits, or the wait begins again. The raw bits are free
(log 140). -/
def Obligations.EventsAndEntropy : Prop :=
  (∀ (s : State) (a : Access) (k : Nat) (r : EvRec) (rest : List EvRec) (w : Nat × BitVec 64), a.course < 12 →
     (k < 2 ^ 32 → s.writeOpen a 0x3010 (BitVec.ofNat 32 k) →
       (s.evt.ring.get (k % 4096) = some r → r.seq = k → k ≤ s.evt.head →
         ∃ t, exec (.evtView a k) s = .next t ∧ t.regs.evtCopy.get (pathNum a.path) = some (r.words k) ∧
           t.regs.views.get (16 * pathNum a.path + 8) = 0 ∧ s.changesOnly t [.regs, .rpr]) ∧
       (s.evt.ring.get (k % 4096) = none →
         ∃ t, exec (.evtView a k) s = .next t ∧ t.regs.evtCopy.get (pathNum a.path) = none ∧
           t.regs.views.get (16 * pathNum a.path + 8) = 1 ∧ s.changesOnly t [.regs, .rpr])) ∧
     (k < 16384 → s.writeOpen a 0x3048 (BitVec.ofNat 32 k) → s.pins.nvmRdy = true →
       (s.nvmClean (0xb0000 + 32 * k) 32 = true →
         ∃ t, exec (.evtLogidx a k) s = .next t ∧ t.regs.logCopy.get 0 = toWords (s.mram (0xb0000 + 32 * k) 32) ∧
           s.changesOnly t [.regs, .rpr]) ∧
       (s.nvmClean (0xb0000 + 32 * k) 32 = false →
         ∃ t, exec (.evtLogidx a k) s = .next t ∧ t.regs.logCopy.get 0 = [] ∧ t.nvm = s.nvm ∧
           s.changesOnly t [.regs, .rpr, .evt, .flt, .pins, .pwr])) ∧
     (s.running = true → s.newest = some r → r.queued = false → s.rf RF.EVT_PERSIST_MIN ≤ r.sev →
       r.born + s.rf RF.EVT_PERSIST_DELAY ≤ s.now → s.evt.queue.length < 64 → r.code ≠ 0x0205 → s.domOn 7 = true →
       (s.dom 7).delay = none →
       ∃ t, exec .persistDelayExpiry s = .next t ∧ t.evt.queue = s.evt.queue ++ [{ r with queued := true }] ∧
         t.evt.head = s.evt.head ∧ s.changesOnly t [.evt]) ∧
     (s.running = true → s.evt.queue = r :: rest → s.domOn 7 = true → s.pins.nvmRdy = true →
       (s.evt.logReady = true → s.logging = false →
         ∃ t, exec .eventPersist s = .next t ∧
           t.nvm.jobs = s.nvm.jobs ++
             [⟨.eventLog r.seq, true, wordsOf (logAddr s.evt.logSlot) (r.bytes ((s.evt.logSeq + 1) % 2 ^ 32))⟩] ∧
           t.nvm.mem = s.nvm.mem ∧ s.changesOnly t [.nvm]) ∧
       (s.nvm.jobs = [⟨.eventLog r.seq, true, [w]⟩] → s.regs.snapBusy = false →
         ∃ t, exec (.nvmAck false) s = .next t ∧ t.nvm.jobs = [] ∧ t.nvm.mem = memWriteWord s.nvm.mem w.1 w.2 ∧
           t.evt.queue = rest ∧ t.evt.logSlot = (s.evt.logSlot + 1) % 16384 ∧ t.evt.pseq = r.seq ∧ t.evt.ring = s.evt.ring ∧
           s.changesOnly t [.nvm, .evt, .regs])) ∧
     (s.running = true → s.boot.stage = .ready → s.evt.logReady = false → s.domOn 7 = true → s.pins.nvmRdy = true →
       ((∀ i, i < 16384 → s.logOk i = false) →
         ∃ t, exec .logScanDone s = .next t ∧ t.evt.logReady = true ∧ t.evt.logSlot = 0 ∧ t.sticky RF.EVT_LOG_BAD 0 = 1 ∧
           s.changesOnly t [.evt, .regs, .flt, .pins, .pwr] ∧ (s.nvm.badWords = [] → s.changesOnly t [.evt, .regs])) ∧
       (k < 16384 → (∀ i, i < 16384 → s.logOk i = decide (i = k)) →
         ∃ t, exec .logScanDone s = .next t ∧ t.evt.logReady = true ∧ t.evt.logSlot = (k + 1) % 16384 ∧
           t.evt.logSeq = numAt (s.mram (logAddr k) 4) 0 4 ∧ s.changesOnly t [.evt, .regs, .flt, .pins, .pwr] ∧
           (s.nvm.badWords = [] → s.changesOnly t [.evt]))) ∧
     (s.writeOpen a 0x500c 1#32 →
       ∃ t, exec (.secLock a) s = .next t ∧ t.sec = { s.sec with lock := true } ∧
         t.nvm = { s.nvm with lockFuse := true } ∧ s.changesOnly t [.sec, .nvm, .regs, .rpr])) ∧
  (∀ (s : State) (n t0 : Nat) (pass : Bool) (raw : Option (BitVec 1024)), s.running = true →
     (n < 3 → s.sec.drbgOk = true →
       ∃ t, exec (.entropyHealthFail n) s = .next t ∧
         t.sec = { s.sec with drbgOk := false, retestAt := some (s.now + 1024) } ∧
         t.sticky RF.SEC_ENTROPY_FAIL 0 = 1 ∧ s.changesOnly t [.sec, .regs, .pins, .evt, .flt, .pwr]) ∧
     (s.sec.retestAt = some t0 → t0 ≤ s.now →
       ((pass && raw.all (fun w => !rctFails w && !aptFails w)) = true →
         ∃ t, exec (.entropyRetest pass raw) s = .next t ∧
           t.sec = { s.sec with drbgOk := true, drbgGen := 0, retestAt := none, drbg := t.sec.drbg } ∧
           t.sec.drbg = .instantiate (conditioned (Config.rawBits s.free)) (conditioned (Config.rawBits (s.free + 1))) ∧
           s.changesOnly t [.sec, .free]) ∧
       ((pass && raw.all (fun w => !rctFails w && !aptFails w)) = false →
         ∃ t, exec (.entropyRetest pass raw) s = .next t ∧
           t.sec = { s.sec with drbgOk := false, retestAt := some (s.now + 1024) } ∧
           s.changesOnly t [.sec, .regs, .pins, .evt, .flt, .pwr])))

/-! ### Repair, test, loopbacks and the wrapper -/

/-- The commands of RPR_CMD: each records its operation; a hard repair and a column entry also change the map, which goes to MRAM. -/
def Obligations.RepairsBegin : Prop :=
  ∀ (s : State) (a : Access) (v : Word) (ch bank row col dq : Nat), a.course < 12 → s.rpr.op = none →
    s.pins.nvmRdy = true → fieldNat v 27 23 = ch → fieldNat v 22 17 = bank → s.rf RF.RPR_ARG_ROW = row →
    s.rf RF.RPR_ARG_COLUMN = col → s.rf RF.RPR_DQ = dq →
    (s.writeOpen a 0x9008 (putBits v 31 28 1) → (s.rmap ch).rowsIn bank < 4 → (s.rmap ch).soft.length < 128 →
      ∃ t o, exec (.softRow a v) s = .next t ∧ t.rpr.op = some o ∧ o.op = 1 ∧ o.ch = ch ∧ o.bank = bank ∧ o.row = row ∧
        o.second = false ∧ t.rpr.result = 3 ∧ t.rpr.maps = s.rpr.maps ∧ t.array = s.array ∧ t.nvm = s.nvm ∧ t.link = s.link) ∧
    (s.writeOpen a 0x9008 (putBits v 31 28 2) → s.cmdFenced ch = true → (s.rmap ch).rowsIn bank < 4 →
      (s.rmap ch).hard.length < 128 →
      ∃ t o, exec (.hardRow a v) s = .next t ∧ t.rpr.op = some o ∧ o.op = 2 ∧ o.stage = .recording ∧
        (t.rmap ch).hard = (s.rmap ch).hard ++ [(bank, row, true)] ∧ (t.rmap ch).soft = (s.rmap ch).soft ∧
        t.nvm.jobs.map (fun j => j.why) = s.nvm.jobs.map (fun j => j.why) ++ [.repairMap ch] ∧ t.nvm.mem = s.nvm.mem ∧
        s.changesOnly t [.rpr, .nvm, .regs, .pair]) ∧
    (s.writeOpen a 0x9008 (putBits v 31 28 3) → dq ≤ 35 → (s.rmap ch).column.length < 64 →
      (∀ e ∈ (s.rmap ch).column, e.2 ≠ (bank, col)) →
      ∃ t o, exec (.colAdd a v) s = .next t ∧ t.rpr.op = some o ∧ o.op = 3 ∧ o.stage = .recording ∧
        (t.rmap ch).column = (s.rmap ch).column ++ [(dq, bank, col)] ∧
        t.nvm.jobs.map (fun j => j.why) = s.nvm.jobs.map (fun j => j.why) ++ [.repairMap ch] ∧ t.nvm.mem = s.nvm.mem ∧
        s.changesOnly t [.rpr, .nvm, .regs, .pair]) ∧
    (s.writeOpen a 0x9008 (putBits v 31 28 4) → (dq, bank, col) ∈ (s.rmap ch).column →
      ∃ t o, exec (.colRemove a v) s = .next t ∧ t.rpr.op = some o ∧ o.op = 4 ∧ o.stage = .recording ∧
        (t.rmap ch).column = (s.rmap ch).column.filter (fun e => !(e.2.1 == bank && e.2.2 == col)) ∧
        t.nvm.jobs.map (fun j => j.why) = s.nvm.jobs.map (fun j => j.why) ++ [.repairMap ch] ∧ t.nvm.mem = s.nvm.mem ∧
        s.changesOnly t [.rpr, .nvm, .regs, .pair])

/-- A row repair in its stages: SPPR is due once the refresh condition holds, and after tSPPR the writing back of the row; the
comparison records it or tries the next spare row once; past REPAIR_WAIT it fails with its row as it was; HPPR confirms its entry;
a record that stands ends the repair, one that failed in MRAM fails it. -/
def Obligations.RepairsGoOnAndEnd : Prop :=
  ∀ (s : State) (o : RepairOp) (words : List (Nat × BitVec 64)), s.running = true → s.rpr.op = some o → o.ch < 32 →
    (o.stage = .waiting → s.spprMay o = true →
      ∃ t, exec .spprReady s = .next t ∧ t.rpr.op = some { o with stage := .issuing } ∧
        t.rpr.maps = s.rpr.maps ∧ t.array = s.array ∧ t.nvm = s.nvm ∧ t.link = s.link ∧ t.trx = s.trx) ∧
    (o.stage = .waiting → o.second = false → o.since + s.rf RF.RPR_REPAIR_WAIT ≤ s.now →
      ∃ t, exec .repairWaitExpiry s = .next t ∧ t.rpr.op = none ∧ t.rpr.result = 2 ∧ t.rpr.reason = 4 ∧
        t.rpr.maps = s.rpr.maps ∧ t.array = s.array ∧ t.nvm = s.nvm ∧ t.link = s.link ∧ t.chans = s.chans) ∧
    (o.stage = .sppr →
      ∃ t, exec .tspprExpiry s = .next t ∧ t.rpr.op = some { o with stage := .restoring } ∧
        t.rpr.maps = s.rpr.maps ∧ t.array = s.array ∧ t.nvm = s.nvm ∧ t.link = s.link ∧ t.trx = s.trx) ∧
    (o.stage = .comparing →
      (s.pins.nvmRdy = true →
        ∃ t, exec (.rowRestoreDone true) s = .next t ∧
          t.rpr.op = some { o with stage := .recording, bad := false } ∧
          (t.rmap o.ch).soft = (s.rmap o.ch).soft ++ [(o.bank, o.row)] ∧ t.nvm.mem = s.nvm.mem ∧
          s.changesOnly t [.rpr, .nvm, .regs, .pair]) ∧
      (o.second = false →
        ∃ t, exec (.rowRestoreDone false) s = .next t ∧
          t.rpr.op = some { o with stage := .waiting, second := true, since := s.now } ∧ s.changesOnly t [.rpr])) ∧
    (o.stage = .hppr → o.since + 400000 ≤ s.now → s.pins.nvmRdy = true →
      ∃ t, exec .hpprCountExpiry s = .next t ∧ t.rpr.op = some { o with stage := .hardDone } ∧
        (∀ e ∈ (t.rmap o.ch).hard, e.1 = o.bank → e.2.1 = o.row → e.2.2 = false) ∧
        (∀ e ∈ (t.rmap o.ch).soft, e ≠ (o.bank, o.row)) ∧ t.nvm.mem = s.nvm.mem ∧
        s.changesOnly t [.rpr, .nvm, .regs, .pair]) ∧
    (o.op = 1 → o.stage = .recording → o.bad = false → s.nvm.jobs = [⟨.repairMap o.ch, true, words⟩] → s.pair.role ≠ .paired →
      (∃ t, exec (.repairRecordWritten true) s = .next t ∧ t.rpr.op = none ∧ t.rpr.result = 1 ∧ t.rpr.reason = 0 ∧
        t.nvm.jobs = [] ∧ t.nvm.mem = words.foldl (fun m w => memWriteWord m w.1 w.2) s.nvm.mem ∧
        t.rpr.maps = s.rpr.maps ∧ t.array = s.array ∧ t.link = s.link) ∧
      (∃ t, exec (.repairRecordWritten false) s = .next t ∧ t.rpr.op = none ∧ t.rpr.result = 2 ∧ t.rpr.reason = 7 ∧
        t.nvm.jobs = [] ∧ t.nvm.mem = s.nvm.mem ∧ t.array = s.array ∧ t.link = s.link))

/-- The built-in test runs on a channel fenced by command, is abandoned with ABORT, and leaves raw data over its scope. Loopbacks:
one starts in the mode of RPR_LCTL on a course that may be looped, and OFF ends it. -/
def Obligations.BuiltInTestAndLoopbacks : Prop :=
  (∀ (s : State) (a : Access) (v : Word) (b : Bist) (res : BistResult), a.course < 12 →
     (s.writeOpen a 0x9020 (putBits v 31 28 1) → s.rpr.bist = none → s.cmdFenced (fieldNat v 21 17) = true →
       fieldNat v 27 24 ≤ 1 → fieldNat v 23 22 ≤ 2 → fieldNat v 10 8 ≤ 4 →
       ∃ t, exec (.bistStart a v) s = .next t ∧
         t.rpr.bist = some ⟨fieldNat v 21 17, fieldNat v 27 24, fieldNat v 23 22, fieldNat v 16 11, fieldNat v 10 8, false, 0,
           ⟨0, 0, 0, 0, 0⟩⟩ ∧
         t.rpr.bstate = 1 ∧ t.array = s.array ∧ t.nvm = s.nvm ∧ t.link = s.link) ∧
     (s.writeOpen a 0x9020 (BitVec.ofNat 32 (2 * 2 ^ 28)) → s.rpr.bist = some b →
       ∃ t, exec (.bistAbort a) s = .next t ∧ t.rpr.bist = some { b with abort := true } ∧ s.changesOnly t [.rpr, .regs]) ∧
     (s.running = true → s.rpr.bist = some b → b.abort = false → res.wellFormed = true →
       ∃ t, exec (.bistEnd res) s = .next t ∧ t.rpr.bist = none ∧
         t.rpr.bres = { joinResults b.res res with failBursts := min (joinResults b.res res).failBursts (2 ^ 24 - 1) } ∧
         t.rpr.bstate = (if (joinResults b.res res).failBursts = 0 then 2 else 3) ∧ t.sticky RF.RPR_BIST_END 0 = 1 ∧
         (∀ k, k / 524288 / 64 = b.ch → b.banks.contains (k / 524288 % 64) = true → t.array.get k = s.array.dflt) ∧
         (∀ k, k / 524288 / 64 ≠ b.ch → t.array.get k = s.array.get k) ∧ t.nvm = s.nvm ∧ t.link = s.link)) ∧
  (∀ (s : State) (a : Access) (v : Word) (x : Loop), a.course < 12 →
     (fieldNat v 27 24 < 12 → s.loopable (fieldNat v 27 24) = true → s.rpr.loop = none →
       (s.writeOpen a 0x9040 (putBits v 31 30 1) →
         ∃ t y, exec (.loopNesl a v) s = .next t ∧ t.rpr.loop = some y ∧ y.mode = 1 ∧ y.course = fieldNat v 27 24 ∧
           y.lanes = fieldNat v 16 0 ∧ t.link.courses = s.link.courses ∧ s.changesOnly t [.rpr, .link, .regs, .free]) ∧
       (s.writeOpen a 0x9040 (putBits v 31 30 2) →
         ∃ t y, exec (.loopNepl a v) s = .next t ∧ t.rpr.loop = some y ∧ y.mode = 2 ∧ y.course = fieldNat v 27 24 ∧
           y.lanes = fieldNat v 16 0 ∧
           (∀ l, l < 17 → (fieldNat v 16 0).testBit l = true → (t.lane (fieldNat v 27 24) l).txv = false) ∧
           t.link.courses = s.link.courses ∧ s.changesOnly t [.rpr, .link, .regs, .free]) ∧
       (s.writeOpen a 0x9040 (putBits v 31 30 3) →
         ∃ t y, exec (.loopFar a v) s = .next t ∧ t.rpr.loop = some y ∧ y.mode = 3 ∧ y.course = fieldNat v 27 24 ∧
           y.lanes = fieldNat v 16 0 ∧ t.link.courses = s.link.courses ∧ s.changesOnly t [.rpr, .link, .regs, .free])) ∧
     (s.writeOpen a 0x9040 0#32 → s.rpr.loop = some x →
       ∃ t, exec (.loopOff a) s = .next t ∧ t.rpr.loop = none ∧
         ((s.course x.course).tx ≠ .down → t.link.courses = s.link.courses) ∧
         ((s.course x.course).tx = .down → t.course x.course = { s.course x.course with tx := .fenced, fenceWhy := some .command }) ∧
         t.nvm = s.nvm ∧ t.array = s.array ∧ t.trx = s.trx))

/-- The wrapper's instructions: bypass and identification load themselves alone; the boundary and internal tests stop every agent,
the internal test until SEC_LOCK is set; CM_REG makes one access, CM_SRAM tests the SRAMs where start-up has stopped. -/
def Obligations.WrapperInstructions : Prop :=
  ∀ (s : State) (d : Word) (m : BitVec 24) (data : BitVec 56) (p : Page) (at0 n x i : Nat) (peek : Bool) (f : Field) (cells : BitVec 2505),
    s.pins.pwrGood = true →
    exec (.wsBypass true) s = .next { s with rpr := { s.rpr with ir := 0, wby := false }, pins := { s.pins with wrstN := true } } ∧
    (∃ t, exec (.wsBypass false) s = .next t ∧ t.pins = { s.pins with wrstN := false } ∧ t.rpr.ir = 0 ∧ t.rpr.wsStop = s.rpr.wsStop ∧
      s.changesOnly t [.rpr, .pins]) ∧
    (s.pins.wrstN = false → exec .cmId s = .next s ∧ exec (.wsExtest cells) s = .next s ∧ exec (.wsIntest cells) s = .next s ∧
      exec (.cmReg data) s = .next s ∧ exec (.cmSram d m) s = .next s) ∧
    (s.pins.wrstN = true → exec .cmId s = .next { s with rpr := { s.rpr with ir := 18, cmId := 0x0c3200b1#32 } } ∧
      exec (.wsExtest cells) s = .next { s with rpr := { s.rpr with ir := 1, wsStop := true, boundary := cells } } ∧
      exec (.wsIntest cells) s = .next { s with rpr :=
        if s.sec.lock = true then { s.rpr with ir := 0 } else { s.rpr with ir := 2, wsStop := true, boundary := cells } }) ∧
    (s.pins.wrstN = true → s.sec.lock = false → s.boot.stage = .recovery ∨ s.boot.stage = .halted →
      exec (.cmSram d m) s =
        .next { s with rpr := { s.rpr with ir := 17, cmSram := (m &&& d.setWidth 24).setWidth 32 } }) ∧
    (s.pins.wrstN = true → s.sec.lock = false → s.boot.stage ≠ .recovery → s.boot.stage ≠ .halted →
      exec (.cmSram d m) s = .next { s with rpr := { s.rpr with ir := 17, cmSram := 0x80000000#32 } }) ∧
    (s.running = true → s.pins.wrstN = true → s.rpr.cmBusy = false → s.sec.lock = false → s.pathWaits (pathNum .wrapper) = false →
      s.domOn (s.wordDomain (pathNum .wrapper) (4 * fieldNat data 54 36)) = true →
      (s.dom (s.wordDomain (pathNum .wrapper) (4 * fieldNat data 54 36))).delay = none →
      (bitAt data 55 = false → regKind (4 * fieldNat data 54 36) = .counter p at0 false peek →
        ∃ t, exec (.cmReg data) s = .next t ∧ t.rpr.cmBusy = false ∧ t.rpr.ir = 16 ∧
          t.rpr.cmResult.extractLsb' 0 32 = (s.counter at0).setWidth 32 ∧ t.rpr.cmResult.extractLsb' 32 4 = 0#4 ∧
          t.rpr.cmResult.extractLsb' 36 20 = data.extractLsb' 36 20 ∧ s.changesOnly t [.rpr, .regs]) ∧
      (bitAt data 55 = true → regKind (4 * fieldNat data 54 36) = .reg p n x false → fieldsOfWord p x = [(f, i)] → f.acc = .rwb →
        s.wordDomain (pathNum .wrapper) (4 * fieldNat data 54 36) ≠ 0 → s.busy (busyKey (4 * fieldNat data 54 36)) = false →
        ∃ t, exec (.cmReg data) s = .next t ∧ t.rpr.cmBusy = false ∧ t.rsn f n i = f.of (data.setWidth 32) ∧
          t.rpr.cmResult.extractLsb' 32 4 = 0#4 ∧ s.changesOnly t [.rpr, .regs]))

/-! ### Update -/

/-- The staging of an image, with the luthier idle, D7 on, NVM_RDY high and no restart decided. OPEN begins a staging, unless the
state is VERIFYING (STATE), the slot on probation would be lost (PROBATION) or the length is outside its range (RANGE). A BLOCK whose
CRC agrees and whose index lies inside the image sets its bit, and the last one makes the image STAGED; it is refused with STATE, CRC
or RANGE, in that order. VERIFY makes a STAGED or FAILED image VERIFYING; the end of the checks gives their result and component, and
makes the image VERIFIED or FAILED. ABORT empties the staging. READ_BITMAP is answered with the bitmap. A refused command changes
nothing but LAST_CODE and RESULT, or, for a bad CRC, also the count of bad blocks. -/
def Obligations.ImagesAreStaged : Prop :=
  (∀ (s : State) (len : Nat), s.serviceOpen → s.upd.stage0.st ≠ 3 → s.onProbation = false → 4096 ≤ len → len ≤ 3141632 →
     ∃ t, exec (.svcOpen len) s = .next t ∧
       t.upd.stage0 = ⟨(s.upd.stage0.seq + 1) % 2 ^ 32, 1, len, 0#768, 0#384⟩ ∧ t.upd.busy = true ∧ t.upd.lastCode = 1 ∧
       t.upd.result = 0 ∧ t.nvm.mem = s.nvm.mem ∧ t.array = s.array ∧ t.link = s.link ∧ t.trx = s.trx) ∧
  (∀ (s : State) (len : Nat), s.serviceOpen → len < 2 ^ 32 →
     (s.upd.stage0.st = 3 → exec (.svcOpen len) s = .next { s with upd := { s.upd with lastCode := 1, result := svState } }) ∧
     (s.upd.stage0.st ≠ 3 → s.onProbation = true → s.recovery = false →
       exec (.svcOpen len) s = .next { s with upd := { s.upd with lastCode := 1, result := svProbation } }) ∧
     (s.upd.stage0.st ≠ 3 → s.onProbation = false → len < 4096 ∨ 3141632 < len →
       exec (.svcOpen len) s = .next { s with upd := { s.upd with lastCode := 1, result := svRange } })) ∧
  (∀ (s : State) (n : Nat) (data : List Byte) (crc : Word), s.serviceOpen → n < 65536 → data.length = 4096 →
     (s.upd.stage0.st = 1 → n < blocksOf s.upd.stage0.length → crc = crc32c (leBytes 2 n ++ data) →
       ∃ t, exec (.svcBlock n data crc) s = .next t ∧
         t.upd.stage0.bitmap = s.upd.stage0.bitmap ||| (1#768 <<< n) ∧ t.upd.stage0.length = s.upd.stage0.length ∧
         t.upd.stage0.st =
           (if popCount (s.upd.stage0.bitmap ||| (1#768 <<< n)) 768 = blocksOf s.upd.stage0.length then 2 else 1) ∧
         t.upd.busy = true ∧ t.upd.lastCode = 2 ∧ t.upd.result = 0 ∧ t.nvm.mem = s.nvm.mem ∧ s.changesOnly t [.upd, .nvm]) ∧
     (s.upd.stage0.st = 1 → crc ≠ crc32c (leBytes 2 n ++ data) →
       ∃ t, exec (.svcBlock n data crc) s = .next t ∧ t.upd = { s.upd with lastCode := 2, result := svCrc } ∧
         (s.regs.snapBusy = false → t.counter 0x4108 = s.counter 0x4108 + 1#64) ∧ s.changesOnly t [.upd, .regs]) ∧
     (s.upd.stage0.st = 1 → crc = crc32c (leBytes 2 n ++ data) → blocksOf s.upd.stage0.length ≤ n →
       exec (.svcBlock n data crc) s = .next { s with upd := { s.upd with lastCode := 2, result := svRange } }) ∧
     (s.upd.stage0.st ≠ 1 →
       exec (.svcBlock n data crc) s = .next { s with upd := { s.upd with lastCode := 2, result := svState } })) ∧
  (∀ s : State, s.serviceOpen →
     (s.upd.stage0.st = 2 ∨ s.upd.stage0.st = 6 →
       exec .svcVerify s = .next { s with upd :=
         { s.upd with lastCode := 3, result := 0, stage0 := { s.upd.stage0 with st := 3 } } }) ∧
     (s.upd.stage0.st ≠ 2 → s.upd.stage0.st ≠ 6 →
       exec .svcVerify s = .next { s with upd := { s.upd with lastCode := 3, result := svState } })) ∧
  (∀ (s : State) (ok : Bool), s.serviceOpen → s.upd.stage0.st = 3 →
     ∃ t, exec (.verifyDone ok) s = .next t ∧ t.upd.busy = true ∧ t.upd.result = (s.verifyResult ok).1 ∧
       t.upd.component = (s.verifyResult ok).2 ∧
       ((s.manifest s.targetSlot).layoutOk s.upd.stage0.length = false → t.upd.result = svFormat) ∧
       (t.upd.result = 0 → t.upd.stage0.st = 4 ∧ t.upd.stage0.digest = (s.manifest s.targetSlot).digest) ∧
       (t.upd.result ≠ 0 → t.upd.stage0.st = 6 ∧ t.upd.stage0.digest = s.upd.stage0.digest) ∧
       t.nvm.mem = s.nvm.mem ∧ t.array = s.array ∧ t.link = s.link ∧ t.trx = s.trx) ∧
  (∀ s : State, s.serviceOpen →
     (s.upd.stage0.st ≠ 3 →
       ∃ t, exec .svcAbort s = .next t ∧ t.upd.stage0 = { s.upd.stage0 with st := 0, seq := (s.upd.stage0.seq + 1) % 2 ^ 32 } ∧
         t.upd.busy = true ∧ t.upd.lastCode = 5 ∧ t.upd.result = 0 ∧ t.nvm.mem = s.nvm.mem ∧ s.changesOnly t [.upd, .nvm]) ∧
     (s.upd.stage0.st = 3 → exec .svcAbort s = .next { s with upd := { s.upd with lastCode := 5, result := svState } })) ∧
  ∀ s : State, s.serviceOpen →
    exec .svcReadBitmap s = .next { s with upd := { s.upd with lastCode := 8, result := 0, readMap := true } }

/-- Activation, restart and confirmation: ACTIVATE of the verified image prepares the restart, which the follower takes at its
partner's identity; RESTART and the end of the probation window decide one, which begins start-up anew; a confirmation with the
right digest ends the probation. -/
def Obligations.UpdatesActivateAndConfirm : Prop :=
  ∀ (s : State) (a : Access) (digest : List Byte) (env : BootEnv) (t0 : Nat),
    (s.serviceOpen → s.upd.stage0.st = 4 → digest.length = 48 → digestOf digest = s.upd.stage0.digest →
      s.pins.instId = false ∨ s.recovery = true →
      ∃ t, exec (.svcActivate digest) s = .next t ∧ t.upd.activate = some 0 ∧ t.upd.busy = true ∧ t.upd.result = 0 ∧
        t.nvm.jobs.map (fun j => j.why) = s.nvm.jobs.map (fun j => j.why) ++ [.restart] ∧ t.nvm.mem = s.nvm.mem ∧
        s.changesOnly t [.upd, .nvm]) ∧
    (s.running = true → s.upd.stage0.st = 5 → s.ready = true → s.pair.peerDigest = some s.upd.stage0.digest →
      s.upd.busy = false → s.pins.nvmRdy = true →
      ∃ t, exec .followActivate s = .next t ∧ t.upd.activate = some 1 ∧ t.upd.busy = true ∧
        t.nvm.jobs.map (fun j => j.why) = s.nvm.jobs.map (fun j => j.why) ++ [.restart] ∧ t.nvm.mem = s.nvm.mem ∧
        s.changesOnly t [.upd, .nvm]) ∧
    (s.serviceOpen → s.upd.stage0.st ≠ 3 → s.trx.reqs = [] →
      ∃ t, exec .svcRestart s = .next t ∧ t.upd.restartAt = some (s.now + 2) ∧ t.upd.cause = 1 ∧ t.upd.result = 0 ∧
        t.nvm = s.nvm ∧ t.array = s.array ∧ t.link = s.link) ∧
    (s.running = true → s.upd.probFrom = some t0 → s.onProbation = true → s.upd.probEnd = false →
      t0 + 2000000 * s.rf RF.UPD_PROB_WINDOW ≤ s.now → s.upd.restartAt = none → s.trx.reqs = [] →
      ∃ t, exec .probationExpiry s = .next t ∧ t.upd.probEnd = true ∧ t.upd.restartAt = some (s.now + 2) ∧ t.upd.cause = 2 ∧
        t.nvm = s.nvm ∧ t.array = s.array ∧ t.link = s.link) ∧
    (s.running = true → env.wellFormed = true → s.upd.restartAt = some t0 → t0 ≤ s.now → s.pins.nvmRdy = false →
      env.romOk = true → env.fuseOk = true → env.entropyOk = true → env.deadDomain = [] →
      ∃ t, exec (.updateRestartProceed env) s = .next t ∧ t.boot.stage = .rom ∧ t.boot.waiting = true ∧
        t.upd.restartAt = none ∧ t.time = s.time ∧ t.nvm.mem = s.nvm.mem ∧ t.pair = PairSt.init) ∧
    (s.upd.probEnd = false → s.onProbation = true → s.pairAgrees 0 = true →
      (s.serviceOpen → s.recovery = false → digest.length = 48 → digestOf digest = s.boot.digest →
        ∃ t, exec (.svcConfirm digest) s = .next t ∧ t.boot.brec.pending = false ∧ t.boot.brec.unconfirmed = 0 ∧
          t.upd.result = 0 ∧ t.sticky RF.UPD_CONFIRMED_EVT 0 = 1 ∧
          t.nvm.jobs.map (fun j => j.why) = s.nvm.jobs.map (fun j => j.why) ++ [.bootRecord] ∧ t.nvm.mem = s.nvm.mem) ∧
      (a.course < 12 → s.writeOpen a 0x4018 (s.boot.digest.setWidth 32) → s.upd.restartAt = none →
        ∃ t, exec (.updConfirm a (s.boot.digest.setWidth 32)) s = .next t ∧ t.boot.brec.pending = false ∧
          t.boot.brec.unconfirmed = 0 ∧ t.sticky RF.UPD_CONFIRMED_EVT 0 = 1 ∧ t.nvm.mem = s.nvm.mem)) ∧
    (s.running = true → s.upd.testing = true → s.rfb RF.UPD_AUTO_CONFIRM = false →
      exec .selftestPass s = .next { s with upd := { s.upd with testing := false, selfPass := true } })

/-! ### Rules stated whole -/

/-- R130: the check word of a byte string is the remainder of the Castagnoli division: its bits, reflected at input and output,
with the register preset to ones and inverted at the end, are congruent to 0 modulo 0x1_1edc_6f41; and the check value is as
stated. -/
def Obligations.CrcIsTheCastagnoliRemainder : Prop :=
  (∀ l : List Byte, ∃ q : Nat, clMul q 0x11edc6f41 =
    (bitsOfMessage l * 2 ^ 32) ^^^ (0xffffffff * 2 ^ (8 * l.length)) ^^^ bitsReversed 32 (crc32c l ^^^ 0xffffffff#32).toNat) ∧
  crc32c [0x31#8, 0x32#8, 0x33#8, 0x34#8, 0x35#8, 0x36#8, 0x37#8, 0x38#8, 0x39#8] = 0xe3069283#32

/-- R164: WACK has in bits 63:0 the layout of RDATA's header, with SHORT, LAST and STATUS zero; bit 20 tells a management tag in
bits 13:8, and bits 127:64 are zero. -/
def Obligations.WackHasTheLayoutOfRdata : Prop :=
  (∀ (tag ch drained wseq : Nat) (wv : Bool),
    wackCell tag ch drained wv wseq = rdataHdr tag 0 0 ch drained false wv wseq - 0x30#128 + 0x31#128 ∧
      bitAt (wackCell tag ch drained wv wseq) 20 = false ∧ bitAt (wackCell tag ch drained wv wseq) 22 = false ∧
      bitAt (wackCell tag ch drained wv wseq) 31 = false ∧ fieldNat (wackCell tag ch drained wv wseq) 7 6 = 0 ∧
      fieldNat (wackCell tag ch drained wv wseq) 127 64 = 0) ∧
  ∀ mtag : Nat, bitAt (wackMt mtag) 20 = true ∧ fieldNat (wackMt mtag) 13 8 = mtag % 64 ∧ fieldNat (wackMt mtag) 5 0 = 0x31 ∧
    fieldNat (wackMt mtag) 31 21 = 0 ∧ fieldNat (wackMt mtag) 7 6 = 0 ∧ fieldNat (wackMt mtag) 127 64 = 0

/-- R338: a read of an RC field by a master below its write level returns the field's value and clears nothing, by the SMP, by the
link and by the wrapper. -/
def Obligations.ReadsBelowTheWriteLevelClearNothing : Prop :=
  ∀ (s : State) (a : Access) (off n x i : Nat) (p : Page) (f : Field) (data : BitVec 56) (c k : Nat) (h : Cell), s.running = true →
    regKind (4 * off) = .reg p n x false → (f, i) ∈ fieldsOfWord p x → f.acc = .rc →
    (a.course < 12 → a.path ≠ .wrapper → off < 524288 → s.closedTo a.path (4 * off) = false → s.pathWaits (pathNum a.path) = false →
      s.domOn (s.wordDomain (pathNum a.path) (4 * off)) = true → (s.dom (s.wordDomain (pathNum a.path) (4 * off))).delay = none →
      s.readLevel f ≤ s.accessLevel a → s.accessLevel a < s.writeLevel f →
      ∃ t v, exec (.rcRead a off) s = .next t ∧ t.regs.smpValue = some v ∧ f.of v = s.sticky f n ∧
        t.sticky f n = s.sticky f n ∧ s.changesOnly t [.regs, .pins]) ∧
    (s.reqArrives c k h → s.routerOpen (hRqid h) → s.pathWaits 0 = false → hOp h = 0x10 → hOffset h = off →
      s.domOn (s.wordDomain 0 (4 * off)) = true → s.readLevel f ≤ s.accessLevel ⟨.link, c, hPriv h, hSecure h⟩ →
      s.accessLevel ⟨.link, c, hPriv h, hSecure h⟩ < s.writeLevel f →
      ∃ t v, exec (.cfgrd c k h) s = .next t ∧ f.of (BitVec.ofNat 32 v) = s.sticky f n ∧
        t.link.upQ = s.link.upQ ++ [⟨[rdataShort (hTag h) v], .tag false (hTag h), none, false⟩] ∧ t.sticky f n = s.sticky f n) ∧
    (s.pins.wrstN = true → s.rpr.cmBusy = false → s.pathWaits (pathNum .wrapper) = false → fieldNat data 54 36 = off →
      bitAt data 55 = false →
      s.domOn (s.wordDomain (pathNum .wrapper) (4 * off)) = true →
      (s.dom (s.wordDomain (pathNum .wrapper) (4 * off))).delay = none →
        s.readLevel f ≤ s.accessLevel ⟨.wrapper, 0, false, false⟩ → s.accessLevel ⟨.wrapper, 0, false, false⟩ < s.writeLevel f →
      ∃ t, exec (.cmReg data) s = .next t ∧ f.of (t.rpr.cmResult.setWidth 32) = s.sticky f n ∧ t.sticky f n = s.sticky f n ∧
        s.changesOnly t [.rpr, .regs])

/-- While LN_RXV is low nothing that comes on the lane has an effect (a near-end parallel loopback takes nothing from LN_RXD); and
each rise of LN_RXV is a loss of the lane's block lock: the lane is not locked, its count of good headers starts again, and LOCK_LOSS
counts it (R25; that it counts beside the exit at the fall is the model's reading, log 104). -/
def Obligations.LaneDataNeedsItsWordValid : Prop :=
  ∀ (s : State) (c l at0 : Nat) (hdr : BitVec 2) (p : BitVec 64), s.running = true → c < 12 → l < 17 → (s.lane c l).rxv = false →
    (s.rpr.loop = none ∨ s.rpr.loop.map (fun x => x.mode) = some 3 → exec (.laneBlockRx c l hdr p) s = .next s) ∧
      exec (.marker c l p at0) s = .next s ∧
      ∃ t, exec (.lnRxvRise c l) s = .next t ∧ (t.lane c l).rxv = true ∧
        (t.lane c l).st = (if (s.lane c l).st = .failed then .failed else .hunt) ∧ (t.lane c l).count = 0 ∧
        (t.lane c l).window = [] ∧
        (s.regs.snapBusy = false → t.counter (crsAt c 0x140) = s.counter (crsAt c 0x140) + 1#64) ∧ s.changesOnly t [.link, .regs]

/-- R379: when the checker fails, the primary continues, CHECKER_FAIL is set and an event of severity 1 is recorded; where both
drones have failed, whichever failed last, the fault of severity 4 is raised. -/
def Obligations.CheckerFailureIsRecorded : Prop :=
  ∀ s : State, s.running = true →
    (s.pwr.checkerBad = false →
      ∃ t, exec .droneCheckerFail s = .next t ∧ t.pwr.onChecker = s.pwr.onChecker ∧ t.pwr.checkerBad = true ∧
        t.sticky RF.PWR_CHECKER_FAIL 0 = 1 ∧ (s.flt.fatal = false → t.flt.fatal = s.pwr.onChecker) ∧
        (s.domOn 5 = true → s.pwr.onChecker = false →
          ∃ r, t.newest = some r ∧ r.source = 0x01 ∧ r.code = 0x0505 ∧ r.sev = 1 ∧ r.held = false) ∧
        (s.domOn 5 = false → s.pwr.onChecker = false → s.evt.hold.length < 16 →
          ∃ r, t.evt.hold = s.evt.hold ++ [r] ∧ r.source = 0x01 ∧ r.code = 0x0505 ∧ r.sev = 1 ∧ r.held = true)) ∧
    (s.pwr.checkerBad = true → s.pwr.onChecker = false → ∃ t, exec .dronePrimaryFail s = .next t ∧ t.flt.fatal = true)
end

