-- ==== Sys2Proof/Laws/Tbl.lean ====
section
/-! SUPPORT. Sparse tables: what is read after a write, for every list of entries. -/

namespace Sys2Proof.Machine

variable {α β : Type}

theorem lookupEnt_insertEnt (i j : Nat) (a : α) (l : List (Nat × α)) :
    lookupEnt j (insertEnt i a l) = if i = j then some a else lookupEnt j l := by
  induction l with
  | nil => simp [insertEnt, lookupEnt]
  | cons e l ih =>
    obtain ⟨k, b⟩ := e
    simp only [insertEnt]
    split_ifs
    all_goals simp_all [lookupEnt]
    all_goals omega

@[simp] theorem Tbl.get_const (d : α) (i : Nat) : (Tbl.const d).get i = d := rfl

@[simp] theorem Tbl.dflt_const (d : α) : (Tbl.const d).dflt = d := rfl

theorem Tbl.get_set (t : Tbl α) (i j : Nat) (a : α) : (t.set i a).get j = if i = j then a else t.get j := by
  simp only [Tbl.get, Tbl.set, lookupEnt_insertEnt]
  split_ifs <;> rfl

@[simp] theorem Tbl.get_set_self (t : Tbl α) (i : Nat) (a : α) : (t.set i a).get i = a := by simp [Tbl.get_set]

theorem Tbl.get_set_ne (t : Tbl α) {i j : Nat} (a : α) (h : j ≠ i) : (t.set i a).get j = t.get j := by
  simp [Tbl.get_set, Ne.symm h]

@[simp] theorem Tbl.dflt_set (t : Tbl α) (i : Nat) (a : α) : (t.set i a).dflt = t.dflt := rfl

theorem Tbl.get_upd (t : Tbl α) (i j : Nat) (f : α → α) : (t.upd i f).get j = if i = j then f (t.get i) else t.get j :=
  Tbl.get_set t i j _

@[simp] theorem Tbl.get_upd_self (t : Tbl α) (i : Nat) (f : α → α) : (t.upd i f).get i = f (t.get i) := by
  simp [Tbl.get_upd]

theorem Tbl.get_upd_ne (t : Tbl α) {i j : Nat} (f : α → α) (h : j ≠ i) : (t.upd i f).get j = t.get j := by
  simp [Tbl.get_upd, Ne.symm h]

@[simp] theorem Tbl.dflt_upd (t : Tbl α) (i : Nat) (f : α → α) : (t.upd i f).dflt = t.dflt := rfl

theorem lookupEnt_map (i : Nat) (f : α → β) (l : List (Nat × α)) :
    lookupEnt i (l.map (fun e => (e.1, f e.2))) = (lookupEnt i l).map f := by
  induction l with
  | nil => rfl
  | cons e l ih => obtain ⟨k, b⟩ := e; simp only [List.map_cons, lookupEnt]; split_ifs <;> simp_all

@[simp] theorem Tbl.get_mapAll (t : Tbl α) (f : α → β) (i : Nat) : (t.mapAll f).get i = f (t.get i) := by
  simp only [Tbl.get, Tbl.mapAll, lookupEnt_map]
  cases lookupEnt i t.ents <;> rfl

theorem lookupEnt_filter (i : Nat) (p : Nat → Bool) (l : List (Nat × α)) :
    lookupEnt i (l.filter (fun e => p e.1)) = if p i = true then lookupEnt i l else none := by
  induction l with
  | nil => simp [lookupEnt]
  | cons e l ih =>
    obtain ⟨k, b⟩ := e
    by_cases hk : k = i
    · subst hk; by_cases hp : p k = true <;> simp_all [lookupEnt]
    · by_cases hp : p k = true <;> simp_all [lookupEnt]

/-- Entries kept or dropped by their index. -/
theorem Tbl.get_filter (d : α) (l : List (Nat × α)) (p : Nat → Bool) (i : Nat) :
    (Tbl.mk d (l.filter (fun e => p e.1))).get i = if p i = true then (Tbl.mk d l).get i else d := by
  simp only [Tbl.get, lookupEnt_filter]
  split_ifs <;> rfl

theorem Tbl.get_erase (t : Tbl α) (i j : Nat) : (t.erase i).get j = if j = i then t.dflt else t.get j := by
  have h := Tbl.get_filter t.dflt t.ents (fun k => k != i) j
  simp only [Tbl.erase]
  rw [h]
  by_cases hj : j = i <;> simp [hj, Tbl.get]

theorem lookupEnt_of_mem (l : List (Nat × α)) (i : Nat) (h : i ∉ l.map Prod.fst) : lookupEnt i l = none := by
  induction l with
  | nil => rfl
  | cons e l ih => obtain ⟨k, b⟩ := e; simp_all [lookupEnt, eq_comm]

/-- A fold of updates at distinct indices changes each of them once and nothing else. -/
theorem Tbl.get_foldl_upd (l : List Nat) (f : Nat → α → α) (t : Tbl α) (hl : l.Nodup) (j : Nat) :
    (l.foldl (fun u i => u.upd i (f i)) t).get j = if j ∈ l then f j (t.get j) else t.get j := by
  induction l generalizing t with
  | nil => simp
  | cons i l ih =>
    simp only [List.foldl_cons, List.nodup_cons] at *
    rw [ih _ hl.2]
    by_cases hji : j = i
    · subst hji; simp [hl.1]
    · simp [hji, Tbl.get_upd_ne _ _ hji]

end Sys2Proof.Machine
end

