-- ==== Sys2Proof/Laws/Frame.lean ====
section
/-! SUPPORT. How frames compose: what `changesOnly` says of one update, of two in a row, and of the combinators. -/

namespace Sys2Proof.Machine

theorem State.changesOnly.refl (s : State) (l : List Part) : s.changesOnly s l := fun p _ => by cases p <;> rfl

theorem Part.same_trans {p : Part} {s t u : State} (h : p.same s t) (k : p.same t u) : p.same s u := by
  cases p <;> exact Eq.trans k h

/-- Two updates in a row change no more than a list that covers both. -/
theorem State.changesOnly.after {s t u : State} {l m : List Part} (h : s.changesOnly t l) (k : t.changesOnly u m)
    (hm : m ⊆ l) : s.changesOnly u l := fun p hp => Part.same_trans (h p hp) (k p fun hq => hp (hm hq))

theorem State.changesOnly.mono {s t : State} {l m : List Part} (k : s.changesOnly t m) (hm : m ⊆ l) : s.changesOnly t l :=
  (State.changesOnly.refl s l).after k hm

theorem changesOnly_forAll {α : Type} {s t : State} {l : List Part} (h : s.changesOnly t l) (xs : List α)
    (f : α → State → State) (hf : ∀ a t, State.changesOnly t (f a t) l) : s.changesOnly (forAll xs f t) l := by
  unfold forAll
  induction xs generalizing t with
  | nil => exact h
  | cons a xs ih => exact ih (h.after (hf a t) (List.Subset.refl l))

theorem changesOnly_when {s t : State} {l : List Part} (h : s.changesOnly t l) (c : Bool) (f : State → State)
    (hf : ∀ t, State.changesOnly t (f t) l) : s.changesOnly (when c f t) l := by
  cases c with
  | false => exact h
  | true => exact h.after (hf t) (List.Subset.refl l)

theorem changesOnly_withSome {α : Type} {s t : State} {l : List Part} (h : s.changesOnly t l) (o : Option α)
    (f : α → State → State) (hf : ∀ a t, State.changesOnly t (f a t) l) : s.changesOnly (withSome o f t) l := by
  cases o with
  | none => exact h
  | some a => exact h.after (hf a t) (List.Subset.refl l)

theorem changesOnly_time {s t : State} {l : List Part} (h : s.changesOnly t l) (hl : Part.time ∈ l) (x) :
    s.changesOnly { t with time := x } l :=
  h.after (m := [.time]) (fun p hp => by cases p <;> first | rfl | exact absurd (List.mem_singleton.2 rfl) hp) (by simpa using hl)

theorem State.changesOnly.time_eq {s t : State} {l : List Part} (h : s.changesOnly t l) (hl : Part.time ∉ l := by decide) :
    t.time = s.time := h .time hl

theorem changesOnly_regs {s t : State} {l : List Part} (h : s.changesOnly t l) (hl : Part.regs ∈ l) (x) :
    s.changesOnly { t with regs := x } l :=
  h.after (m := [.regs]) (fun p hp => by cases p <;> first | rfl | exact absurd (List.mem_singleton.2 rfl) hp) (by simpa using hl)

theorem State.changesOnly.regs_eq {s t : State} {l : List Part} (h : s.changesOnly t l) (hl : Part.regs ∉ l := by decide) :
    t.regs = s.regs := h .regs hl

theorem changesOnly_pins {s t : State} {l : List Part} (h : s.changesOnly t l) (hl : Part.pins ∈ l) (x) :
    s.changesOnly { t with pins := x } l :=
  h.after (m := [.pins]) (fun p hp => by cases p <;> first | rfl | exact absurd (List.mem_singleton.2 rfl) hp) (by simpa using hl)

theorem State.changesOnly.pins_eq {s t : State} {l : List Part} (h : s.changesOnly t l) (hl : Part.pins ∉ l := by decide) :
    t.pins = s.pins := h .pins hl

theorem changesOnly_nvm {s t : State} {l : List Part} (h : s.changesOnly t l) (hl : Part.nvm ∈ l) (x) :
    s.changesOnly { t with nvm := x } l :=
  h.after (m := [.nvm]) (fun p hp => by cases p <;> first | rfl | exact absurd (List.mem_singleton.2 rfl) hp) (by simpa using hl)

theorem State.changesOnly.nvm_eq {s t : State} {l : List Part} (h : s.changesOnly t l) (hl : Part.nvm ∉ l := by decide) :
    t.nvm = s.nvm := h .nvm hl

theorem changesOnly_evt {s t : State} {l : List Part} (h : s.changesOnly t l) (hl : Part.evt ∈ l) (x) :
    s.changesOnly { t with evt := x } l :=
  h.after (m := [.evt]) (fun p hp => by cases p <;> first | rfl | exact absurd (List.mem_singleton.2 rfl) hp) (by simpa using hl)

theorem State.changesOnly.evt_eq {s t : State} {l : List Part} (h : s.changesOnly t l) (hl : Part.evt ∉ l := by decide) :
    t.evt = s.evt := h .evt hl

theorem changesOnly_flt {s t : State} {l : List Part} (h : s.changesOnly t l) (hl : Part.flt ∈ l) (x) :
    s.changesOnly { t with flt := x } l :=
  h.after (m := [.flt]) (fun p hp => by cases p <;> first | rfl | exact absurd (List.mem_singleton.2 rfl) hp) (by simpa using hl)

theorem State.changesOnly.flt_eq {s t : State} {l : List Part} (h : s.changesOnly t l) (hl : Part.flt ∉ l := by decide) :
    t.flt = s.flt := h .flt hl

theorem changesOnly_link {s t : State} {l : List Part} (h : s.changesOnly t l) (hl : Part.link ∈ l) (x) :
    s.changesOnly { t with link := x } l :=
  h.after (m := [.link]) (fun p hp => by cases p <;> first | rfl | exact absurd (List.mem_singleton.2 rfl) hp) (by simpa using hl)

theorem State.changesOnly.link_eq {s t : State} {l : List Part} (h : s.changesOnly t l) (hl : Part.link ∉ l := by decide) :
    t.link = s.link := h .link hl

theorem changesOnly_trx {s t : State} {l : List Part} (h : s.changesOnly t l) (hl : Part.trx ∈ l) (x) :
    s.changesOnly { t with trx := x } l :=
  h.after (m := [.trx]) (fun p hp => by cases p <;> first | rfl | exact absurd (List.mem_singleton.2 rfl) hp) (by simpa using hl)

theorem State.changesOnly.trx_eq {s t : State} {l : List Part} (h : s.changesOnly t l) (hl : Part.trx ∉ l := by decide) :
    t.trx = s.trx := h .trx hl

theorem changesOnly_regul {s t : State} {l : List Part} (h : s.changesOnly t l) (hl : Part.regul ∈ l) (x) :
    s.changesOnly { t with regul := x } l :=
  h.after (m := [.regul]) (fun p hp => by cases p <;> first | rfl | exact absurd (List.mem_singleton.2 rfl) hp) (by simpa using hl)

theorem State.changesOnly.regul_eq {s t : State} {l : List Part} (h : s.changesOnly t l) (hl : Part.regul ∉ l := by decide) :
    t.regul = s.regul := h .regul hl

theorem changesOnly_chans {s t : State} {l : List Part} (h : s.changesOnly t l) (hl : Part.chans ∈ l) (x) :
    s.changesOnly { t with chans := x } l :=
  h.after (m := [.chans]) (fun p hp => by cases p <;> first | rfl | exact absurd (List.mem_singleton.2 rfl) hp) (by simpa using hl)

theorem State.changesOnly.chans_eq {s t : State} {l : List Part} (h : s.changesOnly t l) (hl : Part.chans ∉ l := by decide) :
    t.chans = s.chans := h .chans hl

theorem changesOnly_array {s t : State} {l : List Part} (h : s.changesOnly t l) (hl : Part.array ∈ l) (x) :
    s.changesOnly { t with array := x } l :=
  h.after (m := [.array]) (fun p hp => by cases p <;> first | rfl | exact absurd (List.mem_singleton.2 rfl) hp) (by simpa using hl)

theorem State.changesOnly.array_eq {s t : State} {l : List Part} (h : s.changesOnly t l) (hl : Part.array ∉ l := by decide) :
    t.array = s.array := h .array hl

theorem changesOnly_tab {s t : State} {l : List Part} (h : s.changesOnly t l) (hl : Part.tab ∈ l) (x) :
    s.changesOnly { t with tab := x } l :=
  h.after (m := [.tab]) (fun p hp => by cases p <;> first | rfl | exact absurd (List.mem_singleton.2 rfl) hp) (by simpa using hl)

theorem State.changesOnly.tab_eq {s t : State} {l : List Part} (h : s.changesOnly t l) (hl : Part.tab ∉ l := by decide) :
    t.tab = s.tab := h .tab hl

theorem changesOnly_capo {s t : State} {l : List Part} (h : s.changesOnly t l) (hl : Part.capo ∈ l) (x) :
    s.changesOnly { t with capo := x } l :=
  h.after (m := [.capo]) (fun p hp => by cases p <;> first | rfl | exact absurd (List.mem_singleton.2 rfl) hp) (by simpa using hl)

theorem State.changesOnly.capo_eq {s t : State} {l : List Part} (h : s.changesOnly t l) (hl : Part.capo ∉ l := by decide) :
    t.capo = s.capo := h .capo hl

theorem changesOnly_sensors {s t : State} {l : List Part} (h : s.changesOnly t l) (hl : Part.sensors ∈ l) (x) :
    s.changesOnly { t with sensors := x } l :=
  h.after (m := [.sensors]) (fun p hp => by cases p <;> first | rfl | exact absurd (List.mem_singleton.2 rfl) hp) (by simpa using hl)

theorem State.changesOnly.sensors_eq {s t : State} {l : List Part} (h : s.changesOnly t l) (hl : Part.sensors ∉ l := by decide) :
    t.sensors = s.sensors := h .sensors hl

theorem changesOnly_sec {s t : State} {l : List Part} (h : s.changesOnly t l) (hl : Part.sec ∈ l) (x) :
    s.changesOnly { t with sec := x } l :=
  h.after (m := [.sec]) (fun p hp => by cases p <;> first | rfl | exact absurd (List.mem_singleton.2 rfl) hp) (by simpa using hl)

theorem State.changesOnly.sec_eq {s t : State} {l : List Part} (h : s.changesOnly t l) (hl : Part.sec ∉ l := by decide) :
    t.sec = s.sec := h .sec hl

theorem changesOnly_cal {s t : State} {l : List Part} (h : s.changesOnly t l) (hl : Part.cal ∈ l) (x) :
    s.changesOnly { t with cal := x } l :=
  h.after (m := [.cal]) (fun p hp => by cases p <;> first | rfl | exact absurd (List.mem_singleton.2 rfl) hp) (by simpa using hl)

theorem State.changesOnly.cal_eq {s t : State} {l : List Part} (h : s.changesOnly t l) (hl : Part.cal ∉ l := by decide) :
    t.cal = s.cal := h .cal hl

theorem changesOnly_pwr {s t : State} {l : List Part} (h : s.changesOnly t l) (hl : Part.pwr ∈ l) (x) :
    s.changesOnly { t with pwr := x } l :=
  h.after (m := [.pwr]) (fun p hp => by cases p <;> first | rfl | exact absurd (List.mem_singleton.2 rfl) hp) (by simpa using hl)

theorem State.changesOnly.pwr_eq {s t : State} {l : List Part} (h : s.changesOnly t l) (hl : Part.pwr ∉ l := by decide) :
    t.pwr = s.pwr := h .pwr hl

theorem changesOnly_boot {s t : State} {l : List Part} (h : s.changesOnly t l) (hl : Part.boot ∈ l) (x) :
    s.changesOnly { t with boot := x } l :=
  h.after (m := [.boot]) (fun p hp => by cases p <;> first | rfl | exact absurd (List.mem_singleton.2 rfl) hp) (by simpa using hl)

theorem State.changesOnly.boot_eq {s t : State} {l : List Part} (h : s.changesOnly t l) (hl : Part.boot ∉ l := by decide) :
    t.boot = s.boot := h .boot hl

theorem changesOnly_pair {s t : State} {l : List Part} (h : s.changesOnly t l) (hl : Part.pair ∈ l) (x) :
    s.changesOnly { t with pair := x } l :=
  h.after (m := [.pair]) (fun p hp => by cases p <;> first | rfl | exact absurd (List.mem_singleton.2 rfl) hp) (by simpa using hl)

theorem State.changesOnly.pair_eq {s t : State} {l : List Part} (h : s.changesOnly t l) (hl : Part.pair ∉ l := by decide) :
    t.pair = s.pair := h .pair hl

theorem changesOnly_rpr {s t : State} {l : List Part} (h : s.changesOnly t l) (hl : Part.rpr ∈ l) (x) :
    s.changesOnly { t with rpr := x } l :=
  h.after (m := [.rpr]) (fun p hp => by cases p <;> first | rfl | exact absurd (List.mem_singleton.2 rfl) hp) (by simpa using hl)

theorem State.changesOnly.rpr_eq {s t : State} {l : List Part} (h : s.changesOnly t l) (hl : Part.rpr ∉ l := by decide) :
    t.rpr = s.rpr := h .rpr hl

theorem changesOnly_upd {s t : State} {l : List Part} (h : s.changesOnly t l) (hl : Part.upd ∈ l) (x) :
    s.changesOnly { t with upd := x } l :=
  h.after (m := [.upd]) (fun p hp => by cases p <;> first | rfl | exact absurd (List.mem_singleton.2 rfl) hp) (by simpa using hl)

theorem State.changesOnly.upd_eq {s t : State} {l : List Part} (h : s.changesOnly t l) (hl : Part.upd ∉ l := by decide) :
    t.upd = s.upd := h .upd hl

theorem changesOnly_free {s t : State} {l : List Part} (h : s.changesOnly t l) (hl : Part.free ∈ l) (x) :
    s.changesOnly { t with free := x } l :=
  h.after (m := [.free]) (fun p hp => by cases p <;> first | rfl | exact absurd (List.mem_singleton.2 rfl) hp) (by simpa using hl)

theorem State.changesOnly.free_eq {s t : State} {l : List Part} (h : s.changesOnly t l) (hl : Part.free ∉ l := by decide) :
    t.free = s.free := h .free hl

theorem changesOnly_pending {s t : State} {l : List Part} (h : s.changesOnly t l) (hl : Part.pending ∈ l) (x) :
    s.changesOnly { t with pending := x } l :=
  h.after (m := [.pending]) (fun p hp => by cases p <;> first | rfl | exact absurd (List.mem_singleton.2 rfl) hp) (by simpa using hl)

theorem State.changesOnly.pending_eq {s t : State} {l : List Part} (h : s.changesOnly t l) (hl : Part.pending ∉ l := by decide) :
    t.pending = s.pending := h .pending hl

end Sys2Proof.Machine
end

