-- ==== Sys2Proof/Laws/Memory.lean ====
section
/-! SUPPORT. MRAM: every operation keeps the canonical form, and a read answers what was written last. -/

namespace Sys2Proof.Machine

theorem memRead_filter (m : List Host.Cell) (p : Nat → Bool) (x : Nat) :
    memRead (m.filter (fun e => p e.1)) x = if p x = true then memRead m x else memDefault := by
  simp only [memRead, lookupEnt_filter]
  split_ifs <;> rfl

theorem memRead_memWrite (m : List Host.Cell) (a x : Nat) (b : Byte) :
    memRead (memWrite m a b) x = if a = x then b else memRead m x := by
  unfold memWrite
  split_ifs with hb hx hx
  · subst hx; rw [memRead_filter m (fun k => k != a)]; simp [hb]
  · rw [memRead_filter m (fun k => k != a)]; simp [Ne.symm hx]
  · simp [memRead, lookupEnt_insertEnt, hx]
  · simp [memRead, lookupEnt_insertEnt, hx]

/-- The canonical form, as two properties of the list. -/
theorem Memory.wf_iff (m : List Host.Cell) :
    Memory.wf m = true ↔ m.Pairwise (fun e f => e.1 < f.1) ∧ ∀ e ∈ m, e.2 ≠ memDefault := by
  induction m with
  | nil => simp [Memory.wf]
  | cons e l ih =>
    cases l with
    | nil => simp [Memory.wf]
    | cons f l =>
      simp only [Memory.wf, Bool.and_eq_true, decide_eq_true_eq, bne_iff_ne, ih]
      constructor
      · rintro ⟨⟨he, hlt⟩, hp, hd⟩
        refine ⟨List.pairwise_cons.2 ⟨?_, hp⟩, ?_⟩
        · intro x hx
          rcases List.mem_cons.1 hx with rfl | hx
          · exact hlt
          · exact lt_trans hlt ((List.pairwise_cons.1 hp).1 x hx)
        · intro x hx
          rcases List.mem_cons.1 hx with rfl | hx
          · exact he
          · exact hd x hx
      · rintro ⟨hp, hd⟩
        have h := List.pairwise_cons.1 hp
        exact ⟨⟨hd e (by simp), h.1 f (by simp)⟩, h.2, fun x hx => hd x (List.mem_cons_of_mem _ hx)⟩

theorem mem_insertEnt {α : Type} {a i : Nat} {b x : α} {l : List (Nat × α)} (h : (i, x) ∈ insertEnt a b l) :
    (i, x) = (a, b) ∨ (i, x) ∈ l := by
  induction l with
  | nil => simpa [insertEnt] using h
  | cons e l ih =>
    obtain ⟨j, c⟩ := e
    simp only [insertEnt] at h
    split_ifs at h with h1 h2
    · rcases List.mem_cons.1 h with h | h
      · exact .inl h
      · exact .inr h
    · rcases List.mem_cons.1 h with h | h
      · exact .inl h
      · exact .inr (List.mem_cons_of_mem _ h)
    · rcases List.mem_cons.1 h with h | h
      · exact .inr (by simp [h])
      · rcases ih h with h | h
        · exact .inl h
        · exact .inr (List.mem_cons_of_mem _ h)

theorem pairwise_insertEnt {α : Type} (a : Nat) (b : α) (l : List (Nat × α)) (h : l.Pairwise (fun e f => e.1 < f.1)) :
    (insertEnt a b l).Pairwise (fun e f => e.1 < f.1) := by
  induction l with
  | nil => simp [insertEnt]
  | cons e l ih =>
    obtain ⟨j, c⟩ := e
    have hp := List.pairwise_cons.1 h
    simp only [insertEnt]
    split_ifs with h1 h2
    · refine List.pairwise_cons.2 ⟨?_, h⟩
      rintro ⟨k, d⟩ hk
      rcases List.mem_cons.1 hk with hk | hk
      · simp_all
      · exact lt_trans h1 (hp.1 _ hk)
    · subst h2; exact List.pairwise_cons.2 ⟨hp.1, hp.2⟩
    · refine List.pairwise_cons.2 ⟨?_, ih hp.2⟩
      rintro ⟨k, d⟩ hk
      rcases mem_insertEnt hk with hk | hk
      · simp only [Prod.mk.injEq] at hk; simp only; omega
      · exact hp.1 _ hk

theorem memWrite_wf {m : List Host.Cell} (h : Memory.wf m = true) (a : Nat) (b : Byte) : Memory.wf (memWrite m a b) = true := by
  rw [Memory.wf_iff] at *
  unfold memWrite
  split_ifs with hb
  · exact ⟨h.1.sublist List.filter_sublist, fun e he => h.2 e (List.mem_of_mem_filter he)⟩
  · refine ⟨pairwise_insertEnt a b m h.1, ?_⟩
    rintro ⟨i, x⟩ he
    rcases mem_insertEnt he with he | he
    · simp_all
    · exact h.2 _ he

theorem memWriteBytes_wf {m : List Host.Cell} (h : Memory.wf m = true) (a : Nat) (l : List Byte) :
    Memory.wf (memWriteBytes m a l) = true := by
  induction l generalizing m a with
  | nil => exact h
  | cons b l ih => exact ih (memWrite_wf h a b) (a + 1)

theorem memWriteWord_wf {m : List Host.Cell} (h : Memory.wf m = true) (w : Nat) (v : BitVec 64) :
    Memory.wf (memWriteWord m w v) = true := memWriteBytes_wf h _ _

/-- The words that a record lands keep the form (R33, R91). -/
theorem memWriteWords_wf {m : List Host.Cell} (h : Memory.wf m = true) (l : List (Nat × BitVec 64)) :
    Memory.wf (l.foldl (fun m w => memWriteWord m w.1 w.2) m) = true := by
  induction l generalizing m with
  | nil => exact h
  | cons w l ih => exact ih (memWriteWord_wf h w.1 w.2)

theorem landWords_wf (s : State) (h : Memory.wf s.nvm.mem = true) (l : List (Nat × BitVec 64)) :
    Memory.wf (s.landWords l).nvm.mem = true := memWriteWords_wf h l

theorem reset_mem_wf : Memory.wf State.reset.nvm.mem = true := rfl

/-- A byte of a string just written, and every byte outside it. -/
theorem memRead_memWriteBytes (m : List Host.Cell) (a x : Nat) (l : List Byte) :
    memRead (memWriteBytes m a l) x = if a ≤ x ∧ x < a + l.length then l.getD (x - a) 0 else memRead m x := by
  induction l generalizing m a with
  | nil => simp [memWriteBytes]
  | cons b l ih =>
    simp only [memWriteBytes, ih, memRead_memWrite, List.length_cons]
    by_cases h0 : a = x
    · subst h0; simp
    · by_cases h1 : a + 1 ≤ x ∧ x < a + 1 + l.length
      · have h2 : a ≤ x ∧ x < a + (l.length + 1) := by omega
        rw [if_pos h1, if_pos h2]
        obtain ⟨k, hk⟩ : ∃ k, x - a = k + 1 := ⟨x - a - 1, by omega⟩
        have : x - (a + 1) = k := by omega
        simp [hk, this]
      · have h2 : ¬(a ≤ x ∧ x < a + (l.length + 1)) := by omega
        rw [if_neg h1, if_neg h2, if_neg h0]

/-- A word written leaves every byte outside its eight as it was. -/
theorem memRead_memWriteWord_ne (m : List Host.Cell) (w x : Nat) (v : BitVec 64) (h : x / 8 ≠ w % 0x100000) :
    memRead (memWriteWord m w v) x = memRead m x := by
  rw [memWriteWord, memRead_memWriteBytes, if_neg]
  simp only [leBytes, List.length_map, List.length_range]
  omega

end Sys2Proof.Machine
end

