-- ==== Sys2Proof/Laws/Mirror.lean ====
section
/-! SUPPORT. Mirror messages: what is framed passes the check of R383 and reads back its type, its SEQ and its body. -/

namespace Sys2Proof.Machine

theorem mirFrame_length (t q : Nat) (b : List Word) : (mirFrame t q b).length = b.length + 2 := by
  simp [mirFrame]

theorem mirOk_frame (t q : Nat) (b : List Word) (h : b.length + 2 < 65536) : mirOk (mirFrame t q b) = true := by
  have hf : fieldNat ((mirFrame t q b).headD 0#32) 15 0 = b.length + 2 := by
    simp only [mirFrame, List.cons_append, List.headD_cons, fieldNat, BitVec.toNat_ofNat]
    omega
  have hl : (mirFrame t q b).getLast? = some (mirCheck (mirFrame t q b).dropLast) := by
    simp only [mirFrame, List.getLast?_append, List.getLast?_singleton, List.dropLast_concat, Option.some_or]
  unfold mirOk
  rw [hf, hl, mirFrame_length]
  simp

theorem mirType_frame (t q : Nat) (b : List Word) (h : t < 256) : mirType (mirFrame t q b) = t := by
  simp only [mirType, mirFrame, List.cons_append, List.headD_cons, fieldNat, BitVec.toNat_ofNat]
  omega

theorem mirSeq_frame (t q : Nat) (b : List Word) : mirSeq (mirFrame t q b) = q % 256 := by
  simp only [mirSeq, mirFrame, List.cons_append, List.headD_cons, fieldNat, BitVec.toNat_ofNat]
  omega

theorem mirBody_frame (t q : Nat) (b : List Word) : mirBody (mirFrame t q b) = b := by
  simp [mirBody, mirFrame]

end Sys2Proof.Machine
end

