-- ==== Sys2Proof/Laws/PerInstr.lean ====
section
/-! SUPPORT. One lemma per command: the units that a well-formed command names exist. -/

namespace Sys2Proof.Laws.Shape

/-- Every unit that a well-formed command names exists. -/
def Statement (i : Instr) : Prop := i.wellFormed = true → ∀ u ∈ i.units, u.1 < u.2

/-- What holds of all commands at once. -/
theorem units_exist (i : Instr) : Statement i := by
  intro h u hu
  rw [Instr.wellFormed, Bool.and_eq_true, List.all_eq_true] at h
  exact of_decide_eq_true (h.1 u hu)

theorem pwrGoodRise : ∀ env, Statement (.pwrGoodRise env) := by intros; exact units_exist _
theorem pwrGoodFall : Statement .pwrGoodFall := units_exist .pwrGoodFall
theorem nvmRdyTimeout : Statement .nvmRdyTimeout := units_exist .nvmRdyTimeout
theorem nvmRdyFall : Statement .nvmRdyFall := units_exist .nvmRdyFall
theorem nvmRdyRise : ∀ env, Statement (.nvmRdyRise env) := by intros; exact units_exist _
theorem nvmAck : ∀ err, Statement (.nvmAck err) := by intros; exact units_exist _
theorem nvmAccessTimeout : Statement .nvmAccessTimeout := units_exist .nvmAccessTimeout
theorem trainingComplete : ∀ ch res, Statement (.trainingComplete ch res) := by intros; exact units_exist _
theorem trainingTimeout : ∀ ch, Statement (.trainingTimeout ch) := by intros; exact units_exist _
theorem linkWaitTimeout : Statement .linkWaitTimeout := units_exist .linkWaitTimeout
theorem droneTick : Statement .droneTick := units_exist .droneTick
theorem dronePrimaryFail : Statement .dronePrimaryFail := units_exist .dronePrimaryFail
theorem droneCheckerFail : Statement .droneCheckerFail := units_exist .droneCheckerFail
theorem holdoverExpiry : Statement .holdoverExpiry := units_exist .holdoverExpiry
theorem lnRxvFall : ∀ c l, Statement (.lnRxvFall c l) := by intros; exact units_exist _
theorem lnRxvRise : ∀ c l, Statement (.lnRxvRise c l) := by intros; exact units_exist _
theorem lnEqack : ∀ c l, Statement (.lnEqack c l) := by intros; exact units_exist _
theorem laneBlockRx : ∀ c l hdr payload, Statement (.laneBlockRx c l hdr payload) := by intros; exact units_exist _
theorem marker : ∀ c l payload at0, Statement (.marker c l payload at0) := by intros; exact units_exist _
theorem laneMap : ∀ c payload l, Statement (.laneMap c payload l) := by intros; exact units_exist _
theorem laneSwitch : ∀ c payload l, Statement (.laneSwitch c payload l) := by intros; exact units_exist _
theorem idleFlitRx : ∀ c hdr corrected, Statement (.idleFlitRx c hdr corrected) := by intros; exact units_exist _
theorem msgFlitRx : ∀ c hdr cells corrected, Statement (.msgFlitRx c hdr cells corrected) := by intros; exact units_exist _
theorem courseDown : ∀ c hdr cell corrected, Statement (.courseDown c hdr cell corrected) := by intros; exact units_exist _
theorem flitTx : ∀ c, Statement (.flitTx c) := by intros; exact units_exist _
theorem replayTimeout : ∀ c, Statement (.replayTimeout c) := by intros; exact units_exist _
theorem nakResend : ∀ c, Statement (.nakResend c) := by intros; exact units_exist _
theorem crWait : Statement .crWait := units_exist .crWait
theorem retrainLimit : ∀ c, Statement (.retrainLimit c) := by intros; exact units_exist _
theorem rd : ∀ c k hdr, Statement (.rd c k hdr) := by intros; exact units_exist _
theorem wr : ∀ c k hdr data, Statement (.wr c k hdr data) := by intros; exact units_exist _
theorem wrp : ∀ c k hdr data mask, Statement (.wrp c k hdr data mask) := by intros; exact units_exist _
theorem mask : ∀ c k cell, Statement (.mask c k cell) := by intros; exact units_exist _
theorem fadd64 : ∀ c k hdr data, Statement (.fadd64 c k hdr data) := by intros; exact units_exist _
theorem cas64 : ∀ c k hdr data, Statement (.cas64 c k hdr data) := by intros; exact units_exist _
theorem fence : ∀ c k hdr, Statement (.fence c k hdr) := by intros; exact units_exist _
theorem fenceComplete : ∀ tag, Statement (.fenceComplete tag) := by intros; exact units_exist _
theorem cfgrd : ∀ c k hdr, Statement (.cfgrd c k hdr) := by intros; exact units_exist _
theorem cfgwr : ∀ c k hdr, Statement (.cfgwr c k hdr) := by intros; exact units_exist _
theorem malformedMessage : ∀ c k hdr, Statement (.malformedMessage c k hdr) := by intros; exact units_exist _
theorem resync : ∀ c k hdr, Statement (.resync c k hdr) := by intros; exact units_exist _
theorem summaryCapture : ∀ mtag, Statement (.summaryCapture mtag) := by intros; exact units_exist _
theorem timeSet : ∀ c k hdr, Statement (.timeSet c k hdr) := by intros; exact units_exist _
theorem keyCreate : ∀ c k hdr, Statement (.keyCreate c k hdr) := by intros; exact units_exist _
theorem keyErase : ∀ c k hdr, Statement (.keyErase c k hdr) := by intros; exact units_exist _
theorem keyEraseComplete : ∀ key partner, Statement (.keyEraseComplete key partner) := by intros; exact units_exist _
theorem keyPersist : ∀ c k hdr, Statement (.keyPersist c k hdr) := by intros; exact units_exist _
theorem getVersion : ∀ t mtag, Statement (.getVersion t mtag) := by intros; exact units_exist _
theorem getCapabilities : ∀ t mtag, Statement (.getCapabilities t mtag) := by intros; exact units_exist _
theorem negotiateAlgorithms : ∀ t mtag supported, Statement (.negotiateAlgorithms t mtag supported) := by intros; exact units_exist _
theorem getDigests : ∀ t mtag, Statement (.getDigests t mtag) := by intros; exact units_exist _
theorem getCertificate : ∀ t mtag slot offset len, Statement (.getCertificate t mtag slot offset len) := by intros; exact units_exist _
theorem challenge : ∀ t mtag slot nonce, Statement (.challenge t mtag slot nonce) := by intros; exact units_exist _
theorem getMeasurements : ∀ t mtag index, Statement (.getMeasurements t mtag index) := by intros; exact units_exist _
theorem keyExchange : ∀ t mtag share mutAuth, Statement (.keyExchange t mtag share mutAuth) := by intros; exact units_exist _
theorem finish : ∀ t mtag verified, Statement (.finish t mtag verified) := by intros; exact units_exist _
theorem getEncapsulatedRequest : ∀ t mtag, Statement (.getEncapsulatedRequest t mtag) := by intros; exact units_exist _
theorem deliverEncapsulatedResponse : ∀ t mtag chainOk root, Statement (.deliverEncapsulatedResponse t mtag chainOk root) :=
  by intros; exact units_exist _
theorem keyUpdate : ∀ t mtag all, Statement (.keyUpdate t mtag all) := by intros; exact units_exist _
theorem endSession : ∀ t mtag, Statement (.endSession t mtag) := by intros; exact units_exist _
theorem respondIfReady : ∀ t mtag, Statement (.respondIfReady t mtag) := by intros; exact units_exist _
theorem routerAdmit : Statement .routerAdmit := units_exist .routerAdmit
theorem rmwMerge : ∀ tag writeSpace, Statement (.rmwMerge tag writeSpace) := by intros; exact units_exist _
theorem tagTimeout : ∀ tag writeSpace, Statement (.tagTimeout tag writeSpace) := by intros; exact units_exist _
theorem quarantineEnd : ∀ tag writeSpace, Statement (.quarantineEnd tag writeSpace) := by intros; exact units_exist _
theorem windowRoll : Statement .windowRoll := units_exist .windowRoll
theorem ageUnitExpiry : Statement .ageUnitExpiry := units_exist .ageUnitExpiry
theorem sysCommit : ∀ a groups, Statement (.sysCommit a groups) := by intros; exact units_exist _
theorem commitCheck : Statement .commitCheck := units_exist .commitCheck
theorem groupApply : ∀ g ch, Statement (.groupApply g ch) := by intros; exact units_exist _
theorem mapSwitch : Statement .mapSwitch := units_exist .mapSwitch
theorem commitWaitExpiry : Statement .commitWaitExpiry := units_exist .commitWaitExpiry
theorem registerWrite : ∀ a off val, Statement (.registerWrite a off val) := by intros; exact units_exist _
theorem postedWriteEffect : ∀ page, Statement (.postedWriteEffect page) := by intros; exact units_exist _
theorem sleepingDomainRead : ∀ a off, Statement (.sleepingDomainRead a off) := by intros; exact units_exist _
theorem rcRead : ∀ a off, Statement (.rcRead a off) := by intros; exact units_exist _
theorem counterLowRead : ∀ a off, Statement (.counterLowRead a off) := by intros; exact units_exist _
theorem sysSnap : ∀ a, Statement (.sysSnap a) := by intros; exact units_exist _
theorem sysSumctlCapture : ∀ a, Statement (.sysSumctlCapture a) := by intros; exact units_exist _
theorem smpSummaryRead : Statement .smpSummaryRead := units_exist .smpSummaryRead
theorem sysSave : ∀ a, Statement (.sysSave a) := by intros; exact units_exist _
theorem saveComplete : ∀ failed, Statement (.saveComplete failed) := by intros; exact units_exist _
theorem smpAddressMatch : ∀ x, Statement (.smpAddressMatch x) := by intros; exact units_exist _
theorem sensorRound : Statement .sensorRound := units_exist .sensorRound
theorem sensorRead : ∀ base sensor val par, Statement (.sensorRead base sensor val par) := by intros; exact units_exist _
theorem sensorAckTimeout : ∀ base sensor, Statement (.sensorAckTimeout base sensor) := by intros; exact units_exist _
theorem regIldReading : ∀ v, Statement (.regIldReading v) := by intros; exact units_exist _
theorem telemRise : Statement .telemRise := units_exist .telemRise
theorem regOcwRise : Statement .regOcwRise := units_exist .regOcwRise
theorem regOcwFall : Statement .regOcwFall := units_exist .regOcwFall
theorem ocwHoldExpiry : Statement .ocwHoldExpiry := units_exist .ocwHoldExpiry
theorem pswRdyFall : ∀ d, Statement (.pswRdyFall d) := by intros; exact units_exist _
theorem dieWindowRoll : ∀ die, Statement (.dieWindowRoll die) := by intros; exact units_exist _
theorem agentRequest : ∀ ch a t, Statement (.agentRequest ch a t) := by intros; exact units_exist _
theorem preemptionPoint : ∀ ch, Statement (.preemptionPoint ch) := by intros; exact units_exist _
theorem tabRowIssue : ∀ ch insert t room flip, Statement (.tabRowIssue ch insert t room flip) := by intros; exact units_exist _
theorem burstComplete : ∀ ch, Statement (.burstComplete ch) := by intros; exact units_exist _
theorem readDataReturn : ∀ ch damage, Statement (.readDataReturn ch damage) := by intros; exact units_exist _
theorem captureMiss : ∀ ch, Statement (.captureMiss ch) := by intros; exact units_exist _
theorem statusResult : ∀ ch sid st, Statement (.statusResult ch sid st) := by intros; exact units_exist _
theorem statPoll : Statement .statPoll := units_exist .statPoll
theorem bankIdleTimeout : ∀ ch b, Statement (.bankIdleTimeout ch b) := by intros; exact units_exist _
theorem slotTimerExpiry : ∀ ch, Statement (.slotTimerExpiry ch) := by intros; exact units_exist _
theorem mitlatchRx : ∀ ch sid, Statement (.mitlatchRx ch sid) := by intros; exact units_exist _
theorem hotPeriodExpiry : ∀ ch b, Statement (.hotPeriodExpiry ch b) := by intros; exact units_exist _
theorem exitSweepEnd : ∀ ch, Statement (.exitSweepEnd ch) := by intros; exact units_exist _
theorem sentCheckResult : ∀ ch b crc parityOk, Statement (.sentCheckResult ch b crc parityOk) := by intros; exact units_exist _
theorem suspectScrubEnd : ∀ ch b counted, Statement (.suspectScrubEnd ch b counted) := by intros; exact units_exist _
theorem replicaWindowEnd : ∀ g lost, Statement (.replicaWindowEnd g lost) := by intros; exact units_exist _
theorem calRunComplete : ∀ g ok fret even odd, Statement (.calRunComplete g ok fret even odd) := by intros; exact units_exist _
theorem slewStep : ∀ ch, Statement (.slewStep ch) := by intros; exact units_exist _
theorem idlePeriod : ∀ ch, Statement (.idlePeriod ch) := by intros; exact units_exist _
theorem idleWaitExpiry : ∀ ch, Statement (.idleWaitExpiry ch) := by intros; exact units_exist _
theorem retrainComplete : ∀ ch res, Statement (.retrainComplete ch res) := by intros; exact units_exist _
theorem calRun : ∀ a groups, Statement (.calRun a groups) := by intros; exact units_exist _
theorem calRetrain : ∀ a ch full, Statement (.calRetrain a ch full) := by intros; exact units_exist _
theorem refSusclr : ∀ a ch, Statement (.refSusclr a ch) := by intros; exact units_exist _
theorem idleThresholdExpiry : ∀ g step, Statement (.idleThresholdExpiry g step) := by intros; exact units_exist _
theorem entryConditionsMet : ∀ d, Statement (.entryConditionsMet d) := by intros; exact units_exist _
theorem delayLimitExpiry : ∀ d, Statement (.delayLimitExpiry d) := by intros; exact units_exist _
theorem pwrReqOn : ∀ a d, Statement (.pwrReqOn a d) := by intros; exact units_exist _
theorem pwrReqRetention : ∀ a d, Statement (.pwrReqRetention a d) := by intros; exact units_exist _
theorem pwrReqOff : ∀ a d, Statement (.pwrReqOff a d) := by intros; exact units_exist _
theorem linkEntryAcked : Statement .linkEntryAcked := units_exist .linkEntryAcked
theorem wakeReady : ∀ d retParityOk storeParityOk selfTestOk, Statement (.wakeReady d retParityOk storeParityOk selfTestOk) :=
  by intros; exact units_exist _
theorem wakeTimerExpiry : ∀ d, Statement (.wakeTimerExpiry d) := by intros; exact units_exist _
theorem wakeRetry : ∀ d, Statement (.wakeRetry d) := by intros; exact units_exist _
theorem pwrUnfence : ∀ a d, Statement (.pwrUnfence a d) := by intros; exact units_exist _
theorem linkWake : ∀ c, Statement (.linkWake c) := by intros; exact units_exist _
theorem mirIdentity : ∀ words, Statement (.mirIdentity words) := by intros; exact units_exist _
theorem pairAloneTimeout : Statement .pairAloneTimeout := units_exist .pairAloneTimeout
theorem mirHeartbeat : ∀ words, Statement (.mirHeartbeat words) := by intros; exact units_exist _
theorem mirRefBase : ∀ words, Statement (.mirRefBase words) := by intros; exact units_exist _
theorem mirBacklog : ∀ words, Statement (.mirBacklog words) := by intros; exact units_exist _
theorem mirKey : ∀ words, Statement (.mirKey words) := by intros; exact units_exist _
theorem mirRepair : ∀ words, Statement (.mirRepair words) := by intros; exact units_exist _
theorem mirConfig : ∀ words, Statement (.mirConfig words) := by intros; exact units_exist _
theorem mirTrims : ∀ words, Statement (.mirTrims words) := by intros; exact units_exist _
theorem mirSleep : ∀ words, Statement (.mirSleep words) := by intros; exact units_exist _
theorem mirPairkey : ∀ words, Statement (.mirPairkey words) := by intros; exact units_exist _
theorem mirHandback : ∀ words, Statement (.mirHandback words) := by intros; exact units_exist _
theorem mirrorAck : ∀ seq, Statement (.mirrorAck seq) := by intros; exact units_exist _
theorem mirrorResendTimeout : ∀ seq, Statement (.mirrorResendTimeout seq) := by intros; exact units_exist _
theorem mirrorNoackTimeout : Statement .mirrorNoackTimeout := units_exist .mirrorNoackTimeout
theorem mirRxreqWake : Statement .mirRxreqWake := units_exist .mirRxreqWake
theorem heartbeatWindowClose : Statement .heartbeatWindowClose := units_exist .heartbeatWindowClose
theorem brgFgnt : Statement .brgFgnt := units_exist .brgFgnt
theorem brgSfencedRise : Statement .brgSfencedRise := units_exist .brgSfencedRise
theorem brgSfencedFall : Statement .brgSfencedFall := units_exist .brgSfencedFall
theorem brgXrdy : Statement .brgXrdy := units_exist .brgXrdy
theorem takeoverRetrainDone : ∀ failedChs, Statement (.takeoverRetrainDone failedChs) := by intros; exact units_exist _
theorem handback : ∀ a, Statement (.handback a) := by intros; exact units_exist _
theorem handbackDrained : Statement .handbackDrained := units_exist .handbackDrained
theorem handbackAcked : Statement .handbackAcked := units_exist .handbackAcked
theorem handbackWaitExpiry : Statement .handbackWaitExpiry := units_exist .handbackWaitExpiry
theorem progStall : ∀ point, Statement (.progStall point) := by intros; exact units_exist _
theorem faultNPulseEnd : Statement .faultNPulseEnd := units_exist .faultNPulseEnd
theorem fltFence : ∀ a val, Statement (.fltFence a val) := by intros; exact units_exist _
theorem fltUnfence : ∀ a val selfTestOk, Statement (.fltUnfence a val selfTestOk) := by intros; exact units_exist _
theorem fltPinHold : ∀ a seq, Statement (.fltPinHold a seq) := by intros; exact units_exist _
theorem fltPinRelease : ∀ a seq, Statement (.fltPinRelease a seq) := by intros; exact units_exist _
theorem evtView : ∀ a seq, Statement (.evtView a seq) := by intros; exact units_exist _
theorem evtLogidx : ∀ a slot, Statement (.evtLogidx a slot) := by intros; exact units_exist _
theorem persistDelayExpiry : Statement .persistDelayExpiry := units_exist .persistDelayExpiry
theorem eventPersist : Statement .eventPersist := units_exist .eventPersist
theorem logScanDone : Statement .logScanDone := units_exist .logScanDone
theorem crsFence : ∀ a c, Statement (.crsFence a c) := by intros; exact units_exist _
theorem crsUnfence : ∀ a c, Statement (.crsUnfence a c) := by intros; exact units_exist _
theorem crsRetrain : ∀ a c, Statement (.crsRetrain a c) := by intros; exact units_exist _
theorem secLock : ∀ a, Statement (.secLock a) := by intros; exact units_exist _
theorem entropyHealthFail : ∀ test, Statement (.entropyHealthFail test) := by intros; exact units_exist _
theorem entropyRetest : ∀ pass, Statement (.entropyRetest pass) := by intros; exact units_exist _
theorem softRow : ∀ a val, Statement (.softRow a val) := by intros; exact units_exist _
theorem spprReady : Statement .spprReady := units_exist .spprReady
theorem repairWaitExpiry : Statement .repairWaitExpiry := units_exist .repairWaitExpiry
theorem tspprExpiry : Statement .tspprExpiry := units_exist .tspprExpiry
theorem rowRestoreDone : ∀ same, Statement (.rowRestoreDone same) := by intros; exact units_exist _
theorem repairRecordWritten : ∀ ok, Statement (.repairRecordWritten ok) := by intros; exact units_exist _
theorem hardRow : ∀ a val, Statement (.hardRow a val) := by intros; exact units_exist _
theorem hpprCountExpiry : Statement .hpprCountExpiry := units_exist .hpprCountExpiry
theorem colAdd : ∀ a val, Statement (.colAdd a val) := by intros; exact units_exist _
theorem colRemove : ∀ a val, Statement (.colRemove a val) := by intros; exact units_exist _
theorem bistStart : ∀ a val, Statement (.bistStart a val) := by intros; exact units_exist _
theorem bistAbort : ∀ a, Statement (.bistAbort a) := by intros; exact units_exist _
theorem bistEnd : ∀ res, Statement (.bistEnd res) := by intros; exact units_exist _
theorem loopNesl : ∀ a val, Statement (.loopNesl a val) := by intros; exact units_exist _
theorem loopNepl : ∀ a val, Statement (.loopNepl a val) := by intros; exact units_exist _
theorem loopFar : ∀ a val, Statement (.loopFar a val) := by intros; exact units_exist _
theorem loopOff : ∀ a, Statement (.loopOff a) := by intros; exact units_exist _
theorem wsBypass : ∀ wrstN, Statement (.wsBypass wrstN) := by intros; exact units_exist _
theorem wsExtest : ∀ cells, Statement (.wsExtest cells) := by intros; exact units_exist _
theorem wsIntest : ∀ cells, Statement (.wsIntest cells) := by intros; exact units_exist _
theorem cmReg : ∀ data, Statement (.cmReg data) := by intros; exact units_exist _
theorem cmSram : ∀ data failed, Statement (.cmSram data failed) := by intros; exact units_exist _
theorem cmId : Statement .cmId := units_exist .cmId
theorem svcOpen : ∀ length, Statement (.svcOpen length) := by intros; exact units_exist _
theorem svcBlock : ∀ index data crc, Statement (.svcBlock index data crc) := by intros; exact units_exist _
theorem svcVerify : Statement .svcVerify := units_exist .svcVerify
theorem verifyDone : ∀ nvmOk, Statement (.verifyDone nvmOk) := by intros; exact units_exist _
theorem svcActivate : ∀ digest, Statement (.svcActivate digest) := by intros; exact units_exist _
theorem svcAbort : Statement .svcAbort := units_exist .svcAbort
theorem svcRestart : Statement .svcRestart := units_exist .svcRestart
theorem svcConfirm : ∀ digest, Statement (.svcConfirm digest) := by intros; exact units_exist _
theorem svcReadBitmap : Statement .svcReadBitmap := units_exist .svcReadBitmap
theorem updConfirm : ∀ a digestLo, Statement (.updConfirm a digestLo) := by intros; exact units_exist _
theorem updateRestartProceed : ∀ env, Statement (.updateRestartProceed env) := by intros; exact units_exist _
theorem followActivate : Statement .followActivate := units_exist .followActivate
theorem selftestPass : Statement .selftestPass := units_exist .selftestPass
theorem probationExpiry : Statement .probationExpiry := units_exist .probationExpiry
theorem flitCrcFailure : ∀ c kind hdr corrected, Statement (.flitCrcFailure c kind hdr corrected) := by intros; exact units_exist _
theorem snapCaptureComplete : Statement .snapCaptureComplete := units_exist .snapCaptureComplete

end Sys2Proof.Laws.Shape
end

