-- ==== Sys2Proof/Laws/State.lean ====
section
/-! SUPPORT. One lemma per field and update of State: what each of the machine's small updates leaves as it was. -/

namespace Sys2Proof.Machine

section useFree
variable (s : State)

@[simp] theorem State.useFree_time : s.useFree.time = s.time := rfl
@[simp] theorem State.useFree_regs : s.useFree.regs = s.regs := rfl
@[simp] theorem State.useFree_pins : s.useFree.pins = s.pins := rfl
@[simp] theorem State.useFree_nvm : s.useFree.nvm = s.nvm := rfl
@[simp] theorem State.useFree_evt : s.useFree.evt = s.evt := rfl
@[simp] theorem State.useFree_flt : s.useFree.flt = s.flt := rfl
@[simp] theorem State.useFree_link : s.useFree.link = s.link := rfl
@[simp] theorem State.useFree_trx : s.useFree.trx = s.trx := rfl
@[simp] theorem State.useFree_regul : s.useFree.regul = s.regul := rfl
@[simp] theorem State.useFree_chans : s.useFree.chans = s.chans := rfl
@[simp] theorem State.useFree_array : s.useFree.array = s.array := rfl
@[simp] theorem State.useFree_tab : s.useFree.tab = s.tab := rfl
@[simp] theorem State.useFree_capo : s.useFree.capo = s.capo := rfl
@[simp] theorem State.useFree_sensors : s.useFree.sensors = s.sensors := rfl
@[simp] theorem State.useFree_sec : s.useFree.sec = s.sec := rfl
@[simp] theorem State.useFree_cal : s.useFree.cal = s.cal := rfl
@[simp] theorem State.useFree_pwr : s.useFree.pwr = s.pwr := rfl
@[simp] theorem State.useFree_boot : s.useFree.boot = s.boot := rfl
@[simp] theorem State.useFree_pair : s.useFree.pair = s.pair := rfl
@[simp] theorem State.useFree_rpr : s.useFree.rpr = s.rpr := rfl
@[simp] theorem State.useFree_upd : s.useFree.upd = s.upd := rfl
@[simp] theorem State.useFree_pending : s.useFree.pending = s.pending := rfl

end useFree

section putForce
variable (s : State) (f : Field) (n i v : Nat)

@[simp] theorem State.putForce_time : (s.putForce f n i v).time = s.time := rfl
@[simp] theorem State.putForce_pins : (s.putForce f n i v).pins = s.pins := rfl
@[simp] theorem State.putForce_nvm : (s.putForce f n i v).nvm = s.nvm := rfl
@[simp] theorem State.putForce_evt : (s.putForce f n i v).evt = s.evt := rfl
@[simp] theorem State.putForce_flt : (s.putForce f n i v).flt = s.flt := rfl
@[simp] theorem State.putForce_link : (s.putForce f n i v).link = s.link := rfl
@[simp] theorem State.putForce_trx : (s.putForce f n i v).trx = s.trx := rfl
@[simp] theorem State.putForce_regul : (s.putForce f n i v).regul = s.regul := rfl
@[simp] theorem State.putForce_chans : (s.putForce f n i v).chans = s.chans := rfl
@[simp] theorem State.putForce_array : (s.putForce f n i v).array = s.array := rfl
@[simp] theorem State.putForce_tab : (s.putForce f n i v).tab = s.tab := rfl
@[simp] theorem State.putForce_capo : (s.putForce f n i v).capo = s.capo := rfl
@[simp] theorem State.putForce_sensors : (s.putForce f n i v).sensors = s.sensors := rfl
@[simp] theorem State.putForce_sec : (s.putForce f n i v).sec = s.sec := rfl
@[simp] theorem State.putForce_cal : (s.putForce f n i v).cal = s.cal := rfl
@[simp] theorem State.putForce_pwr : (s.putForce f n i v).pwr = s.pwr := rfl
@[simp] theorem State.putForce_boot : (s.putForce f n i v).boot = s.boot := rfl
@[simp] theorem State.putForce_pair : (s.putForce f n i v).pair = s.pair := rfl
@[simp] theorem State.putForce_rpr : (s.putForce f n i v).rpr = s.rpr := rfl
@[simp] theorem State.putForce_upd : (s.putForce f n i v).upd = s.upd := rfl
@[simp] theorem State.putForce_free : (s.putForce f n i v).free = s.free := rfl
@[simp] theorem State.putForce_pending : (s.putForce f n i v).pending = s.pending := rfl
@[simp] theorem State.putForce_regs_shadow : (s.putForce f n i v).regs.shadow = s.regs.shadow := rfl
@[simp] theorem State.putForce_regs_sticky : (s.putForce f n i v).regs.sticky = s.regs.sticky := rfl
@[simp] theorem State.putForce_regs_touched : (s.putForce f n i v).regs.touched = s.regs.touched := rfl
@[simp] theorem State.putForce_regs_counters : (s.putForce f n i v).regs.counters = s.regs.counters := rfl
@[simp] theorem State.putForce_regs_snapAcc : (s.putForce f n i v).regs.snapAcc = s.regs.snapAcc := rfl
@[simp] theorem State.putForce_regs_latch : (s.putForce f n i v).regs.latch = s.regs.latch := rfl
@[simp] theorem State.putForce_regs_posted : (s.putForce f n i v).regs.posted = s.regs.posted := rfl
@[simp] theorem State.putForce_regs_dropped : (s.putForce f n i v).regs.dropped = s.regs.dropped := rfl
@[simp] theorem State.putForce_regs_failed : (s.putForce f n i v).regs.failed = s.regs.failed := rfl
@[simp] theorem State.putForce_regs_stalled : (s.putForce f n i v).regs.stalled = s.regs.stalled := rfl
@[simp] theorem State.putForce_regs_epoch : (s.putForce f n i v).regs.epoch = s.regs.epoch := rfl
@[simp] theorem State.putForce_regs_doneEpoch : (s.putForce f n i v).regs.doneEpoch = s.regs.doneEpoch := rfl
@[simp] theorem State.putForce_regs_commits : (s.putForce f n i v).regs.commits = s.regs.commits := rfl
@[simp] theorem State.putForce_regs_results : (s.putForce f n i v).regs.results = s.regs.results := rfl
@[simp] theorem State.putForce_regs_tickets : (s.putForce f n i v).regs.tickets = s.regs.tickets := rfl
@[simp] theorem State.putForce_regs_snapSeq : (s.putForce f n i v).regs.snapSeq = s.regs.snapSeq := rfl
@[simp] theorem State.putForce_regs_snapBusy : (s.putForce f n i v).regs.snapBusy = s.regs.snapBusy := rfl
@[simp] theorem State.putForce_regs_snapMask : (s.putForce f n i v).regs.snapMask = s.regs.snapMask := rfl
@[simp] theorem State.putForce_regs_snapStamp : (s.putForce f n i v).regs.snapStamp = s.regs.snapStamp := rfl
@[simp] theorem State.putForce_regs_snapshot : (s.putForce f n i v).regs.snapshot = s.regs.snapshot := rfl
@[simp] theorem State.putForce_regs_sumBusy : (s.putForce f n i v).regs.sumBusy = s.regs.sumBusy := rfl
@[simp] theorem State.putForce_regs_window : (s.putForce f n i v).regs.window = s.regs.window := rfl
@[simp] theorem State.putForce_regs_views : (s.putForce f n i v).regs.views = s.regs.views := rfl
@[simp] theorem State.putForce_regs_evtCopy : (s.putForce f n i v).regs.evtCopy = s.regs.evtCopy := rfl
@[simp] theorem State.putForce_regs_logCopy : (s.putForce f n i v).regs.logCopy = s.regs.logCopy := rfl
@[simp] theorem State.putForce_regs_smpValue : (s.putForce f n i v).regs.smpValue = s.regs.smpValue := rfl
@[simp] theorem State.putForce_regs_smpStatus : (s.putForce f n i v).regs.smpStatus = s.regs.smpStatus := rfl
@[simp] theorem State.putForce_regs_accSeen : (s.putForce f n i v).regs.accSeen = s.regs.accSeen := rfl
@[simp] theorem State.putForce_regs_nacked : (s.putForce f n i v).regs.nacked = s.regs.nacked := rfl

end putForce

section stickBits
variable (s : State) (f : Field) (n v : Nat)

@[simp] theorem State.stickBits_time : (s.stickBits f n v).time = s.time := rfl
@[simp] theorem State.stickBits_pins : (s.stickBits f n v).pins = s.pins := rfl
@[simp] theorem State.stickBits_nvm : (s.stickBits f n v).nvm = s.nvm := rfl
@[simp] theorem State.stickBits_evt : (s.stickBits f n v).evt = s.evt := rfl
@[simp] theorem State.stickBits_flt : (s.stickBits f n v).flt = s.flt := rfl
@[simp] theorem State.stickBits_link : (s.stickBits f n v).link = s.link := rfl
@[simp] theorem State.stickBits_trx : (s.stickBits f n v).trx = s.trx := rfl
@[simp] theorem State.stickBits_regul : (s.stickBits f n v).regul = s.regul := rfl
@[simp] theorem State.stickBits_chans : (s.stickBits f n v).chans = s.chans := rfl
@[simp] theorem State.stickBits_array : (s.stickBits f n v).array = s.array := rfl
@[simp] theorem State.stickBits_tab : (s.stickBits f n v).tab = s.tab := rfl
@[simp] theorem State.stickBits_capo : (s.stickBits f n v).capo = s.capo := rfl
@[simp] theorem State.stickBits_sensors : (s.stickBits f n v).sensors = s.sensors := rfl
@[simp] theorem State.stickBits_sec : (s.stickBits f n v).sec = s.sec := rfl
@[simp] theorem State.stickBits_cal : (s.stickBits f n v).cal = s.cal := rfl
@[simp] theorem State.stickBits_pwr : (s.stickBits f n v).pwr = s.pwr := rfl
@[simp] theorem State.stickBits_boot : (s.stickBits f n v).boot = s.boot := rfl
@[simp] theorem State.stickBits_pair : (s.stickBits f n v).pair = s.pair := rfl
@[simp] theorem State.stickBits_rpr : (s.stickBits f n v).rpr = s.rpr := rfl
@[simp] theorem State.stickBits_upd : (s.stickBits f n v).upd = s.upd := rfl
@[simp] theorem State.stickBits_free : (s.stickBits f n v).free = s.free := rfl
@[simp] theorem State.stickBits_pending : (s.stickBits f n v).pending = s.pending := rfl
@[simp] theorem State.stickBits_regs_shadow : (s.stickBits f n v).regs.shadow = s.regs.shadow := rfl
@[simp] theorem State.stickBits_regs_force : (s.stickBits f n v).regs.force = s.regs.force := rfl
@[simp] theorem State.stickBits_regs_touched : (s.stickBits f n v).regs.touched = s.regs.touched := rfl
@[simp] theorem State.stickBits_regs_counters : (s.stickBits f n v).regs.counters = s.regs.counters := rfl
@[simp] theorem State.stickBits_regs_snapAcc : (s.stickBits f n v).regs.snapAcc = s.regs.snapAcc := rfl
@[simp] theorem State.stickBits_regs_latch : (s.stickBits f n v).regs.latch = s.regs.latch := rfl
@[simp] theorem State.stickBits_regs_posted : (s.stickBits f n v).regs.posted = s.regs.posted := rfl
@[simp] theorem State.stickBits_regs_dropped : (s.stickBits f n v).regs.dropped = s.regs.dropped := rfl
@[simp] theorem State.stickBits_regs_failed : (s.stickBits f n v).regs.failed = s.regs.failed := rfl
@[simp] theorem State.stickBits_regs_stalled : (s.stickBits f n v).regs.stalled = s.regs.stalled := rfl
@[simp] theorem State.stickBits_regs_epoch : (s.stickBits f n v).regs.epoch = s.regs.epoch := rfl
@[simp] theorem State.stickBits_regs_doneEpoch : (s.stickBits f n v).regs.doneEpoch = s.regs.doneEpoch := rfl
@[simp] theorem State.stickBits_regs_commits : (s.stickBits f n v).regs.commits = s.regs.commits := rfl
@[simp] theorem State.stickBits_regs_results : (s.stickBits f n v).regs.results = s.regs.results := rfl
@[simp] theorem State.stickBits_regs_tickets : (s.stickBits f n v).regs.tickets = s.regs.tickets := rfl
@[simp] theorem State.stickBits_regs_snapSeq : (s.stickBits f n v).regs.snapSeq = s.regs.snapSeq := rfl
@[simp] theorem State.stickBits_regs_snapBusy : (s.stickBits f n v).regs.snapBusy = s.regs.snapBusy := rfl
@[simp] theorem State.stickBits_regs_snapMask : (s.stickBits f n v).regs.snapMask = s.regs.snapMask := rfl
@[simp] theorem State.stickBits_regs_snapStamp : (s.stickBits f n v).regs.snapStamp = s.regs.snapStamp := rfl
@[simp] theorem State.stickBits_regs_snapshot : (s.stickBits f n v).regs.snapshot = s.regs.snapshot := rfl
@[simp] theorem State.stickBits_regs_sumBusy : (s.stickBits f n v).regs.sumBusy = s.regs.sumBusy := rfl
@[simp] theorem State.stickBits_regs_window : (s.stickBits f n v).regs.window = s.regs.window := rfl
@[simp] theorem State.stickBits_regs_views : (s.stickBits f n v).regs.views = s.regs.views := rfl
@[simp] theorem State.stickBits_regs_evtCopy : (s.stickBits f n v).regs.evtCopy = s.regs.evtCopy := rfl
@[simp] theorem State.stickBits_regs_logCopy : (s.stickBits f n v).regs.logCopy = s.regs.logCopy := rfl
@[simp] theorem State.stickBits_regs_smpValue : (s.stickBits f n v).regs.smpValue = s.regs.smpValue := rfl
@[simp] theorem State.stickBits_regs_smpStatus : (s.stickBits f n v).regs.smpStatus = s.regs.smpStatus := rfl
@[simp] theorem State.stickBits_regs_accSeen : (s.stickBits f n v).regs.accSeen = s.regs.accSeen := rfl
@[simp] theorem State.stickBits_regs_nacked : (s.stickBits f n v).regs.nacked = s.regs.nacked := rfl

end stickBits

section countBy
variable (s : State) (off k : Nat)

@[simp] theorem State.countBy_time : (s.countBy off k).time = s.time := rfl
@[simp] theorem State.countBy_pins : (s.countBy off k).pins = s.pins := rfl
@[simp] theorem State.countBy_nvm : (s.countBy off k).nvm = s.nvm := rfl
@[simp] theorem State.countBy_evt : (s.countBy off k).evt = s.evt := rfl
@[simp] theorem State.countBy_flt : (s.countBy off k).flt = s.flt := rfl
@[simp] theorem State.countBy_link : (s.countBy off k).link = s.link := rfl
@[simp] theorem State.countBy_trx : (s.countBy off k).trx = s.trx := rfl
@[simp] theorem State.countBy_regul : (s.countBy off k).regul = s.regul := rfl
@[simp] theorem State.countBy_chans : (s.countBy off k).chans = s.chans := rfl
@[simp] theorem State.countBy_array : (s.countBy off k).array = s.array := rfl
@[simp] theorem State.countBy_tab : (s.countBy off k).tab = s.tab := rfl
@[simp] theorem State.countBy_capo : (s.countBy off k).capo = s.capo := rfl
@[simp] theorem State.countBy_sensors : (s.countBy off k).sensors = s.sensors := rfl
@[simp] theorem State.countBy_sec : (s.countBy off k).sec = s.sec := rfl
@[simp] theorem State.countBy_cal : (s.countBy off k).cal = s.cal := rfl
@[simp] theorem State.countBy_pwr : (s.countBy off k).pwr = s.pwr := rfl
@[simp] theorem State.countBy_boot : (s.countBy off k).boot = s.boot := rfl
@[simp] theorem State.countBy_pair : (s.countBy off k).pair = s.pair := rfl
@[simp] theorem State.countBy_rpr : (s.countBy off k).rpr = s.rpr := rfl
@[simp] theorem State.countBy_upd : (s.countBy off k).upd = s.upd := rfl
@[simp] theorem State.countBy_free : (s.countBy off k).free = s.free := rfl
@[simp] theorem State.countBy_pending : (s.countBy off k).pending = s.pending := rfl

end countBy

section nvmJob
variable (s : State) (why : NvmWhy) (write : Bool) (words : List (Nat × BitVec 64))

@[simp] theorem State.nvmJob_time : (s.nvmJob why write words).time = s.time := rfl
@[simp] theorem State.nvmJob_regs : (s.nvmJob why write words).regs = s.regs := rfl
@[simp] theorem State.nvmJob_pins : (s.nvmJob why write words).pins = s.pins := rfl
@[simp] theorem State.nvmJob_evt : (s.nvmJob why write words).evt = s.evt := rfl
@[simp] theorem State.nvmJob_flt : (s.nvmJob why write words).flt = s.flt := rfl
@[simp] theorem State.nvmJob_link : (s.nvmJob why write words).link = s.link := rfl
@[simp] theorem State.nvmJob_trx : (s.nvmJob why write words).trx = s.trx := rfl
@[simp] theorem State.nvmJob_regul : (s.nvmJob why write words).regul = s.regul := rfl
@[simp] theorem State.nvmJob_chans : (s.nvmJob why write words).chans = s.chans := rfl
@[simp] theorem State.nvmJob_array : (s.nvmJob why write words).array = s.array := rfl
@[simp] theorem State.nvmJob_tab : (s.nvmJob why write words).tab = s.tab := rfl
@[simp] theorem State.nvmJob_capo : (s.nvmJob why write words).capo = s.capo := rfl
@[simp] theorem State.nvmJob_sensors : (s.nvmJob why write words).sensors = s.sensors := rfl
@[simp] theorem State.nvmJob_sec : (s.nvmJob why write words).sec = s.sec := rfl
@[simp] theorem State.nvmJob_cal : (s.nvmJob why write words).cal = s.cal := rfl
@[simp] theorem State.nvmJob_pwr : (s.nvmJob why write words).pwr = s.pwr := rfl
@[simp] theorem State.nvmJob_boot : (s.nvmJob why write words).boot = s.boot := rfl
@[simp] theorem State.nvmJob_pair : (s.nvmJob why write words).pair = s.pair := rfl
@[simp] theorem State.nvmJob_rpr : (s.nvmJob why write words).rpr = s.rpr := rfl
@[simp] theorem State.nvmJob_upd : (s.nvmJob why write words).upd = s.upd := rfl
@[simp] theorem State.nvmJob_free : (s.nvmJob why write words).free = s.free := rfl
@[simp] theorem State.nvmJob_pending : (s.nvmJob why write words).pending = s.pending := rfl

end nvmJob

section landWords
variable (s : State) (l : List (Nat × BitVec 64))

@[simp] theorem State.landWords_time : (s.landWords l).time = s.time := rfl
@[simp] theorem State.landWords_regs : (s.landWords l).regs = s.regs := rfl
@[simp] theorem State.landWords_pins : (s.landWords l).pins = s.pins := rfl
@[simp] theorem State.landWords_evt : (s.landWords l).evt = s.evt := rfl
@[simp] theorem State.landWords_flt : (s.landWords l).flt = s.flt := rfl
@[simp] theorem State.landWords_link : (s.landWords l).link = s.link := rfl
@[simp] theorem State.landWords_trx : (s.landWords l).trx = s.trx := rfl
@[simp] theorem State.landWords_regul : (s.landWords l).regul = s.regul := rfl
@[simp] theorem State.landWords_chans : (s.landWords l).chans = s.chans := rfl
@[simp] theorem State.landWords_array : (s.landWords l).array = s.array := rfl
@[simp] theorem State.landWords_tab : (s.landWords l).tab = s.tab := rfl
@[simp] theorem State.landWords_capo : (s.landWords l).capo = s.capo := rfl
@[simp] theorem State.landWords_sensors : (s.landWords l).sensors = s.sensors := rfl
@[simp] theorem State.landWords_sec : (s.landWords l).sec = s.sec := rfl
@[simp] theorem State.landWords_cal : (s.landWords l).cal = s.cal := rfl
@[simp] theorem State.landWords_pwr : (s.landWords l).pwr = s.pwr := rfl
@[simp] theorem State.landWords_boot : (s.landWords l).boot = s.boot := rfl
@[simp] theorem State.landWords_pair : (s.landWords l).pair = s.pair := rfl
@[simp] theorem State.landWords_rpr : (s.landWords l).rpr = s.rpr := rfl
@[simp] theorem State.landWords_upd : (s.landWords l).upd = s.upd := rfl
@[simp] theorem State.landWords_free : (s.landWords l).free = s.free := rfl
@[simp] theorem State.landWords_pending : (s.landWords l).pending = s.pending := rfl
@[simp] theorem State.landWords_nvm_jobs : (s.landWords l).nvm.jobs = s.nvm.jobs := rfl
@[simp] theorem State.landWords_nvm_deferred : (s.landWords l).nvm.deferred = s.nvm.deferred := rfl
@[simp] theorem State.landWords_nvm_reqSince : (s.landWords l).nvm.reqSince = s.nvm.reqSince := rfl
@[simp] theorem State.landWords_nvm_otpCount : (s.landWords l).nvm.otpCount = s.nvm.otpCount := rfl
@[simp] theorem State.landWords_nvm_lockFuse : (s.landWords l).nvm.lockFuse = s.nvm.lockFuse := rfl

end landWords

section setDom
variable (s : State) (d : Nat) (f : Domain → Domain)

@[simp] theorem State.setDom_time : (s.setDom d f).time = s.time := rfl
@[simp] theorem State.setDom_regs : (s.setDom d f).regs = s.regs := rfl
@[simp] theorem State.setDom_pins : (s.setDom d f).pins = s.pins := rfl
@[simp] theorem State.setDom_nvm : (s.setDom d f).nvm = s.nvm := rfl
@[simp] theorem State.setDom_evt : (s.setDom d f).evt = s.evt := rfl
@[simp] theorem State.setDom_flt : (s.setDom d f).flt = s.flt := rfl
@[simp] theorem State.setDom_link : (s.setDom d f).link = s.link := rfl
@[simp] theorem State.setDom_trx : (s.setDom d f).trx = s.trx := rfl
@[simp] theorem State.setDom_regul : (s.setDom d f).regul = s.regul := rfl
@[simp] theorem State.setDom_chans : (s.setDom d f).chans = s.chans := rfl
@[simp] theorem State.setDom_array : (s.setDom d f).array = s.array := rfl
@[simp] theorem State.setDom_tab : (s.setDom d f).tab = s.tab := rfl
@[simp] theorem State.setDom_capo : (s.setDom d f).capo = s.capo := rfl
@[simp] theorem State.setDom_sensors : (s.setDom d f).sensors = s.sensors := rfl
@[simp] theorem State.setDom_sec : (s.setDom d f).sec = s.sec := rfl
@[simp] theorem State.setDom_cal : (s.setDom d f).cal = s.cal := rfl
@[simp] theorem State.setDom_boot : (s.setDom d f).boot = s.boot := rfl
@[simp] theorem State.setDom_pair : (s.setDom d f).pair = s.pair := rfl
@[simp] theorem State.setDom_rpr : (s.setDom d f).rpr = s.rpr := rfl
@[simp] theorem State.setDom_upd : (s.setDom d f).upd = s.upd := rfl
@[simp] theorem State.setDom_free : (s.setDom d f).free = s.free := rfl
@[simp] theorem State.setDom_pending : (s.setDom d f).pending = s.pending := rfl
@[simp] theorem State.setDom_pwr_cgs : (s.setDom d f).pwr.cgs = s.pwr.cgs := rfl
@[simp] theorem State.setDom_pwr_sentinels : (s.setDom d f).pwr.sentinels = s.pwr.sentinels := rfl
@[simp] theorem State.setDom_pwr_lastDom : (s.setDom d f).pwr.lastDom = s.pwr.lastDom := rfl
@[simp] theorem State.setDom_pwr_lastReason : (s.setDom d f).pwr.lastReason = s.pwr.lastReason := rfl
@[simp] theorem State.setDom_pwr_refusals : (s.setDom d f).pwr.refusals = s.pwr.refusals := rfl
@[simp] theorem State.setDom_pwr_onChecker : (s.setDom d f).pwr.onChecker = s.pwr.onChecker := rfl
@[simp] theorem State.setDom_pwr_checkerBad : (s.setDom d f).pwr.checkerBad = s.pwr.checkerBad := rfl

end setDom

section assertPin
variable (s : State)

@[simp] theorem State.assertPin_time : s.assertPin.time = s.time := rfl
@[simp] theorem State.assertPin_regs : s.assertPin.regs = s.regs := rfl
@[simp] theorem State.assertPin_pins : s.assertPin.pins = s.pins := rfl
@[simp] theorem State.assertPin_nvm : s.assertPin.nvm = s.nvm := rfl
@[simp] theorem State.assertPin_evt : s.assertPin.evt = s.evt := rfl
@[simp] theorem State.assertPin_link : s.assertPin.link = s.link := rfl
@[simp] theorem State.assertPin_trx : s.assertPin.trx = s.trx := rfl
@[simp] theorem State.assertPin_regul : s.assertPin.regul = s.regul := rfl
@[simp] theorem State.assertPin_chans : s.assertPin.chans = s.chans := rfl
@[simp] theorem State.assertPin_array : s.assertPin.array = s.array := rfl
@[simp] theorem State.assertPin_tab : s.assertPin.tab = s.tab := rfl
@[simp] theorem State.assertPin_capo : s.assertPin.capo = s.capo := rfl
@[simp] theorem State.assertPin_sensors : s.assertPin.sensors = s.sensors := rfl
@[simp] theorem State.assertPin_sec : s.assertPin.sec = s.sec := rfl
@[simp] theorem State.assertPin_cal : s.assertPin.cal = s.cal := rfl
@[simp] theorem State.assertPin_pwr : s.assertPin.pwr = s.pwr := rfl
@[simp] theorem State.assertPin_boot : s.assertPin.boot = s.boot := rfl
@[simp] theorem State.assertPin_pair : s.assertPin.pair = s.pair := rfl
@[simp] theorem State.assertPin_rpr : s.assertPin.rpr = s.rpr := rfl
@[simp] theorem State.assertPin_upd : s.assertPin.upd = s.upd := rfl
@[simp] theorem State.assertPin_free : s.assertPin.free = s.free := rfl
@[simp] theorem State.assertPin_pending : s.assertPin.pending = s.pending := rfl
@[simp] theorem State.assertPin_flt_marks : s.assertPin.flt.marks = s.flt.marks := rfl
@[simp] theorem State.assertPin_flt_unfencing : s.assertPin.flt.unfencing = s.flt.unfencing := rfl
@[simp] theorem State.assertPin_flt_fatal : s.assertPin.flt.fatal = s.flt.fatal := rfl
@[simp] theorem State.assertPin_flt_ledgerFail : s.assertPin.flt.ledgerFail = s.flt.ledgerFail := rfl
@[simp] theorem State.assertPin_flt_lastSev : s.assertPin.flt.lastSev = s.flt.lastSev := rfl
@[simp] theorem State.assertPin_flt_lastSource : s.assertPin.flt.lastSource = s.flt.lastSource := rfl
@[simp] theorem State.assertPin_flt_lastCode : s.assertPin.flt.lastCode = s.flt.lastCode := rfl
@[simp] theorem State.assertPin_flt_generation : s.assertPin.flt.generation = s.flt.generation := rfl
@[simp] theorem State.assertPin_flt_chEpoch : s.assertPin.flt.chEpoch = s.flt.chEpoch := rfl
@[simp] theorem State.assertPin_flt_ovrSeen : s.assertPin.flt.ovrSeen = s.flt.ovrSeen := rfl

end assertPin

section sendUp
variable (s : State) (cells : List Cell) (done : Completes) (fenceOf : Option Nat)

@[simp] theorem State.sendUp_time : (s.sendUp cells done fenceOf).time = s.time := rfl
@[simp] theorem State.sendUp_regs : (s.sendUp cells done fenceOf).regs = s.regs := rfl
@[simp] theorem State.sendUp_pins : (s.sendUp cells done fenceOf).pins = s.pins := rfl
@[simp] theorem State.sendUp_nvm : (s.sendUp cells done fenceOf).nvm = s.nvm := rfl
@[simp] theorem State.sendUp_evt : (s.sendUp cells done fenceOf).evt = s.evt := rfl
@[simp] theorem State.sendUp_flt : (s.sendUp cells done fenceOf).flt = s.flt := rfl
@[simp] theorem State.sendUp_trx : (s.sendUp cells done fenceOf).trx = s.trx := rfl
@[simp] theorem State.sendUp_regul : (s.sendUp cells done fenceOf).regul = s.regul := rfl
@[simp] theorem State.sendUp_chans : (s.sendUp cells done fenceOf).chans = s.chans := rfl
@[simp] theorem State.sendUp_array : (s.sendUp cells done fenceOf).array = s.array := rfl
@[simp] theorem State.sendUp_tab : (s.sendUp cells done fenceOf).tab = s.tab := rfl
@[simp] theorem State.sendUp_capo : (s.sendUp cells done fenceOf).capo = s.capo := rfl
@[simp] theorem State.sendUp_sensors : (s.sendUp cells done fenceOf).sensors = s.sensors := rfl
@[simp] theorem State.sendUp_sec : (s.sendUp cells done fenceOf).sec = s.sec := rfl
@[simp] theorem State.sendUp_cal : (s.sendUp cells done fenceOf).cal = s.cal := rfl
@[simp] theorem State.sendUp_pwr : (s.sendUp cells done fenceOf).pwr = s.pwr := rfl
@[simp] theorem State.sendUp_boot : (s.sendUp cells done fenceOf).boot = s.boot := rfl
@[simp] theorem State.sendUp_pair : (s.sendUp cells done fenceOf).pair = s.pair := rfl
@[simp] theorem State.sendUp_rpr : (s.sendUp cells done fenceOf).rpr = s.rpr := rfl
@[simp] theorem State.sendUp_upd : (s.sendUp cells done fenceOf).upd = s.upd := rfl
@[simp] theorem State.sendUp_free : (s.sendUp cells done fenceOf).free = s.free := rfl
@[simp] theorem State.sendUp_pending : (s.sendUp cells done fenceOf).pending = s.pending := rfl
@[simp] theorem State.sendUp_link_lanes : (s.sendUp cells done fenceOf).link.lanes = s.link.lanes := rfl
@[simp] theorem State.sendUp_link_courses : (s.sendUp cells done fenceOf).link.courses = s.link.courses := rfl
@[simp] theorem State.sendUp_link_req : (s.sendUp cells done fenceOf).link.req = s.link.req := rfl
@[simp] theorem State.sendUp_link_wd : (s.sendUp cells done fenceOf).link.wd = s.link.wd := rfl
@[simp] theorem State.sendUp_link_mgt : (s.sendUp cells done fenceOf).link.mgt = s.link.mgt := rfl
@[simp] theorem State.sendUp_link_crWaited : (s.sendUp cells done fenceOf).link.crWaited = s.link.crWaited := rfl

end sendUp

section acct
variable (s : State) (write : Bool) (f : TagAcct → TagAcct)

@[simp] theorem State.acct_time : (s.acct write f).time = s.time := rfl
@[simp] theorem State.acct_regs : (s.acct write f).regs = s.regs := rfl
@[simp] theorem State.acct_pins : (s.acct write f).pins = s.pins := rfl
@[simp] theorem State.acct_nvm : (s.acct write f).nvm = s.nvm := rfl
@[simp] theorem State.acct_evt : (s.acct write f).evt = s.evt := rfl
@[simp] theorem State.acct_flt : (s.acct write f).flt = s.flt := rfl
@[simp] theorem State.acct_link : (s.acct write f).link = s.link := rfl
@[simp] theorem State.acct_regul : (s.acct write f).regul = s.regul := rfl
@[simp] theorem State.acct_chans : (s.acct write f).chans = s.chans := rfl
@[simp] theorem State.acct_array : (s.acct write f).array = s.array := rfl
@[simp] theorem State.acct_tab : (s.acct write f).tab = s.tab := rfl
@[simp] theorem State.acct_capo : (s.acct write f).capo = s.capo := rfl
@[simp] theorem State.acct_sensors : (s.acct write f).sensors = s.sensors := rfl
@[simp] theorem State.acct_sec : (s.acct write f).sec = s.sec := rfl
@[simp] theorem State.acct_cal : (s.acct write f).cal = s.cal := rfl
@[simp] theorem State.acct_pwr : (s.acct write f).pwr = s.pwr := rfl
@[simp] theorem State.acct_boot : (s.acct write f).boot = s.boot := rfl
@[simp] theorem State.acct_pair : (s.acct write f).pair = s.pair := rfl
@[simp] theorem State.acct_rpr : (s.acct write f).rpr = s.rpr := rfl
@[simp] theorem State.acct_upd : (s.acct write f).upd = s.upd := rfl
@[simp] theorem State.acct_free : (s.acct write f).free = s.free := rfl
@[simp] theorem State.acct_pending : (s.acct write f).pending = s.pending := rfl

end acct

section setReq
variable (s : State) (uid : Nat) (f : Req → Req)

@[simp] theorem State.setReq_time : (s.setReq uid f).time = s.time := rfl
@[simp] theorem State.setReq_regs : (s.setReq uid f).regs = s.regs := rfl
@[simp] theorem State.setReq_pins : (s.setReq uid f).pins = s.pins := rfl
@[simp] theorem State.setReq_nvm : (s.setReq uid f).nvm = s.nvm := rfl
@[simp] theorem State.setReq_evt : (s.setReq uid f).evt = s.evt := rfl
@[simp] theorem State.setReq_flt : (s.setReq uid f).flt = s.flt := rfl
@[simp] theorem State.setReq_link : (s.setReq uid f).link = s.link := rfl
@[simp] theorem State.setReq_regul : (s.setReq uid f).regul = s.regul := rfl
@[simp] theorem State.setReq_chans : (s.setReq uid f).chans = s.chans := rfl
@[simp] theorem State.setReq_array : (s.setReq uid f).array = s.array := rfl
@[simp] theorem State.setReq_tab : (s.setReq uid f).tab = s.tab := rfl
@[simp] theorem State.setReq_capo : (s.setReq uid f).capo = s.capo := rfl
@[simp] theorem State.setReq_sensors : (s.setReq uid f).sensors = s.sensors := rfl
@[simp] theorem State.setReq_sec : (s.setReq uid f).sec = s.sec := rfl
@[simp] theorem State.setReq_cal : (s.setReq uid f).cal = s.cal := rfl
@[simp] theorem State.setReq_pwr : (s.setReq uid f).pwr = s.pwr := rfl
@[simp] theorem State.setReq_boot : (s.setReq uid f).boot = s.boot := rfl
@[simp] theorem State.setReq_pair : (s.setReq uid f).pair = s.pair := rfl
@[simp] theorem State.setReq_rpr : (s.setReq uid f).rpr = s.rpr := rfl
@[simp] theorem State.setReq_upd : (s.setReq uid f).upd = s.upd := rfl
@[simp] theorem State.setReq_free : (s.setReq uid f).free = s.free := rfl
@[simp] theorem State.setReq_pending : (s.setReq uid f).pending = s.pending := rfl
@[simp] theorem State.setReq_trx_nextUid : (s.setReq uid f).trx.nextUid = s.trx.nextUid := rfl
@[simp] theorem State.setReq_trx_quar : (s.setReq uid f).trx.quar = s.trx.quar := rfl
@[simp] theorem State.setReq_trx_respond : (s.setReq uid f).trx.respond = s.trx.respond := rfl
@[simp] theorem State.setReq_trx_mgtOut : (s.setReq uid f).trx.mgtOut = s.trx.mgtOut := rfl
@[simp] theorem State.setReq_trx_rdAcct : (s.setReq uid f).trx.rdAcct = s.trx.rdAcct := rfl
@[simp] theorem State.setReq_trx_wrAcct : (s.setReq uid f).trx.wrAcct = s.trx.wrAcct := rfl
@[simp] theorem State.setReq_trx_fences : (s.setReq uid f).trx.fences = s.trx.fences := rfl
@[simp] theorem State.setReq_trx_resyncs : (s.setReq uid f).trx.resyncs = s.trx.resyncs := rfl
@[simp] theorem State.setReq_trx_prog : (s.setReq uid f).trx.prog = s.trx.prog := rfl
@[simp] theorem State.setReq_trx_keyOps : (s.setReq uid f).trx.keyOps = s.trx.keyOps := rfl
@[simp] theorem State.setReq_trx_spdm : (s.setReq uid f).trx.spdm = s.trx.spdm := rfl

end setReq

section dropReq
variable (s : State) (uid : Nat)

@[simp] theorem State.dropReq_time : (s.dropReq uid).time = s.time := rfl
@[simp] theorem State.dropReq_regs : (s.dropReq uid).regs = s.regs := rfl
@[simp] theorem State.dropReq_pins : (s.dropReq uid).pins = s.pins := rfl
@[simp] theorem State.dropReq_nvm : (s.dropReq uid).nvm = s.nvm := rfl
@[simp] theorem State.dropReq_evt : (s.dropReq uid).evt = s.evt := rfl
@[simp] theorem State.dropReq_flt : (s.dropReq uid).flt = s.flt := rfl
@[simp] theorem State.dropReq_link : (s.dropReq uid).link = s.link := rfl
@[simp] theorem State.dropReq_regul : (s.dropReq uid).regul = s.regul := rfl
@[simp] theorem State.dropReq_chans : (s.dropReq uid).chans = s.chans := rfl
@[simp] theorem State.dropReq_array : (s.dropReq uid).array = s.array := rfl
@[simp] theorem State.dropReq_tab : (s.dropReq uid).tab = s.tab := rfl
@[simp] theorem State.dropReq_capo : (s.dropReq uid).capo = s.capo := rfl
@[simp] theorem State.dropReq_sensors : (s.dropReq uid).sensors = s.sensors := rfl
@[simp] theorem State.dropReq_sec : (s.dropReq uid).sec = s.sec := rfl
@[simp] theorem State.dropReq_cal : (s.dropReq uid).cal = s.cal := rfl
@[simp] theorem State.dropReq_pwr : (s.dropReq uid).pwr = s.pwr := rfl
@[simp] theorem State.dropReq_boot : (s.dropReq uid).boot = s.boot := rfl
@[simp] theorem State.dropReq_pair : (s.dropReq uid).pair = s.pair := rfl
@[simp] theorem State.dropReq_rpr : (s.dropReq uid).rpr = s.rpr := rfl
@[simp] theorem State.dropReq_upd : (s.dropReq uid).upd = s.upd := rfl
@[simp] theorem State.dropReq_free : (s.dropReq uid).free = s.free := rfl
@[simp] theorem State.dropReq_pending : (s.dropReq uid).pending = s.pending := rfl
@[simp] theorem State.dropReq_trx_nextUid : (s.dropReq uid).trx.nextUid = s.trx.nextUid := rfl
@[simp] theorem State.dropReq_trx_quar : (s.dropReq uid).trx.quar = s.trx.quar := rfl
@[simp] theorem State.dropReq_trx_respond : (s.dropReq uid).trx.respond = s.trx.respond := rfl
@[simp] theorem State.dropReq_trx_mgtOut : (s.dropReq uid).trx.mgtOut = s.trx.mgtOut := rfl
@[simp] theorem State.dropReq_trx_rdAcct : (s.dropReq uid).trx.rdAcct = s.trx.rdAcct := rfl
@[simp] theorem State.dropReq_trx_wrAcct : (s.dropReq uid).trx.wrAcct = s.trx.wrAcct := rfl
@[simp] theorem State.dropReq_trx_fences : (s.dropReq uid).trx.fences = s.trx.fences := rfl
@[simp] theorem State.dropReq_trx_resyncs : (s.dropReq uid).trx.resyncs = s.trx.resyncs := rfl
@[simp] theorem State.dropReq_trx_prog : (s.dropReq uid).trx.prog = s.trx.prog := rfl
@[simp] theorem State.dropReq_trx_keyOps : (s.dropReq uid).trx.keyOps = s.trx.keyOps := rfl
@[simp] theorem State.dropReq_trx_spdm : (s.dropReq uid).trx.spdm = s.trx.spdm := rfl

end dropReq

section freeReqCells
variable (s : State) (n : Nat)

@[simp] theorem State.freeReqCells_time : (s.freeReqCells n).time = s.time := rfl
@[simp] theorem State.freeReqCells_regs : (s.freeReqCells n).regs = s.regs := rfl
@[simp] theorem State.freeReqCells_pins : (s.freeReqCells n).pins = s.pins := rfl
@[simp] theorem State.freeReqCells_nvm : (s.freeReqCells n).nvm = s.nvm := rfl
@[simp] theorem State.freeReqCells_evt : (s.freeReqCells n).evt = s.evt := rfl
@[simp] theorem State.freeReqCells_flt : (s.freeReqCells n).flt = s.flt := rfl
@[simp] theorem State.freeReqCells_trx : (s.freeReqCells n).trx = s.trx := rfl
@[simp] theorem State.freeReqCells_regul : (s.freeReqCells n).regul = s.regul := rfl
@[simp] theorem State.freeReqCells_chans : (s.freeReqCells n).chans = s.chans := rfl
@[simp] theorem State.freeReqCells_array : (s.freeReqCells n).array = s.array := rfl
@[simp] theorem State.freeReqCells_tab : (s.freeReqCells n).tab = s.tab := rfl
@[simp] theorem State.freeReqCells_capo : (s.freeReqCells n).capo = s.capo := rfl
@[simp] theorem State.freeReqCells_sensors : (s.freeReqCells n).sensors = s.sensors := rfl
@[simp] theorem State.freeReqCells_sec : (s.freeReqCells n).sec = s.sec := rfl
@[simp] theorem State.freeReqCells_cal : (s.freeReqCells n).cal = s.cal := rfl
@[simp] theorem State.freeReqCells_pwr : (s.freeReqCells n).pwr = s.pwr := rfl
@[simp] theorem State.freeReqCells_boot : (s.freeReqCells n).boot = s.boot := rfl
@[simp] theorem State.freeReqCells_pair : (s.freeReqCells n).pair = s.pair := rfl
@[simp] theorem State.freeReqCells_rpr : (s.freeReqCells n).rpr = s.rpr := rfl
@[simp] theorem State.freeReqCells_upd : (s.freeReqCells n).upd = s.upd := rfl
@[simp] theorem State.freeReqCells_free : (s.freeReqCells n).free = s.free := rfl
@[simp] theorem State.freeReqCells_pending : (s.freeReqCells n).pending = s.pending := rfl
@[simp] theorem State.freeReqCells_link_lanes : (s.freeReqCells n).link.lanes = s.link.lanes := rfl
@[simp] theorem State.freeReqCells_link_courses : (s.freeReqCells n).link.courses = s.link.courses := rfl
@[simp] theorem State.freeReqCells_link_wd : (s.freeReqCells n).link.wd = s.link.wd := rfl
@[simp] theorem State.freeReqCells_link_mgt : (s.freeReqCells n).link.mgt = s.link.mgt := rfl
@[simp] theorem State.freeReqCells_link_upQ : (s.freeReqCells n).link.upQ = s.link.upQ := rfl
@[simp] theorem State.freeReqCells_link_crWaited : (s.freeReqCells n).link.crWaited = s.link.crWaited := rfl

end freeReqCells

section freeWdCells
variable (s : State) (n : Nat)

@[simp] theorem State.freeWdCells_time : (s.freeWdCells n).time = s.time := rfl
@[simp] theorem State.freeWdCells_regs : (s.freeWdCells n).regs = s.regs := rfl
@[simp] theorem State.freeWdCells_pins : (s.freeWdCells n).pins = s.pins := rfl
@[simp] theorem State.freeWdCells_nvm : (s.freeWdCells n).nvm = s.nvm := rfl
@[simp] theorem State.freeWdCells_evt : (s.freeWdCells n).evt = s.evt := rfl
@[simp] theorem State.freeWdCells_flt : (s.freeWdCells n).flt = s.flt := rfl
@[simp] theorem State.freeWdCells_trx : (s.freeWdCells n).trx = s.trx := rfl
@[simp] theorem State.freeWdCells_regul : (s.freeWdCells n).regul = s.regul := rfl
@[simp] theorem State.freeWdCells_chans : (s.freeWdCells n).chans = s.chans := rfl
@[simp] theorem State.freeWdCells_array : (s.freeWdCells n).array = s.array := rfl
@[simp] theorem State.freeWdCells_tab : (s.freeWdCells n).tab = s.tab := rfl
@[simp] theorem State.freeWdCells_capo : (s.freeWdCells n).capo = s.capo := rfl
@[simp] theorem State.freeWdCells_sensors : (s.freeWdCells n).sensors = s.sensors := rfl
@[simp] theorem State.freeWdCells_sec : (s.freeWdCells n).sec = s.sec := rfl
@[simp] theorem State.freeWdCells_cal : (s.freeWdCells n).cal = s.cal := rfl
@[simp] theorem State.freeWdCells_pwr : (s.freeWdCells n).pwr = s.pwr := rfl
@[simp] theorem State.freeWdCells_boot : (s.freeWdCells n).boot = s.boot := rfl
@[simp] theorem State.freeWdCells_pair : (s.freeWdCells n).pair = s.pair := rfl
@[simp] theorem State.freeWdCells_rpr : (s.freeWdCells n).rpr = s.rpr := rfl
@[simp] theorem State.freeWdCells_upd : (s.freeWdCells n).upd = s.upd := rfl
@[simp] theorem State.freeWdCells_free : (s.freeWdCells n).free = s.free := rfl
@[simp] theorem State.freeWdCells_pending : (s.freeWdCells n).pending = s.pending := rfl
@[simp] theorem State.freeWdCells_link_lanes : (s.freeWdCells n).link.lanes = s.link.lanes := rfl
@[simp] theorem State.freeWdCells_link_courses : (s.freeWdCells n).link.courses = s.link.courses := rfl
@[simp] theorem State.freeWdCells_link_req : (s.freeWdCells n).link.req = s.link.req := rfl
@[simp] theorem State.freeWdCells_link_mgt : (s.freeWdCells n).link.mgt = s.link.mgt := rfl
@[simp] theorem State.freeWdCells_link_upQ : (s.freeWdCells n).link.upQ = s.link.upQ := rfl
@[simp] theorem State.freeWdCells_link_crWaited : (s.freeWdCells n).link.crWaited = s.link.crWaited := rfl

end freeWdCells

section freeMgtCells
variable (s : State) (n : Nat)

@[simp] theorem State.freeMgtCells_time : (s.freeMgtCells n).time = s.time := rfl
@[simp] theorem State.freeMgtCells_regs : (s.freeMgtCells n).regs = s.regs := rfl
@[simp] theorem State.freeMgtCells_pins : (s.freeMgtCells n).pins = s.pins := rfl
@[simp] theorem State.freeMgtCells_nvm : (s.freeMgtCells n).nvm = s.nvm := rfl
@[simp] theorem State.freeMgtCells_evt : (s.freeMgtCells n).evt = s.evt := rfl
@[simp] theorem State.freeMgtCells_flt : (s.freeMgtCells n).flt = s.flt := rfl
@[simp] theorem State.freeMgtCells_trx : (s.freeMgtCells n).trx = s.trx := rfl
@[simp] theorem State.freeMgtCells_regul : (s.freeMgtCells n).regul = s.regul := rfl
@[simp] theorem State.freeMgtCells_chans : (s.freeMgtCells n).chans = s.chans := rfl
@[simp] theorem State.freeMgtCells_array : (s.freeMgtCells n).array = s.array := rfl
@[simp] theorem State.freeMgtCells_tab : (s.freeMgtCells n).tab = s.tab := rfl
@[simp] theorem State.freeMgtCells_capo : (s.freeMgtCells n).capo = s.capo := rfl
@[simp] theorem State.freeMgtCells_sensors : (s.freeMgtCells n).sensors = s.sensors := rfl
@[simp] theorem State.freeMgtCells_sec : (s.freeMgtCells n).sec = s.sec := rfl
@[simp] theorem State.freeMgtCells_cal : (s.freeMgtCells n).cal = s.cal := rfl
@[simp] theorem State.freeMgtCells_pwr : (s.freeMgtCells n).pwr = s.pwr := rfl
@[simp] theorem State.freeMgtCells_boot : (s.freeMgtCells n).boot = s.boot := rfl
@[simp] theorem State.freeMgtCells_pair : (s.freeMgtCells n).pair = s.pair := rfl
@[simp] theorem State.freeMgtCells_rpr : (s.freeMgtCells n).rpr = s.rpr := rfl
@[simp] theorem State.freeMgtCells_upd : (s.freeMgtCells n).upd = s.upd := rfl
@[simp] theorem State.freeMgtCells_free : (s.freeMgtCells n).free = s.free := rfl
@[simp] theorem State.freeMgtCells_pending : (s.freeMgtCells n).pending = s.pending := rfl
@[simp] theorem State.freeMgtCells_link_lanes : (s.freeMgtCells n).link.lanes = s.link.lanes := rfl
@[simp] theorem State.freeMgtCells_link_courses : (s.freeMgtCells n).link.courses = s.link.courses := rfl
@[simp] theorem State.freeMgtCells_link_req : (s.freeMgtCells n).link.req = s.link.req := rfl
@[simp] theorem State.freeMgtCells_link_wd : (s.freeMgtCells n).link.wd = s.link.wd := rfl
@[simp] theorem State.freeMgtCells_link_upQ : (s.freeMgtCells n).link.upQ = s.link.upQ := rfl
@[simp] theorem State.freeMgtCells_link_crWaited : (s.freeMgtCells n).link.crWaited = s.link.crWaited := rfl

end freeMgtCells

section setChan
variable (s : State) (ch : Nat) (f : Chan → Chan)

@[simp] theorem State.setChan_time : (s.setChan ch f).time = s.time := rfl
@[simp] theorem State.setChan_regs : (s.setChan ch f).regs = s.regs := rfl
@[simp] theorem State.setChan_pins : (s.setChan ch f).pins = s.pins := rfl
@[simp] theorem State.setChan_nvm : (s.setChan ch f).nvm = s.nvm := rfl
@[simp] theorem State.setChan_evt : (s.setChan ch f).evt = s.evt := rfl
@[simp] theorem State.setChan_flt : (s.setChan ch f).flt = s.flt := rfl
@[simp] theorem State.setChan_link : (s.setChan ch f).link = s.link := rfl
@[simp] theorem State.setChan_trx : (s.setChan ch f).trx = s.trx := rfl
@[simp] theorem State.setChan_regul : (s.setChan ch f).regul = s.regul := rfl
@[simp] theorem State.setChan_array : (s.setChan ch f).array = s.array := rfl
@[simp] theorem State.setChan_tab : (s.setChan ch f).tab = s.tab := rfl
@[simp] theorem State.setChan_capo : (s.setChan ch f).capo = s.capo := rfl
@[simp] theorem State.setChan_sensors : (s.setChan ch f).sensors = s.sensors := rfl
@[simp] theorem State.setChan_sec : (s.setChan ch f).sec = s.sec := rfl
@[simp] theorem State.setChan_cal : (s.setChan ch f).cal = s.cal := rfl
@[simp] theorem State.setChan_pwr : (s.setChan ch f).pwr = s.pwr := rfl
@[simp] theorem State.setChan_boot : (s.setChan ch f).boot = s.boot := rfl
@[simp] theorem State.setChan_pair : (s.setChan ch f).pair = s.pair := rfl
@[simp] theorem State.setChan_rpr : (s.setChan ch f).rpr = s.rpr := rfl
@[simp] theorem State.setChan_upd : (s.setChan ch f).upd = s.upd := rfl
@[simp] theorem State.setChan_free : (s.setChan ch f).free = s.free := rfl
@[simp] theorem State.setChan_pending : (s.setChan ch f).pending = s.pending := rfl

end setChan

section setSlot
variable (s : State) (partner : Bool) (k : Nat) (f : KeySlot → KeySlot)

@[simp] theorem State.setSlot_time : (s.setSlot partner k f).time = s.time := rfl
@[simp] theorem State.setSlot_regs : (s.setSlot partner k f).regs = s.regs := rfl
@[simp] theorem State.setSlot_pins : (s.setSlot partner k f).pins = s.pins := rfl
@[simp] theorem State.setSlot_nvm : (s.setSlot partner k f).nvm = s.nvm := rfl
@[simp] theorem State.setSlot_evt : (s.setSlot partner k f).evt = s.evt := rfl
@[simp] theorem State.setSlot_flt : (s.setSlot partner k f).flt = s.flt := rfl
@[simp] theorem State.setSlot_link : (s.setSlot partner k f).link = s.link := rfl
@[simp] theorem State.setSlot_trx : (s.setSlot partner k f).trx = s.trx := rfl
@[simp] theorem State.setSlot_regul : (s.setSlot partner k f).regul = s.regul := rfl
@[simp] theorem State.setSlot_chans : (s.setSlot partner k f).chans = s.chans := rfl
@[simp] theorem State.setSlot_array : (s.setSlot partner k f).array = s.array := rfl
@[simp] theorem State.setSlot_tab : (s.setSlot partner k f).tab = s.tab := rfl
@[simp] theorem State.setSlot_capo : (s.setSlot partner k f).capo = s.capo := rfl
@[simp] theorem State.setSlot_sensors : (s.setSlot partner k f).sensors = s.sensors := rfl
@[simp] theorem State.setSlot_cal : (s.setSlot partner k f).cal = s.cal := rfl
@[simp] theorem State.setSlot_pwr : (s.setSlot partner k f).pwr = s.pwr := rfl
@[simp] theorem State.setSlot_boot : (s.setSlot partner k f).boot = s.boot := rfl
@[simp] theorem State.setSlot_pair : (s.setSlot partner k f).pair = s.pair := rfl
@[simp] theorem State.setSlot_rpr : (s.setSlot partner k f).rpr = s.rpr := rfl
@[simp] theorem State.setSlot_upd : (s.setSlot partner k f).upd = s.upd := rfl
@[simp] theorem State.setSlot_free : (s.setSlot partner k f).free = s.free := rfl
@[simp] theorem State.setSlot_pending : (s.setSlot partner k f).pending = s.pending := rfl

end setSlot

section setCtx
variable (s : State) (k : Nat) (f : Ctx → Ctx)

@[simp] theorem State.setCtx_time : (s.setCtx k f).time = s.time := rfl
@[simp] theorem State.setCtx_regs : (s.setCtx k f).regs = s.regs := rfl
@[simp] theorem State.setCtx_pins : (s.setCtx k f).pins = s.pins := rfl
@[simp] theorem State.setCtx_nvm : (s.setCtx k f).nvm = s.nvm := rfl
@[simp] theorem State.setCtx_evt : (s.setCtx k f).evt = s.evt := rfl
@[simp] theorem State.setCtx_flt : (s.setCtx k f).flt = s.flt := rfl
@[simp] theorem State.setCtx_link : (s.setCtx k f).link = s.link := rfl
@[simp] theorem State.setCtx_trx : (s.setCtx k f).trx = s.trx := rfl
@[simp] theorem State.setCtx_chans : (s.setCtx k f).chans = s.chans := rfl
@[simp] theorem State.setCtx_array : (s.setCtx k f).array = s.array := rfl
@[simp] theorem State.setCtx_tab : (s.setCtx k f).tab = s.tab := rfl
@[simp] theorem State.setCtx_capo : (s.setCtx k f).capo = s.capo := rfl
@[simp] theorem State.setCtx_sensors : (s.setCtx k f).sensors = s.sensors := rfl
@[simp] theorem State.setCtx_sec : (s.setCtx k f).sec = s.sec := rfl
@[simp] theorem State.setCtx_cal : (s.setCtx k f).cal = s.cal := rfl
@[simp] theorem State.setCtx_pwr : (s.setCtx k f).pwr = s.pwr := rfl
@[simp] theorem State.setCtx_boot : (s.setCtx k f).boot = s.boot := rfl
@[simp] theorem State.setCtx_pair : (s.setCtx k f).pair = s.pair := rfl
@[simp] theorem State.setCtx_rpr : (s.setCtx k f).rpr = s.rpr := rfl
@[simp] theorem State.setCtx_upd : (s.setCtx k f).upd = s.upd := rfl
@[simp] theorem State.setCtx_free : (s.setCtx k f).free = s.free := rfl
@[simp] theorem State.setCtx_pending : (s.setCtx k f).pending = s.pending := rfl
@[simp] theorem State.setCtx_regul_slotFree : (s.setCtx k f).regul.slotFree = s.regul.slotFree := rfl
@[simp] theorem State.setCtx_regul_slotRet : (s.setCtx k f).regul.slotRet = s.regul.slotRet := rfl
@[simp] theorem State.setCtx_regul_roundPtr : (s.setCtx k f).regul.roundPtr = s.regul.roundPtr := rfl
@[simp] theorem State.setCtx_regul_ageNow : (s.setCtx k f).regul.ageNow = s.regul.ageNow := rfl
@[simp] theorem State.setCtx_regul_lastRoll : (s.setCtx k f).regul.lastRoll = s.regul.lastRoll := rfl
@[simp] theorem State.setCtx_regul_scaled : (s.setCtx k f).regul.scaled = s.regul.scaled := rfl
@[simp] theorem State.setCtx_regul_rtOver : (s.setCtx k f).regul.rtOver = s.regul.rtOver := rfl
@[simp] theorem State.setCtx_regul_floorNow : (s.setCtx k f).regul.floorNow = s.regul.floorNow := rfl
@[simp] theorem State.setCtx_regul_rollFloor : (s.setCtx k f).regul.rollFloor = s.regul.rollFloor := rfl
@[simp] theorem State.setCtx_regul_rollOld : (s.setCtx k f).regul.rollOld = s.regul.rollOld := rfl
@[simp] theorem State.setCtx_regul_holds : (s.setCtx k f).regul.holds = s.regul.holds := rfl
@[simp] theorem State.setCtx_regul_poolFree : (s.setCtx k f).regul.poolFree = s.regul.poolFree := rfl
@[simp] theorem State.setCtx_regul_poolUsed : (s.setCtx k f).regul.poolUsed = s.regul.poolUsed := rfl
@[simp] theorem State.setCtx_regul_poolRet : (s.setCtx k f).regul.poolRet = s.regul.poolRet := rfl

end setCtx

section setPurse
variable (s : State) (g : Nat) (f : Purse → Purse)

@[simp] theorem State.setPurse_time : (s.setPurse g f).time = s.time := rfl
@[simp] theorem State.setPurse_regs : (s.setPurse g f).regs = s.regs := rfl
@[simp] theorem State.setPurse_pins : (s.setPurse g f).pins = s.pins := rfl
@[simp] theorem State.setPurse_nvm : (s.setPurse g f).nvm = s.nvm := rfl
@[simp] theorem State.setPurse_evt : (s.setPurse g f).evt = s.evt := rfl
@[simp] theorem State.setPurse_flt : (s.setPurse g f).flt = s.flt := rfl
@[simp] theorem State.setPurse_link : (s.setPurse g f).link = s.link := rfl
@[simp] theorem State.setPurse_trx : (s.setPurse g f).trx = s.trx := rfl
@[simp] theorem State.setPurse_regul : (s.setPurse g f).regul = s.regul := rfl
@[simp] theorem State.setPurse_chans : (s.setPurse g f).chans = s.chans := rfl
@[simp] theorem State.setPurse_array : (s.setPurse g f).array = s.array := rfl
@[simp] theorem State.setPurse_tab : (s.setPurse g f).tab = s.tab := rfl
@[simp] theorem State.setPurse_sensors : (s.setPurse g f).sensors = s.sensors := rfl
@[simp] theorem State.setPurse_sec : (s.setPurse g f).sec = s.sec := rfl
@[simp] theorem State.setPurse_cal : (s.setPurse g f).cal = s.cal := rfl
@[simp] theorem State.setPurse_pwr : (s.setPurse g f).pwr = s.pwr := rfl
@[simp] theorem State.setPurse_boot : (s.setPurse g f).boot = s.boot := rfl
@[simp] theorem State.setPurse_pair : (s.setPurse g f).pair = s.pair := rfl
@[simp] theorem State.setPurse_rpr : (s.setPurse g f).rpr = s.rpr := rfl
@[simp] theorem State.setPurse_upd : (s.setPurse g f).upd = s.upd := rfl
@[simp] theorem State.setPurse_free : (s.setPurse g f).free = s.free := rfl
@[simp] theorem State.setPurse_pending : (s.setPurse g f).pending = s.pending := rfl
@[simp] theorem State.setPurse_capo_central : (s.setPurse g f).capo.central = s.capo.central := rfl
@[simp] theorem State.setPurse_capo_dieCount : (s.setPurse g f).capo.dieCount = s.capo.dieCount := rfl
@[simp] theorem State.setPurse_capo_dieNo : (s.setPurse g f).capo.dieNo = s.capo.dieNo := rfl
@[simp] theorem State.setPurse_capo_bEff : (s.setPurse g f).capo.bEff = s.capo.bEff := rfl
@[simp] theorem State.setPurse_capo_step : (s.setPurse g f).capo.step = s.capo.step := rfl
@[simp] theorem State.setPurse_capo_fTelem : (s.setPurse g f).capo.fTelem = s.capo.fTelem := rfl
@[simp] theorem State.setPurse_capo_ild : (s.setPurse g f).capo.ild = s.capo.ild := rfl
@[simp] theorem State.setPurse_capo_ildOver : (s.setPurse g f).capo.ildOver = s.capo.ildOver := rfl
@[simp] theorem State.setPurse_capo_ildOkFrom : (s.setPurse g f).capo.ildOkFrom = s.capo.ildOkFrom := rfl
@[simp] theorem State.setPurse_capo_ocwHold : (s.setPurse g f).capo.ocwHold = s.capo.ocwHold := rfl
@[simp] theorem State.setPurse_capo_topups : (s.setPurse g f).capo.topups = s.capo.topups := rfl
@[simp] theorem State.setPurse_capo_input : (s.setPurse g f).capo.input = s.capo.input := rfl
@[simp] theorem State.setPurse_capo_baseMax : (s.setPurse g f).capo.baseMax = s.capo.baseMax := rfl
@[simp] theorem State.setPurse_capo_hotCh : (s.setPurse g f).capo.hotCh = s.capo.hotCh := rfl
@[simp] theorem State.setPurse_capo_chMax : (s.setPurse g f).capo.chMax = s.capo.chMax := rfl
@[simp] theorem State.setPurse_capo_cRefNow : (s.setPurse g f).capo.cRefNow = s.capo.cRefNow := rfl
@[simp] theorem State.setPurse_capo_overTemp : (s.setPurse g f).capo.overTemp = s.capo.overTemp := rfl

end setPurse

section dropMark
variable (s : State) (u : FUnit) (i : Nat)

@[simp] theorem State.dropMark_time : (s.dropMark u i).time = s.time := rfl
@[simp] theorem State.dropMark_regs : (s.dropMark u i).regs = s.regs := rfl
@[simp] theorem State.dropMark_pins : (s.dropMark u i).pins = s.pins := rfl
@[simp] theorem State.dropMark_nvm : (s.dropMark u i).nvm = s.nvm := rfl
@[simp] theorem State.dropMark_evt : (s.dropMark u i).evt = s.evt := rfl
@[simp] theorem State.dropMark_link : (s.dropMark u i).link = s.link := rfl
@[simp] theorem State.dropMark_trx : (s.dropMark u i).trx = s.trx := rfl
@[simp] theorem State.dropMark_regul : (s.dropMark u i).regul = s.regul := rfl
@[simp] theorem State.dropMark_chans : (s.dropMark u i).chans = s.chans := rfl
@[simp] theorem State.dropMark_array : (s.dropMark u i).array = s.array := rfl
@[simp] theorem State.dropMark_tab : (s.dropMark u i).tab = s.tab := rfl
@[simp] theorem State.dropMark_capo : (s.dropMark u i).capo = s.capo := rfl
@[simp] theorem State.dropMark_sensors : (s.dropMark u i).sensors = s.sensors := rfl
@[simp] theorem State.dropMark_sec : (s.dropMark u i).sec = s.sec := rfl
@[simp] theorem State.dropMark_cal : (s.dropMark u i).cal = s.cal := rfl
@[simp] theorem State.dropMark_pwr : (s.dropMark u i).pwr = s.pwr := rfl
@[simp] theorem State.dropMark_boot : (s.dropMark u i).boot = s.boot := rfl
@[simp] theorem State.dropMark_pair : (s.dropMark u i).pair = s.pair := rfl
@[simp] theorem State.dropMark_rpr : (s.dropMark u i).rpr = s.rpr := rfl
@[simp] theorem State.dropMark_upd : (s.dropMark u i).upd = s.upd := rfl
@[simp] theorem State.dropMark_free : (s.dropMark u i).free = s.free := rfl
@[simp] theorem State.dropMark_pending : (s.dropMark u i).pending = s.pending := rfl
@[simp] theorem State.dropMark_flt_unfencing : (s.dropMark u i).flt.unfencing = s.flt.unfencing := rfl
@[simp] theorem State.dropMark_flt_fatal : (s.dropMark u i).flt.fatal = s.flt.fatal := rfl
@[simp] theorem State.dropMark_flt_asserts : (s.dropMark u i).flt.asserts = s.flt.asserts := rfl
@[simp] theorem State.dropMark_flt_pulseEnd : (s.dropMark u i).flt.pulseEnd = s.flt.pulseEnd := rfl
@[simp] theorem State.dropMark_flt_drive : (s.dropMark u i).flt.drive = s.flt.drive := rfl
@[simp] theorem State.dropMark_flt_ledgerFail : (s.dropMark u i).flt.ledgerFail = s.flt.ledgerFail := rfl
@[simp] theorem State.dropMark_flt_lastSev : (s.dropMark u i).flt.lastSev = s.flt.lastSev := rfl
@[simp] theorem State.dropMark_flt_lastSource : (s.dropMark u i).flt.lastSource = s.flt.lastSource := rfl
@[simp] theorem State.dropMark_flt_lastCode : (s.dropMark u i).flt.lastCode = s.flt.lastCode := rfl
@[simp] theorem State.dropMark_flt_generation : (s.dropMark u i).flt.generation = s.flt.generation := rfl
@[simp] theorem State.dropMark_flt_chEpoch : (s.dropMark u i).flt.chEpoch = s.flt.chEpoch := rfl
@[simp] theorem State.dropMark_flt_ovrSeen : (s.dropMark u i).flt.ovrSeen = s.flt.ovrSeen := rfl

end dropMark

section setCalCh
variable (s : State) (ch : Nat) (f : CalChan → CalChan)

@[simp] theorem State.setCalCh_time : (s.setCalCh ch f).time = s.time := rfl
@[simp] theorem State.setCalCh_regs : (s.setCalCh ch f).regs = s.regs := rfl
@[simp] theorem State.setCalCh_pins : (s.setCalCh ch f).pins = s.pins := rfl
@[simp] theorem State.setCalCh_nvm : (s.setCalCh ch f).nvm = s.nvm := rfl
@[simp] theorem State.setCalCh_evt : (s.setCalCh ch f).evt = s.evt := rfl
@[simp] theorem State.setCalCh_flt : (s.setCalCh ch f).flt = s.flt := rfl
@[simp] theorem State.setCalCh_link : (s.setCalCh ch f).link = s.link := rfl
@[simp] theorem State.setCalCh_trx : (s.setCalCh ch f).trx = s.trx := rfl
@[simp] theorem State.setCalCh_regul : (s.setCalCh ch f).regul = s.regul := rfl
@[simp] theorem State.setCalCh_chans : (s.setCalCh ch f).chans = s.chans := rfl
@[simp] theorem State.setCalCh_array : (s.setCalCh ch f).array = s.array := rfl
@[simp] theorem State.setCalCh_tab : (s.setCalCh ch f).tab = s.tab := rfl
@[simp] theorem State.setCalCh_capo : (s.setCalCh ch f).capo = s.capo := rfl
@[simp] theorem State.setCalCh_sensors : (s.setCalCh ch f).sensors = s.sensors := rfl
@[simp] theorem State.setCalCh_sec : (s.setCalCh ch f).sec = s.sec := rfl
@[simp] theorem State.setCalCh_pwr : (s.setCalCh ch f).pwr = s.pwr := rfl
@[simp] theorem State.setCalCh_boot : (s.setCalCh ch f).boot = s.boot := rfl
@[simp] theorem State.setCalCh_pair : (s.setCalCh ch f).pair = s.pair := rfl
@[simp] theorem State.setCalCh_rpr : (s.setCalCh ch f).rpr = s.rpr := rfl
@[simp] theorem State.setCalCh_upd : (s.setCalCh ch f).upd = s.upd := rfl
@[simp] theorem State.setCalCh_free : (s.setCalCh ch f).free = s.free := rfl
@[simp] theorem State.setCalCh_pending : (s.setCalCh ch f).pending = s.pending := rfl
@[simp] theorem State.setCalCh_cal_refCourse : (s.setCalCh ch f).cal.refCourse = s.cal.refCourse := rfl
@[simp] theorem State.setCalCh_cal_refState : (s.setCalCh ch f).cal.refState = s.cal.refState := rfl
@[simp] theorem State.setCalCh_cal_holdLeft : (s.setCalCh ch f).cal.holdLeft = s.cal.holdLeft := rfl
@[simp] theorem State.setCalCh_cal_groups : (s.setCalCh ch f).cal.groups = s.cal.groups := rfl
@[simp] theorem State.setCalCh_cal_sets : (s.setCalCh ch f).cal.sets = s.cal.sets := rfl
@[simp] theorem State.setCalCh_cal_ageSt : (s.setCalCh ch f).cal.ageSt = s.cal.ageSt := rfl
@[simp] theorem State.setCalCh_cal_ageMeas : (s.setCalCh ch f).cal.ageMeas = s.cal.ageMeas := rfl
@[simp] theorem State.setCalCh_cal_lastRef : (s.setCalCh ch f).cal.lastRef = s.cal.lastRef := rfl

end setCalCh

section setCalGr
variable (s : State) (g : Nat) (f : CalGroup → CalGroup)

@[simp] theorem State.setCalGr_time : (s.setCalGr g f).time = s.time := rfl
@[simp] theorem State.setCalGr_regs : (s.setCalGr g f).regs = s.regs := rfl
@[simp] theorem State.setCalGr_pins : (s.setCalGr g f).pins = s.pins := rfl
@[simp] theorem State.setCalGr_nvm : (s.setCalGr g f).nvm = s.nvm := rfl
@[simp] theorem State.setCalGr_evt : (s.setCalGr g f).evt = s.evt := rfl
@[simp] theorem State.setCalGr_flt : (s.setCalGr g f).flt = s.flt := rfl
@[simp] theorem State.setCalGr_link : (s.setCalGr g f).link = s.link := rfl
@[simp] theorem State.setCalGr_trx : (s.setCalGr g f).trx = s.trx := rfl
@[simp] theorem State.setCalGr_regul : (s.setCalGr g f).regul = s.regul := rfl
@[simp] theorem State.setCalGr_chans : (s.setCalGr g f).chans = s.chans := rfl
@[simp] theorem State.setCalGr_array : (s.setCalGr g f).array = s.array := rfl
@[simp] theorem State.setCalGr_tab : (s.setCalGr g f).tab = s.tab := rfl
@[simp] theorem State.setCalGr_capo : (s.setCalGr g f).capo = s.capo := rfl
@[simp] theorem State.setCalGr_sensors : (s.setCalGr g f).sensors = s.sensors := rfl
@[simp] theorem State.setCalGr_sec : (s.setCalGr g f).sec = s.sec := rfl
@[simp] theorem State.setCalGr_pwr : (s.setCalGr g f).pwr = s.pwr := rfl
@[simp] theorem State.setCalGr_boot : (s.setCalGr g f).boot = s.boot := rfl
@[simp] theorem State.setCalGr_pair : (s.setCalGr g f).pair = s.pair := rfl
@[simp] theorem State.setCalGr_rpr : (s.setCalGr g f).rpr = s.rpr := rfl
@[simp] theorem State.setCalGr_upd : (s.setCalGr g f).upd = s.upd := rfl
@[simp] theorem State.setCalGr_free : (s.setCalGr g f).free = s.free := rfl
@[simp] theorem State.setCalGr_pending : (s.setCalGr g f).pending = s.pending := rfl
@[simp] theorem State.setCalGr_cal_refCourse : (s.setCalGr g f).cal.refCourse = s.cal.refCourse := rfl
@[simp] theorem State.setCalGr_cal_refState : (s.setCalGr g f).cal.refState = s.cal.refState := rfl
@[simp] theorem State.setCalGr_cal_holdLeft : (s.setCalGr g f).cal.holdLeft = s.cal.holdLeft := rfl
@[simp] theorem State.setCalGr_cal_chans : (s.setCalGr g f).cal.chans = s.cal.chans := rfl
@[simp] theorem State.setCalGr_cal_sets : (s.setCalGr g f).cal.sets = s.cal.sets := rfl
@[simp] theorem State.setCalGr_cal_ageSt : (s.setCalGr g f).cal.ageSt = s.cal.ageSt := rfl
@[simp] theorem State.setCalGr_cal_ageMeas : (s.setCalGr g f).cal.ageMeas = s.cal.ageMeas := rfl
@[simp] theorem State.setCalGr_cal_lastRef : (s.setCalGr g f).cal.lastRef = s.cal.lastRef := rfl

end setCalGr

section repairIssued
variable (s : State) (ch : Nat) (from1 to1 : RepairStage)

@[simp] theorem State.repairIssued_time : (s.repairIssued ch from1 to1).time = s.time := rfl
@[simp] theorem State.repairIssued_regs : (s.repairIssued ch from1 to1).regs = s.regs := rfl
@[simp] theorem State.repairIssued_pins : (s.repairIssued ch from1 to1).pins = s.pins := rfl
@[simp] theorem State.repairIssued_nvm : (s.repairIssued ch from1 to1).nvm = s.nvm := rfl
@[simp] theorem State.repairIssued_evt : (s.repairIssued ch from1 to1).evt = s.evt := rfl
@[simp] theorem State.repairIssued_flt : (s.repairIssued ch from1 to1).flt = s.flt := rfl
@[simp] theorem State.repairIssued_link : (s.repairIssued ch from1 to1).link = s.link := rfl
@[simp] theorem State.repairIssued_trx : (s.repairIssued ch from1 to1).trx = s.trx := rfl
@[simp] theorem State.repairIssued_regul : (s.repairIssued ch from1 to1).regul = s.regul := rfl
@[simp] theorem State.repairIssued_chans : (s.repairIssued ch from1 to1).chans = s.chans := rfl
@[simp] theorem State.repairIssued_array : (s.repairIssued ch from1 to1).array = s.array := rfl
@[simp] theorem State.repairIssued_tab : (s.repairIssued ch from1 to1).tab = s.tab := rfl
@[simp] theorem State.repairIssued_capo : (s.repairIssued ch from1 to1).capo = s.capo := rfl
@[simp] theorem State.repairIssued_sensors : (s.repairIssued ch from1 to1).sensors = s.sensors := rfl
@[simp] theorem State.repairIssued_sec : (s.repairIssued ch from1 to1).sec = s.sec := rfl
@[simp] theorem State.repairIssued_cal : (s.repairIssued ch from1 to1).cal = s.cal := rfl
@[simp] theorem State.repairIssued_pwr : (s.repairIssued ch from1 to1).pwr = s.pwr := rfl
@[simp] theorem State.repairIssued_boot : (s.repairIssued ch from1 to1).boot = s.boot := rfl
@[simp] theorem State.repairIssued_pair : (s.repairIssued ch from1 to1).pair = s.pair := rfl
@[simp] theorem State.repairIssued_upd : (s.repairIssued ch from1 to1).upd = s.upd := rfl
@[simp] theorem State.repairIssued_free : (s.repairIssued ch from1 to1).free = s.free := rfl
@[simp] theorem State.repairIssued_pending : (s.repairIssued ch from1 to1).pending = s.pending := rfl
@[simp] theorem State.repairIssued_rpr_maps : (s.repairIssued ch from1 to1).rpr.maps = s.rpr.maps := rfl
@[simp] theorem State.repairIssued_rpr_result : (s.repairIssued ch from1 to1).rpr.result = s.rpr.result := rfl
@[simp] theorem State.repairIssued_rpr_reason : (s.repairIssued ch from1 to1).rpr.reason = s.rpr.reason := rfl
@[simp] theorem State.repairIssued_rpr_corr : (s.repairIssued ch from1 to1).rpr.corr = s.rpr.corr := rfl
@[simp] theorem State.repairIssued_rpr_bist : (s.repairIssued ch from1 to1).rpr.bist = s.rpr.bist := rfl
@[simp] theorem State.repairIssued_rpr_bstate : (s.repairIssued ch from1 to1).rpr.bstate = s.rpr.bstate := rfl
@[simp] theorem State.repairIssued_rpr_bres : (s.repairIssued ch from1 to1).rpr.bres = s.rpr.bres := rfl
@[simp] theorem State.repairIssued_rpr_bparam : (s.repairIssued ch from1 to1).rpr.bparam = s.rpr.bparam := rfl
@[simp] theorem State.repairIssued_rpr_loop : (s.repairIssued ch from1 to1).rpr.loop = s.rpr.loop := rfl
@[simp] theorem State.repairIssued_rpr_ir : (s.repairIssued ch from1 to1).rpr.ir = s.rpr.ir := rfl
@[simp] theorem State.repairIssued_rpr_cmResult : (s.repairIssued ch from1 to1).rpr.cmResult = s.rpr.cmResult := rfl
@[simp] theorem State.repairIssued_rpr_cmSram : (s.repairIssued ch from1 to1).rpr.cmSram = s.rpr.cmSram := rfl
@[simp] theorem State.repairIssued_rpr_cmId : (s.repairIssued ch from1 to1).rpr.cmId = s.rpr.cmId := rfl
@[simp] theorem State.repairIssued_rpr_wsStop : (s.repairIssued ch from1 to1).rpr.wsStop = s.rpr.wsStop := rfl
@[simp] theorem State.repairIssued_rpr_cmBusy : (s.repairIssued ch from1 to1).rpr.cmBusy = s.rpr.cmBusy := rfl
@[simp] theorem State.repairIssued_rpr_wby : (s.repairIssued ch from1 to1).rpr.wby = s.rpr.wby := rfl
@[simp] theorem State.repairIssued_rpr_boundary : (s.repairIssued ch from1 to1).rpr.boundary = s.rpr.boundary := rfl

end repairIssued

section unfencingDone
variable (s : State) (ch : Nat)

@[simp] theorem State.unfencingDone_time : (s.unfencingDone ch).time = s.time := rfl
@[simp] theorem State.unfencingDone_regs : (s.unfencingDone ch).regs = s.regs := rfl
@[simp] theorem State.unfencingDone_pins : (s.unfencingDone ch).pins = s.pins := rfl
@[simp] theorem State.unfencingDone_nvm : (s.unfencingDone ch).nvm = s.nvm := rfl
@[simp] theorem State.unfencingDone_evt : (s.unfencingDone ch).evt = s.evt := rfl
@[simp] theorem State.unfencingDone_link : (s.unfencingDone ch).link = s.link := rfl
@[simp] theorem State.unfencingDone_trx : (s.unfencingDone ch).trx = s.trx := rfl
@[simp] theorem State.unfencingDone_regul : (s.unfencingDone ch).regul = s.regul := rfl
@[simp] theorem State.unfencingDone_chans : (s.unfencingDone ch).chans = s.chans := rfl
@[simp] theorem State.unfencingDone_array : (s.unfencingDone ch).array = s.array := rfl
@[simp] theorem State.unfencingDone_tab : (s.unfencingDone ch).tab = s.tab := rfl
@[simp] theorem State.unfencingDone_capo : (s.unfencingDone ch).capo = s.capo := rfl
@[simp] theorem State.unfencingDone_sensors : (s.unfencingDone ch).sensors = s.sensors := rfl
@[simp] theorem State.unfencingDone_sec : (s.unfencingDone ch).sec = s.sec := rfl
@[simp] theorem State.unfencingDone_cal : (s.unfencingDone ch).cal = s.cal := rfl
@[simp] theorem State.unfencingDone_pwr : (s.unfencingDone ch).pwr = s.pwr := rfl
@[simp] theorem State.unfencingDone_boot : (s.unfencingDone ch).boot = s.boot := rfl
@[simp] theorem State.unfencingDone_pair : (s.unfencingDone ch).pair = s.pair := rfl
@[simp] theorem State.unfencingDone_rpr : (s.unfencingDone ch).rpr = s.rpr := rfl
@[simp] theorem State.unfencingDone_upd : (s.unfencingDone ch).upd = s.upd := rfl
@[simp] theorem State.unfencingDone_free : (s.unfencingDone ch).free = s.free := rfl
@[simp] theorem State.unfencingDone_pending : (s.unfencingDone ch).pending = s.pending := rfl
@[simp] theorem State.unfencingDone_flt_marks : (s.unfencingDone ch).flt.marks = s.flt.marks := rfl
@[simp] theorem State.unfencingDone_flt_fatal : (s.unfencingDone ch).flt.fatal = s.flt.fatal := rfl
@[simp] theorem State.unfencingDone_flt_asserts : (s.unfencingDone ch).flt.asserts = s.flt.asserts := rfl
@[simp] theorem State.unfencingDone_flt_pulseEnd : (s.unfencingDone ch).flt.pulseEnd = s.flt.pulseEnd := rfl
@[simp] theorem State.unfencingDone_flt_drive : (s.unfencingDone ch).flt.drive = s.flt.drive := rfl
@[simp] theorem State.unfencingDone_flt_ledgerFail : (s.unfencingDone ch).flt.ledgerFail = s.flt.ledgerFail := rfl
@[simp] theorem State.unfencingDone_flt_lastSev : (s.unfencingDone ch).flt.lastSev = s.flt.lastSev := rfl
@[simp] theorem State.unfencingDone_flt_lastSource : (s.unfencingDone ch).flt.lastSource = s.flt.lastSource := rfl
@[simp] theorem State.unfencingDone_flt_lastCode : (s.unfencingDone ch).flt.lastCode = s.flt.lastCode := rfl
@[simp] theorem State.unfencingDone_flt_generation : (s.unfencingDone ch).flt.generation = s.flt.generation := rfl
@[simp] theorem State.unfencingDone_flt_chEpoch : (s.unfencingDone ch).flt.chEpoch = s.flt.chEpoch := rfl
@[simp] theorem State.unfencingDone_flt_ovrSeen : (s.unfencingDone ch).flt.ovrSeen = s.flt.ovrSeen := rfl

end unfencingDone

section setCg
variable (s : State) (g : Nat) (f : CgPower → CgPower)

@[simp] theorem State.setCg_time : (s.setCg g f).time = s.time := rfl
@[simp] theorem State.setCg_regs : (s.setCg g f).regs = s.regs := rfl
@[simp] theorem State.setCg_pins : (s.setCg g f).pins = s.pins := rfl
@[simp] theorem State.setCg_nvm : (s.setCg g f).nvm = s.nvm := rfl
@[simp] theorem State.setCg_evt : (s.setCg g f).evt = s.evt := rfl
@[simp] theorem State.setCg_flt : (s.setCg g f).flt = s.flt := rfl
@[simp] theorem State.setCg_link : (s.setCg g f).link = s.link := rfl
@[simp] theorem State.setCg_trx : (s.setCg g f).trx = s.trx := rfl
@[simp] theorem State.setCg_regul : (s.setCg g f).regul = s.regul := rfl
@[simp] theorem State.setCg_chans : (s.setCg g f).chans = s.chans := rfl
@[simp] theorem State.setCg_array : (s.setCg g f).array = s.array := rfl
@[simp] theorem State.setCg_tab : (s.setCg g f).tab = s.tab := rfl
@[simp] theorem State.setCg_capo : (s.setCg g f).capo = s.capo := rfl
@[simp] theorem State.setCg_sensors : (s.setCg g f).sensors = s.sensors := rfl
@[simp] theorem State.setCg_sec : (s.setCg g f).sec = s.sec := rfl
@[simp] theorem State.setCg_cal : (s.setCg g f).cal = s.cal := rfl
@[simp] theorem State.setCg_boot : (s.setCg g f).boot = s.boot := rfl
@[simp] theorem State.setCg_pair : (s.setCg g f).pair = s.pair := rfl
@[simp] theorem State.setCg_rpr : (s.setCg g f).rpr = s.rpr := rfl
@[simp] theorem State.setCg_upd : (s.setCg g f).upd = s.upd := rfl
@[simp] theorem State.setCg_free : (s.setCg g f).free = s.free := rfl
@[simp] theorem State.setCg_pending : (s.setCg g f).pending = s.pending := rfl
@[simp] theorem State.setCg_pwr_doms : (s.setCg g f).pwr.doms = s.pwr.doms := rfl
@[simp] theorem State.setCg_pwr_sentinels : (s.setCg g f).pwr.sentinels = s.pwr.sentinels := rfl
@[simp] theorem State.setCg_pwr_lastDom : (s.setCg g f).pwr.lastDom = s.pwr.lastDom := rfl
@[simp] theorem State.setCg_pwr_lastReason : (s.setCg g f).pwr.lastReason = s.pwr.lastReason := rfl
@[simp] theorem State.setCg_pwr_refusals : (s.setCg g f).pwr.refusals = s.pwr.refusals := rfl
@[simp] theorem State.setCg_pwr_onChecker : (s.setCg g f).pwr.onChecker = s.pwr.onChecker := rfl
@[simp] theorem State.setCg_pwr_checkerBad : (s.setCg g f).pwr.checkerBad = s.pwr.checkerBad := rfl

end setCg

section sensorStart
variable (s : State)

@[simp] theorem State.sensorStart_time : s.sensorStart.time = s.time := rfl
@[simp] theorem State.sensorStart_regs : s.sensorStart.regs = s.regs := rfl
@[simp] theorem State.sensorStart_pins : s.sensorStart.pins = s.pins := rfl
@[simp] theorem State.sensorStart_nvm : s.sensorStart.nvm = s.nvm := rfl
@[simp] theorem State.sensorStart_evt : s.sensorStart.evt = s.evt := rfl
@[simp] theorem State.sensorStart_flt : s.sensorStart.flt = s.flt := rfl
@[simp] theorem State.sensorStart_link : s.sensorStart.link = s.link := rfl
@[simp] theorem State.sensorStart_trx : s.sensorStart.trx = s.trx := rfl
@[simp] theorem State.sensorStart_regul : s.sensorStart.regul = s.regul := rfl
@[simp] theorem State.sensorStart_chans : s.sensorStart.chans = s.chans := rfl
@[simp] theorem State.sensorStart_array : s.sensorStart.array = s.array := rfl
@[simp] theorem State.sensorStart_tab : s.sensorStart.tab = s.tab := rfl
@[simp] theorem State.sensorStart_capo : s.sensorStart.capo = s.capo := rfl
@[simp] theorem State.sensorStart_sec : s.sensorStart.sec = s.sec := rfl
@[simp] theorem State.sensorStart_cal : s.sensorStart.cal = s.cal := rfl
@[simp] theorem State.sensorStart_pwr : s.sensorStart.pwr = s.pwr := rfl
@[simp] theorem State.sensorStart_boot : s.sensorStart.boot = s.boot := rfl
@[simp] theorem State.sensorStart_pair : s.sensorStart.pair = s.pair := rfl
@[simp] theorem State.sensorStart_rpr : s.sensorStart.rpr = s.rpr := rfl
@[simp] theorem State.sensorStart_upd : s.sensorStart.upd = s.upd := rfl
@[simp] theorem State.sensorStart_free : s.sensorStart.free = s.free := rfl
@[simp] theorem State.sensorStart_pending : s.sensorStart.pending = s.pending := rfl

end sensorStart

section setView
variable (s : State) (p : Nat) (v : View) (x : Nat)

@[simp] theorem State.setView_time : (s.setView p v x).time = s.time := rfl
@[simp] theorem State.setView_pins : (s.setView p v x).pins = s.pins := rfl
@[simp] theorem State.setView_nvm : (s.setView p v x).nvm = s.nvm := rfl
@[simp] theorem State.setView_evt : (s.setView p v x).evt = s.evt := rfl
@[simp] theorem State.setView_flt : (s.setView p v x).flt = s.flt := rfl
@[simp] theorem State.setView_link : (s.setView p v x).link = s.link := rfl
@[simp] theorem State.setView_trx : (s.setView p v x).trx = s.trx := rfl
@[simp] theorem State.setView_regul : (s.setView p v x).regul = s.regul := rfl
@[simp] theorem State.setView_chans : (s.setView p v x).chans = s.chans := rfl
@[simp] theorem State.setView_array : (s.setView p v x).array = s.array := rfl
@[simp] theorem State.setView_tab : (s.setView p v x).tab = s.tab := rfl
@[simp] theorem State.setView_capo : (s.setView p v x).capo = s.capo := rfl
@[simp] theorem State.setView_sensors : (s.setView p v x).sensors = s.sensors := rfl
@[simp] theorem State.setView_sec : (s.setView p v x).sec = s.sec := rfl
@[simp] theorem State.setView_cal : (s.setView p v x).cal = s.cal := rfl
@[simp] theorem State.setView_pwr : (s.setView p v x).pwr = s.pwr := rfl
@[simp] theorem State.setView_boot : (s.setView p v x).boot = s.boot := rfl
@[simp] theorem State.setView_pair : (s.setView p v x).pair = s.pair := rfl
@[simp] theorem State.setView_rpr : (s.setView p v x).rpr = s.rpr := rfl
@[simp] theorem State.setView_upd : (s.setView p v x).upd = s.upd := rfl
@[simp] theorem State.setView_free : (s.setView p v x).free = s.free := rfl
@[simp] theorem State.setView_pending : (s.setView p v x).pending = s.pending := rfl
@[simp] theorem State.setView_regs_shadow : (s.setView p v x).regs.shadow = s.regs.shadow := rfl
@[simp] theorem State.setView_regs_force : (s.setView p v x).regs.force = s.regs.force := rfl
@[simp] theorem State.setView_regs_sticky : (s.setView p v x).regs.sticky = s.regs.sticky := rfl
@[simp] theorem State.setView_regs_touched : (s.setView p v x).regs.touched = s.regs.touched := rfl
@[simp] theorem State.setView_regs_counters : (s.setView p v x).regs.counters = s.regs.counters := rfl
@[simp] theorem State.setView_regs_snapAcc : (s.setView p v x).regs.snapAcc = s.regs.snapAcc := rfl
@[simp] theorem State.setView_regs_latch : (s.setView p v x).regs.latch = s.regs.latch := rfl
@[simp] theorem State.setView_regs_posted : (s.setView p v x).regs.posted = s.regs.posted := rfl
@[simp] theorem State.setView_regs_dropped : (s.setView p v x).regs.dropped = s.regs.dropped := rfl
@[simp] theorem State.setView_regs_failed : (s.setView p v x).regs.failed = s.regs.failed := rfl
@[simp] theorem State.setView_regs_stalled : (s.setView p v x).regs.stalled = s.regs.stalled := rfl
@[simp] theorem State.setView_regs_epoch : (s.setView p v x).regs.epoch = s.regs.epoch := rfl
@[simp] theorem State.setView_regs_doneEpoch : (s.setView p v x).regs.doneEpoch = s.regs.doneEpoch := rfl
@[simp] theorem State.setView_regs_commits : (s.setView p v x).regs.commits = s.regs.commits := rfl
@[simp] theorem State.setView_regs_results : (s.setView p v x).regs.results = s.regs.results := rfl
@[simp] theorem State.setView_regs_tickets : (s.setView p v x).regs.tickets = s.regs.tickets := rfl
@[simp] theorem State.setView_regs_snapSeq : (s.setView p v x).regs.snapSeq = s.regs.snapSeq := rfl
@[simp] theorem State.setView_regs_snapBusy : (s.setView p v x).regs.snapBusy = s.regs.snapBusy := rfl
@[simp] theorem State.setView_regs_snapMask : (s.setView p v x).regs.snapMask = s.regs.snapMask := rfl
@[simp] theorem State.setView_regs_snapStamp : (s.setView p v x).regs.snapStamp = s.regs.snapStamp := rfl
@[simp] theorem State.setView_regs_snapshot : (s.setView p v x).regs.snapshot = s.regs.snapshot := rfl
@[simp] theorem State.setView_regs_sumBusy : (s.setView p v x).regs.sumBusy = s.regs.sumBusy := rfl
@[simp] theorem State.setView_regs_window : (s.setView p v x).regs.window = s.regs.window := rfl
@[simp] theorem State.setView_regs_evtCopy : (s.setView p v x).regs.evtCopy = s.regs.evtCopy := rfl
@[simp] theorem State.setView_regs_logCopy : (s.setView p v x).regs.logCopy = s.regs.logCopy := rfl
@[simp] theorem State.setView_regs_smpValue : (s.setView p v x).regs.smpValue = s.regs.smpValue := rfl
@[simp] theorem State.setView_regs_smpStatus : (s.setView p v x).regs.smpStatus = s.regs.smpStatus := rfl
@[simp] theorem State.setView_regs_accSeen : (s.setView p v x).regs.accSeen = s.regs.accSeen := rfl
@[simp] theorem State.setView_regs_nacked : (s.setView p v x).regs.nacked = s.regs.nacked := rfl

end setView

section setLatch
variable (s : State) (p off : Nat) (v : Word)

@[simp] theorem State.setLatch_time : (s.setLatch p off v).time = s.time := rfl
@[simp] theorem State.setLatch_pins : (s.setLatch p off v).pins = s.pins := rfl
@[simp] theorem State.setLatch_nvm : (s.setLatch p off v).nvm = s.nvm := rfl
@[simp] theorem State.setLatch_evt : (s.setLatch p off v).evt = s.evt := rfl
@[simp] theorem State.setLatch_flt : (s.setLatch p off v).flt = s.flt := rfl
@[simp] theorem State.setLatch_link : (s.setLatch p off v).link = s.link := rfl
@[simp] theorem State.setLatch_trx : (s.setLatch p off v).trx = s.trx := rfl
@[simp] theorem State.setLatch_regul : (s.setLatch p off v).regul = s.regul := rfl
@[simp] theorem State.setLatch_chans : (s.setLatch p off v).chans = s.chans := rfl
@[simp] theorem State.setLatch_array : (s.setLatch p off v).array = s.array := rfl
@[simp] theorem State.setLatch_tab : (s.setLatch p off v).tab = s.tab := rfl
@[simp] theorem State.setLatch_capo : (s.setLatch p off v).capo = s.capo := rfl
@[simp] theorem State.setLatch_sensors : (s.setLatch p off v).sensors = s.sensors := rfl
@[simp] theorem State.setLatch_sec : (s.setLatch p off v).sec = s.sec := rfl
@[simp] theorem State.setLatch_cal : (s.setLatch p off v).cal = s.cal := rfl
@[simp] theorem State.setLatch_pwr : (s.setLatch p off v).pwr = s.pwr := rfl
@[simp] theorem State.setLatch_boot : (s.setLatch p off v).boot = s.boot := rfl
@[simp] theorem State.setLatch_pair : (s.setLatch p off v).pair = s.pair := rfl
@[simp] theorem State.setLatch_rpr : (s.setLatch p off v).rpr = s.rpr := rfl
@[simp] theorem State.setLatch_upd : (s.setLatch p off v).upd = s.upd := rfl
@[simp] theorem State.setLatch_free : (s.setLatch p off v).free = s.free := rfl
@[simp] theorem State.setLatch_pending : (s.setLatch p off v).pending = s.pending := rfl
@[simp] theorem State.setLatch_regs_shadow : (s.setLatch p off v).regs.shadow = s.regs.shadow := rfl
@[simp] theorem State.setLatch_regs_force : (s.setLatch p off v).regs.force = s.regs.force := rfl
@[simp] theorem State.setLatch_regs_sticky : (s.setLatch p off v).regs.sticky = s.regs.sticky := rfl
@[simp] theorem State.setLatch_regs_touched : (s.setLatch p off v).regs.touched = s.regs.touched := rfl
@[simp] theorem State.setLatch_regs_counters : (s.setLatch p off v).regs.counters = s.regs.counters := rfl
@[simp] theorem State.setLatch_regs_snapAcc : (s.setLatch p off v).regs.snapAcc = s.regs.snapAcc := rfl
@[simp] theorem State.setLatch_regs_posted : (s.setLatch p off v).regs.posted = s.regs.posted := rfl
@[simp] theorem State.setLatch_regs_dropped : (s.setLatch p off v).regs.dropped = s.regs.dropped := rfl
@[simp] theorem State.setLatch_regs_failed : (s.setLatch p off v).regs.failed = s.regs.failed := rfl
@[simp] theorem State.setLatch_regs_stalled : (s.setLatch p off v).regs.stalled = s.regs.stalled := rfl
@[simp] theorem State.setLatch_regs_epoch : (s.setLatch p off v).regs.epoch = s.regs.epoch := rfl
@[simp] theorem State.setLatch_regs_doneEpoch : (s.setLatch p off v).regs.doneEpoch = s.regs.doneEpoch := rfl
@[simp] theorem State.setLatch_regs_commits : (s.setLatch p off v).regs.commits = s.regs.commits := rfl
@[simp] theorem State.setLatch_regs_results : (s.setLatch p off v).regs.results = s.regs.results := rfl
@[simp] theorem State.setLatch_regs_tickets : (s.setLatch p off v).regs.tickets = s.regs.tickets := rfl
@[simp] theorem State.setLatch_regs_snapSeq : (s.setLatch p off v).regs.snapSeq = s.regs.snapSeq := rfl
@[simp] theorem State.setLatch_regs_snapBusy : (s.setLatch p off v).regs.snapBusy = s.regs.snapBusy := rfl
@[simp] theorem State.setLatch_regs_snapMask : (s.setLatch p off v).regs.snapMask = s.regs.snapMask := rfl
@[simp] theorem State.setLatch_regs_snapStamp : (s.setLatch p off v).regs.snapStamp = s.regs.snapStamp := rfl
@[simp] theorem State.setLatch_regs_snapshot : (s.setLatch p off v).regs.snapshot = s.regs.snapshot := rfl
@[simp] theorem State.setLatch_regs_sumBusy : (s.setLatch p off v).regs.sumBusy = s.regs.sumBusy := rfl
@[simp] theorem State.setLatch_regs_window : (s.setLatch p off v).regs.window = s.regs.window := rfl
@[simp] theorem State.setLatch_regs_views : (s.setLatch p off v).regs.views = s.regs.views := rfl
@[simp] theorem State.setLatch_regs_evtCopy : (s.setLatch p off v).regs.evtCopy = s.regs.evtCopy := rfl
@[simp] theorem State.setLatch_regs_logCopy : (s.setLatch p off v).regs.logCopy = s.regs.logCopy := rfl
@[simp] theorem State.setLatch_regs_smpValue : (s.setLatch p off v).regs.smpValue = s.regs.smpValue := rfl
@[simp] theorem State.setLatch_regs_smpStatus : (s.setLatch p off v).regs.smpStatus = s.regs.smpStatus := rfl
@[simp] theorem State.setLatch_regs_accSeen : (s.setLatch p off v).regs.accSeen = s.regs.accSeen := rfl
@[simp] theorem State.setLatch_regs_nacked : (s.setLatch p off v).regs.nacked = s.regs.nacked := rfl

end setLatch

section smpAnswers
variable (s : State) (ack : Bool)

@[simp] theorem State.smpAnswers_time : (s.smpAnswers ack).time = s.time := rfl
@[simp] theorem State.smpAnswers_regs : (s.smpAnswers ack).regs = s.regs := rfl
@[simp] theorem State.smpAnswers_nvm : (s.smpAnswers ack).nvm = s.nvm := rfl
@[simp] theorem State.smpAnswers_evt : (s.smpAnswers ack).evt = s.evt := rfl
@[simp] theorem State.smpAnswers_flt : (s.smpAnswers ack).flt = s.flt := rfl
@[simp] theorem State.smpAnswers_link : (s.smpAnswers ack).link = s.link := rfl
@[simp] theorem State.smpAnswers_trx : (s.smpAnswers ack).trx = s.trx := rfl
@[simp] theorem State.smpAnswers_regul : (s.smpAnswers ack).regul = s.regul := rfl
@[simp] theorem State.smpAnswers_chans : (s.smpAnswers ack).chans = s.chans := rfl
@[simp] theorem State.smpAnswers_array : (s.smpAnswers ack).array = s.array := rfl
@[simp] theorem State.smpAnswers_tab : (s.smpAnswers ack).tab = s.tab := rfl
@[simp] theorem State.smpAnswers_capo : (s.smpAnswers ack).capo = s.capo := rfl
@[simp] theorem State.smpAnswers_sensors : (s.smpAnswers ack).sensors = s.sensors := rfl
@[simp] theorem State.smpAnswers_sec : (s.smpAnswers ack).sec = s.sec := rfl
@[simp] theorem State.smpAnswers_cal : (s.smpAnswers ack).cal = s.cal := rfl
@[simp] theorem State.smpAnswers_pwr : (s.smpAnswers ack).pwr = s.pwr := rfl
@[simp] theorem State.smpAnswers_boot : (s.smpAnswers ack).boot = s.boot := rfl
@[simp] theorem State.smpAnswers_pair : (s.smpAnswers ack).pair = s.pair := rfl
@[simp] theorem State.smpAnswers_rpr : (s.smpAnswers ack).rpr = s.rpr := rfl
@[simp] theorem State.smpAnswers_upd : (s.smpAnswers ack).upd = s.upd := rfl
@[simp] theorem State.smpAnswers_free : (s.smpAnswers ack).free = s.free := rfl
@[simp] theorem State.smpAnswers_pending : (s.smpAnswers ack).pending = s.pending := rfl
@[simp] theorem State.smpAnswers_pins_pwrGood : (s.smpAnswers ack).pins.pwrGood = s.pins.pwrGood := rfl
@[simp] theorem State.smpAnswers_pins_instId : (s.smpAnswers ack).pins.instId = s.pins.instId := rfl
@[simp] theorem State.smpAnswers_pins_nvmRdy : (s.smpAnswers ack).pins.nvmRdy = s.pins.nvmRdy := rfl
@[simp] theorem State.smpAnswers_pins_pswRdy : (s.smpAnswers ack).pins.pswRdy = s.pins.pswRdy := rfl
@[simp] theorem State.smpAnswers_pins_pswEn : (s.smpAnswers ack).pins.pswEn = s.pins.pswEn := rfl
@[simp] theorem State.smpAnswers_pins_chRst : (s.smpAnswers ack).pins.chRst = s.pins.chRst := rfl
@[simp] theorem State.smpAnswers_pins_regRdy : (s.smpAnswers ack).pins.regRdy = s.pins.regRdy := rfl
@[simp] theorem State.smpAnswers_pins_regOcw : (s.smpAnswers ack).pins.regOcw = s.pins.regOcw := rfl
@[simp] theorem State.smpAnswers_pins_smpIbi : (s.smpAnswers ack).pins.smpIbi = s.pins.smpIbi := rfl
@[simp] theorem State.smpAnswers_pins_smpAddr : (s.smpAnswers ack).pins.smpAddr = s.pins.smpAddr := rfl
@[simp] theorem State.smpAnswers_pins_svcAddr : (s.smpAnswers ack).pins.svcAddr = s.pins.svcAddr := rfl
@[simp] theorem State.smpAnswers_pins_svcAck : (s.smpAnswers ack).pins.svcAck = s.pins.svcAck := rfl
@[simp] theorem State.smpAnswers_pins_daa : (s.smpAnswers ack).pins.daa = s.pins.daa := rfl
@[simp] theorem State.smpAnswers_pins_brgFreq : (s.smpAnswers ack).pins.brgFreq = s.pins.brgFreq := rfl
@[simp] theorem State.smpAnswers_pins_brgFgnt : (s.smpAnswers ack).pins.brgFgnt = s.pins.brgFgnt := rfl
@[simp] theorem State.smpAnswers_pins_sfenced : (s.smpAnswers ack).pins.sfenced = s.pins.sfenced := rfl
@[simp] theorem State.smpAnswers_pins_brgXen : (s.smpAnswers ack).pins.brgXen = s.pins.brgXen := rfl
@[simp] theorem State.smpAnswers_pins_brgXrdy : (s.smpAnswers ack).pins.brgXrdy = s.pins.brgXrdy := rfl
@[simp] theorem State.smpAnswers_pins_txLock : (s.smpAnswers ack).pins.txLock = s.pins.txLock := rfl
@[simp] theorem State.smpAnswers_pins_wrstN : (s.smpAnswers ack).pins.wrstN = s.pins.wrstN := rfl

end smpAnswers

section putShadow
variable (s : State) (f : Field) (n i v : Nat)

@[simp] theorem State.putShadow_time : (s.putShadow f n i v).time = s.time := rfl
@[simp] theorem State.putShadow_pins : (s.putShadow f n i v).pins = s.pins := rfl
@[simp] theorem State.putShadow_nvm : (s.putShadow f n i v).nvm = s.nvm := rfl
@[simp] theorem State.putShadow_evt : (s.putShadow f n i v).evt = s.evt := rfl
@[simp] theorem State.putShadow_flt : (s.putShadow f n i v).flt = s.flt := rfl
@[simp] theorem State.putShadow_link : (s.putShadow f n i v).link = s.link := rfl
@[simp] theorem State.putShadow_trx : (s.putShadow f n i v).trx = s.trx := rfl
@[simp] theorem State.putShadow_regul : (s.putShadow f n i v).regul = s.regul := rfl
@[simp] theorem State.putShadow_chans : (s.putShadow f n i v).chans = s.chans := rfl
@[simp] theorem State.putShadow_array : (s.putShadow f n i v).array = s.array := rfl
@[simp] theorem State.putShadow_tab : (s.putShadow f n i v).tab = s.tab := rfl
@[simp] theorem State.putShadow_capo : (s.putShadow f n i v).capo = s.capo := rfl
@[simp] theorem State.putShadow_sensors : (s.putShadow f n i v).sensors = s.sensors := rfl
@[simp] theorem State.putShadow_sec : (s.putShadow f n i v).sec = s.sec := rfl
@[simp] theorem State.putShadow_cal : (s.putShadow f n i v).cal = s.cal := rfl
@[simp] theorem State.putShadow_pwr : (s.putShadow f n i v).pwr = s.pwr := rfl
@[simp] theorem State.putShadow_boot : (s.putShadow f n i v).boot = s.boot := rfl
@[simp] theorem State.putShadow_pair : (s.putShadow f n i v).pair = s.pair := rfl
@[simp] theorem State.putShadow_rpr : (s.putShadow f n i v).rpr = s.rpr := rfl
@[simp] theorem State.putShadow_upd : (s.putShadow f n i v).upd = s.upd := rfl
@[simp] theorem State.putShadow_free : (s.putShadow f n i v).free = s.free := rfl
@[simp] theorem State.putShadow_pending : (s.putShadow f n i v).pending = s.pending := rfl
@[simp] theorem State.putShadow_regs_force : (s.putShadow f n i v).regs.force = s.regs.force := rfl
@[simp] theorem State.putShadow_regs_sticky : (s.putShadow f n i v).regs.sticky = s.regs.sticky := rfl
@[simp] theorem State.putShadow_regs_counters : (s.putShadow f n i v).regs.counters = s.regs.counters := rfl
@[simp] theorem State.putShadow_regs_snapAcc : (s.putShadow f n i v).regs.snapAcc = s.regs.snapAcc := rfl
@[simp] theorem State.putShadow_regs_latch : (s.putShadow f n i v).regs.latch = s.regs.latch := rfl
@[simp] theorem State.putShadow_regs_posted : (s.putShadow f n i v).regs.posted = s.regs.posted := rfl
@[simp] theorem State.putShadow_regs_dropped : (s.putShadow f n i v).regs.dropped = s.regs.dropped := rfl
@[simp] theorem State.putShadow_regs_failed : (s.putShadow f n i v).regs.failed = s.regs.failed := rfl
@[simp] theorem State.putShadow_regs_stalled : (s.putShadow f n i v).regs.stalled = s.regs.stalled := rfl
@[simp] theorem State.putShadow_regs_epoch : (s.putShadow f n i v).regs.epoch = s.regs.epoch := rfl
@[simp] theorem State.putShadow_regs_doneEpoch : (s.putShadow f n i v).regs.doneEpoch = s.regs.doneEpoch := rfl
@[simp] theorem State.putShadow_regs_commits : (s.putShadow f n i v).regs.commits = s.regs.commits := rfl
@[simp] theorem State.putShadow_regs_results : (s.putShadow f n i v).regs.results = s.regs.results := rfl
@[simp] theorem State.putShadow_regs_tickets : (s.putShadow f n i v).regs.tickets = s.regs.tickets := rfl
@[simp] theorem State.putShadow_regs_snapSeq : (s.putShadow f n i v).regs.snapSeq = s.regs.snapSeq := rfl
@[simp] theorem State.putShadow_regs_snapBusy : (s.putShadow f n i v).regs.snapBusy = s.regs.snapBusy := rfl
@[simp] theorem State.putShadow_regs_snapMask : (s.putShadow f n i v).regs.snapMask = s.regs.snapMask := rfl
@[simp] theorem State.putShadow_regs_snapStamp : (s.putShadow f n i v).regs.snapStamp = s.regs.snapStamp := rfl
@[simp] theorem State.putShadow_regs_snapshot : (s.putShadow f n i v).regs.snapshot = s.regs.snapshot := rfl
@[simp] theorem State.putShadow_regs_sumBusy : (s.putShadow f n i v).regs.sumBusy = s.regs.sumBusy := rfl
@[simp] theorem State.putShadow_regs_window : (s.putShadow f n i v).regs.window = s.regs.window := rfl
@[simp] theorem State.putShadow_regs_views : (s.putShadow f n i v).regs.views = s.regs.views := rfl
@[simp] theorem State.putShadow_regs_evtCopy : (s.putShadow f n i v).regs.evtCopy = s.regs.evtCopy := rfl
@[simp] theorem State.putShadow_regs_logCopy : (s.putShadow f n i v).regs.logCopy = s.regs.logCopy := rfl
@[simp] theorem State.putShadow_regs_smpValue : (s.putShadow f n i v).regs.smpValue = s.regs.smpValue := rfl
@[simp] theorem State.putShadow_regs_smpStatus : (s.putShadow f n i v).regs.smpStatus = s.regs.smpStatus := rfl
@[simp] theorem State.putShadow_regs_accSeen : (s.putShadow f n i v).regs.accSeen = s.regs.accSeen := rfl
@[simp] theorem State.putShadow_regs_nacked : (s.putShadow f n i v).regs.nacked = s.regs.nacked := rfl

end putShadow

section finishCommit
variable (s : State) (c : Commit) (reject reason result : Nat)

@[simp] theorem State.finishCommit_time : (s.finishCommit c reject reason result).time = s.time := rfl
@[simp] theorem State.finishCommit_pins : (s.finishCommit c reject reason result).pins = s.pins := rfl
@[simp] theorem State.finishCommit_nvm : (s.finishCommit c reject reason result).nvm = s.nvm := rfl
@[simp] theorem State.finishCommit_evt : (s.finishCommit c reject reason result).evt = s.evt := rfl
@[simp] theorem State.finishCommit_flt : (s.finishCommit c reject reason result).flt = s.flt := rfl
@[simp] theorem State.finishCommit_link : (s.finishCommit c reject reason result).link = s.link := rfl
@[simp] theorem State.finishCommit_trx : (s.finishCommit c reject reason result).trx = s.trx := rfl
@[simp] theorem State.finishCommit_regul : (s.finishCommit c reject reason result).regul = s.regul := rfl
@[simp] theorem State.finishCommit_chans : (s.finishCommit c reject reason result).chans = s.chans := rfl
@[simp] theorem State.finishCommit_array : (s.finishCommit c reject reason result).array = s.array := rfl
@[simp] theorem State.finishCommit_tab : (s.finishCommit c reject reason result).tab = s.tab := rfl
@[simp] theorem State.finishCommit_capo : (s.finishCommit c reject reason result).capo = s.capo := rfl
@[simp] theorem State.finishCommit_sensors : (s.finishCommit c reject reason result).sensors = s.sensors := rfl
@[simp] theorem State.finishCommit_sec : (s.finishCommit c reject reason result).sec = s.sec := rfl
@[simp] theorem State.finishCommit_cal : (s.finishCommit c reject reason result).cal = s.cal := rfl
@[simp] theorem State.finishCommit_pwr : (s.finishCommit c reject reason result).pwr = s.pwr := rfl
@[simp] theorem State.finishCommit_boot : (s.finishCommit c reject reason result).boot = s.boot := rfl
@[simp] theorem State.finishCommit_pair : (s.finishCommit c reject reason result).pair = s.pair := rfl
@[simp] theorem State.finishCommit_rpr : (s.finishCommit c reject reason result).rpr = s.rpr := rfl
@[simp] theorem State.finishCommit_upd : (s.finishCommit c reject reason result).upd = s.upd := rfl
@[simp] theorem State.finishCommit_free : (s.finishCommit c reject reason result).free = s.free := rfl
@[simp] theorem State.finishCommit_pending : (s.finishCommit c reject reason result).pending = s.pending := rfl
@[simp] theorem State.finishCommit_regs_shadow : (s.finishCommit c reject reason result).regs.shadow = s.regs.shadow := rfl
@[simp] theorem State.finishCommit_regs_force : (s.finishCommit c reject reason result).regs.force = s.regs.force := rfl
@[simp] theorem State.finishCommit_regs_sticky : (s.finishCommit c reject reason result).regs.sticky = s.regs.sticky := rfl
@[simp] theorem State.finishCommit_regs_touched : (s.finishCommit c reject reason result).regs.touched = s.regs.touched := rfl
@[simp] theorem State.finishCommit_regs_counters : (s.finishCommit c reject reason result).regs.counters = s.regs.counters := rfl
@[simp] theorem State.finishCommit_regs_snapAcc : (s.finishCommit c reject reason result).regs.snapAcc = s.regs.snapAcc := rfl
@[simp] theorem State.finishCommit_regs_latch : (s.finishCommit c reject reason result).regs.latch = s.regs.latch := rfl
@[simp] theorem State.finishCommit_regs_posted : (s.finishCommit c reject reason result).regs.posted = s.regs.posted := rfl
@[simp] theorem State.finishCommit_regs_dropped : (s.finishCommit c reject reason result).regs.dropped = s.regs.dropped := rfl
@[simp] theorem State.finishCommit_regs_failed : (s.finishCommit c reject reason result).regs.failed = s.regs.failed := rfl
@[simp] theorem State.finishCommit_regs_stalled : (s.finishCommit c reject reason result).regs.stalled = s.regs.stalled := rfl
@[simp] theorem State.finishCommit_regs_epoch : (s.finishCommit c reject reason result).regs.epoch = s.regs.epoch := rfl
@[simp] theorem State.finishCommit_regs_tickets : (s.finishCommit c reject reason result).regs.tickets = s.regs.tickets := rfl
@[simp] theorem State.finishCommit_regs_snapSeq : (s.finishCommit c reject reason result).regs.snapSeq = s.regs.snapSeq := rfl
@[simp] theorem State.finishCommit_regs_snapBusy : (s.finishCommit c reject reason result).regs.snapBusy = s.regs.snapBusy := rfl
@[simp] theorem State.finishCommit_regs_snapMask : (s.finishCommit c reject reason result).regs.snapMask = s.regs.snapMask := rfl
@[simp] theorem State.finishCommit_regs_snapStamp : (s.finishCommit c reject reason result).regs.snapStamp = s.regs.snapStamp := rfl
@[simp] theorem State.finishCommit_regs_snapshot : (s.finishCommit c reject reason result).regs.snapshot = s.regs.snapshot := rfl
@[simp] theorem State.finishCommit_regs_sumBusy : (s.finishCommit c reject reason result).regs.sumBusy = s.regs.sumBusy := rfl
@[simp] theorem State.finishCommit_regs_window : (s.finishCommit c reject reason result).regs.window = s.regs.window := rfl
@[simp] theorem State.finishCommit_regs_views : (s.finishCommit c reject reason result).regs.views = s.regs.views := rfl
@[simp] theorem State.finishCommit_regs_evtCopy : (s.finishCommit c reject reason result).regs.evtCopy = s.regs.evtCopy := rfl
@[simp] theorem State.finishCommit_regs_logCopy : (s.finishCommit c reject reason result).regs.logCopy = s.regs.logCopy := rfl
@[simp] theorem State.finishCommit_regs_smpValue : (s.finishCommit c reject reason result).regs.smpValue = s.regs.smpValue := rfl
@[simp] theorem State.finishCommit_regs_smpStatus : (s.finishCommit c reject reason result).regs.smpStatus = s.regs.smpStatus := rfl
@[simp] theorem State.finishCommit_regs_accSeen : (s.finishCommit c reject reason result).regs.accSeen = s.regs.accSeen := rfl
@[simp] theorem State.finishCommit_regs_nacked : (s.finishCommit c reject reason result).regs.nacked = s.regs.nacked := rfl

end finishCommit

section setCommit
variable (s : State) (e : Nat) (f : Commit → Commit)

@[simp] theorem State.setCommit_time : (s.setCommit e f).time = s.time := rfl
@[simp] theorem State.setCommit_pins : (s.setCommit e f).pins = s.pins := rfl
@[simp] theorem State.setCommit_nvm : (s.setCommit e f).nvm = s.nvm := rfl
@[simp] theorem State.setCommit_evt : (s.setCommit e f).evt = s.evt := rfl
@[simp] theorem State.setCommit_flt : (s.setCommit e f).flt = s.flt := rfl
@[simp] theorem State.setCommit_link : (s.setCommit e f).link = s.link := rfl
@[simp] theorem State.setCommit_trx : (s.setCommit e f).trx = s.trx := rfl
@[simp] theorem State.setCommit_regul : (s.setCommit e f).regul = s.regul := rfl
@[simp] theorem State.setCommit_chans : (s.setCommit e f).chans = s.chans := rfl
@[simp] theorem State.setCommit_array : (s.setCommit e f).array = s.array := rfl
@[simp] theorem State.setCommit_tab : (s.setCommit e f).tab = s.tab := rfl
@[simp] theorem State.setCommit_capo : (s.setCommit e f).capo = s.capo := rfl
@[simp] theorem State.setCommit_sensors : (s.setCommit e f).sensors = s.sensors := rfl
@[simp] theorem State.setCommit_sec : (s.setCommit e f).sec = s.sec := rfl
@[simp] theorem State.setCommit_cal : (s.setCommit e f).cal = s.cal := rfl
@[simp] theorem State.setCommit_pwr : (s.setCommit e f).pwr = s.pwr := rfl
@[simp] theorem State.setCommit_boot : (s.setCommit e f).boot = s.boot := rfl
@[simp] theorem State.setCommit_pair : (s.setCommit e f).pair = s.pair := rfl
@[simp] theorem State.setCommit_rpr : (s.setCommit e f).rpr = s.rpr := rfl
@[simp] theorem State.setCommit_upd : (s.setCommit e f).upd = s.upd := rfl
@[simp] theorem State.setCommit_free : (s.setCommit e f).free = s.free := rfl
@[simp] theorem State.setCommit_pending : (s.setCommit e f).pending = s.pending := rfl
@[simp] theorem State.setCommit_regs_shadow : (s.setCommit e f).regs.shadow = s.regs.shadow := rfl
@[simp] theorem State.setCommit_regs_force : (s.setCommit e f).regs.force = s.regs.force := rfl
@[simp] theorem State.setCommit_regs_sticky : (s.setCommit e f).regs.sticky = s.regs.sticky := rfl
@[simp] theorem State.setCommit_regs_touched : (s.setCommit e f).regs.touched = s.regs.touched := rfl
@[simp] theorem State.setCommit_regs_counters : (s.setCommit e f).regs.counters = s.regs.counters := rfl
@[simp] theorem State.setCommit_regs_snapAcc : (s.setCommit e f).regs.snapAcc = s.regs.snapAcc := rfl
@[simp] theorem State.setCommit_regs_latch : (s.setCommit e f).regs.latch = s.regs.latch := rfl
@[simp] theorem State.setCommit_regs_posted : (s.setCommit e f).regs.posted = s.regs.posted := rfl
@[simp] theorem State.setCommit_regs_dropped : (s.setCommit e f).regs.dropped = s.regs.dropped := rfl
@[simp] theorem State.setCommit_regs_failed : (s.setCommit e f).regs.failed = s.regs.failed := rfl
@[simp] theorem State.setCommit_regs_stalled : (s.setCommit e f).regs.stalled = s.regs.stalled := rfl
@[simp] theorem State.setCommit_regs_epoch : (s.setCommit e f).regs.epoch = s.regs.epoch := rfl
@[simp] theorem State.setCommit_regs_doneEpoch : (s.setCommit e f).regs.doneEpoch = s.regs.doneEpoch := rfl
@[simp] theorem State.setCommit_regs_results : (s.setCommit e f).regs.results = s.regs.results := rfl
@[simp] theorem State.setCommit_regs_tickets : (s.setCommit e f).regs.tickets = s.regs.tickets := rfl
@[simp] theorem State.setCommit_regs_snapSeq : (s.setCommit e f).regs.snapSeq = s.regs.snapSeq := rfl
@[simp] theorem State.setCommit_regs_snapBusy : (s.setCommit e f).regs.snapBusy = s.regs.snapBusy := rfl
@[simp] theorem State.setCommit_regs_snapMask : (s.setCommit e f).regs.snapMask = s.regs.snapMask := rfl
@[simp] theorem State.setCommit_regs_snapStamp : (s.setCommit e f).regs.snapStamp = s.regs.snapStamp := rfl
@[simp] theorem State.setCommit_regs_snapshot : (s.setCommit e f).regs.snapshot = s.regs.snapshot := rfl
@[simp] theorem State.setCommit_regs_sumBusy : (s.setCommit e f).regs.sumBusy = s.regs.sumBusy := rfl
@[simp] theorem State.setCommit_regs_window : (s.setCommit e f).regs.window = s.regs.window := rfl
@[simp] theorem State.setCommit_regs_views : (s.setCommit e f).regs.views = s.regs.views := rfl
@[simp] theorem State.setCommit_regs_evtCopy : (s.setCommit e f).regs.evtCopy = s.regs.evtCopy := rfl
@[simp] theorem State.setCommit_regs_logCopy : (s.setCommit e f).regs.logCopy = s.regs.logCopy := rfl
@[simp] theorem State.setCommit_regs_smpValue : (s.setCommit e f).regs.smpValue = s.regs.smpValue := rfl
@[simp] theorem State.setCommit_regs_smpStatus : (s.setCommit e f).regs.smpStatus = s.regs.smpStatus := rfl
@[simp] theorem State.setCommit_regs_accSeen : (s.setCommit e f).regs.accSeen = s.regs.accSeen := rfl
@[simp] theorem State.setCommit_regs_nacked : (s.setCommit e f).regs.nacked = s.regs.nacked := rfl

end setCommit

section svc
variable (s : State) (code result : Nat)

@[simp] theorem State.svc_time : (s.svc code result).time = s.time := rfl
@[simp] theorem State.svc_regs : (s.svc code result).regs = s.regs := rfl
@[simp] theorem State.svc_pins : (s.svc code result).pins = s.pins := rfl
@[simp] theorem State.svc_nvm : (s.svc code result).nvm = s.nvm := rfl
@[simp] theorem State.svc_evt : (s.svc code result).evt = s.evt := rfl
@[simp] theorem State.svc_flt : (s.svc code result).flt = s.flt := rfl
@[simp] theorem State.svc_link : (s.svc code result).link = s.link := rfl
@[simp] theorem State.svc_trx : (s.svc code result).trx = s.trx := rfl
@[simp] theorem State.svc_regul : (s.svc code result).regul = s.regul := rfl
@[simp] theorem State.svc_chans : (s.svc code result).chans = s.chans := rfl
@[simp] theorem State.svc_array : (s.svc code result).array = s.array := rfl
@[simp] theorem State.svc_tab : (s.svc code result).tab = s.tab := rfl
@[simp] theorem State.svc_capo : (s.svc code result).capo = s.capo := rfl
@[simp] theorem State.svc_sensors : (s.svc code result).sensors = s.sensors := rfl
@[simp] theorem State.svc_sec : (s.svc code result).sec = s.sec := rfl
@[simp] theorem State.svc_cal : (s.svc code result).cal = s.cal := rfl
@[simp] theorem State.svc_pwr : (s.svc code result).pwr = s.pwr := rfl
@[simp] theorem State.svc_boot : (s.svc code result).boot = s.boot := rfl
@[simp] theorem State.svc_pair : (s.svc code result).pair = s.pair := rfl
@[simp] theorem State.svc_rpr : (s.svc code result).rpr = s.rpr := rfl
@[simp] theorem State.svc_free : (s.svc code result).free = s.free := rfl
@[simp] theorem State.svc_pending : (s.svc code result).pending = s.pending := rfl
@[simp] theorem State.svc_upd_stage0 : (s.svc code result).upd.stage0 = s.upd.stage0 := rfl
@[simp] theorem State.svc_upd_component : (s.svc code result).upd.component = s.upd.component := rfl
@[simp] theorem State.svc_upd_readMap : (s.svc code result).upd.readMap = s.upd.readMap := rfl
@[simp] theorem State.svc_upd_busy : (s.svc code result).upd.busy = s.upd.busy := rfl
@[simp] theorem State.svc_upd_activate : (s.svc code result).upd.activate = s.upd.activate := rfl
@[simp] theorem State.svc_upd_restartAt : (s.svc code result).upd.restartAt = s.upd.restartAt := rfl
@[simp] theorem State.svc_upd_cause : (s.svc code result).upd.cause = s.upd.cause := rfl
@[simp] theorem State.svc_upd_selfPass : (s.svc code result).upd.selfPass = s.upd.selfPass := rfl
@[simp] theorem State.svc_upd_testing : (s.svc code result).upd.testing = s.upd.testing := rfl
@[simp] theorem State.svc_upd_probFrom : (s.svc code result).upd.probFrom = s.upd.probFrom := rfl
@[simp] theorem State.svc_upd_probEnd : (s.svc code result).upd.probEnd = s.upd.probEnd := rfl
@[simp] theorem State.svc_upd_late : (s.svc code result).upd.late = s.upd.late := rfl

end svc

section setStage
variable (s : State) (x : BootStage)

@[simp] theorem State.setStage_time : (s.setStage x).time = s.time := rfl
@[simp] theorem State.setStage_regs : (s.setStage x).regs = s.regs := rfl
@[simp] theorem State.setStage_pins : (s.setStage x).pins = s.pins := rfl
@[simp] theorem State.setStage_nvm : (s.setStage x).nvm = s.nvm := rfl
@[simp] theorem State.setStage_evt : (s.setStage x).evt = s.evt := rfl
@[simp] theorem State.setStage_flt : (s.setStage x).flt = s.flt := rfl
@[simp] theorem State.setStage_link : (s.setStage x).link = s.link := rfl
@[simp] theorem State.setStage_trx : (s.setStage x).trx = s.trx := rfl
@[simp] theorem State.setStage_regul : (s.setStage x).regul = s.regul := rfl
@[simp] theorem State.setStage_chans : (s.setStage x).chans = s.chans := rfl
@[simp] theorem State.setStage_array : (s.setStage x).array = s.array := rfl
@[simp] theorem State.setStage_tab : (s.setStage x).tab = s.tab := rfl
@[simp] theorem State.setStage_capo : (s.setStage x).capo = s.capo := rfl
@[simp] theorem State.setStage_sensors : (s.setStage x).sensors = s.sensors := rfl
@[simp] theorem State.setStage_sec : (s.setStage x).sec = s.sec := rfl
@[simp] theorem State.setStage_cal : (s.setStage x).cal = s.cal := rfl
@[simp] theorem State.setStage_pwr : (s.setStage x).pwr = s.pwr := rfl
@[simp] theorem State.setStage_pair : (s.setStage x).pair = s.pair := rfl
@[simp] theorem State.setStage_rpr : (s.setStage x).rpr = s.rpr := rfl
@[simp] theorem State.setStage_upd : (s.setStage x).upd = s.upd := rfl
@[simp] theorem State.setStage_free : (s.setStage x).free = s.free := rfl
@[simp] theorem State.setStage_pending : (s.setStage x).pending = s.pending := rfl
@[simp] theorem State.setStage_boot_fail : (s.setStage x).boot.fail = s.boot.fail := rfl
@[simp] theorem State.setStage_boot_waiting : (s.setStage x).boot.waiting = s.boot.waiting := rfl
@[simp] theorem State.setStage_boot_brec : (s.setStage x).boot.brec = s.boot.brec := rfl
@[simp] theorem State.setStage_boot_copyBad : (s.setStage x).boot.copyBad = s.boot.copyBad := rfl
@[simp] theorem State.setStage_boot_running : (s.setStage x).boot.running = s.boot.running := rfl
@[simp] theorem State.setStage_boot_fellBack : (s.setStage x).boot.fellBack = s.boot.fellBack := rfl
@[simp] theorem State.setStage_boot_secVer : (s.setStage x).boot.secVer = s.boot.secVer := rfl
@[simp] theorem State.setStage_boot_digest : (s.setStage x).boot.digest = s.boot.digest := rfl
@[simp] theorem State.setStage_boot_schema : (s.setStage x).boot.schema = s.boot.schema := rfl
@[simp] theorem State.setStage_boot_pairFlag : (s.setStage x).boot.pairFlag = s.boot.pairFlag := rfl
@[simp] theorem State.setStage_boot_chReady : (s.setStage x).boot.chReady = s.boot.chReady := rfl
@[simp] theorem State.setStage_boot_trainLeft : (s.setStage x).boot.trainLeft = s.boot.trainLeft := rfl
@[simp] theorem State.setStage_boot_calLeft : (s.setStage x).boot.calLeft = s.boot.calLeft := rfl
@[simp] theorem State.setStage_boot_readyTick : (s.setStage x).boot.readyTick = s.boot.readyTick := rfl
@[simp] theorem State.setStage_boot_pageNow : (s.setStage x).boot.pageNow = s.boot.pageNow := rfl
@[simp] theorem State.setStage_boot_pageSeq : (s.setStage x).boot.pageSeq = s.boot.pageSeq := rfl
@[simp] theorem State.setStage_boot_savedEpoch : (s.setStage x).boot.savedEpoch = s.boot.savedEpoch := rfl
@[simp] theorem State.setStage_boot_setDefault : (s.setStage x).boot.setDefault = s.boot.setDefault := rfl
@[simp] theorem State.setStage_boot_heldStart : (s.setStage x).boot.heldStart = s.boot.heldStart := rfl
@[simp] theorem State.setStage_boot_saving : (s.setStage x).boot.saving = s.boot.saving := rfl
@[simp] theorem State.setStage_boot_schemaMap : (s.setStage x).boot.schemaMap = s.boot.schemaMap := rfl

end setStage

section holdResets
variable (s : State)

@[simp] theorem State.holdResets_time : s.holdResets.time = s.time := rfl
@[simp] theorem State.holdResets_regs : s.holdResets.regs = s.regs := rfl
@[simp] theorem State.holdResets_nvm : s.holdResets.nvm = s.nvm := rfl
@[simp] theorem State.holdResets_evt : s.holdResets.evt = s.evt := rfl
@[simp] theorem State.holdResets_flt : s.holdResets.flt = s.flt := rfl
@[simp] theorem State.holdResets_link : s.holdResets.link = s.link := rfl
@[simp] theorem State.holdResets_trx : s.holdResets.trx = s.trx := rfl
@[simp] theorem State.holdResets_regul : s.holdResets.regul = s.regul := rfl
@[simp] theorem State.holdResets_chans : s.holdResets.chans = s.chans := rfl
@[simp] theorem State.holdResets_array : s.holdResets.array = s.array := rfl
@[simp] theorem State.holdResets_tab : s.holdResets.tab = s.tab := rfl
@[simp] theorem State.holdResets_capo : s.holdResets.capo = s.capo := rfl
@[simp] theorem State.holdResets_sensors : s.holdResets.sensors = s.sensors := rfl
@[simp] theorem State.holdResets_sec : s.holdResets.sec = s.sec := rfl
@[simp] theorem State.holdResets_cal : s.holdResets.cal = s.cal := rfl
@[simp] theorem State.holdResets_pwr : s.holdResets.pwr = s.pwr := rfl
@[simp] theorem State.holdResets_boot : s.holdResets.boot = s.boot := rfl
@[simp] theorem State.holdResets_pair : s.holdResets.pair = s.pair := rfl
@[simp] theorem State.holdResets_rpr : s.holdResets.rpr = s.rpr := rfl
@[simp] theorem State.holdResets_upd : s.holdResets.upd = s.upd := rfl
@[simp] theorem State.holdResets_free : s.holdResets.free = s.free := rfl
@[simp] theorem State.holdResets_pending : s.holdResets.pending = s.pending := rfl
@[simp] theorem State.holdResets_pins_pwrGood : s.holdResets.pins.pwrGood = s.pins.pwrGood := rfl
@[simp] theorem State.holdResets_pins_instId : s.holdResets.pins.instId = s.pins.instId := rfl
@[simp] theorem State.holdResets_pins_nvmRdy : s.holdResets.pins.nvmRdy = s.pins.nvmRdy := rfl
@[simp] theorem State.holdResets_pins_pswRdy : s.holdResets.pins.pswRdy = s.pins.pswRdy := rfl
@[simp] theorem State.holdResets_pins_pswEn : s.holdResets.pins.pswEn = s.pins.pswEn := rfl
@[simp] theorem State.holdResets_pins_regRdy : s.holdResets.pins.regRdy = s.pins.regRdy := rfl
@[simp] theorem State.holdResets_pins_regOcw : s.holdResets.pins.regOcw = s.pins.regOcw := rfl
@[simp] theorem State.holdResets_pins_smpAck : s.holdResets.pins.smpAck = s.pins.smpAck := rfl
@[simp] theorem State.holdResets_pins_smpIbi : s.holdResets.pins.smpIbi = s.pins.smpIbi := rfl
@[simp] theorem State.holdResets_pins_smpAddr : s.holdResets.pins.smpAddr = s.pins.smpAddr := rfl
@[simp] theorem State.holdResets_pins_svcAddr : s.holdResets.pins.svcAddr = s.pins.svcAddr := rfl
@[simp] theorem State.holdResets_pins_svcAck : s.holdResets.pins.svcAck = s.pins.svcAck := rfl
@[simp] theorem State.holdResets_pins_daa : s.holdResets.pins.daa = s.pins.daa := rfl
@[simp] theorem State.holdResets_pins_brgFreq : s.holdResets.pins.brgFreq = s.pins.brgFreq := rfl
@[simp] theorem State.holdResets_pins_brgFgnt : s.holdResets.pins.brgFgnt = s.pins.brgFgnt := rfl
@[simp] theorem State.holdResets_pins_sfenced : s.holdResets.pins.sfenced = s.pins.sfenced := rfl
@[simp] theorem State.holdResets_pins_brgXen : s.holdResets.pins.brgXen = s.pins.brgXen := rfl
@[simp] theorem State.holdResets_pins_brgXrdy : s.holdResets.pins.brgXrdy = s.pins.brgXrdy := rfl
@[simp] theorem State.holdResets_pins_txLock : s.holdResets.pins.txLock = s.pins.txLock := rfl
@[simp] theorem State.holdResets_pins_wrstN : s.holdResets.pins.wrstN = s.pins.wrstN := rfl

end holdResets

section withEntries
variable (s : State) (n : Nat)

@[simp] theorem State.withEntries_time : (s.withEntries n).time = s.time := rfl
@[simp] theorem State.withEntries_regs : (s.withEntries n).regs = s.regs := rfl
@[simp] theorem State.withEntries_pins : (s.withEntries n).pins = s.pins := rfl
@[simp] theorem State.withEntries_nvm : (s.withEntries n).nvm = s.nvm := rfl
@[simp] theorem State.withEntries_evt : (s.withEntries n).evt = s.evt := rfl
@[simp] theorem State.withEntries_flt : (s.withEntries n).flt = s.flt := rfl
@[simp] theorem State.withEntries_link : (s.withEntries n).link = s.link := rfl
@[simp] theorem State.withEntries_trx : (s.withEntries n).trx = s.trx := rfl
@[simp] theorem State.withEntries_regul : (s.withEntries n).regul = s.regul := rfl
@[simp] theorem State.withEntries_chans : (s.withEntries n).chans = s.chans := rfl
@[simp] theorem State.withEntries_array : (s.withEntries n).array = s.array := rfl
@[simp] theorem State.withEntries_tab : (s.withEntries n).tab = s.tab := rfl
@[simp] theorem State.withEntries_capo : (s.withEntries n).capo = s.capo := rfl
@[simp] theorem State.withEntries_sensors : (s.withEntries n).sensors = s.sensors := rfl
@[simp] theorem State.withEntries_cal : (s.withEntries n).cal = s.cal := rfl
@[simp] theorem State.withEntries_pwr : (s.withEntries n).pwr = s.pwr := rfl
@[simp] theorem State.withEntries_boot : (s.withEntries n).boot = s.boot := rfl
@[simp] theorem State.withEntries_pair : (s.withEntries n).pair = s.pair := rfl
@[simp] theorem State.withEntries_rpr : (s.withEntries n).rpr = s.rpr := rfl
@[simp] theorem State.withEntries_upd : (s.withEntries n).upd = s.upd := rfl
@[simp] theorem State.withEntries_free : (s.withEntries n).free = s.free := rfl
@[simp] theorem State.withEntries_pending : (s.withEntries n).pending = s.pending := rfl
@[simp] theorem State.withEntries_sec_own : (s.withEntries n).sec.own = s.sec.own := rfl
@[simp] theorem State.withEntries_sec_partner : (s.withEntries n).sec.partner = s.sec.partner := rfl
@[simp] theorem State.withEntries_sec_drbgOk : (s.withEntries n).sec.drbgOk = s.sec.drbgOk := rfl
@[simp] theorem State.withEntries_sec_drbgGen : (s.withEntries n).sec.drbgGen = s.sec.drbgGen := rfl
@[simp] theorem State.withEntries_sec_drbg : (s.withEntries n).sec.drbg = s.sec.drbg := rfl
@[simp] theorem State.withEntries_sec_retestAt : (s.withEntries n).sec.retestAt = s.sec.retestAt := rfl
@[simp] theorem State.withEntries_sec_voidKey : (s.withEntries n).sec.voidKey = s.sec.voidKey := rfl
@[simp] theorem State.withEntries_sec_voidCount : (s.withEntries n).sec.voidCount = s.sec.voidCount := rfl
@[simp] theorem State.withEntries_sec_pairKey : (s.withEntries n).sec.pairKey = s.sec.pairKey := rfl
@[simp] theorem State.withEntries_sec_lock : (s.withEntries n).sec.lock = s.sec.lock := rfl
@[simp] theorem State.withEntries_sec_link : (s.withEntries n).sec.link = s.sec.link := rfl
@[simp] theorem State.withEntries_sec_smp : (s.withEntries n).sec.smp = s.sec.smp := rfl
@[simp] theorem State.withEntries_sec_meas2 : (s.withEntries n).sec.meas2 = s.sec.meas2 := rfl
@[simp] theorem State.withEntries_sec_meas3 : (s.withEntries n).sec.meas3 = s.sec.meas3 := rfl
@[simp] theorem State.withEntries_sec_meas4 : (s.withEntries n).sec.meas4 = s.sec.meas4 := rfl
@[simp] theorem State.withEntries_sec_courseGen : (s.withEntries n).sec.courseGen = s.sec.courseGen := rfl
@[simp] theorem State.withEntries_sec_spdmWait : (s.withEntries n).sec.spdmWait = s.sec.spdmWait := rfl

end withEntries

section setCourse
variable (s : State) (c : Nat) (f : Course → Course)

@[simp] theorem State.setCourse_time : (s.setCourse c f).time = s.time := rfl
@[simp] theorem State.setCourse_regs : (s.setCourse c f).regs = s.regs := rfl
@[simp] theorem State.setCourse_pins : (s.setCourse c f).pins = s.pins := rfl
@[simp] theorem State.setCourse_nvm : (s.setCourse c f).nvm = s.nvm := rfl
@[simp] theorem State.setCourse_evt : (s.setCourse c f).evt = s.evt := rfl
@[simp] theorem State.setCourse_flt : (s.setCourse c f).flt = s.flt := rfl
@[simp] theorem State.setCourse_trx : (s.setCourse c f).trx = s.trx := rfl
@[simp] theorem State.setCourse_regul : (s.setCourse c f).regul = s.regul := rfl
@[simp] theorem State.setCourse_chans : (s.setCourse c f).chans = s.chans := rfl
@[simp] theorem State.setCourse_array : (s.setCourse c f).array = s.array := rfl
@[simp] theorem State.setCourse_tab : (s.setCourse c f).tab = s.tab := rfl
@[simp] theorem State.setCourse_capo : (s.setCourse c f).capo = s.capo := rfl
@[simp] theorem State.setCourse_sensors : (s.setCourse c f).sensors = s.sensors := rfl
@[simp] theorem State.setCourse_sec : (s.setCourse c f).sec = s.sec := rfl
@[simp] theorem State.setCourse_cal : (s.setCourse c f).cal = s.cal := rfl
@[simp] theorem State.setCourse_pwr : (s.setCourse c f).pwr = s.pwr := rfl
@[simp] theorem State.setCourse_boot : (s.setCourse c f).boot = s.boot := rfl
@[simp] theorem State.setCourse_pair : (s.setCourse c f).pair = s.pair := rfl
@[simp] theorem State.setCourse_rpr : (s.setCourse c f).rpr = s.rpr := rfl
@[simp] theorem State.setCourse_upd : (s.setCourse c f).upd = s.upd := rfl
@[simp] theorem State.setCourse_free : (s.setCourse c f).free = s.free := rfl
@[simp] theorem State.setCourse_pending : (s.setCourse c f).pending = s.pending := rfl
@[simp] theorem State.setCourse_link_lanes : (s.setCourse c f).link.lanes = s.link.lanes := rfl
@[simp] theorem State.setCourse_link_req : (s.setCourse c f).link.req = s.link.req := rfl
@[simp] theorem State.setCourse_link_wd : (s.setCourse c f).link.wd = s.link.wd := rfl
@[simp] theorem State.setCourse_link_mgt : (s.setCourse c f).link.mgt = s.link.mgt := rfl
@[simp] theorem State.setCourse_link_upQ : (s.setCourse c f).link.upQ = s.link.upQ := rfl
@[simp] theorem State.setCourse_link_crWaited : (s.setCourse c f).link.crWaited = s.link.crWaited := rfl

end setCourse

section setLane
variable (s : State) (c l : Nat) (f : Lane → Lane)

@[simp] theorem State.setLane_time : (s.setLane c l f).time = s.time := rfl
@[simp] theorem State.setLane_regs : (s.setLane c l f).regs = s.regs := rfl
@[simp] theorem State.setLane_pins : (s.setLane c l f).pins = s.pins := rfl
@[simp] theorem State.setLane_nvm : (s.setLane c l f).nvm = s.nvm := rfl
@[simp] theorem State.setLane_evt : (s.setLane c l f).evt = s.evt := rfl
@[simp] theorem State.setLane_flt : (s.setLane c l f).flt = s.flt := rfl
@[simp] theorem State.setLane_trx : (s.setLane c l f).trx = s.trx := rfl
@[simp] theorem State.setLane_regul : (s.setLane c l f).regul = s.regul := rfl
@[simp] theorem State.setLane_chans : (s.setLane c l f).chans = s.chans := rfl
@[simp] theorem State.setLane_array : (s.setLane c l f).array = s.array := rfl
@[simp] theorem State.setLane_tab : (s.setLane c l f).tab = s.tab := rfl
@[simp] theorem State.setLane_capo : (s.setLane c l f).capo = s.capo := rfl
@[simp] theorem State.setLane_sensors : (s.setLane c l f).sensors = s.sensors := rfl
@[simp] theorem State.setLane_sec : (s.setLane c l f).sec = s.sec := rfl
@[simp] theorem State.setLane_cal : (s.setLane c l f).cal = s.cal := rfl
@[simp] theorem State.setLane_pwr : (s.setLane c l f).pwr = s.pwr := rfl
@[simp] theorem State.setLane_boot : (s.setLane c l f).boot = s.boot := rfl
@[simp] theorem State.setLane_pair : (s.setLane c l f).pair = s.pair := rfl
@[simp] theorem State.setLane_rpr : (s.setLane c l f).rpr = s.rpr := rfl
@[simp] theorem State.setLane_upd : (s.setLane c l f).upd = s.upd := rfl
@[simp] theorem State.setLane_free : (s.setLane c l f).free = s.free := rfl
@[simp] theorem State.setLane_pending : (s.setLane c l f).pending = s.pending := rfl
@[simp] theorem State.setLane_link_courses : (s.setLane c l f).link.courses = s.link.courses := rfl
@[simp] theorem State.setLane_link_req : (s.setLane c l f).link.req = s.link.req := rfl
@[simp] theorem State.setLane_link_wd : (s.setLane c l f).link.wd = s.link.wd := rfl
@[simp] theorem State.setLane_link_mgt : (s.setLane c l f).link.mgt = s.link.mgt := rfl
@[simp] theorem State.setLane_link_upQ : (s.setLane c l f).link.upQ = s.link.upQ := rfl
@[simp] theorem State.setLane_link_crWaited : (s.setLane c l f).link.crWaited = s.link.crWaited := rfl

end setLane

section setMir
variable (s : State) (n : Nat) (f : MirChan → MirChan)

@[simp] theorem State.setMir_time : (s.setMir n f).time = s.time := rfl
@[simp] theorem State.setMir_regs : (s.setMir n f).regs = s.regs := rfl
@[simp] theorem State.setMir_pins : (s.setMir n f).pins = s.pins := rfl
@[simp] theorem State.setMir_nvm : (s.setMir n f).nvm = s.nvm := rfl
@[simp] theorem State.setMir_evt : (s.setMir n f).evt = s.evt := rfl
@[simp] theorem State.setMir_flt : (s.setMir n f).flt = s.flt := rfl
@[simp] theorem State.setMir_link : (s.setMir n f).link = s.link := rfl
@[simp] theorem State.setMir_trx : (s.setMir n f).trx = s.trx := rfl
@[simp] theorem State.setMir_regul : (s.setMir n f).regul = s.regul := rfl
@[simp] theorem State.setMir_chans : (s.setMir n f).chans = s.chans := rfl
@[simp] theorem State.setMir_array : (s.setMir n f).array = s.array := rfl
@[simp] theorem State.setMir_tab : (s.setMir n f).tab = s.tab := rfl
@[simp] theorem State.setMir_capo : (s.setMir n f).capo = s.capo := rfl
@[simp] theorem State.setMir_sensors : (s.setMir n f).sensors = s.sensors := rfl
@[simp] theorem State.setMir_sec : (s.setMir n f).sec = s.sec := rfl
@[simp] theorem State.setMir_cal : (s.setMir n f).cal = s.cal := rfl
@[simp] theorem State.setMir_pwr : (s.setMir n f).pwr = s.pwr := rfl
@[simp] theorem State.setMir_boot : (s.setMir n f).boot = s.boot := rfl
@[simp] theorem State.setMir_rpr : (s.setMir n f).rpr = s.rpr := rfl
@[simp] theorem State.setMir_upd : (s.setMir n f).upd = s.upd := rfl
@[simp] theorem State.setMir_free : (s.setMir n f).free = s.free := rfl
@[simp] theorem State.setMir_pending : (s.setMir n f).pending = s.pending := rfl
@[simp] theorem State.setMir_pair_role : (s.setMir n f).pair.role = s.pair.role := rfl
@[simp] theorem State.setMir_pair_idSentAt : (s.setMir n f).pair.idSentAt = s.pair.idSentAt := rfl
@[simp] theorem State.setMir_pair_ident : (s.setMir n f).pair.ident = s.pair.ident := rfl
@[simp] theorem State.setMir_pair_idSeen : (s.setMir n f).pair.idSeen = s.pair.idSeen := rfl
@[simp] theorem State.setMir_pair_peerDigest : (s.setMir n f).pair.peerDigest = s.pair.peerDigest := rfl
@[simp] theorem State.setMir_pair_beat : (s.setMir n f).pair.beat = s.pair.beat := rfl
@[simp] theorem State.setMir_pair_peerArmed : (s.setMir n f).pair.peerArmed = s.pair.peerArmed := rfl
@[simp] theorem State.setMir_pair_peerHalted : (s.setMir n f).pair.peerHalted = s.pair.peerHalted := rfl
@[simp] theorem State.setMir_pair_peerOffer : (s.setMir n f).pair.peerOffer = s.pair.peerOffer := rfl
@[simp] theorem State.setMir_pair_ownOffer : (s.setMir n f).pair.ownOffer = s.pair.ownOffer := rfl
@[simp] theorem State.setMir_pair_beats : (s.setMir n f).pair.beats = s.pair.beats := rfl
@[simp] theorem State.setMir_pair_missed : (s.setMir n f).pair.missed = s.pair.missed := rfl
@[simp] theorem State.setMir_pair_gotBeat : (s.setMir n f).pair.gotBeat = s.pair.gotBeat := rfl
@[simp] theorem State.setMir_pair_beatAt : (s.setMir n f).pair.beatAt = s.pair.beatAt := rfl
@[simp] theorem State.setMir_pair_lastWin : (s.setMir n f).pair.lastWin = s.pair.lastWin := rfl
@[simp] theorem State.setMir_pair_txSeq : (s.setMir n f).pair.txSeq = s.pair.txSeq := rfl
@[simp] theorem State.setMir_pair_rxSeq : (s.setMir n f).pair.rxSeq = s.pair.rxSeq := rfl
@[simp] theorem State.setMir_pair_sent : (s.setMir n f).pair.sent = s.pair.sent := rfl
@[simp] theorem State.setMir_pair_waiting : (s.setMir n f).pair.waiting = s.pair.waiting := rfl
@[simp] theorem State.setMir_pair_early : (s.setMir n f).pair.early = s.pair.early := rfl
@[simp] theorem State.setMir_pair_acked : (s.setMir n f).pair.acked = s.pair.acked := rfl
@[simp] theorem State.setMir_pair_config : (s.setMir n f).pair.config = s.pair.config := rfl
@[simp] theorem State.setMir_pair_epoch : (s.setMir n f).pair.epoch = s.pair.epoch := rfl
@[simp] theorem State.setMir_pair_mirrored : (s.setMir n f).pair.mirrored = s.pair.mirrored := rfl
@[simp] theorem State.setMir_pair_share : (s.setMir n f).pair.share = s.pair.share := rfl
@[simp] theorem State.setMir_pair_step : (s.setMir n f).pair.step = s.pair.step := rfl
@[simp] theorem State.setMir_pair_reason : (s.setMir n f).pair.reason = s.pair.reason := rfl
@[simp] theorem State.setMir_pair_declared : (s.setMir n f).pair.declared = s.pair.declared := rfl
@[simp] theorem State.setMir_pair_declStamp : (s.setMir n f).pair.declStamp = s.pair.declStamp := rfl
@[simp] theorem State.setMir_pair_doubleStop : (s.setMir n f).pair.doubleStop = s.pair.doubleStop := rfl
@[simp] theorem State.setMir_pair_serving : (s.setMir n f).pair.serving = s.pair.serving := rfl
@[simp] theorem State.setMir_pair_sleepSent : (s.setMir n f).pair.sleepSent = s.pair.sleepSent := rfl
@[simp] theorem State.setMir_pair_joint : (s.setMir n f).pair.joint = s.pair.joint := rfl
@[simp] theorem State.setMir_pair_handWait : (s.setMir n f).pair.handWait = s.pair.handWait := rfl
@[simp] theorem State.setMir_pair_handMsgs : (s.setMir n f).pair.handMsgs = s.pair.handMsgs := rfl
@[simp] theorem State.setMir_pair_lastBeat : (s.setMir n f).pair.lastBeat = s.pair.lastBeat := rfl

end setMir

section ackMir
variable (s : State) (seq : Nat)

@[simp] theorem State.ackMir_time : (s.ackMir seq).time = s.time := rfl
@[simp] theorem State.ackMir_regs : (s.ackMir seq).regs = s.regs := rfl
@[simp] theorem State.ackMir_pins : (s.ackMir seq).pins = s.pins := rfl
@[simp] theorem State.ackMir_nvm : (s.ackMir seq).nvm = s.nvm := rfl
@[simp] theorem State.ackMir_evt : (s.ackMir seq).evt = s.evt := rfl
@[simp] theorem State.ackMir_flt : (s.ackMir seq).flt = s.flt := rfl
@[simp] theorem State.ackMir_link : (s.ackMir seq).link = s.link := rfl
@[simp] theorem State.ackMir_trx : (s.ackMir seq).trx = s.trx := rfl
@[simp] theorem State.ackMir_regul : (s.ackMir seq).regul = s.regul := rfl
@[simp] theorem State.ackMir_chans : (s.ackMir seq).chans = s.chans := rfl
@[simp] theorem State.ackMir_array : (s.ackMir seq).array = s.array := rfl
@[simp] theorem State.ackMir_tab : (s.ackMir seq).tab = s.tab := rfl
@[simp] theorem State.ackMir_capo : (s.ackMir seq).capo = s.capo := rfl
@[simp] theorem State.ackMir_sensors : (s.ackMir seq).sensors = s.sensors := rfl
@[simp] theorem State.ackMir_sec : (s.ackMir seq).sec = s.sec := rfl
@[simp] theorem State.ackMir_cal : (s.ackMir seq).cal = s.cal := rfl
@[simp] theorem State.ackMir_pwr : (s.ackMir seq).pwr = s.pwr := rfl
@[simp] theorem State.ackMir_boot : (s.ackMir seq).boot = s.boot := rfl
@[simp] theorem State.ackMir_rpr : (s.ackMir seq).rpr = s.rpr := rfl
@[simp] theorem State.ackMir_upd : (s.ackMir seq).upd = s.upd := rfl
@[simp] theorem State.ackMir_free : (s.ackMir seq).free = s.free := rfl
@[simp] theorem State.ackMir_pending : (s.ackMir seq).pending = s.pending := rfl
@[simp] theorem State.ackMir_pair_role : (s.ackMir seq).pair.role = s.pair.role := rfl
@[simp] theorem State.ackMir_pair_idSentAt : (s.ackMir seq).pair.idSentAt = s.pair.idSentAt := rfl
@[simp] theorem State.ackMir_pair_ident : (s.ackMir seq).pair.ident = s.pair.ident := rfl
@[simp] theorem State.ackMir_pair_idSeen : (s.ackMir seq).pair.idSeen = s.pair.idSeen := rfl
@[simp] theorem State.ackMir_pair_peerDigest : (s.ackMir seq).pair.peerDigest = s.pair.peerDigest := rfl
@[simp] theorem State.ackMir_pair_beat : (s.ackMir seq).pair.beat = s.pair.beat := rfl
@[simp] theorem State.ackMir_pair_peerArmed : (s.ackMir seq).pair.peerArmed = s.pair.peerArmed := rfl
@[simp] theorem State.ackMir_pair_peerHalted : (s.ackMir seq).pair.peerHalted = s.pair.peerHalted := rfl
@[simp] theorem State.ackMir_pair_peerOffer : (s.ackMir seq).pair.peerOffer = s.pair.peerOffer := rfl
@[simp] theorem State.ackMir_pair_ownOffer : (s.ackMir seq).pair.ownOffer = s.pair.ownOffer := rfl
@[simp] theorem State.ackMir_pair_beats : (s.ackMir seq).pair.beats = s.pair.beats := rfl
@[simp] theorem State.ackMir_pair_missed : (s.ackMir seq).pair.missed = s.pair.missed := rfl
@[simp] theorem State.ackMir_pair_gotBeat : (s.ackMir seq).pair.gotBeat = s.pair.gotBeat := rfl
@[simp] theorem State.ackMir_pair_beatAt : (s.ackMir seq).pair.beatAt = s.pair.beatAt := rfl
@[simp] theorem State.ackMir_pair_lastWin : (s.ackMir seq).pair.lastWin = s.pair.lastWin := rfl
@[simp] theorem State.ackMir_pair_txSeq : (s.ackMir seq).pair.txSeq = s.pair.txSeq := rfl
@[simp] theorem State.ackMir_pair_rxSeq : (s.ackMir seq).pair.rxSeq = s.pair.rxSeq := rfl
@[simp] theorem State.ackMir_pair_sent : (s.ackMir seq).pair.sent = s.pair.sent := rfl
@[simp] theorem State.ackMir_pair_waiting : (s.ackMir seq).pair.waiting = s.pair.waiting := rfl
@[simp] theorem State.ackMir_pair_early : (s.ackMir seq).pair.early = s.pair.early := rfl
@[simp] theorem State.ackMir_pair_chans : (s.ackMir seq).pair.chans = s.pair.chans := rfl
@[simp] theorem State.ackMir_pair_config : (s.ackMir seq).pair.config = s.pair.config := rfl
@[simp] theorem State.ackMir_pair_epoch : (s.ackMir seq).pair.epoch = s.pair.epoch := rfl
@[simp] theorem State.ackMir_pair_mirrored : (s.ackMir seq).pair.mirrored = s.pair.mirrored := rfl
@[simp] theorem State.ackMir_pair_share : (s.ackMir seq).pair.share = s.pair.share := rfl
@[simp] theorem State.ackMir_pair_step : (s.ackMir seq).pair.step = s.pair.step := rfl
@[simp] theorem State.ackMir_pair_reason : (s.ackMir seq).pair.reason = s.pair.reason := rfl
@[simp] theorem State.ackMir_pair_declared : (s.ackMir seq).pair.declared = s.pair.declared := rfl
@[simp] theorem State.ackMir_pair_declStamp : (s.ackMir seq).pair.declStamp = s.pair.declStamp := rfl
@[simp] theorem State.ackMir_pair_doubleStop : (s.ackMir seq).pair.doubleStop = s.pair.doubleStop := rfl
@[simp] theorem State.ackMir_pair_serving : (s.ackMir seq).pair.serving = s.pair.serving := rfl
@[simp] theorem State.ackMir_pair_sleepSent : (s.ackMir seq).pair.sleepSent = s.pair.sleepSent := rfl
@[simp] theorem State.ackMir_pair_joint : (s.ackMir seq).pair.joint = s.pair.joint := rfl
@[simp] theorem State.ackMir_pair_handWait : (s.ackMir seq).pair.handWait = s.pair.handWait := rfl
@[simp] theorem State.ackMir_pair_handMsgs : (s.ackMir seq).pair.handMsgs = s.pair.handMsgs := rfl
@[simp] theorem State.ackMir_pair_lastBeat : (s.ackMir seq).pair.lastBeat = s.pair.lastBeat := rfl

end ackMir

section setOp
variable (s : State) (f : RepairOp → RepairOp)

@[simp] theorem State.setOp_time : (s.setOp f).time = s.time := rfl
@[simp] theorem State.setOp_regs : (s.setOp f).regs = s.regs := rfl
@[simp] theorem State.setOp_pins : (s.setOp f).pins = s.pins := rfl
@[simp] theorem State.setOp_nvm : (s.setOp f).nvm = s.nvm := rfl
@[simp] theorem State.setOp_evt : (s.setOp f).evt = s.evt := rfl
@[simp] theorem State.setOp_flt : (s.setOp f).flt = s.flt := rfl
@[simp] theorem State.setOp_link : (s.setOp f).link = s.link := rfl
@[simp] theorem State.setOp_trx : (s.setOp f).trx = s.trx := rfl
@[simp] theorem State.setOp_regul : (s.setOp f).regul = s.regul := rfl
@[simp] theorem State.setOp_chans : (s.setOp f).chans = s.chans := rfl
@[simp] theorem State.setOp_array : (s.setOp f).array = s.array := rfl
@[simp] theorem State.setOp_tab : (s.setOp f).tab = s.tab := rfl
@[simp] theorem State.setOp_capo : (s.setOp f).capo = s.capo := rfl
@[simp] theorem State.setOp_sensors : (s.setOp f).sensors = s.sensors := rfl
@[simp] theorem State.setOp_sec : (s.setOp f).sec = s.sec := rfl
@[simp] theorem State.setOp_cal : (s.setOp f).cal = s.cal := rfl
@[simp] theorem State.setOp_pwr : (s.setOp f).pwr = s.pwr := rfl
@[simp] theorem State.setOp_boot : (s.setOp f).boot = s.boot := rfl
@[simp] theorem State.setOp_pair : (s.setOp f).pair = s.pair := rfl
@[simp] theorem State.setOp_upd : (s.setOp f).upd = s.upd := rfl
@[simp] theorem State.setOp_free : (s.setOp f).free = s.free := rfl
@[simp] theorem State.setOp_pending : (s.setOp f).pending = s.pending := rfl
@[simp] theorem State.setOp_rpr_maps : (s.setOp f).rpr.maps = s.rpr.maps := rfl
@[simp] theorem State.setOp_rpr_result : (s.setOp f).rpr.result = s.rpr.result := rfl
@[simp] theorem State.setOp_rpr_reason : (s.setOp f).rpr.reason = s.rpr.reason := rfl
@[simp] theorem State.setOp_rpr_corr : (s.setOp f).rpr.corr = s.rpr.corr := rfl
@[simp] theorem State.setOp_rpr_bist : (s.setOp f).rpr.bist = s.rpr.bist := rfl
@[simp] theorem State.setOp_rpr_bstate : (s.setOp f).rpr.bstate = s.rpr.bstate := rfl
@[simp] theorem State.setOp_rpr_bres : (s.setOp f).rpr.bres = s.rpr.bres := rfl
@[simp] theorem State.setOp_rpr_bparam : (s.setOp f).rpr.bparam = s.rpr.bparam := rfl
@[simp] theorem State.setOp_rpr_loop : (s.setOp f).rpr.loop = s.rpr.loop := rfl
@[simp] theorem State.setOp_rpr_ir : (s.setOp f).rpr.ir = s.rpr.ir := rfl
@[simp] theorem State.setOp_rpr_cmResult : (s.setOp f).rpr.cmResult = s.rpr.cmResult := rfl
@[simp] theorem State.setOp_rpr_cmSram : (s.setOp f).rpr.cmSram = s.rpr.cmSram := rfl
@[simp] theorem State.setOp_rpr_cmId : (s.setOp f).rpr.cmId = s.rpr.cmId := rfl
@[simp] theorem State.setOp_rpr_wsStop : (s.setOp f).rpr.wsStop = s.rpr.wsStop := rfl
@[simp] theorem State.setOp_rpr_cmBusy : (s.setOp f).rpr.cmBusy = s.rpr.cmBusy := rfl
@[simp] theorem State.setOp_rpr_wby : (s.setOp f).rpr.wby = s.rpr.wby := rfl
@[simp] theorem State.setOp_rpr_boundary : (s.setOp f).rpr.boundary = s.rpr.boundary := rfl

end setOp

section wrapperReset
variable (s : State) (level : Bool)

@[simp] theorem State.wrapperReset_time : (s.wrapperReset level).time = s.time := rfl
@[simp] theorem State.wrapperReset_regs : (s.wrapperReset level).regs = s.regs := rfl
@[simp] theorem State.wrapperReset_nvm : (s.wrapperReset level).nvm = s.nvm := rfl
@[simp] theorem State.wrapperReset_evt : (s.wrapperReset level).evt = s.evt := rfl
@[simp] theorem State.wrapperReset_flt : (s.wrapperReset level).flt = s.flt := rfl
@[simp] theorem State.wrapperReset_link : (s.wrapperReset level).link = s.link := rfl
@[simp] theorem State.wrapperReset_trx : (s.wrapperReset level).trx = s.trx := rfl
@[simp] theorem State.wrapperReset_regul : (s.wrapperReset level).regul = s.regul := rfl
@[simp] theorem State.wrapperReset_chans : (s.wrapperReset level).chans = s.chans := rfl
@[simp] theorem State.wrapperReset_array : (s.wrapperReset level).array = s.array := rfl
@[simp] theorem State.wrapperReset_tab : (s.wrapperReset level).tab = s.tab := rfl
@[simp] theorem State.wrapperReset_capo : (s.wrapperReset level).capo = s.capo := rfl
@[simp] theorem State.wrapperReset_sensors : (s.wrapperReset level).sensors = s.sensors := rfl
@[simp] theorem State.wrapperReset_sec : (s.wrapperReset level).sec = s.sec := rfl
@[simp] theorem State.wrapperReset_cal : (s.wrapperReset level).cal = s.cal := rfl
@[simp] theorem State.wrapperReset_pwr : (s.wrapperReset level).pwr = s.pwr := rfl
@[simp] theorem State.wrapperReset_boot : (s.wrapperReset level).boot = s.boot := rfl
@[simp] theorem State.wrapperReset_pair : (s.wrapperReset level).pair = s.pair := rfl
@[simp] theorem State.wrapperReset_upd : (s.wrapperReset level).upd = s.upd := rfl
@[simp] theorem State.wrapperReset_free : (s.wrapperReset level).free = s.free := rfl
@[simp] theorem State.wrapperReset_pending : (s.wrapperReset level).pending = s.pending := rfl

end wrapperReset

section captureSave
variable (s : State)

@[simp] theorem State.captureSave_time : s.captureSave.time = s.time := rfl
@[simp] theorem State.captureSave_regs : s.captureSave.regs = s.regs := rfl
@[simp] theorem State.captureSave_pins : s.captureSave.pins = s.pins := rfl
@[simp] theorem State.captureSave_nvm : s.captureSave.nvm = s.nvm := rfl
@[simp] theorem State.captureSave_evt : s.captureSave.evt = s.evt := rfl
@[simp] theorem State.captureSave_flt : s.captureSave.flt = s.flt := rfl
@[simp] theorem State.captureSave_link : s.captureSave.link = s.link := rfl
@[simp] theorem State.captureSave_trx : s.captureSave.trx = s.trx := rfl
@[simp] theorem State.captureSave_regul : s.captureSave.regul = s.regul := rfl
@[simp] theorem State.captureSave_chans : s.captureSave.chans = s.chans := rfl
@[simp] theorem State.captureSave_array : s.captureSave.array = s.array := rfl
@[simp] theorem State.captureSave_tab : s.captureSave.tab = s.tab := rfl
@[simp] theorem State.captureSave_capo : s.captureSave.capo = s.capo := rfl
@[simp] theorem State.captureSave_sensors : s.captureSave.sensors = s.sensors := rfl
@[simp] theorem State.captureSave_sec : s.captureSave.sec = s.sec := rfl
@[simp] theorem State.captureSave_cal : s.captureSave.cal = s.cal := rfl
@[simp] theorem State.captureSave_pwr : s.captureSave.pwr = s.pwr := rfl
@[simp] theorem State.captureSave_pair : s.captureSave.pair = s.pair := rfl
@[simp] theorem State.captureSave_rpr : s.captureSave.rpr = s.rpr := rfl
@[simp] theorem State.captureSave_upd : s.captureSave.upd = s.upd := rfl
@[simp] theorem State.captureSave_free : s.captureSave.free = s.free := rfl
@[simp] theorem State.captureSave_pending : s.captureSave.pending = s.pending := rfl
@[simp] theorem State.captureSave_boot_stage : s.captureSave.boot.stage = s.boot.stage := rfl
@[simp] theorem State.captureSave_boot_fail : s.captureSave.boot.fail = s.boot.fail := rfl
@[simp] theorem State.captureSave_boot_waiting : s.captureSave.boot.waiting = s.boot.waiting := rfl
@[simp] theorem State.captureSave_boot_brec : s.captureSave.boot.brec = s.boot.brec := rfl
@[simp] theorem State.captureSave_boot_copyBad : s.captureSave.boot.copyBad = s.boot.copyBad := rfl
@[simp] theorem State.captureSave_boot_running : s.captureSave.boot.running = s.boot.running := rfl
@[simp] theorem State.captureSave_boot_fellBack : s.captureSave.boot.fellBack = s.boot.fellBack := rfl
@[simp] theorem State.captureSave_boot_secVer : s.captureSave.boot.secVer = s.boot.secVer := rfl
@[simp] theorem State.captureSave_boot_digest : s.captureSave.boot.digest = s.boot.digest := rfl
@[simp] theorem State.captureSave_boot_schema : s.captureSave.boot.schema = s.boot.schema := rfl
@[simp] theorem State.captureSave_boot_pairFlag : s.captureSave.boot.pairFlag = s.boot.pairFlag := rfl
@[simp] theorem State.captureSave_boot_chReady : s.captureSave.boot.chReady = s.boot.chReady := rfl
@[simp] theorem State.captureSave_boot_trainLeft : s.captureSave.boot.trainLeft = s.boot.trainLeft := rfl
@[simp] theorem State.captureSave_boot_calLeft : s.captureSave.boot.calLeft = s.boot.calLeft := rfl
@[simp] theorem State.captureSave_boot_stageAt : s.captureSave.boot.stageAt = s.boot.stageAt := rfl
@[simp] theorem State.captureSave_boot_readyTick : s.captureSave.boot.readyTick = s.boot.readyTick := rfl
@[simp] theorem State.captureSave_boot_pageNow : s.captureSave.boot.pageNow = s.boot.pageNow := rfl
@[simp] theorem State.captureSave_boot_pageSeq : s.captureSave.boot.pageSeq = s.boot.pageSeq := rfl
@[simp] theorem State.captureSave_boot_savedEpoch : s.captureSave.boot.savedEpoch = s.boot.savedEpoch := rfl
@[simp] theorem State.captureSave_boot_setDefault : s.captureSave.boot.setDefault = s.boot.setDefault := rfl
@[simp] theorem State.captureSave_boot_heldStart : s.captureSave.boot.heldStart = s.boot.heldStart := rfl
@[simp] theorem State.captureSave_boot_schemaMap : s.captureSave.boot.schemaMap = s.boot.schemaMap := rfl

end captureSave

section daaAnswer
variable (s : State) (svc : Bool)

@[simp] theorem State.daaAnswer_time : (s.daaAnswer svc).time = s.time := rfl
@[simp] theorem State.daaAnswer_regs : (s.daaAnswer svc).regs = s.regs := rfl
@[simp] theorem State.daaAnswer_nvm : (s.daaAnswer svc).nvm = s.nvm := rfl
@[simp] theorem State.daaAnswer_evt : (s.daaAnswer svc).evt = s.evt := rfl
@[simp] theorem State.daaAnswer_flt : (s.daaAnswer svc).flt = s.flt := rfl
@[simp] theorem State.daaAnswer_link : (s.daaAnswer svc).link = s.link := rfl
@[simp] theorem State.daaAnswer_trx : (s.daaAnswer svc).trx = s.trx := rfl
@[simp] theorem State.daaAnswer_regul : (s.daaAnswer svc).regul = s.regul := rfl
@[simp] theorem State.daaAnswer_chans : (s.daaAnswer svc).chans = s.chans := rfl
@[simp] theorem State.daaAnswer_array : (s.daaAnswer svc).array = s.array := rfl
@[simp] theorem State.daaAnswer_tab : (s.daaAnswer svc).tab = s.tab := rfl
@[simp] theorem State.daaAnswer_capo : (s.daaAnswer svc).capo = s.capo := rfl
@[simp] theorem State.daaAnswer_sensors : (s.daaAnswer svc).sensors = s.sensors := rfl
@[simp] theorem State.daaAnswer_sec : (s.daaAnswer svc).sec = s.sec := rfl
@[simp] theorem State.daaAnswer_cal : (s.daaAnswer svc).cal = s.cal := rfl
@[simp] theorem State.daaAnswer_pwr : (s.daaAnswer svc).pwr = s.pwr := rfl
@[simp] theorem State.daaAnswer_boot : (s.daaAnswer svc).boot = s.boot := rfl
@[simp] theorem State.daaAnswer_pair : (s.daaAnswer svc).pair = s.pair := rfl
@[simp] theorem State.daaAnswer_rpr : (s.daaAnswer svc).rpr = s.rpr := rfl
@[simp] theorem State.daaAnswer_upd : (s.daaAnswer svc).upd = s.upd := rfl
@[simp] theorem State.daaAnswer_free : (s.daaAnswer svc).free = s.free := rfl
@[simp] theorem State.daaAnswer_pending : (s.daaAnswer svc).pending = s.pending := rfl
@[simp] theorem State.daaAnswer_pins_pwrGood : (s.daaAnswer svc).pins.pwrGood = s.pins.pwrGood := rfl
@[simp] theorem State.daaAnswer_pins_instId : (s.daaAnswer svc).pins.instId = s.pins.instId := rfl
@[simp] theorem State.daaAnswer_pins_nvmRdy : (s.daaAnswer svc).pins.nvmRdy = s.pins.nvmRdy := rfl
@[simp] theorem State.daaAnswer_pins_pswRdy : (s.daaAnswer svc).pins.pswRdy = s.pins.pswRdy := rfl
@[simp] theorem State.daaAnswer_pins_pswEn : (s.daaAnswer svc).pins.pswEn = s.pins.pswEn := rfl
@[simp] theorem State.daaAnswer_pins_chRst : (s.daaAnswer svc).pins.chRst = s.pins.chRst := rfl
@[simp] theorem State.daaAnswer_pins_regRdy : (s.daaAnswer svc).pins.regRdy = s.pins.regRdy := rfl
@[simp] theorem State.daaAnswer_pins_regOcw : (s.daaAnswer svc).pins.regOcw = s.pins.regOcw := rfl
@[simp] theorem State.daaAnswer_pins_smpAck : (s.daaAnswer svc).pins.smpAck = s.pins.smpAck := rfl
@[simp] theorem State.daaAnswer_pins_smpIbi : (s.daaAnswer svc).pins.smpIbi = s.pins.smpIbi := rfl
@[simp] theorem State.daaAnswer_pins_smpAddr : (s.daaAnswer svc).pins.smpAddr = s.pins.smpAddr := rfl
@[simp] theorem State.daaAnswer_pins_svcAddr : (s.daaAnswer svc).pins.svcAddr = s.pins.svcAddr := rfl
@[simp] theorem State.daaAnswer_pins_svcAck : (s.daaAnswer svc).pins.svcAck = s.pins.svcAck := rfl
@[simp] theorem State.daaAnswer_pins_brgFreq : (s.daaAnswer svc).pins.brgFreq = s.pins.brgFreq := rfl
@[simp] theorem State.daaAnswer_pins_brgFgnt : (s.daaAnswer svc).pins.brgFgnt = s.pins.brgFgnt := rfl
@[simp] theorem State.daaAnswer_pins_sfenced : (s.daaAnswer svc).pins.sfenced = s.pins.sfenced := rfl
@[simp] theorem State.daaAnswer_pins_brgXen : (s.daaAnswer svc).pins.brgXen = s.pins.brgXen := rfl
@[simp] theorem State.daaAnswer_pins_brgXrdy : (s.daaAnswer svc).pins.brgXrdy = s.pins.brgXrdy := rfl
@[simp] theorem State.daaAnswer_pins_txLock : (s.daaAnswer svc).pins.txLock = s.pins.txLock := rfl
@[simp] theorem State.daaAnswer_pins_wrstN : (s.daaAnswer svc).pins.wrstN = s.pins.wrstN := rfl

end daaAnswer

section svcTakes
variable (s : State) (new : Option (BitVec 7))

@[simp] theorem State.svcTakes_time : (s.svcTakes new).time = s.time := rfl
@[simp] theorem State.svcTakes_regs : (s.svcTakes new).regs = s.regs := rfl
@[simp] theorem State.svcTakes_nvm : (s.svcTakes new).nvm = s.nvm := rfl
@[simp] theorem State.svcTakes_evt : (s.svcTakes new).evt = s.evt := rfl
@[simp] theorem State.svcTakes_flt : (s.svcTakes new).flt = s.flt := rfl
@[simp] theorem State.svcTakes_link : (s.svcTakes new).link = s.link := rfl
@[simp] theorem State.svcTakes_trx : (s.svcTakes new).trx = s.trx := rfl
@[simp] theorem State.svcTakes_regul : (s.svcTakes new).regul = s.regul := rfl
@[simp] theorem State.svcTakes_chans : (s.svcTakes new).chans = s.chans := rfl
@[simp] theorem State.svcTakes_array : (s.svcTakes new).array = s.array := rfl
@[simp] theorem State.svcTakes_tab : (s.svcTakes new).tab = s.tab := rfl
@[simp] theorem State.svcTakes_capo : (s.svcTakes new).capo = s.capo := rfl
@[simp] theorem State.svcTakes_sensors : (s.svcTakes new).sensors = s.sensors := rfl
@[simp] theorem State.svcTakes_sec : (s.svcTakes new).sec = s.sec := rfl
@[simp] theorem State.svcTakes_cal : (s.svcTakes new).cal = s.cal := rfl
@[simp] theorem State.svcTakes_pwr : (s.svcTakes new).pwr = s.pwr := rfl
@[simp] theorem State.svcTakes_boot : (s.svcTakes new).boot = s.boot := rfl
@[simp] theorem State.svcTakes_pair : (s.svcTakes new).pair = s.pair := rfl
@[simp] theorem State.svcTakes_rpr : (s.svcTakes new).rpr = s.rpr := rfl
@[simp] theorem State.svcTakes_upd : (s.svcTakes new).upd = s.upd := rfl
@[simp] theorem State.svcTakes_free : (s.svcTakes new).free = s.free := rfl
@[simp] theorem State.svcTakes_pending : (s.svcTakes new).pending = s.pending := rfl
@[simp] theorem State.svcTakes_pins_pwrGood : (s.svcTakes new).pins.pwrGood = s.pins.pwrGood := rfl
@[simp] theorem State.svcTakes_pins_instId : (s.svcTakes new).pins.instId = s.pins.instId := rfl
@[simp] theorem State.svcTakes_pins_nvmRdy : (s.svcTakes new).pins.nvmRdy = s.pins.nvmRdy := rfl
@[simp] theorem State.svcTakes_pins_pswRdy : (s.svcTakes new).pins.pswRdy = s.pins.pswRdy := rfl
@[simp] theorem State.svcTakes_pins_pswEn : (s.svcTakes new).pins.pswEn = s.pins.pswEn := rfl
@[simp] theorem State.svcTakes_pins_chRst : (s.svcTakes new).pins.chRst = s.pins.chRst := rfl
@[simp] theorem State.svcTakes_pins_regRdy : (s.svcTakes new).pins.regRdy = s.pins.regRdy := rfl
@[simp] theorem State.svcTakes_pins_regOcw : (s.svcTakes new).pins.regOcw = s.pins.regOcw := rfl
@[simp] theorem State.svcTakes_pins_smpAck : (s.svcTakes new).pins.smpAck = s.pins.smpAck := rfl
@[simp] theorem State.svcTakes_pins_smpIbi : (s.svcTakes new).pins.smpIbi = s.pins.smpIbi := rfl
@[simp] theorem State.svcTakes_pins_smpAddr : (s.svcTakes new).pins.smpAddr = s.pins.smpAddr := rfl
@[simp] theorem State.svcTakes_pins_daa : (s.svcTakes new).pins.daa = s.pins.daa := rfl
@[simp] theorem State.svcTakes_pins_brgFreq : (s.svcTakes new).pins.brgFreq = s.pins.brgFreq := rfl
@[simp] theorem State.svcTakes_pins_brgFgnt : (s.svcTakes new).pins.brgFgnt = s.pins.brgFgnt := rfl
@[simp] theorem State.svcTakes_pins_sfenced : (s.svcTakes new).pins.sfenced = s.pins.sfenced := rfl
@[simp] theorem State.svcTakes_pins_brgXen : (s.svcTakes new).pins.brgXen = s.pins.brgXen := rfl
@[simp] theorem State.svcTakes_pins_brgXrdy : (s.svcTakes new).pins.brgXrdy = s.pins.brgXrdy := rfl
@[simp] theorem State.svcTakes_pins_txLock : (s.svcTakes new).pins.txLock = s.pins.txLock := rfl
@[simp] theorem State.svcTakes_pins_wrstN : (s.svcTakes new).pins.wrstN = s.pins.wrstN := rfl

end svcTakes

section setKeyOp
variable (s : State) (mtag : Nat) (f : KeyOp → KeyOp)

@[simp] theorem State.setKeyOp_time : (s.setKeyOp mtag f).time = s.time := rfl
@[simp] theorem State.setKeyOp_regs : (s.setKeyOp mtag f).regs = s.regs := rfl
@[simp] theorem State.setKeyOp_pins : (s.setKeyOp mtag f).pins = s.pins := rfl
@[simp] theorem State.setKeyOp_nvm : (s.setKeyOp mtag f).nvm = s.nvm := rfl
@[simp] theorem State.setKeyOp_evt : (s.setKeyOp mtag f).evt = s.evt := rfl
@[simp] theorem State.setKeyOp_flt : (s.setKeyOp mtag f).flt = s.flt := rfl
@[simp] theorem State.setKeyOp_link : (s.setKeyOp mtag f).link = s.link := rfl
@[simp] theorem State.setKeyOp_regul : (s.setKeyOp mtag f).regul = s.regul := rfl
@[simp] theorem State.setKeyOp_chans : (s.setKeyOp mtag f).chans = s.chans := rfl
@[simp] theorem State.setKeyOp_array : (s.setKeyOp mtag f).array = s.array := rfl
@[simp] theorem State.setKeyOp_tab : (s.setKeyOp mtag f).tab = s.tab := rfl
@[simp] theorem State.setKeyOp_capo : (s.setKeyOp mtag f).capo = s.capo := rfl
@[simp] theorem State.setKeyOp_sensors : (s.setKeyOp mtag f).sensors = s.sensors := rfl
@[simp] theorem State.setKeyOp_sec : (s.setKeyOp mtag f).sec = s.sec := rfl
@[simp] theorem State.setKeyOp_cal : (s.setKeyOp mtag f).cal = s.cal := rfl
@[simp] theorem State.setKeyOp_pwr : (s.setKeyOp mtag f).pwr = s.pwr := rfl
@[simp] theorem State.setKeyOp_boot : (s.setKeyOp mtag f).boot = s.boot := rfl
@[simp] theorem State.setKeyOp_pair : (s.setKeyOp mtag f).pair = s.pair := rfl
@[simp] theorem State.setKeyOp_rpr : (s.setKeyOp mtag f).rpr = s.rpr := rfl
@[simp] theorem State.setKeyOp_upd : (s.setKeyOp mtag f).upd = s.upd := rfl
@[simp] theorem State.setKeyOp_free : (s.setKeyOp mtag f).free = s.free := rfl
@[simp] theorem State.setKeyOp_pending : (s.setKeyOp mtag f).pending = s.pending := rfl
@[simp] theorem State.setKeyOp_trx_reqs : (s.setKeyOp mtag f).trx.reqs = s.trx.reqs := rfl
@[simp] theorem State.setKeyOp_trx_nextUid : (s.setKeyOp mtag f).trx.nextUid = s.trx.nextUid := rfl
@[simp] theorem State.setKeyOp_trx_quar : (s.setKeyOp mtag f).trx.quar = s.trx.quar := rfl
@[simp] theorem State.setKeyOp_trx_respond : (s.setKeyOp mtag f).trx.respond = s.trx.respond := rfl
@[simp] theorem State.setKeyOp_trx_mgtOut : (s.setKeyOp mtag f).trx.mgtOut = s.trx.mgtOut := rfl
@[simp] theorem State.setKeyOp_trx_rdAcct : (s.setKeyOp mtag f).trx.rdAcct = s.trx.rdAcct := rfl
@[simp] theorem State.setKeyOp_trx_wrAcct : (s.setKeyOp mtag f).trx.wrAcct = s.trx.wrAcct := rfl
@[simp] theorem State.setKeyOp_trx_fences : (s.setKeyOp mtag f).trx.fences = s.trx.fences := rfl
@[simp] theorem State.setKeyOp_trx_resyncs : (s.setKeyOp mtag f).trx.resyncs = s.trx.resyncs := rfl
@[simp] theorem State.setKeyOp_trx_prog : (s.setKeyOp mtag f).trx.prog = s.trx.prog := rfl
@[simp] theorem State.setKeyOp_trx_spdm : (s.setKeyOp mtag f).trx.spdm = s.trx.spdm := rfl

end setKeyOp

section unpost
variable (s : State) (e : Posted)

@[simp] theorem State.unpost_time : (s.unpost e).time = s.time := rfl
@[simp] theorem State.unpost_pins : (s.unpost e).pins = s.pins := rfl
@[simp] theorem State.unpost_nvm : (s.unpost e).nvm = s.nvm := rfl
@[simp] theorem State.unpost_evt : (s.unpost e).evt = s.evt := rfl
@[simp] theorem State.unpost_flt : (s.unpost e).flt = s.flt := rfl
@[simp] theorem State.unpost_link : (s.unpost e).link = s.link := rfl
@[simp] theorem State.unpost_trx : (s.unpost e).trx = s.trx := rfl
@[simp] theorem State.unpost_regul : (s.unpost e).regul = s.regul := rfl
@[simp] theorem State.unpost_chans : (s.unpost e).chans = s.chans := rfl
@[simp] theorem State.unpost_array : (s.unpost e).array = s.array := rfl
@[simp] theorem State.unpost_tab : (s.unpost e).tab = s.tab := rfl
@[simp] theorem State.unpost_capo : (s.unpost e).capo = s.capo := rfl
@[simp] theorem State.unpost_sensors : (s.unpost e).sensors = s.sensors := rfl
@[simp] theorem State.unpost_sec : (s.unpost e).sec = s.sec := rfl
@[simp] theorem State.unpost_cal : (s.unpost e).cal = s.cal := rfl
@[simp] theorem State.unpost_pwr : (s.unpost e).pwr = s.pwr := rfl
@[simp] theorem State.unpost_boot : (s.unpost e).boot = s.boot := rfl
@[simp] theorem State.unpost_pair : (s.unpost e).pair = s.pair := rfl
@[simp] theorem State.unpost_rpr : (s.unpost e).rpr = s.rpr := rfl
@[simp] theorem State.unpost_upd : (s.unpost e).upd = s.upd := rfl
@[simp] theorem State.unpost_free : (s.unpost e).free = s.free := rfl
@[simp] theorem State.unpost_pending : (s.unpost e).pending = s.pending := rfl
@[simp] theorem State.unpost_regs_shadow : (s.unpost e).regs.shadow = s.regs.shadow := rfl
@[simp] theorem State.unpost_regs_force : (s.unpost e).regs.force = s.regs.force := rfl
@[simp] theorem State.unpost_regs_sticky : (s.unpost e).regs.sticky = s.regs.sticky := rfl
@[simp] theorem State.unpost_regs_touched : (s.unpost e).regs.touched = s.regs.touched := rfl
@[simp] theorem State.unpost_regs_counters : (s.unpost e).regs.counters = s.regs.counters := rfl
@[simp] theorem State.unpost_regs_snapAcc : (s.unpost e).regs.snapAcc = s.regs.snapAcc := rfl
@[simp] theorem State.unpost_regs_latch : (s.unpost e).regs.latch = s.regs.latch := rfl
@[simp] theorem State.unpost_regs_dropped : (s.unpost e).regs.dropped = s.regs.dropped := rfl
@[simp] theorem State.unpost_regs_failed : (s.unpost e).regs.failed = s.regs.failed := rfl
@[simp] theorem State.unpost_regs_stalled : (s.unpost e).regs.stalled = s.regs.stalled := rfl
@[simp] theorem State.unpost_regs_epoch : (s.unpost e).regs.epoch = s.regs.epoch := rfl
@[simp] theorem State.unpost_regs_doneEpoch : (s.unpost e).regs.doneEpoch = s.regs.doneEpoch := rfl
@[simp] theorem State.unpost_regs_commits : (s.unpost e).regs.commits = s.regs.commits := rfl
@[simp] theorem State.unpost_regs_results : (s.unpost e).regs.results = s.regs.results := rfl
@[simp] theorem State.unpost_regs_tickets : (s.unpost e).regs.tickets = s.regs.tickets := rfl
@[simp] theorem State.unpost_regs_snapSeq : (s.unpost e).regs.snapSeq = s.regs.snapSeq := rfl
@[simp] theorem State.unpost_regs_snapBusy : (s.unpost e).regs.snapBusy = s.regs.snapBusy := rfl
@[simp] theorem State.unpost_regs_snapMask : (s.unpost e).regs.snapMask = s.regs.snapMask := rfl
@[simp] theorem State.unpost_regs_snapStamp : (s.unpost e).regs.snapStamp = s.regs.snapStamp := rfl
@[simp] theorem State.unpost_regs_snapshot : (s.unpost e).regs.snapshot = s.regs.snapshot := rfl
@[simp] theorem State.unpost_regs_sumBusy : (s.unpost e).regs.sumBusy = s.regs.sumBusy := rfl
@[simp] theorem State.unpost_regs_window : (s.unpost e).regs.window = s.regs.window := rfl
@[simp] theorem State.unpost_regs_views : (s.unpost e).regs.views = s.regs.views := rfl
@[simp] theorem State.unpost_regs_evtCopy : (s.unpost e).regs.evtCopy = s.regs.evtCopy := rfl
@[simp] theorem State.unpost_regs_logCopy : (s.unpost e).regs.logCopy = s.regs.logCopy := rfl
@[simp] theorem State.unpost_regs_smpValue : (s.unpost e).regs.smpValue = s.regs.smpValue := rfl
@[simp] theorem State.unpost_regs_smpStatus : (s.unpost e).regs.smpStatus = s.regs.smpStatus := rfl
@[simp] theorem State.unpost_regs_accSeen : (s.unpost e).regs.accSeen = s.regs.accSeen := rfl
@[simp] theorem State.unpost_regs_nacked : (s.unpost e).regs.nacked = s.regs.nacked := rfl

end unpost

section unstall
variable (s : State) (r : StalledRead)

@[simp] theorem State.unstall_time : (s.unstall r).time = s.time := rfl
@[simp] theorem State.unstall_pins : (s.unstall r).pins = s.pins := rfl
@[simp] theorem State.unstall_nvm : (s.unstall r).nvm = s.nvm := rfl
@[simp] theorem State.unstall_evt : (s.unstall r).evt = s.evt := rfl
@[simp] theorem State.unstall_flt : (s.unstall r).flt = s.flt := rfl
@[simp] theorem State.unstall_link : (s.unstall r).link = s.link := rfl
@[simp] theorem State.unstall_trx : (s.unstall r).trx = s.trx := rfl
@[simp] theorem State.unstall_regul : (s.unstall r).regul = s.regul := rfl
@[simp] theorem State.unstall_chans : (s.unstall r).chans = s.chans := rfl
@[simp] theorem State.unstall_array : (s.unstall r).array = s.array := rfl
@[simp] theorem State.unstall_tab : (s.unstall r).tab = s.tab := rfl
@[simp] theorem State.unstall_capo : (s.unstall r).capo = s.capo := rfl
@[simp] theorem State.unstall_sensors : (s.unstall r).sensors = s.sensors := rfl
@[simp] theorem State.unstall_sec : (s.unstall r).sec = s.sec := rfl
@[simp] theorem State.unstall_cal : (s.unstall r).cal = s.cal := rfl
@[simp] theorem State.unstall_pwr : (s.unstall r).pwr = s.pwr := rfl
@[simp] theorem State.unstall_boot : (s.unstall r).boot = s.boot := rfl
@[simp] theorem State.unstall_pair : (s.unstall r).pair = s.pair := rfl
@[simp] theorem State.unstall_rpr : (s.unstall r).rpr = s.rpr := rfl
@[simp] theorem State.unstall_upd : (s.unstall r).upd = s.upd := rfl
@[simp] theorem State.unstall_free : (s.unstall r).free = s.free := rfl
@[simp] theorem State.unstall_pending : (s.unstall r).pending = s.pending := rfl
@[simp] theorem State.unstall_regs_shadow : (s.unstall r).regs.shadow = s.regs.shadow := rfl
@[simp] theorem State.unstall_regs_force : (s.unstall r).regs.force = s.regs.force := rfl
@[simp] theorem State.unstall_regs_sticky : (s.unstall r).regs.sticky = s.regs.sticky := rfl
@[simp] theorem State.unstall_regs_touched : (s.unstall r).regs.touched = s.regs.touched := rfl
@[simp] theorem State.unstall_regs_counters : (s.unstall r).regs.counters = s.regs.counters := rfl
@[simp] theorem State.unstall_regs_snapAcc : (s.unstall r).regs.snapAcc = s.regs.snapAcc := rfl
@[simp] theorem State.unstall_regs_latch : (s.unstall r).regs.latch = s.regs.latch := rfl
@[simp] theorem State.unstall_regs_posted : (s.unstall r).regs.posted = s.regs.posted := rfl
@[simp] theorem State.unstall_regs_dropped : (s.unstall r).regs.dropped = s.regs.dropped := rfl
@[simp] theorem State.unstall_regs_failed : (s.unstall r).regs.failed = s.regs.failed := rfl
@[simp] theorem State.unstall_regs_epoch : (s.unstall r).regs.epoch = s.regs.epoch := rfl
@[simp] theorem State.unstall_regs_doneEpoch : (s.unstall r).regs.doneEpoch = s.regs.doneEpoch := rfl
@[simp] theorem State.unstall_regs_commits : (s.unstall r).regs.commits = s.regs.commits := rfl
@[simp] theorem State.unstall_regs_results : (s.unstall r).regs.results = s.regs.results := rfl
@[simp] theorem State.unstall_regs_tickets : (s.unstall r).regs.tickets = s.regs.tickets := rfl
@[simp] theorem State.unstall_regs_snapSeq : (s.unstall r).regs.snapSeq = s.regs.snapSeq := rfl
@[simp] theorem State.unstall_regs_snapBusy : (s.unstall r).regs.snapBusy = s.regs.snapBusy := rfl
@[simp] theorem State.unstall_regs_snapMask : (s.unstall r).regs.snapMask = s.regs.snapMask := rfl
@[simp] theorem State.unstall_regs_snapStamp : (s.unstall r).regs.snapStamp = s.regs.snapStamp := rfl
@[simp] theorem State.unstall_regs_snapshot : (s.unstall r).regs.snapshot = s.regs.snapshot := rfl
@[simp] theorem State.unstall_regs_sumBusy : (s.unstall r).regs.sumBusy = s.regs.sumBusy := rfl
@[simp] theorem State.unstall_regs_window : (s.unstall r).regs.window = s.regs.window := rfl
@[simp] theorem State.unstall_regs_views : (s.unstall r).regs.views = s.regs.views := rfl
@[simp] theorem State.unstall_regs_evtCopy : (s.unstall r).regs.evtCopy = s.regs.evtCopy := rfl
@[simp] theorem State.unstall_regs_logCopy : (s.unstall r).regs.logCopy = s.regs.logCopy := rfl
@[simp] theorem State.unstall_regs_smpValue : (s.unstall r).regs.smpValue = s.regs.smpValue := rfl
@[simp] theorem State.unstall_regs_smpStatus : (s.unstall r).regs.smpStatus = s.regs.smpStatus := rfl
@[simp] theorem State.unstall_regs_accSeen : (s.unstall r).regs.accSeen = s.regs.accSeen := rfl
@[simp] theorem State.unstall_regs_nacked : (s.unstall r).regs.nacked = s.regs.nacked := rfl

end unstall

section useCells
variable (s : State) (req wd mgt : Nat)

@[simp] theorem State.useCells_time : (s.useCells req wd mgt).time = s.time := rfl
@[simp] theorem State.useCells_regs : (s.useCells req wd mgt).regs = s.regs := rfl
@[simp] theorem State.useCells_pins : (s.useCells req wd mgt).pins = s.pins := rfl
@[simp] theorem State.useCells_nvm : (s.useCells req wd mgt).nvm = s.nvm := rfl
@[simp] theorem State.useCells_evt : (s.useCells req wd mgt).evt = s.evt := rfl
@[simp] theorem State.useCells_flt : (s.useCells req wd mgt).flt = s.flt := rfl
@[simp] theorem State.useCells_trx : (s.useCells req wd mgt).trx = s.trx := rfl
@[simp] theorem State.useCells_regul : (s.useCells req wd mgt).regul = s.regul := rfl
@[simp] theorem State.useCells_chans : (s.useCells req wd mgt).chans = s.chans := rfl
@[simp] theorem State.useCells_array : (s.useCells req wd mgt).array = s.array := rfl
@[simp] theorem State.useCells_tab : (s.useCells req wd mgt).tab = s.tab := rfl
@[simp] theorem State.useCells_capo : (s.useCells req wd mgt).capo = s.capo := rfl
@[simp] theorem State.useCells_sensors : (s.useCells req wd mgt).sensors = s.sensors := rfl
@[simp] theorem State.useCells_sec : (s.useCells req wd mgt).sec = s.sec := rfl
@[simp] theorem State.useCells_cal : (s.useCells req wd mgt).cal = s.cal := rfl
@[simp] theorem State.useCells_pwr : (s.useCells req wd mgt).pwr = s.pwr := rfl
@[simp] theorem State.useCells_boot : (s.useCells req wd mgt).boot = s.boot := rfl
@[simp] theorem State.useCells_pair : (s.useCells req wd mgt).pair = s.pair := rfl
@[simp] theorem State.useCells_rpr : (s.useCells req wd mgt).rpr = s.rpr := rfl
@[simp] theorem State.useCells_upd : (s.useCells req wd mgt).upd = s.upd := rfl
@[simp] theorem State.useCells_free : (s.useCells req wd mgt).free = s.free := rfl
@[simp] theorem State.useCells_pending : (s.useCells req wd mgt).pending = s.pending := rfl
@[simp] theorem State.useCells_link_lanes : (s.useCells req wd mgt).link.lanes = s.link.lanes := rfl
@[simp] theorem State.useCells_link_courses : (s.useCells req wd mgt).link.courses = s.link.courses := rfl
@[simp] theorem State.useCells_link_upQ : (s.useCells req wd mgt).link.upQ = s.link.upQ := rfl
@[simp] theorem State.useCells_link_crWaited : (s.useCells req wd mgt).link.crWaited = s.link.crWaited := rfl

end useCells

section setSpdm
variable (s : State) (t : Transport) (f : Spdm → Spdm)

@[simp] theorem State.setSpdm_time : (s.setSpdm t f).time = s.time := rfl
@[simp] theorem State.setSpdm_regs : (s.setSpdm t f).regs = s.regs := rfl
@[simp] theorem State.setSpdm_pins : (s.setSpdm t f).pins = s.pins := rfl
@[simp] theorem State.setSpdm_nvm : (s.setSpdm t f).nvm = s.nvm := rfl
@[simp] theorem State.setSpdm_evt : (s.setSpdm t f).evt = s.evt := rfl
@[simp] theorem State.setSpdm_flt : (s.setSpdm t f).flt = s.flt := rfl
@[simp] theorem State.setSpdm_link : (s.setSpdm t f).link = s.link := rfl
@[simp] theorem State.setSpdm_trx : (s.setSpdm t f).trx = s.trx := rfl
@[simp] theorem State.setSpdm_regul : (s.setSpdm t f).regul = s.regul := rfl
@[simp] theorem State.setSpdm_chans : (s.setSpdm t f).chans = s.chans := rfl
@[simp] theorem State.setSpdm_array : (s.setSpdm t f).array = s.array := rfl
@[simp] theorem State.setSpdm_tab : (s.setSpdm t f).tab = s.tab := rfl
@[simp] theorem State.setSpdm_capo : (s.setSpdm t f).capo = s.capo := rfl
@[simp] theorem State.setSpdm_sensors : (s.setSpdm t f).sensors = s.sensors := rfl
@[simp] theorem State.setSpdm_cal : (s.setSpdm t f).cal = s.cal := rfl
@[simp] theorem State.setSpdm_pwr : (s.setSpdm t f).pwr = s.pwr := rfl
@[simp] theorem State.setSpdm_boot : (s.setSpdm t f).boot = s.boot := rfl
@[simp] theorem State.setSpdm_pair : (s.setSpdm t f).pair = s.pair := rfl
@[simp] theorem State.setSpdm_rpr : (s.setSpdm t f).rpr = s.rpr := rfl
@[simp] theorem State.setSpdm_upd : (s.setSpdm t f).upd = s.upd := rfl
@[simp] theorem State.setSpdm_free : (s.setSpdm t f).free = s.free := rfl
@[simp] theorem State.setSpdm_pending : (s.setSpdm t f).pending = s.pending := rfl

end setSpdm

end Sys2Proof.Machine
end

