-- ==== Sys2Proof/Tests/Slice0.lean ====
section
/-! SUPPORT. The tests: terms that the well-formedness checks refuse, values that the spec itself works out, and, for every
statement with hypotheses, a state and operands that meet them together, clause by clause. -/

open Sys2Proof Sys2Proof.Machine

namespace Sys2Proof.Tests

set_option Elab.async false

/-! ### States and operands that the tests share: a part that is up, with one course carrying flits -/

def onDom : Domain := { st := .on, from0 := true, wakeFrom := none, tries := 0, retryAt := none, delay := none, refused := false, waitAck := none, cold := false, timer := 0, limit := 0 }
def upCourse : Course := { Course.init with up := true, tx := .run }
def wUp : State :=
  { State.reset with
    time := ⟨100000, 5000#48, []⟩
    pins := { State.reset.pins with pwrGood := true, nvmRdy := true, pswEn := .const true }
    pwr := { PwrSt.init with doms := .const onDom, cgs := .const ⟨.active, 0, 0, none, none, .off⟩ }
    boot := { BootSt.init with stage := .ready, chReady := 0xffffffff }
    link := { LinkSt.init with
      courses := ⟨Course.init, [(3, upCourse)]⟩
      lanes := .const { Lane.init with rxv := true, st := .hunt }
      req := ⟨2048, 1024, 1024, 0, 0⟩, wd := ⟨8192, 4096, 4096, 0, 0⟩, mgt := ⟨64, 32, 32, 0, 0⟩ }
    sec := { SecSt.init false with drbgOk := true, smp := { Spdm.init with session := some ⟨0, true, true, false, false, 0, 5, [], [], 0⟩ } }
    pair := { PairSt.init with role := .alone }
    cal := { CalSt.init with refState := .locked, refCourse := 3 } }
def aSmp : Access := ⟨.smpSession, 0, true, true⟩
def aWrap : Access := ⟨.wrapper, 0, true, true⟩
def offD (d : Nat) (s : State) : State := s.setDom d (fun x => { x with st := .off, wakeFrom := none, from0 := true })
def failD (d : Nat) (s : State) : State := s.setDom d (fun x => { x with st := .failed, wakeFrom := none })
def wakingD (d : Nat) (s : State) : State := s.setDom d (fun x => { x with st := .off, wakeFrom := some 99990, retryAt := none })
def delayD (d : Nat) (s : State) : State := s.setDom d (fun x => { x with delay := some (.off, 100002) })
def aReq (uid op : Nat) (st : Stage) : Req :=
  { uid := uid, hdr := BitVec.ofNat 128 (op + (900 + uid) * 2^8), data := List.replicate 4 0, mask := 0, clear := false, pool := false, stage := st, left := [0],
    slot := none, deadline := none, bornAge := 0, use := false, gen := 0, chs := [], course := 3, cell := 0, down := [], downCh := 0 }
def aPost : Posted := ⟨⟨.link, 3, true, true⟩, 2, 0x1008, 5#32, none, false, none, 0⟩
def aCommit : Commit := { epoch := 7, mask := 2, level := 2, secureLvl := true, shadow := .const 0, touched := .const 0, full := false, checked := false, adjusted := false, waiting := [], chG2 := [], chG4 := [], deadline := none, boot := false, checkedAt := 0, slotAt := [], mins := [], holds := false, uidAt := 0 }
def mk (u : FUnit) (i : Nat) (s : State) : State := { s with flt := { s.flt with marks := s.flt.marks ++ [⟨u, i, 0, []⟩] } }
def aMsg (seq : Nat) : MirMsg := ⟨seq, [0#32,1#32,2#32,3#32,4#32], 99000, 99000, none⟩
def aEv (n : Nat) : EvRec := { seq := n, time := 0, source := 1, code := 0x101, sev := 2, held := false, partner := false, rep := 0, payload := 0, queued := false, born := 0 }

/-! ### Commands that name units the part does not have -/

def trimsOk : Trims := ⟨127, 1023, 12, [0, 0, 0, 0], List.replicate 40 0, List.replicate 40 0, List.replicate 40 0, List.replicate 8 0,
  [0, 0], 63, List.replicate 19 0, 40⟩
def badTrims : Trims := { trimsOk with fret := 128 }
def resOk : TrainResult := ⟨trimsOk, [35], [17], true, [3], false, false, [], [], []⟩
def badRes : TrainResult := { resOk with strobeSids := [4] }
def envOk : BootEnv :=
  ⟨true, true, true, true, [0xfffff], [23], [⟨false, 63, 0, true⟩, ⟨true, 15, 0, true⟩], [⟨127, 0, 0, 0⟩], [⟨127, 0, 0, 0⟩], true, true⟩
def badEnv : BootEnv := { envOk with idents := [⟨128, 0, 0, 0⟩] }

theorem test_wellFormed_trims : ([badTrims, { trimsOk with pluck := 1024 }, { trimsOk with drv := 13 }, { trimsOk with sidDrv := [] },
    { trimsOk with vref := [] }, { trimsOk with wdeskew := [] }, { trimsOk with rdeskew := [] }, { trimsOk with rstrobe := [] },
    { trimsOk with wstrobe := [] }, { trimsOk with csPhase := 64 }, { trimsOk with cdeskew := [] }, { trimsOk with rdGate := 41 }].all
      fun t => !t.wellFormed) = true := by decide +kernel

theorem test_wellFormed_trainResult : ([badRes, { resOk with trims := badTrims }, { resOk with failedDq := [36] },
    { resOk with failedCmd := [18] }].all fun r => !r.wellFormed) = true := by decide +kernel

theorem test_wellFormed_bootEnv : ([badEnv, { envOk with badWords := [0x100000] }, { envOk with deadDomain := [24] },
    { envOk with idents2 := [⟨128, 0, 0, 0⟩] }, { envOk with readings := [⟨true, 16, 0, true⟩] },
    { envOk with readings := [⟨false, 64, 0, true⟩] }].all
    fun e => !e.wellFormed) = true := by decide +kernel

theorem test_wellFormed_bistResult : (([⟨0x1000000, 0, 0, 0, 0⟩, ⟨0, 64, 0, 0, 0⟩, ⟨0, 0, 32768, 0, 0⟩, ⟨0, 0, 0, 16, 0⟩,
    ⟨0, 0, 0, 0, 0x1000000000⟩] : List BistResult).all fun r => !r.wellFormed) = true := by decide +kernel


/-- Start-up, NVM and power-good: each check refuses a term that breaks it alone. -/
theorem test_refused_startUpNvmAndPowerGood :
    (([.pwrGoodRise badEnv, .nvmRdyRise badEnv, .trainingComplete 32 resOk, .trainingComplete 0 badRes, .trainingTimeout 32] : List Instr).all fun i => !i.wellFormed) = true := by
  decide +kernel

/-- Start-up, NVM and power-good: each check passes the last value of its range. -/
theorem test_passed_startUpNvmAndPowerGood :
    (([.pwrGoodRise envOk, .nvmRdyRise envOk, .trainingComplete 31 resOk, .trainingTimeout 31] : List Instr).all fun i => i.wellFormed) = true := by
  decide +kernel

/-- Lanes and courses: each check refuses a term that breaks it alone. -/
theorem test_refused_lanesAndCourses :
    (([.lnRxvFall 12 0, .lnRxvFall 0 17, .lnRxvRise 12 0, .lnRxvRise 0 17, .lnEqack 12 0, .lnEqack 0 17, .laneBlockRx 12 0 0#2 0#64,
    .laneBlockRx 0 17 0#2 0#64, .marker 12 0 0#64 0, .marker 0 17 0#64 0, .laneMap 12 0#64 0, .laneMap 0 0#64 17,
    .laneSwitch 12 0#64 0, .laneSwitch 0 0#64 17, .idleFlitRx 12 0#64 [], .idleFlitRx 0 0#64 [512],
    .msgFlitRx 12 0#64 (List.replicate 30 0#128) [], .msgFlitRx 0 0#64 (List.replicate 31 0#128) [],
    .msgFlitRx 0 0#64 (List.replicate 30 0#128) [512], .courseDown 12 0#64 0#128 [], .courseDown 0 0#64 0#128 [512], .flitTx 12,
    .replayTimeout 12, .nakResend 12, .retrainLimit 12] : List Instr).all fun i => !i.wellFormed) = true := by
  decide +kernel

/-- Lanes and courses: each check passes the last value of its range. -/
theorem test_passed_lanesAndCourses :
    (([.lnRxvFall 11 16, .lnRxvRise 11 16, .lnEqack 11 16, .laneBlockRx 11 16 0#2 0#64, .marker 11 16 0#64 0, .laneMap 11 0#64 16,
    .laneSwitch 11 0#64 16, .idleFlitRx 11 0#64 [511], .msgFlitRx 11 0#64 (List.replicate 30 0#128) [511],
    .courseDown 11 0#64 0#128 [511], .flitTx 11, .replayTimeout 11, .nakResend 11, .retrainLimit 11] : List Instr).all fun i => i.wellFormed) = true := by
  decide +kernel

/-- Rila requests: each check refuses a term that breaks it alone. -/
theorem test_refused_rilaRequests :
    (([.rd 12 0 0#128, .rd 0 30 0#128, .wr 12 0 0#128 (List.replicate 4 0#128), .wr 0 30 0#128 (List.replicate 4 0#128),
    .wr 0 0 0#128 (List.replicate 5 0#128), .wrp 12 0 0#128 (List.replicate 4 0#128) none,
    .wrp 0 30 0#128 (List.replicate 4 0#128) none, .wrp 0 0 0#128 (List.replicate 5 0#128) none, .mask 12 0 0#128, .mask 0 30 0#128,
    .fadd64 12 0 0#128 0#128, .fadd64 0 30 0#128 0#128, .cas64 12 0 0#128 0#128, .cas64 0 30 0#128 0#128, .fence 12 0 0#128,
    .fence 0 30 0#128, .fenceComplete 2048, .cfgrd 12 0 0#128, .cfgrd 0 30 0#128, .cfgwr 12 0 0#128, .cfgwr 0 30 0#128,
    .malformedMessage 12 0 0#128, .malformedMessage 0 30 0#128, .resync 12 0 0#128, .resync 0 30 0#128, .summaryCapture 64,
    .timeSet 12 0 0#128, .timeSet 0 30 0#128, .keyCreate 12 0 0#128, .keyCreate 0 30 0#128, .keyErase 12 0 0#128,
    .keyErase 0 30 0#128, .keyEraseComplete 2048 false, .keyPersist 12 0 0#128, .keyPersist 0 30 0#128] : List Instr).all fun i => !i.wellFormed) = true := by
  decide +kernel

/-- Rila requests: each check passes the last value of its range. -/
theorem test_passed_rilaRequests :
    (([.rd 11 29 0#128, .wr 11 29 0#128 (List.replicate 4 0#128), .wrp 11 29 0#128 (List.replicate 4 0#128) none, .mask 11 29 0#128,
    .fadd64 11 29 0#128 0#128, .cas64 11 29 0#128 0#128, .fence 11 29 0#128, .fenceComplete 2047, .cfgrd 11 29 0#128,
    .cfgwr 11 29 0#128, .malformedMessage 11 29 0#128, .resync 11 29 0#128, .summaryCapture 63, .timeSet 11 29 0#128,
    .keyCreate 11 29 0#128, .keyErase 11 29 0#128, .keyEraseComplete 2047 false, .keyPersist 11 29 0#128] : List Instr).all fun i => i.wellFormed) = true := by
  decide +kernel

/-- SPDM: each check refuses a term that breaks it alone. -/
theorem test_refused_spdm :
    (([.getVersion .smp 64, .getCapabilities .smp 64, .negotiateAlgorithms .smp 64 false, .getDigests .smp 64,
    .getCertificate .smp 64 0 0 0, .getCertificate .smp 0 8 0 0, .getCertificate .smp 0 0 65536 0, .getCertificate .smp 0 0 0 65536,
    .challenge .smp 64 0 0, .challenge .smp 0 8 0, .getMeasurements .smp 64 0, .getMeasurements .smp 0 65536,
    .keyExchange .smp 64 0 false, .finish .smp 64 false, .getEncapsulatedRequest .smp 64,
    .deliverEncapsulatedResponse .smp 64 false (List.replicate 48 0#8),
    .deliverEncapsulatedResponse .smp 0 false (List.replicate 49 0#8), .keyUpdate .smp 64 false, .endSession .smp 64,
    .respondIfReady .smp 64] : List Instr).all fun i => !i.wellFormed) = true := by
  decide +kernel

/-- SPDM: each check passes the last value of its range. -/
theorem test_passed_spdm :
    (([.getVersion .smp 63, .getCapabilities .smp 63, .negotiateAlgorithms .smp 63 false, .getDigests .smp 63,
    .getCertificate .smp 63 7 65535 65535, .challenge .smp 63 7 0, .getMeasurements .smp 63 65535, .keyExchange .smp 63 0 false,
    .finish .smp 63 false, .getEncapsulatedRequest .smp 63, .deliverEncapsulatedResponse .smp 63 false (List.replicate 48 0#8),
    .keyUpdate .smp 63 false, .endSession .smp 63, .respondIfReady .smp 63] : List Instr).all fun i => i.wellFormed) = true := by
  decide +kernel

/-- Router and regulation: each check refuses a term that breaks it alone. -/
theorem test_refused_routerAndRegulation :
    (([.rmwMerge 4096 false, .rmwMerge 2048 true, .tagTimeout 4096 false, .tagTimeout 2048 true, .quarantineEnd 4096 false,
    .quarantineEnd 2048 true] : List Instr).all fun i => !i.wellFormed) = true := by
  decide +kernel

/-- Router and regulation: each check passes the last value of its range. -/
theorem test_passed_routerAndRegulation :
    (([.rmwMerge 4095 false, .tagTimeout 4095 false, .quarantineEnd 4095 false] : List Instr).all fun i => i.wellFormed) = true := by
  decide +kernel

/-- Control plane: each check refuses a term that breaks it alone. -/
theorem test_refused_controlPlane :
    (([.sysCommit ⟨.link, 12, true, true⟩ 0#16, .groupApply 11 0, .groupApply 0 32, .registerWrite ⟨.link, 12, true, true⟩ 0 0#32,
    .registerWrite aSmp 524288 0#32, .postedWriteEffect 512, .sleepingDomainRead ⟨.link, 12, true, true⟩ 0,
    .sleepingDomainRead aSmp 524288, .rcRead ⟨.link, 12, true, true⟩ 0, .rcRead aSmp 524288,
    .counterLowRead ⟨.link, 12, true, true⟩ 0, .counterLowRead aSmp 524288, .sysSnap ⟨.link, 12, true, true⟩,
    .sysSumctlCapture ⟨.link, 12, true, true⟩, .sysSave ⟨.link, 12, true, true⟩] : List Instr).all fun i => !i.wellFormed) = true := by
  decide +kernel

/-- Control plane: each check passes the last value of its range. -/
theorem test_passed_controlPlane :
    (([.sysCommit aSmp 0#16, .groupApply 10 31, .registerWrite aSmp 524287 0#32, .postedWriteEffect 511, .sleepingDomainRead aSmp 524287,
    .rcRead aSmp 524287, .counterLowRead aSmp 524287, .sysSnap aSmp, .sysSumctlCapture aSmp, .sysSave aSmp] : List Instr).all fun i => i.wellFormed) = true := by
  decide +kernel

/-- Sensors and regulator: each check refuses a term that breaks it alone. -/
theorem test_refused_sensorsAndRegulator :
    (([.sensorRead false 64 0#10 false, .sensorRead true 16 0#10 false, .sensorAckTimeout false 64, .sensorAckTimeout true 16,
    .pswRdyFall 24, .dieWindowRoll 16] : List Instr).all fun i => !i.wellFormed) = true := by
  decide +kernel

/-- Sensors and regulator: each check passes the last value of its range. -/
theorem test_passed_sensorsAndRegulator :
    (([.sensorRead false 63 0#10 false, .sensorAckTimeout false 63, .pswRdyFall 23, .dieWindowRoll 15] : List Instr).all fun i => i.wellFormed) = true := by
  decide +kernel

/-- Channel engines: each check refuses a term that breaks it alone. -/
theorem test_refused_channelEngines :
    (([.agentRequest 64 .rdq 0, .preemptionPoint 64, .tabRowIssue 64 false 0 false 0#40, .burstComplete 64 none 0#640 0,
    .readDataReturn 64 [] 0, .readDataReturn 0 [(72, 0#8)] 0, .captureMiss 64, .statusResult 64 0 0#3, .statusResult 0 4 0#3,
    .bankIdleTimeout 64 0, .bankIdleTimeout 0 64, .slotTimerExpiry 64, .mitlatchRx 64 0, .mitlatchRx 0 4, .hotPeriodExpiry 64 0,
    .hotPeriodExpiry 0 64, .exitSweepEnd 64, .sentCheckResult 64 0 0#32 false, .sentCheckResult 0 64 0#32 false,
    .suspectScrubEnd 64 0 0, .suspectScrubEnd 0 64 0, .suspectScrubEnd 0 0 524288] : List Instr).all fun i => !i.wellFormed) = true := by
  decide +kernel

/-- Channel engines: each check passes the last value of its range. -/
theorem test_passed_channelEngines :
    (([.agentRequest 63 .rdq 0, .preemptionPoint 63, .tabRowIssue 63 false 0 false 0#40, .burstComplete 63 none 0#640 0,
    .readDataReturn 63 [(71, 0#8)] 0, .captureMiss 63, .statusResult 63 3 0#3, .bankIdleTimeout 63 63, .slotTimerExpiry 63,
    .mitlatchRx 63 3, .hotPeriodExpiry 63 63, .exitSweepEnd 63, .sentCheckResult 63 63 0#32 false, .suspectScrubEnd 63 63 524287] : List Instr).all fun i => i.wellFormed) = true := by
  decide +kernel

/-- Calibration: each check refuses a term that breaks it alone. -/
theorem test_refused_calibration :
    (([.replicaWindowEnd 16 false, .calRunComplete 16 false 0 trimsOk trimsOk, .calRunComplete 0 false 128 trimsOk trimsOk,
    .calRunComplete 0 false 0 badTrims trimsOk, .calRunComplete 0 false 0 trimsOk badTrims, .slewStep 64, .idlePeriod 64,
    .idleWaitExpiry 64, .retrainComplete 64 resOk, .retrainComplete 0 badRes, .calRun ⟨.link, 12, true, true⟩ 0#16,
    .calRetrain ⟨.link, 12, true, true⟩ 0 false, .calRetrain aSmp 32 false, .refSusclr ⟨.link, 12, true, true⟩ 0, .refSusclr aSmp 32] : List Instr).all fun i => !i.wellFormed) = true := by
  decide +kernel

/-- Calibration: each check passes the last value of its range. -/
theorem test_passed_calibration :
    (([.replicaWindowEnd 15 false, .calRunComplete 15 false 127 trimsOk trimsOk, .slewStep 63, .idlePeriod 63, .idleWaitExpiry 63,
    .retrainComplete 63 resOk, .calRun aSmp 0#16, .calRetrain aSmp 31 false, .refSusclr aSmp 31] : List Instr).all fun i => i.wellFormed) = true := by
  decide +kernel

/-- Power: each check refuses a term that breaks it alone. -/
theorem test_refused_power :
    (([.idleThresholdExpiry 16 .pd, .entryConditionsMet 24, .delayLimitExpiry 24, .pwrReqOn ⟨.link, 12, true, true⟩ 0, .pwrReqOn aSmp 24,
    .pwrReqRetention ⟨.link, 12, true, true⟩ 0, .pwrReqRetention aSmp 24, .pwrReqOff ⟨.link, 12, true, true⟩ 0, .pwrReqOff aSmp 24,
    .wakeReady 24 false false false, .wakeTimerExpiry 24, .wakeRetry 24, .pwrUnfence ⟨.link, 12, true, true⟩ 0, .pwrUnfence aSmp 24,
    .linkWake 12] : List Instr).all fun i => !i.wellFormed) = true := by
  decide +kernel

/-- Power: each check passes the last value of its range. -/
theorem test_passed_power :
    (([.idleThresholdExpiry 15 .pd, .entryConditionsMet 23, .delayLimitExpiry 23, .pwrReqOn aSmp 23, .pwrReqRetention aSmp 23,
    .pwrReqOff aSmp 23, .wakeReady 23 false false false, .wakeTimerExpiry 23, .wakeRetry 23, .pwrUnfence aSmp 23, .linkWake 11] : List Instr).all fun i => i.wellFormed) = true := by
  decide +kernel

/-- The pair: each check refuses a term that breaks it alone. -/
theorem test_refused_thePair :
    (([.mirIdentity (List.replicate 65536 0#32), .mirHeartbeat (List.replicate 65536 0#32), .mirRefBase (List.replicate 65536 0#32),
    .mirBacklog (List.replicate 65536 0#32), .mirKey (List.replicate 65536 0#32), .mirRepair (List.replicate 65536 0#32),
    .mirConfig (List.replicate 65536 0#32), .mirTrims (List.replicate 65536 0#32), .mirSleep (List.replicate 65536 0#32),
    .mirPairkey (List.replicate 65536 0#32), .mirHandback (List.replicate 65536 0#32), .mirrorAck 256, .mirrorResendTimeout 256,
    .takeoverRetrainDone [31], .takeoverRetrainDone [64], .handback ⟨.link, 12, true, true⟩] : List Instr).all fun i => !i.wellFormed) = true := by
  decide +kernel

/-- The pair: each check passes the last value of its range. -/
theorem test_passed_thePair :
    (([.mirIdentity [], .mirHeartbeat [], .mirRefBase [], .mirBacklog [], .mirKey [], .mirRepair [], .mirConfig [], .mirTrims [],
    .mirSleep [], .mirPairkey [], .mirHandback [], .mirrorAck 255, .mirrorResendTimeout 255, .takeoverRetrainDone [63], .handback aSmp] : List Instr).all fun i => i.wellFormed) = true := by
  decide +kernel

/-- Faults and events: each check refuses a term that breaks it alone. -/
theorem test_refused_faultsAndEvents :
    (([.progStall 34, .fltFence ⟨.link, 12, true, true⟩ 0#32, .fltUnfence ⟨.link, 12, true, true⟩ 0#32 false,
    .fltPinHold ⟨.link, 12, true, true⟩ 0#8, .fltPinRelease ⟨.link, 12, true, true⟩ 0#8, .evtView ⟨.link, 12, true, true⟩ 0,
    .evtView aSmp 4294967296, .evtLogidx ⟨.link, 12, true, true⟩ 0, .evtLogidx aSmp 16384, .crsFence ⟨.link, 12, true, true⟩ 0,
    .crsFence aSmp 12, .crsUnfence ⟨.link, 12, true, true⟩ 0, .crsUnfence aSmp 12, .crsRetrain ⟨.link, 12, true, true⟩ 0,
    .crsRetrain aSmp 12, .secLock ⟨.link, 12, true, true⟩, .entropyHealthFail 3 none] : List Instr).all fun i => !i.wellFormed) = true := by
  decide +kernel

/-- Faults and events: each check passes the last value of its range. -/
theorem test_passed_faultsAndEvents :
    (([.progStall 33, .fltFence aSmp 0#32, .fltUnfence aSmp 0#32 false, .fltPinHold aSmp 0#8, .fltPinRelease aSmp 0#8,
    .evtView aSmp 4294967295, .evtLogidx aSmp 16383, .crsFence aSmp 11, .crsUnfence aSmp 11, .crsRetrain aSmp 11, .secLock aSmp,
    .entropyHealthFail 2 none] : List Instr).all fun i => i.wellFormed) = true := by
  decide +kernel

/-- Repair, test and loopback: each check refuses a term that breaks it alone. -/
theorem test_refused_repairTestAndLoopback :
    (([.softRow ⟨.link, 12, true, true⟩ 0#32, .hardRow ⟨.link, 12, true, true⟩ 0#32, .colAdd ⟨.link, 12, true, true⟩ 0#32,
    .colRemove ⟨.link, 12, true, true⟩ 0#32, .bistStart ⟨.link, 12, true, true⟩ 0#32, .bistAbort ⟨.link, 12, true, true⟩,
    .bistEnd ⟨0, 64, 0, 0, 0⟩, .loopNesl ⟨.link, 12, true, true⟩ 0#32, .loopNepl ⟨.link, 12, true, true⟩ 0#32,
    .loopFar ⟨.link, 12, true, true⟩ 0#32, .loopOff ⟨.link, 12, true, true⟩] : List Instr).all fun i => !i.wellFormed) = true := by
  decide +kernel

/-- Repair, test and loopback: each check passes the last value of its range. -/
theorem test_passed_repairTestAndLoopback :
    (([.softRow aSmp 0#32, .hardRow aSmp 0#32, .colAdd aSmp 0#32, .colRemove aSmp 0#32, .bistStart aSmp 0#32, .bistAbort aSmp,
    .bistEnd ⟨0, 0, 0, 0, 0⟩, .loopNesl aSmp 0#32, .loopNepl aSmp 0#32, .loopFar aSmp 0#32, .loopOff aSmp] : List Instr).all fun i => i.wellFormed) = true := by
  decide +kernel

/-- Update: each check refuses a term that breaks it alone. -/
theorem test_refused_update :
    (([.svcOpen 4294967296, .svcBlock 65536 (List.replicate 4096 0#8) 0#32, .svcBlock 0 (List.replicate 4097 0#8) 0#32,
    .svcActivate (List.replicate 49 0#8), .svcConfirm (List.replicate 49 0#8), .updConfirm ⟨.link, 12, true, true⟩ 0#32,
    .updateRestartProceed badEnv] : List Instr).all fun i => !i.wellFormed) = true := by
  decide +kernel

/-- Update: each check passes the last value of its range. -/
theorem test_passed_update :
    (([.svcOpen 4294967295, .svcBlock 65535 (List.replicate 4096 0#8) 0#32, .svcActivate (List.replicate 48 0#8),
    .svcConfirm (List.replicate 48 0#8), .updConfirm aSmp 0#32, .updateRestartProceed envOk] : List Instr).all fun i => i.wellFormed) = true := by
  decide +kernel

/-- Two rows that the table lists last: each check refuses a term that breaks it alone. -/
theorem test_refused_twoRowsThatTheTableListsLast :
    (([.flitCrcFailure 12 .crc 0#64 [], .flitCrcFailure 0 .crc 0#64 [512]] : List Instr).all fun i => !i.wellFormed) = true := by
  decide +kernel

/-- Two rows that the table lists last: each check passes the last value of its range. -/
theorem test_passed_twoRowsThatTheTableListsLast :
    (([.flitCrcFailure 11 .crc 0#64 [511]] : List Instr).all fun i => i.wellFormed) = true := by
  decide +kernel

/-! ### The machine as a whole -/

theorem test_stepRunsTheFrontCommand_met : ∃ (s : State) (c : Instr) (l : List Instr), s.pending = c :: l :=
  ⟨{ State.reset with pending := [.pwrGoodFall, .droneTick] }, .pwrGoodFall, [.droneTick], rfl⟩

theorem test_outcomesAreTotal_met :
    (∃ c : Instr, c.wellFormed = true) ∧ ∃ c : Instr, c.wellFormed = false :=
  ⟨⟨.lnRxvRise 11 16, by decide⟩, ⟨.lnRxvRise 12 16, by decide⟩⟩

theorem test_inputsFollowTheirOwnEvents_met :
    ∃ (c : Instr) (s t : State), exec c s = .next t ∧ (∀ env, c ≠ .pwrGoodRise env) ∧ c ≠ .pwrGoodFall ∧
      (∀ env, c ≠ .nvmRdyRise env) ∧ c ≠ .nvmRdyFall ∧ c ≠ .brgSfencedRise ∧ c ≠ .brgSfencedFall ∧ c ≠ .regOcwRise ∧ c ≠ .regOcwFall ∧
      (∀ b, c ≠ .wsBypass b) :=
  ⟨.droneTick, State.reset, _, rfl, nofun, nofun, nofun, nofun, nofun, nofun, nofun, nofun, nofun⟩

theorem test_heldInResetIsKept_met : ∃ s t : State, s.heldInReset ∧ s.pins.pwrGood = false ∧ s.pending ≠ [] ∧ step s = .next t :=
  ⟨{ State.reset with pending := [.droneTick] }, _, fun _ => by decide +kernel, by decide +kernel, by decide, rfl⟩

theorem test_memoriesInCanonicalForm_met :
    ∃ (m n : List Host.Cell) (w : Nat), Memory.wf m = true ∧ Memory.wf n = true ∧ w < 0x100000 ∧ m ≠ [] ∧ n = m :=
  ⟨[⟨0, 1⟩, ⟨0x7fffff, 0xff⟩], [⟨0, 1⟩, ⟨0x7fffff, 0xff⟩], 0xfffff, by decide, by decide, by decide, by decide, rfl⟩

theorem test_dieCommandsAreCaptured_met :
    ∃ c d e f : DieCmd, c.admitted ∧ d.admitted ∧ e.admitted ∧ f.admitted ∧ c.cmd = 12 ∧ d.cmd = 18 ∧ e.cmd = 19 ∧ f.cmd = 20 ∧
      c.row = 32767 ∧ c.arg = 15 ∧ d.col = 15 ∧ e.data = 255 :=
  ⟨⟨12, 3, 15, 32767, 15, 0, 0, 0⟩, ⟨18, 3, 15, 0, 0, 15, 0, 0⟩, ⟨19, 3, 0, 0, 0, 0, 63, 255⟩, ⟨20, 0, 0, 0, 0, 0, 63, 0⟩,
    by simp [DieCmd.admitted]⟩

/-! ### Values that the spec itself works out -/

/-- 11_tablature.md, "Core-die commands": the ACT for CH25, SID3, bank 2, row 0x11a2 carries beats 0x072, 0x1a2, 0x004, 0x200, and the
RD of column 11 beats 0x1e, 0x2c, 0x00, 0x80. -/
theorem test_die_beats :
    (⟨1, 3, 2, 0x11a2, 0, 0, 0, 0⟩ : DieCmd).rowBeats = 0x200#10 ++ 0x004#10 ++ 0x1a2#10 ++ 0x072#10 ∧
      (⟨16, 3, 2, 0, 0, 11, 0, 0⟩ : DieCmd).colBeats = 0x80#8 ++ 0x00#8 ++ 0x2c#8 ++ 0x1e#8 := by
  decide +kernel

/-- R258, R259: a reserved opcode is not captured. -/
theorem test_reserved_opcodes : captureRow 0x340#40 = none ∧ captureRow 0x200#40 = none ∧ captureCol 0x60#32 = none := by decide +kernel

/-- R130: the check value over the ASCII string "123456789". -/
theorem test_crc_check_value : crc32c ((List.range 9).map fun i => BitVec.ofNat 8 (0x31 + i)) = 0xe3069283#32 := by decide +kernel

/-- The worked translation of 08_address_mapping.md with all 32 channels serving: CH25, SID3, bank group 0, bank 2, row 4,514,
column 11. -/
theorem test_map_all_serving :
    mapLine 2 0xffffffff (fun i => State.reset.rfn RF.MAP_MASK 0 i) 0x01234567 = some ⟨25, 0x91a2b, 16 * 3 + 2, 4514, 11⟩ := by
  decide +kernel

/-- The same line with CH9 removed from SERVE lies in CH15 at d = 0x9_6557. -/
theorem test_map_ch9_removed :
    (mapLine 2 0xfffffdff (fun i => State.reset.rfn RF.MAP_MASK 0 i) 0x01234567).map (fun x => (x.ch, x.d)) = some (15, 0x96557) := by
  decide +kernel

/-- The served range then ends at line 0x3e00_0000. -/
theorem test_map_end_of_range :
    (mapLine 2 0xfffffdff (fun i => State.reset.rfn RF.MAP_MASK 0 i) 0x3e000000) = none ∧
      (mapLine 2 0xfffffdff (fun i => State.reset.rfn RF.MAP_MASK 0 i) 0x3dffffff).isSome = true := by
  decide +kernel

/-- The example of R356 in 15_calibration.md: CH10 at 92 °C between its points at 80 °C and at 105 °C. -/
def setAt (fret pluck wd : Nat) : TempSet :=
  ⟨true, false, false, 0, 0, fret, { trimsOk with fret := fret, pluck := pluck, wdeskew := List.replicate 40 wd }, none⟩
def wInterp : State :=
  { wUp with cal := { wUp.cal with sets := (wUp.cal.sets.set (8 * 10 + 4) (setAt 62 500 40)).set (8 * 10 + 5) (setAt 66 521 46) } }
theorem test_interpolation :
    wInterp.interp 10 132 (4 * (92 + 64)) = 64 ∧ wInterp.interp 10 0 (4 * (92 + 64)) = 511 ∧ wInterp.interp 10 49 (4 * (92 + 64)) = 43 := by
  decide +kernel

/-- FIPS 197, the example of AES-256: encryption, and decryption back. -/
theorem test_aes256 :
    aes256 0x000102030405060708090a0b0c0d0e0f101112131415161718191a1b1c1d1e1f 0x00112233445566778899aabbccddeeff#128 =
        0x8ea2b7ca516745bfeafc49904b496089#128 ∧
      aes256Inv 0x000102030405060708090a0b0c0d0e0f101112131415161718191a1b1c1d1e1f 0x8ea2b7ca516745bfeafc49904b496089#128 =
        0x00112233445566778899aabbccddeeff#128 := by
  decide +kernel

/-- FIPS 180-4, the example of SHA-384: the digest of "abc". -/
theorem test_sha384 :
    beNat (sha384Bytes [0x61#8, 0x62#8, 0x63#8]) =
      0xcb00753f45a35e8bb5a03d699ac65007272c32ab0eded1631a8b605a43ff5bed8086072ba1e7cc2358baeca134c825a7 := by
  decide +kernel

/-- SP 800-186: the generator of P-384 lies on the curve, and twice it does. -/
theorem test_p384_generator : onCurve g384 = true ∧ onCurve (mulPoint 2 g384) = true := by decide +kernel

/-- A step on an empty queue idles. -/
theorem test_empty_queue_idles : step State.reset = .next State.reset := rfl

/-- A word of the opcode table spells no command, so nothing is put in front of the queue. -/
theorem test_no_word_spells_a_command : decodeTableWord 8 0xff = none ∧ (State.reset.withFetchWord 8 0xff).pending = [] := ⟨rfl, rfl⟩

/-! ### The hypotheses of the statements can be met -/

/-- Four of the parts of a conjunction at once. -/
theorem and_four {a b c d r : Prop} (h : a ∧ b ∧ c ∧ d) (hr : r) : a ∧ b ∧ c ∧ d ∧ r := ⟨h.1, h.2.1, h.2.2.1, h.2.2.2, hr⟩

namespace Wa
def env0 : BootEnv := ⟨true, true, true, true, [], [], [], [], [], true, true⟩
def wStop : State := { wUp with rpr := { wUp.rpr with wsStop := true } }
def wBoot : State := { wUp with boot := { BootSt.init with stage := .rom, waiting := true }, pins := { wUp.pins with nvmRdy := false } }
def nlow (s : State) : State := { s with pins := { s.pins with nvmRdy := false } }
def jb (w : NvmWhy) (l : List (Nat × BitVec 64)) (s : State) : State := { s with nvm := { s.nvm with jobs := [⟨w, true, l⟩], reqSince := some 99990 } }
def wTrain : State := { wUp with boot := { wUp.boot with stage := .train, trainLeft := [5, 6] , chReady := 3 }, cal := { wUp.cal with chans := ⟨wUp.cal.chans.dflt, [(5, { wUp.cal.chans.dflt with trainFrom := some 100 })]⟩ } }
def res0 : TrainResult := ⟨{ Trims.init with pluck := 3, csPhase := 2 }, [], [], false, [], false, true, [], [], []⟩
def wLink : State := { wUp with boot := { wUp.boot with stage := .link }, link := LinkSt.init }
def wHold : State := { wUp with cal := { wUp.cal with refState := .holdover } }
end Wa

theorem test_StoppedAgentsStand_met :
    (∃ (c : Instr) (s : State),
      c.wellFormed = true ∧ s.pins.pwrGood = true ∧ s.rpr.wsStop = true ∧ (∀ env, c ≠ .pwrGoodRise env) ∧ c ≠ .pwrGoodFall ∧ (∀ env, c ≠ .nvmRdyRise env) ∧ c ≠ .nvmRdyFall ∧ c ≠ .brgSfencedRise ∧ c ≠ .brgSfencedFall ∧ c ≠ .regOcwRise ∧ c ≠ .regOcwFall ∧ (∀ b, c ≠ .wsBypass b) ∧ (∀ x, c ≠ .wsExtest x) ∧ (∀ x, c ≠ .wsIntest x) ∧ (∀ d, c ≠ .cmReg d) ∧ (∀ d f, c ≠ .cmSram d f) ∧ c ≠ .cmId) :=
  ⟨.droneTick, Wa.wStop, by decide +kernel, by decide +kernel, by decide +kernel, by simp, by decide +kernel, by simp, and_four (by decide +kernel) ⟨by decide +kernel, by simp, by simp, by simp, by simp, by simp, by decide +kernel⟩⟩

theorem test_PowerGoodFallLosesVolatileState_met :
    (∃ (s : State),
      s.pins.pwrGood = true) :=
  ⟨wUp, by decide +kernel⟩

theorem test_PowerGoodRiseRunsTheRom_met :
    (∃ (env : BootEnv) (s : State),
      env.wellFormed = true ∧ s.pins.pwrGood = false ∧ s.pins.nvmRdy = false ∧ (env.deadDomain.contains 5 || env.deadDomain.contains 6 || env.deadDomain.contains 7) = false ∧ (env.romOk = true ∧ env.fuseOk = true ∧ env.entropyOk = true)) ∧
    (∃ (env : BootEnv) (s : State),
      env.wellFormed = true ∧ s.pins.pwrGood = false ∧ s.pins.nvmRdy = false ∧ (env.deadDomain.contains 5 || env.deadDomain.contains 6 || env.deadDomain.contains 7) = false ∧ (env.romOk = false ∨ env.fuseOk = false ∨ env.entropyOk = false)) ∧
    (∃ (env : BootEnv) (s : State),
      env.wellFormed = true ∧ s.pins.pwrGood = false ∧ s.pins.nvmRdy = false ∧ (env.deadDomain.contains 5 || env.deadDomain.contains 6 || env.deadDomain.contains 7) = true) :=
  ⟨⟨Wa.env0, State.reset, by decide +kernel⟩,
   ⟨{Wa.env0 with romOk := false}, State.reset, by decide +kernel⟩,
   ⟨{Wa.env0 with deadDomain := [6]}, State.reset, by decide +kernel⟩⟩

theorem test_NvmReadyMovesTheDeferredWork_met :
    (∃ (env : BootEnv) (s : State),
      env.wellFormed = true ∧ s.running = true ∧ s.pins.nvmRdy = true ∧ s.trx.keyOps = [] ∧ (∀ j ∈ s.nvm.jobs, j.waits = true ∧ 2 ≤ j.words.length)) ∧
    (∃ (env : BootEnv) (s : State),
      env.wellFormed = true ∧ s.running = true ∧ s.pins.nvmRdy = false ∧ s.boot.waiting = false ∧ s.trx.keyOps = [] ∧ s.regs.posted = [] ∧ s.regs.stalled = []) ∧
    (∃ (env : BootEnv) (s : State),
      env.wellFormed = true ∧ s.running = true ∧ s.pins.nvmRdy = false ∧ s.boot.waiting = true ∧ s.bootCopy = none) ∧
    (∃ (env : BootEnv) (s : State),
      env.wellFormed = true ∧ s.running = true ∧ s.boot.waiting = true ∧ s.boot.stageAt + 2000 ≤ s.now) :=
  ⟨⟨Wa.env0, wUp, by decide +kernel⟩,
   ⟨Wa.env0, Wa.nlow wUp, by decide +kernel⟩,
   ⟨Wa.env0, Wa.wBoot, by decide +kernel⟩,
   ⟨Wa.env0, Wa.wBoot, by decide +kernel⟩⟩

theorem test_NvmWordsLandWhole_met :
    (∃ (s : State) (j : NvmJob) (w : Nat × BitVec 64) (rest : List (Nat × BitVec 64)),
      s.running = true ∧ s.portJob = some j ∧ j.words = w :: rest ∧ rest ≠ []) ∧
    (∃ (s : State) (j : NvmJob) (w : Nat × BitVec 64) (rest : List (Nat × BitVec 64)) (q : Nat),
      s.running = true ∧ s.nvm.jobs = [j] ∧ j.words = w :: rest ∧ j.why = .eventLog q) ∧
    (∃ (s : State) (j : NvmJob) (w : Nat × BitVec 64) (rest : List (Nat × BitVec 64)) (q t0 : Nat),
      s.running = true ∧ s.nvm.jobs = [j] ∧ j.words = w :: rest ∧ j.why = .eventLog q ∧ s.nvm.reqSince = some t0 ∧ t0 + 4 ≤ s.now) ∧
    (∃ (s : State) (w : Nat × BitVec 64) (q : Nat),
      s.running = true ∧ s.nvm.jobs = [⟨.eventLog q, true, [w]⟩]) :=
  ⟨⟨Wa.jb (.eventLog 5) [(5, 7#64), (6, 8#64)] wUp, ⟨.eventLog 5, true, [(5, 7#64), (6, 8#64)]⟩, (5, 7#64), [(6, 8#64)], by decide +kernel⟩,
   ⟨Wa.jb (.eventLog 5) [(5, 7#64), (6, 8#64)] wUp, ⟨.eventLog 5, true, [(5, 7#64), (6, 8#64)]⟩, (5, 7#64), [(6, 8#64)], 5, by decide +kernel⟩,
   ⟨Wa.jb (.eventLog 5) [(5, 7#64), (6, 8#64)] wUp, ⟨.eventLog 5, true, [(5, 7#64), (6, 8#64)]⟩, (5, 7#64), [(6, 8#64)], 5, 99990, by decide +kernel⟩,
   ⟨Wa.jb (.eventLog 5) [(5, 7#64)] wUp, (5, 7#64), 5, by decide +kernel⟩⟩

theorem test_TrainingPassesOrFences_met :
    (∃ (s : State) (ch : Nat) (res : TrainResult) (t0 : Nat),
      s.running = true ∧ ch < 32 ∧ s.boot.stage = .train ∧ (s.calCh ch).trainFrom = some t0 ∧ (s.boot.trainLeft.any (fun n => n != ch)) = true ∧ res.wellFormed = true ∧ dqBad res = [] ∧ cmdBad res = [] ∧ gateOk res = true ∧ res.strobeAll = false ∧ res.strobeSids = [] ∧ res.resetFailed = false ∧ res.verifyPassed = true) ∧
    (∃ (s : State) (ch t0 : Nat),
      s.running = true ∧ ch < 32 ∧ s.boot.stage = .train ∧ (s.calCh ch).trainFrom = some t0 ∧ (s.boot.trainLeft.any (fun n => n != ch)) = true ∧ t0 + 8000 ≤ s.now) :=
  ⟨⟨Wa.wTrain, 5, Wa.res0, 100, by decide +kernel⟩,
   ⟨Wa.wTrain, 5, 100, by decide +kernel⟩⟩

theorem test_LinkWaitEntersSelfRefresh_met :
    (∃ (s : State),
      s.running = true ∧ s.boot.stage = .link ∧ s.refCourses = [] ∧ s.boot.stageAt + 64 ≤ s.now) :=
  ⟨Wa.wLink, by decide +kernel⟩

theorem test_DroneTickCountsTime_met :
    (∃ (s : State),
      s.running = true) :=
  ⟨wUp, by decide +kernel⟩

theorem test_DronesFailOver_met :
    (∃ (s : State),
      s.running = true ∧ s.pwr.onChecker = false) ∧
    (∃ (s : State),
      s.running = true ∧ s.pwr.checkerBad = false) :=
  ⟨⟨wUp, by decide +kernel⟩,
   ⟨wUp, by decide +kernel⟩⟩

theorem test_HoldoverEndsInNoref_met :
    (∃ (s : State),
      s.running = true ∧ s.cal.refState = .holdover ∧ s.cal.holdLeft = 0) :=
  ⟨Wa.wHold, by decide +kernel⟩

namespace Wb
def setLane' (c l : Nat) (x : Lane) (s : State) : State := { s with link := { s.link with lanes := s.link.lanes.set (17*c+l) x } }
def lan : Lane := { Lane.init with rxv := true }
def setC (c : Nat) (f : Course → Course) (s : State) : State := { s with link := { s.link with courses := s.link.courses.upd c f } }
def withChk (x : Nat) : BitVec 64 := let p := BitVec.ofNat 64 (x % 2^56); p ||| ((blockCheck p).setWidth 64 <<< 56)
def wSpare : State := setLane' 3 16 { lan with st := .aligned, logLane := 16 } (setLane' 3 2 { lan with st := .aligned, logLane := 7 } wUp)
def emptyCells : List Cell := List.replicate 30 0
def sf : SentFlit := ⟨4100, 1, [⟨[3#128, 4#128], .tag false 9, none, false⟩], 5, 6, 2, 1⟩
def uq (m : UpMsg) (s : State) : State := { s with link := { s.link with upQ := [m], req := { s.link.req with pending := 300 }, mgt := { s.link.mgt with pending := 3 } } }
end Wb

theorem test_WordValidSendsLanesToHunt_met :
    (∃ (s : State) (c l : Nat),
      s.running = true ∧ c < 12 ∧ l < 17 ∧ (s.lane c l).rxv = false) ∧
    (∃ (s : State) (c l : Nat),
      s.running = true ∧ c < 12 ∧ l < 17 ∧ (s.lane c l).rxv = true ∧ ((s.lane c l).st = .hunt ∨ (s.lane c l).st = .locked)) ∧
    (∃ (s : State) (c l : Nat),
      s.running = true ∧ c < 12 ∧ l < 17 ∧ (s.lane c l).rxv = true ∧ (s.lane c l).st = .aligned ∧ (s.course c).tx = .down ∧ (s.course c).up = false ∧ (∀ p, p < 17 → p ≠ l → (s.lane c p).st ≠ .aligned) ∧ s.leftLately c l = false ∧ (s.course c).unfenceAt = none) ∧
    (∃ (s : State) (c l : Nat),
      s.running = true ∧ c < 12 ∧ l < 17) :=
  ⟨⟨Wb.setLane' 3 16 { Wb.lan with rxv := false } wUp, 3, 16, by decide +kernel⟩,
   ⟨Wb.setLane' 11 0 { Wb.lan with st := .locked } wUp, 11, 0, by decide +kernel⟩,
   ⟨Wb.setLane' 4 2 { Wb.lan with st := .aligned } wUp, 4, 2, by decide +kernel⟩,
   ⟨Wb.setLane' 3 16 { Wb.lan with rxv := false } wUp, 3, 16, by decide +kernel⟩⟩

theorem test_HuntLocksAfter64Headers_met :
    (∃ (s : State) (c l : Nat) (hdr : BitVec 2) (p : BitVec 64),
      s.running = true ∧ c < 12 ∧ l < 17 ∧ s.rpr.loop = none ∧ s.hears c l = true ∧ (s.lane c l).st = .hunt ∧ (blockAt (s.lane c l).prev (blockBits hdr p) (s.lane c l).cand).1 = 0b01#2 ∧ (s.lane c l).count + 1 < 64) ∧
    (∃ (s : State) (c l : Nat) (hdr : BitVec 2) (p : BitVec 64),
      s.running = true ∧ c < 12 ∧ l < 17 ∧ s.rpr.loop = none ∧ s.hears c l = true ∧ (s.lane c l).st = .hunt ∧ (blockAt (s.lane c l).prev (blockBits hdr p) (s.lane c l).cand).1 = 0b01#2 ∧ (s.lane c l).count + 1 = 64) ∧
    (∃ (s : State) (c l : Nat) (hdr : BitVec 2) (p : BitVec 64),
      s.running = true ∧ c < 12 ∧ l < 17 ∧ s.rpr.loop = none ∧ s.hears c l = true ∧ (s.lane c l).st = .hunt ∧ ((blockAt (s.lane c l).prev (blockBits hdr p) (s.lane c l).cand).1 = 0b00#2 ∨ (blockAt (s.lane c l).prev (blockBits hdr p) (s.lane c l).cand).1 = 0b11#2)) :=
  ⟨⟨Wb.setLane' 3 16 { Wb.lan with count := 62 } wUp, 3, 16, 1, 55, by decide +kernel⟩,
   ⟨Wb.setLane' 3 16 { Wb.lan with count := 63, eqReq := true } wUp, 3, 16, 1, 55, by decide +kernel⟩,
   ⟨Wb.setLane' 3 16 { Wb.lan with count := 63, cand := 65 } wUp, 3, 16, 3, 55, by decide +kernel⟩⟩

theorem test_MarkersAlignOrFailLanes_met :
    (∃ (s : State) (c l : Nat) (p : BitVec 64),
      s.running = true ∧ c < 12 ∧ l < 17 ∧ s.hears c l = true ∧ (s.lane c l).st = .locked ∧ fieldNat p 7 0 = 0x1e ∧ p.extractLsb' 56 8 = blockCheck p ∧ fieldNat p 11 8 = c ∧ (s.course c).up = false ∧ (∀ q, q < 17 → q ≠ l → (s.lane c q).st ≠ .aligned)) ∧
    (∃ (s : State) (c l : Nat) (p : BitVec 64),
      s.running = true ∧ c < 12 ∧ l < 17 ∧ s.hears c l = true ∧ (s.lane c l).st = .locked ∧ fieldNat p 7 0 = 0x1e ∧ p.extractLsb' 56 8 = blockCheck p ∧ fieldNat p 11 8 ≠ c) :=
  ⟨⟨Wb.setLane' 5 7 { Wb.lan with st := .locked } wUp, 5, 7, (Wb.withChk (0x1e + 5 * 2^8 + 9 * 2^17)), by decide +kernel⟩,
   ⟨Wb.setLane' 5 7 { Wb.lan with st := .locked } wUp, 5, 7, (Wb.withChk (0x1e + 6 * 2^8 + 9 * 2^17)), by decide +kernel⟩⟩

theorem test_SpareLanesTakeOver_met :
    (∃ (s : State) (c l k : Nat) (p : BitVec 64),
      s.running = true ∧ c < 12 ∧ l < 17 ∧ k < 16 ∧ fieldNat p 7 0 = 0x33 ∧ p.extractLsb' 56 8 = blockCheck p ∧ fieldNat p 15 8 = c ∧ fieldNat p 23 16 = k ∧ s.hears c l = true ∧ s.laneOf c 16 = some l ∧ ((s.lane c l).header true false).2 = false ∧ (s.lane c l).block % 4 ≠ 3 ∧ (s.course c).spareTx = 16) ∧
    (∃ (s : State) (c l k : Nat) (p : BitVec 64),
      s.running = true ∧ c < 12 ∧ l < 17 ∧ k < 16 ∧ fieldNat p 7 0 = 0x4b ∧ p.extractLsb' 56 8 = blockCheck p ∧ fieldNat p 23 16 = k ∧ (s.course c).mapReq = some k ∧ s.hears c l = true ∧ s.laneOf c 16 = some l ∧ ((s.lane c l).header true false).2 = false ∧ (s.lane c l).block % 4 ≠ 3) ∧
    (∃ (s : State) (c l k : Nat),
      s.running = true ∧ c < 12 ∧ l < 17 ∧ k < 16 ∧ (s.lane c l).rxv = true ∧ (s.lane c l).st = .aligned ∧ (s.lane c l).logLane = k ∧ (s.course c).tx = .run ∧ (s.course c).up = true ∧ (s.course c).unfenceAt = none ∧ (s.course c).mapReq = none ∧ (s.course c).spareRx = 16 ∧ s.leftLately c l = false ∧ (∀ q, q < 17 → q ≠ l → (s.lane c q).logLane ≠ k) ∧ (s.laneOf c 16).isSome = true ∧ s.rfb RF.LNK_AUTO_SPARE = true) :=
  ⟨⟨Wb.wSpare, 3, 16, 9, (Wb.withChk (0x33 + 3 * 2^8 + 9 * 2^16)), by decide +kernel⟩,
   ⟨Wb.setC 3 (fun c => { c with mapReq := some 7 }) Wb.wSpare, 3, 16, 7, (Wb.withChk (0x4b + 3 * 2^8 + 7 * 2^16)), by decide +kernel⟩,
   ⟨Wb.wSpare, 3, 2, 7, by decide +kernel⟩⟩

theorem test_SequencedFlitsMoveE_met :
    (∃ (s : State) (c : Nat) (hdr : BitVec 64) (cells : List Cell),
      s.running = true ∧ c < 12 ∧ s.delivers c = true ∧ s.regs.snapBusy = false ∧ (s.course c).encrypted = false ∧ fEpoch hdr = 0 ∧ fKind hdr = 0 ∧ cells.length = 30 ∧ fType hdr = 1 ∧ cells.head?.map hOp = some 0 ∧ seqPast (s.course c).expect (fSeq hdr) = 0) ∧
    (∃ (s : State) (c : Nat) (hdr : BitVec 64) (cells : List Cell),
      s.running = true ∧ c < 12 ∧ s.delivers c = true ∧ s.regs.snapBusy = false ∧ (s.course c).encrypted = false ∧ fEpoch hdr = 0 ∧ fKind hdr = 0 ∧ cells.length = 30 ∧ fType hdr = 1 ∧ 0 < seqPast (s.course c).expect (fSeq hdr) ∧ seqPast (s.course c).expect (fSeq hdr) < 2048) ∧
    (∃ (s : State) (c : Nat) (hdr : BitVec 64) (cells : List Cell),
      s.running = true ∧ c < 12 ∧ s.delivers c = true ∧ s.regs.snapBusy = false ∧ (s.course c).encrypted = false ∧ fEpoch hdr = 0 ∧ fKind hdr = 0 ∧ cells.length = 30 ∧ fType hdr = 1 ∧ 2048 ≤ seqPast (s.course c).expect (fSeq hdr)) :=
  ⟨⟨Wb.setC 3 (fun c => { c with expect := 4099 }) wUp, 3, (flitHdr 1 3 0 0 0 0 0 0), Wb.emptyCells, by decide +kernel⟩,
   ⟨Wb.setC 3 (fun c => { c with expect := 4099 }) wUp, 3, (flitHdr 1 5 0 0 0 0 0 0), Wb.emptyCells, by decide +kernel⟩,
   ⟨Wb.setC 3 (fun c => { c with expect := 4099 }) wUp, 3, (flitHdr 1 2051 0 0 0 0 0 0), Wb.emptyCells, by decide +kernel⟩⟩

theorem test_IdleFlitsOnlyAcknowledge_met :
    (∃ (s : State) (c : Nat) (hdr : BitVec 64),
      s.running = true ∧ c < 12 ∧ s.delivers c = true ∧ s.regs.snapBusy = false ∧ (s.course c).encrypted = false ∧ fEpoch hdr = 0 ∧ fType hdr = 0 ∧ fKind hdr = 0) ∧
    (∃ (s : State) (c : Nat) (hdr : BitVec 64) (f : SentFlit),
      s.running = true ∧ c < 12 ∧ s.delivers c = true ∧ s.regs.snapBusy = false ∧ (s.course c).encrypted = false ∧ fEpoch hdr = 0 ∧ fType hdr = 0 ∧ fKind hdr = 1 ∧ (s.course c).buffer = [f] ∧ covers (fAck hdr) f.seq = true ∧ (s.course c).tx = .run) :=
  ⟨⟨wUp, 3, (flitHdr 0 99 0 0 0 0 0 0), by decide +kernel⟩,
   ⟨Wb.setC 3 (fun c => { c with buffer := [Wb.sf], next := 4101 }) wUp, 3, (flitHdr 0 99 4 1 0 0 0 0), Wb.sf, by decide +kernel⟩⟩

theorem test_CourseDownReturnsTheUnaccepted_met :
    (∃ (s : State) (c e : Nat) (hdr : BitVec 64) (cell : Cell) (f : SentFlit),
      s.running = true ∧ c < 12 ∧ e < 12 ∧ e ≠ c ∧ s.delivers c = true ∧ (s.course c).encrypted = false ∧ fEpoch hdr = 0 ∧ fKind hdr = 0 ∧ fType hdr = 2 ∧ seqPast (s.course c).expect (fSeq hdr) = 0 ∧ (∀ r ∈ s.trx.reqs, r.stage ≠ .held) ∧ fieldNat cell 7 0 = e ∧ (s.course e).waitPeer = true ∧ (s.course e).held = [f] ∧ fieldNat cell 63 16 < f.seq) :=
  ⟨Wb.setC 4 (fun c => { c with waitPeer := true, held := [Wb.sf], tx := .fenced }) wUp, 3, 4, (flitHdr 2 0 0 0 0 0 0 0), (courseDownCell 4 1 4099), Wb.sf, by decide +kernel⟩

theorem test_TransmitterSendsIdleOrMessages_met :
    (∃ (s : State) (c : Nat),
      s.running = true ∧ c < 12 ∧ s.delivers c = true ∧ (s.course c).tx = .run ∧ (s.course c).buffer.length < 256 ∧ (s.course c).downs = [] ∧ (s.course c).switchTx = none ∧ (s.course c).encrypted = false ∧ s.regs.snapBusy = false ∧ s.rpr.loop = none ∧ s.link.upQ = [] ∧ s.creditsDue = false) ∧
    (∃ (s : State) (c : Nat) (m : UpMsg),
      s.running = true ∧ c < 12 ∧ s.delivers c = true ∧ (s.course c).tx = .run ∧ (s.course c).buffer.length < 256 ∧ (s.course c).downs = [] ∧ (s.course c).switchTx = none ∧ (s.course c).encrypted = false ∧ s.regs.snapBusy = false ∧ s.rpr.loop = none ∧ s.link.upQ = [m] ∧ m.cells.length ≤ 30 ∧ m.cells.length ≠ 1 ∧ m.done = .nothing ∧ m.fenceOf = none ∧ s.trx.reqs = []) :=
  ⟨⟨wUp, 3, by decide +kernel⟩,
   ⟨Wb.uq ⟨[3#128, 4#128], .nothing, none, false⟩ wUp, 3, ⟨[3#128, 4#128], .nothing, none, false⟩, by decide +kernel⟩⟩

theorem test_LinkTimersAct_met :
    (∃ (s : State) (c d : Nat) (f : SentFlit),
      s.running = true ∧ c < 12 ∧ d < 12 ∧ d ≠ c ∧ s.domOn 1 = true ∧ (s.course c).tx = .run ∧ (s.course c).buffer = [f] ∧ f.replays + 1 ≤ s.rf RF.LNK_REPLAY_LIMIT) ∧
    (∃ (s : State) (c d : Nat),
      s.running = true ∧ c < 12 ∧ d < 12 ∧ d ≠ c ∧ s.receives c = true ∧ (s.course c).nakWait = true) ∧
    (∃ (s : State) (c d : Nat),
      s.running = true ∧ c < 12 ∧ d < 12 ∧ d ≠ c ∧ 0 < s.link.req.pending + s.link.wd.pending + s.link.mgt.pending) ∧
    (∃ (s : State) (c d dl : Nat),
      s.running = true ∧ c < 12 ∧ d < 12 ∧ d ≠ c ∧ (s.course c).tx = .retrain ∧ (s.course c).limitAt = some dl ∧ dl ≤ s.now ∧ (s.course d).up = true ∧ (s.course d).tx ≠ .fenced ∧ s.rpr.loop = none) :=
  ⟨⟨Wb.setC 3 (fun c => { c with buffer := [Wb.sf] }) wUp, 3, 4, Wb.sf, by decide +kernel⟩,
   ⟨Wb.setC 3 (fun c => { c with nakWait := true }) wUp, 3, 4, by decide +kernel⟩,
   ⟨{ wUp with link := { wUp.link with mgt := { wUp.link.mgt with pending := 1 } } }, 3, 4, by decide +kernel⟩,
   ⟨Wb.setC 4 (fun _ => { upCourse with tx := .replay }) (Wb.setC 3 (fun c => { c with tx := .retrain, limitAt := some 100000 }) wUp), 3, 4, 100000, by decide +kernel⟩⟩

theorem test_FailedFlitsAskForReplay_met :
    (∃ (s : State) (c b l : Nat) (k : FlitFail),
      s.running = true ∧ c < 12 ∧ l < 17 ∧ b < 512 ∧ s.receives c = true ∧ (s.course c).failAt = none ∧ s.regs.snapBusy = false ∧ k ≠ .tag) ∧
    (∃ (s : State) (c b l : Nat),
      s.running = true ∧ c < 12 ∧ l < 17 ∧ b < 512 ∧ s.receives c = true ∧ (s.course c).failAt = none ∧ s.regs.snapBusy = false ∧ (s.course c).fails.length < 3) ∧
    (∃ (s : State) (c b l : Nat),
      s.running = true ∧ c < 12 ∧ l < 17 ∧ b < 512 ∧ s.receives c = true ∧ (s.course c).failAt = none ∧ s.regs.snapBusy = false ∧ (s.course c).fails.length = 3 ∧ (∀ k ∈ (s.course c).fails, (s.course c).rxCount + 1 < k + 1024)) ∧
    (∃ (s : State) (c b l : Nat),
      s.running = true ∧ c < 12 ∧ l < 17 ∧ b < 512 ∧ s.receives c = true ∧ (s.course c).failAt = none ∧ s.regs.snapBusy = false ∧ s.laneOf c (b / 8 % 16) = some l ∧ (s.lane c l).corrected < s.rf RF.LNK_FEC_LANE_THRESH) :=
  ⟨⟨Wb.setC 3 (fun c => { c with fails := [1999, 1000, 980], rxCount := 2000 }) wUp, 3, 4, 2, .crc, by decide +kernel⟩,
   ⟨wUp, 3, 511, 2, by decide +kernel⟩,
   ⟨Wb.setC 3 (fun c => { c with fails := [1999, 1000, 980], rxCount := 2000 }) wUp, 3, 4, 2, by decide +kernel⟩,
   ⟨{ Wb.wSpare with link := { Wb.wSpare.link with upQ := [] } }, 3, 56, 2, by decide +kernel⟩⟩

theorem test_CourseCommandsAct_met :
    (∃ (s : State) (a : Access) (c d : Nat),
      a.course < 12 ∧ c < 12 ∧ d < 12 ∧ d ≠ c ∧ s.rpr.loop = none ∧ s.writeOpen a (crsAt c 0x10) 2#32 ∧ (s.course c).tx ≠ .fenced ∧ (s.course d).up = true ∧ (s.course d).tx ≠ .fenced) ∧
    (∃ (s : State) (a : Access) (c d : Nat),
      a.course < 12 ∧ c < 12 ∧ d < 12 ∧ d ≠ c ∧ s.rpr.loop = none ∧ s.writeOpen a (crsAt c 0x10) 4#32 ∧ (s.course c).tx = .fenced) ∧
    (∃ (s : State) (a : Access) (c d : Nat),
      a.course < 12 ∧ c < 12 ∧ d < 12 ∧ d ≠ c ∧ s.rpr.loop = none ∧ s.writeOpen a (crsAt c 0x10) 1#32 ∧ (s.course c).tx = .run ∧ (s.course c).retrains = []) :=
  ⟨⟨Wb.setC 4 (fun _ => upCourse) wUp, aSmp, 3, 4, and_four (by decide +kernel) ⟨by decide +kernel, by unfold State.writeOpen; decide +kernel, by decide +kernel⟩⟩,
   ⟨Wb.setC 3 (fun c => { c with tx := .fenced, held := [Wb.sf], expect := 99 }) (mk .course 3 wUp), aSmp, 3, 4, and_four (by decide +kernel) ⟨by decide +kernel, by unfold State.writeOpen; decide +kernel, by decide +kernel⟩⟩,
   ⟨Wb.setC 4 (fun _ => upCourse) wUp, aSmp, 3, 4, and_four (by decide +kernel) ⟨by decide +kernel, by unfold State.writeOpen; decide +kernel, by decide +kernel⟩⟩⟩

namespace Wc
def setC (c : Nat) (f : Course → Course) (s : State) : State := { s with link := { s.link with courses := s.link.courses.upd c f } }
def ks : KeySlot := { KeySlot.init with st := .active, keys := ⟨5, 6, 7⟩, gen := 7 }
def wReq : State := setC 3 (fun c => { c with encrypted := true, keyRx := some 1, keyTx := some 1 }) { wUp with sec := { wUp.sec with own := ⟨KeySlot.init, [(1, ks)]⟩, link := { Spdm.init with stage := 3, session := some ⟨1, true, true, false, false, 0, 77, [1,2,3], [4,5,6], 9⟩ } } }
def hd (op tag laddr len : Nat) (extra : Nat := 0) : Cell := BitVec.ofNat 128 (op + len * 2^6 + tag * 2^8 + 4 * 2^20 + 1 * 2^32 + 3 * 2^43 + laddr * 2^48 + extra)
def dat : List Cell := [1, 2, 3, 4]
def rq0 (h : Cell) : Req := { uid := 4, hdr := h, data := [], mask := 0, clear := false, pool := false, stage := .queued (wReq.ctxOf 4), left := List.range (linesOf h), slot := none, deadline := none, bornAge := 0, use := false, gen := 0, chs := [], course := 3, cell := 0, down := [], downCh := 0 }
def wq (h : Cell) (s : State) : State := { s with trx := { s.trx with reqs := [rq0 h], nextUid := 9 } }
def fr : Req := { uid := 4, hdr := hd 0xc 9 0 0, data := [], mask := 0, clear := false, pool := false, stage := .waiting, left := [], slot := none, deadline := none, bornAge := 0, use := false, gen := 0, chs := [], course := 3, cell := 0, down := [], downCh := 0 }
def wr1 (r : Req) : State := { wReq with trx := { wReq.trx with reqs := [r], nextUid := 9 } }
def mh (sub tag : Nat) (x : Nat := 0) : Cell := BitVec.ofNat 128 (0x20 + tag * 2^8 + sub * 2^16 + 2^24 + x)
def rs : Resync := ⟨5, true, [], false, 0, 3⟩
end Wc

theorem test_MemoryRequestsJoinTheirQueue_met :
    (∃ (s : State) (c k : Nat) (h : Cell),
      s.reqArrives c k h ∧ s.routerOpen (hRqid h) ∧ hOp h = 0x01) ∧
    (∃ (s : State) (c k : Nat) (h : Cell) (data : List Cell),
      s.reqArrives c k h ∧ s.routerOpen (hRqid h) ∧ hOp h = 0x02 ∧ data.length = 4) ∧
    (∃ (s : State) (c k : Nat) (h : Cell) (data : List Cell),
      s.reqArrives c k h ∧ s.routerOpen (hRqid h) ∧ hOp h = 0x03 ∧ data.length = 4) ∧
    (∃ (s : State) (c k : Nat) (h : Cell),
      s.reqArrives c k h ∧ s.routerOpen (hRqid h) ∧ hOp h = 0x08) ∧
    (∃ (s : State) (c k : Nat) (h : Cell),
      s.reqArrives c k h ∧ s.routerOpen (hRqid h) ∧ hOp h = 0x09) :=
  ⟨⟨Wc.wReq, 3, 28, (Wc.hd 1 4095 77 3), by unfold State.reqArrives; decide +kernel, ⟨by decide +kernel, by decide +kernel, by decide +kernel, by decide +kernel, fun x hx => absurd (show x ∈ ([] : List Req) from hx) List.not_mem_nil⟩, by decide +kernel⟩,
   ⟨Wc.wReq, 3, 25, (Wc.hd 2 2047 77 0), Wc.dat, by unfold State.reqArrives; decide +kernel, ⟨by decide +kernel, by decide +kernel, by decide +kernel, by decide +kernel, fun x hx => absurd (show x ∈ ([] : List Req) from hx) List.not_mem_nil⟩, by decide +kernel⟩,
   ⟨Wc.wReq, 3, 0, (Wc.hd 3 9 77 0), Wc.dat, by unfold State.reqArrives; decide +kernel, ⟨by decide +kernel, by decide +kernel, by decide +kernel, by decide +kernel, fun x hx => absurd (show x ∈ ([] : List Req) from hx) List.not_mem_nil⟩, by decide +kernel⟩,
   ⟨Wc.wReq, 3, 0, (Wc.hd 8 9 77 0), by unfold State.reqArrives; decide +kernel, ⟨by decide +kernel, by decide +kernel, by decide +kernel, by decide +kernel, fun x hx => absurd (show x ∈ ([] : List Req) from hx) List.not_mem_nil⟩, by decide +kernel⟩,
   ⟨Wc.wReq, 3, 0, (Wc.hd 9 9 77 0 (5 * 2^88)), by unfold State.reqArrives; decide +kernel, ⟨by decide +kernel, by decide +kernel, by decide +kernel, by decide +kernel, fun x hx => absurd (show x ∈ ([] : List Req) from hx) List.not_mem_nil⟩, by decide +kernel⟩⟩

theorem test_StoppedReadsAreAnswered_met :
    (∃ (s : State) (r : Req) (k : Nat) (e : ErrCode) (detail : Nat),
      s.running = true ∧ s.domOn 2 = true ∧ s.trx.reqs = [r] ∧ r.stage = .queued k ∧ hOp r.hdr = 0x01 ∧ r.slot = none ∧ r.use = false ∧ s.judge r r.cell = .err e detail) :=
  ⟨Wc.wq (Wc.hd 1 9 (2^31) 0) Wc.wReq, (Wc.rq0 (Wc.hd 1 9 (2^31) 0)), (Wc.wReq.ctxOf 4), .addr, (cellDetail 0 1), by decide +kernel⟩

theorem test_MasksAndMalformedMessages_met :
    (∃ (s : State) (c k : Nat) (h : Cell),
      s.running = true ∧ c < 12 ∧ k < 30 ∧ s.delivers c = true ∧ hOp h = 0x04 ∧ maskOk h = true ∧ 1 ≤ s.link.req.held) ∧
    (∃ (s : State) (c k : Nat) (h : Cell),
      s.running = true ∧ c < 12 ∧ k < 30 ∧ s.delivers c = true ∧ extentBad k h = true ∧ hOp h = 0x20 ∧ 1 ≤ s.link.mgt.held ∧ s.mtagBusy (mTag h) = false) ∧
    (∃ (s : State) (c k : Nat) (h : Cell),
      s.running = true ∧ c < 12 ∧ k < 30 ∧ s.delivers c = true ∧ extentBad k h = true ∧ hOp h ≠ 0x20 ∧ hOp h ≠ 0 ∧ inWriteSpace (hOp h) = false ∧ isMemory (hOp h) = false ∧ 1 ≤ s.link.req.held ∧ s.tagBusy false (hTag h) = false) :=
  ⟨⟨Wc.wReq, 3, 29, (BitVec.ofNat 128 (4 + 5 * 2^64)), by decide +kernel⟩,
   ⟨Wc.wReq, 3, 29, (BitVec.ofNat 128 (0x20 + 5 * 2^8 + 3 * 2^16 + 2 * 2^24)), by decide +kernel⟩,
   ⟨Wc.wReq, 3, 29, (BitVec.ofNat 128 (0x3f + 5 * 2^8)), by decide +kernel⟩⟩

theorem test_FenceHoldsAndCompletes_met :
    (∃ (s : State) (c k : Nat) (h : Cell),
      s.reqArrives c k h ∧ s.routerOpen (hRqid h) ∧ hOp h = 0x0c ∧ s.ready = true) ∧
    (∃ (s : State) (tag : Nat) (r : Req),
      s.running = true ∧ tag < 2048 ∧ s.trx.reqs = [r] ∧ r.names true tag = true ∧ hOp r.hdr = 0x0c ∧ r.stage = .waiting ∧ r.slot = none ∧ r.use = false ∧ r.chs = []) :=
  ⟨⟨Wc.wReq, 3, 0, (Wc.hd 0xc 9 0 0), by unfold State.reqArrives; decide +kernel, ⟨by decide +kernel, by decide +kernel, by decide +kernel, by decide +kernel, fun x hx => absurd (show x ∈ ([] : List Req) from hx) List.not_mem_nil⟩, by decide +kernel⟩,
   ⟨Wc.wr1 Wc.fr, 9, Wc.fr, by decide +kernel⟩⟩

theorem test_LinkRegisterAccesses_met :
    (∃ (s : State) (c k : Nat) (h : Cell),
      s.reqArrives c k h ∧ s.routerOpen (hRqid h) ∧ s.pathWaits 0 = false ∧ hOp h = 0x10 ∧ s.domOn (s.wordDomain 0 (4 * hOffset h)) = true) ∧
    (∃ (s : State) (c k : Nat) (h : Cell) (f : Field) (i n x : Nat) (p : Page),
      s.reqArrives c k h ∧ s.routerOpen (hRqid h) ∧ s.pathWaits 0 = false ∧ hOp h = 0x11 ∧ regKind (4 * hOffset h) = .reg p n x false ∧ fieldsOfWord p x = [(f, i)] ∧ f.acc = .rwb ∧ f.addr n i = 4 * hOffset h ∧ s.writeLevel f ≤ s.accessLevel ⟨.link, c, hPriv h, hSecure h⟩ ∧ s.wordDomain 0 (4 * hOffset h) ≠ 0 ∧ s.domOn (s.wordDomain 0 (4 * hOffset h)) = true ∧ s.busy (busyKey (4 * hOffset h)) = false) :=
  ⟨⟨Wc.wReq, 3, 0, (Wc.hd 0x10 9 (0x88/4) 0), by unfold State.reqArrives; decide +kernel, ⟨by decide +kernel, by decide +kernel, by decide +kernel, by decide +kernel, fun x hx => absurd (show x ∈ ([] : List Req) from hx) List.not_mem_nil⟩, by decide +kernel⟩,
   ⟨Wc.wReq, 3, 0, (Wc.hd 0x11 9 (0x40804/4) 0 (999 * 2^96)), RF.MAP_MASK, 1, 0, 2052, .map, by unfold State.reqArrives; decide +kernel, ⟨by decide +kernel, by decide +kernel, by decide +kernel, by decide +kernel, fun x hx => absurd (show x ∈ ([] : List Req) from hx) List.not_mem_nil⟩, by decide +kernel⟩⟩

theorem test_ResyncShowsTheSummary_met :
    (∃ (s : State) (c k : Nat) (h : Cell),
      s.mgmtArrives c k 1 h ∧ bitAt h 32 = false) ∧
    (∃ (s : State) (c k : Nat) (h : Cell),
      s.mgmtArrives c k 1 h ∧ bitAt h 32 = true) ∧
    (∃ (s : State) (m : Nat) (x : Resync),
      s.running = true ∧ m < 64 ∧ s.trx.resyncs = [x] ∧ x.mtag = m ∧ x.shown = false ∧ x.wait = []) :=
  ⟨⟨Wc.wReq, 3, 0, (Wc.mh 1 63), by unfold State.mgmtArrives; decide +kernel, by decide +kernel⟩,
   ⟨Wc.wReq, 3, 0, (Wc.mh 1 63 (2^32)), by unfold State.mgmtArrives; decide +kernel, by decide +kernel⟩,
   ⟨{ Wc.wReq with trx := { Wc.wReq.trx with resyncs := [Wc.rs] } }, 5, Wc.rs, by decide +kernel⟩⟩

theorem test_TimeSetWaitsForTheTick_met :
    (∃ (s : State) (c k : Nat) (h : Cell),
      s.mgmtArrives c k 2 h) :=
  ⟨Wc.wReq, 3, 29, (Wc.mh 2 63 (99999 * 2^32)), by unfold State.mgmtArrives; decide +kernel⟩

theorem test_KeyMessagesMoveTheirSlot_met :
    (∃ (s : State) (c k : Nat) (h : Cell),
      s.trx.keyOps = [] ∧ s.domOn 7 = true ∧ (s.dom 7).delay = none ∧ s.pair.role ≠ .paired ∧ s.keyBad h (!(s.course c).encrypted) = none ∧ s.mgmtArrives c k 4 h ∧ kId h ≠ 0 ∧ s.sec.drbgOk = true ∧ (s.slot false (kId h)).st = .empty) ∧
    (∃ (s : State) (c k : Nat) (h : Cell),
      s.trx.keyOps = [] ∧ s.domOn 7 = true ∧ (s.dom 7).delay = none ∧ s.pair.role ≠ .paired ∧ s.keyBad h (!(s.course c).encrypted) = none ∧ s.mgmtArrives c k 5 h ∧ (s.slot (kPartner h) (kId h)).st = .active) ∧
    (∃ (s : State) (c k : Nat) (h : Cell),
      s.trx.keyOps = [] ∧ s.domOn 7 = true ∧ (s.dom 7).delay = none ∧ s.pair.role ≠ .paired ∧ s.keyBad h (!(s.course c).encrypted) = none ∧ s.mgmtArrives c k 6 h ∧ kFlag h = true ∧ (s.slot false (kId h)).st = .active ∧ s.pins.nvmRdy = true ∧ s.pageWriting = false ∧ (entriesBut (kId h) (s.heldEntries s.boot.running)).length < 127) ∧
    (∃ (s : State) (c k : Nat) (h : Cell),
      s.trx.keyOps = [] ∧ s.domOn 7 = true ∧ (s.dom 7).delay = none ∧ s.pair.role ≠ .paired ∧ s.keyBad h (!(s.course c).encrypted) = none ∧ s.mgmtArrives c k 6 h ∧ kFlag h = false ∧ (s.slot false (kId h)).st = .active ∧ s.pins.nvmRdy = true ∧ s.pageWriting = false ∧ entriesBut (kId h) (s.heldEntries s.boot.running) = s.heldEntries s.boot.running) :=
  ⟨⟨Wc.wReq, 3, 0, (Wc.mh 4 7 (2047*2^32 + 2^47)), and_four (by decide +kernel) ⟨by decide +kernel, by unfold State.mgmtArrives; decide +kernel, by decide +kernel⟩⟩,
   ⟨Wc.wReq, 3, 0, (Wc.mh 5 7 (1*2^32 + 2^47)), and_four (by decide +kernel) ⟨by decide +kernel, by unfold State.mgmtArrives; decide +kernel, by decide +kernel⟩⟩,
   ⟨Wc.wReq.putForce RF.SEC_PERSIST_EN 0 0 1, 3, 0, (Wc.mh 6 7 (1*2^32 + 2^45 + 2^47)), and_four (by decide +kernel) ⟨by decide +kernel, by unfold State.mgmtArrives; decide +kernel, by decide +kernel⟩⟩,
   ⟨Wc.wReq.putForce RF.SEC_PERSIST_EN 0 0 1, 3, 0, (Wc.mh 6 7 (1*2^32 + 2^47)), and_four (by decide +kernel) ⟨by decide +kernel, by unfold State.mgmtArrives; decide +kernel, by decide +kernel⟩⟩⟩

theorem test_EraseCompletesAtTheLastUse_met :
    (∃ (s : State) (m key : Nat) (h : Cell) (p : Bool),
      s.running = true ∧ key < 2048 ∧ s.trx.keyOps = [⟨m, h, 1, false⟩] ∧ mSub h = 5 ∧ kId h = key ∧ kPartner h = p ∧ s.domOn 7 = true ∧ (s.slot p key).uses = 0 ∧ (s.slot p key).st = .erasing ∧ (s.slot p key).persisted = false ∧ (key = 0 → p = true) ∧ s.pair.role ≠ .paired) :=
  ⟨{ Wc.wReq with trx := { Wc.wReq.trx with keyOps := [⟨7, Wc.mh 5 7 (1*2^32 + 2^47), 1, false⟩] }, sec := { Wc.wReq.sec with own := ⟨KeySlot.init, [(1, { Wc.ks with st := .erasing })]⟩ } }, 7, 1, (Wc.mh 5 7 (1*2^32 + 2^47)), false, by decide +kernel⟩

namespace Wd
def setC (c : Nat) (f : Course → Course) (s : State) : State := { s with link := { s.link with courses := s.link.courses.upd c f } }
def ks : KeySlot := { KeySlot.init with st := .active, keys := ⟨5, 6, 7⟩, gen := 7 }
def wReq : State := setC 3 (fun c => { c with encrypted := true, keyRx := some 1, keyTx := some 1 }) { wUp with sec := { wUp.sec with own := ⟨KeySlot.init, [(1, ks)]⟩, link := { Spdm.init with stage := 3, session := some ⟨1, true, true, false, false, 0, 77, [1,2,3], [4,5,6], 9⟩ } } }
def hd (op tag laddr len : Nat) (extra : Nat := 0) : Cell := BitVec.ofNat 128 (op + len * 2^6 + tag * 2^8 + 4 * 2^20 + 1 * 2^32 + 3 * 2^43 + laddr * 2^48 + extra)
def setSp (tr : Transport) (y : Spdm) (s : State) : State := match tr with | .link => { s with sec := { s.sec with link := y } } | .smp => { s with sec := { s.sec with smp := y } }
def ss : Session := ⟨1, true, true, false, false, 0, 77, [1,2,3], [4,5,6], 9⟩
def shr : Nat := beNat (pointBytes g384)
def gg (s : State) : List Byte := (s.reseed.random 90).1
def dd (s : State) : Nat := privateKey ((gg s).take 56)
def rr (s : State) : List Byte := ((gg s).drop 56).take 32
def hh (s : State) : List Byte := handshakeSecret (ecdh (dd s) (pointOf (beBytes 96 shr)))
def oo (s : State) : List Byte := spdmExpand (hh s) 48 "rsp hs data" (spdmHash s.free (rr s))
def sm : Session := { ss with live := false, mauth := true }
def rq (op : Nat) (st : Stage) (data : List Cell := []) : Req := { uid := 4, hdr := hd op 9 77 0, data := data, mask := 0, clear := false, pool := false, stage := st, left := [0], slot := none, deadline := none, bornAge := 0, use := false, gen := 7, chs := [], course := 3, cell := 2, down := [], downCh := 0 }
def wr1 (r : Req) : State := { wReq with trx := { wReq.trx with reqs := [r], nextUid := 9 } }
def k0 := wReq.ctxOf 4
def l0 : Loc := (wReq.loc 77).getD ⟨0,0,0,0,0⟩
def we : WrEnt := ⟨4, 77, 1, 2, 3, 0x1234#512, 1, 7, [], false, false, false, true, false, true, 4⟩
def rm : Req := { rq 8 (.sent 5) [0xffffffffffffffff#128] with slot := some 3, chs := [5], use := true }
def wMerge : State := { wr1 rm with chans := ⟨Chan.init, [(5, { Chan.init with writes := [we], hazard := [(77, 4)], wseqNext := 65535 })]⟩ }
def rto : Req := { rq 1 (.sent 5) with slot := some 3, chs := [5], use := true, deadline := some 100000 }
def qq : Quar := ⟨true, 2047, [], some 100000, 3⟩
def wWin : State := { wUp with time := { wUp.time with elapsed := 2048 * 500 }, regul := { wUp.regul with ctx := ⟨Ctx.init, [(3, { Ctx.init with out := 3, committed := 50, minEff := 70, winLines := 9, deficit := 4 })]⟩ } }
end Wd

theorem test_SpdmNegotiates_met :
    (∃ (s : State) (tr : Transport) (m : Nat),
      s.spdmOpen tr m) ∧
    (∃ (s : State) (tr : Transport) (m : Nat),
      s.spdmOpen tr m ∧ 1 ≤ (s.spdm tr).stage) ∧
    (∃ (s : State) (tr : Transport) (m : Nat),
      s.spdmOpen tr m ∧ 2 ≤ (s.spdm tr).stage) :=
  ⟨⟨Wd.setSp .link ⟨2, none, 0, none, none, []⟩ Wd.wReq, .link, 63, by unfold State.spdmOpen; decide +kernel⟩,
   ⟨Wd.setSp .link ⟨2, none, 0, none, none, []⟩ Wd.wReq, .link, 63, by unfold State.spdmOpen; decide +kernel, by decide +kernel⟩,
   ⟨Wd.setSp .link ⟨2, none, 0, none, none, []⟩ Wd.wReq, .link, 63, by unfold State.spdmOpen; decide +kernel, by decide +kernel⟩⟩

theorem test_SpdmAnswersForTheDevice_met :
    (∃ (s : State) (tr : Transport) (m off len i : Nat),
      s.spdmOpen tr m ∧ off < 65536 ∧ len < 65536 ∧ i < 65536 ∧ (s.spdm tr).stage = 3) ∧
    (∃ (s : State) (tr : Transport) (m off len i : Nat),
      s.spdmOpen tr m ∧ off < 65536 ∧ len < 65536 ∧ i < 65536 ∧ (s.spdm tr).stage = 3) ∧
    (∃ (s : State) (tr : Transport) (m off len i : Nat),
      s.spdmOpen tr m ∧ off < 65536 ∧ len < 65536 ∧ i < 65536 ∧ (s.spdm tr).stage = 3) ∧
    (∃ (s : State) (tr : Transport) (m off len i : Nat),
      s.spdmOpen tr m ∧ off < 65536 ∧ len < 65536 ∧ i < 65536 ∧ (s.spdm tr).stage = 3 ∧ 1 ≤ i ∧ i ≤ 5) ∧
    (∃ (s : State) (tr : Transport) (m off len i : Nat) (r : Nat × List Byte),
      s.spdmOpen tr m ∧ off < 65536 ∧ len < 65536 ∧ i < 65536 ∧ (s.spdm tr).held = some r) :=
  ⟨⟨Wd.setSp .link ⟨3, none, 0, some (9, [1]), none, []⟩ Wd.wReq, .link, 63, 0, 65535, 5, by unfold State.spdmOpen; decide +kernel, by decide +kernel⟩,
   ⟨Wd.setSp .link ⟨3, none, 0, some (9, [1]), none, []⟩ Wd.wReq, .link, 63, 0, 65535, 5, by unfold State.spdmOpen; decide +kernel, by decide +kernel⟩,
   ⟨Wd.setSp .link ⟨3, none, 0, some (9, [1]), none, []⟩ Wd.wReq, .link, 63, 0, 65535, 5, by unfold State.spdmOpen; decide +kernel, by decide +kernel⟩,
   ⟨Wd.setSp .link ⟨3, none, 0, some (9, [1]), none, []⟩ Wd.wReq, .link, 63, 0, 65535, 5, by unfold State.spdmOpen; decide +kernel, by decide +kernel⟩,
   ⟨Wd.setSp .link ⟨3, none, 0, some (9, [1]), none, []⟩ Wd.wReq, .link, 63, 0, 65535, 5, (9, [1]), by unfold State.spdmOpen; decide +kernel, by decide +kernel⟩⟩

theorem test_SpdmSessionsLive_met :
    (∃ (s : State) (tr : Transport) (m share d : Nat) (g hs random out : List Byte),
      s.spdmOpen tr m ∧ (s.spdm tr).stage = 3 ∧ (s.spdm tr).session = none ∧ s.sec.drbgOk = true ∧ onCurve (pointOf (beBytes 96 share)) = true ∧ g = (s.reseed.random 90).1 ∧ d = privateKey (g.take 56) ∧ random = (g.drop 56).take 32 ∧ hs = handshakeSecret (ecdh d (pointOf (beBytes 96 share))) ∧ out = spdmExpand hs 48 "rsp hs data" (spdmHash s.free random)) ∧
    (∃ (s : State) (tr : Transport) (m : Nat) (y : Session),
      s.spdmOpen tr m ∧ (s.spdm tr).session = some y ∧ y.live = false ∧ y.mauth = false) ∧
    (∃ (s : State) (tr : Transport) (m : Nat) (y : Session),
      s.spdmOpen tr m ∧ (s.spdm tr).session = some y ∧ y.live = true) ∧
    (∃ (s : State) (tr : Transport) (m : Nat) (y : Session),
      s.spdmOpen tr m ∧ (s.spdm tr).session = some y ∧ y.live = true) :=
  ⟨⟨Wd.setSp .link ⟨3, none, 0, none, none, []⟩ Wd.wReq, .link, 63, Wd.shr, (Wd.dd (Wd.setSp .link ⟨3, none, 0, none, none, []⟩ Wd.wReq)), (Wd.gg (Wd.setSp .link ⟨3, none, 0, none, none, []⟩ Wd.wReq)), (Wd.hh (Wd.setSp .link ⟨3, none, 0, none, none, []⟩ Wd.wReq)), (Wd.rr (Wd.setSp .link ⟨3, none, 0, none, none, []⟩ Wd.wReq)), (Wd.oo (Wd.setSp .link ⟨3, none, 0, none, none, []⟩ Wd.wReq)), by unfold State.spdmOpen; decide +kernel, and_four (by decide +kernel) ⟨rfl, rfl, rfl, rfl, rfl⟩⟩,
   ⟨Wd.setSp .link ⟨3, some { Wd.ss with live := false }, 0, none, none, []⟩ Wd.wReq, .link, 63, { Wd.ss with live := false }, by unfold State.spdmOpen; decide +kernel, by decide +kernel⟩,
   ⟨Wd.setSp .link ⟨3, some Wd.ss, 0, none, none, []⟩ Wd.wReq, .link, 63, Wd.ss, by unfold State.spdmOpen; decide +kernel, by decide +kernel⟩,
   ⟨Wd.setSp .link ⟨3, some Wd.ss, 0, none, none, []⟩ Wd.wReq, .link, 63, Wd.ss, by unfold State.spdmOpen; decide +kernel, by decide +kernel⟩⟩

theorem test_SpdmMutualAuthentication_met :
    (∃ (s : State) (tr : Transport) (m : Nat) (root : List Byte),
      s.spdmOpen tr m ∧ root.length = 48 ∧ (s.spdm tr).encap = 1) ∧
    (∃ (s : State) (tr : Transport) (m : Nat) (root : List Byte),
      s.spdmOpen tr m ∧ root.length = 48 ∧ (s.spdm tr).encap = 1) ∧
    (∃ (s : State) (tr : Transport) (m : Nat) (root : List Byte) (y : Session),
      s.spdmOpen tr m ∧ root.length = 48 ∧ (s.spdm tr).encap = 2 ∧ (s.spdm tr).session = some y) :=
  ⟨⟨Wd.setSp .link ⟨3, some Wd.sm, 1, none, none, []⟩ Wd.wReq, .link, 63, (List.replicate 48 3), by unfold State.spdmOpen; decide +kernel, by decide +kernel⟩,
   ⟨Wd.setSp .link ⟨3, some Wd.sm, 1, none, none, []⟩ Wd.wReq, .link, 63, (List.replicate 48 3), by unfold State.spdmOpen; decide +kernel, by decide +kernel⟩,
   ⟨Wd.setSp .smp ⟨3, some Wd.sm, 2, none, none, []⟩ Wd.wReq, .smp, 63, (List.replicate 48 3), Wd.sm, by unfold State.spdmOpen; decide +kernel, by decide +kernel⟩⟩

theorem test_AdmissionDispatchesToTheChannel_met :
    (∃ (s : State) (r : Req) (k : Nat) (l : Loc),
      s.running = true ∧ s.domOn 2 = true ∧ s.trx.reqs = [r] ∧ r.stage = .queued k ∧ hOp r.hdr = 0x01 ∧ hLen r.hdr = 0 ∧ r.left = [0] ∧ s.candidate k = true ∧ s.judge r r.cell = .serve ∧ s.loc (hLaddr r.hdr) = some l ∧ (s.chan l.ch).lineHeld (hLaddr r.hdr) = false ∧ (s.chan l.ch).newestWrite (hLaddr r.hdr) = none) :=
  ⟨Wd.wr1 (Wd.rq 1 (.queued Wd.k0)), (Wd.rq 1 (.queued Wd.k0)), Wd.k0, Wd.l0, by decide +kernel⟩

theorem test_MergeWritesAndAnswers_met :
    (∃ (s : State) (r : Req) (ch k : Nat) (w : WrEnt),
      s.running = true ∧ ch < 64 ∧ s.trx.reqs = [r] ∧ hOp r.hdr = 0x08 ∧ r.stage = .sent ch ∧ r.slot = some k ∧ r.left = [0] ∧ r.down = [] ∧ r.chs = [ch] ∧ (s.chan ch).writes = [w] ∧ w.uid = r.uid ∧ w.ready = false ∧ w.back = true ∧ w.bad = false ∧ (s.chan ch).hazard = [(hLaddr r.hdr, r.uid)]) :=
  ⟨Wd.wMerge, Wd.rm, 5, 3, Wd.we, by decide +kernel⟩

theorem test_TimedOutTagsAreQuarantined_met :
    (∃ (s : State) (tag : Nat) (ws : Bool) (r : Req) (d : Nat),
      s.running = true ∧ tag < 2048 ∧ s.trx.reqs = [r] ∧ r.names ws tag = true ∧ r.deadline = some d ∧ d ≤ s.now ∧ (∀ ch ∈ r.chs, (∀ e ∈ (s.chan ch).reads, e.uid ≠ r.uid) ∧ (∀ e ∈ (s.chan ch).captured, e.uid ≠ r.uid) ∧ (∀ w ∈ (s.chan ch).writes, w.uid = r.uid → w.ready = true) ∧ ∀ h ∈ (s.chan ch).hazard, h.2 ≠ r.uid)) ∧
    (∃ (s : State) (tag : Nat) (ws : Bool) (d : Nat) (q : Quar),
      s.running = true ∧ tag < 2048 ∧ s.trx.quar.find? (fun x => x.write == ws && x.tag == tag) = some q ∧ q.ready = some d ∧ d ≤ s.now) :=
  ⟨⟨Wd.wr1 Wd.rto, 9, false, Wd.rto, 100000, by decide +kernel⟩,
   ⟨{ Wd.wReq with trx := { Wd.wReq.trx with quar := [Wd.qq] } }, 2047, true, 100000, Wd.qq, by decide +kernel⟩⟩

theorem test_WindowsAndAges_met :
    (∃ (s : State),
      s.running = true ∧ s.domOn 2 = true ∧ s.now % s.rf RF.REG_WINDOW = 0 ∧ s.regul.lastRoll < s.now) ∧
    (∃ (s : State),
      s.running = true ∧ s.domOn 2 = true) :=
  ⟨⟨Wd.wWin, by decide +kernel⟩,
   ⟨Wd.wWin, by decide +kernel⟩⟩

namespace We
def cm (mask : Nat) (w : List Nat) : Commit := { aCommit with mask := mask, checked := true, waiting := w }
def wc (c : Commit) : State := { wUp with regs := { wUp.regs with commits := [c], epoch := 7 } }
def sh : Tbl Word := ⟨0, [(0x1c804, 0x55), (0x7804, 77), (0x1800, 3), (0x30000, 9), (0x40000, 0x100), (0x40800, 0x1234)]⟩
def ca : ArrayLine := ⟨5#576, 6, ⟨5, 6, 7⟩, 7, false, false⟩
def wMap : State := { wc { cm 8 [3] with shadow := sh, deadline := some 100001 } with array := ⟨none, [(5, some ca), (2^30 + 5, some ca)]⟩ }
end We

theorem test_CommitsAreCapturedAndChecked_met :
    (∃ (s : State) (a : Access) (groups : BitVec 16),
      a.course < 12 ∧ s.writeOpen a 0x10 (groups.setWidth 32) ∧ groups ≠ 0#16) ∧
    (∃ (s : State) (c : Commit) (rest : List Commit),
      s.running = true ∧ s.regs.commits = c :: rest ∧ c.checked = false ∧ c.full = true) ∧
    (∃ (s : State) (c : Commit) (rest : List Commit),
      s.running = true ∧ s.regs.commits = c :: rest ∧ c.checked = false ∧ c.full = false ∧ (s.checkCommit c).1 ≠ 0) ∧
    (∃ (s : State) (c : Commit) (rest : List Commit),
      s.running = true ∧ s.regs.commits = c :: rest ∧ c.checked = false ∧ c.full = false ∧ (s.checkCommit c).1 = 0 ∧ c.mask.testBit 3 = false) :=
  ⟨⟨wUp, aSmp, 0x502, by decide +kernel, by unfold State.writeOpen; decide +kernel, by decide +kernel⟩,
   ⟨We.wc { aCommit with full := true }, { aCommit with full := true }, [], by decide +kernel⟩,
   ⟨We.wc { aCommit with mask := 0x8002 }, { aCommit with mask := 0x8002 }, [], by decide +kernel⟩,
   ⟨{ wUp with regs := { wUp.regs with commits := List.replicate 4 aCommit, epoch := 2^32-1 } }, aCommit, [aCommit, aCommit, aCommit], by decide +kernel⟩⟩

theorem test_GroupsComeIntoForceWhole_met :
    (∃ (s : State) (c : Commit) (g ch : Nat),
      s.running = true ∧ s.boot.stage = .ready ∧ s.pair.role ≠ .fenced ∧ ch < 32 ∧ s.regs.commits = [c] ∧ c.checked = true ∧ c.deadline = none ∧ c.waiting = [g] ∧ c.shadow.dflt = 0#32 ∧ s.regs.force.dflt = 0#32 ∧ s.safePoint c g ch = true ∧ (∀ r ∈ s.trx.reqs, r.stage ≠ .held) ∧ (g = 1 ∨ g = 7 ∨ g = 8 ∨ g = 10)) ∧
    (∃ (s : State) (c : Commit) (g ch : Nat),
      s.running = true ∧ s.boot.stage = .ready ∧ s.pair.role ≠ .fenced ∧ ch < 32 ∧ s.regs.commits = [c] ∧ c.checked = true ∧ c.deadline = none ∧ c.waiting = [g] ∧ c.shadow.dflt = 0#32 ∧ s.regs.force.dflt = 0#32 ∧ s.safePoint c g ch = true ∧ (∀ r ∈ s.trx.reqs, r.stage ≠ .held) ∧ g = 0) :=
  ⟨⟨We.wc { We.cm 2 [1] with shadow := We.sh }, { We.cm 2 [1] with shadow := We.sh }, 1, 0, by decide +kernel⟩,
   ⟨{ We.wc { We.cm 1 [0] with shadow := We.sh } with regul := { wUp.regul with lastRoll := 100000 } }, { We.cm 1 [0] with shadow := We.sh }, 0, 31, and_four (by decide +kernel) (and_four (by decide +kernel) (and_four (by decide +kernel) (rfl)))⟩⟩

theorem test_MapSwitchesAtQuiesce_met :
    (∃ (s : State) (c : Commit) (d : Nat),
      s.running = true ∧ s.regs.commits = [c] ∧ c.checked = true ∧ c.deadline = some d ∧ s.trx.reqs = [] ∧ s.quiesced c = true ∧ s.now < d ∧ c.waiting = [3] ∧ c.shadow.dflt = 0#32 ∧ s.regs.force.dflt = 0#32) ∧
    (∃ (s : State) (c : Commit) (d : Nat),
      s.running = true ∧ s.regs.commits = [c] ∧ c.checked = true ∧ c.deadline = some d ∧ s.trx.reqs = [] ∧ d ≤ s.now) :=
  ⟨⟨We.wMap, { We.cm 8 [3] with shadow := We.sh, deadline := some 100001 }, 100001, by decide +kernel⟩,
   ⟨We.wc { We.cm 0x1b [0, 1] with deadline := some 5 }, { We.cm 0x1b [0, 1] with deadline := some 5 }, 5, by decide +kernel⟩⟩

namespace Wm
def ks : KeySlot := { KeySlot.init with st := .active, keys := ⟨5, 6, 7⟩, gen := 7 }
def hd (op tag laddr len : Nat) (extra : Nat := 0) : Cell := BitVec.ofNat 128 (op + len * 2^6 + tag * 2^8 + 4 * 2^20 + 1 * 2^32 + laddr * 2^48 + extra)
def ep (off : Nat) (v : Word) : Posted := ⟨aSmp, 2, off, v, none, false, none, 0⟩
def wDel : State := wUp.setDom 7 (fun x => { x with delay := some (.off, 100002) })
def stk (s : State) : State := { s with regs := { s.regs with sticky := .const 0xffffffff } }
def wCh : State := { wUp with sec := { wUp.sec with own := ⟨KeySlot.init, [(1, ks)]⟩ }, cal := { wUp.cal with ageSt := .fresh, groups := .const { wUp.cal.groups.dflt with st := .fresh, firstRun := false } } }
def chs (ch : Nat) (f : Chan → Chan) (s : State) : State := { s with chans := s.chans.upd ch f }
def rde : RdEnt := ⟨4, 0, 77, 2, 3, 4, false, false, 0, 0, false⟩
def xf (a : Agent) (w : List Work) : Xfer := ⟨a, 5, 100, none, w, 0, 0, 0, 1, false, false, false, true, []⟩
def wAsk : State := chs 31 (fun c => { c with reads := [rde] }) wCh
def wk (a : Agent) (ch : Nat) (s : State) : Xfer := ((s.atFret ch 50).nextXfer ch a).getD (xf a [])
def wHeld : State := chs 31 (fun c => { c with reads := [rde], holder := some .ref }) wCh
def wPre : State := chs 63 (fun c => { (c.setAgent .ref (fun a => { a with asks := true })) with banks := ⟨{ Bank.init with owed := 9 }, []⟩, preempt := some (63, .ref), holder := some .wrd, xfer := some (xf .wrd [.wrLine 7 3]) }) wCh
def c15 (op a : Nat) (i : Nat) : Word := BitVec.ofNat 32 (op * 2^28 + a * 2^24 + i)
def op0 (st : RepairStage) : RepairOp := ⟨1, 31, 63, 32767, 0, 0, st, false, (List.range 16).map (fun i => if i % 3 = 0 then none else some ⟨BitVec.ofNat 576 i, 7, ⟨4, 5, 6⟩, 1, false, false⟩), 100000 - 40000, false⟩
def wOp (o : RepairOp) : State := { wUp with rpr := { wUp.rpr with op := some o } }
def noAuto : State := { wUp with upd := { wUp.upd with testing := true }, regs := { wUp.regs with force := ⟨0#32, [(0x4000, 0x100#32), (0x4800, 0x80000000#32)]⟩ } }
def wLow : State := { wUp with sec := { wUp.sec with lock := true }, regs := { wUp.regs with sticky := .const 0xffffffff } }
def aOpen : Access := ⟨.smp, 0, false, false⟩
end Wm

theorem test_WritesReachTheShadow_met :
    (∃ (s : State) (a : Access) (off n x i : Nat) (val : Word) (p : Page) (f : Field),
      a.course < 12 ∧ off < 524288 ∧ s.writeOpen a (4 * off) val ∧ regKind (4 * off) = .reg p n x false ∧ fieldsOfWord p x = [(f, i)] ∧ f.acc = .rwb ∧ s.wordDomain (pathNum a.path) (4 * off) ≠ 0) ∧
    (∃ (s : State) (a : Access) (off n x i : Nat) (val : Word) (p : Page) (f : Field),
      a.course < 12 ∧ off < 524288 ∧ s.writeOpen a (4 * off) val ∧ regKind (4 * off) = .reg p n x false ∧ fieldsOfWord p x = [(f, i)] ∧ f.acc = .rwb ∧ s.wordDomain (pathNum a.path) (4 * off) = 0 ∧ s.regs.posted = [] ∧ s.regs.stalled = []) ∧
    (∃ (s : State) (a : Access) (off n x i d : Nat) (val : Word) (p : Page) (f : Field) (q : DomState × Nat),
      a.course < 12 ∧ off < 524288 ∧ s.running = true ∧ s.accessLevel a = 2 ∧ s.domOn d = true ∧ (s.dom d).delay = some q ∧ d = s.wordDomain (pathNum a.path) (4 * off) ∧ d ≠ 0 ∧ s.busy (busyKey (4 * off)) = false ∧ s.pathWaits (pathNum a.path) = false ∧ s.writeBad 2 (4 * off) val = false ∧ s.closedTo a.path 0x1000 = false ∧ regKind (4 * off) = .reg p n x false ∧ fieldsOfWord p x = [(f, i)] ∧ f.acc = .rwb) ∧
    (∃ (s : State) (a : Access) (off page n x i : Nat) (val : Word) (p : Page) (f : Field) (e : Posted),
      a.course < 12 ∧ s.running = true ∧ page < 512 ∧ s.regs.posted = [e] ∧ e.late = false ∧ e.saves = false ∧ busyKey e.off = busyKey (0x1000 * page) ∧ regKind e.off = .reg p n x false ∧ fieldsOfWord p x = [(f, i)] ∧ f.acc = .rwb ∧ s.domOn (s.wordDomain (pathNum e.access.path) e.off) = true ∧ s.writeBad e.level e.off e.val = false ∧ s.regs.stalled = []) :=
  ⟨⟨wUp, aSmp, 65537, 0, 4, 0, 0x123#32, .map, RF.MAP_GRAIN, by decide +kernel, by decide +kernel, by unfold State.writeOpen; decide +kernel, by decide +kernel⟩,
   ⟨wUp, aWrap, 5136, 0, 64, 0, 0xffffffff#32, .sec, RF.SEC_DIGEST, by decide +kernel, by decide +kernel, by unfold State.writeOpen; decide +kernel, by decide +kernel⟩,
   ⟨Wm.wDel, aSmp, 7681, 0, 2052, 0, 7, 0x5000#32, .cal, RF.CAL_MAX_INTERVAL, (.off, 100002), and_four (by decide +kernel) ⟨by decide +kernel, by decide +kernel, rfl, by decide +kernel⟩⟩,
   ⟨{ wUp with regs := { wUp.regs with posted := [Wm.ep 20544 0x3333#32] } }, aSmp, 0, 5, 0, 64, 0, 0x3333#32, .sec, RF.SEC_DIGEST, (Wm.ep 20544 0x3333#32), by decide +kernel⟩⟩

namespace We2
def wSnap : State := { wUp with regs := { wUp.regs with snapBusy := true, snapAcc := ⟨0, [(5, 7), (0x1110, 9)]⟩, counters := ⟨3, [(0x1110, 0xffffffffffffffff#64)]⟩, snapSeq := 2^32 - 1 } }
def pe : Posted := { aPost with off := 0x88, val := 0x10000#32 }
def addr15 (s : State) : State := { s with pins := { s.pins with smpAddr := some 0x15 } }
def wSave : State := addr15 { wUp with regs := { wUp.regs with posted := [pe] }, nvm := { wUp.nvm with jobs := [⟨.settings none, true, [(9, 7#64), (10, 0#64)]⟩], reqSince := some 9 } }
def wSen : State := { wUp with sensors := { wUp.sensors with due := [5, 64, 79], asked := some (5, 99990) } }
end We2

theorem test_ReadsActAsTheirRegisterSays_met :
    (∃ (s : State) (a : Access) (off d : Nat),
      s.running = true ∧ a.course < 12 ∧ off < 524288 ∧ s.pathWaits (pathNum a.path) = false ∧ s.closedTo a.path (4 * off) = false ∧ s.wordDomain (pathNum a.path) (4 * off) = d ∧ regKind (4 * off) ≠ .unmapped ∧ s.domOn d = false ∧ (s.dom d).st ≠ .failed ∧ (s.dom d).wakeFrom = none ∧ s.wakeFirst d = [] ∧ s.mayWake d = true ∧ s.nackFailed d (4 * off) = false) ∧
    (∃ (s : State) (a : Access) (off n x i : Nat) (p : Page) (f : Field),
      s.running = true ∧ a.course < 12 ∧ off < 524288 ∧ s.pathWaits (pathNum a.path) = false ∧ s.closedTo a.path (4 * off) = false ∧ a.path ≠ .wrapper ∧ s.domOn (s.wordDomain (pathNum a.path) (4 * off)) = true ∧ (s.dom (s.wordDomain (pathNum a.path) (4 * off))).delay = none ∧ regKind (4 * off) = .reg p n x false ∧ fieldsOfWord p x = [(f, i)] ∧ f.acc = .rc ∧ s.readLevel f ≤ s.accessLevel a ∧ s.writeLevel f ≤ s.accessLevel a) ∧
    (∃ (s : State) (a : Access) (off : Nat) (p : Page) (peek : Bool) (at0 : Nat),
      s.running = true ∧ a.course < 12 ∧ off < 524288 ∧ s.pathWaits (pathNum a.path) = false ∧ s.closedTo a.path (4 * off) = false ∧ a.path ≠ .wrapper ∧ s.domOn (s.wordDomain (pathNum a.path) (4 * off)) = true ∧ (s.dom (s.wordDomain (pathNum a.path) (4 * off))).delay = none ∧ regKind (4 * off) = .counter p at0 false peek ∧ s.pageRead p ≤ s.accessLevel a) :=
  ⟨⟨offD 2 wUp, aSmp, (0x20800/4), 2, by decide +kernel⟩,
   ⟨Wm.stk wUp, aSmp, 2050, 0, 8, 0, .flt, RF.FLT_CH_FENCED, by decide +kernel⟩,
   ⟨wUp, aSmp, 1092, .pwr, false, 4368, by decide +kernel⟩⟩

theorem test_SnapshotsAndSummaries_met :
    (∃ (s : State) (a : Access),
      a.course < 12 ∧ s.writeOpen a 0x60 1#32 ∧ s.regs.snapBusy = false) ∧
    (∃ (s : State) (a : Access),
      a.course < 12 ∧ s.running = true ∧ s.regs.snapBusy = true) ∧
    (∃ (s : State) (a : Access),
      a.course < 12 ∧ s.writeOpen a 0x80 1#32 ∧ s.regs.sumBusy = false) ∧
    (∃ (s : State) (a : Access),
      a.course < 12 ∧ s.running = true) :=
  ⟨⟨wUp, aSmp, by decide +kernel, by unfold State.writeOpen; decide +kernel, by decide +kernel⟩,
   ⟨We2.wSnap, aSmp, by decide +kernel⟩,
   ⟨wUp, aSmp, by decide +kernel, by unfold State.writeOpen; decide +kernel, by decide +kernel⟩,
   ⟨wUp, aSmp, by decide +kernel⟩⟩

theorem test_SavesLandOrFail_met :
    (∃ (s : State) (a : Access),
      a.course < 12 ∧ s.writeOpen a 0x88 0x10000#32 ∧ s.regs.posted = [] ∧ s.regs.stalled = [] ∧ s.pins.nvmRdy = true ∧ s.pageWriting = false ∧ s.boot.saving = none ∧ s.applying = none) ∧
    (∃ (s : State) (a : Access) (e : Posted) (words : List (Nat × BitVec 64)),
      a.course < 12 ∧ s.running = true ∧ s.nvm.jobs = [⟨.settings none, true, words⟩] ∧ s.regs.posted = [e] ∧ e.saves = true ∧ s.trx.keyOps = [] ∧ s.regs.stalled = []) ∧
    (∃ (s : State) (a : Access) (e : Posted) (words : List (Nat × BitVec 64)),
      a.course < 12 ∧ s.running = true ∧ s.nvm.jobs = [⟨.settings none, true, words⟩] ∧ s.regs.posted = [e] ∧ e.saves = true ∧ s.trx.keyOps = [] ∧ s.regs.stalled = []) ∧
    (∃ (s : State) (a : Access) (adr : BitVec 7),
      a.course < 12 ∧ s.running = true ∧ s.pins.smpAddr = some adr) :=
  ⟨⟨wUp, aSmp, by decide +kernel, by unfold State.writeOpen; decide +kernel, by decide +kernel⟩,
   ⟨We2.wSave, aSmp, We2.pe, [(9, 7#64), (10, 0#64)], by decide +kernel⟩,
   ⟨We2.wSave, aSmp, We2.pe, [(9, 7#64), (10, 0#64)], by decide +kernel⟩,
   ⟨We2.wSave, aSmp, 0x15, by decide +kernel⟩⟩

theorem test_SensorsAreReadInRounds_met :
    (∃ (s : State) (base : Bool) (n k : Nat),
      s.running = true ∧ (n < if base = true then 16 else 64) ∧ k = sensorNum base n) ∧
    (∃ (s : State) (base : Bool) (n k : Nat) (v : BitVec 10) (par : Bool),
      s.running = true ∧ (n < if base = true then 16 else 64) ∧ k = sensorNum base n ∧ s.sensors.due.contains k = true ∧ par = oddParity 10 v.toNat ∧ s.sensors.due.filter (fun i => i != k) ≠ []) ∧
    (∃ (s : State) (base : Bool) (n k : Nat) (v : BitVec 10) (par : Bool),
      s.running = true ∧ (n < if base = true then 16 else 64) ∧ k = sensorNum base n ∧ s.sensors.due = [k] ∧ par = oddParity 10 v.toNat) ∧
    (∃ (s : State) (base : Bool) (n k : Nat) (v : BitVec 10) (par : Bool),
      s.running = true ∧ (n < if base = true then 16 else 64) ∧ k = sensorNum base n ∧ s.sensors.due.contains k = true ∧ s.sensors.bad.get k % 2 = 0 ∧ par ≠ oddParity 10 v.toNat) ∧
    (∃ (s : State) (base : Bool) (n k j t0 : Nat),
      s.running = true ∧ (n < if base = true then 16 else 64) ∧ k = sensorNum base n ∧ s.sensors.due.contains k = true ∧ s.sensors.bad.get k % 2 = 0 ∧ s.sensors.asked = some (j, t0) ∧ t0 + 2 ≤ s.now) ∧
    (∃ (s : State) (base : Bool) (n k : Nat) (v : BitVec 10) (par : Bool),
      s.running = true ∧ (n < if base = true then 16 else 64) ∧ k = sensorNum base n ∧ s.sensors.due.contains k = true ∧ s.sensors.bad.get k % 2 = 1 ∧ s.sensors.due.filter (fun i => i != k) ≠ [] ∧ par ≠ oddParity 10 v.toNat) :=
  ⟨⟨wUp, true, 15, 79, by decide +kernel⟩,
   ⟨We2.wSen, true, 15, 79, 0x123, true, by decide +kernel⟩,
   ⟨{ wUp with sensors := { wUp.sensors with due := [79], asked := some (5, 99990) } }, true, 15, 79, 0x3ff, (oddParity 10 0x3ff), by decide +kernel⟩,
   ⟨We2.wSen, true, 15, 79, 0x122, true, by decide +kernel⟩,
   ⟨We2.wSen, true, 15, 79, 5, 99990, by decide +kernel⟩,
   ⟨{ We2.wSen with sensors := { We2.wSen.sensors with bad := .const 1 } }, true, 15, 79, 0x123, (!(oddParity 10 0x123)), by decide +kernel⟩⟩

theorem test_TelemetryCapsTheBudget_met :
    (∃ (s : State),
      s.running = true) ∧
    (∃ (s : State) (t0 : Nat),
      s.running = true ∧ s.capo.ildOkFrom = some t0 ∧ t0 + 16 ≤ s.now ∧ s.capo.fTelem < 100) ∧
    (∃ (s : State),
      s.running = true ∧ s.pins.regOcw = false) ∧
    (∃ (s : State),
      s.running = true ∧ s.pins.regOcw = true) ∧
    (∃ (s : State) (t0 : Nat),
      s.running = true ∧ s.capo.ocwHold = some t0 ∧ t0 ≤ s.now) ∧
    (∃ (s : State) (die : Nat),
      s.running = true ∧ die < 16) :=
  ⟨⟨wUp, by decide +kernel⟩,
   ⟨{ wUp with capo := { wUp.capo with ildOkFrom := some 99984, fTelem := 97 } }, 99984, by decide +kernel⟩,
   ⟨wUp, by decide +kernel⟩,
   ⟨{ wUp with pins := { wUp.pins with regOcw := true } }, by decide +kernel⟩,
   ⟨{ wUp with capo := { wUp.capo with ocwHold := some 100000, dieCount := .const 4 } }, 100000, by decide +kernel⟩,
   ⟨wUp, 15, by decide +kernel⟩⟩

theorem test_AgentsTakeTheChannel_met :
    (∃ (s u : State) (ch t0 : Nat) (a h : Agent),
      s.running = true ∧ ch < 64 ∧ s.channelAlone ch ∧ u = s.atFret ch t0 ∧ u.wants ch a = true ∧ u.longHeld ch a = false ∧ ((s.chan ch).agent a).asks = false ∧ s.masked ch a = false ∧ (s.chan ch).downStands = false ∧ (s.chan ch).holder = some h ∧ h ≠ a ∧ (s.chan ch).xfer = none) ∧
    (∃ (s u : State) (ch t0 : Nat) (a : Agent) (y : Xfer),
      s.running = true ∧ ch < 64 ∧ s.channelAlone ch ∧ u = s.atFret ch t0 ∧ u.wants ch a = true ∧ u.longHeld ch a = false ∧ ((s.chan ch).agent a).asks = false ∧ s.masked ch a = false ∧ (s.chan ch).downStands = false ∧ (s.chan ch).holder = none ∧ (∀ b, b ≠ a → ((s.chan ch).agent b).asks = false) ∧ u.nextXfer ch a = some y) ∧
    (∃ (s : State) (ch : Nat) (h w : Agent) (x : Xfer),
      s.running = true ∧ ch < 64 ∧ s.channelAlone ch ∧ (s.chan ch).preempt = some (ch, w) ∧ (s.chan ch).holder = some h ∧ (s.chan ch).xfer = some x ∧ (s.chan ch).flights = [] ∧ w ≠ h ∧ ((s.chan ch).agent w).asks = true ∧ s.masked ch w = false ∧ s.wants ch w = true ∧ s.longHeld ch w = false) :=
  ⟨⟨Wm.wHeld, (Wm.wHeld.atFret 31 50), 31, 50, .rdq, .ref, by decide +kernel, by decide +kernel, by unfold State.channelAlone; decide +kernel, rfl, by decide +kernel⟩,
   ⟨Wm.wAsk, (Wm.wAsk.atFret 31 50), 31, 50, .rdq, (Wm.wk .rdq 31 Wm.wAsk), by decide +kernel, by decide +kernel, by unfold State.channelAlone; decide +kernel, rfl, and_four (by decide +kernel) ⟨by decide +kernel, by decide +kernel, by intro b _; cases b <;> decide +kernel, by decide +kernel⟩⟩,
   ⟨Wm.wPre, 63, .wrd, .ref, (Wm.xf .wrd [.wrLine 7 3]), by decide +kernel, by decide +kernel, by unfold State.channelAlone; decide +kernel, by decide +kernel⟩⟩

namespace Wf
def ks : KeySlot := { KeySlot.init with st := .active, keys := ⟨5, 6, 7⟩, gen := 7 }
def wCh : State := { wUp with sec := { wUp.sec with own := ⟨KeySlot.init, [(1, ks)]⟩ }, cal := { wUp.cal with ageSt := .fresh, groups := .const { wUp.cal.groups.dflt with st := .fresh, firstRun := false } } }
def chs (ch : Nat) (f : Chan → Chan) (s : State) : State := { s with chans := s.chans.upd ch f }
def rde : RdEnt := ⟨4, 0, 77, 2, 3, 4, false, false, 0, 0, false⟩
def xf (a : Agent) (w : List Work) : Xfer := ⟨a, 5, 100, none, w, 0, 0, 0, 1, false, false, false, true, []⟩
def bring (s : State) : State := { s with chans := s.chans, pins := { s.pins with chRst := .const true } }
def rowPre : BitVec 64 := BitVec.ofNat 64 (2 * 2^59 + 2 * 2^56 + 2 * 2^40 + 5 * 2^32 + 101 * 2^16)
def bk : Bank := { Bank.init with openRow := some 8, closeDue := true }
def wRow : State := bring <| chs 31 (fun c => { c with threadAt := some 1000, holder := some .ref, xfer := some (xf .ref [.refBank 17]), banks := ⟨Bank.init, [(17, bk)]⟩ }) { wCh with tab := ⟨⟨0, [(9, BitVec.ofNat 64 (3 * 2^59 + 3 * 2^14)), (100, rowPre)]⟩, ⟨0, [(6, 9#32)]⟩, 1, []⟩ }
def we : WrEnt := ⟨4, 77, 17, 2, 3, 0x1234#512, 1, 7, [3], false, true, true, false, false, false, 4⟩
def fl : Flight := ⟨.wrLine 77 3, 2, true, some 999, none, none, false, 1100⟩
def flr : Flight := ⟨.rdLine 4 0, 1, true, some 999, none, none, false, 1100⟩
def wBurst : State := chs 31 (fun c => { c with holder := some .wrd, xfer := some (xf .wrd [.wrLine 77 3, .wrLine 78 4]), writes := [we], flights := [fl, fl] }) wCh
def hd (op tag laddr len : Nat) (extra : Nat := 0) : Cell := BitVec.ofNat 128 (op + len * 2^6 + tag * 2^8 + 4 * 2^20 + 1 * 2^32 + 3 * 2^43 + laddr * 2^48 + extra)
def rr : Req := { uid := 4, hdr := hd 1 9 77 0, data := [], mask := 0, clear := false, pool := false, stage := .sent 5, left := [0], slot := some 3, deadline := some 200000, bornAge := 0, use := true, gen := 7, chs := [5], course := 3, cell := 2, down := [], downCh := 0 }
def dd : BitVec 512 := 0x9999
def ln : ArrayLine := ks.line dd 77 1
def cp : Captured := ⟨4, 0, 77, 2, 3, 4, some ln, 0, false⟩
def wCap : State := chs 5 (fun c => { c with captured := [cp], reads := [rde] }) { wCh with trx := { wCh.trx with reqs := [rr], nextUid := 9 } }
def wMiss : State := chs 5 (fun c => { c with holder := some .rdq, xfer := some (xf .rdq [.rdLine 4 0]), reads := [rde], flights := [flr] }) wCh
def wRef : State := chs 63 (fun c => { c with slotNext := 63, bandNew := 2, latchRead := some ⟨3, [some 5, none, none, none, none, none, none, none, none, none, none, none, none, none, none, some 32767], true⟩, sweep := some 0, banks := ⟨Bank.init, [(63, { bk with idleRun := true, hotUntil := some 100000, owed := -3 })]⟩, sids := ⟨Sid.init, [(3, { Sid.init with latches := ⟨none, [(0, some 5), (15, some 32767)]⟩ })]⟩ }) wCh
def wSent : State := chs 31 (fun c => { c with banks := ⟨Bank.init, [(63, { Bank.init with mustCheck := true }), (5, { Bank.init with suspect := true, scrubAt := some 32768 })]⟩, sentGot := [(63, 0x1234#576)] }) { wCh with pwr := { wCh.pwr with sentinels := ⟨none, [(64*31+63, some (0x77, oddOnes (0x77 : Word)))]⟩ } }
end Wf

theorem test_RowsIssueAndBurstsLand_met :
    (∃ (s : State) (ch t0 b : Nat) (x : Xfer) (r : BitVec 64),
      s.running = true ∧ ch < 64 ∧ s.channelAlone ch ∧ (s.chan ch).xfer = some x ∧ (s.chan ch).holder = some x.agent ∧ (s.chan ch).preempt = none ∧ (s.chan ch).maskCut = false ∧ x.ended = false ∧ x.begun = true ∧ s.tab.rows.get x.row = r ∧ rowCmd r = 2 ∧ rowDpa r = 0 ∧ rowBr r = 0 ∧ (s.target ch r (x.item r)).bank = b ∧ b < 64 ∧ ((s.chan ch).sids.get (b / 16)).hold = false ∧ s.rowMay ch t0 (s.chan ch).threadAt r (s.target ch r (x.item r)) ∧ (∀ a, a ≠ x.agent → ((s.chan ch).agent a).asks = false) ∧ (s.bank ch b).hotUntil = none ∧ s.wants ch .mute = false) ∧
    (∃ (s : State) (ch t0 b : Nat) (r : BitVec 64),
      s.running = true ∧ ch < 64 ∧ s.channelAlone ch ∧ (s.chan ch).insert = none ∧ s.insertTarget ch = some b ∧ s.tab.rows.get (s.firstRow 6) = r ∧ rowCmd r = 3 ∧ rowDpa r = 0 ∧ rowBr r = 3 ∧ (s.chan ch).atRest = false ∧ s.rowMay ch t0 (s.chan ch).insertAt r ⟨b, 0, 0⟩ ∧ (∀ a, ((s.chan ch).agent a).asks = false) ∧ (s.bank ch b).hotUntil = none ∧ s.wants ch .mute = false ∧ s.regs.snapBusy = false) ∧
    (∃ (s : State) (ch k l q : Nat) (x : Xfer) (f : Flight) (rest : List Flight) (w : WrEnt),
      s.running = true ∧ ch < 64 ∧ s.channelAlone ch ∧ (s.chan ch).xfer = some x ∧ (s.chan ch).flights = f :: rest ∧ rest ≠ [] ∧ f.write = true ∧ f.work = .wrLine l q ∧ f.dpa = 2 ∧ f.cmp = none ∧ f.place = some k ∧ (s.chan ch).wrOf l q = some w ∧ s.slotHolds (decide (32 ≤ ch)) w.key w.gen = true ∧ (s.slot (decide (32 ≤ ch)) w.key).eastOk = true ∧ (s.slot (decide (32 ≤ ch)) w.key).westOk = true) :=
  ⟨⟨Wf.wRow, 31, 1020, 17, (Wf.xf .ref [.refBank 17]), Wf.rowPre, by decide +kernel, by decide +kernel, by unfold State.channelAlone; decide +kernel, and_four (by decide +kernel) (and_four (by decide +kernel) (and_four (by decide +kernel) ⟨by decide +kernel, ⟨by decide +kernel, fun t0 h => by cases (show some 1000 = some t0 from h); decide +kernel, by decide +kernel, by decide +kernel⟩, by intro b _; cases b <;> decide +kernel, by decide +kernel⟩))⟩,
   ⟨Wf.chs 31 (fun c => { c with xfer := none, holder := none }) Wf.wRow, 31, 1020, 17, (BitVec.ofNat 64 (3 * 2^59 + 3 * 2^14)), by decide +kernel, by decide +kernel, by unfold State.channelAlone; decide +kernel, and_four (by decide +kernel) ⟨by decide +kernel, by decide +kernel, by decide +kernel, ⟨by decide +kernel, fun t0 h => absurd (show (none : Option Nat) = some t0 from h) nofun, by decide +kernel, by decide +kernel⟩, by intro b; cases b <;> decide +kernel, by decide +kernel⟩⟩,
   ⟨Wf.wBurst, 31, 999, 77, 3, (Wf.xf .wrd [.wrLine 77 3, .wrLine 78 4]), Wf.fl, [Wf.fl], Wf.we, by decide +kernel, by decide +kernel, by unfold State.channelAlone; decide +kernel, by decide +kernel⟩⟩

theorem test_CoreDiesAnswer_met :
    (∃ (s : State) (ch sid : Nat) (c : Captured) (r : Req) (d : BitVec 512) (st : BitVec 3),
      s.running = true ∧ ch < 64 ∧ sid < 4 ∧ (s.chan ch).captured = [c] ∧ c.rmw = false ∧ s.trx.reqs = [r] ∧ r.uid = c.uid ∧ hOp r.hdr = 0x01 ∧ r.left = [c.idx] ∧ r.down = [] ∧ readLine c.line (c.laddr % 2 ^ 30) (hKey r.hdr) (s.slot (hPartner r.hdr) (hKey r.hdr)).keys (s.slot (hPartner r.hdr) (hKey r.hdr)).meta1 none c.err s.freeVal = (stOk, d) ∧ (s.slot (hPartner r.hdr) (hKey r.hdr)).st = .active ∧ (s.slot (hPartner r.hdr) (hKey r.hdr)).eastOk = true ∧ (s.slot (hPartner r.hdr) (hKey r.hdr)).westOk = true ∧ (s.rmap ch).column = []) ∧
    (∃ (s : State) (ch sid : Nat) (y : Xfer) (h : Agent) (f : Flight) (fs : List Flight),
      s.running = true ∧ ch < 64 ∧ sid < 4 ∧ (s.chan ch).xfer = some y ∧ (s.chan ch).holder = some h ∧ (s.chan ch).flights = f :: fs ∧ f.write = false ∧ statusAfterMiss (s.chan ch) y = false ∧ y.marked = false ∧ s.regs.snapBusy = false) ∧
    (∃ (s : State) (ch sid : Nat) (st : BitVec 3) (n : Nat),
      s.running = true ∧ ch < 64 ∧ sid < 4 ∧ (s.chan ch).statusGot.find? (fun e => e.1 == sid) = some (sid, n) ∧ (s.chan ch).missed.any (fun e => e.1 == sid) = false ∧ bitAt (BitVec.ofNat 3 n ||| st) 1 = false) ∧
    (∃ (s : State) (ch sid : Nat) (st : BitVec 3) (n : Nat),
      s.running = true ∧ ch < 64 ∧ sid < 4 ∧ (s.chan ch).statusGot.find? (fun e => e.1 == sid) = some (sid, n) ∧ bitAt (BitVec.ofNat 3 n ||| st) 1 = true) ∧
    (∃ (s : State) (ch sid : Nat),
      s.running = true ∧ ch < 64 ∧ sid < 4) :=
  ⟨⟨Wf.wCap, 5, 3, Wf.cp, Wf.rr, Wf.dd, 0, by decide +kernel, by decide +kernel, by decide +kernel, rfl, by decide +kernel⟩,
   ⟨Wf.wMiss, 5, 3, (Wf.xf .rdq [.rdLine 4 0]), .rdq, Wf.flr, [], by decide +kernel⟩,
   ⟨Wf.chs 37 (fun c => { c with statusDue := [1, 3], statusGot := [(3, 0), (1, 1)] }) Wf.wCh, 37, 3, 5#3, 0, by decide +kernel⟩,
   ⟨Wf.chs 5 (fun c => { c with statusDue := [1, 3], statusGot := [(3, 0), (1, 1)] }) Wf.wCh, 5, 1, 7#3, 1, by decide +kernel⟩,
   ⟨Wf.wCap, 5, 3, by decide +kernel⟩⟩

theorem test_RefreshKeepsItsAccounts_met :
    (∃ (s : State) (ch b sid : Nat),
      s.running = true ∧ ch < 64 ∧ b < 64 ∧ sid < 4 ∧ s.creditsEarly ch = false ∧ s.clocked ch = true ∧ (s.chan ch).slotNext = b ∧ s.refreshStopped ch b = false) ∧
    (∃ (s : State) (ch b sid : Nat),
      s.running = true ∧ ch < 64 ∧ b < 64 ∧ sid < 4 ∧ (s.chan ch).xfer = none ∧ (s.bank ch b).idleRun = true ∧ (s.bank ch b).openRow.isSome = true) ∧
    (∃ (s : State) (ch b sid : Nat) (rows : List (Option Nat)) (hot : Bool),
      s.running = true ∧ ch < 64 ∧ b < 64 ∧ sid < 4 ∧ (s.chan ch).latchRead = some ⟨sid, rows, hot⟩) ∧
    (∃ (s : State) (ch b sid t0 : Nat),
      s.running = true ∧ ch < 64 ∧ b < 64 ∧ sid < 4 ∧ (s.bank ch b).hotUntil = some t0 ∧ t0 ≤ s.now) ∧
    (∃ (s : State) (ch b sid : Nat),
      s.running = true ∧ ch < 64 ∧ b < 64 ∧ sid < 4 ∧ (s.chan ch).sweep = some 0) :=
  ⟨⟨Wf.wRef, 63, 63, 3, by decide +kernel⟩,
   ⟨Wf.wRef, 63, 63, 3, by decide +kernel⟩,
   ⟨Wf.wRef, 63, 63, 3, [some 5, none, none, none, none, none, none, none, none, none, none, none, none, none, none, some 32767], true, by decide +kernel⟩,
   ⟨Wf.wRef, 63, 63, 3, 100000, by decide +kernel⟩,
   ⟨Wf.wRef, 63, 63, 3, by decide +kernel⟩⟩

theorem test_SentinelsJudgeTheirBanks_met :
    (∃ (s : State) (ch b n : Nat) (burst : BitVec 576) (kept : Word × Bool) (a : Access),
      a.course < 12 ∧ b < 64 ∧ n < 524288 ∧ s.running = true ∧ ch < 64 ∧ (s.bank ch b).mustCheck = true ∧ (s.chan ch).sentGot.find? (fun e => e.1 == b) = some (b, burst) ∧ s.pwr.sentinels.get (64 * ch + b) = some kept) ∧
    (∃ (s : State) (ch b n : Nat) (a : Access),
      a.course < 12 ∧ b < 64 ∧ n < 524288 ∧ s.running = true ∧ ch < 64 ∧ (s.bank ch b).scrubAt = some 32768 ∧ s.rfch RF.REF_SENT_FENCE ch = 1 ∧ 0 < n + (s.bank ch b).scrubBad) ∧
    (∃ (s : State) (ch b n : Nat) (a : Access),
      a.course < 12 ∧ b < 64 ∧ n < 524288 ∧ ch < 32 ∧ s.writeOpen a 0xb001c (BitVec.ofNat 32 ch)) :=
  ⟨⟨Wf.wSent, 31, 63, 1, 0x1234#576, (0x77, oddOnes (0x77 : Word)), aSmp, by decide +kernel⟩,
   ⟨{ Wf.wSent with regs := { Wf.wSent.regs with force := Wf.wSent.regs.force.set (chanCopy 31 0xb0000) 0x100 |>.set (chanCopy 31 (RF.REF_SENT_FENCE.addr 0 0)) (BitVec.ofNat 32 (2^RF.REF_SENT_FENCE.lo)) } }, 31, 5, 1, aSmp, by decide +kernel⟩,
   ⟨Wf.wSent, 31, 63, 1, aSmp, and_four (by decide +kernel) (by unfold State.writeOpen; decide +kernel)⟩⟩

namespace Wg
def calg (g : Nat) (f : CalGroup → CalGroup) (s : State) : State := { s with cal := { s.cal with groups := s.cal.groups.upd g f } }
def cach (ch : Nat) (f : CalChan → CalChan) (s : State) : State := { s with cal := { s.cal with chans := s.cal.chans.upd ch f } }
def wCal : State := { wUp with cal := { wUp.cal with ageSt := .fresh, groups := .const { wUp.cal.groups.dflt with st := .stale, firstRun := false } } }
def tr0 : Trims := { Trims.init with pluck := 3, csPhase := 2 }
def rn : CalRun := ⟨0, false, false, 5, [], [], [], 4, true, 2, 4⟩
def res0 : TrainResult := ⟨{ Trims.init with pluck := 3, csPhase := 2, wdeskew := List.replicate 40 1 }, [], [], false, [], false, true, [], [], []⟩
def wFr : State := { wCal with cal := { wCal.cal with groups := wCal.cal.groups.mapAll (fun x => { x with st := .fresh }) } }
def cgs (g : Nat) (f : CgPower → CgPower) (s : State) : State := { s with pwr := { s.pwr with cgs := s.pwr.cgs.upd g f } }
def allOff (l : List Nat) (s : State) : State := l.foldl (fun s d => offD d s) s
def wQuiet : State := allOff ([1,2,3,4] ++ (List.range 16).map (· + 8)) { wUp with link := { wUp.link with courses := .const Course.init } }
end Wg

theorem test_RunsMakeGroupsFresh_met :
    (∃ (s : State) (a : Access) (g : Nat),
      g < 16 ∧ a.course < 12 ∧ s.writeOpen a 0x7024 (BitVec.ofNat 32 (2 ^ g)) ∧ s.canRun g = true ∧ (s.calGr g).run = none ∧ s.cal.refState ≠ .holdover) ∧
    (∃ (s : State) (g : Nat) (r : CalRun),
      g < 16 ∧ s.running = true ∧ (s.calGr g).run = some r ∧ r.window = false ∧ s.refLocked = true ∧ r.discard = false) ∧
    (∃ (s : State) (g : Nat) (r : CalRun),
      g < 16 ∧ s.running = true ∧ (s.calGr g).run = some r ∧ r.window = false ∧ s.refLocked = true) ∧
    (∃ (s : State) (g fret : Nat) (even odd : Trims) (r : CalRun),
      g < 16 ∧ s.running = true ∧ (s.calGr g).run = some r ∧ s.nothingWaits ∧ even.wellFormed = true ∧ odd.wellFormed = true ∧ fret < 128 ∧ r.window = true ∧ s.cal.refState ≠ .absent ∧ apart (s.groupTemp g) r.temp < 4 * r.delta) ∧
    (∃ (s : State) (g fret : Nat) (even odd : Trims) (r : CalRun),
      g < 16 ∧ s.running = true ∧ (s.calGr g).run = some r ∧ s.nothingWaits ∧ even.wellFormed = true ∧ odd.wellFormed = true ∧ fret < 128 ∧ r.window = true ∧ s.cal.refState ≠ .absent ∧ ((s.calGr g).firstRun = false ∨ (s.calGr g).retried = false)) :=
  ⟨⟨Wg.wCal, aSmp, 15, by decide +kernel, by decide +kernel, by unfold State.writeOpen; decide +kernel, by decide +kernel⟩,
   ⟨Wg.calg 15 (fun x => { x with run := some Wg.rn }) Wg.wCal, 15, Wg.rn, by decide +kernel⟩,
   ⟨Wg.calg 15 (fun x => { x with run := some Wg.rn }) Wg.wCal, 15, Wg.rn, by decide +kernel⟩,
   ⟨Wg.calg 0 (fun x => { x with run := some { Wg.rn with window := true }, firstRun := true }) wUp, 0, 127, Wg.tr0, Wg.tr0, { Wg.rn with window := true }, by decide +kernel, by decide +kernel, by decide +kernel, by unfold State.nothingWaits; decide +kernel, by decide +kernel⟩,
   ⟨Wg.calg 0 (fun x => { x with run := some { Wg.rn with window := true }, firstRun := true }) wUp, 0, 127, Wg.tr0, Wg.tr0, { Wg.rn with window := true }, by decide +kernel, by decide +kernel, by decide +kernel, by unfold State.nothingWaits; decide +kernel, by decide +kernel⟩⟩

theorem test_CorrectionsAndRetrainings_met :
    (∃ (s : State) (a : Access) (ch : Nat) (p : Corr),
      a.course < 12 ∧ s.running = true ∧ ch < 64 ∧ (s.calCh ch).pending = [p] ∧ p.wait = false ∧ s.trimsHeld ch = false ∧ 64 ≤ (s.calCh ch).burstCount ∧ (s.chan ch).flights = []) ∧
    (∃ (s : State) (a : Access) (ch : Nat) (p : Corr),
      a.course < 12 ∧ s.running = true ∧ ch < 64 ∧ (s.calCh ch).pending = [p] ∧ p.wait = true ∧ s.trimsHeld ch = false ∧ (s.chan ch).flights = []) ∧
    (∃ (s : State) (a : Access) (ch : Nat) (p : Corr),
      a.course < 12 ∧ s.running = true ∧ ch < 64 ∧ (s.calCh ch).pending = [p] ∧ p.wait = true ∧ (s.calCh ch).waitSince + s.rf RF.CAL_IDLE_WAIT ≤ s.now) ∧
    (∃ (s : State) (a : Access) (ch : Nat) (full : Bool),
      a.course < 12 ∧ ch < 32 ∧ s.writeOpen a 0x7028 (BitVec.ofNat 32 (ch + b2n full * 2 ^ 31)) ∧ (s.calCh ch).retraining = false) ∧
    (∃ (s : State) (a : Access) (ch : Nat) (res : TrainResult),
      a.course < 12 ∧ s.running = true ∧ s.nothingWaits ∧ ch < 64 ∧ res.wellFormed = true ∧ (s.calCh ch).retraining = true ∧ (s.calCh ch).inFull = false ∧ (s.calCh ch).fullRun = false ∧ (s.calCh ch).step5 = [] ∧ dqBad res = [] ∧ cmdBad res = [] ∧ res.strobeAll = false ∧ res.strobeSids = [] ∧ res.resetFailed = false ∧ res.verifyPassed = true ∧ gateOk res = true ∧ narrowed (s.calCh ch).trims res.trims = true ∧ s.flt.unfencing = []) ∧
    (∃ (s : State) (a : Access) (ch : Nat) (res : TrainResult),
      a.course < 12 ∧ s.running = true ∧ s.nothingWaits ∧ ch < 64 ∧ res.wellFormed = true ∧ (s.calCh ch).retraining = true ∧ (s.calCh ch).inFull = false ∧ (s.calCh ch).fullRun = false ∧ (s.calCh ch).step5 = [] ∧ dqBad res = [] ∧ cmdBad res = [] ∧ res.strobeAll = false ∧ res.strobeSids = [] ∧ res.resetFailed = false ∧ res.verifyPassed = false) :=
  ⟨⟨Wg.cach 63 (fun x => { x with pending := [⟨3, -2, false, false⟩], burstCount := 64 }) Wg.wFr, aSmp, 63, ⟨3, -2, false, false⟩, by decide +kernel⟩,
   ⟨Wg.cach 63 (fun x => { x with pending := [⟨3, -2, true, false⟩], burstCount := 64 }) Wg.wFr, aSmp, 63, ⟨3, -2, true, false⟩, by decide +kernel⟩,
   ⟨Wg.cach 63 (fun x => { x with pending := [⟨3, -2, true, false⟩], burstCount := 64 }) Wg.wFr, aSmp, 63, ⟨3, -2, true, false⟩, by decide +kernel⟩,
   ⟨Wg.cach 0 (fun x => { x with pending := [⟨3, 1, false, false⟩], burstCount := 64 }) Wg.wCal, aSmp, 0, false, by decide +kernel, by decide +kernel, by unfold State.writeOpen; decide +kernel, by decide +kernel⟩,
   ⟨Wg.cach 63 (fun x => { x with retraining := true }) Wg.wCal, aSmp, 63, Wg.res0, by decide +kernel, by decide +kernel, by unfold State.nothingWaits; decide +kernel, by decide +kernel⟩,
   ⟨Wg.cach 5 (fun x => { x with retraining := true }) Wg.wCal, aSmp, 5, {Wg.res0 with verifyPassed := false}, by decide +kernel, by decide +kernel, by unfold State.nothingWaits; decide +kernel, by decide +kernel⟩⟩

theorem test_DomainsEnterLowPower_met :
    (∃ (s : State) (a : Access) (g : Nat),
      a.course < 12 ∧ s.running = true ∧ g < 16 ∧ (s.cg g).st = .active ∧ 0 < s.idleLimit .pd ∧ s.idleLimit .pd ≤ (s.cg g).idle ∧ (s.cg g).refused ≠ some .powerDown ∧ (s.cg g).delay = none ∧ s.domOn (8 + g) = true ∧ (s.cg g).pdAt + s.idleLimit .pd ≤ s.now ∧ s.unmetCg g .powerDown = []) ∧
    (∃ (s : State) (a : Access) (g t0 : Nat) (cgt : CgState),
      a.course < 12 ∧ s.running = true ∧ g < 16 ∧ (s.cg g).delay = some (cgt, t0) ∧ s.unmetCg g cgt = []) ∧
    (∃ (s : State) (a : Access) (d t0 : Nat) (target : DomState),
      a.course < 12 ∧ 1 ≤ d ∧ d ≤ 7 ∧ (target = .retention ∨ target = .off) ∧ s.running = true ∧ (s.dom d).delay = some (target, t0) ∧ s.unmetDom d target = []) ∧
    (∃ (s : State) (a : Access) (d c t0 : Nat) (l : List Nat) (target : DomState),
      a.course < 12 ∧ 1 ≤ d ∧ d ≤ 7 ∧ (target = .retention ∨ target = .off) ∧ s.running = true ∧ (s.dom d).delay = some (target, t0) ∧ s.unmetDom d target = c :: l ∧ t0 ≤ s.now) ∧
    (∃ (s : State) (a : Access) (d : Nat) (target : DomState),
      a.course < 12 ∧ 1 ≤ d ∧ d ≤ 7 ∧ (target = .retention ∨ target = .off) ∧ 2 ≤ d ∧ s.domOn d = true ∧ s.unmetDom d target = [] ∧ target = .retention ∧ s.writeOpen a 0x1014 (BitVec.ofNat 32 (d + 2 ^ 8))) ∧
    (∃ (s : State) (a : Access) (d : Nat) (target : DomState),
      a.course < 12 ∧ 1 ≤ d ∧ d ≤ 7 ∧ (target = .retention ∨ target = .off) ∧ 2 ≤ d ∧ s.domOn d = true ∧ s.unmetDom d target = [] ∧ target = .off ∧ s.writeOpen a 0x1014 (BitVec.ofNat 32 (d + 2 * 2 ^ 8))) ∧
    (∃ (s : State) (a : Access) (d : Nat) (target : DomState),
      a.course < 12 ∧ 1 ≤ d ∧ d ≤ 7 ∧ (target = .retention ∨ target = .off) ∧ s.running = true ∧ s.domOn 1 = true ∧ (s.dom 1).waitAck = some target ∧ s.link.upQ = [] ∧ (∀ k, k < 12 → (s.course k).buffer = [] ∧ (s.course k).held = []) ∧ s.unmetDom 1 target = []) :=
  ⟨⟨Wg.cgs 15 (fun x => { x with idle := 1000000 }) wUp, aSmp, 15, by decide +kernel⟩,
   ⟨Wg.cgs 15 (fun x => { x with delay := some (.selfRefresh, 9) }) wUp, aSmp, 15, 9, .selfRefresh, by decide +kernel⟩,
   ⟨delayD 7 Wg.wQuiet, aSmp, 7, 100002, .off, by decide +kernel⟩,
   ⟨wUp.setDom 3 (fun x => { x with delay := some (.retention, 100000) }), aSmp, 3, 8, 100000, [], .retention, by decide +kernel⟩,
   ⟨Wg.wQuiet.setDom 2 (fun x => { onDom with delay := none }), aSmp, 2, .retention, and_four (by decide +kernel) (and_four (by decide +kernel) (by unfold State.writeOpen; decide +kernel))⟩,
   ⟨delayD 7 Wg.wQuiet, aSmp, 7, .off, and_four (by decide +kernel) (and_four (by decide +kernel) (by unfold State.writeOpen; decide +kernel))⟩,
   ⟨(Wg.wQuiet.setDom 1 (fun x => { onDom with waitAck := some .off })), aSmp, 1, .off, by decide +kernel⟩⟩

theorem test_DomainsWakeOrFail_met :
    (∃ (s : State) (a : Access) (d : Nat),
      a.course < 12 ∧ d < 24 ∧ 2 ≤ d ∧ d ≤ 7 ∧ s.writeOpen a 0x1014 (BitVec.ofNat 32 d) ∧ s.domOn d = false ∧ (s.dom d).st ≠ .failed ∧ (s.dom d).wakeFrom = none ∧ s.mayWake d = true) ∧
    (∃ (s : State) (a : Access) (d : Nat),
      a.course < 12 ∧ d < 24 ∧ 2 ≤ d ∧ d ≤ 7 ∧ s.writeOpen a 0x1020 (BitVec.ofNat 32 d) ∧ (s.dom d).st = .failed ∧ s.mayWake d = true) ∧
    (∃ (s : State) (a : Access) (c d : Nat),
      a.course < 12 ∧ d < 24 ∧ s.running = true ∧ c < 12 ∧ (s.rf RF.PWR_LINK_WAKE).testBit c = true ∧ s.domOn 1 = false ∧ (s.dom 1).st ≠ .failed ∧ (s.dom 1).wakeFrom = none ∧ s.mayWake 1 = true) ∧
    (∃ (s : State) (a : Access) (d : Nat),
      a.course < 12 ∧ d < 24 ∧ s.running = true ∧ s.nothingWaits ∧ (d = 2 ∨ d = 3 ∨ d = 4 ∨ d = 7) ∧ s.wakeRuns d = true ∧ (s.dom d).from0 = false) ∧
    (∃ (s : State) (a : Access) (d t0 : Nat),
      a.course < 12 ∧ d < 24 ∧ s.running = true ∧ s.nothingWaits ∧ 1 ≤ d ∧ s.wakeTimed d = true ∧ (s.dom d).wakeFrom = some t0 ∧ t0 + (s.dom d).timer ≤ s.now) ∧
    (∃ (s : State) (a : Access) (d t0 : Nat),
      a.course < 12 ∧ d < 24 ∧ s.running = true ∧ s.nothingWaits ∧ 1 ≤ d ∧ (s.dom d).retryAt = some t0 ∧ t0 ≤ s.now ∧ (s.dom d).tries ≤ (s.dom d).limit) ∧
    (∃ (s : State) (a : Access) (d t0 : Nat),
      a.course < 12 ∧ d < 24 ∧ s.running = true ∧ s.nothingWaits ∧ 1 ≤ d ∧ (s.dom d).retryAt = some t0 ∧ t0 ≤ s.now ∧ (s.dom d).limit < (s.dom d).tries) ∧
    (∃ (s : State) (a : Access) (d : Nat),
      a.course < 12 ∧ d < 24 ∧ s.running = true ∧ s.nothingWaits ∧ 1 ≤ d ∧ s.pins.pswEn.get d = true) :=
  ⟨⟨offD 2 wUp, aSmp, 2, and_four (by decide +kernel) ⟨by unfold State.writeOpen; decide +kernel, by decide +kernel⟩⟩,
   ⟨failD 6 wUp, aSmp, 6, and_four (by decide +kernel) ⟨by unfold State.writeOpen; decide +kernel, by decide +kernel⟩⟩,
   ⟨offD 1 wUp, aSmp, 0, 2, by decide +kernel⟩,
   ⟨(wakingD 4 wUp).setDom 4 (fun x => { x with from0 := false, wakeFrom := some 5 }), aSmp, 4, by decide +kernel, by decide +kernel, by decide +kernel, by unfold State.nothingWaits; decide +kernel, by decide +kernel⟩,
   ⟨wakingD 3 wUp, aSmp, 3, 99990, by decide +kernel, by decide +kernel, by decide +kernel, by unfold State.nothingWaits; decide +kernel, by decide +kernel⟩,
   ⟨(wakingD 23 wUp).setDom 23 (fun x => { x with retryAt := some 100000 }), aSmp, 23, 100000, by decide +kernel, by decide +kernel, by decide +kernel, by unfold State.nothingWaits; decide +kernel, by decide +kernel⟩,
   ⟨(wakingD 1 wUp).setDom 1 (fun x => { x with retryAt := some 100000, tries := 99 }), aSmp, 1, 100000, by decide +kernel, by decide +kernel, by decide +kernel, by unfold State.nothingWaits; decide +kernel, by decide +kernel⟩,
   ⟨offD 2 wUp, aSmp, 2, by decide +kernel, by decide +kernel, by decide +kernel, by unfold State.nothingWaits; decide +kernel, by decide +kernel⟩⟩

namespace Wh
def pr (f : PairSt → PairSt) (s : State) : State := { s with pair := f s.pair }
def wP : State := pr (fun p => { p with role := .paired, idSentAt := some 10, idSeen := true, rxSeq := 255 }) { wUp with sec := { wUp.sec with pairKey := some 3 } }
def idB : List Word := BitVec.ofNat 32 1 :: (wUp.identityBody.drop 1)
def hbB : List Word := (List.range 52).map (fun i => BitVec.ofNat 32 (0x31240000 * (i % 7) + 5 * i))
def wArm : State := pr (fun p => { p with beats := 3, peerArmed := true }) wP
def mc : MirMsg := ⟨255, mirFrame mtConfig 255 [5, 88, 9], 99990, 99900, none⟩
def mch : MirChan := ⟨0, 3, 4, 5, 77, .const 3, [⟨1, 2, 3⟩], some Trims.init, [], 0⟩
def wDS : State := pr (fun p => { p with role := .survivor, doubleStop := true, serving := true, step := .doubleStop, handWait := 5 }) wP
end Wh

theorem test_IdentitiesPairInstances_met :
    (∃ (s : State) (l : List Word),
      s.upd.stage0.st ≠ 5 ∧ s.mirArrives mtIdentity l ∧ s.pair.idSentAt.isSome = true ∧ s.pair.role = .none ∧ s.identityDiff (mirBody l) = none) ∧
    (∃ (s : State) (l : List Word) (n : Nat),
      s.upd.stage0.st ≠ 5 ∧ s.mirArrives mtIdentity l ∧ s.pair.idSentAt.isSome = true ∧ s.pair.role = .none ∧ s.identityDiff (mirBody l) = some n) ∧
    (∃ (s : State) (l : List Word),
      s.upd.stage0.st ≠ 5 ∧ s.mirArrives mtIdentity l ∧ s.pair.idSentAt.isSome = true ∧ s.pair.role = .paired ∧ s.identityDiff (mirBody l) = none ∧ s.pair.missed < 2) ∧
    (∃ (s : State) (t0 : Nat),
      s.upd.stage0.st ≠ 5 ∧ s.running = true ∧ s.pair.idSentAt = some t0 ∧ s.pair.role = .none ∧ s.pair.idSeen = false ∧ t0 + 2048 ≤ s.now) :=
  ⟨⟨Wh.pr (fun p => { p with role := .none, idSentAt := some 10 }) wUp, (mirFrame mtIdentity 255 Wh.idB), by decide +kernel, by unfold State.mirArrives; decide +kernel, by decide +kernel⟩,
   ⟨Wh.pr (fun p => { p with role := .none, idSentAt := some 10 }) wUp, (mirFrame mtIdentity 0 wUp.identityBody), 0, by decide +kernel, by unfold State.mirArrives; decide +kernel, by decide +kernel⟩,
   ⟨Wh.wP, (mirFrame mtIdentity 77 Wh.idB), by decide +kernel, by unfold State.mirArrives; decide +kernel, by decide +kernel⟩,
   ⟨Wh.pr (fun p => { p with role := .none, idSentAt := some 10 }) wUp, 10, by decide +kernel⟩⟩

theorem test_HeartbeatsWatchThePartner_met :
    (∃ (s : State) (l : List Word) (n : Nat),
      s.mirArrives mtHeartbeat l ∧ s.portOpen = true ∧ l.length = 54 ∧ n < 32) ∧
    (∃ (s : State),
      s.running = true ∧ s.pair.role = .paired ∧ s.pair.joint = false ∧ s.domOn 6 = true ∧ s.pair.step = .idle ∧ s.pair.lastWin ≠ s.now ∧ s.pair.gotBeat = true) ∧
    (∃ (s : State),
      s.running = true ∧ s.pair.role = .paired ∧ s.pair.joint = false ∧ s.domOn 6 = true ∧ s.pair.step = .idle ∧ s.pair.lastWin ≠ s.now ∧ s.pair.gotBeat = false ∧ (s.armed = false ∨ s.pair.missed = 0)) ∧
    (∃ (s : State),
      s.running = true ∧ s.pair.role = .paired ∧ s.pair.joint = false ∧ s.domOn 6 = true ∧ s.pair.step = .idle ∧ s.pair.lastWin ≠ s.now ∧ s.pair.gotBeat = false ∧ s.armed = true ∧ 1 ≤ s.pair.missed) ∧
    (∃ (s : State) (m : MirMsg),
      s.running = true ∧ s.pair.role = .paired ∧ s.pair.joint = false ∧ s.domOn 6 = true ∧ s.pair.step = .idle ∧ s.armed = true ∧ s.pair.sent = [m] ∧ m.first + 64 ≤ s.now) :=
  ⟨⟨Wh.wP, (mirFrame mtHeartbeat 255 Wh.hbB), 31, ⟨by decide +kernel, by decide +kernel, mirOk_frame _ _ _ (by decide), mirType_frame _ _ _ (by decide), by decide +kernel⟩, by decide +kernel⟩,
   ⟨Wh.pr (fun p => { p with gotBeat := true, missed := 1 }) Wh.wP, by decide +kernel⟩,
   ⟨Wh.wP, by decide +kernel⟩,
   ⟨Wh.pr (fun p => { p with gotBeat := false, missed := 1 }) Wh.wArm, by decide +kernel⟩,
   ⟨Wh.pr (fun p => { p with sent := [{aMsg 3 with first := 99936 }] }) Wh.wArm, {aMsg 3 with first := 99936 }, by decide +kernel⟩⟩

theorem test_MirrorMessagesAreApplied_met :
    (∃ (s : State) (l : List Word) (i : Nat),
      s.mirNext mtRefBase l ∧ s.pair.role = .paired ∧ i < 64) ∧
    (∃ (s : State) (l : List Word),
      s.mirNext mtBacklog l ∧ s.pair.role = .paired) ∧
    (∃ (s : State) (l : List Word) (k : Nat),
      s.mirNext mtKey l ∧ s.pair.role = .paired ∧ bitAt (bodyWord (mirBody l) 0) 31 = true ∧ fieldNat (bodyWord (mirBody l) 0) 10 0 = k) ∧
    (∃ (s : State) (l : List Word) (k : Nat),
      s.mirNext mtKey l ∧ s.pair.role = .paired ∧ bitAt (bodyWord (mirBody l) 0) 31 = false ∧ fieldNat (bodyWord (mirBody l) 0) 10 0 = k) ∧
    (∃ (s : State) (l : List Word),
      s.mirNext mtRepair l ∧ s.pair.role = .paired) ∧
    (∃ (s : State) (l : List Word),
      s.mirNext mtConfig l ∧ s.pair.role = .paired) ∧
    (∃ (s : State) (l : List Word),
      s.mirNext mtTrims l ∧ s.pair.role = .paired) ∧
    (∃ (s : State) (l : List Word),
      s.mirNext mtSleep l ∧ s.pair.role = .paired ∧ bitAt (bodyWord (mirBody l) 0) 0 = true) ∧
    (∃ (s : State) (l : List Word),
      s.mirNext mtPairkey l) ∧
    (∃ (s : State) (l : List Word),
      s.mirNext mtHandback l ∧ s.pair.role = .fenced ∧ s.boot.stage ≠ .ready) :=
  ⟨⟨Wh.wP, (mirFrame mtRefBase 255 ((List.range 33).map (fun i => BitVec.ofNat 32 (0x10003 * i + 63)))), 63, ⟨⟨by decide +kernel, by decide +kernel, mirOk_frame _ _ _ (by decide), mirType_frame _ _ _ (by decide), by decide +kernel⟩, by decide +kernel, by decide +kernel, by decide +kernel⟩, by decide +kernel⟩,
   ⟨Wh.wP, (mirFrame mtBacklog 255 [BitVec.ofNat 32 (2^31 + 63 * 256 + 31), 32767]), by unfold State.mirNext State.mirArrives; decide +kernel, by decide +kernel⟩,
   ⟨Wh.wP, (mirFrame mtKey 255 [BitVec.ofNat 32 (2^31 + 2047)]), 2047, by unfold State.mirNext State.mirArrives; decide +kernel, by decide +kernel⟩,
   ⟨Wh.wP, (mirFrame mtKey 255 [BitVec.ofNat 32 (2047), 5, 6, 7]), 2047, by unfold State.mirNext State.mirArrives; decide +kernel, by decide +kernel⟩,
   ⟨Wh.wP, (mirFrame mtRepair 255 [BitVec.ofNat 32 31, 4, 5, 6]), by unfold State.mirNext State.mirArrives; decide +kernel, by decide +kernel⟩,
   ⟨Wh.wP, (mirFrame mtConfig 255 [BitVec.ofNat 32 (2^31 + 7), 99, BitVec.ofNat 32 (2^19 + 0x7804/4), 55]), by unfold State.mirNext State.mirArrives; decide +kernel, by decide +kernel⟩,
   ⟨Wh.wP, (mirFrame mtTrims 255 (31 :: List.replicate 41 0x02020202)), ⟨⟨by decide +kernel, by decide +kernel, mirOk_frame _ _ _ (by decide), mirType_frame _ _ _ (by decide), by decide +kernel⟩, by decide +kernel, by decide +kernel, by decide +kernel⟩, by decide +kernel⟩,
   ⟨Wh.pr (fun p => { p with joint := true, sleepSent := true }) Wh.wP, (mirFrame mtSleep 255 [1]), by unfold State.mirNext State.mirArrives; decide +kernel, by decide +kernel⟩,
   ⟨Wh.wP, (mirFrame mtPairkey 255 [1, 2, 3]), by unfold State.mirNext State.mirArrives; decide +kernel⟩,
   ⟨Wh.pr (fun p => { p with role := .fenced }) { Wh.wP with boot := { Wh.wP.boot with heldStart := true, stage := .coredie } }, (mirFrame mtHandback 255 [1, 2, 3]), by unfold State.mirNext State.mirArrives; decide +kernel, by decide +kernel⟩⟩

theorem test_MirrorPortKeepsItsMessages_met :
    (∃ (s : State) (m : MirMsg),
      s.running = true ∧ s.clamped = false ∧ s.pair.sent = [m] ∧ m.seq < 256 ∧ s.pair.waiting = [] ∧ s.trx.keyOps = [] ∧ mirType m.words = mtConfig) ∧
    (∃ (s : State) (m : MirMsg),
      s.running = true ∧ s.pair.sent = [m] ∧ m.seq < 256 ∧ m.at0 + 4 ≤ s.now ∧ s.domOn 6 = true ∧ s.regs.snapBusy = false) ∧
    (∃ (s : State),
      s.running = true ∧ s.clamped = false ∧ s.domOn 6 = false ∧ (s.dom 6).st ≠ .failed ∧ (s.dom 6).wakeFrom = none ∧ s.mayWake 6 = true) :=
  ⟨⟨Wh.pr (fun p => { p with sent := [Wh.mc] }) Wh.wP, Wh.mc, by decide +kernel⟩,
   ⟨Wh.pr (fun p => { p with sent := [Wh.mc] }) Wh.wP, Wh.mc, by decide +kernel⟩,
   ⟨offD 6 Wh.wP, by decide +kernel⟩⟩

theorem test_TakeoverReachesDoubleStop_met :
    (∃ (s : State),
      s.running = true ∧ s.pair.step = .freq ∧ (∀ ch, ch < 64 → (s.chan ch).downStands = false)) ∧
    (∃ (s : State) (n : Nat),
      s.running = true ∧ s.pair.step = .opening ∧ n < 32) ∧
    (∃ (s : State),
      s.running = true ∧ s.pair.step = .retraining) ∧
    (∃ (s : State),
      s.running = true ∧ s.flt.fatal = false) ∧
    (∃ (s : State),
      s.running = true ∧ s.boot.heldStart = false ∧ s.boot.stage = .ready ∧ s.pair.role ≠ .fenced) ∧
    (∃ (s : State),
      s.running = true ∧ s.boot.heldStart = true ∧ s.boot.stage = .coredie ∧ s.pair.handMsgs = []) :=
  ⟨⟨Wh.pr (fun p => { p with step := .freq }) Wh.wP, by decide +kernel⟩,
   ⟨Wh.pr (fun p => { p with step := .opening, role := .survivor, chans := .const Wh.mch }) Wh.wP, 31, by decide +kernel⟩,
   ⟨Wh.pr (fun p => { p with step := .retraining, role := .survivor, chans := .const Wh.mch }) Wh.wP, by decide +kernel⟩,
   ⟨Wh.pr (fun p => { p with step := .freq }) Wh.wP, by decide +kernel⟩,
   ⟨Wh.pr (fun p => { p with step := .freq }) Wh.wP, by decide +kernel⟩,
   ⟨{ Wh.wP with boot := { Wh.wP.boot with heldStart := true, stage := .coredie } }, by decide +kernel⟩⟩

theorem test_HandbackEndsDoubleStop_met :
    (∃ (s : State) (a : Access),
      a.course < 12 ∧ s.writeOpen a 0x8010 1#32 ∧ (∀ n, n < 32 → (s.chan (32 + n)).downStands = false) ∧ s.pair.step = .doubleStop ∧ s.pair.idSeen = true ∧ s.sec.pairKey.isSome = true) ∧
    (∃ (s : State) (a : Access),
      a.course < 12 ∧ s.running = true ∧ s.pair.step = .draining ∧ s.partnerDrained = true ∧ (∀ n, n < 32 → s.partnerRests n = true)) ∧
    (∃ (s : State) (a : Access) (k : Nat),
      a.course < 12 ∧ s.running = true ∧ s.pair.step = .draining ∧ s.partnerDrained = true ∧ k < 32 ∧ s.partnerRests k = false ∧ s.partnerMay k = true ∧ s.driven (32 + k) = true) ∧
    (∃ (s : State) (a : Access),
      a.course < 12 ∧ s.running = true ∧ s.pair.step = .draining ∧ s.pair.handWait + s.rf RF.MIR_HANDBACK_WAIT ≤ s.now) ∧
    (∃ (s : State) (a : Access),
      a.course < 12 ∧ s.running = true ∧ s.pair.step = .sending ∧ s.pair.sent = [] ∧ s.pair.waiting = []) :=
  ⟨⟨Wh.wDS, aSmp, by decide +kernel, by unfold State.writeOpen; decide +kernel, by decide +kernel⟩,
   ⟨{ (Wh.pr (fun p => { p with step := .draining }) Wh.wDS) with chans := (List.range 32).foldl (fun t n => t.upd (32+n) (fun c => { c with rest := .asleep })) Wh.wDS.chans }, aSmp, by decide +kernel⟩,
   ⟨Wh.pr (fun p => { p with step := .draining }) Wh.wDS, aSmp, 5, by decide +kernel⟩,
   ⟨Wh.pr (fun p => { p with step := .draining }) Wh.wDS, aSmp, by decide +kernel⟩,
   ⟨Wh.pr (fun p => { p with step := .sending }) Wh.wDS, aSmp, by decide +kernel⟩⟩

namespace Wi
def wPg : State := { wUp with trx := { wUp.trx with prog := ⟨none, [(31, some 5), (33, some 5), (32, some 5)]⟩, reqs := [{ aReq 4 1 (.queued 0) with bornAge := 0 }] } }
def er (n : Nat) : EvRec := { aEv n with born := 5, sev := 3 }
def wEv : State := { wUp with evt := { wUp.evt with ring := ⟨none, [(7, some (er 4103)), (8, some (er 4104))]⟩, head := 4104, logReady := true } }
def nolog (s : State) : State := { s with evt := { s.evt with logReady := false } }
def withRec (k : Nat) (s : State) : State := { s with nvm := { s.nvm with mem := (wordsOf (logAddr k) (EvRec.bytes (er 77) 99)).foldl (fun m w => memWriteWord m w.1 w.2) s.nvm.mem } }
def badWord (w : Nat) (s : State) : State := { s with nvm := { s.nvm with badWords := [w] } }
def av (op ch bank : Nat) : Word := BitVec.ofNat 32 (op * 2^28 + ch * 2^23 + bank * 2^17)
def wArg (row col dq : Nat) : State := ((wUp.putForce RF.RPR_ARG_ROW 0 0 row).putForce RF.RPR_ARG_COLUMN 0 0 col).putForce RF.RPR_DQ 0 0 dq
def cmdF (ch : Nat) (s : State) : State := { s with flt := { s.flt with marks := s.flt.marks ++ [⟨.channel, ch, rsnCommand, []⟩] } }
def rm0 : RepairMap := { RepairMap.init with column := [(35, 63, 15), (1, 2, 3)] }
def op0 (st : RepairStage) : RepairOp := ⟨1, 31, 63, 32767, 0, 0, st, false, (List.range 16).map (fun i => if i % 3 = 0 then none else some ⟨BitVec.ofNat 576 i, 7, ⟨4, 5, 6⟩, 1, false, false⟩), 100000 - 40000, false⟩
def wOp (o : RepairOp) : State := { wUp with rpr := { wUp.rpr with op := some o } }
def bi : Bist := ⟨31, 0, 1, 63, 0, false, 5, ⟨1, 2, 3, 4, 5⟩⟩
def lv : Word := BitVec.ofNat 32 (4 * 2^24 + 0x1ffff)
def lo : Loop := ⟨1, 4, 5, .const 0, .const false, .const [], .const 0, 0, .const 0, .const [], .const none⟩
end Wi

theorem test_FencesAndTheFaultPin_met :
    (∃ (s : State) (a : Access) (v : Word) (u : FUnit) (i : Nat),
      a.course < 12 ∧ s.writeOpen a 0x2020 (putBits v 31 28 1) ∧ s.ctlUnit v = some (u, i)) ∧
    (∃ (s : State) (a : Access) (v : Word) (u : FUnit) (i : Nat) (ok : Bool),
      a.course < 12 ∧ s.writeOpen a 0x2020 (putBits v 31 28 2) ∧ s.ctlUnit v = some (u, i) ∧ s.insideFenced u i = false ∧ s.marked u i = true ∧ s.flt.unfencing = [] ∧ (u = .bank ∨ (u = .lpHalf ∧ ok = true))) ∧
    (∃ (s : State) (a : Access) (v : Word) (u : FUnit) (i : Nat),
      a.course < 12 ∧ s.writeOpen a 0x2020 (putBits v 31 28 2) ∧ s.ctlUnit v = some (u, i) ∧ s.insideFenced u i = false ∧ s.marked u i = true ∧ s.flt.unfencing = [] ∧ u = .channel) ∧
    (∃ (s : State) (a : Access) (n : Nat),
      a.course < 12 ∧ s.running = true ∧ s.progDue n = true ∧ n < 32 ∧ s.pair.doubleStop = false) ∧
    (∃ (s : State) (a : Access) (n : Nat),
      a.course < 12 ∧ s.running = true ∧ s.progDue n = true ∧ 32 ≤ n ∧ n < 34) ∧
    (∃ (s : State) (a : Access) (t0 : Nat),
      a.course < 12 ∧ s.running = true ∧ s.flt.pulseEnd = some t0 ∧ t0 ≤ s.now) ∧
    (∃ (s : State) (a : Access) (q : Byte),
      a.course < 12 ∧ s.writeOpen a 0x2018 (BitVec.ofNat 32 (1 + q.toNat * 2 ^ 8))) ∧
    (∃ (s : State) (a : Access) (q : Byte),
      a.course < 12 ∧ s.writeOpen a 0x2018 (BitVec.ofNat 32 (q.toNat * 2 ^ 8)) ∧ q.toNat = s.flt.asserts % 256) ∧
    (∃ (s : State) (a : Access) (q : Byte),
      a.course < 12 ∧ s.writeOpen a 0x2018 (BitVec.ofNat 32 (q.toNat * 2 ^ 8)) ∧ q.toNat ≠ s.flt.asserts % 256) :=
  ⟨⟨wUp, aSmp, (Wm.c15 1 1 127), .sid, 127, by decide +kernel, by unfold State.writeOpen; decide +kernel, by decide +kernel⟩,
   ⟨mk .bank 2047 wUp, aSmp, (Wm.c15 2 2 2047), .bank, 2047, true, by decide +kernel, by unfold State.writeOpen; decide +kernel, by decide +kernel⟩,
   ⟨mk .channel 31 wUp, aSmp, (Wm.c15 2 0 31), .channel, 31, by decide +kernel, by unfold State.writeOpen; decide +kernel, by decide +kernel⟩,
   ⟨{ wUp with trx := { wUp.trx with prog := .const (some 5) }, chans := .const { Chan.init with writes := [⟨1000, 77, 2, 3, 4, 5#512, 1, 0, [7], false, true, false, false, false, false, 1000⟩], reads := [⟨1000, 0, 77, 2, 3, 4, false, false, 0, 0, false⟩], holder := some .rdq } }, aSmp, 31, by decide +kernel⟩,
   ⟨Wi.wPg, aSmp, 32, by decide +kernel⟩,
   ⟨{ wUp with flt := { wUp.flt with pulseEnd := some 100000 } }, aSmp, 100000, by decide +kernel⟩,
   ⟨Wi.wPg, aSmp, 0, by decide +kernel, by unfold State.writeOpen; decide +kernel⟩,
   ⟨Wi.wPg, aSmp, 0, by decide +kernel, by unfold State.writeOpen; decide +kernel, by decide +kernel⟩,
   ⟨{ wUp with flt := { wUp.flt with asserts := 511 } }, aWrap, 254, by decide +kernel, by unfold State.writeOpen; decide +kernel, by decide +kernel⟩⟩

theorem zeroRecord_bad : crcOk (List.replicate 32 0#8) = false := by decide +kernel

/-- A slot of the log whose bytes are all 0 holds no valid record. -/
theorem logOk_of_zero (s : State) (i : Nat) (h : ∀ j, j < 32 → memRead s.nvm.mem (logAddr i + j) = 0#8) : s.logOk i = false := by
  have hm : s.mram (logAddr i) 32 = List.replicate 32 0#8 := by
    unfold State.mram memReadBytes
    refine List.eq_replicate_iff.2 ⟨by simp, fun b hb => ?_⟩
    obtain ⟨j, hj, rfl⟩ := List.mem_map.1 hb
    exact h j (List.mem_range.1 hj)
  unfold State.logOk State.recordOk
  rw [hm, zeroRecord_bad]
  rfl

theorem lookupEnt_beyond {α : Type} (l : List (Nat × α)) (a n x : Nat) (h : (l.all (fun e => decide (a ≤ e.1) && decide (e.1 < a + n))) = true)
    (hx : x < a ∨ a + n ≤ x) : lookupEnt x l = none := by
  induction l with
  | nil => rfl
  | cons e l ih =>
    simp only [List.all_cons, Bool.and_eq_true, decide_eq_true_eq] at h
    simp only [lookupEnt]
    rw [if_neg (by omega), ih h.2]

/-- One record alone, at slot `k`. -/
theorem logOk_one (s : State) (k : Nat) (hk : k < 16384) (hok : s.logOk k = true)
    (hm : (s.nvm.mem.all (fun e => decide (logAddr k ≤ e.1) && decide (e.1 < logAddr k + 32))) = true) (i : Nat) (hi : i < 16384) :
    s.logOk i = decide (i = k) := by
  by_cases h : i = k
  · simp [h, hok]
  · rw [logOk_of_zero s i fun j hj => ?_]
    · simp [h]
    · unfold memRead
      rw [lookupEnt_beyond s.nvm.mem (logAddr k) 32 _ hm (by unfold logAddr; omega)]
      rfl
theorem emptyLog_bad (i : Nat) : (Wi.nolog Wi.wEv).logOk i = false := logOk_of_zero _ i fun _ _ => rfl
theorem oneRec_ok : (Wi.withRec 16383 (Wi.nolog Wi.wEv)).logOk 16383 = true := by decide +kernel
theorem oneRec_only : ((Wi.withRec 16383 (Wi.nolog Wi.wEv)).nvm.mem.all (fun e => decide (logAddr 16383 ≤ e.1) && decide (e.1 < logAddr 16383 + 32))) = true := by decide +kernel

theorem test_EventsAreKept_met :
    (∃ (s : State) (a : Access) (k : Nat) (r : EvRec),
      a.course < 12 ∧ k < 2 ^ 32 ∧ s.writeOpen a 0x3010 (BitVec.ofNat 32 k) ∧ s.evt.ring.get (k % 4096) = some r ∧ r.seq = k ∧ k ≤ s.evt.head) ∧
    (∃ (s : State) (a : Access) (k : Nat),
      a.course < 12 ∧ k < 2 ^ 32 ∧ s.writeOpen a 0x3010 (BitVec.ofNat 32 k) ∧ s.evt.ring.get (k % 4096) = none) ∧
    (∃ (s : State) (a : Access) (k : Nat),
      a.course < 12 ∧ k < 16384 ∧ s.writeOpen a 0x3048 (BitVec.ofNat 32 k) ∧ s.pins.nvmRdy = true ∧
        s.nvmClean (0xb0000 + 32 * k) 32 = true) ∧
    (∃ (s : State) (a : Access) (k : Nat),
      a.course < 12 ∧ k < 16384 ∧ s.writeOpen a 0x3048 (BitVec.ofNat 32 k) ∧ s.pins.nvmRdy = true ∧
        s.nvmClean (0xb0000 + 32 * k) 32 = false) ∧
    (∃ (s : State) (a : Access) (r : EvRec),
      a.course < 12 ∧ s.running = true ∧ s.newest = some r ∧ r.queued = false ∧ s.rf RF.EVT_PERSIST_MIN ≤ r.sev ∧ r.born + s.rf RF.EVT_PERSIST_DELAY ≤ s.now ∧ s.evt.queue.length < 64 ∧ r.code ≠ 0x0205 ∧ s.domOn 7 = true ∧ (s.dom 7).delay = none) ∧
    (∃ (s : State) (a : Access) (r : EvRec) (rest : List EvRec),
      a.course < 12 ∧ s.running = true ∧ s.evt.queue = r :: rest ∧ s.domOn 7 = true ∧ s.pins.nvmRdy = true ∧ s.evt.logReady = true ∧ s.logging = false) ∧
    (∃ (s : State) (a : Access) (r : EvRec) (rest : List EvRec) (w : Nat × BitVec 64),
      a.course < 12 ∧ s.running = true ∧ s.evt.queue = r :: rest ∧ s.domOn 7 = true ∧ s.pins.nvmRdy = true ∧ s.nvm.jobs = [⟨.eventLog r.seq, true, [w]⟩] ∧ s.regs.snapBusy = false) ∧
    (∃ (s : State) (a : Access),
      a.course < 12 ∧ s.running = true ∧ s.boot.stage = .ready ∧ s.evt.logReady = false ∧ s.domOn 7 = true ∧ s.pins.nvmRdy = true ∧ (∀ i, i < 16384 → s.logOk i = false)) ∧
    (∃ (s : State) (a : Access) (k : Nat),
      a.course < 12 ∧ s.running = true ∧ s.boot.stage = .ready ∧ s.evt.logReady = false ∧ s.domOn 7 = true ∧ s.pins.nvmRdy = true ∧ k < 16384 ∧ (∀ i, i < 16384 → s.logOk i = decide (i = k))) ∧
    (∃ (s : State) (a : Access),
      a.course < 12 ∧ s.writeOpen a 0x500c 1#32) :=
  ⟨⟨Wi.wEv, aSmp, 4103, (Wi.er 4103), by decide +kernel, by decide +kernel, by unfold State.writeOpen; decide +kernel, by decide +kernel⟩,
   ⟨Wi.wEv, aSmp, (2^32-1), by decide +kernel, by decide +kernel, by unfold State.writeOpen; decide +kernel, by decide +kernel⟩,
   ⟨Wi.wEv, aSmp, 4103, by decide +kernel, by decide +kernel, by unfold State.writeOpen; decide +kernel, by decide +kernel⟩,
   ⟨Wi.badWord (0x16000 + 4 * 16383 + 3) Wi.wEv, aSmp, 16383, by decide +kernel, by decide +kernel,
     by unfold State.writeOpen; decide +kernel, by decide +kernel⟩,
   ⟨Wi.wEv, aWrap, (Wi.er 4104), by decide +kernel⟩,
   ⟨{ Wi.wEv with evt := { Wi.wEv.evt with queue := [Wi.er 9, Wi.er 10], logSlot := 16383, logSeq := 2^32 - 1 } }, aSmp, (Wi.er 9), [Wi.er 10], by decide +kernel⟩,
   ⟨{ Wi.wEv with evt := { Wi.wEv.evt with queue := [Wi.er 9, Wi.er 10], logSlot := 16383, logSeq := 9 }, nvm := { Wi.wEv.nvm with jobs := [⟨.eventLog 9, true, [(9, 7)]⟩] } }, aSmp, (Wi.er 9), [Wi.er 10], (9, 7), by decide +kernel⟩,
   ⟨Wi.nolog Wi.wEv, aSmp, and_four (by decide +kernel) ⟨by decide +kernel, by decide +kernel, fun i _ => emptyLog_bad i⟩⟩,
   ⟨Wi.withRec 16383 (Wi.nolog Wi.wEv), aSmp, 16383, and_four (by decide +kernel) ⟨by decide +kernel, by decide +kernel, by decide +kernel, fun i hi => logOk_one _ 16383 (by decide) oneRec_ok oneRec_only i hi⟩⟩,
   ⟨Wi.wEv, aSmp, by decide +kernel, by unfold State.writeOpen; decide +kernel⟩⟩

theorem test_EntropyTestsGateTheDrbg_met :
    (∃ (s : State) (n : Nat),
      s.running = true ∧ n < 3 ∧ s.sec.drbgOk = true) ∧
    (∃ (s : State) (t0 : Nat) (pass : Bool) (raw : Option (BitVec 1024)),
      s.running = true ∧ s.sec.retestAt = some t0 ∧ t0 ≤ s.now ∧ (pass && raw.all (fun w => !rctFails w && !aptFails w)) = true) ∧
    (∃ (s : State) (t0 : Nat) (pass : Bool) (raw : Option (BitVec 1024)),
      s.running = true ∧ s.sec.retestAt = some t0 ∧ t0 ≤ s.now ∧ (pass && raw.all (fun w => !rctFails w && !aptFails w)) = false) :=
  ⟨⟨wUp, 2, by decide +kernel⟩,
   ⟨{ wUp with sec := { wUp.sec with drbgOk := false, retestAt := some 100000 } }, 100000, true, none, by decide +kernel⟩,
   ⟨{ wUp with sec := { wUp.sec with drbgOk := false, retestAt := some 100000 } }, 100000, true, (some 0), by decide +kernel⟩⟩

theorem test_RepairsBegin_met :
    (∃ (s : State) (a : Access) (v : Word) (ch bank row col dq : Nat),
      a.course < 12 ∧ s.rpr.op = none ∧ s.pins.nvmRdy = true ∧ fieldNat v 27 23 = ch ∧ fieldNat v 22 17 = bank ∧ s.rf RF.RPR_ARG_ROW = row ∧ s.rf RF.RPR_ARG_COLUMN = col ∧ s.rf RF.RPR_DQ = dq ∧ s.writeOpen a 0x9008 (putBits v 31 28 1) ∧ (s.rmap ch).rowsIn bank < 4 ∧ (s.rmap ch).soft.length < 128) ∧
    (∃ (s : State) (a : Access) (v : Word) (ch bank row col dq : Nat),
      a.course < 12 ∧ s.rpr.op = none ∧ s.pins.nvmRdy = true ∧ fieldNat v 27 23 = ch ∧ fieldNat v 22 17 = bank ∧ s.rf RF.RPR_ARG_ROW = row ∧ s.rf RF.RPR_ARG_COLUMN = col ∧ s.rf RF.RPR_DQ = dq ∧ s.writeOpen a 0x9008 (putBits v 31 28 2) ∧ s.cmdFenced ch = true ∧ (s.rmap ch).rowsIn bank < 4 ∧ (s.rmap ch).hard.length < 128) ∧
    (∃ (s : State) (a : Access) (v : Word) (ch bank row col dq : Nat),
      a.course < 12 ∧ s.rpr.op = none ∧ s.pins.nvmRdy = true ∧ fieldNat v 27 23 = ch ∧ fieldNat v 22 17 = bank ∧ s.rf RF.RPR_ARG_ROW = row ∧ s.rf RF.RPR_ARG_COLUMN = col ∧ s.rf RF.RPR_DQ = dq ∧ s.writeOpen a 0x9008 (putBits v 31 28 3) ∧ dq ≤ 35 ∧ (s.rmap ch).column.length < 64 ∧ (∀ e ∈ (s.rmap ch).column, e.2 ≠ (bank, col))) ∧
    (∃ (s : State) (a : Access) (v : Word) (ch bank row col dq : Nat),
      a.course < 12 ∧ s.rpr.op = none ∧ s.pins.nvmRdy = true ∧ fieldNat v 27 23 = ch ∧ fieldNat v 22 17 = bank ∧ s.rf RF.RPR_ARG_ROW = row ∧ s.rf RF.RPR_ARG_COLUMN = col ∧ s.rf RF.RPR_DQ = dq ∧ s.writeOpen a 0x9008 (putBits v 31 28 4) ∧ (dq, bank, col) ∈ (s.rmap ch).column) :=
  ⟨⟨Wi.wArg 32767 15 35, aSmp, (Wi.av 1 31 63), 31, 63, 32767, 15, 35, and_four (by decide +kernel) (and_four (by decide +kernel) ⟨by unfold State.writeOpen; decide +kernel, by decide +kernel⟩)⟩,
   ⟨Wi.cmdF 31 (Wi.wArg 32767 15 35), aSmp, (Wi.av 2 31 63), 31, 63, 32767, 15, 35, and_four (by decide +kernel) (and_four (by decide +kernel) ⟨by unfold State.writeOpen; decide +kernel, by decide +kernel⟩)⟩,
   ⟨Wi.wArg 32767 15 35, aSmp, (Wi.av 1 31 63), 31, 63, 32767, 15, 35, and_four (by decide +kernel) (and_four (by decide +kernel) ⟨by unfold State.writeOpen; decide +kernel, by decide +kernel⟩)⟩,
   ⟨{ Wi.wArg 0 15 35 with rpr := { (Wi.wArg 0 15 35).rpr with maps := ⟨RepairMap.init, [(31, Wi.rm0)]⟩ } }, aSmp, (Wi.av 4 31 63), 31, 63, 0, 15, 35, and_four (by decide +kernel) (and_four (by decide +kernel) ⟨by unfold State.writeOpen; decide +kernel, by decide +kernel⟩)⟩⟩

theorem test_RepairsGoOnAndEnd_met :
    (∃ (s : State) (o : RepairOp),
      s.running = true ∧ s.rpr.op = some o ∧ o.ch < 32 ∧ o.stage = .waiting ∧ s.spprMay o = true) ∧
    (∃ (s : State) (o : RepairOp),
      s.running = true ∧ s.rpr.op = some o ∧ o.ch < 32 ∧ o.stage = .waiting ∧ o.second = false ∧ o.since + s.rf RF.RPR_REPAIR_WAIT ≤ s.now) ∧
    (∃ (s : State) (o : RepairOp),
      s.running = true ∧ s.rpr.op = some o ∧ o.ch < 32 ∧ o.stage = .sppr) ∧
    (∃ (s : State) (o : RepairOp),
      s.running = true ∧ s.rpr.op = some o ∧ o.ch < 32 ∧ o.stage = .comparing ∧ s.pins.nvmRdy = true) ∧
    (∃ (s : State) (o : RepairOp),
      s.running = true ∧ s.rpr.op = some o ∧ o.ch < 32 ∧ o.stage = .comparing ∧ o.second = false) ∧
    (∃ (s : State) (o : RepairOp),
      s.running = true ∧ s.rpr.op = some o ∧ o.ch < 32 ∧ o.stage = .hppr ∧ o.since + 400000 ≤ s.now ∧ s.pins.nvmRdy = true) ∧
    (∃ (s : State) (o : RepairOp) (words : List (Nat × BitVec 64)),
      s.running = true ∧ s.rpr.op = some o ∧ o.ch < 32 ∧ o.op = 1 ∧ o.stage = .recording ∧ o.bad = false ∧ s.nvm.jobs = [⟨.repairMap o.ch, true, words⟩] ∧ s.pair.role ≠ .paired) ∧
    (∃ (s : State) (o : RepairOp) (words : List (Nat × BitVec 64)),
      s.running = true ∧ s.rpr.op = some o ∧ o.ch < 32 ∧ o.op = 1 ∧ o.stage = .recording ∧ o.bad = false ∧ s.nvm.jobs = [⟨.repairMap o.ch, true, words⟩] ∧ s.pair.role ≠ .paired) :=
  ⟨⟨Wi.wOp { Wi.op0 .waiting with since := 5 }, { Wi.op0 .waiting with since := 5 }, by decide +kernel⟩,
   ⟨Wi.wOp { Wi.op0 .waiting with since := 5 }, { Wi.op0 .waiting with since := 5 }, by decide +kernel⟩,
   ⟨Wm.wOp (Wm.op0 .sppr), (Wm.op0 .sppr), by decide +kernel⟩,
   ⟨Wm.wOp (Wm.op0 .comparing), (Wm.op0 .comparing), by decide +kernel⟩,
   ⟨Wm.wOp (Wm.op0 .comparing), (Wm.op0 .comparing), by decide +kernel⟩,
   ⟨{ Wi.wOp { Wi.op0 .hppr with since := 0, op := 2 } with time := { wUp.time with elapsed := 400000 }, rpr := { (Wi.wOp { Wi.op0 .hppr with since := 0, op := 2 }).rpr with maps := ⟨RepairMap.init, [(31, { RepairMap.init with hard := [(63, 32767, true), (63, 5, true)], soft := [(63, 32767), (1, 2)] })]⟩ } }, { Wi.op0 .hppr with since := 0, op := 2 }, by decide +kernel⟩,
   ⟨{ Wi.wOp (Wi.op0 .recording) with nvm := { wUp.nvm with jobs := [⟨.repairMap 31, true, [(9, 7#64)]⟩] } }, (Wi.op0 .recording), [(9, 7#64)], by decide +kernel⟩,
   ⟨{ Wi.wOp (Wi.op0 .recording) with nvm := { wUp.nvm with jobs := [⟨.repairMap 31, true, [(9, 7#64)]⟩] } }, (Wi.op0 .recording), [(9, 7#64)], by decide +kernel⟩⟩

theorem test_BuiltInTestRuns_met :
    (∃ (s : State) (a : Access) (v : Word),
      a.course < 12 ∧ s.writeOpen a 0x9020 (putBits v 31 28 1) ∧ s.rpr.bist = none ∧ s.cmdFenced (fieldNat v 21 17) = true ∧ fieldNat v 27 24 ≤ 1 ∧ fieldNat v 23 22 ≤ 2 ∧ fieldNat v 10 8 ≤ 4) ∧
    (∃ (s : State) (a : Access) (b : Bist),
      a.course < 12 ∧ s.writeOpen a 0x9020 (BitVec.ofNat 32 (2 * 2 ^ 28)) ∧ s.rpr.bist = some b) ∧
    (∃ (s : State) (a : Access) (b : Bist) (res : BistResult),
      a.course < 12 ∧ s.running = true ∧ s.rpr.bist = some b ∧ b.abort = false ∧ res.wellFormed = true) :=
  ⟨⟨Wi.cmdF 31 wUp, aSmp, (BitVec.ofNat 32 (1 * 2^24 + 2 * 2^22 + 31 * 2^17 + 63 * 2^11 + 4 * 2^8)), by decide +kernel, by unfold State.writeOpen; decide +kernel, by decide +kernel⟩,
   ⟨{ Wi.cmdF 31 wUp with rpr := { wUp.rpr with bist := some Wi.bi } }, aWrap, Wi.bi, by decide +kernel, by unfold State.writeOpen; decide +kernel, by decide +kernel⟩,
   ⟨{ Wi.cmdF 31 wUp with rpr := { wUp.rpr with bist := some Wi.bi } }, aWrap, Wi.bi, ⟨5, 63, 32767, 15, 2^36-1⟩, by decide +kernel⟩⟩

theorem test_LoopbacksStartAndEnd_met :
    (∃ (s : State) (a : Access) (v : Word),
      a.course < 12 ∧ fieldNat v 27 24 < 12 ∧ s.loopable (fieldNat v 27 24) = true ∧ s.rpr.loop = none ∧ s.writeOpen a 0x9040 (putBits v 31 30 1)) ∧
    (∃ (s : State) (a : Access) (v : Word),
      a.course < 12 ∧ fieldNat v 27 24 < 12 ∧ s.loopable (fieldNat v 27 24) = true ∧ s.rpr.loop = none ∧ s.writeOpen a 0x9040 (putBits v 31 30 2)) ∧
    (∃ (s : State) (a : Access) (v : Word),
      a.course < 12 ∧ fieldNat v 27 24 < 12 ∧ s.loopable (fieldNat v 27 24) = true ∧ s.rpr.loop = none ∧ s.writeOpen a 0x9040 (putBits v 31 30 3)) ∧
    (∃ (s : State) (a : Access) (x : Loop),
      a.course < 12 ∧ s.writeOpen a 0x9040 0#32 ∧ s.rpr.loop = some x) :=
  ⟨⟨wUp, aSmp, Wi.lv, and_four (by decide +kernel) (by unfold State.writeOpen; decide +kernel)⟩,
   ⟨wUp, aSmp, Wi.lv, and_four (by decide +kernel) (by unfold State.writeOpen; decide +kernel)⟩,
   ⟨wUp, aSmp, Wi.lv, and_four (by decide +kernel) (by unfold State.writeOpen; decide +kernel)⟩,
   ⟨{ wUp with rpr := { wUp.rpr with loop := some Wi.lo } }, aSmp, Wi.lo, by decide +kernel, by unfold State.writeOpen; decide +kernel, by decide +kernel⟩⟩

namespace Wj
def cmr (w : Bool) (off : Nat) (v : Nat) : BitVec 56 := BitVec.ofNat 56 ((if w then 2^55 else 0) + off / 4 * 2^36 + v)
def up (f : UpdSt → UpdSt) (s : State) : State := { s with upd := f s.upd }
def d4k : List Byte := List.replicate 4096 7
def dg : List Byte := List.replicate 48 9
def wUpd (f : UpdSt → UpdSt) : State := up f wUp
def wProb : State := { wUp with boot := { wUp.boot with brec := { wUp.boot.brec with pending := true, unconfirmed := 3, activeSlot := 0 }, running := 0, digest := digestOf dg }, upd := { wUp.upd with probFrom := some 5, testing := true } }
end Wj

theorem test_WrapperInstructions_met :
    (∃ (s : State),
      s.pins.pwrGood = true) :=
  ⟨wUp, by decide +kernel⟩

theorem test_ServiceOpens_met :
    (∃ (s : State) (len : Nat),
      s.serviceOpen ∧ s.upd.stage0.st ≠ 3 ∧ s.onProbation = false ∧ 4096 ≤ len ∧ len ≤ 3141632) :=
  ⟨wUp, 4096, by unfold State.serviceOpen; decide +kernel, by decide +kernel⟩

theorem test_ServiceRefusesOpens_met :
    (∃ (s : State) (len : Nat),
      s.serviceOpen ∧ len < 2 ^ 32 ∧ s.upd.stage0.st = 3) ∧
    (∃ (s : State) (len : Nat),
      s.serviceOpen ∧ len < 2 ^ 32 ∧ s.upd.stage0.st ≠ 3 ∧ s.onProbation = true ∧ s.recovery = false) ∧
    (∃ (s : State) (len : Nat),
      s.serviceOpen ∧ len < 2 ^ 32 ∧ s.upd.stage0.st ≠ 3 ∧ s.onProbation = false ∧ (len < 4096 ∨ 3141632 < len)) :=
  ⟨⟨Wj.up (fun u => { u with stage0 := ⟨3, 3, 5000, 3, 0⟩ }) wUp, 5000, by unfold State.serviceOpen; decide +kernel, by decide +kernel⟩,
   ⟨{ wUp with boot := { wUp.boot with brec := { wUp.boot.brec with pending := true, activeSlot := 0 }, running := 0 } }, 5000, by unfold State.serviceOpen; decide +kernel, by decide +kernel⟩,
   ⟨wUp, 4095, by unfold State.serviceOpen; decide +kernel, by decide +kernel⟩⟩

theorem word_ne_succ (x : Word) : x + 1#32 ≠ x := by bv_omega

theorem test_ServiceTakesBlocks_met :
    (∃ (s : State) (n : Nat) (data : List Byte) (crc : Word),
      s.serviceOpen ∧ n < 65536 ∧ data.length = 4096 ∧ s.upd.stage0.st = 1 ∧ n < blocksOf s.upd.stage0.length ∧ crc = crc32c (leBytes 2 n ++ data)) ∧
    (∃ (s : State) (n : Nat) (data : List Byte) (crc : Word),
      s.serviceOpen ∧ n < 65536 ∧ data.length = 4096 ∧ s.upd.stage0.st = 1 ∧ crc ≠ crc32c (leBytes 2 n ++ data)) ∧
    (∃ (s : State) (n : Nat) (data : List Byte) (crc : Word),
      s.serviceOpen ∧ n < 65536 ∧ data.length = 4096 ∧ s.upd.stage0.st = 1 ∧ crc = crc32c (leBytes 2 n ++ data) ∧ blocksOf s.upd.stage0.length ≤ n) ∧
    (∃ (s : State) (n : Nat) (data : List Byte),
      s.serviceOpen ∧ n < 65536 ∧ data.length = 4096 ∧ s.upd.stage0.st ≠ 1) :=
  ⟨⟨Wj.up (fun u => { u with stage0 := ⟨3, 1, 5000, 1, 0⟩ }) wUp, 1, Wj.d4k, (crc32c (leBytes 2 1 ++ Wj.d4k)), by unfold State.serviceOpen; decide +kernel, and_four (by decide +kernel) (rfl)⟩,
   ⟨Wj.up (fun u => { u with stage0 := ⟨3, 1, 5000, 1, 0⟩ }) wUp, 1, Wj.d4k, (crc32c (leBytes 2 1 ++ Wj.d4k) + 1#32), by unfold State.serviceOpen; decide +kernel, by decide +kernel, by decide +kernel, by decide +kernel, word_ne_succ _⟩,
   ⟨Wj.up (fun u => { u with stage0 := ⟨3, 1, 5000, 1, 0⟩ }) wUp, 2, Wj.d4k, (crc32c (leBytes 2 2 ++ Wj.d4k)), by unfold State.serviceOpen; decide +kernel, by decide +kernel, by decide +kernel, by decide +kernel, rfl, by decide +kernel⟩,
   ⟨wUp, 1, Wj.d4k, by unfold State.serviceOpen; decide +kernel, by decide +kernel⟩⟩

theorem test_ServiceVerifies_met :
    (∃ (s : State),
      s.serviceOpen ∧ (s.upd.stage0.st = 2 ∨ s.upd.stage0.st = 6)) ∧
    (∃ (s : State),
      s.serviceOpen ∧ s.upd.stage0.st ≠ 2 ∧ s.upd.stage0.st ≠ 6) :=
  ⟨⟨Wj.up (fun u => { u with stage0 := ⟨2^32-1, 2, 5000, 3, 0⟩ }) wUp, by unfold State.serviceOpen; decide +kernel, by decide +kernel⟩,
   ⟨wUp, by unfold State.serviceOpen; decide +kernel, by decide +kernel⟩⟩

theorem test_VerificationEnds_met :
    (∃ (s : State),
      s.serviceOpen ∧ s.upd.stage0.st = 3) :=
  ⟨Wj.up (fun u => { u with stage0 := ⟨3, 3, 5000, 3, 0⟩ }) wUp, by unfold State.serviceOpen; decide +kernel, by decide +kernel⟩

theorem test_ServiceAborts_met :
    (∃ (s : State),
      s.serviceOpen ∧ s.upd.stage0.st ≠ 3) ∧
    (∃ (s : State),
      s.serviceOpen ∧ s.upd.stage0.st = 3) :=
  ⟨⟨wUp, by unfold State.serviceOpen; decide +kernel, by decide +kernel⟩,
   ⟨Wj.up (fun u => { u with stage0 := ⟨3, 3, 5000, 3, 0⟩ }) wUp, by unfold State.serviceOpen; decide +kernel, by decide +kernel⟩⟩

theorem test_ServiceReadsBitmaps_met :
    (∃ (s : State),
      s.serviceOpen) :=
  ⟨wUp, by unfold State.serviceOpen; decide +kernel⟩

theorem test_UpdatesActivateAndConfirm_met :
    (∃ (s : State) (digest : List Byte),
      s.serviceOpen ∧ s.upd.stage0.st = 4 ∧ digest.length = 48 ∧ digestOf digest = s.upd.stage0.digest ∧ (s.pins.instId = false ∨ s.recovery = true)) ∧
    (∃ (s : State) (digest : List Byte),
      s.running = true ∧ s.upd.stage0.st = 5 ∧ s.ready = true ∧ s.pair.peerDigest = some s.upd.stage0.digest ∧ s.upd.busy = false ∧ s.pins.nvmRdy = true) ∧
    (∃ (s : State),
      s.serviceOpen ∧ s.upd.stage0.st ≠ 3 ∧ s.trx.reqs = []) ∧
    (∃ (s : State) (t0 : Nat),
      s.running = true ∧ s.upd.probFrom = some t0 ∧ s.onProbation = true ∧ s.upd.probEnd = false ∧ t0 + 2000000 * s.rf RF.UPD_PROB_WINDOW ≤ s.now ∧ s.upd.restartAt = none ∧ s.trx.reqs = []) ∧
    (∃ (s : State) (env : BootEnv) (t0 : Nat),
      s.running = true ∧ env.wellFormed = true ∧ s.upd.restartAt = some t0 ∧ t0 ≤ s.now ∧ s.pins.nvmRdy = false ∧ env.romOk = true ∧ env.fuseOk = true ∧ env.entropyOk = true ∧ env.deadDomain = []) ∧
    (∃ (s : State) (digest : List Byte),
      s.upd.probEnd = false ∧ s.onProbation = true ∧ s.pairAgrees 0 = true ∧ s.serviceOpen ∧ s.recovery = false ∧ digest.length = 48 ∧ digestOf digest = s.boot.digest) ∧
    (∃ (s : State) (a : Access) (digest : List Byte),
      s.upd.probEnd = false ∧ s.onProbation = true ∧ s.pairAgrees 0 = true ∧ a.course < 12 ∧ s.writeOpen a 0x4018 (s.boot.digest.setWidth 32) ∧ s.upd.restartAt = none) ∧
    (∃ (s : State),
      s.running = true ∧ s.upd.testing = true ∧ s.rfb RF.UPD_AUTO_CONFIRM = false) :=
  ⟨⟨Wj.wUpd (fun u => { u with stage0 := ⟨3, 4, 5000, 3, digestOf Wj.dg⟩ }), Wj.dg, by unfold State.serviceOpen; decide +kernel, by decide +kernel⟩,
   ⟨Wj.wUpd (fun u => { u with stage0 := ⟨3, 5, 5000, 3, 0⟩ }) |> fun s => { s with pair := { s.pair with peerDigest := some 0 } }, Wj.dg, by decide +kernel⟩,
   ⟨Wj.wUpd (fun u => { u with stage0 := ⟨3, 4, 5000, 3, digestOf Wj.dg⟩ }), by unfold State.serviceOpen; decide +kernel, by decide +kernel⟩,
   ⟨{ Wj.wProb with time := { Wj.wProb.time with elapsed := 2000000 * 70000 } }, 5, by decide +kernel⟩,
   ⟨{ Wj.wUpd (fun u => { u with restartAt := some 100000 }) with pins := { wUp.pins with nvmRdy := false } }, ⟨true, true, true, true, [], [], [], [], [], true, true⟩, 100000, by decide +kernel⟩,
   ⟨{ Wj.wProb with time := { Wj.wProb.time with elapsed := 2000000 * 70000 } }, Wj.dg, by decide +kernel, by decide +kernel, by decide +kernel, by unfold State.serviceOpen; decide +kernel, by decide +kernel⟩,
   ⟨{ Wj.wProb with time := { Wj.wProb.time with elapsed := 2000000 * 70000 } }, aSmp, Wj.dg, and_four (by decide +kernel) ⟨by unfold State.writeOpen; decide +kernel, by decide +kernel⟩⟩,
   ⟨Wm.noAuto, by decide +kernel⟩⟩

theorem test_ReadsBelowTheWriteLevelClearNothing_met :
    (∃ (s : State) (a : Access) (off n x i : Nat) (p : Page) (f : Field),
      s.running = true ∧ regKind (4 * off) = .reg p n x false ∧ (f, i) ∈ fieldsOfWord p x ∧ f.acc = .rc ∧ a.course < 12 ∧ a.path ≠ .wrapper ∧ off < 524288 ∧ s.closedTo a.path (4 * off) = false ∧ s.pathWaits (pathNum a.path) = false ∧ s.domOn (s.wordDomain (pathNum a.path) (4 * off)) = true ∧ (s.dom (s.wordDomain (pathNum a.path) (4 * off))).delay = none ∧ s.readLevel f ≤ s.accessLevel a ∧ s.accessLevel a < s.writeLevel f) ∧
    (∃ (s : State) (off n x i : Nat) (p : Page) (f : Field) (c k : Nat) (h : Cell),
      s.running = true ∧ regKind (4 * off) = .reg p n x false ∧ (f, i) ∈ fieldsOfWord p x ∧ f.acc = .rc ∧ s.reqArrives c k h ∧ s.routerOpen (hRqid h) ∧ s.pathWaits 0 = false ∧ hOp h = 0x10 ∧ hOffset h = off ∧ s.domOn (s.wordDomain 0 (4 * off)) = true ∧ s.readLevel f ≤ s.accessLevel ⟨.link, c, hPriv h, hSecure h⟩ ∧ s.accessLevel ⟨.link, c, hPriv h, hSecure h⟩ < s.writeLevel f) ∧
    (∃ (s : State) (off n x i : Nat) (p : Page) (f : Field) (data : BitVec 56),
      s.running = true ∧ regKind (4 * off) = .reg p n x false ∧ (f, i) ∈ fieldsOfWord p x ∧ f.acc = .rc ∧ s.pins.wrstN = true ∧ s.rpr.cmBusy = false ∧ s.pathWaits (pathNum .wrapper) = false ∧ fieldNat data 54 36 = off ∧ bitAt data 55 = false ∧ s.domOn (s.wordDomain (pathNum .wrapper) (4 * off)) = true ∧ (s.dom (s.wordDomain (pathNum .wrapper) (4 * off))).delay = none ∧ s.readLevel f ≤ s.accessLevel ⟨.wrapper, 0, false, false⟩ ∧ s.accessLevel ⟨.wrapper, 0, false, false⟩ < s.writeLevel f) :=
  ⟨⟨Wm.wLow, Wm.aOpen, 2050, 0, 8, 0, .flt, RF.FLT_CH_FENCED, by decide +kernel⟩,
   ⟨Wm.wLow, 2050, 0, 8, 0, .flt, RF.FLT_CH_FENCED, 3, 0, (Wm.hd 0x10 9 2050 0), and_four (by decide +kernel) ⟨by unfold State.reqArrives; decide +kernel, ⟨by decide +kernel, by decide +kernel, by decide +kernel, by decide +kernel, fun x hx => absurd (show x ∈ ([] : List Req) from hx) List.not_mem_nil⟩, by decide +kernel⟩⟩,
   ⟨Wm.wLow, 2050, 0, 8, 0, .flt, RF.FLT_CH_FENCED, (BitVec.ofNat 56 (2050 * 2^36)), by decide +kernel⟩⟩

theorem test_LaneDataNeedsItsWordValid_met :
    (∃ (s : State) (c l : Nat),
      s.running = true ∧ c < 12 ∧ l < 17 ∧ (s.lane c l).rxv = false ∧ (s.rpr.loop = none ∨ s.rpr.loop.map (fun x => x.mode) = some 3)) ∧
    (∃ (s : State) (c l : Nat),
      s.running = true ∧ c < 12 ∧ l < 17 ∧ (s.lane c l).rxv = false) ∧
    (∃ (s : State) (c l : Nat),
      s.running = true ∧ c < 12 ∧ l < 17 ∧ (s.lane c l).rxv = false) :=
  ⟨⟨{ wUp with link := { wUp.link with lanes := .const Lane.init } }, 3, 16, by decide +kernel⟩,
   ⟨{ wUp with link := { wUp.link with lanes := .const Lane.init } }, 3, 16, by decide +kernel⟩,
   ⟨{ wUp with link := { wUp.link with lanes := .const Lane.init } }, 3, 16, by decide +kernel⟩⟩

theorem test_CheckerFailureIsRecorded_met :
    (∃ (s : State),
      s.running = true ∧ s.pwr.checkerBad = false) ∧
    (∃ (s : State),
      s.running = true ∧ s.pwr.checkerBad = true ∧ s.pwr.onChecker = false) :=
  ⟨⟨wUp, by decide +kernel⟩,
   ⟨{ wUp with pwr := { wUp.pwr with checkerBad := true } }, by decide +kernel⟩⟩

end Sys2Proof.Tests
end

section
/-! PROOFS. The CRC-32C register, read in the order in which R130 reflects it, holds the message reduced by the Castagnoli
polynomial: one turn of `crcBit` doubles the polynomial it codes, up to a multiple of 0x1_1edc_6f41. -/

namespace Sys2Proof.Machine

/-! ### Bits of numbers -/

theorem xor_mul_two_pow (a b n : Nat) : (a ^^^ b) * 2 ^ n = a * 2 ^ n ^^^ b * 2 ^ n := by
  simpa only [Nat.shiftLeft_eq] using Nat.shiftLeft_xor_distrib (i := n) (a := a) (b := b)

/-- A sum without carries is an exclusive or. -/
theorem two_pow_mul_add_eq_xor {n b : Nat} (hb : b < 2 ^ n) (a : Nat) : 2 ^ n * a + b = a * 2 ^ n ^^^ b := by
  refine Nat.eq_of_testBit_eq fun i => ?_
  rw [Nat.testBit_two_pow_mul_add a hb, Nat.testBit_xor, Nat.testBit_mul_two_pow]
  by_cases hi : i < n
  · simp [hi, not_le.mpr hi]
  · have hbi : b.testBit i = false := Nat.testBit_lt_two_pow (hb.trans_le (Nat.pow_le_pow_right two_pos (not_lt.mp hi)))
    simp [hi, hbi, not_lt.mp hi]

/-! ### The reflection -/

@[simp] theorem bitsReversed_zero (v : Nat) : bitsReversed 0 v = 0 := rfl

theorem bitsReversed_succ (n v : Nat) : bitsReversed (n + 1) v = 2 * bitsReversed n v + v / 2 ^ n % 2 := by
  simp [bitsReversed, List.range_succ]

theorem bitsReversed_lt (n v : Nat) : bitsReversed n v < 2 ^ n := by
  induction n with
  | zero => simp
  | succ n ih => rw [bitsReversed_succ]; omega

/-- Reflected in a wider register, a number moves to the register's high end. -/
theorem bitsReversed_add {m v : Nat} (hv : v < 2 ^ m) (k : Nat) : bitsReversed (m + k) v = bitsReversed m v * 2 ^ k := by
  induction k with
  | zero => simp
  | succ k ih =>
    have hbit : v / 2 ^ (m + k) = 0 := Nat.div_eq_of_lt (hv.trans_le (Nat.pow_le_pow_right two_pos (Nat.le_add_right m k)))
    rw [← Nat.add_assoc, bitsReversed_succ, ih, hbit]
    ring

/-- The lowest bit of a number is the highest of its reflection. -/
theorem bitsReversed_succ_half (n v : Nat) : bitsReversed (n + 1) v = v % 2 * 2 ^ n ^^^ bitsReversed n (v / 2) := by
  rw [← two_pow_mul_add_eq_xor (bitsReversed_lt n _)]
  induction n with
  | zero => simp [bitsReversed_succ]
  | succ n ih =>
    rw [bitsReversed_succ, ih, bitsReversed_succ n (v / 2), Nat.div_div_eq_div_mul, ← pow_succ']
    ring

theorem bitsReversed_xor (n a b : Nat) : bitsReversed n (a ^^^ b) = bitsReversed n a ^^^ bitsReversed n b := by
  induction n generalizing a b with
  | zero => simp
  | succ n ih =>
    have hparity : (a ^^^ b) % 2 = a % 2 ^^^ b % 2 := Nat.xor_mod_two_pow (n := 1)
    have hhalf : (a ^^^ b) / 2 = a / 2 ^^^ b / 2 := Nat.xor_div_two
    simp only [bitsReversed_succ_half, hparity, hhalf, ih, xor_mul_two_pow]
    ac_rfl

/-! ### The carry-less product -/

/-- The product of `g` by the lowest `n` bits of `q`. -/
def clMulLow (n q g : Nat) : Nat := (List.range n).foldl (fun x i => if q.testBit i then x ^^^ g * 2 ^ i else x) 0

@[simp] theorem clMulLow_zero (q g : Nat) : clMulLow 0 q g = 0 := rfl

theorem clMulLow_succ (n q g : Nat) :
    clMulLow (n + 1) q g = clMulLow n q g ^^^ if q.testBit n then g * 2 ^ n else 0 := by
  simp only [clMulLow, List.range_succ, List.foldl_append, List.foldl_cons, List.foldl_nil]
  split <;> simp

/-- Bits beyond the highest set bit of the multiplier add nothing to the product. -/
theorem clMul_eq_clMulLow {n q : Nat} (g : Nat) (hq : q.log2 < n) : clMul q g = clMulLow n q g := by
  induction n, hq using Nat.le_induction with
  | base => rfl
  | succ n hn ih => simp [clMulLow_succ, ih, Nat.testBit_lt_two_pow (Nat.lt_log2_self.trans_le (Nat.pow_le_pow_right two_pos hn))]

theorem clMulLow_xor (n a b g : Nat) : clMulLow n (a ^^^ b) g = clMulLow n a g ^^^ clMulLow n b g := by
  induction n with
  | zero => simp
  | succ n ih =>
    have hbit : (if (a ^^^ b).testBit n then g * 2 ^ n else 0) =
        (if a.testBit n then g * 2 ^ n else 0) ^^^ if b.testBit n then g * 2 ^ n else 0 := by
      rw [Nat.testBit_xor]
      cases a.testBit n <;> cases b.testBit n <;> simp
    rw [clMulLow_succ, clMulLow_succ, clMulLow_succ, ih, hbit]
    ac_rfl

theorem clMulLow_mul_two (n q g : Nat) : clMulLow (n + 1) (q * 2) g = clMulLow n q g * 2 := by
  induction n with
  | zero => simp [clMulLow_succ]
  | succ n ih =>
    have hbit : (q * 2).testBit (n + 1) = q.testBit n := by simp [Nat.testBit_add_one]
    have hdistrib := xor_mul_two_pow (clMulLow n q g) (if q.testBit n then g * 2 ^ n else 0) 1
    rw [pow_one] at hdistrib
    rw [clMulLow_succ, ih, clMulLow_succ, hdistrib, hbit, ite_mul, Nat.zero_mul, Nat.mul_assoc, ← pow_succ]

theorem clMul_xor (a b g : Nat) : clMul (a ^^^ b) g = clMul a g ^^^ clMul b g := by
  let n := (a ^^^ b).log2 + a.log2 + b.log2 + 1
  rw [clMul_eq_clMulLow (n := n) g (by omega), clMul_eq_clMulLow (n := n) g (by omega),
    clMul_eq_clMulLow (n := n) g (by omega), clMulLow_xor]

theorem clMul_mul_two (q g : Nat) : clMul (q * 2) g = clMul q g * 2 := by
  let n := (q * 2).log2 + q.log2 + 1
  rw [clMul_eq_clMulLow (n := n + 1) g (by omega), clMul_eq_clMulLow (n := n) g (by omega), clMulLow_mul_two]

/-! ### Congruence modulo the Castagnoli polynomial -/

/-- Two polynomials over GF(2) differ by a multiple of the Castagnoli polynomial (R130). -/
def CastagnoliCongr (a b : Nat) : Prop := ∃ q, clMul q 0x11edc6f41 = a ^^^ b

namespace CastagnoliCongr

theorem refl (a : Nat) : CastagnoliCongr a a := ⟨0, by simp [clMul]⟩

theorem symm {a b : Nat} : CastagnoliCongr a b → CastagnoliCongr b a
  | ⟨q, hq⟩ => ⟨q, by rw [hq, Nat.xor_comm]⟩

theorem xor {a b c d : Nat} : CastagnoliCongr a b → CastagnoliCongr c d → CastagnoliCongr (a ^^^ c) (b ^^^ d)
  | ⟨p, hp⟩, ⟨q, hq⟩ => ⟨p ^^^ q, by rw [clMul_xor, hp, hq]; ac_rfl⟩

theorem trans {a b c : Nat} : CastagnoliCongr a b → CastagnoliCongr b c → CastagnoliCongr a c
  | ⟨p, hp⟩, ⟨q, hq⟩ => ⟨p ^^^ q, by rw [clMul_xor, hp, hq, Nat.xor_assoc, Nat.xor_xor_cancel_left]⟩

theorem mul_two {a b : Nat} : CastagnoliCongr a b → CastagnoliCongr (a * 2) (b * 2)
  | ⟨q, hq⟩ => ⟨q * 2, by rw [clMul_mul_two, hq]; exact xor_mul_two_pow a b 1⟩

theorem mul_two_pow {a b : Nat} (h : CastagnoliCongr a b) : ∀ n, CastagnoliCongr (a * 2 ^ n) (b * 2 ^ n)
  | 0 => by simpa using h
  | n + 1 => by simpa only [pow_succ, ← Nat.mul_assoc] using (h.mul_two_pow n).mul_two

theorem xor_polynomial (a : Nat) : CastagnoliCongr (a ^^^ 0x11edc6f41) a := ⟨1, by
  rw [Nat.xor_comm a, Nat.xor_assoc, Nat.xor_self]; rfl⟩

end CastagnoliCongr

/-! ### The register -/

/-- The polynomial that the register codes, its lowest bit the highest coefficient. -/
def crcPoly (r : BitVec 32) : Nat := bitsReversed 32 r.toNat

theorem crcPoly_xor (a b : BitVec 32) : crcPoly (a ^^^ b) = crcPoly a ^^^ crcPoly b := by
  rw [crcPoly, BitVec.toNat_xor, bitsReversed_xor]; rfl

theorem crcPoly_setWidth (b : Byte) : crcPoly (b.setWidth 32) = bitsReversed 8 b.toNat * 2 ^ 24 := by
  rw [crcPoly, BitVec.toNat_setWidth_of_le (by decide), bitsReversed_add b.isLt 24]

/-- A shift of the register doubles its polynomial and drops the coefficient of 2^32. -/
theorem crcPoly_ushiftRight (r : BitVec 32) :
    crcPoly (r >>> 1) = crcPoly r * 2 ^^^ if r.getLsbD 0 then 2 ^ 32 else 0 := by
  have hdouble : crcPoly r * 2 = r.toNat % 2 * 2 ^ 32 ^^^ crcPoly (r >>> 1) := by
    have htop : r.toNat / 2 ^ 32 = 0 := Nat.div_eq_of_lt r.isLt
    have h := bitsReversed_succ_half 32 r.toNat
    rw [bitsReversed_succ, htop] at h
    simpa [crcPoly, Nat.mul_comm, Nat.shiftRight_succ] using h
  have hlow : (if r.getLsbD 0 then 2 ^ 32 else 0) = r.toNat % 2 * 2 ^ 32 := by
    obtain h | h := Nat.mod_two_eq_zero_or_one r.toNat <;> simp [BitVec.getLsbD, h]
  rw [hdouble, hlow, Nat.xor_comm, Nat.xor_xor_cancel_left]

/-- The feedback word 0x82f6_3b78 is the polynomial without its highest term. -/
theorem crcPoly_feedback : 2 ^ 32 ^^^ crcPoly 0x82f63b78#32 = 0x11edc6f41 := by decide

theorem crcPoly_crcBit (r : BitVec 32) : CastagnoliCongr (crcPoly (crcBit r)) (crcPoly r * 2) := by
  unfold crcBit
  split
  next h =>
    rw [crcPoly_xor, crcPoly_ushiftRight, if_pos h, Nat.xor_assoc, crcPoly_feedback]
    exact .xor_polynomial _
  next h =>
    rw [crcPoly_ushiftRight, if_neg h, Nat.xor_zero]
    exact .refl _

theorem crcPoly_iterate_crcBit (r : BitVec 32) : ∀ n, CastagnoliCongr (crcPoly (crcBit^[n] r)) (crcPoly r * 2 ^ n)
  | 0 => by simpa using CastagnoliCongr.refl _
  | n + 1 => by
    rw [Function.iterate_succ_apply', pow_succ, ← Nat.mul_assoc]
    exact (crcPoly_crcBit _).trans (crcPoly_iterate_crcBit r n).mul_two

/-- One byte enters at the register's low end, and its eight bits are divided out (R130). -/
theorem crcPoly_crcByte (r : BitVec 32) (b : Byte) :
    CastagnoliCongr (crcPoly (crcByte r b)) (crcPoly r * 2 ^ 8 ^^^ bitsReversed 8 b.toNat * 2 ^ 32) := by
  have h := crcPoly_iterate_crcBit (r ^^^ b.setWidth 32) 8
  rw [crcPoly_xor, crcPoly_setWidth, xor_mul_two_pow, Nat.mul_assoc _ (2 ^ 24), ← pow_add] at h
  exact h

/-! ### The check word -/

theorem bitsOfMessage_concat (l : List Byte) (b : Byte) :
    bitsOfMessage (l ++ [b]) = bitsOfMessage l * 2 ^ 8 ^^^ bitsReversed 8 b.toNat := by
  rw [← two_pow_mul_add_eq_xor (bitsReversed_lt 8 _)]
  simp [bitsOfMessage]

/-- The dividend of R130: the message before 32 zero bits, with the register's preset on its first 32 bits. -/
def crcDividend (l : List Byte) : Nat := bitsOfMessage l * 2 ^ 32 ^^^ 0xffffffff * 2 ^ (8 * l.length)

theorem crcDividend_concat (l : List Byte) (b : Byte) :
    crcDividend (l ++ [b]) = crcDividend l * 2 ^ 8 ^^^ bitsReversed 8 b.toNat * 2 ^ 32 := by
  simp only [crcDividend, bitsOfMessage_concat, xor_mul_two_pow, List.length_append, List.length_singleton, Nat.mul_add, pow_add]
  ac_rfl

/-- After every byte the register holds the remainder of the bytes so far. -/
theorem crcDividend_congr_register (l : List Byte) :
    CastagnoliCongr (crcDividend l) (crcPoly (l.foldl crcByte 0xffffffff#32)) := by
  induction l using List.reverseRecOn with
  | nil => exact .refl _
  | append_singleton l b ih =>
    rw [crcDividend_concat, List.foldl_append]
    exact ((ih.mul_two_pow 8).xor (.refl _)).trans (crcPoly_crcByte _ b).symm

theorem crc32c_xor_ones (l : List Byte) : crc32c l ^^^ 0xffffffff#32 = l.foldl crcByte 0xffffffff#32 := by
  rw [crc32c, BitVec.xor_assoc, BitVec.xor_self, BitVec.xor_zero]

/-- Settles O56: the register holds the remainder after every byte, and the check value is computed. -/
theorem crcIsTheCastagnoliRemainder : Obligations.CrcIsTheCastagnoliRemainder := by
  refine ⟨fun l => ?_, by decide +kernel⟩
  rw [crc32c_xor_ones]
  exact crcDividend_congr_register l

end Sys2Proof.Machine
end

section
/-! PROOFS. The header cells of the responses (R163, R164) as numbers: a cell is the sum of its fields, each in its place, and a
bit or field of WACK is read off its sum. -/

namespace Sys2Proof.Machine

/-! ### A cell as the sum of its fields -/

/-- The sum that `cellOf` keeps modulo the cell's width. -/
def fieldSum (l : List (Nat × Nat × Nat)) : Nat := (l.map fun f => f.2.2 % 2 ^ f.2.1 * 2 ^ f.1).sum

@[simp] theorem fieldSum_nil : fieldSum [] = 0 := rfl

@[simp] theorem fieldSum_cons (lo w v : Nat) (l : List (Nat × Nat × Nat)) :
    fieldSum ((lo, w, v) :: l) = v % 2 ^ w * 2 ^ lo + fieldSum l := by
  rw [fieldSum, List.map_cons, List.sum_cons, fieldSum]

theorem cellOf_eq_ofNat (l : List (Nat × Nat × Nat)) : cellOf l = BitVec.ofNat 128 (fieldSum l) := by
  rw [cellOf, fieldSum, List.sum_eq_foldl, List.foldl_map]

theorem cellOf_cons (lo w v : Nat) (l : List (Nat × Nat × Nat)) :
    cellOf ((lo, w, v) :: l) = BitVec.ofNat 128 (v % 2 ^ w * 2 ^ lo) + cellOf l := by
  rw [cellOf_eq_ofNat, fieldSum_cons, BitVec.ofNat_add, cellOf_eq_ofNat]

theorem cellOf_toNat {l : List (Nat × Nat × Nat)} (h : fieldSum l < 2 ^ 128) : (cellOf l).toNat = fieldSum l := by
  rw [cellOf_eq_ofNat, BitVec.toNat_ofNat, Nat.mod_eq_of_lt h]

@[simp] theorem b2n_false : b2n false = 0 := rfl

theorem bitAt_eq_decide {w : Nat} (v : BitVec w) (i : Nat) : bitAt v i = decide (v.toNat / 2 ^ i % 2 = 1) :=
  Nat.testBit_eq_decide_div_mod_eq

/-! ### WACK -/

theorem wackCell_toNat (tag ch drained wseq : Nat) (wv : Bool) :
    (wackCell tag ch drained wv wseq).toNat = 0x31 + tag % 2 ^ 12 * 2 ^ 8 + b2n wv % 2 * 2 ^ 21 + ch % 2 ^ 6 * 2 ^ 23 +
      wseq % 2 ^ 16 * 2 ^ 32 + drained % 2 ^ 16 * 2 ^ 48 := by
  rw [wackCell, cellOf_toNat] <;> simp only [fieldSum_cons, fieldSum_nil] <;> omega

theorem wackMt_toNat (mtag : Nat) : (wackMt mtag).toNat = 0x31 + mtag % 2 ^ 6 * 2 ^ 8 + 2 ^ 20 := by
  rw [wackMt, cellOf_toNat] <;> simp only [fieldSum_cons, fieldSum_nil] <;> omega

/-- The fields beside the opcode that WACK and RDATA's header share (R163, R164). -/
def tagFields (tag ch drained : Nat) (wv : Bool) (wseq : Nat) : List (Nat × Nat × Nat) :=
  [(8, 12, tag), (21, 1, b2n wv), (23, 6, ch), (32, 16, wseq), (48, 16, drained)]

theorem wackCell_eq_add (tag ch drained wseq : Nat) (wv : Bool) :
    wackCell tag ch drained wv wseq = 0x31#128 + cellOf (tagFields tag ch drained wv wseq) :=
  cellOf_cons ..

theorem rdataHdr_eq_add (tag ch drained wseq : Nat) (wv : Bool) :
    rdataHdr tag 0 0 ch drained false wv wseq = 0x30#128 + cellOf (tagFields tag ch drained wv wseq) := by
  simp [rdataHdr, tagFields, cellOf_cons]

/-- With STATUS, LAST and the line's index 0, RDATA's header differs from WACK in its opcode alone (R164). -/
theorem wackCell_eq_rdataHdr (tag ch drained wseq : Nat) (wv : Bool) :
    wackCell tag ch drained wv wseq = rdataHdr tag 0 0 ch drained false wv wseq - 0x30#128 + 0x31#128 := by
  rw [wackCell_eq_add, rdataHdr_eq_add, add_sub_cancel_left, BitVec.add_comm]

/-- Settles O57: each bit that R164 gives is read off WACK's number. -/
theorem wackHasTheLayoutOfRdata : Obligations.WackHasTheLayoutOfRdata := by
  refine ⟨fun tag ch drained wseq wv => ⟨wackCell_eq_rdataHdr .., ?_⟩, fun mtag => ?_⟩
  · simp only [bitAt_eq_decide, fieldNat, wackCell_toNat, decide_eq_false_iff_not]
    omega
  · simp only [bitAt_eq_decide, fieldNat, wackMt_toNat, decide_eq_true_iff]
    omega

end Sys2Proof.Machine
end

section
/-! PROOFS. A read of a channel group's page while the group's entry is delayed ends the entry (R367, R368), whatever the read's
level: such a read changes the power controller's part of the state. -/

namespace Sys2Proof.Machine

theorem State.withInputs_pwr (u t : State) : (u.withInputs t).pwr = t.pwr := rfl

theorem exec_rcRead_of_running {s : State} {a : Access} {off : Nat} (hwf : (Instr.rcRead a off).wellFormed = true)
    (hrun : s.running = true) :
    exec (.rcRead a off) s = .next (s.withInputs (s.mirrorFrom (s.readReg a (4 * off) none))) := by
  change act ((Instr.rcRead a off).wellFormed) s (s.readReg a (4 * off) none) = _
  simp only [act, hwf, hrun]

/-- Start-up has ended, every domain is on and every channel group active, with a row in channel 0's mitigation backlog; then group 0
is asked to enter SELF_REFRESH, and answers DELAY (R367; R368, BACKLOG). -/
def groupInDelay : State :=
  (({ State.reset with
      pins := { State.reset.pins with pwrGood := true }
      boot := { State.reset.boot with stage := .ready }
      pwr := { State.reset.pwr with
        doms := .const (.resting .on true), cgs := .const ⟨.active, 0, 0, none, none, .off⟩ } } : State).setChan 0
    (fun c => { c with backlog := [⟨0, 0, 0⟩] })).requestCg 0 .selfRefresh

/-- The management controller outside a session: an OPEN master (R71). -/
def openSmp : Access := ⟨.smp, 0, false, false⟩

theorem groupInDelay_delay : (groupInDelay.cg 0).delay.isSome = true := by decide +kernel

/-- The word at 0x80004, byte 4 of channel 0's page, holds CHN_PREEMPTED. -/
theorem delay_after_read_of_groupInDelay :
    ((groupInDelay.mirrorFrom (groupInDelay.readReg openSmp (4 * 0x20001) none)).cg 0).delay = none := by decide +kernel

/-- Refutes O58 in its frame: the statement lets an OPEN read by the SMP change the registers and the pins alone, and asks only that
the word's domain has no entry in DELAY; of CHN_PREEMPTED on a channel whose group has one, the read ends that DELAY with REFUSE, reason
ACCESS (R367). The counterexample says nothing against R338's own words. -/
theorem not_readsBelowTheWriteLevelClearNothing : ¬ Obligations.ReadsBelowTheWriteLevelClearNothing := by
  intro h
  obtain ⟨hsmp, -, -⟩ := h groupInDelay openSmp 0x20001 0 4 0 .chn RF.CHN_PREEMPTED 0 0 0 0 (by decide +kernel) (by decide +kernel)
    (by decide +kernel) rfl
  obtain ⟨t, v, hexec, -, -, -, hframe⟩ := hsmp (by decide) (by decide) (by decide) (by decide +kernel) (by decide +kernel)
    (by decide +kernel) (by decide +kernel) (by decide +kernel) (by decide +kernel)
  rw [exec_rcRead_of_running (by decide) (by decide +kernel)] at hexec
  obtain rfl := Host.Outcome.next.inj hexec
  have hpwr : (groupInDelay.mirrorFrom (groupInDelay.readReg openSmp (4 * 0x20001) none)).pwr = groupInDelay.pwr :=
    hframe .pwr (by decide)
  have hdelay := groupInDelay_delay
  rw [State.cg, ← hpwr, ← State.cg, delay_after_read_of_groupInDelay] at hdelay
  exact Bool.false_ne_true hdelay

end Sys2Proof.Machine
end

section
/-! PROOFS. An event that equals the newest record adds to its REPEAT and leaves its HELD as it is (R413): so it is with the checker's
failure behind an equal record that has come out of the event hold. -/

namespace Sys2Proof.Machine

theorem exec_droneCheckerFail_of_running {s : State} (hrun : s.running = true) :
    exec .droneCheckerFail s = .next (s.withInputs (s.mirrorFrom s.checkerFails)) := by
  have hwf : Instr.wellFormed .droneCheckerFail = true := rfl
  change act (Instr.wellFormed .droneCheckerFail) s s.checkerFails = _
  simp only [act, hwf, hrun]

theorem State.mirrorFrom_of_role_ne_paired {s t : State} (hrole : s.pair.role ≠ .paired) : s.mirrorFrom t = t :=
  if_neg fun h => hrole h.1

/-- The instance runs without a partner, and the checker fails while every domain but D0 is off: the event waits in the hold (R372). -/
def checkerFailedInHold : State :=
  ({ State.reset with pins := { State.reset.pins with pwrGood := true } } : State).checkerFails

/-- D5 is on and has taken the hold into the ring (R412), and the checker counts as sound again. -/
def heldCheckerFailNewest : State :=
  { (checkerFailedInHold.setDom 5 fun _ => .resting .on true).flushHold with
    pwr := { checkerFailedInHold.pwr with doms := .const (.resting .on true), checkerBad := false } }

theorem newest_heldCheckerFailNewest_held : heldCheckerFailNewest.newest.map EvRec.held = some true := by decide +kernel

/-- The second failure merges into the held record: REPEAT counts it, and HELD stays set. -/
theorem newest_checkerFails_of_heldCheckerFailNewest :
    heldCheckerFailNewest.checkerFails.newest = heldCheckerFailNewest.newest.map fun r => { r with rep := 1 } := by decide +kernel

/-- Refutes O60 in one flag: the statement asks for a newest record with HELD 0 in every running state with D5 on. Where the newest
record is an equal one from the hold, R413 merges the event into it, and HELD reads 1. The statement leaves in states that no run
should reach: only a fall of PWR_GOOD clears the checker's failure, and it empties the ring too (`State.cold`). The counterexample says
nothing against R379's own words. -/
theorem not_checkerFailureIsRecorded : ¬ Obligations.CheckerFailureIsRecorded := by
  intro h
  obtain ⟨hchecker, -⟩ := h heldCheckerFailNewest (by decide +kernel)
  obtain ⟨t, hexec, -, -, -, -, hring, -⟩ := hchecker rfl
  rw [exec_droneCheckerFail_of_running (by decide +kernel), State.mirrorFrom_of_role_ne_paired (by decide +kernel)] at hexec
  obtain rfl := Host.Outcome.next.inj hexec
  obtain ⟨r, hnewest, -, -, -, hheld⟩ := hring (by decide +kernel) (by decide +kernel)
  have hmerged : heldCheckerFailNewest.checkerFails.newest.map EvRec.held = some true := by
    rw [newest_checkerFails_of_heldCheckerFailNewest, Option.map_map]
    exact newest_heldCheckerFailNewest_held
  change heldCheckerFailNewest.checkerFails.newest = some r at hnewest
  simp [hnewest, hheld] at hmerged

end Sys2Proof.Machine
end

section
/-! PROOFS. The forms that the meaning of a command takes: all but fourteen commands act through `act`,
    whose outcome is the state as it
was while the machine does not run. -/

namespace Sys2Proof.Machine

/-! ### Outcomes -/

/-- The commands whose meaning is `act`: all but those of PWR_GOOD, of the input pins and of the wrapper. -/
def isPlain : Instr → Bool
  | .pwrGoodRise _ | .pwrGoodFall | .nvmRdyFall | .nvmRdyRise _ | .brgSfencedRise | .brgSfencedFall | .regOcwRise | .regOcwFall
  | .wsBypass _ | .wsExtest _ | .wsIntest _ | .cmReg _ | .cmSram _ _ | .cmId => false
  | _ => true

/-- The events of the input pins NVM_RDY, BRG_SFENCED and REG_OCW. -/
def isInputPin : Instr → Bool
  | .nvmRdyFall | .nvmRdyRise _ | .brgSfencedRise | .brgSfencedFall | .regOcwRise | .regOcwFall => true
  | _ => false

theorem exec_eq_act {c : Instr} (h : isPlain c = true) (s : State) : ∃ t, exec c s = act c.wellFormed s t := by
  cases c
  case pwrGoodRise | pwrGoodFall | nvmRdyFall | nvmRdyRise | brgSfencedRise | brgSfencedFall | regOcwRise | regOcwFall | wsBypass
    | wsExtest | wsIntest | cmReg | cmSram | cmId => exact Bool.noConfusion h
  all_goals exact ⟨_, rfl⟩

theorem act_of_running {s : State} (hrun : s.running = true) (t : State) :
    act true s t = .next (s.withInputs (s.mirrorFrom t)) := by simp only [act, hrun]

theorem act_of_not_running {s : State} (hrun : s.running = false) (t : State) : act true s t = .next s := by
  simp only [act, hrun]

theorem act_total (ok : Bool) (s t : State) :
    (ok = true → ∃ u, act ok s t = .next u) ∧ (ok = false → act ok s t = .fault .noSuchUnit) := by
  cases ok <;> simp [act]

theorem actPin_total (ok : Bool) (s u t : State) :
    (ok = true → ∃ v, actPin ok s u t = .next v) ∧ (ok = false → actPin ok s u t = .fault .noSuchUnit) := by
  cases ok <;> simp [actPin]

theorem actPower_total (level ok : Bool) (s t : State) :
    (ok = true → ∃ u, actPower level ok s t = .next u) ∧ (ok = false → actPower level ok s t = .fault .noSuchUnit) := by
  cases ok <;> simp [actPower]

/-- NVM_RDY, BRG_SFENCED and REG_OCW at a new level act through `actPin`, over a state that differs in that level alone. -/
theorem exec_eq_actPin {c : Instr} (h : isInputPin c = true) (s : State) :
    ∃ r f o t, exec c s =
      actPin c.wellFormed s { s with pins := { s.pins with nvmRdy := r, sfenced := f, regOcw := o } } t := by
  cases c
  case nvmRdyFall => exact ⟨false, s.pins.sfenced, s.pins.regOcw, opNvmRdyFall s, rfl⟩
  case nvmRdyRise env => exact ⟨true, s.pins.sfenced, s.pins.regOcw, opNvmRdyRise env s, rfl⟩
  case brgSfencedRise => exact ⟨s.pins.nvmRdy, true, s.pins.regOcw, opBrgSfencedRise s, rfl⟩
  case brgSfencedFall => exact ⟨s.pins.nvmRdy, false, s.pins.regOcw, opBrgSfencedFall s, rfl⟩
  case regOcwRise => exact ⟨s.pins.nvmRdy, s.pins.sfenced, true, opRegOcwRise s, rfl⟩
  case regOcwFall => exact ⟨s.pins.nvmRdy, s.pins.sfenced, false, opRegOcwFall s, rfl⟩
  all_goals exact Bool.noConfusion h

/-- A wrapper command's operands name no unit, so it is always well formed. -/
theorem actWrapper_total {ok : Bool} (hok : ok = true) (high : Bool) (s t : State) :
    (ok = true → ∃ u, actWrapper high s t = .next u) ∧ (ok = false → actWrapper high s t = .fault .noSuchUnit) := by
  simp [actWrapper, hok]

/-- Settles O1: the step's own equation on a queue that is not empty. -/
theorem stepRunsTheFrontCommand : Obligations.StepRunsTheFrontCommand := by
  intro s c l hpending
  simp only [step, hpending]

/-- Settles O2, by the four forms of outcome. -/
theorem outcomesAreTotal : Obligations.OutcomesAreTotal := by
  intro c s
  cases c
  case pwrGoodRise | pwrGoodFall => exact actPower_total ..
  case nvmRdyFall | nvmRdyRise | brgSfencedRise | brgSfencedFall | regOcwRise | regOcwFall | cmReg => exact actPin_total ..
  case wsBypass | wsExtest | wsIntest | cmSram | cmId => exact actWrapper_total rfl ..
  all_goals exact act_total ..

/-- Settles O5: every field of the reset state is a constant. -/
theorem resetIsHeldInReset : Obligations.ResetIsHeldInReset :=
  ⟨fun _ => ⟨rfl, rfl, rfl, rfl, rfl, rfl, rfl, rfl, rfl, rfl⟩, reset_mem_wf⟩

/-- Settles O6: every command left is one of `act`, which keeps the state of a machine that does not run. -/
theorem stoppedAgentsStand : Obligations.StoppedAgentsStand := by
  intro c s hwf _ hstop hrise hfall hnrise hnfall hsrise hsfall horise hofall hby hext hint hreg hsram hid
  have hplain : isPlain c = true := by
    cases c
    case pwrGoodRise env => exact absurd rfl (hrise env)
    case pwrGoodFall => exact absurd rfl hfall
    case nvmRdyFall => exact absurd rfl hnfall
    case nvmRdyRise env => exact absurd rfl (hnrise env)
    case brgSfencedRise => exact absurd rfl hsrise
    case brgSfencedFall => exact absurd rfl hsfall
    case regOcwRise => exact absurd rfl horise
    case regOcwFall => exact absurd rfl hofall
    case wsBypass b => exact absurd rfl (hby b)
    case wsExtest x => exact absurd rfl (hext x)
    case wsIntest x => exact absurd rfl (hint x)
    case cmReg d => exact absurd rfl (hreg d)
    case cmSram d f => exact absurd rfl (hsram d f)
    case cmId => exact absurd rfl hid
    all_goals rfl
  have hrun : s.running = false := by simp [State.running, hstop]
  obtain ⟨t, ht⟩ := exec_eq_act hplain s
  rw [ht, hwf]
  exact act_of_not_running hrun t

/-! ### Held in reset -/

/-- The volatile state of the reset over the pins, the non-volatile memory, the free values and the queue, with nothing driven. -/
def State.coldAndQuiet (s : State) : Prop :=
  s = State.cold s.pins s.nvm s.free s.pending ∧ s.pins.chRst = .const false ∧ s.pins.pswEn = .const false ∧
    s.pins.brgFreq = false ∧ s.pins.brgXen = false ∧ s.pins.smpAck = false ∧ s.pins.smpIbi = false ∧
    s.nvm.jobs = [] ∧ s.nvm.deferred = [] ∧ s.nvm.reqSince = none

theorem State.heldInReset_iff (s : State) : s.heldInReset ↔ (s.pins.pwrGood = false → s.coldAndQuiet) := Iff.rfl

theorem State.running_of_low {s : State} (hlow : s.pins.pwrGood = false) : s.running = false := by simp [State.running, hlow]

/-- Where PWR_GOOD falls, nothing but the pins, the non-volatile memory, the free values and the queue is left. -/
theorem coldAndQuiet_powerFalls (s : State) :
    ((({ s with pins := { s.pins with pwrGood := false } } : State).withInputs s.powerFalls)).coldAndQuiet :=
  ⟨rfl, rfl, rfl, rfl, rfl, rfl, rfl, rfl, rfl, rfl⟩

/-- An input pin that moves, or a command that leaves the queue, disturbs nothing of a machine held in reset. -/
theorem State.coldAndQuiet.withPins {s : State} (h : s.coldAndQuiet) {p : PinSt} (l : List Instr) (hrst : p.chRst = s.pins.chRst)
    (hsw : p.pswEn = s.pins.pswEn) (hfreq : p.brgFreq = s.pins.brgFreq) (hxen : p.brgXen = s.pins.brgXen)
    (hack : p.smpAck = s.pins.smpAck) (hibi : p.smpIbi = s.pins.smpIbi) :
    ({ s with pins := p, pending := l } : State).coldAndQuiet := by
  obtain ⟨hcold, h⟩ := h
  rw [← hrst, ← hsw, ← hfreq, ← hxen, ← hack, ← hibi] at h
  refine ⟨?_, h⟩
  rw [hcold]
  rfl

theorem act_heldInReset {ok : Bool} {s u t : State} (h : s.heldInReset) (hact : act ok s u = .next t) : t.heldInReset := by
  cases ok with
  | false => simp [act] at hact
  | true =>
    cases hrun : s.running with
    | false => rw [act_of_not_running hrun] at hact; exact Host.Outcome.next.inj hact ▸ h
    | true =>
      rw [act_of_running hrun] at hact
      obtain rfl := Host.Outcome.next.inj hact
      intro hlow
      simp [State.running, show s.pins.pwrGood = false from hlow] at hrun

theorem actPin_heldInReset {ok : Bool} {s u v t : State} (hgood : u.pins.pwrGood = s.pins.pwrGood) (h : u.heldInReset)
    (hact : actPin ok s u v = .next t) : t.heldInReset := by
  cases ok with
  | false => simp [actPin] at hact
  | true =>
    cases hrun : s.running with
    | false => simp only [actPin, hrun] at hact; exact Host.Outcome.next.inj hact ▸ h
    | true =>
      simp only [actPin, hrun] at hact
      obtain rfl := Host.Outcome.next.inj hact
      intro hlow
      simp [State.running, hgood ▸ show u.pins.pwrGood = false from hlow] at hrun

theorem actWrapper_heldInReset {high : Bool} {s u t : State} (h : s.heldInReset) (hact : actWrapper high s u = .next t) :
    t.heldInReset := by
  cases hgood : s.pins.pwrGood && high with
  | false => simp only [actWrapper, hgood] at hact; exact Host.Outcome.next.inj hact ▸ h
  | true =>
    simp only [actWrapper, hgood] at hact
    obtain rfl := Host.Outcome.next.inj hact
    intro hlow
    simp [show s.pins.pwrGood = false from hlow] at hgood

theorem opPwrGoodFall_heldInReset {s : State} (h : s.heldInReset) :
    (({ s with pins := { s.pins with pwrGood := false } } : State).withInputs (opPwrGoodFall s)).heldInReset := by
  intro _
  unfold opPwrGoodFall
  split
  next => exact coldAndQuiet_powerFalls s
  next hgood => exact State.coldAndQuiet.withPins (h (Bool.not_eq_true _ ▸ hgood)) s.pending rfl rfl rfl rfl rfl rfl

/-- Every command keeps a machine held in reset. -/
theorem exec_heldInReset {c : Instr} {s t : State} (h : s.heldInReset) (hexec : exec c s = .next t) : t.heldInReset := by
  have hwrapper (high : Bool) (u : State) (hu : exec c s = actWrapper high s u) : t.heldInReset :=
    actWrapper_heldInReset h (hu ▸ hexec)
  have hpin (hc : isInputPin c = true) : t.heldInReset := by
    obtain ⟨r, f, o, u, hu⟩ := exec_eq_actPin hc s
    rw [hu] at hexec
    refine actPin_heldInReset ?_ (fun hlow => ?_) hexec
    · rfl
    exact State.coldAndQuiet.withPins (h hlow) s.pending rfl rfl rfl rfl rfl rfl
  have hplain (hc : isPlain c = true) : t.heldInReset := by
    obtain ⟨u, hu⟩ := exec_eq_act hc s
    exact act_heldInReset h (hu ▸ hexec)
  cases c
  case pwrGoodRise env =>
    change actPower true (Instr.pwrGoodRise env).wellFormed s _ = _ at hexec
    cases hwf : (Instr.pwrGoodRise env).wellFormed with
    | false => simp [actPower, hwf] at hexec
    | true =>
      simp only [actPower, hwf] at hexec
      obtain rfl := Host.Outcome.next.inj hexec
      exact fun hlow => nomatch hlow
  case pwrGoodFall =>
    obtain rfl := Host.Outcome.next.inj hexec
    exact opPwrGoodFall_heldInReset h
  case nvmRdyFall | nvmRdyRise | brgSfencedRise | brgSfencedFall | regOcwRise | regOcwFall => exact hpin rfl
  case cmReg data =>
    change actPin (Instr.cmReg data).wellFormed s (if s.pins.pwrGood && s.pins.wrstN then s.loadIr 16 else s) _ = _ at hexec
    refine actPin_heldInReset ?_ ?_ hexec
    · split <;> rfl
    · split
      next hhigh => exact fun hlow => absurd hhigh (by simp [show s.pins.pwrGood = false from hlow])
      next => exact h
  case wsBypass | wsExtest | wsIntest | cmSram | cmId => exact hwrapper _ _ rfl
  all_goals exact hplain rfl

/-- Settles O4: the queue is no part of what reset holds, and every command keeps the rest. -/
theorem heldInResetIsKept : Obligations.HeldInResetIsKept := by
  intro s t h hstep
  unfold step at hstep
  split at hstep
  next => exact Host.Outcome.next.inj hstep ▸ h
  next c rest _ =>
    have hrest : ({ s with pending := rest } : State).heldInReset := fun hlow =>
      State.coldAndQuiet.withPins (h hlow) rest rfl rfl rfl rfl rfl rfl
    exact exec_heldInReset hrest hstep

end Sys2Proof.Machine
end

section
/-! PROOFS. MRAM: a word reads as it was written, and a memory in canonical form is known by what it reads (R32, R90). -/

namespace Sys2Proof.Machine

/-! ### Bytes of numbers -/

theorem leBytes_succ (n v : Nat) : leBytes (n + 1) v = BitVec.ofNat 8 v :: leBytes n (v / 256) := by
  simp only [leBytes, List.range_succ_eq_map, List.map_cons, List.map_map, Nat.mul_zero, Nat.pow_zero, Nat.div_one, List.cons.injEq,
    true_and, List.map_inj_left]
  intro i _
  simp only [Function.comp, Nat.div_div_eq_div_mul]
  rw [show 2 ^ (8 * i.succ) = 256 * 2 ^ (8 * i) by rw [Nat.mul_succ, Nat.pow_add]; ring]

theorem leNat_leBytes (n v : Nat) : leNat (leBytes n v) = v % 256 ^ n := by
  induction n generalizing v with
  | zero => simp [leBytes, leNat, Nat.mod_one]
  | succ n ih =>
    rw [leBytes_succ, leNat, ih, BitVec.toNat_ofNat, pow_succ' 256 n, Nat.mod_mul (x := v) (a := 256)]

theorem leBytes_length (n v : Nat) : (leBytes n v).length = n := by simp [leBytes]

/-! ### Words -/

theorem memReadBytes_memWriteBytes (m : List Host.Cell) (a : Nat) (l : List Byte) :
    memReadBytes (memWriteBytes m a l) a l.length = l := by
  refine List.ext_getElem (by simp [memReadBytes]) fun i hi hl => ?_
  simp [memReadBytes, memRead_memWriteBytes, hl]

theorem memReadWord_memWriteWord (m : List Host.Cell) {w : Nat} (hw : w < 0x100000) (v : BitVec 64) :
    memReadWord (memWriteWord m w v) w = v := by
  have hbytes := memReadBytes_memWriteBytes m (8 * w) (leBytes 8 v.toNat)
  rw [leBytes_length] at hbytes
  rw [memReadWord, memWriteWord, Nat.mod_eq_of_lt hw, hbytes, leNat_leBytes, Nat.mod_eq_of_lt
      (show v.toNat < 256 ^ 8 from v.isLt), BitVec.ofNat_toNat,
    BitVec.setWidth_eq]

/-! ### The canonical form -/

/-- In a list with rising indices an index is found at its one entry. -/
theorem lookupEnt_eq_some_iff {α : Type} {l : List (Nat × α)} (h : l.Pairwise (fun e f => e.1 < f.1)) (i : Nat) (a : α) :
    lookupEnt i l = some a ↔ (i, a) ∈ l := by
  induction l with
  | nil => simp [lookupEnt]
  | cons e l ih =>
    obtain ⟨j, b⟩ := e
    obtain ⟨hlt, hl⟩ := List.pairwise_cons.1 h
    by_cases hji : j = i
    · subst hji
      have hnot : (j, a) ∉ l := fun hmem => lt_irrefl j (hlt _ hmem)
      simp [lookupEnt, hnot, eq_comm]
    · simp [lookupEnt, hji, ih hl, Ne.symm hji]

/-- The entries of a memory in canonical form are its addresses that do not read as the default. -/
theorem mem_iff_memRead {m : List Host.Cell} (h : Memory.wf m = true) (a : Nat) (b : Byte) :
    (a, b) ∈ m ↔ b ≠ memDefault ∧ memRead m a = b := by
  obtain ⟨hrising, hne⟩ := (Memory.wf_iff m).1 h
  rw [← lookupEnt_eq_some_iff hrising, memRead]
  constructor
  · intro hb
    exact ⟨hne (a, b) ((lookupEnt_eq_some_iff hrising a b).1 hb), by rw [hb]⟩
  · rintro ⟨hb, hread⟩
    cases hlookup : lookupEnt a m with
    | none => rw [hlookup] at hread; exact absurd hread.symm hb
    | some c => rw [hlookup] at hread; rw [show c = b from hread]

theorem eq_of_memRead_eq {m n : List Host.Cell} (hm : Memory.wf m = true) (hn : Memory.wf n = true)
    (h : ∀ a, memRead m a = memRead n a) : m = n := by
  have hrm := ((Memory.wf_iff m).1 hm).1
  have hrn := ((Memory.wf_iff n).1 hn).1
  have hnodup {l : List Host.Cell} (hl : l.Pairwise (fun e f => e.1 < f.1)) : l.Nodup := hl.imp fun hlt heq => by
    rw [heq] at hlt; exact lt_irrefl _ hlt
  have hperm : m.Perm n := (List.perm_ext_iff_of_nodup (hnodup hrm) (hnodup hrn)).2 fun ⟨a, b⟩ => by
    rw [mem_iff_memRead hm, mem_iff_memRead hn, h]
  exact hperm.eq_of_pairwise (fun e f _ _ hef hfe => absurd (hef.trans hfe) (lt_irrefl _)) hrm hrn

/-- Settles O7: the reads after a write are the laws of MRAM, and a canonical memory is the list of what it reads. -/
theorem mramReadsWhatWasWritten : Obligations.MramReadsWhatWasWritten := by
  refine ⟨fun m hm => ⟨fun a b => ⟨memWrite_wf hm a b, ?_, fun x hx => ?_⟩, fun w v hw => ⟨memWriteWord_wf hm w v, ?_,
      fun x hx => ?_⟩⟩,
    fun m n hm hn h => eq_of_memRead_eq hm hn h⟩
  · rw [memRead_memWrite, if_pos rfl]
  · rw [memRead_memWrite, if_neg hx.symm]
  · exact memReadWord_memWriteWord m hw v
  · exact memRead_memWriteWord_ne m w x v (by omega)

end Sys2Proof.Machine
end

section
/-! PROOFS. The outcome of a command of `act` in a state that runs: what it changed of the mirrored items is the one thing that joins
its own effect, so a command that changes none of them leaves exactly its own effect. -/

namespace Sys2Proof.Machine

theorem forAll_of_fixed {α : Type} {l : List α} {f : α → State → State} {s : State} (h : ∀ a ∈ l,
    f a s = s) : forAll l f s = s := by
  unfold forAll
  induction l with
  | nil => rfl
  | cons a l ih =>
    rw [List.foldl_cons, h a List.mem_cons_self]
    exact ih fun b hb => h b (List.mem_cons_of_mem _ hb)

@[simp] theorem forAll_nil {α : Type} (f : α → State → State) (s : State) : forAll [] f s = s := rfl

theorem forAll_cons {α : Type} (a : α) (l : List α) (f : α → State → State) (s : State) :
    forAll (a :: l) f s = forAll l f (f a s) := rfl

theorem backlogLess_self (l : List Backlog) : backlogLess l l = [] := by
  simp only [backlogLess, List.filter_eq_nil_iff]
  intro e he
  simpa using ⟨e, he, rfl, rfl⟩

/-- The mirrored items of two states agree (R381, R382). -/
structure State.MirrorsAlike (s t : State) : Prop where
  seq : ∀ ch, (t.rmap ch).seq = (s.rmap ch).seq
  count : ∀ ch, (t.calCh ch).count = (s.calCh ch).count
  backlog : ∀ ch, (t.chan ch).backlog = (s.chan ch).backlog
  base : ∀ ch b, (t.chan ch).base b = (s.chan ch).base b
  own : t.sec.own = s.sec.own
  keyOps : t.trx.keyOps = s.trx.keyOps
  epoch : t.regs.doneEpoch = s.regs.doneEpoch

theorem State.MirrorsAlike.slotsChanged_eq_nil {s t : State} (h : s.MirrorsAlike t) : slotsChanged s t = [] := by
  simp only [slotsChanged, List.filter_eq_nil_iff]
  intro k _
  simp [State.slot, State.eraseOpen, h.own, h.keyOps]

theorem State.MirrorsAlike.mirrorFrom_eq {s t : State} (h : s.MirrorsAlike t) : s.mirrorFrom t = t := by
  unfold State.mirrorFrom
  split
  · rw [forAll_of_fixed (s := t)]
    · rw [h.slotsChanged_eq_nil]
      simp only [forAll_nil, h.epoch, ne_eq, not_true_eq_false, false_and, if_false]
      cases t.sec.pairKey.isSome <;> simp only [when] <;> split <;> rfl
    · intro ch _
      have hall : (List.range 64).all (fun _ => true) = true := List.all_eq_true.2 fun _ _ => rfl
      simp [h.seq, h.count, h.backlog, h.base, backlogLess_self, when, hall]
  · rfl

/-- What the frame of an effect says of the mirrored items: the parts that hold them are untouched, but for the registers, whose
last epoch stands. -/
theorem State.changesOnly.mirrorsAlike {s t : State} {l : List Part} (h : s.changesOnly t l)
    (hepoch : t.regs.doneEpoch = s.regs.doneEpoch)
    (hl : (.chans ∉ l ∧ .rpr ∉ l ∧ .cal ∉ l) ∧ .sec ∉ l ∧ .trx ∉ l := by decide) : s.MirrorsAlike t where
  seq ch := by rw [State.rmap, h.rpr_eq hl.1.2.1]; rfl
  count ch := by rw [State.calCh, h.cal_eq hl.1.2.2]; rfl
  backlog ch := by rw [State.chan, h.chans_eq hl.1.1]; rfl
  base ch b := by rw [State.chan, h.chans_eq hl.1.1]; rfl
  own := by rw [h.sec_eq hl.2.1]
  keyOps := by rw [h.trx_eq hl.2.2]
  epoch := hepoch

/-- The inputs that only their own events drive, and the queue, stand (R23). -/
def State.InputsAlike (s t : State) : Prop :=
  t.pins.pwrGood = s.pins.pwrGood ∧ t.pins.instId = s.pins.instId ∧ t.pins.nvmRdy = s.pins.nvmRdy ∧
    t.pins.sfenced = s.pins.sfenced ∧ t.pins.regOcw = s.pins.regOcw ∧ t.pending = s.pending

theorem State.InputsAlike.withInputs_eq {s t : State} (h : s.InputsAlike t) : s.withInputs t = t := by
  obtain ⟨hgood, hid, hrdy, hfenced, hocw, hpending⟩ := h
  rw [State.withInputs, ← hgood, ← hid, ← hrdy, ← hfenced, ← hocw, ← hpending]

theorem State.changesOnly.inputsAlike {s t : State} {l : List Part} (h : s.changesOnly t l)
    (hl : .pins ∉ l ∧ .pending ∉ l := by decide) : s.InputsAlike t := by
  simp only [State.InputsAlike, h.pins_eq hl.1, h.pending_eq hl.2, and_self]

/-- A command of `act` in a running state. -/
theorem exec_of_act {c : Instr} {s t : State} (h : exec c s = act c.wellFormed s t) (hwf : c.wellFormed = true)
    (hrun : s.running = true) : exec c s = .next (s.withInputs (s.mirrorFrom t)) := by
  rw [h, hwf, act_of_running hrun]

/-- A command of `act` that leaves the mirrored items and the inputs leaves its own effect. -/
theorem exec_of_alike {c : Instr} {s t : State} (h : exec c s = act c.wellFormed s t) (hwf : c.wellFormed = true)
    (hrun : s.running = true) (hm : s.MirrorsAlike t) (hi : s.InputsAlike t) : exec c s = .next t := by
  rw [exec_of_act h hwf hrun, hm.mirrorFrom_eq, hi.withInputs_eq]

/-- A command of `act` whose effect has a frame without mirrored items, its registers keeping the last epoch. -/
theorem exec_of_frame {c : Instr} {s t : State} {l : List Part} (h : exec c s = act c.wellFormed s t) (hwf : c.wellFormed = true)
    (hrun : s.running = true) (hframe : s.changesOnly t l) (hepoch : t.regs.doneEpoch = s.regs.doneEpoch)
    (hl : ((.chans ∉ l ∧ .rpr ∉ l ∧ .cal ∉ l) ∧ .sec ∉ l ∧ .trx ∉ l) ∧ .pins ∉ l ∧ .pending ∉ l := by decide) :
    exec c s = .next t :=
  exec_of_alike h hwf hrun (hframe.mirrorsAlike hepoch hl.1) (hframe.inputsAlike hl.2)

end Sys2Proof.Machine
end

section
/-! PROOFS. Frames
    by equations. `s.only K` is the state `s` with all but the pieces of the list `K` blanked; an operation that leaves
those pieces satisfies `(s.op …).only K = s.only K`. Such equations compose by `simp`. -/

namespace Sys2Proof.Machine

/-- The pieces of the state by which frames are told: the parts, the larger ones cut where an operation changes one side alone. -/
inductive Piece where
  | time | conf | commits | posted | snap | regs | inputs | wrstN | pins | mem | nvm | evt | pinFlt | flt | lanes | courses |
    link | reqs | keyOps | trx | regul | chans | array | tab | capo | sensors | slots | sec | cal | doms | cgs | pwr | boot |
    role | pair | rpr | upd | free | pending
  deriving DecidableEq

/-- The part that a piece belongs to. -/
def Piece.part (p : Piece) : Part :=
  match p with
  | .time => .time
  | .conf | .commits | .posted | .snap | .regs => .regs
  | .inputs | .wrstN | .pins => .pins
  | .mem | .nvm => .nvm
  | .evt => .evt
  | .pinFlt | .flt => .flt
  | .lanes | .courses | .link => .link
  | .reqs | .keyOps | .trx => .trx
  | .regul => .regul
  | .chans => .chans
  | .array => .array
  | .tab => .tab
  | .capo => .capo
  | .sensors => .sensors
  | .slots | .sec => .sec
  | .cal => .cal
  | .doms | .cgs | .pwr => .pwr
  | .boot => .boot
  | .role | .pair => .pair
  | .rpr => .rpr
  | .upd => .upd
  | .free => .free
  | .pending => .pending

/-- The pieces of a list. -/
def RegSt.only (r : RegSt) (K : List Piece) : RegSt :=
  { shadow := if .conf ∈ K then r.shadow else RegSt.init.shadow
    force := if .conf ∈ K then r.force else RegSt.init.force
    sticky := if .regs ∈ K then r.sticky else RegSt.init.sticky
    touched := if .conf ∈ K then r.touched else RegSt.init.touched
    counters := if .regs ∈ K then r.counters else RegSt.init.counters
    snapAcc := if .regs ∈ K then r.snapAcc else RegSt.init.snapAcc
    latch := if .regs ∈ K then r.latch else RegSt.init.latch
    posted := if .posted ∈ K then r.posted else RegSt.init.posted
    dropped := if .posted ∈ K then r.dropped else RegSt.init.dropped
    failed := if .posted ∈ K then r.failed else RegSt.init.failed
    stalled := if .posted ∈ K then r.stalled else RegSt.init.stalled
    epoch := if .commits ∈ K then r.epoch else RegSt.init.epoch
    doneEpoch := if .commits ∈ K then r.doneEpoch else RegSt.init.doneEpoch
    commits := if .commits ∈ K then r.commits else RegSt.init.commits
    results := if .commits ∈ K then r.results else RegSt.init.results
    tickets := if .commits ∈ K then r.tickets else RegSt.init.tickets
    snapSeq := if .snap ∈ K then r.snapSeq else RegSt.init.snapSeq
    snapBusy := if .snap ∈ K then r.snapBusy else RegSt.init.snapBusy
    snapMask := if .snap ∈ K then r.snapMask else RegSt.init.snapMask
    snapStamp := if .snap ∈ K then r.snapStamp else RegSt.init.snapStamp
    snapshot := if .snap ∈ K then r.snapshot else RegSt.init.snapshot
    sumBusy := if .regs ∈ K then r.sumBusy else RegSt.init.sumBusy
    window := if .regs ∈ K then r.window else RegSt.init.window
    views := if .regs ∈ K then r.views else RegSt.init.views
    evtCopy := if .regs ∈ K then r.evtCopy else RegSt.init.evtCopy
    logCopy := if .regs ∈ K then r.logCopy else RegSt.init.logCopy
    smpValue := if .regs ∈ K then r.smpValue else RegSt.init.smpValue
    smpStatus := if .regs ∈ K then r.smpStatus else RegSt.init.smpStatus
    accSeen := if .regs ∈ K then r.accSeen else RegSt.init.accSeen
    nacked := if .regs ∈ K then r.nacked else RegSt.init.nacked }

/-- The pieces of a list. -/
def PinSt.only (p : PinSt) (K : List Piece) : PinSt :=
  { pwrGood := if .inputs ∈ K then p.pwrGood else (PinSt.init false).pwrGood
    instId := if .inputs ∈ K then p.instId else (PinSt.init false).instId
    nvmRdy := if .inputs ∈ K then p.nvmRdy else (PinSt.init false).nvmRdy
    pswRdy := if .pins ∈ K then p.pswRdy else (PinSt.init false).pswRdy
    pswEn := if .pins ∈ K then p.pswEn else (PinSt.init false).pswEn
    chRst := if .pins ∈ K then p.chRst else (PinSt.init false).chRst
    regRdy := if .pins ∈ K then p.regRdy else (PinSt.init false).regRdy
    regOcw := if .inputs ∈ K then p.regOcw else (PinSt.init false).regOcw
    smpAck := if .pins ∈ K then p.smpAck else (PinSt.init false).smpAck
    smpIbi := if .pins ∈ K then p.smpIbi else (PinSt.init false).smpIbi
    smpAddr := if .pins ∈ K then p.smpAddr else (PinSt.init false).smpAddr
    svcAddr := if .pins ∈ K then p.svcAddr else (PinSt.init false).svcAddr
    svcAck := if .pins ∈ K then p.svcAck else (PinSt.init false).svcAck
    daa := if .pins ∈ K then p.daa else (PinSt.init false).daa
    brgFreq := if .pins ∈ K then p.brgFreq else (PinSt.init false).brgFreq
    brgFgnt := if .pins ∈ K then p.brgFgnt else (PinSt.init false).brgFgnt
    sfenced := if .inputs ∈ K then p.sfenced else (PinSt.init false).sfenced
    brgXen := if .pins ∈ K then p.brgXen else (PinSt.init false).brgXen
    brgXrdy := if .pins ∈ K then p.brgXrdy else (PinSt.init false).brgXrdy
    txLock := if .pins ∈ K then p.txLock else (PinSt.init false).txLock
    wrstN := if .wrstN ∈ K then p.wrstN else (PinSt.init false).wrstN }

/-- The pieces of a list. -/
def NvmSt.only (n : NvmSt) (K : List Piece) : NvmSt :=
  { mem := if .mem ∈ K then n.mem else NvmSt.init.mem
    jobs := if .nvm ∈ K then n.jobs else NvmSt.init.jobs
    deferred := if .nvm ∈ K then n.deferred else NvmSt.init.deferred
    reqSince := if .nvm ∈ K then n.reqSince else NvmSt.init.reqSince
    badWords := if .nvm ∈ K then n.badWords else NvmSt.init.badWords
    otpCount := if .mem ∈ K then n.otpCount else NvmSt.init.otpCount
    lockFuse := if .mem ∈ K then n.lockFuse else NvmSt.init.lockFuse }

/-- The pieces of a list. -/
def FltSt.only (f : FltSt) (K : List Piece) : FltSt :=
  { marks := if .flt ∈ K then f.marks else FltSt.init.marks
    unfencing := if .flt ∈ K then f.unfencing else FltSt.init.unfencing
    fatal := if .flt ∈ K then f.fatal else FltSt.init.fatal
    asserts := if .pinFlt ∈ K then f.asserts else FltSt.init.asserts
    pulseEnd := if .pinFlt ∈ K then f.pulseEnd else FltSt.init.pulseEnd
    drive := if .pinFlt ∈ K then f.drive else FltSt.init.drive
    ledgerFail := if .flt ∈ K then f.ledgerFail else FltSt.init.ledgerFail
    lastSev := if .flt ∈ K then f.lastSev else FltSt.init.lastSev
    lastSource := if .flt ∈ K then f.lastSource else FltSt.init.lastSource
    lastCode := if .flt ∈ K then f.lastCode else FltSt.init.lastCode
    generation := if .flt ∈ K then f.generation else FltSt.init.generation
    chEpoch := if .flt ∈ K then f.chEpoch else FltSt.init.chEpoch
    ovrSeen := if .flt ∈ K then f.ovrSeen else FltSt.init.ovrSeen }

/-- The pieces of a list. -/
def LinkSt.only (k : LinkSt) (K : List Piece) : LinkSt :=
  { lanes := if .lanes ∈ K then k.lanes else LinkSt.init.lanes
    courses := if .courses ∈ K then k.courses else LinkSt.init.courses
    req := if .link ∈ K then k.req else LinkSt.init.req
    wd := if .link ∈ K then k.wd else LinkSt.init.wd
    mgt := if .link ∈ K then k.mgt else LinkSt.init.mgt
    upQ := if .link ∈ K then k.upQ else LinkSt.init.upQ
    crWaited := if .link ∈ K then k.crWaited else LinkSt.init.crWaited }

/-- The pieces of a list. -/
def TrxSt.only (x : TrxSt) (K : List Piece) : TrxSt :=
  { reqs := if .reqs ∈ K then x.reqs else TrxSt.init.reqs
    nextUid := if .reqs ∈ K then x.nextUid else TrxSt.init.nextUid
    quar := if .trx ∈ K then x.quar else TrxSt.init.quar
    respond := if .trx ∈ K then x.respond else TrxSt.init.respond
    mgtOut := if .trx ∈ K then x.mgtOut else TrxSt.init.mgtOut
    rdAcct := if .trx ∈ K then x.rdAcct else TrxSt.init.rdAcct
    wrAcct := if .trx ∈ K then x.wrAcct else TrxSt.init.wrAcct
    fences := if .trx ∈ K then x.fences else TrxSt.init.fences
    resyncs := if .trx ∈ K then x.resyncs else TrxSt.init.resyncs
    prog := if .trx ∈ K then x.prog else TrxSt.init.prog
    keyOps := if .keyOps ∈ K then x.keyOps else TrxSt.init.keyOps
    spdm := if .trx ∈ K then x.spdm else TrxSt.init.spdm }

/-- The pieces of a list. -/
def SecSt.only (c : SecSt) (K : List Piece) : SecSt :=
  { own := if .slots ∈ K then c.own else (SecSt.init false).own
    partner := if .slots ∈ K then c.partner else (SecSt.init false).partner
    drbgOk := if .sec ∈ K then c.drbgOk else (SecSt.init false).drbgOk
    drbgGen := if .sec ∈ K then c.drbgGen else (SecSt.init false).drbgGen
    drbg := if .sec ∈ K then c.drbg else (SecSt.init false).drbg
    retestAt := if .sec ∈ K then c.retestAt else (SecSt.init false).retestAt
    voidKey := if .sec ∈ K then c.voidKey else (SecSt.init false).voidKey
    voidCount := if .sec ∈ K then c.voidCount else (SecSt.init false).voidCount
    pairKey := if .sec ∈ K then c.pairKey else (SecSt.init false).pairKey
    lock := if .sec ∈ K then c.lock else (SecSt.init false).lock
    link := if .sec ∈ K then c.link else (SecSt.init false).link
    smp := if .sec ∈ K then c.smp else (SecSt.init false).smp
    meas2 := if .sec ∈ K then c.meas2 else (SecSt.init false).meas2
    meas3 := if .sec ∈ K then c.meas3 else (SecSt.init false).meas3
    meas4 := if .sec ∈ K then c.meas4 else (SecSt.init false).meas4
    courseGen := if .sec ∈ K then c.courseGen else (SecSt.init false).courseGen
    spdmWait := if .sec ∈ K then c.spdmWait else (SecSt.init false).spdmWait
    entries := if .sec ∈ K then c.entries else (SecSt.init false).entries }

/-- The pieces of a list. -/
def PwrSt.only (w : PwrSt) (K : List Piece) : PwrSt :=
  { doms := if .doms ∈ K then w.doms else PwrSt.init.doms
    cgs := if .cgs ∈ K then w.cgs else PwrSt.init.cgs
    sentinels := if .pwr ∈ K then w.sentinels else PwrSt.init.sentinels
    lastDom := if .pwr ∈ K then w.lastDom else PwrSt.init.lastDom
    lastReason := if .pwr ∈ K then w.lastReason else PwrSt.init.lastReason
    refusals := if .pwr ∈ K then w.refusals else PwrSt.init.refusals
    onChecker := if .pwr ∈ K then w.onChecker else PwrSt.init.onChecker
    checkerBad := if .pwr ∈ K then w.checkerBad else PwrSt.init.checkerBad }

/-- The pieces of a list. -/
def PairSt.only (m : PairSt) (K : List Piece) : PairSt :=
  { role := if .role ∈ K then m.role else PairSt.init.role
    idSentAt := if .pair ∈ K then m.idSentAt else PairSt.init.idSentAt
    ident := if .pair ∈ K then m.ident else PairSt.init.ident
    idSeen := if .pair ∈ K then m.idSeen else PairSt.init.idSeen
    peerDigest := if .pair ∈ K then m.peerDigest else PairSt.init.peerDigest
    beat := if .pair ∈ K then m.beat else PairSt.init.beat
    peerArmed := if .pair ∈ K then m.peerArmed else PairSt.init.peerArmed
    peerHalted := if .pair ∈ K then m.peerHalted else PairSt.init.peerHalted
    peerOffer := if .pair ∈ K then m.peerOffer else PairSt.init.peerOffer
    ownOffer := if .pair ∈ K then m.ownOffer else PairSt.init.ownOffer
    beats := if .pair ∈ K then m.beats else PairSt.init.beats
    missed := if .pair ∈ K then m.missed else PairSt.init.missed
    gotBeat := if .pair ∈ K then m.gotBeat else PairSt.init.gotBeat
    beatAt := if .pair ∈ K then m.beatAt else PairSt.init.beatAt
    lastWin := if .pair ∈ K then m.lastWin else PairSt.init.lastWin
    txSeq := if .pair ∈ K then m.txSeq else PairSt.init.txSeq
    rxSeq := if .pair ∈ K then m.rxSeq else PairSt.init.rxSeq
    sent := if .pair ∈ K then m.sent else PairSt.init.sent
    waiting := if .pair ∈ K then m.waiting else PairSt.init.waiting
    early := if .pair ∈ K then m.early else PairSt.init.early
    acked := if .pair ∈ K then m.acked else PairSt.init.acked
    chans := if .pair ∈ K then m.chans else PairSt.init.chans
    config := if .pair ∈ K then m.config else PairSt.init.config
    epoch := if .pair ∈ K then m.epoch else PairSt.init.epoch
    mirrored := if .pair ∈ K then m.mirrored else PairSt.init.mirrored
    share := if .pair ∈ K then m.share else PairSt.init.share
    step := if .pair ∈ K then m.step else PairSt.init.step
    reason := if .pair ∈ K then m.reason else PairSt.init.reason
    declared := if .pair ∈ K then m.declared else PairSt.init.declared
    declStamp := if .pair ∈ K then m.declStamp else PairSt.init.declStamp
    doubleStop := if .pair ∈ K then m.doubleStop else PairSt.init.doubleStop
    serving := if .pair ∈ K then m.serving else PairSt.init.serving
    sleepSent := if .pair ∈ K then m.sleepSent else PairSt.init.sleepSent
    joint := if .pair ∈ K then m.joint else PairSt.init.joint
    handWait := if .pair ∈ K then m.handWait else PairSt.init.handWait
    handMsgs := if .pair ∈ K then m.handMsgs else PairSt.init.handMsgs
    lastBeat := if .pair ∈ K then m.lastBeat else PairSt.init.lastBeat }

/-- The state with all but the pieces of a list blanked. -/
def State.only (s : State) (K : List Piece) : State :=
  { time := if .time ∈ K then s.time else State.reset.time
    regs := s.regs.only K
    pins := s.pins.only K
    nvm := s.nvm.only K
    evt := if .evt ∈ K then s.evt else State.reset.evt
    flt := s.flt.only K
    link := s.link.only K
    trx := s.trx.only K
    regul := if .regul ∈ K then s.regul else State.reset.regul
    chans := if .chans ∈ K then s.chans else State.reset.chans
    array := if .array ∈ K then s.array else State.reset.array
    tab := if .tab ∈ K then s.tab else State.reset.tab
    capo := if .capo ∈ K then s.capo else State.reset.capo
    sensors := if .sensors ∈ K then s.sensors else State.reset.sensors
    sec := s.sec.only K
    cal := if .cal ∈ K then s.cal else State.reset.cal
    pwr := s.pwr.only K
    boot := if .boot ∈ K then s.boot else State.reset.boot
    pair := s.pair.only K
    rpr := if .rpr ∈ K then s.rpr else State.reset.rpr
    upd := if .upd ∈ K then s.upd else State.reset.upd
    free := if .free ∈ K then s.free else State.reset.free
    pending := if .pending ∈ K then s.pending else State.reset.pending }

/-! ### Fewer pieces -/

theorem ite_mem_of_subset {α : Type} {K L : List Piece} (hK : K ⊆ L) (p : Piece) (a b : α) :
    (if p ∈ K then (if p ∈ L then a else b) else b) = if p ∈ K then a else b := by
  by_cases hp : p ∈ K
  · rw [if_pos hp, if_pos hp, if_pos (hK hp)]
  · rw [if_neg hp, if_neg hp]

theorem State.only_only {K L : List Piece} (hK : K ⊆ L) (s : State) : (s.only L).only K = s.only K := by
  simp only [State.only, RegSt.only, PinSt.only, NvmSt.only, FltSt.only, LinkSt.only, TrxSt.only, SecSt.only, PwrSt.only,
      PairSt.only,
    ite_mem_of_subset hK]

/-- States that agree on some pieces agree on fewer. -/
theorem State.only_mono {s t : State} {K L : List Piece} (hK : K ⊆ L) (h : t.only L = s.only L) : t.only K = s.only K := by
  rw [← State.only_only hK t, h, State.only_only hK]

/-! ### From pieces to parts -/

/-- Every piece. -/
def Piece.all : List Piece :=
  [.time, .conf, .commits, .posted, .snap, .regs, .inputs, .wrstN, .pins, .mem, .nvm, .evt, .pinFlt, .flt, .lanes, .courses,
   .link, .reqs, .keyOps, .trx, .regul, .chans, .array, .tab, .capo, .sensors, .slots, .sec, .cal, .doms, .cgs, .pwr, .boot,
   .role, .pair, .rpr, .upd, .free, .pending]

theorem Piece.mem_all (p : Piece) : p ∈ Piece.all := by cases p <;> decide

/-- Where every piece outside a list of parts is kept, nothing but those parts is changed. -/
theorem State.changesOnly_of_only {s t : State} {K : List Piece} {l : List Part} (h : t.only K = s.only K)
    (hl : Piece.all.all (fun p => decide (p.part ∈ l) || decide (p ∈ K)) = true := by decide) : s.changesOnly t l := by
  have hmem : ∀ p : Piece, p.part ∉ l → p ∈ K := fun p hp => by
    simpa [hp] using List.all_eq_true.1 hl p p.mem_all
  intro p hp
  cases p
  case time =>
    have := congrArg State.time h
    simp only [State.only, hmem .time hp, if_true] at this
    exact this
  case regs =>
    have := congrArg State.regs h
    simp only [State.only, RegSt.only, hmem .conf hp, hmem .commits hp, hmem .posted hp, hmem .snap hp, hmem .regs hp,
        if_true] at this
    exact this
  case pins =>
    have := congrArg State.pins h
    simp only [State.only, PinSt.only, hmem .inputs hp, hmem .wrstN hp, hmem .pins hp, if_true] at this
    exact this
  case nvm =>
    have := congrArg State.nvm h
    simp only [State.only, NvmSt.only, hmem .mem hp, hmem .nvm hp, if_true] at this
    exact this
  case evt =>
    have := congrArg State.evt h
    simp only [State.only, hmem .evt hp, if_true] at this
    exact this
  case flt =>
    have := congrArg State.flt h
    simp only [State.only, FltSt.only, hmem .pinFlt hp, hmem .flt hp, if_true] at this
    exact this
  case link =>
    have := congrArg State.link h
    simp only [State.only, LinkSt.only, hmem .lanes hp, hmem .courses hp, hmem .link hp, if_true] at this
    exact this
  case trx =>
    have := congrArg State.trx h
    simp only [State.only, TrxSt.only, hmem .reqs hp, hmem .keyOps hp, hmem .trx hp, if_true] at this
    exact this
  case regul =>
    have := congrArg State.regul h
    simp only [State.only, hmem .regul hp, if_true] at this
    exact this
  case chans =>
    have := congrArg State.chans h
    simp only [State.only, hmem .chans hp, if_true] at this
    exact this
  case array =>
    have := congrArg State.array h
    simp only [State.only, hmem .array hp, if_true] at this
    exact this
  case tab =>
    have := congrArg State.tab h
    simp only [State.only, hmem .tab hp, if_true] at this
    exact this
  case capo =>
    have := congrArg State.capo h
    simp only [State.only, hmem .capo hp, if_true] at this
    exact this
  case sensors =>
    have := congrArg State.sensors h
    simp only [State.only, hmem .sensors hp, if_true] at this
    exact this
  case sec =>
    have := congrArg State.sec h
    simp only [State.only, SecSt.only, hmem .slots hp, hmem .sec hp, if_true] at this
    exact this
  case cal =>
    have := congrArg State.cal h
    simp only [State.only, hmem .cal hp, if_true] at this
    exact this
  case pwr =>
    have := congrArg State.pwr h
    simp only [State.only, PwrSt.only, hmem .doms hp, hmem .cgs hp, hmem .pwr hp, if_true] at this
    exact this
  case boot =>
    have := congrArg State.boot h
    simp only [State.only, hmem .boot hp, if_true] at this
    exact this
  case pair =>
    have := congrArg State.pair h
    simp only [State.only, PairSt.only, hmem .role hp, hmem .pair hp, if_true] at this
    exact this
  case rpr =>
    have := congrArg State.rpr h
    simp only [State.only, hmem .rpr hp, if_true] at this
    exact this
  case upd =>
    have := congrArg State.upd h
    simp only [State.only, hmem .upd hp, if_true] at this
    exact this
  case free =>
    have := congrArg State.free h
    simp only [State.only, hmem .free hp, if_true] at this
    exact this
  case pending =>
    have := congrArg State.pending h
    simp only [State.only, hmem .pending hp, if_true] at this
    exact this

/-! ### The combinators -/

@[simp] theorem State.only_ite (K : List Piece) (p : Prop) [Decidable p] (s t : State) :
    (if p then s else t).only K = if p then s.only K else t.only K := by split_ifs <;> rfl

@[simp] theorem State.only_when (K : List Piece) (c : Bool) (f : State → State) (s : State) :
    (when c f s).only K = if c = true then (f s).only K else s.only K := by cases c <;> rfl

@[simp] theorem State.only_withSome {α : Type} {K : List Piece} {f : α → State → State}
    (hf : ∀ a s, (f a s).only K = s.only K) (o : Option α) (s : State) : (withSome o f s).only K = s.only K := by
  cases o with
  | none => rfl
  | some a => exact hf a s

@[simp] theorem State.only_forAll {α : Type} {K : List Piece} {f : α → State → State}
    (hf : ∀ a s, (f a s).only K = s.only K) (xs : List α) (s : State) : (forAll xs f s).only K = s.only K := by
  unfold forAll
  induction xs generalizing s with
  | nil => rfl
  | cons a xs ih => exact (ih (f a s)).trans (hf a s)

/-! ### One part replaced -/

@[simp] theorem State.only_time {K : List Piece} (hK : .time ∉ K) (s : State) (x) :
    State.only { s with time := x } K = s.only K := by simp only [State.only, if_neg hK]

@[simp] theorem State.only_regs {K : List Piece} (s : State) {x} (hx : RegSt.only x K = s.regs.only K) :
    State.only { s with regs := x } K = s.only K := by simp only [State.only, hx]

@[simp] theorem State.only_pins {K : List Piece} (s : State) {x} (hx : PinSt.only x K = s.pins.only K) :
    State.only { s with pins := x } K = s.only K := by simp only [State.only, hx]

@[simp] theorem State.only_nvm {K : List Piece} (s : State) {x} (hx : NvmSt.only x K = s.nvm.only K) :
    State.only { s with nvm := x } K = s.only K := by simp only [State.only, hx]

@[simp] theorem State.only_evt {K : List Piece} (hK : .evt ∉ K) (s : State) (x) :
    State.only { s with evt := x } K = s.only K := by simp only [State.only, if_neg hK]

@[simp] theorem State.only_flt {K : List Piece} (s : State) {x} (hx : FltSt.only x K = s.flt.only K) :
    State.only { s with flt := x } K = s.only K := by simp only [State.only, hx]

@[simp] theorem State.only_link {K : List Piece} (s : State) {x} (hx : LinkSt.only x K = s.link.only K) :
    State.only { s with link := x } K = s.only K := by simp only [State.only, hx]

@[simp] theorem State.only_trx {K : List Piece} (s : State) {x} (hx : TrxSt.only x K = s.trx.only K) :
    State.only { s with trx := x } K = s.only K := by simp only [State.only, hx]

@[simp] theorem State.only_regul {K : List Piece} (hK : .regul ∉ K) (s : State) (x) :
    State.only { s with regul := x } K = s.only K := by simp only [State.only, if_neg hK]

@[simp] theorem State.only_chans {K : List Piece} (hK : .chans ∉ K) (s : State) (x) :
    State.only { s with chans := x } K = s.only K := by simp only [State.only, if_neg hK]

@[simp] theorem State.only_array {K : List Piece} (hK : .array ∉ K) (s : State) (x) :
    State.only { s with array := x } K = s.only K := by simp only [State.only, if_neg hK]

@[simp] theorem State.only_tab {K : List Piece} (hK : .tab ∉ K) (s : State) (x) :
    State.only { s with tab := x } K = s.only K := by simp only [State.only, if_neg hK]

@[simp] theorem State.only_capo {K : List Piece} (hK : .capo ∉ K) (s : State) (x) :
    State.only { s with capo := x } K = s.only K := by simp only [State.only, if_neg hK]

@[simp] theorem State.only_sensors {K : List Piece} (hK : .sensors ∉ K) (s : State) (x) :
    State.only { s with sensors := x } K = s.only K := by simp only [State.only, if_neg hK]

@[simp] theorem State.only_sec {K : List Piece} (s : State) {x} (hx : SecSt.only x K = s.sec.only K) :
    State.only { s with sec := x } K = s.only K := by simp only [State.only, hx]

@[simp] theorem State.only_cal {K : List Piece} (hK : .cal ∉ K) (s : State) (x) :
    State.only { s with cal := x } K = s.only K := by simp only [State.only, if_neg hK]

@[simp] theorem State.only_pwr {K : List Piece} (s : State) {x} (hx : PwrSt.only x K = s.pwr.only K) :
    State.only { s with pwr := x } K = s.only K := by simp only [State.only, hx]

@[simp] theorem State.only_boot {K : List Piece} (hK : .boot ∉ K) (s : State) (x) :
    State.only { s with boot := x } K = s.only K := by simp only [State.only, if_neg hK]

@[simp] theorem State.only_pair {K : List Piece} (s : State) {x} (hx : PairSt.only x K = s.pair.only K) :
    State.only { s with pair := x } K = s.only K := by simp only [State.only, hx]

@[simp] theorem State.only_rpr {K : List Piece} (hK : .rpr ∉ K) (s : State) (x) :
    State.only { s with rpr := x } K = s.only K := by simp only [State.only, if_neg hK]

@[simp] theorem State.only_upd {K : List Piece} (hK : .upd ∉ K) (s : State) (x) :
    State.only { s with upd := x } K = s.only K := by simp only [State.only, if_neg hK]

@[simp] theorem State.only_free {K : List Piece} (hK : .free ∉ K) (s : State) (x) :
    State.only { s with free := x } K = s.only K := by simp only [State.only, if_neg hK]

@[simp] theorem State.only_pending {K : List Piece} (hK : .pending ∉ K) (s : State) (x) :
    State.only { s with pending := x } K = s.only K := by simp only [State.only, if_neg hK]

/-! ### Several parts replaced -/

@[simp] theorem State.only_link_pins {K : List Piece} (s : State) {x} {y} (hx : LinkSt.only x K = s.link.only K)
    (hy : PinSt.only y K = s.pins.only K) :
    State.only { s with link := x, pins := y } K = s.only K := by simp only [State.only, hx, hy]

@[simp] theorem State.only_evt_flt {K : List Piece} (s : State) {y} (hx : .evt ∉ K) (hy : FltSt.only y K = s.flt.only K) (x) :
    State.only { s with evt := x, flt := y } K = s.only K := by simp only [State.only, hx, hy, if_false]

@[simp] theorem State.only_sec_cal {K : List Piece} (s : State) {x} (hx : SecSt.only x K = s.sec.only K) (hy : .cal ∉ K) (y) :
    State.only { s with sec := x, cal := y } K = s.only K := by simp only [State.only, hx, hy, if_false]

@[simp] theorem State.only_array_sec {K : List Piece} (s : State) {y} (hx : .array ∉ K) (hy : SecSt.only y K = s.sec.only K) (x) :
    State.only { s with array := x, sec := y } K = s.only K := by simp only [State.only, hx, hy, if_false]

@[simp] theorem State.only_capo_sensors {K : List Piece} (s : State) (hx : .capo ∉ K) (hy : .sensors ∉ K) (x) (y) :
    State.only { s with capo := x, sensors := y } K = s.only K := by simp only [State.only, hx, hy, if_false]

@[simp] theorem State.only_boot_tab {K : List Piece} (s : State) (hx : .boot ∉ K) (hy : .tab ∉ K) (x) (y) :
    State.only { s with boot := x, tab := y } K = s.only K := by simp only [State.only, hx, hy, if_false]

@[simp] theorem State.only_boot_sec {K : List Piece} (s : State) {y} (hx : .boot ∉ K) (hy : SecSt.only y K = s.sec.only K) (x) :
    State.only { s with boot := x, sec := y } K = s.only K := by simp only [State.only, hx, hy, if_false]

@[simp] theorem State.only_boot_sec_upd {K : List Piece} (s : State) {y} (hx : .boot ∉ K) (hy : SecSt.only y K = s.sec.only K)
    (hz : .upd ∉ K) (x) (z) :
    State.only { s with boot := x, sec := y, upd := z } K = s.only K := by simp only [State.only, hx, hy, hz, if_false]

@[simp] theorem State.only_boot_pair {K : List Piece} (s : State) {y} (hx : .boot ∉ K) (hy : PairSt.only y K = s.pair.only K) (x) :
    State.only { s with boot := x, pair := y } K = s.only K := by simp only [State.only, hx, hy, if_false]

@[simp] theorem State.only_boot_flt_pins_trx {K : List Piece} (s : State) {y} {z} {w} (hx : .boot ∉ K)
    (hy : FltSt.only y K = s.flt.only K) (hz : PinSt.only z K = s.pins.only K) (hw : TrxSt.only w K = s.trx.only K) (x) :
    State.only { s with boot := x, flt := y, pins := z, trx := w } K = s.only K := by simp only [State.only, hx, hy, hz, hw,
        if_false]

@[simp] theorem State.only_pair_sec {K : List Piece} (s : State) {x} {y} (hx : PairSt.only x K = s.pair.only K)
    (hy : SecSt.only y K = s.sec.only K) :
    State.only { s with pair := x, sec := y } K = s.only K := by simp only [State.only, hx, hy]

@[simp] theorem State.only_pins_pair {K : List Piece} (s : State) {x} {y} (hx : PinSt.only x K = s.pins.only K)
    (hy : PairSt.only y K = s.pair.only K) :
    State.only { s with pins := x, pair := y } K = s.only K := by simp only [State.only, hx, hy]

@[simp] theorem State.only_rpr_array {K : List Piece} (s : State) (hx : .rpr ∉ K) (hy : .array ∉ K) (x) (y) :
    State.only { s with rpr := x, array := y } K = s.only K := by simp only [State.only, hx, hy, if_false]

@[simp] theorem State.only_link_sec {K : List Piece} (s : State) {x} {y} (hx : LinkSt.only x K = s.link.only K)
    (hy : SecSt.only y K = s.sec.only K) :
    State.only { s with link := x, sec := y } K = s.only K := by simp only [State.only, hx, hy]

end Sys2Proof.Machine
end

section
/-! PROOFS. The frame of each operation of the model: the pieces of the state that it leaves (`State.only`). A lemma's hypothesis names
the pieces that its operation may write, or, where those are many, the pieces that it keeps. -/

namespace Sys2Proof.Machine

@[simp] theorem State.useFree_only {K : List Piece} (hK : .free ∉ K) (s : State) : s.useFree.only K = s.only K := by
  simp [State.useFree, hK]

@[simp] theorem State.putForce_only {K : List Piece} (hK : .conf ∉ K) (s : State) (f : Field) (n i v : Nat) :
    (s.putForce f n i v).only K = s.only K := by
  simp [State.putForce, hK, RegSt.only]

@[simp] theorem State.stickBits_only {K : List Piece} (hK : .regs ∉ K) (s : State) (f : Field) (n v : Nat) :
    (s.stickBits f n v).only K = s.only K := by
  simp [State.stickBits, hK, RegSt.only]

@[simp] theorem State.stick_only {K : List Piece} (hK : .regs ∉ K) (s : State) (f : Field) : (s.stick f).only K = s.only K := by
  simp [State.stick, hK]

@[simp] theorem State.countBy_only {K : List Piece} (hK : .regs ∉ K) (s : State) (off k : Nat) :
    (s.countBy off k).only K = s.only K := by
  unfold State.countBy
  split <;> simp [hK, RegSt.only]

@[simp] theorem State.count_only {K : List Piece} (hK : .regs ∉ K) (s : State) (off : Nat) : (s.count off).only K = s.only K := by
  simp [State.count, hK]

@[simp] theorem State.nvmJob_only {K : List Piece} (hK : .nvm ∉ K) (s : State) (why : NvmWhy) (write : Bool) (words : List
    (Nat × BitVec 64)) : (s.nvmJob why write words).only K = s.only K := by
  unfold State.nvmJob
  split <;> simp [hK, NvmSt.only]

@[simp] theorem State.nvmRecord_only {K : List Piece} (hK : .nvm ∉ K) (s : State) (why : NvmWhy) (a : Nat)
    (l : List Byte) : (s.nvmRecord why a l).only K = s.only K := by
  simp [State.nvmRecord, hK]

@[simp] theorem State.landWords_only {K : List Piece} (hK : .mem ∉ K ∧ .nvm ∉ K) (s : State) (l : List (Nat × BitVec 64)) :
    (s.landWords l).only K = s.only K := by
  simp [State.landWords, hK, NvmSt.only]

@[simp] theorem State.endJob_only {K : List Piece} (hK : .mem ∉ K ∧ .nvm ∉ K) (s : State) (p : NvmWhy → Bool) (ok : Bool) :
    (s.endJob p ok).only K = s.only K := by
  unfold State.endJob
  split <;> simp [hK, NvmSt.only]

@[simp] theorem State.setDom_only {K : List Piece} (hK : .doms ∉ K) (s : State) (d : Nat) (f : Domain → Domain) :
    (s.setDom d f).only K = s.only K := by
  simp [State.setDom, hK, PwrSt.only]

@[simp] theorem State.refuseEntry_only {K : List Piece} (hK : .regs ∉ K ∧ .pwr ∉ K) (s : State) (d reason : Nat) :
    (s.refuseEntry d reason).only K = s.only K := by
  simp [State.refuseEntry, hK, PwrSt.only]

@[simp] theorem State.beginWake_only {K : List Piece} (hK : .pins ∉ K ∧ .doms ∉ K) (s : State) (d : Nat) :
    (s.beginWake d).only K = s.only K := by
  simp [State.only, State.beginWake, hK, PinSt.only, PwrSt.only]

@[simp] theorem State.wakeOne_only {K : List Piece} (hK : .regs ∉ K ∧ .pins ∉ K ∧ .doms ∉ K ∧ .pwr ∉ K) (s : State) (d : Nat) :
    (s.wakeOne d).only K = s.only K := by
  unfold State.wakeOne
  repeat' split
  all_goals simp [hK]

@[simp] theorem State.wake_only {K : List Piece} (hK : .regs ∉ K ∧ .pins ∉ K ∧ .doms ∉ K ∧ .pwr ∉ K) (s : State)
    (d : Nat) : (s.wake d).only K = s.only K := by
  unfold State.wake
  split <;> simp [hK]

@[simp] theorem State.assertPin_only {K : List Piece} (hK : .pinFlt ∉ K) (s : State) : s.assertPin.only K = s.only K := by
  simp [State.assertPin, hK, FltSt.only]

@[simp] theorem State.queueRec_only {K : List Piece} (hK : .regs ∉ K ∧ .pins ∉ K ∧ .evt ∉ K ∧ .doms ∉ K ∧ .pwr ∉ K) (s : State)
    (r : EvRec) : (s.queueRec r).only K = s.only K := by
  simp [State.queueRec, hK]

@[simp] theorem State.retireNewest_only {K : List Piece} (hK : .regs ∉ K ∧ .pins ∉ K ∧ .evt ∉ K ∧ .doms ∉ K ∧ .pwr ∉ K)
    (s : State) : s.retireNewest.only K = s.only K := by
  unfold State.retireNewest
  split <;> simp [hK]

@[simp] theorem State.pushRec_only {K : List Piece} (hK : .regs ∉ K ∧ .pins ∉ K ∧ .evt ∉ K ∧ .doms ∉ K ∧ .pwr ∉ K) (s : State)
    (e : EvRec) : (s.pushRec e).only K = s.only K := by
  unfold State.pushRec
  split <;> simp [hK]

@[simp] theorem State.eventP_only {K : List Piece} (hK : .regs ∉ K ∧ .pins ∉ K ∧ .evt ∉ K ∧ .pinFlt ∉ K ∧ .doms ∉ K ∧ .pwr ∉ K)
    (s : State) (partner : Bool) (source code sev : Nat) (pl : BitVec 96) :
    (s.eventP partner source code sev pl).only K = s.only K := by
  unfold State.eventP
  dsimp only
  split <;> simp [hK]

@[simp] theorem State.event_only {K : List Piece} (hK : .regs ∉ K ∧ .pins ∉ K ∧ .evt ∉ K ∧ .pinFlt ∉ K ∧ .doms ∉ K ∧ .pwr ∉ K)
    (s : State) (source code sev : Nat) (pl : List (Nat × Nat × Nat)) : (s.event source code sev pl).only K = s.only K := by
  simp [State.event, hK]

@[simp] theorem State.nvmFail_only {K : List Piece} (hK : .regs ∉ K ∧ .pins ∉ K ∧ .evt ∉ K ∧ .pinFlt ∉ K ∧ .doms ∉ K ∧
    .pwr ∉ K) (s : State) (addr : Nat) (err write : Bool) : (s.nvmFail addr err write).only K = s.only K := by
  simp [State.nvmFail, hK]

@[simp] theorem State.readsOf_only {K : List Piece} (hK : .regs ∉ K ∧ .pins ∉ K ∧ .evt ∉ K ∧ .pinFlt ∉ K ∧ .doms ∉ K ∧
    .pwr ∉ K) (s : State) (a n : Nat) : (s.readsOf a n).only K = s.only K := by
  simp [State.readsOf, hK]

@[simp] theorem State.keepCause_only {K : List Piece} (hK : .regs ∉ K ∧ .pins ∉ K ∧ .evt ∉ K ∧ .doms ∉ K ∧ .pwr ∉ K)
    (s : State) (p : EvRec → Bool) : (s.keepCause p).only K = s.only K := by
  unfold State.keepCause
  repeat' split
  all_goals simp [hK]

@[simp] theorem State.flushHold_only {K : List Piece} (hK : .regs ∉ K ∧ .pins ∉ K ∧ .evt ∉ K ∧ .pinFlt ∉ K ∧ .doms ∉ K ∧
    .pwr ∉ K) (s : State) : s.flushHold.only K = s.only K := by
  simp [State.flushHold, hK]

@[simp] theorem State.sendUp_only {K : List Piece} (hK : .link ∉ K) (s : State) (cells : List Cell) (done : Completes)
    (fenceOf : Option Nat) : (s.sendUp cells done fenceOf).only K = s.only K := by
  simp [State.sendUp, hK, LinkSt.only]

@[simp] theorem State.acct_only {K : List Piece} (hK : .trx ∉ K) (s : State) (write : Bool) (f : TagAcct → TagAcct) :
    (s.acct write f).only K = s.only K := by
  unfold State.acct
  split <;> simp [hK, TrxSt.only]

@[simp] theorem State.setReq_only {K : List Piece} (hK : .reqs ∉ K) (s : State) (uid : Nat) (f : Req → Req) :
    (s.setReq uid f).only K = s.only K := by
  simp [State.setReq, hK, TrxSt.only]

@[simp] theorem State.dropReq_only {K : List Piece} (hK : .reqs ∉ K) (s : State) (uid : Nat) :
    (s.dropReq uid).only K = s.only K := by
  simp [State.dropReq, hK, TrxSt.only]

@[simp] theorem State.freeReqCells_only {K : List Piece} (hK : .link ∉ K) (s : State) (n : Nat) :
    (s.freeReqCells n).only K = s.only K := by
  simp [State.freeReqCells, hK, LinkSt.only]

@[simp] theorem State.freeWdCells_only {K : List Piece} (hK : .link ∉ K) (s : State) (n : Nat) :
    (s.freeWdCells n).only K = s.only K := by
  simp [State.freeWdCells, hK, LinkSt.only]

@[simp] theorem State.freeMgtCells_only {K : List Piece} (hK : .link ∉ K) (s : State) (n : Nat) :
    (s.freeMgtCells n).only K = s.only K := by
  simp [State.freeMgtCells, hK, LinkSt.only]

@[simp] theorem State.takePool_only {K : List Piece} (hK : .link ∉ K ∧ .reqs ∉ K ∧ .regul ∉ K) (s : State) :
    s.takePool.only K = s.only K := by
  unfold State.takePool
  split <;> simp [hK]

@[simp] theorem State.freePool_only {K : List Piece} (hK : .link ∉ K ∧ .reqs ∉ K ∧ .regul ∉ K) (s : State) :
    s.freePool.only K = s.only K := by
  simp [State.freePool, hK]

@[simp] theorem State.setChan_only {K : List Piece} (hK : .chans ∉ K) (s : State) (ch : Nat) (f : Chan → Chan) :
    (s.setChan ch f).only K = s.only K := by
  simp [State.setChan, hK]

@[simp] theorem State.setSlot_only {K : List Piece} (hK : .slots ∉ K) (s : State) (partner : Bool) (k : Nat)
    (f : KeySlot → KeySlot) : (s.setSlot partner k f).only K = s.only K := by
  unfold State.setSlot
  split <;> simp [hK, SecSt.only]

@[simp] theorem State.setCtx_only {K : List Piece} (hK : .regul ∉ K) (s : State) (k : Nat) (f : Ctx → Ctx) :
    (s.setCtx k f).only K = s.only K := by
  simp [State.setCtx, hK]

@[simp] theorem State.lineDone_only {K : List Piece} (hK : .regs ∉ K ∧ .regul ∉ K) (s : State) (k : Nat) :
    (s.lineDone k).only K = s.only K := by
  simp [State.lineDone, hK]

@[simp] theorem State.leaveCtx_only {K : List Piece} (hK : .regul ∉ K) (s : State) (r : Req) :
    (s.leaveCtx r).only K = s.only K := by
  unfold State.leaveCtx
  split <;> simp [hK]

@[simp] theorem State.slotBack_only {K : List Piece} (hK : .regul ∉ K) (s : State) (r : Req) :
    (s.slotBack r).only K = s.only K := by
  unfold State.slotBack
  split <;> simp [hK]

@[simp] theorem State.useBack_only {K : List Piece} (hK : .slots ∉ K) (s : State) (r : Req) :
    (s.useBack r).only K = s.only K := by
  simp [State.useBack, hK]

@[simp] theorem State.acctBack_only {K : List Piece} (hK : .chans ∉ K) (s : State) (r : Req) :
    (s.acctBack r).only K = s.only K := by
  simp [State.acctBack, hK]

@[simp] theorem State.cellsBack_only {K : List Piece} (hK : .link ∉ K ∧ .reqs ∉ K ∧ .regul ∉ K) (s : State) (r : Req) :
    (s.cellsBack r).only K = s.only K := by
  unfold State.cellsBack
  repeat' split
  all_goals simp [hK]

@[simp] theorem State.progDone_only {K : List Piece} (hK : .trx ∉ K) (s : State) (point : Nat) :
    (s.progDone point).only K = s.only K := by
  simp [State.progDone, hK, TrxSt.only]

@[simp] theorem State.endReq_only {K : List Piece} (hK : .link ∉ K ∧ .reqs ∉ K ∧ .trx ∉ K ∧ .regul ∉ K ∧ .chans ∉ K ∧
    .slots ∉ K) (s : State) (r : Req) : (s.endReq r).only K = s.only K := by
  simp [State.endReq, hK]

@[simp] theorem State.answer_only {K : List Piece} (hK : .link ∉ K ∧ .trx ∉ K) (s : State) (write : Bool) (tag : Nat)
    (cells : List Cell) (fenceOf : Option Nat) : (s.answer write tag cells fenceOf).only K = s.only K := by
  simp [State.answer, hK, TrxSt.only]

@[simp] theorem State.noteErr_only {K : List Piece} (hK : .regs ∉ K) (s : State) (code : ErrCode) :
    (s.noteErr code).only K = s.only K := by
  unfold State.noteErr
  split <;> simp [hK]

@[simp] theorem State.notice_only {K : List Piece} (hK : .regs ∉ K ∧ .link ∉ K) (s : State) (code : ErrCode) (tag detail : Nat)
    (mt : Bool) : (s.notice code tag detail mt).only K = s.only K := by
  simp [State.notice, hK]

@[simp] theorem State.fail_only {K : List Piece} (hK : .regs ∉ K ∧ .link ∉ K ∧ .reqs ∉ K ∧ .trx ∉ K ∧ .regul ∉ K ∧
    .chans ∉ K ∧ .slots ∉ K) (s : State) (r : Req) (code : ErrCode) (detail : Nat) :
    (s.fail r code detail).only K = s.only K := by
  simp [State.fail, hK]

@[simp] theorem State.leaveReads_only {K : List Piece} (hK : .chans ∉ K) (s : State) (r : Req) :
    (s.leaveReads r).only K = s.only K := by
  simp [State.leaveReads, hK]

@[simp] theorem State.failMgt_only {K : List Piece} (hK : .regs ∉ K ∧ .link ∉ K) (s : State) (code : ErrCode)
    (mtag detail : Nat) : (s.failMgt code mtag detail).only K = s.only K := by
  simp [State.failMgt, hK]

@[simp] theorem State.wackMgt_only {K : List Piece} (hK : .link ∉ K) (s : State) (mtag : Nat) :
    (s.wackMgt mtag).only K = s.only K := by
  simp [State.wackMgt, hK]

@[simp] theorem State.wack_only {K : List Piece} (hK : .regs ∉ K ∧ .link ∉ K ∧ .reqs ∉ K ∧ .trx ∉ K ∧ .regul ∉ K ∧
    .chans ∉ K ∧ .slots ∉ K) (s : State) (r : Req) (ch wseq : Nat) : (s.wack r ch wseq).only K = s.only K := by
  unfold State.wack
  split <;> simp [hK]

@[simp] theorem State.wackPlain_only {K : List Piece} (hK : .link ∉ K ∧ .reqs ∉ K ∧ .trx ∉ K ∧ .regul ∉ K ∧ .chans ∉ K ∧
    .slots ∉ K) (s : State) (r : Req) (line : Option Nat) (fenceOf : Option Nat) :
    (s.wackPlain r line fenceOf).only K = s.only K := by
  simp [State.wackPlain, hK]

@[simp] theorem State.rdShort_only {K : List Piece} (hK : .link ∉ K ∧ .reqs ∉ K ∧ .trx ∉ K ∧ .regul ∉ K ∧ .chans ∉ K ∧
    .slots ∉ K) (s : State) (r : Req) (val : Word) : (s.rdShort r val).only K = s.only K := by
  simp [State.rdShort, hK]

@[simp] theorem State.rdLine_only {K : List Piece} (hK : .regs ∉ K ∧ .link ∉ K ∧ .reqs ∉ K ∧ .trx ∉ K ∧ .regul ∉ K ∧
    .chans ∉ K ∧ .slots ∉ K) (s : State) (r : Req) (idx status ch : Nat) (wv : Bool) (wseq : Nat) (data : BitVec 512) :
    (s.rdLine r idx status ch wv wseq data).only K = s.only K := by
  unfold State.rdLine
  split <;> simp [hK]

@[simp] theorem State.tagGone_only {K : List Piece} (hK : .trx ∉ K) (s : State) (write : Bool) (tag : Nat) :
    (s.tagGone write tag).only K = s.only K := by
  simp [State.tagGone, hK, TrxSt.only]

@[simp] theorem State.quarantine_only {K : List Piece} (hK : .trx ∉ K) (s : State) (write : Bool) (tag : Nat) (owing : List
    (Nat × Nat)) (uid : Nat) : (s.quarantine write tag owing uid).only K = s.only K := by
  simp [State.quarantine, hK, TrxSt.only]

@[simp] theorem State.lateData_only {K : List Piece} (hK : .regs ∉ K ∧ .trx ∉ K) (s : State) (uid ch : Nat) :
    (s.lateData uid ch).only K = s.only K := by
  simp [State.lateData, hK, TrxSt.only]

@[simp] theorem State.quarReady_only {K : List Piece} (hK : .trx ∉ K) (s : State) (ch : Nat) :
    (s.quarReady ch).only K = s.only K := by
  simp [State.quarReady, hK, TrxSt.only]

@[simp] theorem State.setPurse_only {K : List Piece} (hK : .capo ∉ K) (s : State) (g : Nat) (f : Purse → Purse) :
    (s.setPurse g f).only K = s.only K := by
  simp [State.setPurse, hK]

@[simp] theorem State.dropDraw_only {K : List Piece} (hK : .chans ∉ K ∧ .capo ∉ K) (s : State) (ch : Nat) :
    (s.dropDraw ch).only K = s.only K := by
  simp [State.dropDraw, hK]

@[simp] theorem State.bumpGen_only {K : List Piece} (hK : .flt ∉ K) (s : State) : s.bumpGen.only K = s.only K := by
  simp [State.bumpGen, hK, FltSt.only]

@[simp] theorem State.lastFault_only {K : List Piece} (hK : .flt ∉ K) (s : State) (sev source code : Nat) :
    (s.lastFault sev source code).only K = s.only K := by
  simp [State.lastFault, hK, FltSt.only]

@[simp] theorem State.syncBatch_only {K : List Piece} (hK : .chans ∉ K) (s : State) (ch : Nat) :
    (s.syncBatch ch).only K = s.only K := by
  simp [State.syncBatch, hK]

@[simp] theorem State.cutChannel_only {K : List Piece} (hK : .regs ∉ K ∧ .link ∉ K ∧ .reqs ∉ K ∧ .trx ∉ K ∧ .regul ∉ K ∧
    .chans ∉ K ∧ .capo ∉ K ∧ .slots ∉ K) (s : State) (ch : Nat) (p : Nat → Bool) : (s.cutChannel ch p).only K = s.only K := by
  simp [State.cutChannel, hK]

@[simp] theorem State.cutUnit_only {K : List Piece} (hK : .regs ∉ K ∧ .link ∉ K ∧ .reqs ∉ K ∧ .trx ∉ K ∧ .regul ∉ K ∧
    .chans ∉ K ∧ .capo ∉ K ∧ .slots ∉ K) (s : State) (u : FUnit) (i : Nat) : (s.cutUnit u i).only K = s.only K := by
  unfold State.cutUnit
  split <;> simp [hK]

@[simp] theorem State.driveResets_only {K : List Piece} (hK : .pins ∉ K) (s : State) (u : FUnit) (i : Nat) :
    (s.driveResets u i).only K = s.only K := by
  simp [State.driveResets, hK, PinSt.only]

@[simp] theorem State.noteChannels_only {K : List Piece} (hK : .regs ∉ K) (s : State) (u : FUnit) (i : Nat) :
    (s.noteChannels u i).only K = s.only K := by
  unfold State.noteChannels
  split <;> simp [hK]

@[simp] theorem State.fenceUnit_only {K : List Piece} (hK : .regs ∉ K ∧ .pins ∉ K ∧ .evt ∉ K ∧ .pinFlt ∉ K ∧ .flt ∉ K ∧
    .link ∉ K ∧ .reqs ∉ K ∧ .trx ∉ K ∧ .regul ∉ K ∧ .chans ∉ K ∧ .capo ∉ K ∧ .slots ∉ K ∧ .doms ∉ K ∧ .pwr ∉ K) (s : State)
    (u : FUnit) (i reason : Nat) (cause : Option (Nat × Nat)) : (s.fenceUnit u i reason cause).only K = s.only K := by
  unfold State.fenceUnit
  dsimp only
  repeat' split
  all_goals simp [hK, FltSt.only]

@[simp] theorem State.fatalFault_only {K : List Piece} (hK : K ⊆ [.time, .conf, .commits, .posted, .snap, .inputs, .wrstN,
    .mem, .nvm, .lanes, .courses, .keyOps, .array, .tab, .sensors, .sec, .cal, .cgs, .boot, .role, .rpr, .upd, .free,
    .pending]) (s : State) (source code reason : Nat) : (s.fatalFault source code reason).only K = s.only K := by
  refine State.only_mono hK ?_
  unfold State.fatalFault
  split <;> simp [PinSt.only, FltSt.only, PairSt.only]

@[simp] theorem State.dropMark_only {K : List Piece} (hK : .flt ∉ K) (s : State) (u : FUnit) (i : Nat) :
    (s.dropMark u i).only K = s.only K := by
  simp [State.dropMark, hK, FltSt.only]

@[simp] theorem State.epochUp_only {K : List Piece} (hK : .flt ∉ K ∧ .chans ∉ K) (s : State) (ch : Nat) :
    (s.epochUp ch).only K = s.only K := by
  simp [State.epochUp, hK, FltSt.only]

@[simp] theorem State.reinitChannel_only {K : List Piece} (hK : .regs ∉ K ∧ .pins ∉ K ∧ .evt ∉ K ∧ .pinFlt ∉ K ∧ .chans ∉ K ∧
    .doms ∉ K ∧ .pwr ∉ K) (s : State) (ch : Nat) : (s.reinitChannel ch).only K = s.only K := by
  simp [State.reinitChannel, hK]

@[simp] theorem State.undefineLines_only {K : List Piece} (hK : .array ∉ K) (s : State) (u : FUnit) (i : Nat) :
    (s.undefineLines u i).only K = s.only K := by
  simp [State.undefineLines, hK]

@[simp] theorem State.serviceBack_only {K : List Piece} (hK : .regs ∉ K ∧ .pins ∉ K ∧ .evt ∉ K ∧ .pinFlt ∉ K ∧ .flt ∉ K ∧
    .chans ∉ K ∧ .array ∉ K ∧ .doms ∉ K ∧ .pwr ∉ K) (s : State) (u : FUnit) (i : Nat) :
    (s.serviceBack u i).only K = s.only K := by
  simp [State.serviceBack, hK]

@[simp] theorem State.unfenceIgnored_only {K : List Piece} (hK : .regs ∉ K ∧ .pins ∉ K ∧ .evt ∉ K ∧ .pinFlt ∉ K ∧ .doms ∉ K ∧
    .pwr ∉ K) (s : State) (u : FUnit) (i : Nat) : (s.unfenceIgnored u i).only K = s.only K := by
  simp [State.unfenceIgnored, hK]

@[simp] theorem State.entropy_only {K : List Piece} (hK : .free ∉ K) (s : State) : (s.entropy).2.only K = s.only K := by
  simp [State.entropy, hK]

@[simp] theorem State.startDrbg_only {K : List Piece} (hK : .sec ∉ K ∧ .free ∉ K) (s : State) :
    s.startDrbg.only K = s.only K := by
  simp [State.startDrbg, hK, SecSt.only]

@[simp] theorem State.reseed_only {K : List Piece} (hK : .regs ∉ K ∧ .sec ∉ K ∧ .free ∉ K) (s : State) :
    s.reseed.only K = s.only K := by
  simp [State.reseed, hK, SecSt.only]

@[simp] theorem State.random_only {K : List Piece} (hK : .regs ∉ K ∧ .sec ∉ K ∧ .free ∉ K) (s : State) (n : Nat) :
    (s.random n).2.only K = s.only K := by
  simp [State.random, hK, SecSt.only]

@[simp] theorem State.drawKeys_only {K : List Piece} (hK : .regs ∉ K ∧ .sec ∉ K ∧ .free ∉ K) (s : State) :
    (s.drawKeys).2.only K = s.only K := by
  simp [State.drawKeys, hK, SecSt.only]

@[simp] theorem State.createSlot_only {K : List Piece} (hK : .regs ∉ K ∧ .slots ∉ K ∧ .sec ∉ K ∧ .free ∉ K) (s : State)
    (k cls : Nat) (meta1 : Bool) : (s.createSlot k cls meta1).only K = s.only K := by
  simp [State.createSlot, hK]

@[simp] theorem State.zeroSlot_only {K : List Piece} (hK : .slots ∉ K) (s : State) (partner : Bool) (k : Nat) :
    (s.zeroSlot partner k).only K = s.only K := by
  simp [State.zeroSlot, hK]

@[simp] theorem State.spoil_only {K : List Piece} (hK : .slots ∉ K) (s : State) (partner : Bool) (k bad : Nat) :
    (s.spoil partner k bad).only K = s.only K := by
  simp [State.spoil, hK]

@[simp] theorem State.loadSlot_only {K : List Piece} (hK : .regs ∉ K ∧ .pins ∉ K ∧ .evt ∉ K ∧ .pinFlt ∉ K ∧ .flt ∉ K ∧
    .link ∉ K ∧ .reqs ∉ K ∧ .trx ∉ K ∧ .regul ∉ K ∧ .chans ∉ K ∧ .capo ∉ K ∧ .slots ∉ K ∧ .doms ∉ K ∧ .pwr ∉ K) (s : State)
    (partner : Bool) (k half : Nat) : (s.loadSlot partner k half).only K = s.only K := by
  unfold State.loadSlot
  dsimp only
  split <;> simp [hK]

@[simp] theorem State.noteStatus_only {K : List Piece} (hK : .regs ∉ K ∧ .pins ∉ K ∧ .evt ∉ K ∧ .pinFlt ∉ K ∧ .doms ∉ K ∧
    .pwr ∉ K) (s : State) (status ch bank row laddr key : Nat) :
    (s.noteStatus status ch bank row laddr key).only K = s.only K := by
  simp [State.noteStatus, hK]

@[simp] theorem State.syncRefBal_only {K : List Piece} (hK : .capo ∉ K) (s : State) (g : Nat) :
    (s.syncRefBal g).only K = s.only K := by
  simp [State.syncRefBal, hK]

@[simp] theorem State.fillMute_only {K : List Piece} (hK : .regs ∉ K ∧ .capo ∉ K) (s : State) (g : Nat) :
    (s.fillMute g).only K = s.only K := by
  simp [State.fillMute, hK]

@[simp] theorem State.topUp_only {K : List Piece} (hK : .regs ∉ K ∧ .capo ∉ K) (s : State) (g : Nat) :
    (s.topUp g).only K = s.only K := by
  simp [State.topUp, hK]

@[simp] theorem State.publishFloor_only {K : List Piece} (hK : .regul ∉ K) (s : State) : s.publishFloor.only K = s.only K := by
  simp [State.publishFloor, hK]

@[simp] theorem State.takeBudget_only {K : List Piece} (hK : .regul ∉ K ∧ .capo ∉ K) (s : State) :
    s.takeBudget.only K = s.only K := by
  simp [State.takeBudget, hK]

@[simp] theorem State.purseBack_only {K : List Piece} (hK : .regs ∉ K ∧ .capo ∉ K) (s : State) (g : Nat) :
    (s.purseBack g).only K = s.only K := by
  simp [State.purseBack, hK]

@[simp] theorem State.refill_only {K : List Piece} (hK : .regs ∉ K ∧ .regul ∉ K ∧ .capo ∉ K) (s : State) :
    s.refill.only K = s.only K := by
  simp [State.refill, hK]

@[simp] theorem State.spend_only {K : List Piece} (hK : .regs ∉ K ∧ .trx ∉ K ∧ .capo ∉ K) (s : State) (ch sid cost : Nat) :
    (s.spend ch sid cost).only K = s.only K := by
  simp [State.spend, hK]

@[simp] theorem State.drawPurse_only {K : List Piece} (hK : .regs ∉ K ∧ .trx ∉ K ∧ .capo ∉ K) (s : State) (ch sid cost : Nat) :
    (s.drawPurse ch sid cost).only K = s.only K := by
  simp [State.drawPurse, hK]

@[simp] theorem State.waitDraw_only {K : List Piece} (hK : .regs ∉ K ∧ .capo ∉ K) (s : State) (ch cost : Nat) (urgent : Bool) :
    (s.waitDraw ch cost urgent).only K = s.only K := by
  simp [State.waitDraw, hK]

@[simp] theorem State.draw_only {K : List Piece} (hK : .regs ∉ K ∧ .trx ∉ K ∧ .chans ∉ K ∧ .capo ∉ K) (s : State)
    (ch sid cost : Nat) (waitsDie urgent : Bool) : (s.draw ch sid cost waitsDie urgent).2.only K = s.only K := by
  unfold State.draw
  dsimp only
  repeat' split
  all_goals simp [hK]

@[simp] theorem State.drawRef_only {K : List Piece} (hK : .regs ∉ K ∧ .trx ∉ K ∧ .chans ∉ K ∧ .capo ∉ K) (s : State)
    (ch sid : Nat) (owed : Int) (a : Agent) (urgent : Bool) : (s.drawRef ch sid owed a urgent).2.only K = s.only K := by
  unfold State.drawRef
  dsimp only
  split
  · simp [hK]
  · simp [hK]
  · have hdraw := State.draw_only hK s ch sid (s.cost 5) (a != .mute) urgent
    split <;> simp_all

@[simp] theorem State.drawNref_only {K : List Piece} (hK : .regs ∉ K ∧ .trx ∉ K ∧ .chans ∉ K ∧ .capo ∉ K) (s : State)
    (ch sid : Nat) (a : Agent) (urgent : Bool) : (s.drawNref ch sid a urgent).2.only K = s.only K := by
  unfold State.drawNref
  dsimp only
  split <;> simp [hK]

@[simp] theorem State.judgeStep_only {K : List Piece} (hK : .regs ∉ K ∧ .capo ∉ K) (s : State) :
    s.judgeStep.only K = s.only K := by
  simp [State.judgeStep, hK]

@[simp] theorem State.setSid_only {K : List Piece} (hK : .chans ∉ K) (s : State) (ch sid : Nat) (f : Sid → Sid) :
    (s.setSid ch sid f).only K = s.only K := by
  simp [State.setSid, hK]

@[simp] theorem State.spareRow_only {K : List Piece} (hK : .array ∉ K) (s : State) (ch bank row : Nat) :
    (s.spareRow ch bank row).only K = s.only K := by
  simp [State.spareRow, hK]

@[simp] theorem State.compareWrite_only {K : List Piece} (hK : .chans ∉ K) (s : State) (ch sid : Nat) (beats : Beats) :
    (s.compareWrite ch sid beats).only K = s.only K := by
  simp [State.compareWrite, hK]

@[simp] theorem State.sendDies_only {K : List Piece} (hK : .chans ∉ K ∧ .array ∉ K) (s : State) (ch : Nat) (c : DieCmd)
    (flip : BitVec 40) (t : Nat) : (s.sendDies ch c flip t).only K = s.only K := by
  unfold State.sendDies
  dsimp only
  split <;> simp [hK]

@[simp] theorem State.setBank_only {K : List Piece} (hK : .chans ∉ K) (s : State) (ch b : Nat) (f : Bank → Bank) :
    (s.setBank ch b f).only K = s.only K := by
  simp [State.setBank, hK]

@[simp] theorem State.judgeBand_only {K : List Piece} (hK : .chans ∉ K) (s : State) (ch temp : Nat) :
    (s.judgeBand ch temp).only K = s.only K := by
  simp [State.judgeBand, hK]

@[simp] theorem State.takeBand_only {K : List Piece} (hK : .regs ∉ K ∧ .regul ∉ K ∧ .chans ∉ K) (s : State) (ch : Nat) :
    (s.takeBand ch).only K = s.only K := by
  simp [State.takeBand, hK]

@[simp] theorem State.credit_only {K : List Piece} (hK : .chans ∉ K ∧ .capo ∉ K) (s : State) (ch : Nat) :
    (s.credit ch).only K = s.only K := by
  simp [State.credit, hK]

@[simp] theorem State.startSweep_only {K : List Piece} (hK : .regs ∉ K ∧ .chans ∉ K ∧ .capo ∉ K) (s : State) (ch : Nat)
    (lost : Bool) : (s.startSweep ch lost).only K = s.only K := by
  simp [State.startSweep, hK]

@[simp] theorem State.noteForcing_only {K : List Piece} (hK : .regs ∉ K) (s : State) (ch : Nat) :
    (s.noteForcing ch).only K = s.only K := by
  simp [State.noteForcing, hK]

@[simp] theorem State.closeRow_only {K : List Piece} (hK : .chans ∉ K) (s : State) (ch b : Nat) :
    (s.closeRow ch b).only K = s.only K := by
  unfold State.closeRow
  split <;> simp [hK]

@[simp] theorem State.openBank_only {K : List Piece} (hK : .chans ∉ K) (s : State) (ch b row : Nat) :
    (s.openBank ch b row).only K = s.only K := by
  simp [State.openBank, hK]

@[simp] theorem State.takeLatches_only {K : List Piece} (hK : .regs ∉ K ∧ .chans ∉ K) (s : State) (ch sid : Nat) (lat : List
    (Option Nat)) : (s.takeLatches ch sid lat).only K = s.only K := by
  simp [State.takeLatches, hK]

@[simp] theorem State.mitigate_only {K : List Piece} (hK : .regs ∉ K ∧ .chans ∉ K) (s : State) (ch b row : Nat) :
    (s.mitigate ch b row).only K = s.only K := by
  simp [State.mitigate, hK]

@[simp] theorem State.refreshed_only {K : List Piece} (hK : .regs ∉ K ∧ .chans ∉ K) (s : State) (ch b : Nat) :
    (s.refreshed ch b).only K = s.only K := by
  simp [State.refreshed, hK]

@[simp] theorem State.suspect_only {K : List Piece} (hK : .regs ∉ K ∧ .pins ∉ K ∧ .evt ∉ K ∧ .pinFlt ∉ K ∧ .flt ∉ K ∧
    .link ∉ K ∧ .reqs ∉ K ∧ .trx ∉ K ∧ .regul ∉ K ∧ .chans ∉ K ∧ .capo ∉ K ∧ .slots ∉ K ∧ .doms ∉ K ∧ .pwr ∉ K) (s : State)
    (ch b : Nat) : (s.suspect ch b).only K = s.only K := by
  simp [State.suspect, hK]

@[simp] theorem State.changeMap_only {K : List Piece} (hK : .nvm ∉ K ∧ .rpr ∉ K) (s : State) (ch : Nat)
    (f : RepairMap → RepairMap) : (s.changeMap ch f).only K = s.only K := by
  simp [State.changeMap, hK]

@[simp] theorem State.setCalCh_only {K : List Piece} (hK : .cal ∉ K) (s : State) (ch : Nat) (f : CalChan → CalChan) :
    (s.setCalCh ch f).only K = s.only K := by
  simp [State.setCalCh, hK]

@[simp] theorem State.setCalGr_only {K : List Piece} (hK : .cal ∉ K) (s : State) (g : Nat) (f : CalGroup → CalGroup) :
    (s.setCalGr g f).only K = s.only K := by
  simp [State.setCalGr, hK]

@[simp] theorem State.syncAge_only {K : List Piece} (hK : .cal ∉ K) (s : State) : s.syncAge.only K = s.only K := by
  simp [State.syncAge, hK]

@[simp] theorem State.pluckStart_only {K : List Piece} (hK : .cal ∉ K) (s : State) (ch : Nat) :
    (s.pluckStart ch).only K = s.only K := by
  unfold State.pluckStart
  dsimp only
  split <;> simp [hK]

@[simp] theorem State.slewBurst_only {K : List Piece} (hK : .cal ∉ K) (s : State) (ch : Nat) :
    (s.slewBurst ch).only K = s.only K := by
  simp [State.slewBurst, hK]

@[simp] theorem State.writeMr_only {K : List Piece} (hK : .chans ∉ K) (s : State) (ch addr : Nat) (v : Nat → Nat) :
    (s.writeMr ch addr v).only K = s.only K := by
  simp [State.writeMr, hK]

@[simp] theorem State.setDrv_only {K : List Piece} (hK : .chans ∉ K) (s : State) (ch : Nat) :
    (s.setDrv ch).only K = s.only K := by
  simp [State.setDrv, hK]

@[simp] theorem State.testsOff_only {K : List Piece} (hK : .chans ∉ K) (s : State) (ch : Nat) :
    (s.testsOff ch).only K = s.only K := by
  simp [State.testsOff, hK]

@[simp] theorem State.refreshAsks_only {K : List Piece} (hK : .chans ∉ K) (s : State) (ch : Nat) :
    (s.refreshAsks ch).only K = s.only K := by
  simp [State.refreshAsks, hK]

@[simp] theorem State.countPage_only {K : List Piece} (hK : .regs ∉ K) (s : State) (ch entry : Nat) :
    (s.countPage ch entry).only K = s.only K := by
  simp [State.countPage, hK]

@[simp] theorem State.refreshEngine_only {K : List Piece} (hK : .chans ∉ K) (s : State) (ch : Nat) :
    (s.refreshEngine ch).only K = s.only K := by
  simp [State.refreshEngine, hK]

@[simp] theorem State.startTransfer_only {K : List Piece} (hK : .regs ∉ K ∧ .chans ∉ K) (s : State) (ch : Nat) :
    (s.startTransfer ch).only K = s.only K := by
  unfold State.startTransfer
  repeat' split
  all_goals simp [hK]

@[simp] theorem State.setAge_only {K : List Piece} (hK : .chans ∉ K) (s : State) (w : Seat) (f : Nat → Nat) :
    (s.setAge w f).only K = s.only K := by
  simp [State.setAge, hK]

@[simp] theorem State.grant_only {K : List Piece} (hK : .regs ∉ K ∧ .chans ∉ K) (s : State) (w : Seat) :
    (s.grant w).only K = s.only K := by
  simp [State.grant, hK]

@[simp] theorem State.grantFrom_only {K : List Piece} (hK : .regs ∉ K ∧ .chans ∉ K) (s : State) (b : Before) (w : Seat) :
    (s.grantFrom b w).only K = s.only K := by
  simp [State.grantFrom, hK]

@[simp] theorem State.contest_only {K : List Piece} (hK : .regs ∉ K ∧ .chans ∉ K) (s : State) (ch : Nat) (w : Seat) :
    (s.contest ch w).only K = s.only K := by
  unfold State.contest
  split <;> simp [hK]

@[simp] theorem State.takeG2_only {K : List Piece} (hK : .conf ∉ K ∧ .chans ∉ K) (s : State) (ch : Nat) :
    (s.takeG2 ch).only K = s.only K := by
  unfold State.takeG2
  split <;> simp [hK, RegSt.only]

@[simp] theorem State.decideOnce_only {K : List Piece} (hK : .regs ∉ K ∧ .chans ∉ K) (s : State) (ch : Nat) :
    (s.decideOnce ch).only K = s.only K := by
  unfold State.decideOnce
  dsimp only
  repeat' split
  all_goals simp [hK]

@[simp] theorem State.decideUp_only {K : List Piece} (hK : .regs ∉ K ∧ .chans ∉ K) (s : State) (ch : Nat) (n1 : Nat) :
    (s.decideUp ch n1).only K = s.only K := by
  induction n1 generalizing s with
  | zero => rfl
  | succ n ih =>
    unfold State.decideUp
    all_goals simp [ih, hK]

@[simp] theorem State.decideGrant_only {K : List Piece} (hK : .conf ∉ K ∧ .regs ∉ K ∧ .chans ∉ K) (s : State) (ch : Nat) :
    (s.decideGrant ch).only K = s.only K := by
  simp [State.decideGrant, hK]

@[simp] theorem State.abandon_only {K : List Piece} (hK : .regs ∉ K ∧ .chans ∉ K ∧ .capo ∉ K) (s : State) (ch : Nat)
    (h : Agent) (x : Xfer) (counts : Bool) : (s.abandon ch h x counts).only K = s.only K := by
  simp [State.abandon, hK]

@[simp] theorem State.preemptNow_only {K : List Piece} (hK : .conf ∉ K ∧ .regs ∉ K ∧ .chans ∉ K ∧ .capo ∉ K) (s : State)
    (ch : Nat) : (s.preemptNow ch).only K = s.only K := by
  unfold State.preemptNow
  split <;> simp [hK]

@[simp] theorem State.testPreempt_only {K : List Piece} (hK : .conf ∉ K ∧ .regs ∉ K ∧ .chans ∉ K ∧ .capo ∉ K) (s : State)
    (ch : Nat) : (s.testPreempt ch).only K = s.only K := by
  unfold State.testPreempt
  dsimp only
  repeat' split
  all_goals simp [hK]

@[simp] theorem State.serveWaiting_only {K : List Piece} (hK : .conf ∉ K ∧ .regs ∉ K ∧ .chans ∉ K ∧ .capo ∉ K) (s : State)
    (ch : Nat) : (s.serveWaiting ch).only K = s.only K := by
  unfold State.serveWaiting
  split <;> simp [hK]

@[simp] theorem State.askNow_only {K : List Piece} (hK : .conf ∉ K ∧ .regs ∉ K ∧ .pins ∉ K ∧ .chans ∉ K ∧ .capo ∉ K ∧
    .doms ∉ K ∧ .pwr ∉ K) (s : State) (ch : Nat) (a : Agent) : (s.askNow ch a).only K = s.only K := by
  unfold State.askNow
  dsimp only
  split <;> simp [hK]

@[simp] theorem State.askIf_only {K : List Piece} (hK : .conf ∉ K ∧ .regs ∉ K ∧ .pins ∉ K ∧ .chans ∉ K ∧ .capo ∉ K ∧
    .doms ∉ K ∧ .pwr ∉ K) (s : State) (ch : Nat) (a : Agent) : (s.askIf ch a).only K = s.only K := by
  simp [State.askIf, hK]

@[simp] theorem State.runPower_only {K : List Piece} (hK : .conf ∉ K ∧ .regs ∉ K ∧ .pins ∉ K ∧ .chans ∉ K ∧ .capo ∉ K ∧
    .doms ∉ K ∧ .pwr ∉ K) (s : State) (ch n : Nat) : (s.runPower ch n).only K = s.only K := by
  simp [State.runPower, hK]

@[simp] theorem State.pdExit_only {K : List Piece} (hK : .conf ∉ K ∧ .regs ∉ K ∧ .pins ∉ K ∧ .chans ∉ K ∧ .capo ∉ K ∧
    .doms ∉ K ∧ .cgs ∉ K ∧ .pwr ∉ K) (s : State) (ch : Nat) : (s.pdExit ch).only K = s.only K := by
  unfold State.pdExit
  dsimp only
  repeat' split
  all_goals simp [hK, PwrSt.only]

@[simp] theorem State.agentAsks_only {K : List Piece} (hK : .conf ∉ K ∧ .regs ∉ K ∧ .pins ∉ K ∧ .chans ∉ K ∧ .capo ∉ K ∧
    .doms ∉ K ∧ .cgs ∉ K ∧ .pwr ∉ K) (s : State) (ch : Nat) (a : Agent) : (s.agentAsks ch a).only K = s.only K := by
  simp [State.agentAsks, hK]

@[simp] theorem State.askAll_only {K : List Piece} (hK : .conf ∉ K ∧ .regs ∉ K ∧ .pins ∉ K ∧ .chans ∉ K ∧ .capo ∉ K ∧
    .doms ∉ K ∧ .cgs ∉ K ∧ .pwr ∉ K) (s : State) (ch : Nat) : (s.askAll ch).only K = s.only K := by
  simp [State.askAll, hK]

@[simp] theorem State.restore_only {K : List Piece} (hK : .chans ∉ K) (s : State) (b : Before) :
    (s.restore b).only K = s.only K := by
  unfold State.restore
  split <;> simp [hK]

@[simp] theorem State.voidGrant_only {K : List Piece} (hK : .conf ∉ K ∧ .regs ∉ K ∧ .chans ∉ K) (s : State) (ch : Nat)
    (h : Agent) (x : Xfer) : (s.voidGrant ch h x).only K = s.only K := by
  unfold State.voidGrant
  split <;> simp [hK]

@[simp] theorem State.maskNow_only {K : List Piece} (hK : .conf ∉ K ∧ .regs ∉ K ∧ .chans ∉ K ∧ .capo ∉ K) (s : State)
    (ch : Nat) : (s.maskNow ch).only K = s.only K := by
  unfold State.maskNow
  split <;> simp [hK]

@[simp] theorem State.maskEnd_only {K : List Piece} (hK : .conf ∉ K ∧ .regs ∉ K ∧ .chans ∉ K ∧ .capo ∉ K) (s : State)
    (ch : Nat) : (s.maskEnd ch).only K = s.only K := by
  unfold State.maskEnd
  split <;> simp [hK]

@[simp] theorem State.urgeClose_only {K : List Piece} (hK : .chans ∉ K) (s : State) (ch b : Nat) :
    (s.urgeClose ch b).only K = s.only K := by
  simp [State.urgeClose, hK]

@[simp] theorem State.refLimits_only {K : List Piece} (hK : .conf ∉ K ∧ .regs ∉ K ∧ .pins ∉ K ∧ .chans ∉ K ∧ .capo ∉ K ∧
    .doms ∉ K ∧ .cgs ∉ K ∧ .pwr ∉ K) (s : State) (ch : Nat) : (s.refLimits ch).only K = s.only K := by
  simp [State.refLimits, hK]

@[simp] theorem State.muteMarks_only {K : List Piece} (hK : .chans ∉ K) (s : State) (ch : Nat) :
    (s.muteMarks ch).only K = s.only K := by
  simp [State.muteMarks, hK]

@[simp] theorem State.serveIdle_only {K : List Piece} (hK : .conf ∉ K ∧ .regs ∉ K ∧ .chans ∉ K ∧ .capo ∉ K) (s : State) :
    s.serveIdle.only K = s.only K := by
  simp [State.serveIdle, hK]

@[simp] theorem State.threshWritten_only {K : List Piece} (hK : .chans ∉ K) (s : State) (ch sid : Nat) :
    (s.threshWritten ch sid).only K = s.only K := by
  simp [State.threshWritten, hK]

@[simp] theorem State.repairIssued_only {K : List Piece} (hK : .rpr ∉ K) (s : State) (ch : Nat) (from1 to1 : RepairStage) :
    (s.repairIssued ch from1 to1).only K = s.only K := by
  simp [State.repairIssued, hK]

@[simp] theorem State.keep_only {K : List Piece} (hK : .regs ∉ K ∧ .chans ∉ K ∧ .rpr ∉ K) (s : State) (ch : Nat)
    (r : BitVec 64) (x : Target) (t : Nat) : (s.keep ch r x t).only K = s.only K := by
  unfold State.keep
  split <;> simp [hK]

@[simp] theorem State.sendRow_only {K : List Piece} (hK : .regs ∉ K ∧ .chans ∉ K ∧ .array ∉ K ∧ .rpr ∉ K) (s : State)
    (ch : Nat) (r : BitVec 64) (x : Target) (radius : Nat) (flip : BitVec 40) (t : Nat) :
    (s.sendRow ch r x radius flip t).only K = s.only K := by
  simp [State.sendRow, hK]

@[simp] theorem State.shareOut_only {K : List Piece} (hK : .link ∉ K ∧ .reqs ∉ K ∧ .regul ∉ K ∧ .chans ∉ K) (s : State)
    (ch : Nat) (p : WrEnt → Bool) : (s.shareOut ch p).only K = s.only K := by
  simp [State.shareOut, hK]

@[simp] theorem State.landWrite_only {K : List Piece} (hK : K ⊆ [.time, .conf, .commits, .posted, .snap, .inputs, .wrstN,
    .mem, .nvm, .lanes, .courses, .keyOps, .tab, .sensors, .cal, .cgs, .boot, .role, .pair, .rpr, .upd, .free, .pending])
    (s : State) (ch at0 : Nat) (w : WrEnt) : (s.landWrite ch at0 w).only K = s.only K := by
  refine State.only_mono hK ?_
  simp only [State.landWrite, State.count_only, State.loadSlot_only, State.only_ite,
    State.only_array_sec,




    SecSt.only, List.mem_cons, List.not_mem_nil,
    reduceCtorEq, not_false_eq_true, and_self, ite_self, if_false,
    or_self]

@[simp] theorem State.landBurst_only {K : List Piece} (hK : K ⊆ [.time, .conf, .commits, .posted, .snap, .inputs, .wrstN,
    .mem, .nvm, .lanes, .courses, .keyOps, .tab, .sensors, .cal, .cgs, .boot, .role, .pair, .rpr, .upd, .free, .pending])
    (s : State) (ch : Nat) (f : Flight) : (s.landBurst ch f).only K = s.only K := by
  refine State.only_mono hK ?_
  unfold State.landBurst
  repeat' split
  all_goals simp

@[simp] theorem State.powerDone_only {K : List Piece} (hK : .conf ∉ K ∧ .regs ∉ K ∧ .pins ∉ K ∧ .chans ∉ K ∧ .capo ∉ K ∧
    .cal ∉ K ∧ .doms ∉ K ∧ .cgs ∉ K ∧ .pwr ∉ K) (s : State) (ch n : Nat) : (s.powerDone ch n).only K = s.only K := by
  unfold State.powerDone
  split <;> simp [hK]

@[simp] theorem State.calStepDone_only {K : List Piece} (hK : .regs ∉ K ∧ .cal ∉ K) (s : State) (ch : Nat) (x : Xfer) :
    (s.calStepDone ch x).only K = s.only K := by
  unfold State.calStepDone
  repeat' split
  all_goals simp [hK]

@[simp] theorem State.workDone_only {K : List Piece} (hK : .conf ∉ K ∧ .regs ∉ K ∧ .pins ∉ K ∧ .chans ∉ K ∧ .capo ∉ K ∧
    .cal ∉ K ∧ .doms ∉ K ∧ .cgs ∉ K ∧ .pwr ∉ K ∧ .rpr ∉ K) (s : State) (ch : Nat) (x : Xfer) :
    (s.workDone ch x).only K = s.only K := by
  unfold State.workDone
  split <;> simp [hK, PwrSt.only]

@[simp] theorem State.finishWork_only {K : List Piece} (hK : .conf ∉ K ∧ .regs ∉ K ∧ .pins ∉ K ∧ .link ∉ K ∧ .reqs ∉ K ∧
    .regul ∉ K ∧ .chans ∉ K ∧ .capo ∉ K ∧ .cal ∉ K ∧ .doms ∉ K ∧ .cgs ∉ K ∧ .pwr ∉ K ∧ .rpr ∉ K) (s : State) (ch : Nat)
    (x : Xfer) : (s.finishWork ch x).only K = s.only K := by
  simp [State.finishWork, hK]

@[simp] theorem State.endTransfer_only {K : List Piece} (hK : .conf ∉ K ∧ .regs ∉ K ∧ .pins ∉ K ∧ .link ∉ K ∧ .reqs ∉ K ∧
    .regul ∉ K ∧ .chans ∉ K ∧ .capo ∉ K ∧ .cal ∉ K ∧ .doms ∉ K ∧ .cgs ∉ K ∧ .pwr ∉ K ∧ .rpr ∉ K) (s : State) (ch : Nat)
    (x : Xfer) (e : Nat) : (s.endTransfer ch x e).only K = s.only K := by
  unfold State.endTransfer
  dsimp only
  split <;> simp [hK]

@[simp] theorem State.rowTokens_only {K : List Piece} (hK : .regs ∉ K ∧ .trx ∉ K ∧ .chans ∉ K ∧ .capo ∉ K) (s : State)
    (ch cmd : Nat) (x : Target) (a : Agent) : (s.rowTokens ch cmd x a).2.only K = s.only K := by
  unfold State.rowTokens
  split <;> simp [hK]

@[simp] theorem State.issueRow_only {K : List Piece} (hK : K ⊆ [.time, .commits, .posted, .snap, .inputs, .wrstN, .mem, .nvm,
    .evt, .pinFlt, .flt, .lanes, .courses, .keyOps, .tab, .sensors, .slots, .sec, .boot, .role, .pair, .upd, .free, .pending])
    (s : State) (ch t : Nat) (room : Bool) (flip : BitVec 40) : (s.issueRow ch t room flip).only K = s.only K := by
  refine State.only_mono hK ?_
  unfold State.issueRow
  split
  next x _ _ =>
    have htok := fun K hK => State.rowTokens_only (K := K) hK s ch (rowCmd (s.tab.rows.get x.row))
      (s.target ch (s.tab.rows.get x.row) (x.item (s.tab.rows.get x.row))) x.agent
    dsimp only
    generalize (s.rowTokens ch (rowCmd (s.tab.rows.get x.row))
      (s.target ch (s.tab.rows.get x.row) (x.item (s.tab.rows.get x.row))) x.agent) = d at htok
    obtain ⟨_ | _, u⟩ := d
    · have hu := htok [.time, .commits, .posted, .snap, .inputs, .wrstN, .mem, .nvm, .evt, .pinFlt, .flt, .lanes, .courses,
        .keyOps, .tab, .sensors, .slots, .sec, .boot, .role, .pair, .upd, .free, .pending] (by simp)
      simp_all
    · have hu := htok [.time, .commits, .posted, .snap, .inputs, .wrstN, .mem, .nvm, .evt, .pinFlt, .flt, .lanes, .courses,
        .keyOps, .tab, .sensors, .slots, .sec, .boot, .role, .pair, .upd, .free, .pending] (by simp)
      simp_all
  · rfl

@[simp] theorem State.issueInsert_only {K : List Piece} (hK : .conf ∉ K ∧ .regs ∉ K ∧ .trx ∉ K ∧ .chans ∉ K ∧ .array ∉ K ∧
    .capo ∉ K ∧ .rpr ∉ K) (s : State) (ch t : Nat) (room : Bool) (flip : BitVec 40) :
    (s.issueInsert ch t room flip).only K = s.only K := by
  unfold State.issueInsert
  split
  · rfl
  next i _ =>
    have hdraw := State.draw_only (K := K) (by simp [hK]) s ch (i.bank / 16) (s.cost (rowCmd (s.tab.rows.get i.row))) true false
    dsimp only
    generalize (s.draw ch (i.bank / 16) (s.cost (rowCmd (s.tab.rows.get i.row))) true false) = d at hdraw
    obtain ⟨_ | _, u⟩ := d
    · rw [State.only_ite, hdraw, ite_self]
    · simp_all

@[simp] theorem State.checkMask_only {K : List Piece} (hK : .conf ∉ K ∧ .regs ∉ K ∧ .chans ∉ K) (s : State) (ch : Nat) :
    (s.checkMask ch).only K = s.only K := by
  unfold State.checkMask
  split <;> simp [hK]

@[simp] theorem State.noteGot_only {K : List Piece} (hK : .chans ∉ K) (s : State) (ch : Nat) (f : Flight) (g : Got) :
    (s.noteGot ch f g).only K = s.only K := by
  unfold State.noteGot
  split <;> simp [hK]

@[simp] theorem State.burstDone_only {K : List Piece} (hK : K ⊆ [.time, .commits, .posted, .snap, .inputs, .wrstN, .mem,
    .nvm, .lanes, .courses, .keyOps, .tab, .sensors, .boot, .role, .pair, .upd, .pending]) (s : State) (ch : Nat)
    (pre : Option Nat) (err : Beats) : (s.burstDone ch pre err).only K = s.only K := by
  refine State.only_mono hK ?_
  unfold State.burstDone
  repeat' split
  all_goals simp

@[simp] theorem State.norefTrims_only {K : List Piece} (hK : .cal ∉ K) (s : State) (g : Nat) :
    (s.norefTrims g).only K = s.only K := by
  simp [State.norefTrims, hK]

@[simp] theorem State.enterNoref_only {K : List Piece} (hK : .cal ∉ K) (s : State) (g : Nat) :
    (s.enterNoref g).only K = s.only K := by
  simp [State.enterNoref, hK]

@[simp] theorem State.writeSet_only {K : List Piece} (hK : .regs ∉ K ∧ .nvm ∉ K ∧ .cal ∉ K) (s : State) (ch t temp : Nat)
    (trims : Trims) (est : Bool) : (s.writeSet ch t temp trims est).only K = s.only K := by
  simp [State.writeSet, hK]

@[simp] theorem State.rewriteUnder_only {K : List Piece} (hK : .regs ∉ K ∧ .nvm ∉ K ∧ .cal ∉ K) (s : State) (ch temp : Nat)
    (trims : Trims) (write : Bool) (tol : Nat) : (s.rewriteUnder ch temp trims write tol).only K = s.only K := by
  simp [State.rewriteUnder, hK]

@[simp] theorem State.rewriteSet_only {K : List Piece} (hK : .regs ∉ K ∧ .nvm ∉ K ∧ .cal ∉ K) (s : State) (ch temp : Nat)
    (trims : Trims) : (s.rewriteSet ch temp trims).only K = s.only K := by
  simp [State.rewriteSet, hK]

@[simp] theorem State.fillSets_only {K : List Piece} (hK : .regs ∉ K ∧ .nvm ∉ K ∧ .cal ∉ K) (s : State) (ch temp : Nat)
    (trims : Trims) (write : Bool) : (s.fillSets ch temp trims write).only K = s.only K := by
  simp [State.fillSets, hK]

@[simp] theorem State.calCounts_only {K : List Piece} (hK : .cal ∉ K) (s : State) (ch : Nat) :
    (s.calCounts ch).only K = s.only K := by
  simp [State.calCounts, hK]

@[simp] theorem State.startRun_only {K : List Piece} (hK : .conf ∉ K ∧ .regs ∉ K ∧ .pins ∉ K ∧ .chans ∉ K ∧ .capo ∉ K ∧
    .cal ∉ K ∧ .doms ∉ K ∧ .cgs ∉ K ∧ .pwr ∉ K) (s : State) (g : Nat) : (s.startRun g).only K = s.only K := by
  simp [State.startRun, hK]

@[simp] theorem State.dueRun_only {K : List Piece} (hK : .conf ∉ K ∧ .regs ∉ K ∧ .pins ∉ K ∧ .chans ∉ K ∧ .capo ∉ K ∧
    .cal ∉ K ∧ .doms ∉ K ∧ .cgs ∉ K ∧ .pwr ∉ K) (s : State) (g : Nat) : (s.dueRun g).only K = s.only K := by
  unfold State.dueRun
  split <;> simp [hK]

@[simp] theorem State.lateRun_only {K : List Piece} (hK : .regs ∉ K ∧ .cal ∉ K) (s : State) (g : Nat) :
    (s.lateRun g).only K = s.only K := by
  unfold State.lateRun
  split <;> simp [hK]

@[simp] theorem State.startDue_only {K : List Piece} (hK : .conf ∉ K ∧ .regs ∉ K ∧ .pins ∉ K ∧ .chans ∉ K ∧ .capo ∉ K ∧
    .cal ∉ K ∧ .doms ∉ K ∧ .cgs ∉ K ∧ .pwr ∉ K) (s : State) (g : Nat) : (s.startDue g).only K = s.only K := by
  simp [State.startDue, hK]

@[simp] theorem State.judgeRuns_only {K : List Piece} (hK : .conf ∉ K ∧ .regs ∉ K ∧ .pins ∉ K ∧ .chans ∉ K ∧ .capo ∉ K ∧
    .cal ∉ K ∧ .doms ∉ K ∧ .cgs ∉ K ∧ .pwr ∉ K) (s : State) : s.judgeRuns.only K = s.only K := by
  simp [State.judgeRuns, hK]

@[simp] theorem State.applyRun_only {K : List Piece} (hK : .cal ∉ K) (s : State) (ch : Nat) (r : CalRun) (fresh : Bool)
    (m : Trims) : (s.applyRun ch r fresh m).only K = s.only K := by
  simp [State.applyRun, hK]

@[simp] theorem State.runFailed_only {K : List Piece} (hK : K ⊆ [.time, .conf, .commits, .posted, .snap, .inputs, .wrstN,
    .mem, .nvm, .lanes, .courses, .keyOps, .array, .tab, .sensors, .sec, .cgs, .boot, .role, .pair, .rpr, .upd, .free,
    .pending]) (s : State) (g : Nat) (r : CalRun) : (s.runFailed g r).only K = s.only K := by
  refine State.only_mono hK ?_
  simp [State.runFailed]

@[simp] theorem State.finishProbes_only {K : List Piece} (hK : .regs ∉ K ∧ .chans ∉ K) (s : State) (g : Nat) (r : CalRun) :
    (s.finishProbes g r).only K = s.only K := by
  simp [State.finishProbes, hK]

@[simp] theorem State.completeRun_only {K : List Piece} (hK : K ⊆ [.time, .commits, .posted, .snap, .inputs, .wrstN, .mem,
    .lanes, .courses, .keyOps, .array, .tab, .sensors, .sec, .boot, .role, .pair, .rpr, .upd, .free, .pending]) (s : State)
    (g : Nat) (ok : Bool) (fret : Nat) (even odd : Trims) : (s.completeRun g ok fret even odd).only K = s.only K := by
  refine State.only_mono hK ?_
  have hask (l : List Agent) (ch : Nat) (t : State) : (forAll l (fun a t => t.agentAsks ch a) t).only
      [.time, .commits, .posted, .snap, .inputs, .wrstN, .mem, .lanes, .courses, .keyOps, .array, .tab, .sensors, .sec, .boot,
          .role,
        .pair, .rpr, .upd, .free, .pending] = t.only _ :=
    State.only_forAll (fun a t => State.agentAsks_only (by simp) ..) _ _
  unfold State.completeRun
  split
  · rfl
  next r _ =>
    dsimp only
    split_ifs
    · rfl
    · simp
    all_goals
      refine (State.only_forAll (fun ch t => hask _ ch t) _ _).trans ?_
      simp

@[simp] theorem State.windowEnd_only {K : List Piece} (hK : .regs ∉ K ∧ .cal ∉ K) (s : State) (g : Nat) (lost : Bool) :
    (s.windowEnd g lost).only K = s.only K := by
  unfold State.windowEnd
  split <;> simp [hK]

@[simp] theorem State.slewOnce_only {K : List Piece} (hK : .regs ∉ K ∧ .cal ∉ K) (s : State) (ch : Nat) :
    (s.slewOnce ch).only K = s.only K := by
  simp [State.slewOnce, hK]

@[simp] theorem State.applyIdle_only {K : List Piece} (hK : .regs ∉ K ∧ .cal ∉ K) (s : State) (ch : Nat) :
    (s.applyIdle ch).only K = s.only K := by
  simp [State.applyIdle, hK]

@[simp] theorem State.forceSlew_only {K : List Piece} (hK : .regs ∉ K ∧ .cal ∉ K) (s : State) (ch : Nat) :
    (s.forceSlew ch).only K = s.only K := by
  simp [State.forceSlew, hK]

@[simp] theorem State.discardWindows_only {K : List Piece} (hK : .cal ∉ K) (s : State) : s.discardWindows.only K = s.only K := by
  simp [State.discardWindows, hK]

@[simp] theorem State.takeRef_only {K : List Piece} (hK : .regs ∉ K ∧ .cal ∉ K) (s : State) (c : Nat) :
    (s.takeRef c).only K = s.only K := by
  simp [State.takeRef, hK]

@[simp] theorem State.followRef_only {K : List Piece} (hK : .conf ∉ K ∧ .regs ∉ K ∧ .pins ∉ K ∧ .chans ∉ K ∧ .capo ∉ K ∧
    .cal ∉ K ∧ .doms ∉ K ∧ .cgs ∉ K ∧ .pwr ∉ K) (s : State) : s.followRef.only K = s.only K := by
  unfold State.followRef
  split <;> simp [hK]

@[simp] theorem State.holdTick_only {K : List Piece} (hK : .cal ∉ K) (s : State) : s.holdTick.only K = s.only K := by
  simp [State.holdTick, hK]

@[simp] theorem State.endHoldover_only {K : List Piece} (hK : .chans ∉ K ∧ .cal ∉ K) (s : State) :
    s.endHoldover.only K = s.only K := by
  simp [State.endHoldover, hK]

@[simp] theorem State.steered_only {K : List Piece} (hK : .regs ∉ K ∧ .pins ∉ K ∧ .nvm ∉ K ∧ .evt ∉ K ∧ .pinFlt ∉ K ∧
    .doms ∉ K ∧ .pwr ∉ K ∧ .rpr ∉ K) (s : State) (ch tsv spare : Nat) (f : RepairMap → RepairMap) :
    (s.steered ch tsv spare f).only K = s.only K := by
  simp [State.steered, hK]

@[simp] theorem State.steerDq_only {K : List Piece} (hK : .regs ∉ K ∧ .pins ∉ K ∧ .nvm ∉ K ∧ .evt ∉ K ∧ .pinFlt ∉ K ∧
    .doms ∉ K ∧ .pwr ∉ K ∧ .rpr ∉ K) (s : State) (ch : Nat) (bad : List Nat) (n2 : List Nat) :
    (s.steerDq ch bad n2).2.only K = s.only K := by
  induction n2 generalizing s with
  | nil => rfl
  | cons a l ih =>
    unfold State.steerDq
    repeat' split
    all_goals simp [ih, hK]

@[simp] theorem State.steerCmd_only {K : List Piece} (hK : .regs ∉ K ∧ .pins ∉ K ∧ .nvm ∉ K ∧ .evt ∉ K ∧ .pinFlt ∉ K ∧
    .doms ∉ K ∧ .pwr ∉ K ∧ .rpr ∉ K) (s : State) (ch : Nat) (n1 : List Nat) : (s.steerCmd ch n1).2.only K = s.only K := by
  induction n1 generalizing s with
  | nil => rfl
  | cons a l ih =>
    unfold State.steerCmd
    repeat' split
    all_goals simp [ih, hK]

@[simp] theorem State.judgeTraining_only {K : List Piece} (hK : K ⊆ [.time, .conf, .commits, .posted, .snap, .inputs, .wrstN,
    .mem, .lanes, .courses, .keyOps, .array, .tab, .sensors, .sec, .cal, .cgs, .boot, .role, .pair, .upd, .free, .pending])
    (s : State) (ch other : Nat) (r : TrainResult) : (s.judgeTraining ch other r).2.only K = s.only K := by
  refine State.only_mono hK ?_
  unfold State.judgeTraining
  dsimp only
  repeat' split
  all_goals simp

@[simp] theorem State.retrain_only {K : List Piece} (hK : .conf ∉ K ∧ .regs ∉ K ∧ .pins ∉ K ∧ .chans ∉ K ∧ .capo ∉ K ∧
    .cal ∉ K ∧ .doms ∉ K ∧ .cgs ∉ K ∧ .pwr ∉ K) (s : State) (ch : Nat) (full : Bool) (bits : List Nat) :
    (s.retrain ch full bits).only K = s.only K := by
  unfold State.retrain
  dsimp only
  split <;> simp [hK]

@[simp] theorem State.retrainEvent_only {K : List Piece} (hK : .regs ∉ K ∧ .pins ∉ K ∧ .evt ∉ K ∧ .pinFlt ∉ K ∧ .doms ∉ K ∧
    .pwr ∉ K) (s : State) (ch result : Nat) : (s.retrainEvent ch result).only K = s.only K := by
  simp [State.retrainEvent, hK]

@[simp] theorem State.unfencingDone_only {K : List Piece} (hK : .flt ∉ K) (s : State) (ch : Nat) :
    (s.unfencingDone ch).only K = s.only K := by
  simp [State.unfencingDone, hK, FltSt.only]

@[simp] theorem State.retrainFailed_only {K : List Piece} (hK : K ⊆ [.time, .conf, .commits, .posted, .snap, .inputs, .wrstN,
    .mem, .nvm, .lanes, .courses, .keyOps, .array, .tab, .sensors, .sec, .cgs, .boot, .role, .pair, .rpr, .upd, .free,
    .pending]) (s : State) (ch reason : Nat) : (s.retrainFailed ch reason).only K = s.only K := by
  refine State.only_mono hK ?_
  simp [State.retrainFailed]

@[simp] theorem State.retrainPassed_only {K : List Piece} (hK : K ⊆ [.time, .commits, .posted, .snap, .inputs, .wrstN, .mem,
    .lanes, .courses, .link, .reqs, .keyOps, .regul, .tab, .sensors, .slots, .sec, .boot, .role, .pair, .rpr, .upd, .free,
    .pending]) (s : State) (ch : Nat) (r : TrainResult) : (s.retrainPassed ch r).only K = s.only K := by
  refine State.only_mono hK ?_
  simp [State.retrainPassed]

@[simp] theorem State.endRetrain_only {K : List Piece} (hK : K ⊆ [.time, .commits, .posted, .snap, .inputs, .wrstN, .mem,
    .lanes, .courses, .keyOps, .tab, .sensors, .sec, .boot, .role, .pair, .upd, .free, .pending]) (s : State) (ch : Nat)
    (r : TrainResult) : (s.endRetrain ch r).only K = s.only K := by
  refine State.only_mono hK ?_
  have hjudge := fun K hK => State.judgeTraining_only (K := K) hK s ch rsnRetrain r
  have hsteer := fun K hK l => State.steerDq_only (K := K) hK s ch (spareBad r) l
  unfold State.endRetrain
  dsimp only
  split
  · rfl
  · split
    next t heq =>
      rw [heq] at hjudge
      rw [← hjudge _ (by simp)]
      simp
    next n t heq =>
      rw [heq] at hjudge
      rw [← hjudge _ (by simp)]
      simp
  · split_ifs <;> simp

@[simp] theorem State.loseRun_only {K : List Piece} (hK : .cal ∉ K) (s : State) (g : Nat) : (s.loseRun g).only K = s.only K := by
  simp [State.loseRun, hK]

@[simp] theorem State.calWake_only {K : List Piece} (hK : .conf ∉ K ∧ .regs ∉ K ∧ .pins ∉ K ∧ .chans ∉ K ∧ .capo ∉ K ∧
    .cal ∉ K ∧ .doms ∉ K ∧ .cgs ∉ K ∧ .pwr ∉ K) (s : State) (g : Nat) : (s.calWake g).only K = s.only K := by
  simp [State.calWake, hK]

@[simp] theorem State.setCg_only {K : List Piece} (hK : .cgs ∉ K) (s : State) (g : Nat) (f : CgPower → CgPower) :
    (s.setCg g f).only K = s.only K := by
  simp [State.setCg, hK, PwrSt.only]

@[simp] theorem State.clearPages_only {K : List Piece} (hK : .regs ∉ K) (s : State) (d : Nat) :
    (s.clearPages d).only K = s.only K := by
  simp [State.clearPages, hK, RegSt.only]

@[simp] theorem State.srEnter_only {K : List Piece} (hK : .conf ∉ K ∧ .regs ∉ K ∧ .pins ∉ K ∧ .chans ∉ K ∧ .capo ∉ K ∧
    .doms ∉ K ∧ .pwr ∉ K) (s : State) (ch : Nat) : (s.srEnter ch).only K = s.only K := by
  simp [State.srEnter, hK]

@[simp] theorem State.srExit_only {K : List Piece} (hK : .conf ∉ K ∧ .regs ∉ K ∧ .pins ∉ K ∧ .chans ∉ K ∧ .capo ∉ K ∧
    .doms ∉ K ∧ .pwr ∉ K) (s : State) (ch : Nat) (lost : Bool) : (s.srExit ch lost).only K = s.only K := by
  simp [State.srExit, hK]

@[simp] theorem State.cgExit_only {K : List Piece} (hK : .conf ∉ K ∧ .regs ∉ K ∧ .pins ∉ K ∧ .chans ∉ K ∧ .capo ∉ K ∧
    .cal ∉ K ∧ .doms ∉ K ∧ .cgs ∉ K ∧ .pwr ∉ K) (s : State) (g : Nat) : (s.cgExit g).only K = s.only K := by
  simp [State.cgExit, hK]

@[simp] theorem State.linkDown_only {K : List Piece} (hK : .conf ∉ K ∧ .regs ∉ K ∧ .pins ∉ K ∧ .lanes ∉ K ∧ .courses ∉ K ∧
    .link ∉ K ∧ .chans ∉ K ∧ .capo ∉ K ∧ .cal ∉ K ∧ .doms ∉ K ∧ .cgs ∉ K ∧ .pwr ∉ K) (s : State) (off : Bool) :
    (s.linkDown off).only K = s.only K := by
  simp only [State.linkDown, hK, State.followRef_only,
    State.only_link_pins,



    PinSt.only, LinkSt.only,
    not_false_eq_true, and_self, if_false]

@[simp] theorem State.loseDom_only {K : List Piece} (hK : .regs ∉ K ∧ .evt ∉ K ∧ .pinFlt ∉ K ∧ .flt ∉ K ∧ .regul ∉ K ∧
    .chans ∉ K ∧ .sec ∉ K ∧ .cal ∉ K ∧ .role ∉ K ∧ .pair ∉ K) (s : State) (d : Nat) (cold : Bool) :
    (s.loseDom d cold).only K = s.only K := by
  unfold State.loseDom
  dsimp only
  repeat' split
  all_goals simp only [hK, State.clearPages_only, State.loseRun_only, State.setChan_only, State.syncAge_only,
    State.only_forAll, State.only_evt_flt, State.only_sec_cal,
    State.only_pins_pair,
    State.only_regul,
    FltSt.only, SecSt.only, PairSt.only,
    not_false_eq_true,
    ite_self, if_false, implies_true]

@[simp] theorem State.leaveOn_only {K : List Piece} (hK : K ⊆ [.time, .commits, .posted, .snap, .inputs, .wrstN, .mem, .nvm,
    .reqs, .keyOps, .trx, .array, .tab, .sensors, .slots, .boot, .rpr, .upd, .free, .pending]) (s : State) (d : Nat)
    (target : DomState) : (s.leaveOn d target).only K = s.only K := by
  refine State.only_mono hK ?_
  simp only [State.leaveOn, State.linkDown_only, State.loseDom_only, State.maskEnd_only, State.setDom_only, State.only_ite,
    State.only_when, State.only_forAll, State.only_link_pins,




    PinSt.only, LinkSt.only, List.mem_cons, List.not_mem_nil,
    reduceCtorEq, or_false, or_true, not_false_eq_true, and_self,
    ite_self, if_false, if_true, implies_true, or_self]

@[simp] theorem State.answerDom_only {K : List Piece} (hK : K ⊆ [.time, .commits, .posted, .snap, .inputs, .wrstN, .mem,
    .nvm, .reqs, .keyOps, .trx, .array, .tab, .sensors, .slots, .boot, .rpr, .upd, .free, .pending]) (s : State) (d : Nat)
    (target : DomState) : (s.answerDom d target).only K = s.only K := by
  refine State.only_mono hK ?_
  unfold State.answerDom
  dsimp only
  split <;> simp

@[simp] theorem State.freshTriggers_only {K : List Piece} (hK : .doms ∉ K) (s : State) : s.freshTriggers.only K = s.only K := by
  simp [State.freshTriggers, hK]

@[simp] theorem State.autoSupport_only {K : List Piece} (hK : K ⊆ [.time, .commits, .posted, .snap, .inputs, .wrstN, .mem,
    .nvm, .reqs, .keyOps, .trx, .array, .tab, .sensors, .slots, .boot, .rpr, .upd, .free, .pending]) (s : State) :
    s.autoSupport.only K = s.only K := by
  refine State.only_mono hK ?_
  simp [State.autoSupport]

@[simp] theorem State.requestDom_only {K : List Piece} (hK : K ⊆ [.time, .commits, .posted, .snap, .inputs, .wrstN, .mem,
    .nvm, .reqs, .keyOps, .trx, .array, .tab, .sensors, .slots, .boot, .rpr, .upd, .free, .pending]) (s : State) (d : Nat)
    (target : DomState) : (s.requestDom d target).only K = s.only K := by
  refine State.only_mono hK ?_
  simp [State.requestDom]

@[simp] theorem State.deepDone_only {K : List Piece} (hK : K ⊆ [.time, .commits, .posted, .snap, .inputs, .wrstN, .mem, .nvm,
    .reqs, .keyOps, .trx, .array, .tab, .sensors, .slots, .boot, .rpr, .upd, .free, .pending]) (s : State) (g : Nat) :
    (s.deepDone g).only K = s.only K := by
  refine State.only_mono hK ?_
  simp [State.deepDone]

@[simp] theorem State.acceptCg_only {K : List Piece} (hK : K ⊆ [.time, .commits, .posted, .snap, .inputs, .wrstN, .mem, .nvm,
    .reqs, .keyOps, .trx, .array, .tab, .sensors, .slots, .boot, .rpr, .upd, .free, .pending]) (s : State) (g : Nat)
    (target : CgState) : (s.acceptCg g target).only K = s.only K := by
  refine State.only_mono hK ?_
  unfold State.acceptCg
  split <;> simp

@[simp] theorem State.workTowards_only {K : List Piece}
    (hK : .conf ∉ K ∧ .regs ∉ K ∧ .pins ∉ K ∧ .chans ∉ K ∧ .capo ∉ K ∧ .cal ∉ K ∧ .doms ∉ K ∧ .cgs ∉ K ∧ .pwr ∉ K) (s : State)
    (g : Nat) (target : CgState) : (s.workTowards g target).only K = s.only K := by
  have hask (l : List Agent) (ch : Nat) (t : State) : (forAll l (fun a t => t.agentAsks ch a) t).only K = t.only K :=
    State.only_forAll (fun a t => by simp [hK]) _ _
  simp [State.workTowards, hK, hask]

@[simp] theorem State.requestCg_only {K : List Piece} (hK : K ⊆ [.time, .commits, .posted, .snap, .inputs, .wrstN, .mem,
    .nvm, .reqs, .keyOps, .trx, .array, .tab, .sensors, .slots, .boot, .rpr, .upd, .free, .pending]) (s : State) (g : Nat)
    (target : CgState) : (s.requestCg g target).only K = s.only K := by
  refine State.only_mono hK ?_
  unfold State.requestCg
  dsimp only
  repeat' split
  all_goals simp

@[simp] theorem State.endDelay_only {K : List Piece} (hK : .regs ∉ K ∧ .cgs ∉ K ∧ .pwr ∉ K) (s : State) (g reason : Nat) :
    (s.endDelay g reason).only K = s.only K := by
  simp [State.endDelay, hK, PwrSt.only]

@[simp] theorem State.accessDom_only {K : List Piece} (hK : .regs ∉ K ∧ .pins ∉ K ∧ .doms ∉ K ∧ .cgs ∉ K ∧ .pwr ∉ K)
    (s : State) (d : Nat) : (s.accessDom d).only K = s.only K := by
  simp [State.accessDom, hK]

@[simp] theorem State.idleTick_only {K : List Piece} (hK : .cgs ∉ K) (s : State) (g : Nat) :
    (s.idleTick g).only K = s.only K := by
  simp [State.idleTick, hK]

@[simp] theorem State.touchGroup_only {K : List Piece} (hK : .conf ∉ K ∧ .regs ∉ K ∧ .pins ∉ K ∧ .chans ∉ K ∧ .capo ∉ K ∧
    .cal ∉ K ∧ .doms ∉ K ∧ .cgs ∉ K ∧ .pwr ∉ K) (s : State) (g : Nat) : (s.touchGroup g).only K = s.only K := by
  unfold State.touchGroup
  dsimp only
  split <;> simp [hK]

@[simp] theorem State.noteUrg_only {K : List Piece} (hK : .regs ∉ K) (s : State) (k : Nat) : (s.noteUrg k).only K = s.only K := by
  simp [State.noteUrg, hK]

@[simp] theorem State.noteAddr_only {K : List Piece} (hK : .regs ∉ K) (s : State) (code : ErrCode) (r : Req) :
    (s.noteAddr code r).only K = s.only K := by
  simp [State.noteAddr, hK]

@[simp] theorem State.answerVerdict_only {K : List Piece}
    (hK : .regs ∉ K ∧ .link ∉ K ∧ .reqs ∉ K ∧ .trx ∉ K ∧ .regul ∉ K ∧ .chans ∉ K ∧ .slots ∉ K) (s : State) (r : Req)
    (v : Verdict) {go : State → State} (hgo : ∀ t, (go t).only K = t.only K) : (s.answerVerdict r v go).only K = s.only K := by
  unfold State.answerVerdict
  split <;> simp [hK, hgo]

@[simp] theorem State.takeWseq_only {K : List Piece} (hK : .chans ∉ K) (s : State) (ch : Nat) :
    (s.takeWseq ch).only K = s.only K := by
  simp [State.takeWseq, hK]

@[simp] theorem State.enterRead_only {K : List Piece} (hK : .regs ∉ K ∧ .pins ∉ K ∧ .evt ∉ K ∧ .pinFlt ∉ K ∧ .link ∉ K ∧
    .reqs ∉ K ∧ .trx ∉ K ∧ .regul ∉ K ∧ .chans ∉ K ∧ .slots ∉ K ∧ .doms ∉ K ∧ .pwr ∉ K) (s : State) (r : Req) (idx : Nat)
    (l : Loc) (urg : Nat) : (s.enterRead r idx l urg).only K = s.only K := by
  unfold State.enterRead
  dsimp only
  split <;> simp [hK]

@[simp] theorem State.enterHeld_only {K : List Piece} (hK : .regs ∉ K ∧ .link ∉ K ∧ .reqs ∉ K ∧ .trx ∉ K ∧ .regul ∉ K ∧
    .chans ∉ K ∧ .slots ∉ K) (s : State) (r : Req) (ch : Nat) : (s.enterHeld r ch).only K = s.only K := by
  simp [State.enterHeld, hK]

@[simp] theorem State.enterWrite_only {K : List Piece} (hK : .regs ∉ K ∧ .link ∉ K ∧ .reqs ∉ K ∧ .trx ∉ K ∧ .regul ∉ K ∧
    .chans ∉ K ∧ .slots ∉ K) (s : State) (r : Req) (l : Loc) : (s.enterWrite r l).only K = s.only K := by
  unfold State.enterWrite
  dsimp only
  split <;> simp [hK]

@[simp] theorem State.resumeLine_only {K : List Piece} (hK : .regs ∉ K ∧ .pins ∉ K ∧ .evt ∉ K ∧ .pinFlt ∉ K ∧ .link ∉ K ∧
    .reqs ∉ K ∧ .trx ∉ K ∧ .regul ∉ K ∧ .chans ∉ K ∧ .slots ∉ K ∧ .doms ∉ K ∧ .pwr ∉ K) (s : State) (ch laddr : Nat)
    (n2 : Nat) : (s.resumeLine ch laddr n2).only K = s.only K := by
  induction n2 generalizing s with
  | zero => rfl
  | succ n ih =>
    unfold State.resumeLine
    repeat' split
    all_goals simp [ih, hK]

@[simp] theorem State.resumeAll_only {K : List Piece} (hK : .regs ∉ K ∧ .pins ∉ K ∧ .evt ∉ K ∧ .pinFlt ∉ K ∧ .link ∉ K ∧
    .reqs ∉ K ∧ .trx ∉ K ∧ .regul ∉ K ∧ .chans ∉ K ∧ .slots ∉ K ∧ .doms ∉ K ∧ .pwr ∉ K) (s : State) (ch : Nat) :
    (s.resumeAll ch).only K = s.only K := by
  simp [State.resumeAll, hK]

@[simp] theorem State.endRmw_only {K : List Piece} (hK : .regs ∉ K ∧ .pins ∉ K ∧ .evt ∉ K ∧ .pinFlt ∉ K ∧ .link ∉ K ∧
    .reqs ∉ K ∧ .trx ∉ K ∧ .regul ∉ K ∧ .chans ∉ K ∧ .slots ∉ K ∧ .doms ∉ K ∧ .pwr ∉ K) (s : State) (ch laddr uid : Nat) :
    (s.endRmw ch laddr uid).only K = s.only K := by
  simp [State.endRmw, hK]

@[simp] theorem State.dropHeld_only {K : List Piece} (hK : .link ∉ K ∧ .reqs ∉ K ∧ .regul ∉ K ∧ .chans ∉ K) (s : State)
    (r : Req) (ch : Nat) : (s.dropHeld r ch).only K = s.only K := by
  simp [State.dropHeld, hK]

@[simp] theorem State.rmwFails_only {K : List Piece} (hK : .regs ∉ K ∧ .pins ∉ K ∧ .evt ∉ K ∧ .pinFlt ∉ K ∧ .link ∉ K ∧
    .reqs ∉ K ∧ .trx ∉ K ∧ .regul ∉ K ∧ .chans ∉ K ∧ .slots ∉ K ∧ .doms ∉ K ∧ .pwr ∉ K) (s : State) (r : Req) (ch : Nat) :
    (s.rmwFails r ch).only K = s.only K := by
  simp [State.rmwFails, hK]

@[simp] theorem State.enterLine_only {K : List Piece} (hK : .regs ∉ K ∧ .pins ∉ K ∧ .evt ∉ K ∧ .pinFlt ∉ K ∧ .link ∉ K ∧
    .reqs ∉ K ∧ .trx ∉ K ∧ .regul ∉ K ∧ .chans ∉ K ∧ .slots ∉ K ∧ .doms ∉ K ∧ .pwr ∉ K) (s : State) (r : Req) (idx : Nat)
    (urg : Nat) : (s.enterLine r idx urg).only K = s.only K := by
  unfold State.enterLine
  split <;> simp [hK]

@[simp] theorem State.robin_only {K : List Piece} (hK : .regul ∉ K) (s : State) (l : List Nat) (c n : Nat) :
    (s.robin l c n).2.only K = s.only K := by
  induction n generalizing s c with
  | zero => rfl
  | succ n ih =>
    unfold State.robin
    dsimp only
    split <;> simp [ih, hK]

@[simp] theorem State.resetDeficits_only {K : List Piece} (hK : .regul ∉ K) (s : State) : s.resetDeficits.only K = s.only K := by
  simp [State.resetDeficits, hK]

@[simp] theorem State.takeSlot_only {K : List Piece} (hK : .regs ∉ K ∧ .regul ∉ K) (s : State) (k : Nat) :
    (s.takeSlot k).only K = s.only K := by
  simp [State.takeSlot, hK]

@[simp] theorem State.takeUse_only {K : List Piece} (hK : .slots ∉ K) (s : State) (h : Cell) :
    (s.takeUse h).only K = s.only K := by
  simp [State.takeUse, hK]

@[simp] theorem State.dispatch_only {K : List Piece}
    (hK : .regs ∉ K ∧ .pins ∉ K ∧ .evt ∉ K ∧ .pinFlt ∉ K ∧ .link ∉ K ∧ .reqs ∉ K ∧ .trx ∉ K ∧ .regul ∉ K ∧ .chans ∉ K ∧
      .slots ∉ K ∧ .doms ∉ K ∧ .pwr ∉ K) (s : State) (r : Req) (k : Nat) : (s.dispatch r k).only K = s.only K := by
  unfold State.dispatch
  dsimp only
  split
  · simp [hK]
  · refine (State.only_forAll (fun i t => ?_) _ _).trans ?_
    · split <;> simp [hK]
    · simp [hK]

theorem State.only_of_chooseCtx {K : List Piece} (hK : .regul ∉ K) {s t : State} {k : Nat} (h : s.chooseCtx = some (k, t)) :
    t.only K = s.only K := by
  unfold State.chooseCtx at h
  dsimp only at h
  split at h
  case h_4 =>
    obtain ⟨-, rfl⟩ := Prod.mk.inj (Option.some.inj h)
    split <;> simp [hK]
  case h_5 => cases h
  all_goals
    obtain ⟨_, -, hpair⟩ := Option.map_eq_some_iff.1 h
    exact congrArg (fun x => State.only x K) (Prod.mk.inj hpair).2.symm

@[simp] theorem State.admitOne_only {K : List Piece}
    (hK : .regs ∉ K ∧ .pins ∉ K ∧ .evt ∉ K ∧ .pinFlt ∉ K ∧ .link ∉ K ∧ .reqs ∉ K ∧ .trx ∉ K ∧ .regul ∉ K ∧ .chans ∉ K ∧
      .slots ∉ K ∧ .doms ∉ K ∧ .pwr ∉ K) (s : State) : s.admitOne.only K = s.only K := by
  unfold State.admitOne
  split
  next => simp [hK]
  next k t hk =>
    have ht : t.only K = s.only K := (State.only_of_chooseCtx hK.2.2.2.2.2.2.2.1 hk).trans (by simp [hK])
    split
    · exact ht
    · rw [State.resetDeficits_only hK.2.2.2.2.2.2.2.1, State.answerVerdict_only (by simp [hK]), ht]
      intro u
      split <;> simp [hK]

@[simp] theorem State.enqueue_only {K : List Piece} (hK : .conf ∉ K ∧ .regs ∉ K ∧ .pins ∉ K ∧ .reqs ∉ K ∧ .chans ∉ K ∧
    .capo ∉ K ∧ .cal ∉ K ∧ .doms ∉ K ∧ .cgs ∉ K ∧ .pwr ∉ K) (s : State) (r : Req) : (s.enqueue r).only K = s.only K := by
  simp [State.enqueue, hK, TrxSt.only]

@[simp] theorem State.keyLost_only {K : List Piece} (hK : .regs ∉ K ∧ .pins ∉ K ∧ .evt ∉ K ∧ .pinFlt ∉ K ∧ .link ∉ K ∧
    .reqs ∉ K ∧ .trx ∉ K ∧ .regul ∉ K ∧ .chans ∉ K ∧ .slots ∉ K ∧ .doms ∉ K ∧ .pwr ∉ K) (s : State) (r : Req) (ch : Nat) :
    (s.keyLost r ch).only K = s.only K := by
  simp [State.keyLost, hK]

@[simp] theorem State.returnLine_only {K : List Piece} (hK : K ⊆ [.time, .conf, .commits, .posted, .snap, .inputs, .wrstN,
    .mem, .nvm, .lanes, .courses, .keyOps, .array, .tab, .sensors, .sec, .cal, .cgs, .boot, .role, .pair, .rpr, .upd,
    .pending]) (s : State) (ch : Nat) (bit : Option Nat) (err : BitVec 576) : (s.returnLine ch bit err).only K = s.only K := by
  refine State.only_mono hK ?_
  unfold State.returnLine
  dsimp only
  repeat' split
  all_goals simp

@[simp] theorem State.mergeRmw_only {K : List Piece} (hK : .regs ∉ K ∧ .pins ∉ K ∧ .evt ∉ K ∧ .pinFlt ∉ K ∧ .link ∉ K ∧
    .reqs ∉ K ∧ .trx ∉ K ∧ .regul ∉ K ∧ .chans ∉ K ∧ .slots ∉ K ∧ .doms ∉ K ∧ .pwr ∉ K) (s : State) (r : Req) (ch : Nat)
    (w : WrEnt) : (s.mergeRmw r ch w).only K = s.only K := by
  unfold State.mergeRmw
  dsimp only
  split <;> simp [hK]

@[simp] theorem State.timeoutReq_only {K : List Piece}
    (hK : .regs ∉ K ∧ .pins ∉ K ∧ .evt ∉ K ∧ .pinFlt ∉ K ∧ .link ∉ K ∧ .reqs ∉ K ∧ .trx ∉ K ∧ .regul ∉ K ∧ .chans ∉ K ∧
      .slots ∉ K ∧ .doms ∉ K ∧ .pwr ∉ K) (s : State) (r : Req) : (s.timeoutReq r).only K = s.only K := by
  have hends (ch : Nat) (l : List (Nat × Nat)) (t : State) : (forAll l (fun h t => t.endRmw ch h.1 r.uid) t).only K = t.only K :=
    State.only_forAll (fun h t => State.endRmw_only hK t ..) _ _
  simp [State.timeoutReq, hK, hends]

@[simp] theorem State.closeWindow_only {K : List Piece} (hK : .regs ∉ K ∧ .regul ∉ K) (s : State) (k : Nat) :
    (s.closeWindow k).only K = s.only K := by
  simp [State.closeWindow, hK]

@[simp] theorem State.scaleMins_only {K : List Piece} (hK : .regs ∉ K ∧ .pins ∉ K ∧ .evt ∉ K ∧ .pinFlt ∉ K ∧ .regul ∉ K ∧
    .doms ∉ K ∧ .pwr ∉ K) (s : State) (old : Nat) : (s.scaleMins old).only K = s.only K := by
  simp [State.scaleMins, hK]

@[simp] theorem State.rollWindow_only {K : List Piece} (hK : .regs ∉ K ∧ .pins ∉ K ∧ .evt ∉ K ∧ .pinFlt ∉ K ∧ .regul ∉ K ∧
    .doms ∉ K ∧ .pwr ∉ K) (s : State) : s.rollWindow.only K = s.only K := by
  simp [State.rollWindow, hK]

@[simp] theorem State.judgeJunction_only {K : List Piece} (hK : .regs ∉ K ∧ .pins ∉ K ∧ .evt ∉ K ∧ .pinFlt ∉ K ∧ .capo ∉ K ∧
    .doms ∉ K ∧ .pwr ∉ K) (s : State) : s.judgeJunction.only K = s.only K := by
  simp [State.judgeJunction, hK]

@[simp] theorem State.roundDone_only {K : List Piece} (hK : .regs ∉ K ∧ .pins ∉ K ∧ .evt ∉ K ∧ .pinFlt ∉ K ∧ .chans ∉ K ∧
    .capo ∉ K ∧ .sensors ∉ K ∧ .cal ∉ K ∧ .doms ∉ K ∧ .pwr ∉ K) (s : State) : s.roundDone.only K = s.only K := by
  simp only [State.roundDone, hK, State.judgeBand_only, State.judgeJunction_only, State.judgeStep_only,
    State.norefTrims_only, State.only_forAll,
    State.only_capo_sensors,




    not_false_eq_true, and_self,
    implies_true]

@[simp] theorem State.sensorDone_only {K : List Piece} (hK : .regs ∉ K ∧ .pins ∉ K ∧ .evt ∉ K ∧ .pinFlt ∉ K ∧ .chans ∉ K ∧
    .capo ∉ K ∧ .sensors ∉ K ∧ .cal ∉ K ∧ .doms ∉ K ∧ .pwr ∉ K) (s : State) (k : Nat) : (s.sensorDone k).only K = s.only K := by
  simp [State.sensorDone, hK]

@[simp] theorem State.sensorGood_only {K : List Piece} (hK : .regs ∉ K ∧ .pins ∉ K ∧ .evt ∉ K ∧ .pinFlt ∉ K ∧ .chans ∉ K ∧
    .capo ∉ K ∧ .sensors ∉ K ∧ .cal ∉ K ∧ .doms ∉ K ∧ .pwr ∉ K) (s : State) (k v : Nat) :
    (s.sensorGood k v).only K = s.only K := by
  simp [State.sensorGood, hK]

@[simp] theorem State.sensorBad_only {K : List Piece} (hK : .regs ∉ K ∧ .pins ∉ K ∧ .evt ∉ K ∧ .pinFlt ∉ K ∧ .chans ∉ K ∧
    .capo ∉ K ∧ .sensors ∉ K ∧ .cal ∉ K ∧ .doms ∉ K ∧ .pwr ∉ K) (s : State) (k : Nat) : (s.sensorBad k).only K = s.only K := by
  simp [State.sensorBad, hK]

@[simp] theorem State.statusSensor_only {K : List Piece} (hK : .regs ∉ K ∧ .pins ∉ K ∧ .evt ∉ K ∧ .pinFlt ∉ K ∧
    .sensors ∉ K ∧ .doms ∉ K ∧ .pwr ∉ K) (s : State) (ch sid : Nat) : (s.statusSensor ch sid).only K = s.only K := by
  simp [State.statusSensor, hK]

@[simp] theorem State.sensorStart_only {K : List Piece} (hK : .sensors ∉ K) (s : State) : s.sensorStart.only K = s.only K := by
  simp [State.sensorStart, hK]

@[simp] theorem State.sensorGives_only {K : List Piece} (hK : .regs ∉ K ∧ .pins ∉ K ∧ .evt ∉ K ∧ .pinFlt ∉ K ∧ .chans ∉ K ∧
    .capo ∉ K ∧ .sensors ∉ K ∧ .cal ∉ K ∧ .doms ∉ K ∧ .pwr ∉ K) (s : State) (x : Reading) :
    (s.sensorGives x).only K = s.only K := by
  simp [State.sensorGives, hK]

@[simp] theorem State.noteCut_only {K : List Piece} (hK : .regs ∉ K) (s : State) (was : Nat) :
    (s.noteCut was).only K = s.only K := by
  simp [State.noteCut, hK]

@[simp] theorem State.ildReading_only {K : List Piece} (hK : .capo ∉ K) (s : State) (v : Nat) :
    (s.ildReading v).only K = s.only K := by
  simp [State.ildReading, hK]

@[simp] theorem State.telemTick_only {K : List Piece} (hK : .regs ∉ K ∧ .capo ∉ K) (s : State) :
    s.telemTick.only K = s.only K := by
  simp [State.telemTick, hK]

@[simp] theorem State.telemUp_only {K : List Piece} (hK : .capo ∉ K) (s : State) : s.telemUp.only K = s.only K := by
  unfold State.telemUp
  split <;> simp [hK]

@[simp] theorem State.setView_only {K : List Piece} (hK : .regs ∉ K) (s : State) (p : Nat) (v : View) (x : Nat) :
    (s.setView p v x).only K = s.only K := by
  simp [State.setView, hK, RegSt.only]

@[simp] theorem State.recordAccess_only {K : List Piece} (hK : .regs ∉ K) (s : State) (p : Path) (off : Nat) (f : Field) :
    (s.recordAccess p off f).only K = s.only K := by
  simp [State.recordAccess, hK, RegSt.only]

@[simp] theorem State.noteAccess_only {K : List Piece} (hK : .regs ∉ K ∧ .pins ∉ K ∧ .evt ∉ K ∧ .pinFlt ∉ K ∧ .doms ∉ K ∧
    .pwr ∉ K) (s : State) (p : Path) (off : Nat) (unmapped : Bool) : (s.noteAccess p off unmapped).only K = s.only K := by
  simp [State.noteAccess, hK]

@[simp] theorem State.clearRc_only {K : List Piece} (hK : .regs ∉ K) (s : State) (level : Nat) (l : List (Field × Nat))
    (n : Nat) : (s.clearRc level l n).only K = s.only K := by
  simp [State.clearRc, hK, RegSt.only]

@[simp] theorem State.setLatch_only {K : List Piece} (hK : .regs ∉ K) (s : State) (p off : Nat) (v : Word) :
    (s.setLatch p off v).only K = s.only K := by
  simp [State.setLatch, hK, RegSt.only]

@[simp] theorem State.readLatch_only {K : List Piece} (hK : .regs ∉ K) (s : State) (p : Nat) (off : Nat) :
    (s.readLatch p off).only K = s.only K := by
  simp [State.readLatch, hK]

@[simp] theorem State.readWord_only {K : List Piece} (hK : .posted ∉ K ∧ .regs ∉ K ∧ .pins ∉ K ∧ .evt ∉ K ∧ .pinFlt ∉ K ∧
    .doms ∉ K ∧ .pwr ∉ K) (s : State) (path : Path) (level off : Nat) : (s.readWord path level off).2.only K = s.only K := by
  unfold State.readWord
  dsimp only
  repeat' split
  all_goals simp [hK, RegSt.only]

@[simp] theorem State.cmDone_only {K : List Piece} (hK : .rpr ∉ K) (s : State) (status : Nat) (v : Word) :
    (s.cmDone status v).only K = s.only K := by
  simp [State.cmDone, hK]

@[simp] theorem State.giveValue_only {K : List Piece} (hK : .regs ∉ K ∧ .link ∉ K ∧ .reqs ∉ K ∧ .trx ∉ K ∧ .regul ∉ K ∧
    .chans ∉ K ∧ .slots ∉ K ∧ .rpr ∉ K) (s : State) (a : Access) (tag : Option Nat) (bad : Bool) (v : Word) :
    (s.giveValue a tag bad v).only K = s.only K := by
  unfold State.giveValue
  split <;> simp [hK, RegSt.only]

@[simp] theorem State.readFails_only {K : List Piece} (hK : .regs ∉ K ∧ .link ∉ K ∧ .reqs ∉ K ∧ .trx ∉ K ∧ .regul ∉ K ∧
    .chans ∉ K ∧ .slots ∉ K ∧ .rpr ∉ K) (s : State) (a : Access) (off : Nat) (tag : Option Nat) (d : Nat) :
    (s.readFails a off tag d).only K = s.only K := by
  unfold State.readFails
  dsimp only
  split <;> simp [hK]

@[simp] theorem State.smpAnswers_only {K : List Piece} (hK : .pins ∉ K) (s : State) (ack : Bool) :
    (s.smpAnswers ack).only K = s.only K := by
  simp [State.smpAnswers, hK, PinSt.only]

@[simp] theorem State.stallRead_only {K : List Piece} (hK : .posted ∉ K ∧ .regs ∉ K ∧ .pins ∉ K) (s : State) (a : Access)
    (off : Nat) (tag : Option Nat) (w : Option Nat) (ord : Nat) : (s.stallRead a off tag w ord).only K = s.only K := by
  unfold State.stallRead
  split <;> simp [hK, RegSt.only]

@[simp] theorem State.readTurn_only {K : List Piece} (hK : .posted ∉ K ∧ .regs ∉ K ∧ .pins ∉ K ∧ .evt ∉ K ∧ .pinFlt ∉ K ∧
    .link ∉ K ∧ .reqs ∉ K ∧ .trx ∉ K ∧ .regul ∉ K ∧ .chans ∉ K ∧ .slots ∉ K ∧ .doms ∉ K ∧ .pwr ∉ K ∧ .rpr ∉ K) (s : State)
    (a : Access) (off : Nat) (tag : Option Nat) (ord : Nat) : (s.readTurn a off tag ord).only K = s.only K := by
  simp [State.readTurn, hK, RegSt.only]

@[simp] theorem State.readReg_only {K : List Piece} (hK : K ⊆ [.time, .conf, .commits, .snap, .inputs, .wrstN, .mem, .nvm,
    .flt, .lanes, .courses, .keyOps, .array, .tab, .capo, .sensors, .sec, .cal, .boot, .role, .pair, .upd, .free, .pending])
    (s : State) (a : Access) (off : Nat) (tag : Option Nat) : (s.readReg a off tag).only K = s.only K := by
  refine State.only_mono hK ?_
  simp [State.readReg]

@[simp] theorem State.putShadow_only {K : List Piece} (hK : .conf ∉ K) (s : State) (f : Field) (n i v : Nat) :
    (s.putShadow f n i v).only K = s.only K := by
  simp [State.putShadow, hK, RegSt.only]

@[simp] theorem State.putView_only {K : List Piece} (hK : .regs ∉ K) (s : State) (p : Nat) (f : Field) (v : Nat) :
    (s.putView p f v).only K = s.only K := by
  unfold State.putView
  split <;> simp [hK]

@[simp] theorem State.storeFields_only {K : List Piece} (hK : .conf ∉ K ∧ .regs ∉ K) (s : State) (p level : Nat) (l : List
    (Field × Nat)) (n : Nat) (v : Word) : (s.storeFields p level l n v).only K = s.only K := by
  unfold State.storeFields
  refine State.only_forAll (fun _ _ => ?_) _ _
  repeat' split
  all_goals simp [hK]

@[simp] theorem State.submit_only {K : List Piece} (hK : .conf ∉ K ∧ .commits ∉ K) (s : State) (path level mask : Nat) :
    (s.submit path level mask).only K = s.only K := by
  simp [State.submit, hK, RegSt.only]

@[simp] theorem State.finishCommit_only {K : List Piece} (hK : .commits ∉ K) (s : State) (c : Commit)
    (reject reason result : Nat) : (s.finishCommit c reject reason result).only K = s.only K := by
  simp [State.finishCommit, hK, RegSt.only]

@[simp] theorem State.setCommit_only {K : List Piece} (hK : .commits ∉ K) (s : State) (e : Nat) (f : Commit → Commit) :
    (s.setCommit e f).only K = s.only K := by
  simp [State.setCommit, hK, RegSt.only]

@[simp] theorem State.settleCommit_only {K : List Piece} (hK : .commits ∉ K) (s : State) (e : Nat) :
    (s.settleCommit e).only K = s.only K := by
  unfold State.settleCommit
  split <;> simp [hK]

@[simp] theorem State.drainAll_only {K : List Piece} (hK : .conf ∉ K ∧ .regs ∉ K ∧ .pins ∉ K ∧ .chans ∉ K ∧ .capo ∉ K ∧
    .doms ∉ K ∧ .cgs ∉ K ∧ .pwr ∉ K) (s : State) : s.drainAll.only K = s.only K := by
  simp [State.drainAll, hK]

@[simp] theorem State.noteAdmission_only {K : List Piece} (hK : .regs ∉ K) (s : State) (c : Commit) :
    (s.noteAdmission c).only K = s.only K := by
  simp [State.noteAdmission, hK]

@[simp] theorem State.checkNext_only {K : List Piece} (hK : .conf ∉ K ∧ .commits ∉ K ∧ .regs ∉ K ∧ .pins ∉ K ∧ .chans ∉ K ∧
    .capo ∉ K ∧ .doms ∉ K ∧ .cgs ∉ K ∧ .pwr ∉ K) (s : State) : s.checkNext.only K = s.only K := by
  unfold State.checkNext
  repeat' split
  all_goals simp [hK]

@[simp] theorem State.putWords_only {K : List Piece} (hK : .conf ∉ K) (s : State) (c : Commit) (p : Nat → Bool)
    (at0 : Nat → Nat) : (s.putWords c p at0).only K = s.only K := by
  simp [State.putWords, hK, RegSt.only]

@[simp] theorem State.showProfile_only {K : List Piece} (hK : .conf ∉ K) (s : State) (c : Commit) (p : Page) (n : Nat) :
    (s.showProfile c p n).only K = s.only K := by
  simp [State.showProfile, hK, RegSt.only]

@[simp] theorem State.putGroup_only {K : List Piece} (hK : .conf ∉ K) (s : State) (c : Commit) (g : Nat) :
    (s.putGroup c g).only K = s.only K := by
  simp [State.putGroup, hK]

@[simp] theorem State.applyG0_only {K : List Piece} (hK : .conf ∉ K ∧ .regs ∉ K ∧ .pins ∉ K ∧ .evt ∉ K ∧ .pinFlt ∉ K ∧
    .regul ∉ K ∧ .doms ∉ K ∧ .pwr ∉ K) (s : State) (c : Commit) : (s.applyG0 c).only K = s.only K := by
  simp [State.applyG0, hK]

@[simp] theorem State.warnThresh_only {K : List Piece} (hK : .regs ∉ K ∧ .pins ∉ K ∧ .evt ∉ K ∧ .pinFlt ∉ K ∧ .doms ∉ K ∧
    .pwr ∉ K) (s : State) : s.warnThresh.only K = s.only K := by
  simp [State.warnThresh, hK]

@[simp] theorem State.applyG5_only {K : List Piece} (hK : .conf ∉ K ∧ .regs ∉ K ∧ .pins ∉ K ∧ .evt ∉ K ∧ .pinFlt ∉ K ∧
    .chans ∉ K ∧ .capo ∉ K ∧ .doms ∉ K ∧ .cgs ∉ K ∧ .pwr ∉ K) (s : State) (c : Commit) : (s.applyG5 c).only K = s.only K := by
  simp [State.applyG5, hK]

@[simp] theorem State.applyG6_only {K : List Piece} (hK : .conf ∉ K ∧ .regs ∉ K ∧ .regul ∉ K ∧ .capo ∉ K) (s : State)
    (c : Commit) : (s.applyG6 c).only K = s.only K := by
  simp [State.applyG6, hK]

@[simp] theorem State.applyG3_only {K : List Piece} (hK : .conf ∉ K ∧ .regs ∉ K ∧ .flt ∉ K ∧ .regul ∉ K ∧ .chans ∉ K ∧
    .array ∉ K) (s : State) (c : Commit) : (s.applyG3 c).only K = s.only K := by
  simp [State.applyG3, hK]

@[simp] theorem State.groupDone_only {K : List Piece} (hK : .commits ∉ K) (s : State) (c : Commit) (g : Nat) :
    (s.groupDone c g).only K = s.only K := by
  simp [State.groupDone, hK]

@[simp] theorem State.withG2_only {K : List Piece} (hK : .conf ∉ K) (s : State) (c : Commit) (ch : Nat) :
    (s.withG2 c ch).only K = s.only K := by
  simp [State.withG2, hK]

@[simp] theorem State.g2Done_only {K : List Piece} (hK : .conf ∉ K ∧ .commits ∉ K) (s : State) (ch : Nat) :
    (s.g2Done ch).only K = s.only K := by
  unfold State.g2Done
  split <;> simp [hK]

@[simp] theorem State.applyG2_only {K : List Piece} (hK : .conf ∉ K ∧ .commits ∉ K ∧ .regs ∉ K ∧ .chans ∉ K ∧ .capo ∉ K)
    (s : State) (c : Commit) (ch : Nat) : (s.applyG2 c ch).only K = s.only K := by
  simp [State.applyG2, hK, RegSt.only]

@[simp] theorem State.settleG2_only {K : List Piece} (hK : .conf ∉ K ∧ .commits ∉ K ∧ .chans ∉ K) (s : State) :
    s.settleG2.only K = s.only K := by
  unfold State.settleG2
  split <;> simp [hK]

@[simp] theorem State.applyG4_only {K : List Piece} (hK : .conf ∉ K ∧ .commits ∉ K ∧ .regs ∉ K ∧ .pins ∉ K ∧ .chans ∉ K ∧
    .capo ∉ K ∧ .doms ∉ K ∧ .cgs ∉ K ∧ .pwr ∉ K) (s : State) (c : Commit) (ch : Nat) : (s.applyG4 c ch).only K = s.only K := by
  simp [State.applyG4, hK]

@[simp] theorem State.applyGroup_only {K : List Piece} (hK : .conf ∉ K ∧ .commits ∉ K ∧ .regs ∉ K ∧ .pins ∉ K ∧ .evt ∉ K ∧
    .pinFlt ∉ K ∧ .regul ∉ K ∧ .chans ∉ K ∧ .capo ∉ K ∧ .doms ∉ K ∧ .cgs ∉ K ∧ .pwr ∉ K) (s : State) (g ch : Nat) :
    (s.applyGroup g ch).only K = s.only K := by
  unfold State.applyGroup
  repeat' split
  all_goals simp [hK]

@[simp] theorem State.switchMap_only {K : List Piece} (hK : .conf ∉ K ∧ .commits ∉ K ∧ .regs ∉ K ∧ .flt ∉ K ∧ .regul ∉ K ∧
    .chans ∉ K ∧ .array ∉ K) (s : State) : s.switchMap.only K = s.only K := by
  unfold State.switchMap
  split <;> simp [hK]

@[simp] theorem State.mapWaitOver_only {K : List Piece} (hK : .commits ∉ K) (s : State) : s.mapWaitOver.only K = s.only K := by
  unfold State.mapWaitOver
  repeat' split
  all_goals simp [hK]

@[simp] theorem State.loadGroups_only {K : List Piece} (hK : .conf ∉ K) (s : State) (c : Commit) :
    (s.loadGroups c).only K = s.only K := by
  simp [State.loadGroups, hK]

@[simp] theorem State.loadCommit_only {K : List Piece} (hK : .conf ∉ K ∧ .commits ∉ K ∧ .regs ∉ K ∧ .pins ∉ K ∧ .evt ∉ K ∧
    .pinFlt ∉ K ∧ .regul ∉ K ∧ .chans ∉ K ∧ .capo ∉ K ∧ .doms ∉ K ∧ .pwr ∉ K) (s : State) : s.loadCommit.only K = s.only K := by
  simp [State.loadCommit, hK, RegSt.only]

@[simp] theorem State.writeBoot_only {K : List Piece} (hK : .nvm ∉ K ∧ .boot ∉ K) (s : State) (f : BootRec → BootRec) :
    (s.writeBoot f).only K = s.only K := by
  simp [State.writeBoot, hK]

@[simp] theorem State.loadMasked_only {K : List Piece} (hK : .conf ∉ K ∧ .pinFlt ∉ K) (s : State) (mask off val : Nat) :
    (s.loadMasked mask off val).only K = s.only K := by
  unfold State.loadMasked
  dsimp only
  split
  · simp [hK, RegSt.only]
  · refine State.only_forAll (fun f t => ?_) _ _
    split <;> simp [hK, RegSt.only, FltSt.only]
  · rfl

@[simp] theorem State.loadWord_only {K : List Piece} (hK : .conf ∉ K ∧ .pinFlt ∉ K) (s : State) (off val : Nat) :
    (s.loadWord off val).only K = s.only K := by
  simp [State.loadWord, hK]

@[simp] theorem State.restoreEntry_only {K : List Piece} (hK : .regs ∉ K ∧ .pins ∉ K ∧ .evt ∉ K ∧ .pinFlt ∉ K ∧ .slots ∉ K ∧
    .doms ∉ K ∧ .pwr ∉ K) (s : State) (e : Nat) (l : List Byte) : (s.restoreEntry e l).only K = s.only K := by
  unfold State.restoreEntry
  split <;> simp [hK]

@[simp] theorem State.svc_only {K : List Piece} (hK : .upd ∉ K) (s : State) (code result : Nat) :
    (s.svc code result).only K = s.only K := by
  simp [State.svc, hK]

@[simp] theorem State.stageWith_only {K : List Piece} (hK : .nvm ∉ K ∧ .upd ∉ K) (s : State) (before : List (Nat × BitVec 64))
    (f : Staging → Staging) : (s.stageWith before f).only K = s.only K := by
  simp [State.stageWith, hK]

@[simp] theorem State.stageDone_only {K : List Piece} (hK : .regs ∉ K ∧ .upd ∉ K) (s : State) (ok : Bool) :
    (s.stageDone ok).only K = s.only K := by
  simp [State.stageDone, hK]

@[simp] theorem State.service_only {K : List Piece} (hK : .regs ∉ K ∧ .pins ∉ K ∧ .doms ∉ K ∧ .pwr ∉ K) (s : State)
    {f : State → State} (hf : ∀ t, (f t).only K = t.only K) : (s.service f).only K = s.only K := by
  simp [State.service, hK, hf]

@[simp] theorem State.withNvm_only {K : List Piece} (hK : .upd ∉ K) (s : State) (code : Nat) {go : State}
    (hgo : go.only K = s.only K) :
    (s.withNvm code go).only K = s.only K := by
  unfold State.withNvm
  split <;> simp [hK, hgo]

@[simp] theorem State.svcOpen_only {K : List Piece} (hK : .regs ∉ K ∧ .pins ∉ K ∧ .nvm ∉ K ∧ .evt ∉ K ∧ .pinFlt ∉ K ∧
    .doms ∉ K ∧ .pwr ∉ K ∧ .upd ∉ K) (s : State) (len : Nat) : (s.svcOpen len).only K = s.only K := by
  simp [State.svcOpen, hK]

@[simp] theorem State.svcBlock_only {K : List Piece} (hK : .regs ∉ K ∧ .nvm ∉ K ∧ .upd ∉ K) (s : State) (n : Nat)
    (data : List Byte) (crc : Word) : (s.svcBlock n data crc).only K = s.only K := by
  simp [State.svcBlock, hK]

@[simp] theorem State.svcVerify_only {K : List Piece} (hK : .upd ∉ K) (s : State) : s.svcVerify.only K = s.only K := by
  simp [State.svcVerify, hK]

@[simp] theorem State.readComps_only {K : List Piece} (hK : .regs ∉ K ∧ .pins ∉ K ∧ .evt ∉ K ∧ .pinFlt ∉ K ∧ .doms ∉ K ∧
    .pwr ∉ K) (s : State) (slot : Nat) : (s.readComps slot).only K = s.only K := by
  simp [State.readComps, hK]

@[simp] theorem State.verifyReads_only {K : List Piece} (hK : .regs ∉ K ∧ .pins ∉ K ∧ .evt ∉ K ∧ .pinFlt ∉ K ∧ .doms ∉ K ∧
    .pwr ∉ K) (s : State) (slot result : Nat) : (s.verifyReads slot result).only K = s.only K := by
  simp [State.verifyReads, hK]

@[simp] theorem State.verifyEnd_only {K : List Piece} (hK : .regs ∉ K ∧ .pins ∉ K ∧ .nvm ∉ K ∧ .evt ∉ K ∧ .pinFlt ∉ K ∧
    .doms ∉ K ∧ .pwr ∉ K ∧ .upd ∉ K) (s : State) (nvmOk : Bool) : (s.verifyEnd nvmOk).only K = s.only K := by
  simp [State.verifyEnd, hK]

@[simp] theorem State.decideRestart_only {K : List Piece} (hK : .regs ∉ K ∧ .pins ∉ K ∧ .evt ∉ K ∧ .pinFlt ∉ K ∧ .link ∉ K ∧
    .reqs ∉ K ∧ .trx ∉ K ∧ .regul ∉ K ∧ .chans ∉ K ∧ .slots ∉ K ∧ .doms ∉ K ∧ .pwr ∉ K ∧ .upd ∉ K) (s : State) (cause : Nat) :
    (s.decideRestart cause).only K = s.only K := by
  unfold State.decideRestart
  split <;> simp [hK]

@[simp] theorem State.activateNow_only {K : List Piece} (hK : .nvm ∉ K ∧ .upd ∉ K) (s : State) (follow : Nat) :
    (s.activateNow follow).only K = s.only K := by
  simp [State.activateNow, hK]

@[simp] theorem State.activateDone_only {K : List Piece} (hK : .regs ∉ K ∧ .pins ∉ K ∧ .evt ∉ K ∧ .pinFlt ∉ K ∧ .link ∉ K ∧
    .reqs ∉ K ∧ .trx ∉ K ∧ .regul ∉ K ∧ .chans ∉ K ∧ .slots ∉ K ∧ .doms ∉ K ∧ .pwr ∉ K ∧ .boot ∉ K ∧ .upd ∉ K) (s : State)
    (ok : Bool) : (s.activateDone ok).only K = s.only K := by
  unfold State.activateDone
  dsimp only
  repeat' split
  all_goals simp only [hK, State.count_only, State.decideRestart_only, State.event_only,
    State.only_boot_sec_upd,



    SecSt.only,
    not_false_eq_true, and_self,
    if_false]

@[simp] theorem State.svcActivate_only {K : List Piece} (hK : .nvm ∉ K ∧ .upd ∉ K) (s : State) (digest : List Byte) :
    (s.svcActivate digest).only K = s.only K := by
  simp [State.svcActivate, hK]

@[simp] theorem State.svcAbort_only {K : List Piece} (hK : .nvm ∉ K ∧ .upd ∉ K) (s : State) : s.svcAbort.only K = s.only K := by
  simp [State.svcAbort, hK]

@[simp] theorem State.svcRestart_only {K : List Piece} (hK : .regs ∉ K ∧ .pins ∉ K ∧ .evt ∉ K ∧ .pinFlt ∉ K ∧ .link ∉ K ∧
    .reqs ∉ K ∧ .trx ∉ K ∧ .regul ∉ K ∧ .chans ∉ K ∧ .slots ∉ K ∧ .doms ∉ K ∧ .pwr ∉ K ∧ .upd ∉ K) (s : State) :
    s.svcRestart.only K = s.only K := by
  simp [State.svcRestart, hK]

@[simp] theorem State.followNow_only {K : List Piece} (hK : .nvm ∉ K ∧ .upd ∉ K) (s : State) : s.followNow.only K = s.only K := by
  simp [State.followNow, hK]

@[simp] theorem State.burnOtp_only {K : List Piece} (hK : .mem ∉ K) (s : State) : s.burnOtp.only K = s.only K := by
  simp [State.burnOtp, hK, NvmSt.only]

@[simp] theorem State.confirmNow_only {K : List Piece} (hK : .regs ∉ K ∧ .pins ∉ K ∧ .nvm ∉ K ∧ .evt ∉ K ∧ .pinFlt ∉ K ∧
    .doms ∉ K ∧ .pwr ∉ K ∧ .boot ∉ K) (s : State) (route : Nat) : (s.confirmNow route).only K = s.only K := by
  simp [State.confirmNow, hK]

@[simp] theorem State.confirmHost_only {K : List Piece} (hK : .regs ∉ K ∧ .pins ∉ K ∧ .nvm ∉ K ∧ .evt ∉ K ∧ .pinFlt ∉ K ∧
    .doms ∉ K ∧ .pwr ∉ K ∧ .boot ∉ K) (s : State) (matched : Bool) : (s.confirmHost matched).2.only K = s.only K := by
  unfold State.confirmHost
  repeat' split
  all_goals simp [hK]

@[simp] theorem State.selfPassed_only {K : List Piece} (hK : .regs ∉ K ∧ .pins ∉ K ∧ .nvm ∉ K ∧ .evt ∉ K ∧ .pinFlt ∉ K ∧
    .doms ∉ K ∧ .pwr ∉ K ∧ .boot ∉ K ∧ .upd ∉ K) (s : State) : s.selfPassed.only K = s.only K := by
  simp [State.selfPassed, hK]

@[simp] theorem State.probationOver_only {K : List Piece} (hK : .regs ∉ K ∧ .pins ∉ K ∧ .evt ∉ K ∧ .pinFlt ∉ K ∧ .link ∉ K ∧
    .reqs ∉ K ∧ .trx ∉ K ∧ .regul ∉ K ∧ .chans ∉ K ∧ .slots ∉ K ∧ .doms ∉ K ∧ .pwr ∉ K ∧ .upd ∉ K) (s : State) :
    s.probationOver.only K = s.only K := by
  unfold State.probationOver
  split <;> simp [hK]

@[simp] theorem State.updReady_only {K : List Piece} (hK : .regs ∉ K ∧ .pins ∉ K ∧ .mem ∉ K ∧ .nvm ∉ K ∧ .evt ∉ K ∧
    .pinFlt ∉ K ∧ .doms ∉ K ∧ .pwr ∉ K ∧ .boot ∉ K ∧ .upd ∉ K) (s : State) : s.updReady.only K = s.only K := by
  simp [State.updReady, hK]

@[simp] theorem State.svcConfirm_only {K : List Piece} (hK : .regs ∉ K ∧ .pins ∉ K ∧ .nvm ∉ K ∧ .evt ∉ K ∧ .pinFlt ∉ K ∧
    .doms ∉ K ∧ .pwr ∉ K ∧ .boot ∉ K ∧ .upd ∉ K) (s : State) (digest : List Byte) : (s.svcConfirm digest).only K = s.only K := by
  simp [State.svcConfirm, hK]

@[simp] theorem State.regConfirm_only {K : List Piece} (hK : .regs ∉ K ∧ .pins ∉ K ∧ .nvm ∉ K ∧ .evt ∉ K ∧ .pinFlt ∉ K ∧
    .doms ∉ K ∧ .pwr ∉ K ∧ .boot ∉ K) (s : State) (lo : Word) : (s.regConfirm lo).only K = s.only K := by
  simp [State.regConfirm, hK]

@[simp] theorem State.orLate_only {K : List Piece} (hK : .upd ∉ K) (s : State) (c : LateCmd)
    {f : State → State} (hf : (f s).only K = s.only K) : (s.orLate c f).only K = s.only K := by
  unfold State.orLate
  repeat' split
  all_goals simp [hK, hf]

@[simp] theorem State.takeLate_only {K : List Piece} (hK : K ⊆ [.time, .conf, .commits, .posted, .snap, .inputs, .wrstN,
    .mem, .flt, .lanes, .courses, .keyOps, .array, .tab, .capo, .sensors, .sec, .cal, .cgs, .role, .pair, .rpr, .free,
    .pending]) (s : State) : s.takeLate.only K = s.only K := by
  refine State.only_mono hK ?_
  unfold State.takeLate
  refine State.only_forAll (fun _ _ => ?_) _ _
  repeat' split
  all_goals simp

@[simp] theorem State.setStage_only {K : List Piece} (hK : .boot ∉ K) (s : State) (x : BootStage) :
    (s.setStage x).only K = s.only K := by
  simp [State.setStage, hK]

@[simp] theorem State.switchOn_only {K : List Piece} (hK : .pins ∉ K ∧ .doms ∉ K) (s : State) (d : Nat) :
    (s.switchOn d).only K = s.only K := by
  simp [State.only, State.switchOn, hK, PinSt.only, PwrSt.only]

@[simp] theorem State.holdResets_only {K : List Piece} (hK : .pins ∉ K) (s : State) : s.holdResets.only K = s.only K := by
  simp [State.holdResets, hK, PinSt.only]

@[simp] theorem State.halt_only {K : List Piece} (hK : .pins ∉ K ∧ .nvm ∉ K ∧ .pinFlt ∉ K ∧ .boot ∉ K) (s : State)
    (code : FailCode) (started : Bool) : (s.halt code started).only K = s.only K := by
  simp only [State.halt, hK, State.assertPin_only, State.holdResets_only, State.setStage_only, State.writeBoot_only,
    State.only_when,
    State.only_boot_flt_pins_trx,
    PinSt.only,
    FltSt.only,
    not_false_eq_true, and_self, ite_self, if_false]

@[simp] theorem State.enterRecovery_only {K : List Piece} (hK : .pins ∉ K ∧ .pinFlt ∉ K ∧ .doms ∉ K ∧ .boot ∉ K ∧ .upd ∉ K)
    (s : State) (code : FailCode) : (s.enterRecovery code).only K = s.only K := by
  simp only [State.enterRecovery, hK, State.assertPin_only, State.holdResets_only, State.setDom_only, State.setStage_only,
    State.only_forAll,
    State.only_boot_sec_upd, State.only_boot_flt_pins_trx,
    PinSt.only, FltSt.only,
    not_false_eq_true, if_false,
    implies_true]

@[simp] theorem State.bootRom_only {K : List Piece} (hK : .pins ∉ K ∧ .nvm ∉ K ∧ .pinFlt ∉ K ∧ .sec ∉ K ∧ .cal ∉ K ∧
    .doms ∉ K ∧ .boot ∉ K ∧ .free ∉ K) (s : State) (env : BootEnv) : (s.bootRom env).2.only K = s.only K := by
  unfold State.bootRom
  dsimp only
  repeat' split
  all_goals simp only [hK, State.enterNoref_only, State.halt_only, State.setStage_only, State.startDrbg_only,
    State.switchOn_only, State.only_forAll,


    State.only_nvm,
    NvmSt.only,
    not_false_eq_true, and_self, if_false, implies_true]

@[simp] theorem State.noteWakeFail_only {K : List Piece} (hK : .regs ∉ K ∧ .pins ∉ K ∧ .evt ∉ K ∧ .pinFlt ∉ K ∧ .doms ∉ K ∧
    .pwr ∉ K) (s : State) (d n : Nat) : (s.noteWakeFail d n).only K = s.only K := by
  simp [State.noteWakeFail, hK]

@[simp] theorem State.dataPathOn_only {K : List Piece} (hK : .regs ∉ K ∧ .pins ∉ K ∧ .evt ∉ K ∧ .pinFlt ∉ K ∧ .flt ∉ K ∧
    .link ∉ K ∧ .reqs ∉ K ∧ .trx ∉ K ∧ .regul ∉ K ∧ .chans ∉ K ∧ .capo ∉ K ∧ .slots ∉ K ∧ .doms ∉ K ∧ .pwr ∉ K) (s : State)
    (env : BootEnv) : (s.dataPathOn env).only K = s.only K := by
  have htries (d n : Nat) (t : State) : (forAll (List.range n) (fun n t => t.noteWakeFail d (n + 1)) t).only K = t.only K :=
    State.only_forAll (fun n t => by simp [hK]) _ _
  simp [State.dataPathOn, hK, htries]

@[simp] theorem State.runSlot_only {K : List Piece} (hK : K ⊆ [.time, .conf, .commits, .posted, .snap, .inputs, .wrstN, .mem,
    .nvm, .lanes, .courses, .keyOps, .array, .sensors, .sec, .cal, .cgs, .role, .pair, .rpr, .upd, .free, .pending])
    (s : State) (env : BootEnv) (slot : Nat) (fell : Bool) : (s.runSlot env slot fell).only K = s.only K := by
  refine State.only_mono hK ?_
  simp only [State.runSlot, State.fenceUnit_only, State.stick_only, State.only_when,
    State.only_boot_tab,



    List.mem_cons, List.not_mem_nil,
    reduceCtorEq, not_false_eq_true, and_self,
    ite_self, or_self]

@[simp] theorem State.trySlots_only {K : List Piece} (hK : K ⊆ [.time, .conf, .commits, .posted, .snap, .inputs, .wrstN, .mem,
    .lanes, .courses, .keyOps, .array, .sensors, .sec, .cal, .cgs, .role, .pair, .rpr, .free, .pending]) (s : State)
    (env : BootEnv) (fell : Bool) (l : List (Nat × Option (BitVec 384))) : (s.trySlots env fell l).2.only K = s.only K := by
  refine State.only_mono hK ?_
  induction l generalizing s fell with
  | nil => simp [State.trySlots]
  | cons x l ih =>
    unfold State.trySlots
    dsimp only
    split_ifs
    all_goals simp [ih]

@[simp] theorem State.bootSlot_only {K : List Piece} (hK : K ⊆ [.time, .conf, .commits, .posted, .snap, .inputs, .wrstN,
    .mem, .lanes, .courses, .keyOps, .array, .sensors, .sec, .cal, .cgs, .role, .pair, .rpr, .free, .pending]) (s : State)
    (env : BootEnv) : (s.bootSlot env).2.only K = s.only K := by
  refine State.only_mono hK ?_
  unfold State.bootSlot
  dsimp only
  split <;> simp

theorem State.storedSets_only {K : List Piece} (hK : .regs ∉ K ∧ .pins ∉ K ∧ .evt ∉ K ∧ .pinFlt ∉ K ∧ .cal ∉ K ∧
    .doms ∉ K ∧ .pwr ∉ K ∧ .rpr ∉ K) (ch : Nat) (l : List Nat) (t : State) : (forAll l (fun p t =>
      if (t.readSet ch p).valid then ({ t with cal := { t.cal with sets := t.cal.sets.set (8 * ch + p) (t.readSet ch p) } } : State)
      else (({ t with cal := { t.cal with sets := t.cal.sets.set (8 * ch + p) (t.readSet ch p) } } : State).stick
        RF.SYS_CALSET_BAD).event 0x07 0x0902 1 [(0, 1, ch), (1, 1, p)]) t).only K = t.only K :=
  State.only_forAll (fun p t => by simp [hK]) _ _

theorem State.unconfirmed_only {K : List Piece} (hK : .regs ∉ K ∧ .pins ∉ K ∧ .evt ∉ K ∧ .pinFlt ∉ K ∧ .doms ∉ K ∧ .pwr ∉ K)
    (ch : Nat) (l : List (Nat × Nat × Bool)) (t : State) : (forAll l (fun e u =>
      (u.stick RF.RPR_UNCONFIRMED).event 0x09 0x0b04 2 [(0, 1, ch), (1, 1, e.1), (2, 2, e.2.1)]) t).only K = t.only K :=
  State.only_forAll (fun e t => by simp [hK]) _ _

@[simp] theorem State.loadSets_only {K : List Piece} (hK : .regs ∉ K ∧ .pins ∉ K ∧ .evt ∉ K ∧ .pinFlt ∉ K ∧ .cal ∉ K ∧
    .doms ∉ K ∧ .pwr ∉ K ∧ .rpr ∉ K) (s : State) : s.loadSets.only K = s.only K := by
  unfold State.loadSets
  refine (State.only_forAll (fun ch t => ?_) _ _).trans ((State.only_forAll (fun ch t =>
    State.storedSets_only hK ch _ t) _ _).trans (State.readsOf_only (by simp [hK]) _ _ _))
  extract_lets +onlyGivenNames u v
  have hv : v.only K = t.only K := by simp [v, u, hK]
  rw [← hv]
  clear_value v
  generalize v.repairOk 0 ch = a, v.repairOk 1 ch = b
  generalize Machine.repairOf (v.mram (repairAddr 0 ch) 2048) = m0, Machine.repairOf (v.mram (repairAddr 1 ch) 2048) = m1
  have hput (m : RepairMap) := State.unconfirmed_only (K := K) (by simp [hK]) ch (m.hard.filter (fun e => e.2.2))
      ({ v with rpr := { v.rpr with maps := v.rpr.maps.set ch m } } : State)
  cases a <;> cases b <;> simp [hput, hK]

@[simp] theorem State.readPages_only {K : List Piece} (hK : .regs ∉ K ∧ .pins ∉ K ∧ .evt ∉ K ∧ .pinFlt ∉ K ∧ .doms ∉ K ∧
    .pwr ∉ K) (s : State) (slot : Nat) : (s.readPages slot).only K = s.only K := by
  simp [State.readPages, hK]

@[simp] theorem State.loadSettings_only {K : List Piece} (hK : .conf ∉ K ∧ .regs ∉ K ∧ .pins ∉ K ∧ .evt ∉ K ∧ .pinFlt ∉ K ∧
    .sec ∉ K ∧ .doms ∉ K ∧ .pwr ∉ K ∧ .boot ∉ K) (s : State) : s.loadSettings.only K = s.only K := by
  unfold State.loadSettings
  dsimp only
  repeat' split
  all_goals simp only [hK, State.event_only, State.loadWord_only, State.readPages_only, State.stick_only,
    State.only_forAll,
    State.only_boot_sec,
    State.only_boot_flt_pins_trx,
    PinSt.only, FltSt.only, SecSt.only,
    not_false_eq_true, and_self,
    if_false, implies_true]

@[simp] theorem State.drawVoidKey_only {K : List Piece} (hK : .regs ∉ K ∧ .sec ∉ K ∧ .free ∉ K) (s : State) :
    s.drawVoidKey.only K = s.only K := by
  simp [State.drawVoidKey, hK, SecSt.only]

@[simp] theorem State.withEntries_only {K : List Piece} (hK : .sec ∉ K) (s : State) (n : Nat) :
    (s.withEntries n).only K = s.only K := by
  simp [State.withEntries, hK, SecSt.only]

@[simp] theorem State.loadKeys_only {K : List Piece} (hK : .regs ∉ K ∧ .pins ∉ K ∧ .evt ∉ K ∧ .pinFlt ∉ K ∧ .slots ∉ K ∧
    .sec ∉ K ∧ .doms ∉ K ∧ .pwr ∉ K ∧ .free ∉ K) (s : State) : s.loadKeys.only K = s.only K := by
  unfold State.loadKeys
  dsimp only
  split <;> simp [hK]

@[simp] theorem State.bootSensors_only {K : List Piece} (hK : .regs ∉ K ∧ .pins ∉ K ∧ .evt ∉ K ∧ .pinFlt ∉ K ∧ .chans ∉ K ∧
    .capo ∉ K ∧ .sensors ∉ K ∧ .cal ∉ K ∧ .doms ∉ K ∧ .pwr ∉ K) (s : State) (env : BootEnv) :
    (s.bootSensors env).only K = s.only K := by
  simp [State.bootSensors, hK]

@[simp] theorem State.bootLoad_only {K : List Piece} (hK : K ⊆ [.time, .posted, .snap, .inputs, .wrstN, .mem, .flt, .lanes,
    .courses, .keyOps, .array, .tab, .cgs, .role, .pair, .pending]) (s : State) (env : BootEnv) :
    (s.bootLoad env).only K = s.only K := by
  refine State.only_mono hK ?_
  unfold State.bootLoad
  refine (State.takeLate_only (by simp) _).trans ((State.takeBudget_only (by simp) _).trans ((State.loadKeys_only (by simp) _).trans
    ((State.drawVoidKey_only (by simp) _).trans ((State.only_boot_sec_upd _ (by simp) ?_ (by simp) _ _).trans
      ((State.loadCommit_only (by simp) _).trans ((State.loadSets_only (by simp) _).trans
        ((State.loadSettings_only (by simp) _).trans ?_)))))))
  · simp [SecSt.only]
  · split <;> simp

@[simp] theorem State.trainStart_only {K : List Piece} (hK : .cal ∉ K) (s : State) (ch : Nat) :
    (s.trainStart ch).only K = s.only K := by
  simp [State.trainStart, hK]

@[simp] theorem State.playPosted_only {K : List Piece} (hK : .chans ∉ K ∧ .array ∉ K) (s : State) (ch : Nat) (a : Agent)
    (cmd mr data : Nat) (x : Target) : (s.playPosted ch a cmd mr data x).only K = s.only K := by
  simp [State.playPosted, hK]

@[simp] theorem State.releaseDies_only {K : List Piece} (hK : .pins ∉ K ∧ .chans ∉ K) (s : State) (ch : Nat) :
    (s.releaseDies ch).only K = s.only K := by
  unfold State.releaseDies
  dsimp only
  repeat' split
  all_goals simp [hK, State.only, PinSt.only]

@[simp] theorem State.dieStart_only {K : List Piece} (hK : .pins ∉ K ∧ .chans ∉ K ∧ .array ∉ K) (s : State) (ch : Nat) :
    (s.dieStart ch).only K = s.only K := by
  have hcmds (sid : Nat) (t : State) : (forAll (t.startCmds ch sid) (fun c t =>
      t.playPosted ch c.1 c.2.1 c.2.2.1 c.2.2.2.1 c.2.2.2.2) t).only K = t.only K :=
    State.only_forAll (fun c t => State.playPosted_only ⟨hK.2.1, hK.2.2⟩ t ..) _ _
  simp [State.dieStart, hK, hcmds]

@[simp] theorem State.putIdents_only {K : List Piece} (hK : .chans ∉ K) (s : State) (l : List SidIdent) (ch : Nat) :
    (s.putIdents l ch).only K = s.only K := by
  unfold State.putIdents
  refine State.only_forAll (fun _ _ => ?_) _ _
  repeat' split
  all_goals simp [hK]

@[simp] theorem State.startDies_only {K : List Piece} (hK : .pins ∉ K ∧ .chans ∉ K ∧ .array ∉ K) (s : State)
    (l : List SidIdent) (chs : List Nat) : (s.startDies l chs).only K = s.only K := by
  simp [State.startDies, hK]

@[simp] theorem State.bootDies_only {K : List Piece} (hK : K ⊆ [.time, .conf, .commits, .posted, .snap, .inputs, .wrstN,
    .mem, .nvm, .lanes, .courses, .keyOps, .tab, .sensors, .sec, .role, .rpr, .upd, .free, .pending]) (s : State)
    (env : BootEnv) : (s.bootDies env).only K = s.only K := by
  refine State.only_mono hK ?_
  simp only [State.bootDies, State.enterNoref_only, State.fenceUnit_only, State.setCg_only, State.setStage_only,
    State.startDies_only, State.trainStart_only, State.only_ite, State.only_forAll,
    State.only_boot_pair,



    PairSt.only, List.mem_cons, List.not_mem_nil,
    reduceCtorEq, or_false, or_true, not_false_eq_true, and_self,
    ite_self, if_false, if_true, implies_true, or_self]

@[simp] theorem State.bootHeld_only {K : List Piece} (hK : .pins ∉ K ∧ .boot ∉ K ∧ .role ∉ K ∧ .pair ∉ K) (s : State) :
    s.bootHeld.only K = s.only K := by
  simp [State.only, State.bootHeld, hK, PinSt.only, PairSt.only]

@[simp] theorem State.bootRest_only {K : List Piece} (hK : K ⊆ [.time, .posted, .snap, .inputs, .wrstN, .mem, .lanes, .courses,
    .keyOps, .pending]) (s : State) (env : BootEnv) : (s.bootRest env).only K = s.only K := by
  refine State.only_mono hK ?_
  unfold State.bootRest
  have hslot := fun K hK => (State.bootSlot_only (K := K) hK { s with boot := { s.boot with waiting := false } } env)
  split
  next t heq =>
    rw [heq] at hslot
    rw [hslot _ (by simp)]
    simp
  next t heq =>
    rw [heq] at hslot
    have ht := (hslot [.time, .posted, .snap, .inputs, .wrstN, .mem, .lanes, .courses, .keyOps, .pending] (by simp))
    split_ifs <;> simp_all

@[simp] theorem State.startUp_only {K : List Piece} (hK : K ⊆ [.time, .posted, .snap, .inputs, .wrstN, .mem, .lanes, .courses,
    .keyOps, .pending]) (s : State) (env : BootEnv) : (s.startUp env).only K = s.only K := by
  refine State.only_mono hK ?_
  unfold State.startUp
  have hrom := fun K hK => State.bootRom_only (K := K) hK s env
  split
  next t heq =>
    rw [heq] at hrom
    exact hrom _ (by simp)
  next t heq =>
    rw [heq] at hrom
    rw [← hrom _ (by simp)]
    split_ifs <;> simp

@[simp] theorem State.setCourse_only {K : List Piece} (hK : .courses ∉ K) (s : State) (c : Nat) (f : Course → Course) :
    (s.setCourse c f).only K = s.only K := by
  simp [State.setCourse, hK, LinkSt.only]

@[simp] theorem State.setLane_only {K : List Piece} (hK : .lanes ∉ K) (s : State) (c l : Nat) (f : Lane → Lane) :
    (s.setLane c l f).only K = s.only K := by
  simp [State.setLane, hK, LinkSt.only]

@[simp] theorem State.setLanes_only {K : List Piece} (hK : .lanes ∉ K) (s : State) (c : Nat) (f : Lane → Lane) :
    (s.setLanes c f).only K = s.only K := by
  simp [State.setLanes, hK]

@[simp] theorem State.linkStart_only {K : List Piece} (hK : .pins ∉ K ∧ .lanes ∉ K) (s : State) :
    s.linkStart.only K = s.only K := by
  simp [State.linkStart, hK, PinSt.only, LinkSt.only]

@[simp] theorem State.trimServe_only {K : List Piece} (hK : .conf ∉ K ∧ .regs ∉ K ∧ .pins ∉ K ∧ .evt ∉ K ∧ .pinFlt ∉ K ∧
    .regul ∉ K ∧ .doms ∉ K ∧ .pwr ∉ K) (s : State) : s.trimServe.only K = s.only K := by
  simp [State.trimServe, hK, RegSt.only]

@[simp] theorem State.trainingOver_only {K : List Piece} (hK : .regs ∉ K ∧ .pins ∉ K ∧ .nvm ∉ K ∧ .pinFlt ∉ K ∧ .lanes ∉ K ∧
    .doms ∉ K ∧ .pwr ∉ K ∧ .boot ∉ K) (s : State) : s.trainingOver.only K = s.only K := by
  simp [State.trainingOver, hK]

@[simp] theorem State.leaveTraining_only {K : List Piece} (hK : .cal ∉ K ∧ .boot ∉ K) (s : State) (ch : Nat) (ok : Bool) :
    (s.leaveTraining ch ok).only K = s.only K := by
  simp [State.only, State.leaveTraining, hK]

@[simp] theorem State.trainFails_only {K : List Piece} (hK : K ⊆ [.time, .conf, .commits, .posted, .snap, .inputs, .wrstN,
    .mem, .courses, .keyOps, .array, .tab, .sensors, .sec, .cgs, .role, .pair, .rpr, .upd, .free, .pending]) (s : State)
    (ch reason : Nat) : (s.trainFails ch reason).only K = s.only K := by
  refine State.only_mono hK ?_
  simp [State.trainFails]

@[simp] theorem State.trainDone_only {K : List Piece} (hK : K ⊆ [.time, .conf, .commits, .posted, .snap, .inputs, .wrstN, .mem,
    .courses, .keyOps, .array, .tab, .sensors, .sec, .cgs, .role, .pair, .upd, .free, .pending]) (s : State) (ch : Nat)
    (r : TrainResult) : (s.trainDone ch r).only K = s.only K := by
  refine State.only_mono hK ?_
  unfold State.trainDone
  have hjudge := fun K hK => State.judgeTraining_only (K := K) hK s ch rsnTrain r
  split
  · rfl
  · split
    next t heq =>
      rw [heq] at hjudge
      rw [← hjudge _ (by simp)]
      simp
    next n t heq =>
      rw [heq] at hjudge
      rw [← hjudge _ (by simp)]
      simp

@[simp] theorem State.enterReady_only {K : List Piece} (hK : .conf ∉ K ∧ .regs ∉ K ∧ .pins ∉ K ∧ .mem ∉ K ∧ .nvm ∉ K ∧
    .evt ∉ K ∧ .pinFlt ∉ K ∧ .flt ∉ K ∧ .trx ∉ K ∧ .regul ∉ K ∧ .doms ∉ K ∧ .pwr ∉ K ∧ .boot ∉ K ∧ .upd ∉ K) (s : State) :
    s.enterReady.only K = s.only K := by
  simp only [State.enterReady, hK, State.event_only, State.setStage_only, State.trimServe_only, State.updReady_only,


    State.only_boot_flt_pins_trx,


    PinSt.only, FltSt.only, TrxSt.only,
    not_false_eq_true, and_self,
    if_false]

@[simp] theorem State.bootGoesOn_only {K : List Piece} (hK : K ⊆ [.time, .commits, .posted, .snap, .inputs, .wrstN, .courses,
    .link, .reqs, .keyOps, .array, .tab, .sensors, .slots, .sec, .role, .pair, .rpr, .free, .pending]) (s : State) :
    s.bootGoesOn.only K = s.only K := by
  refine State.only_mono hK ?_
  simp [State.bootGoesOn]

@[simp] theorem State.linkWait_only {K : List Piece} (hK : K ⊆ [.time, .commits, .posted, .snap, .inputs, .wrstN, .mem, .nvm,
    .reqs, .keyOps, .trx, .array, .tab, .sensors, .slots, .boot, .rpr, .upd, .free, .pending]) (s : State) :
    s.linkWait.only K = s.only K := by
  refine State.only_mono hK ?_
  simp [State.linkWait]

@[simp] theorem State.mirWords_only {K : List Piece} (hK : .regs ∉ K) (s : State) (n : Nat) :
    (s.mirWords n).only K = s.only K := by
  simp [State.mirWords, hK]

@[simp] theorem State.mirPlace_only {K : List Piece} (hK : .regs ∉ K ∧ .pair ∉ K) (s : State) (type : Nat) (body : List Word)
    (keyOp : Option Nat) : (s.mirPlace type body keyOp).only K = s.only K := by
  simp [State.mirPlace, hK, PairSt.only]

@[simp] theorem State.mirSend_only {K : List Piece} (hK : .regs ∉ K ∧ .pair ∉ K) (s : State) (type : Nat) (body : List Word)
    (keyOp : Option Nat) : (s.mirSend type body keyOp).only K = s.only K := by
  simp [State.mirSend, hK, PairSt.only]

@[simp] theorem State.mirPump_only {K : List Piece} (hK : .regs ∉ K ∧ .pair ∉ K) (s : State) (n0 : Nat) :
    (s.mirPump n0).only K = s.only K := by
  induction n0 generalizing s with
  | zero => rfl
  | succ n ih =>
    unfold State.mirPump
    repeat' split
    all_goals simp [ih, hK, PairSt.only]

@[simp] theorem State.keyBody_only {K : List Piece} (hK : .regs ∉ K ∧ .sec ∉ K ∧ .free ∉ K) (s : State) (partner : Bool)
    (k : Nat) : (s.keyBody partner k).2.only K = s.only K := by
  unfold State.keyBody
  dsimp only
  repeat' split
  all_goals simp [hK]

@[simp] theorem State.sendKey_only {K : List Piece} (hK : .regs ∉ K ∧ .sec ∉ K ∧ .pair ∉ K ∧ .free ∉ K) (s : State) (k : Nat)
    (keyOp : Option Nat) : (s.sendKey k keyOp).only K = s.only K := by
  simp [State.sendKey, hK]

@[simp] theorem State.sendConfig_only {K : List Piece} (hK : .regs ∉ K ∧ .pair ∉ K) (s : State) (groups : List Nat)
    (epoch : Nat) : (s.sendConfig groups epoch).only K = s.only K := by
  simp [State.sendConfig, hK]

@[simp] theorem State.mirrorAll_only {K : List Piece} (hK : .regs ∉ K ∧ .pair ∉ K) (s : State) : s.mirrorAll.only K = s.only K := by
  have hsend (ch : Nat) (l : List Backlog) (t : State) :
      (forAll l (fun e t => t.mirSend mtBacklog (backlogBody ch true e) none) t).only K = t.only K :=
    State.only_forAll (fun e t => State.mirSend_only hK t ..) _ _
  simp [State.mirrorAll, hK, hsend]

@[simp] theorem State.sendKeys_only {K : List Piece} (hK : .regs ∉ K ∧ .sec ∉ K ∧ .pair ∉ K ∧ .free ∉ K) (s : State) :
    s.sendKeys.only K = s.only K := by
  simp [State.sendKeys, hK]

@[simp] theorem State.mirrorFrom_only {K : List Piece} (hK : .regs ∉ K ∧ .sec ∉ K ∧ .pair ∉ K ∧ .free ∉ K) (s t : State) :
    (s.mirrorFrom t).only K = t.only K := by
  have hsend (ch : Nat) (b : Bool) (l : List Backlog) (t : State) :
      (forAll l (fun e t => t.mirSend mtBacklog (backlogBody ch b e) none) t).only K = t.only K :=
    State.only_forAll (fun e t => State.mirSend_only ⟨hK.1, hK.2.2.1⟩ t ..) _ _
  have hkeys (l : List Nat) (f : Nat → Option Nat) (t : State) : (forAll l (fun k u => u.sendKey k (f k)) t).only K = t.only K :=
    State.only_forAll (fun k t => State.sendKey_only hK t ..) _ _
  unfold State.mirrorFrom
  split
  · dsimp only
    split <;> simp [hK, hsend, hkeys]
  · rfl

@[simp] theorem State.identityTick_only {K : List Piece} (hK : .regs ∉ K ∧ .pair ∉ K) (s : State) :
    s.identityTick.only K = s.only K := by
  unfold State.identityTick
  split <;> simp [hK, PairSt.only]

@[simp] theorem State.setRole_only {K : List Piece} (hK : .flt ∉ K ∧ .role ∉ K) (s : State) (r : PairRole) :
    (s.setRole r).only K = s.only K := by
  simp [State.setRole, hK, PairSt.only]

@[simp] theorem State.portReset_only {K : List Piece} (hK : .pair ∉ K) (s : State) : s.portReset.only K = s.only K := by
  simp [State.portReset, hK, PairSt.only]

@[simp] theorem State.startPairKey_only {K : List Piece} (hK : .regs ∉ K ∧ .sec ∉ K ∧ .pair ∉ K ∧ .free ∉ K) (s : State) :
    s.startPairKey.only K = s.only K := by
  simp only [State.startPairKey, hK, State.mirSend_only, State.random_only,


    State.only_pair_sec,
    SecSt.only,
    PairSt.only,
    not_false_eq_true, and_self, if_false]

@[simp] theorem State.mismatch_only {K : List Piece} (hK : .regs ∉ K ∧ .pins ∉ K ∧ .evt ∉ K ∧ .pinFlt ∉ K ∧ .flt ∉ K ∧
    .doms ∉ K ∧ .pwr ∉ K ∧ .role ∉ K ∧ .pair ∉ K) (s : State) (field : Nat) : (s.mismatch field).only K = s.only K := by
  simp [State.mismatch, hK]

@[simp] theorem State.becomePaired_only {K : List Piece} (hK : .regs ∉ K ∧ .flt ∉ K ∧ .sec ∉ K ∧ .role ∉ K ∧ .pair ∉ K ∧
    .free ∉ K) (s : State) : s.becomePaired.only K = s.only K := by
  simp [State.becomePaired, hK, PairSt.only]

@[simp] theorem State.takeIdentity_only {K : List Piece} (hK : .regs ∉ K ∧ .pins ∉ K ∧ .nvm ∉ K ∧ .evt ∉ K ∧ .pinFlt ∉ K ∧
    .flt ∉ K ∧ .sec ∉ K ∧ .doms ∉ K ∧ .pwr ∉ K ∧ .role ∉ K ∧ .pair ∉ K ∧ .upd ∉ K ∧ .free ∉ K) (s : State)
    (b : List Word) : (s.takeIdentity b).only K = s.only K := by
  unfold State.takeIdentity
  split <;> simp [hK, PinSt.only, PairSt.only]

@[simp] theorem State.alone_only {K : List Piece} (hK : .flt ∉ K ∧ .role ∉ K) (s : State) : s.alone.only K = s.only K := by
  unfold State.alone
  split <;> simp [hK]

@[simp] theorem State.sleepNow_only {K : List Piece} (hK : .regs ∉ K ∧ .pair ∉ K) (s : State) : s.sleepNow.only K = s.only K := by
  simp [State.sleepNow, hK, PairSt.only]

@[simp] theorem State.beatTick_only {K : List Piece} (hK : .regs ∉ K ∧ .pair ∉ K) (s : State) : s.beatTick.only K = s.only K := by
  simp [State.beatTick, hK, PairSt.only]

@[simp] theorem State.takeWords_only {K : List Piece} (hK : .pair ∉ K) (s : State) (b : List Word) :
    (s.takeWords b).only K = s.only K := by
  simp [State.takeWords, hK, PairSt.only]

@[simp] theorem State.declare_only {K : List Piece} (hK : .regs ∉ K ∧ .pins ∉ K ∧ .evt ∉ K ∧ .pinFlt ∉ K ∧ .doms ∉ K ∧
    .pwr ∉ K ∧ .pair ∉ K) (s : State) (reason : Nat) : (s.declare reason).only K = s.only K := by
  simp only [State.declare, hK, State.count_only, State.event_only, State.stick_only, State.only_ite,


    State.only_pins_pair,
    PinSt.only, PairSt.only,
    not_false_eq_true, and_self,
    ite_self, if_false]

@[simp] theorem State.sleptGroups_only {K : List Piece} (hK : .conf ∉ K ∧ .regs ∉ K ∧ .pins ∉ K ∧ .chans ∉ K ∧ .capo ∉ K ∧
    .cal ∉ K ∧ .doms ∉ K ∧ .cgs ∉ K ∧ .pwr ∉ K) (s : State) : s.sleptGroups.only K = s.only K := by
  simp [State.sleptGroups, hK]

@[simp] theorem State.takeBeat_only {K : List Piece} (hK : K ⊆ [.time, .commits, .posted, .snap, .inputs, .wrstN, .mem, .nvm,
    .lanes, .courses, .link, .reqs, .keyOps, .trx, .regul, .array, .tab, .sensors, .slots, .boot, .rpr, .upd, .pending])
    (s : State) (b : List Word) : (s.takeBeat b).only K = s.only K := by
  refine State.only_mono hK ?_
  simp [State.takeBeat, PinSt.only, PairSt.only]

@[simp] theorem State.closeBeat_only {K : List Piece} (hK : .regs ∉ K ∧ .pins ∉ K ∧ .evt ∉ K ∧ .pinFlt ∉ K ∧ .doms ∉ K ∧
    .pwr ∉ K ∧ .pair ∉ K) (s : State) : s.closeBeat.only K = s.only K := by
  simp [State.closeBeat, hK, PinSt.only, PairSt.only]

@[simp] theorem State.setMir_only {K : List Piece} (hK : .pair ∉ K) (s : State) (n : Nat) (f : MirChan → MirChan) :
    (s.setMir n f).only K = s.only K := by
  simp [State.setMir, hK, PairSt.only]

@[simp] theorem State.takeRefBase_only {K : List Piece} (hK : .pair ∉ K) (s : State) (b : List Word) :
    (s.takeRefBase b).only K = s.only K := by
  simp [State.takeRefBase, hK]

@[simp] theorem State.takeBacklog_only {K : List Piece} (hK : .pair ∉ K) (s : State) (b : List Word) :
    (s.takeBacklog b).only K = s.only K := by
  simp [State.takeBacklog, hK]

@[simp] theorem State.takeSlotKey_only {K : List Piece} (hK : .regs ∉ K ∧ .pins ∉ K ∧ .evt ∉ K ∧ .pinFlt ∉ K ∧ .flt ∉ K ∧
    .slots ∉ K ∧ .doms ∉ K ∧ .pwr ∉ K ∧ .role ∉ K ∧ .pair ∉ K) (s : State) (partner : Bool) (inst : Nat) (b : List Word) :
    (s.takeSlotKey partner inst b).only K = s.only K := by
  unfold State.takeSlotKey
  dsimp only
  repeat' split
  all_goals simp [hK]

@[simp] theorem State.takeRepair_only {K : List Piece} (hK : .pair ∉ K) (s : State) (b : List Word) :
    (s.takeRepair b).only K = s.only K := by
  simp [State.takeRepair, hK]

@[simp] theorem State.takeConfig_only {K : List Piece} (hK : .pair ∉ K) (s : State) (b : List Word) :
    (s.takeConfig b).only K = s.only K := by
  simp [State.takeConfig, hK, PairSt.only]

@[simp] theorem State.takeTrims_only {K : List Piece} (hK : .pair ∉ K) (s : State) (b : List Word) :
    (s.takeTrims b).only K = s.only K := by
  simp [State.takeTrims, hK]

@[simp] theorem State.takeSleep_only {K : List Piece} (hK : .pair ∉ K) (s : State) (b : List Word) :
    (s.takeSleep b).only K = s.only K := by
  simp [State.takeSleep, hK, PairSt.only]

@[simp] theorem State.takePairkey_only {K : List Piece} (hK : .regs ∉ K ∧ .pins ∉ K ∧ .evt ∉ K ∧ .pinFlt ∉ K ∧ .flt ∉ K ∧
    .sec ∉ K ∧ .doms ∉ K ∧ .pwr ∉ K ∧ .role ∉ K ∧ .pair ∉ K ∧ .free ∉ K) (s : State) (b : List Word) :
    (s.takePairkey b).only K = s.only K := by
  unfold State.takePairkey
  split <;> simp [hK, SecSt.only]

@[simp] theorem State.takeHandback_only {K : List Piece} (hK : .pair ∉ K) (s : State) (b : List Word) :
    (s.takeHandback b).only K = s.only K := by
  simp [State.takeHandback, hK, PairSt.only]

@[simp] theorem State.applyMir_only {K : List Piece} (hK : .regs ∉ K ∧ .pins ∉ K ∧ .evt ∉ K ∧ .pinFlt ∉ K ∧ .flt ∉ K ∧
    .slots ∉ K ∧ .sec ∉ K ∧ .doms ∉ K ∧ .pwr ∉ K ∧ .role ∉ K ∧ .pair ∉ K ∧ .free ∉ K) (s : State) (l : List Word) :
    (s.applyMir l).only K = s.only K := by
  unfold State.applyMir
  split <;> simp [hK]

@[simp] theorem State.drainMir_only {K : List Piece} (hK : .regs ∉ K ∧ .pins ∉ K ∧ .evt ∉ K ∧ .pinFlt ∉ K ∧ .flt ∉ K ∧
    .slots ∉ K ∧ .sec ∉ K ∧ .doms ∉ K ∧ .pwr ∉ K ∧ .role ∉ K ∧ .pair ∉ K ∧ .free ∉ K) (s : State) (n0 : Nat) :
    (s.drainMir n0).only K = s.only K := by
  induction n0 generalizing s with
  | zero => rfl
  | succ n ih =>
    unfold State.drainMir
    repeat' split
    all_goals simp [ih, hK, PinSt.only, PairSt.only]

@[simp] theorem State.ackMir_only {K : List Piece} (hK : .pair ∉ K) (s : State) (seq : Nat) :
    (s.ackMir seq).only K = s.only K := by
  simp [State.ackMir, hK, PairSt.only]

@[simp] theorem State.receive_only {K : List Piece} (hK : K ⊆ [.time, .commits, .posted, .snap, .inputs, .wrstN, .mem,
    .lanes, .courses, .link, .reqs, .keyOps, .trx, .regul, .array, .tab, .sensors, .boot, .rpr, .pending]) (s : State)
    (type : Nat) (l : List Word) : (s.receive type l).only K = s.only K := by
  refine State.only_mono hK ?_
  simp [State.receive, PinSt.only, PairSt.only]

@[simp] theorem State.acknowledged_only {K : List Piece} (hK : K ⊆ [.time, .commits, .posted, .snap, .inputs, .wrstN, .mem,
    .nvm, .reqs, .keyOps, .trx, .array, .tab, .sensors, .slots, .boot, .rpr, .upd, .free, .pending]) (s : State) (seq : Nat) :
    (s.acknowledged seq).only K = s.only K := by
  refine State.only_mono hK ?_
  unfold State.acknowledged
  split <;> simp [PinSt.only, PairSt.only]

@[simp] theorem State.resendMir_only {K : List Piece} (hK : .regs ∉ K ∧ .pair ∉ K) (s : State) (seq : Nat) :
    (s.resendMir seq).only K = s.only K := by
  unfold State.resendMir
  split <;> simp [hK, PairSt.only]

@[simp] theorem State.noAck_only {K : List Piece} (hK : .regs ∉ K ∧ .pins ∉ K ∧ .evt ∉ K ∧ .pinFlt ∉ K ∧ .doms ∉ K ∧
    .pwr ∉ K ∧ .pair ∉ K) (s : State) : s.noAck.only K = s.only K := by
  simp [State.noAck, hK]

@[simp] theorem State.pairAwake_only {K : List Piece} (hK : .regs ∉ K ∧ .pair ∉ K) (s : State) :
    s.pairAwake.only K = s.only K := by
  simp [State.pairAwake, hK, PairSt.only]

@[simp] theorem State.fenceWon_only {K : List Piece} (hK : .conf ∉ K ∧ .regs ∉ K ∧ .pins ∉ K ∧ .flt ∉ K ∧ .chans ∉ K ∧
    .capo ∉ K ∧ .doms ∉ K ∧ .cgs ∉ K ∧ .pwr ∉ K ∧ .role ∉ K ∧ .pair ∉ K) (s : State) : s.fenceWon.only K = s.only K := by
  simp only [State.fenceWon, hK, State.drainAll_only, State.setRole_only, State.only_ite,


    State.only_pins_pair,
    PinSt.only, PairSt.only,
    not_false_eq_true, and_self,
    ite_self, if_false]

@[simp] theorem State.creditEarly_only {K : List Piece} (hK : .pair ∉ K) (s : State) (ch : Nat) :
    (s.creditEarly ch).only K = s.only K := by
  simp [State.creditEarly, hK]

@[simp] theorem State.wakeEngine_only {K : List Piece} (hK : .conf ∉ K ∧ .regs ∉ K ∧ .pins ∉ K ∧ .chans ∉ K ∧ .capo ∉ K ∧
    .cal ∉ K ∧ .doms ∉ K ∧ .cgs ∉ K ∧ .pwr ∉ K) (s : State) (g : Nat) : (s.wakeEngine g).only K = s.only K := by
  simp [State.wakeEngine, hK]

@[simp] theorem State.openPartner_only {K : List Piece} (hK : .conf ∉ K ∧ .regs ∉ K ∧ .pins ∉ K ∧ .flt ∉ K ∧ .chans ∉ K ∧
    .capo ∉ K ∧ .cal ∉ K ∧ .doms ∉ K ∧ .cgs ∉ K ∧ .pwr ∉ K ∧ .pair ∉ K ∧ .rpr ∉ K) (s : State) :
    s.openPartner.only K = s.only K := by
  simp only [State.openPartner, hK, State.askAll_only, State.setCalCh_only, State.setChan_only, State.syncRefBal_only,
    State.wakeEngine_only, State.only_ite, State.only_forAll,


    State.only_pins_pair, State.only_flt,
    State.only_rpr,
    PinSt.only, FltSt.only, PairSt.only,
    not_false_eq_true, and_self, ite_self, if_false,
    implies_true]

@[simp] theorem State.takeoverNotice_only {K : List Piece} (hK : .pins ∉ K ∧ .link ∉ K) (s : State) (reason : Nat)
    (stamp : BitVec 48) (done : Completes) : (s.takeoverNotice reason stamp done).only K = s.only K := by
  simp [State.takeoverNotice, hK, PinSt.only, LinkSt.only]

@[simp] theorem State.freeTrims_only {K : List Piece} (hK : .cal ∉ K ∧ .free ∉ K) (s : State) (ch : Nat) :
    (s.freeTrims ch).only K = s.only K := by
  simp [State.freeTrims, hK]

@[simp] theorem State.enterDouble_only {K : List Piece} (hK : K ⊆ [.time, .conf, .commits, .posted, .snap, .inputs, .wrstN,
    .mem, .nvm, .lanes, .courses, .keyOps, .array, .tab, .sensors, .sec, .cgs, .boot, .role, .rpr, .upd, .pending]) (s : State)
    (failed : List Nat) : (s.enterDouble failed).only K = s.only K := by
  refine State.only_mono hK ?_
  simp [State.enterDouble, PinSt.only, PairSt.only]

@[simp] theorem State.serveBoth_only {K : List Piece} (hK : .pair ∉ K) (s : State) : s.serveBoth.only K = s.only K := by
  simp [State.serveBoth, hK, PairSt.only]

@[simp] theorem State.bridgeFenced_only {K : List Piece} (hK : K ⊆ [.time, .conf, .commits, .posted, .snap, .wrstN, .mem,
    .nvm, .lanes, .courses, .keyOps, .array, .tab, .sensors, .sec, .cal, .cgs, .boot, .rpr, .upd, .free, .pending])
    (s : State) : s.bridgeFenced.only K = s.only K := by
  refine State.only_mono hK ?_
  simp only [State.bridgeFenced, State.fatalFault_only, State.setRole_only,


    State.only_pins_pair,


    PinSt.only, PairSt.only, List.mem_cons, List.not_mem_nil,
    List.cons_subset, List.nil_subset, reduceCtorEq, or_false, or_true, not_false_eq_true, and_self,
    if_false, if_true, or_self]

@[simp] theorem State.startHandback_only {K : List Piece} (hK : .conf ∉ K ∧ .regs ∉ K ∧ .pins ∉ K ∧ .chans ∉ K ∧ .capo ∉ K ∧
    .doms ∉ K ∧ .cgs ∉ K ∧ .pwr ∉ K ∧ .pair ∉ K) (s : State) : s.startHandback.only K = s.only K := by
  simp [State.startHandback, hK, PinSt.only, PairSt.only]

@[simp] theorem State.enterPartner_only {K : List Piece} (hK : .conf ∉ K ∧ .regs ∉ K ∧ .pins ∉ K ∧ .chans ∉ K ∧ .capo ∉ K ∧
    .doms ∉ K ∧ .cgs ∉ K ∧ .pwr ∉ K) (s : State) : s.enterPartner.only K = s.only K := by
  unfold State.enterPartner
  refine State.only_forAll (fun _ _ => ?_) _ _
  repeat' split
  all_goals simp [hK]

@[simp] theorem State.sendHandback_only {K : List Piece} (hK : .regs ∉ K ∧ .sec ∉ K ∧ .pair ∉ K ∧ .free ∉ K) (s : State) :
    s.sendHandback.only K = s.only K := by
  simp [State.sendHandback, hK, PairSt.only]

@[simp] theorem State.handbackOn_only {K : List Piece} (hK : .conf ∉ K ∧ .regs ∉ K ∧ .pins ∉ K ∧ .chans ∉ K ∧ .capo ∉ K ∧
    .sec ∉ K ∧ .doms ∉ K ∧ .cgs ∉ K ∧ .pwr ∉ K ∧ .pair ∉ K ∧ .free ∉ K) (s : State) : s.handbackOn.only K = s.only K := by
  simp [State.handbackOn, hK, PinSt.only, PairSt.only]

@[simp] theorem State.dropPartner_only {K : List Piece} (hK : .flt ∉ K ∧ .chans ∉ K) (s : State) :
    s.dropPartner.only K = s.only K := by
  simp [State.only, State.dropPartner, hK, FltSt.only]

@[simp] theorem State.endHandback_only {K : List Piece} (hK : .regs ∉ K ∧ .pins ∉ K ∧ .evt ∉ K ∧ .pinFlt ∉ K ∧ .flt ∉ K ∧
    .link ∉ K ∧ .regul ∉ K ∧ .chans ∉ K ∧ .capo ∉ K ∧ .doms ∉ K ∧ .pwr ∉ K ∧ .pair ∉ K) (s : State) :
    s.endHandback.only K = s.only K := by
  simp only [State.endHandback, hK, State.bumpGen_only, State.dropPartner_only, State.event_only, State.publishFloor_only,
    State.stick_only, State.syncRefBal_only, State.takeoverNotice_only, State.only_ite,
    State.only_forAll,
    State.only_pins_pair,
    PinSt.only,
    PairSt.only,
    not_false_eq_true, and_self, ite_self, if_false, implies_true]

@[simp] theorem State.handbackOver_only {K : List Piece} (hK : .regs ∉ K ∧ .pins ∉ K ∧ .evt ∉ K ∧ .pinFlt ∉ K ∧ .doms ∉ K ∧
    .pwr ∉ K ∧ .pair ∉ K) (s : State) : s.handbackOver.only K = s.only K := by
  simp [State.handbackOver, hK, PinSt.only, PairSt.only]

@[simp] theorem State.applyHand_only {K : List Piece} (hK : .conf ∉ K ∧ .regs ∉ K ∧ .pins ∉ K ∧ .evt ∉ K ∧ .pinFlt ∉ K ∧
    .flt ∉ K ∧ .slots ∉ K ∧ .cal ∉ K ∧ .doms ∉ K ∧ .pwr ∉ K ∧ .role ∉ K ∧ .pair ∉ K ∧ .rpr ∉ K) (s : State)
    (b : List Word) : (s.applyHand b).only K = s.only K := by
  unfold State.applyHand
  split <;> simp [hK]

@[simp] theorem State.dropOwnKeys_only {K : List Piece} (hK : .slots ∉ K) (s : State) (msgs : List (List Word)) :
    (s.dropOwnKeys msgs).only K = s.only K := by
  simp [State.dropOwnKeys, hK]

@[simp] theorem State.bridgeReleased_only {K : List Piece} (hK : K ⊆ [.time, .posted, .snap, .wrstN, .mem, .nvm,
    .lanes, .courses, .keyOps, .tab, .sensors, .sec, .upd, .free, .pending]) (s : State) : s.bridgeReleased.only K = s.only K := by
  refine State.only_mono hK ?_
  unfold State.bridgeReleased
  extract_lets +onlyGivenNames src t
  have ht : t.only [.time, .posted, .snap, .wrstN, .mem, .nvm, .lanes, .courses, .keyOps, .tab, .sensors, .sec, .upd, .free,
    .pending] = s.only [.time, .posted, .snap, .wrstN, .mem, .nvm, .lanes, .courses, .keyOps, .tab, .sensors, .sec, .upd, .free,
      .pending] := State.only_pins (x := { s.pins with sfenced := false }) s (by simp [PinSt.only])
  rw [← ht]
  clear_value t
  dsimp only
  split_ifs
  · split <;> simp [PairSt.only]
  · rfl

@[simp] theorem State.returned_only {K : List Piece} (hK : .regs ∉ K ∧ .flt ∉ K ∧ .sec ∉ K ∧ .role ∉ K ∧ .pair ∉ K ∧ .free ∉ K)
    (s : State) : s.returned.only K = s.only K := by
  simp [State.returned, hK, PairSt.only]

@[simp] theorem State.goOn_only {K : List Piece} (hK : K ⊆ [.time, .posted, .snap, .inputs, .wrstN, .courses, .link, .reqs,
    .keyOps, .array, .tab, .sensors, .slots, .rpr, .pending]) (s : State) : s.goOn.only K = s.only K := by
  refine State.only_mono hK ?_
  simp [State.goOn]

@[simp] theorem State.rprResult_only {K : List Piece} (hK : .rpr ∉ K) (s : State) (result reason : Nat) :
    (s.rprResult result reason).only K = s.only K := by
  simp [State.rprResult, hK]

@[simp] theorem State.repairFails_only {K : List Piece} (hK : .regs ∉ K ∧ .pins ∉ K ∧ .evt ∉ K ∧ .pinFlt ∉ K ∧ .doms ∉ K ∧
    .pwr ∉ K ∧ .rpr ∉ K) (s : State) (o : RepairOp) (reason : Nat) : (s.repairFails o reason).only K = s.only K := by
  simp [State.repairFails, hK]

@[simp] theorem State.repairDone_only {K : List Piece} (hK : .regs ∉ K ∧ .pins ∉ K ∧ .evt ∉ K ∧ .pinFlt ∉ K ∧ .doms ∉ K ∧
    .pwr ∉ K ∧ .rpr ∉ K) (s : State) (o : RepairOp) : (s.repairDone o).only K = s.only K := by
  unfold State.repairDone
  repeat' split
  all_goals simp [hK]

@[simp] theorem State.repairStart_only {K : List Piece} (hK : .rpr ∉ K) (s : State) (o : RepairOp) {go : State → State}
    (hgo : ∀ t, (go t).only K = t.only K) : (s.repairStart o go).only K = s.only K := by
  unfold State.repairStart
  split <;> simp [hK, hgo]

@[simp] theorem State.setOp_only {K : List Piece} (hK : .rpr ∉ K) (s : State) (f : RepairOp → RepairOp) :
    (s.setOp f).only K = s.only K := by
  simp [State.setOp, hK]

@[simp] theorem State.recordMap_only {K : List Piece} (hK : .regs ∉ K ∧ .pins ∉ K ∧ .nvm ∉ K ∧ .evt ∉ K ∧ .pinFlt ∉ K ∧
    .doms ∉ K ∧ .pwr ∉ K ∧ .rpr ∉ K) (s : State) (o : RepairOp) (f : RepairMap → RepairMap) (g : RepairOp → RepairOp) :
    (s.recordMap o f g).only K = s.only K := by
  unfold State.recordMap
  split <;> simp [hK]

@[simp] theorem State.putRow_only {K : List Piece} (hK : .array ∉ K) (s : State) (o : RepairOp) (l : List (Option ArrayLine)) :
    (s.putRow o l).only K = s.only K := by
  simp [State.putRow, hK]

@[simp] theorem State.auxRepairs_only {K : List Piece} (hK : .conf ∉ K ∧ .regs ∉ K ∧ .pins ∉ K ∧ .chans ∉ K ∧ .capo ∉ K ∧
    .doms ∉ K ∧ .cgs ∉ K ∧ .pwr ∉ K) (s : State) : s.auxRepairs.only K = s.only K := by
  unfold State.auxRepairs
  split <;> simp [hK]

@[simp] theorem State.softRow_only {K : List Piece} (hK : .conf ∉ K ∧ .regs ∉ K ∧ .pins ∉ K ∧ .evt ∉ K ∧ .pinFlt ∉ K ∧
    .chans ∉ K ∧ .capo ∉ K ∧ .doms ∉ K ∧ .cgs ∉ K ∧ .pwr ∉ K ∧ .rpr ∉ K) (s : State) (ch bank : Nat) :
    (s.softRow ch bank).only K = s.only K := by
  simp [State.softRow, hK]

@[simp] theorem State.spprNow_only {K : List Piece} (hK : .conf ∉ K ∧ .regs ∉ K ∧ .pins ∉ K ∧ .chans ∉ K ∧ .capo ∉ K ∧
    .doms ∉ K ∧ .cgs ∉ K ∧ .pwr ∉ K ∧ .rpr ∉ K) (s : State) : s.spprNow.only K = s.only K := by
  unfold State.spprNow
  split <;> simp [hK]

@[simp] theorem State.repairWaitOver_only {K : List Piece} (hK : .regs ∉ K ∧ .pins ∉ K ∧ .evt ∉ K ∧ .pinFlt ∉ K ∧ .doms ∉ K ∧
    .pwr ∉ K ∧ .rpr ∉ K) (s : State) : s.repairWaitOver.only K = s.only K := by
  unfold State.repairWaitOver
  split <;> simp [hK]

@[simp] theorem State.rowRestore_only {K : List Piece} (hK : .conf ∉ K ∧ .regs ∉ K ∧ .pins ∉ K ∧ .chans ∉ K ∧ .capo ∉ K ∧
    .doms ∉ K ∧ .cgs ∉ K ∧ .pwr ∉ K ∧ .rpr ∉ K) (s : State) : s.rowRestore.only K = s.only K := by
  unfold State.rowRestore
  split <;> simp [hK]

@[simp] theorem State.rowCompared_only {K : List Piece} (hK : .regs ∉ K ∧ .pins ∉ K ∧ .nvm ∉ K ∧ .evt ∉ K ∧ .pinFlt ∉ K ∧
    .array ∉ K ∧ .doms ∉ K ∧ .pwr ∉ K ∧ .rpr ∉ K) (s : State) (told : Bool) : (s.rowCompared told).only K = s.only K := by
  unfold State.rowCompared
  split <;> simp [hK]

@[simp] theorem State.hardRow_only {K : List Piece} (hK : .regs ∉ K ∧ .pins ∉ K ∧ .nvm ∉ K ∧ .evt ∉ K ∧ .pinFlt ∉ K ∧
    .doms ∉ K ∧ .pwr ∉ K ∧ .rpr ∉ K) (s : State) (ch bank : Nat) : (s.hardRow ch bank).only K = s.only K := by
  simp [State.hardRow, hK]

@[simp] theorem State.hpprDone_only {K : List Piece} (hK : .regs ∉ K ∧ .pins ∉ K ∧ .nvm ∉ K ∧ .evt ∉ K ∧ .pinFlt ∉ K ∧
    .doms ∉ K ∧ .pwr ∉ K ∧ .rpr ∉ K) (s : State) : s.hpprDone.only K = s.only K := by
  unfold State.hpprDone
  split <;> simp [hK]

@[simp] theorem State.colAdd_only {K : List Piece} (hK : .regs ∉ K ∧ .pins ∉ K ∧ .nvm ∉ K ∧ .evt ∉ K ∧ .pinFlt ∉ K ∧
    .doms ∉ K ∧ .pwr ∉ K ∧ .rpr ∉ K) (s : State) (ch bank : Nat) : (s.colAdd ch bank).only K = s.only K := by
  simp [State.colAdd, hK]

@[simp] theorem State.colRemove_only {K : List Piece} (hK : .regs ∉ K ∧ .pins ∉ K ∧ .nvm ∉ K ∧ .evt ∉ K ∧ .pinFlt ∉ K ∧
    .doms ∉ K ∧ .pwr ∉ K ∧ .rpr ∉ K) (s : State) (ch bank : Nat) : (s.colRemove ch bank).only K = s.only K := by
  simp [State.colRemove, hK]

@[simp] theorem State.mirrorMap_only {K : List Piece} (hK : .regs ∉ K ∧ .pair ∉ K) (s : State) (ch : Nat) :
    (s.mirrorMap ch).only K = s.only K := by
  simp [State.mirrorMap, hK]

@[simp] theorem State.repairWritten_only {K : List Piece} (hK : .conf ∉ K ∧ .regs ∉ K ∧ .pins ∉ K ∧ .mem ∉ K ∧ .nvm ∉ K ∧
    .evt ∉ K ∧ .pinFlt ∉ K ∧ .chans ∉ K ∧ .capo ∉ K ∧ .doms ∉ K ∧ .cgs ∉ K ∧ .pwr ∉ K ∧ .pair ∉ K ∧ .rpr ∉ K) (s : State)
    (ok : Bool) : (s.repairWritten ok).only K = s.only K := by
  unfold State.repairWritten
  dsimp only
  repeat' split
  all_goals simp [hK]

@[simp] theorem State.bistStart_only {K : List Piece} (hK : .conf ∉ K ∧ .regs ∉ K ∧ .pins ∉ K ∧ .chans ∉ K ∧ .capo ∉ K ∧
    .doms ∉ K ∧ .cgs ∉ K ∧ .pwr ∉ K ∧ .rpr ∉ K) (s : State) (test scope ch bank back : Nat) :
    (s.bistStart test scope ch bank back).only K = s.only K := by
  unfold State.bistStart
  split <;> simp [hK]

@[simp] theorem State.bistAbort_only {K : List Piece} (hK : .rpr ∉ K) (s : State) : s.bistAbort.only K = s.only K := by
  simp [State.bistAbort, hK]

@[simp] theorem State.bistEnd_only {K : List Piece} (hK : .regs ∉ K ∧ .pins ∉ K ∧ .evt ∉ K ∧ .pinFlt ∉ K ∧ .chans ∉ K ∧
    .array ∉ K ∧ .doms ∉ K ∧ .pwr ∉ K ∧ .rpr ∉ K) (s : State) (q : BistResult) : (s.bistEnd q).only K = s.only K := by
  unfold State.bistEnd
  dsimp only
  repeat' split
  all_goals simp only [hK, State.event_only, State.reinitChannel_only, State.setChan_only, State.stick_only,


    State.only_rpr_array,



    not_false_eq_true, and_self]

@[simp] theorem State.darkLanes_only {K : List Piece} (hK : .regs ∉ K ∧ .lanes ∉ K) (s : State) (c : Nat) :
    (s.darkLanes c).only K = s.only K := by
  simp [State.darkLanes, hK]

@[simp] theorem State.loopEnd_only {K : List Piece} (hK : .regs ∉ K ∧ .pins ∉ K ∧ .evt ∉ K ∧ .pinFlt ∉ K ∧ .lanes ∉ K ∧
    .courses ∉ K ∧ .doms ∉ K ∧ .pwr ∉ K ∧ .rpr ∉ K) (s : State) : s.loopEnd.only K = s.only K := by
  unfold State.loopEnd
  split <;> simp [hK]

@[simp] theorem State.loopStart_only {K : List Piece} (hK : .regs ∉ K ∧ .lanes ∉ K ∧ .rpr ∉ K ∧ .free ∉ K) (s : State)
    (mode c lanes : Nat) : (s.loopStart mode c lanes).only K = s.only K := by
  simp only [State.loopStart, hK, State.setLane_only, State.stick_only, State.useFree_only, State.only_ite,
    State.only_forAll,


    State.only_rpr,
    not_false_eq_true, ite_self, implies_true]

@[simp] theorem State.loopSends_only {K : List Piece} (hK : .lanes ∉ K ∧ .rpr ∉ K) (s : State) (x : Loop) (l : Nat) :
    (s.loopSends x l).2.only K = s.only K := by
  simp [State.loopSends, hK]

@[simp] theorem State.loopCheck_only {K : List Piece} (hK : .regs ∉ K ∧ .rpr ∉ K) (s : State) (x : Loop) (l : Nat)
    (hdr : BitVec 2) (payload : BitVec 64) : (s.loopCheck x l hdr payload).only K = s.only K := by
  simp [State.loopCheck, hK]

@[simp] theorem State.loopFar_only {K : List Piece} (hK : .rpr ∉ K) (s : State) (x : Loop) (l : Nat) (hdr : BitVec 2)
    (payload : BitVec 64) : (s.loopFar x l hdr payload).only K = s.only K := by
  unfold State.loopFar
  split <;> simp [hK]

@[simp] theorem State.loopBlock_only {K : List Piece} (hK : .regs ∉ K ∧ .lanes ∉ K ∧ .rpr ∉ K) (s : State) (c l : Nat)
    (hdr : BitVec 2) (payload : BitVec 64) : (s.loopBlock c l hdr payload).2.only K = s.only K := by
  unfold State.loopBlock
  dsimp only
  repeat' split
  all_goals simp [hK]

@[simp] theorem State.loadIr_only {K : List Piece} (hK : .rpr ∉ K) (s : State) (ir : Nat) : (s.loadIr ir).only K = s.only K := by
  simp [State.loadIr, hK]

@[simp] theorem State.wrapperReset_only {K : List Piece} (hK : .wrstN ∉ K ∧ .rpr ∉ K) (s : State) (level : Bool) :
    (s.wrapperReset level).only K = s.only K := by
  simp [State.only, State.wrapperReset, hK, PinSt.only]

@[simp] theorem State.wrapperStop_only {K : List Piece} (hK : .rpr ∉ K) (s : State) (ir : Nat) (cells : BitVec 2505) :
    (s.wrapperStop ir cells).only K = s.only K := by
  simp [State.wrapperStop, hK]

@[simp] theorem State.cmSram_only {K : List Piece} (hK : .rpr ∉ K) (s : State) (data : Word) (failed : BitVec 24) :
    (s.cmSram data failed).only K = s.only K := by
  simp [State.cmSram, hK]

@[simp] theorem State.freshKeys_only {K : List Piece} (hK : .courses ∉ K) (s : State) (c : Nat) :
    (s.freshKeys c).only K = s.only K := by
  unfold State.freshKeys
  split <;> simp [hK]

@[simp] theorem State.offerKeys_only {K : List Piece} (hK : .courses ∉ K ∧ .sec ∉ K) (s : State) (ems : Nat) :
    (s.offerKeys ems).only K = s.only K := by
  simp [State.offerKeys, hK, LinkSt.only, SecSt.only]

@[simp] theorem State.startReplay_only {K : List Piece} (hK : .regs ∉ K ∧ .courses ∉ K) (s : State) (c : Nat)
    (bump : Bool) : (s.startReplay c bump).only K = s.only K := by
  simp [State.startReplay, hK]

@[simp] theorem State.reclaim_only {K : List Piece} (hK : .trx ∉ K) (s : State) (m0 : UpMsg) :
    (s.reclaim m0).2.only K = s.only K := by
  unfold State.reclaim
  dsimp only
  repeat' split
  all_goals simp only [hK, State.acct_only,


    State.only_trx, TrxSt.only,
    not_false_eq_true, if_false]

@[simp] theorem State.reclaimMsgs_only {K : List Piece} (hK : .trx ∉ K) (s : State) (n0 : List UpMsg) :
    (s.reclaimMsgs n0).2.only K = s.only K := by
  induction n0 generalizing s with
  | nil => rfl
  | cons a l ih =>
    unfold State.reclaimMsgs
    all_goals simp [ih, hK]

@[simp] theorem State.reclaimFlits_only {K : List Piece} (hK : .trx ∉ K) (s : State) (n0 : List SentFlit) :
    (s.reclaimFlits n0).2.only K = s.only K := by
  induction n0 generalizing s with
  | nil => rfl
  | cons a l ih =>
    unfold State.reclaimFlits
    repeat' split
    all_goals simp [ih, hK]

@[simp] theorem State.fenceCourse_only {K : List Piece} (hK : K ⊆ [.time, .commits, .posted, .snap, .inputs, .wrstN, .mem,
    .nvm, .keyOps, .array, .tab, .sensors, .sec, .boot, .role, .upd, .free, .pending]) (s : State) (c : Nat)
    (why : CourseReason) : (s.fenceCourse c why).only K = s.only K := by
  refine State.only_mono hK ?_
  unfold State.fenceCourse
  dsimp only
  repeat' split
  all_goals simp only [State.darkLanes_only, State.fatalFault_only, State.fenceUnit_only, State.followRef_only,
    State.loopEnd_only, State.reclaimFlits_only, State.setCourse_only, State.stick_only, State.stickBits_only,
    State.only_ite, State.only_when, State.only_forAll,





    List.mem_cons, List.not_mem_nil, List.cons_subset, List.nil_subset, reduceCtorEq, or_false,
    or_true, not_false_eq_true, and_self, ite_self, implies_true,
    or_self]

@[simp] theorem State.enterRetrain_only {K : List Piece} (hK : K ⊆ [.time, .commits, .posted, .snap, .inputs, .wrstN, .mem,
    .nvm, .keyOps, .array, .tab, .sensors, .sec, .boot, .role, .upd, .free, .pending]) (s : State) (c : Nat) :
    (s.enterRetrain c).only K = s.only K := by
  refine State.only_mono hK ?_
  simp [State.enterRetrain]

@[simp] theorem State.retrainCourse_only {K : List Piece} (hK : K ⊆ [.time, .commits, .posted, .snap, .inputs, .wrstN, .mem,
    .nvm, .keyOps, .array, .tab, .sensors, .sec, .boot, .role, .upd, .free, .pending]) (s : State) (c : Nat) :
    (s.retrainCourse c).only K = s.only K := by
  refine State.only_mono hK ?_
  simp [State.retrainCourse]

@[simp] theorem State.retrainOver_only {K : List Piece} (hK : K ⊆ [.time, .commits, .posted, .snap, .inputs, .wrstN, .mem,
    .nvm, .keyOps, .array, .tab, .sensors, .sec, .boot, .role, .upd, .free, .pending]) (s : State) (c : Nat) :
    (s.retrainOver c).only K = s.only K := by
  refine State.only_mono hK ?_
  unfold State.retrainOver
  dsimp only
  repeat' split
  all_goals simp

@[simp] theorem State.resumeLimits_only {K : List Piece} (hK : .courses ∉ K) (s : State) (c : Nat) :
    (s.resumeLimits c).only K = s.only K := by
  simp [State.resumeLimits, hK]

@[simp] theorem State.startAssembly_only {K : List Piece} (hK : .courses ∉ K) (s : State) (c : Nat) :
    (s.startAssembly c).only K = s.only K := by
  unfold State.startAssembly
  split <;> simp [hK]

@[simp] theorem State.courseUp_only {K : List Piece} (hK : K ⊆ [.time, .posted, .snap, .inputs, .wrstN, .link, .reqs,
    .keyOps, .array, .tab, .sensors, .slots, .rpr, .pending]) (s : State) (c : Nat) : (s.courseUp c).only K = s.only K := by
  refine State.only_mono hK ?_
  unfold State.courseUp
  dsimp only
  repeat' split
  all_goals simp [LinkSt.only, SecSt.only]

@[simp] theorem State.settleCourse_only {K : List Piece} (hK : K ⊆ [.time, .posted, .snap, .inputs, .wrstN, .link, .reqs,
    .keyOps, .array, .tab, .sensors, .slots, .rpr, .pending]) (s : State) (c : Nat) : (s.settleCourse c).only K = s.only K := by
  refine State.only_mono hK ?_
  simp [State.settleCourse]

@[simp] theorem State.spareLane_only {K : List Piece} (hK : K ⊆ [.time, .commits, .posted, .snap, .inputs, .wrstN, .mem,
    .nvm, .keyOps, .array, .tab, .sensors, .sec, .boot, .role, .upd, .free, .pending]) (s : State) (c k wait : Nat) :
    (s.spareLane c k wait).only K = s.only K := by
  refine State.only_mono hK ?_
  unfold State.spareLane
  split <;> simp

@[simp] theorem State.failedLanes_only {K : List Piece} (hK : K ⊆ [.time, .commits, .posted, .snap, .inputs, .wrstN, .mem,
    .nvm, .keyOps, .array, .tab, .sensors, .sec, .boot, .role, .upd, .free, .pending]) (s : State) :
    s.failedLanes.only K = s.only K := by
  refine State.only_mono hK ?_
  unfold State.failedLanes
  refine State.only_forAll (fun _ _ => ?_) _ _
  repeat' split
  all_goals simp

@[simp] theorem State.laneLeaves_only {K : List Piece} (hK : K ⊆ [.time, .posted, .snap, .inputs, .wrstN, .keyOps, .array,
    .tab, .sensors, .pending]) (s : State) (c l : Nat) (f : Lane → Lane) : (s.laneLeaves c l f).only K = s.only K := by
  refine State.only_mono hK ?_
  unfold State.laneLeaves
  dsimp only
  split <;> simp

@[simp] theorem State.noteFec_only {K : List Piece} (hK : K ⊆ [.time, .commits, .posted, .snap, .inputs, .wrstN, .mem, .nvm,
    .keyOps, .array, .tab, .sensors, .sec, .boot, .role, .upd, .free, .pending]) (s : State) (c : Nat) (corrected : List Nat) :
    (s.noteFec c corrected).only K = s.only K := by
  refine State.only_mono hK ?_
  unfold State.noteFec
  refine State.only_forAll (fun _ _ => ?_) _ _
  dsimp only
  repeat' split
  all_goals simp

@[simp] theorem State.takeMap_only {K : List Piece} (hK : .courses ∉ K) (s : State) (c : Nat) (p : BitVec 64) :
    (s.takeMap c p).only K = s.only K := by
  simp [State.takeMap, hK]

@[simp] theorem State.sparedEvent_only {K : List Piece} (hK : .regs ∉ K ∧ .pins ∉ K ∧ .evt ∉ K ∧ .pinFlt ∉ K ∧ .doms ∉ K ∧
    .pwr ∉ K) (s : State) (c k l d : Nat) : (s.sparedEvent c k l d).only K = s.only K := by
  simp [State.sparedEvent, hK]

@[simp] theorem State.takeSwitch_only {K : List Piece} (hK : K ⊆ [.time, .posted, .snap, .inputs, .wrstN, .link, .reqs, .keyOps,
    .array, .tab, .sensors, .slots, .rpr, .pending]) (s : State) (c : Nat) (p : BitVec 64) :
        (s.takeSwitch c p).only K = s.only K := by
  refine State.only_mono hK ?_
  unfold State.takeSwitch
  dsimp only
  split_ifs
  · split
    · rfl
    · refine (State.settleCourse_only (by simp) _ _).trans ((State.sparedEvent_only (by simp) ..).trans
        ((State.setCourse_only (by simp) ..).trans ((State.setLane_only (by simp) ..).trans (State.only_forAll
            (fun i t => ?_) _ _))))
      simp
  · rfl

@[simp] theorem State.rxvFalls_only {K : List Piece} (hK : K ⊆ [.time, .posted, .snap, .inputs, .wrstN, .keyOps, .array,
    .tab, .sensors, .pending]) (s : State) (c l : Nat) : (s.rxvFalls c l).only K = s.only K := by
  refine State.only_mono hK ?_
  simp [State.rxvFalls]

@[simp] theorem State.rxvRises_only {K : List Piece} (hK : .regs ∉ K ∧ .lanes ∉ K) (s : State) (c l : Nat) :
    (s.rxvRises c l).only K = s.only K := by
  simp [State.rxvRises, hK]

@[simp] theorem State.eqAck_only {K : List Piece} (hK : .lanes ∉ K) (s : State) (c l : Nat) :
    (s.eqAck c l).only K = s.only K := by
  simp [State.eqAck, hK]

@[simp] theorem State.eqTick_only {K : List Piece} (hK : .lanes ∉ K) (s : State) : s.eqTick.only K = s.only K := by
  unfold State.eqTick
  refine State.only_forAll (fun _ _ => ?_) _ _
  repeat' split
  all_goals simp [hK]

@[simp] theorem State.unfenceCourse_only {K : List Piece} (hK : .regs ∉ K ∧ .pins ∉ K ∧ .evt ∉ K ∧ .pinFlt ∉ K ∧ .flt ∉ K ∧
    .lanes ∉ K ∧ .courses ∉ K ∧ .chans ∉ K ∧ .array ∉ K ∧ .doms ∉ K ∧ .pwr ∉ K) (s : State) (c : Nat) :
    (s.unfenceCourse c).only K = s.only K := by
  simp [State.unfenceCourse, hK]

@[simp] theorem State.captureWindow_only {K : List Piece} (hK : .regs ∉ K) (s : State) : s.captureWindow.only K = s.only K := by
  simp [State.captureWindow, hK, RegSt.only]

@[simp] theorem State.sumCapture_only {K : List Piece} (hK : .regs ∉ K) (s : State) : s.sumCapture.only K = s.only K := by
  simp [State.sumCapture, hK, RegSt.only]

@[simp] theorem State.sendSummary_only {K : List Piece} (hK : .link ∉ K) (s : State) (mtag : Nat) :
    (s.sendSummary mtag).only K = s.only K := by
  simp [State.sendSummary, hK]

@[simp] theorem State.snapStart_only {K : List Piece} (hK : .snap ∉ K) (s : State) : s.snapStart.only K = s.only K := by
  simp [State.snapStart, hK, RegSt.only]

@[simp] theorem State.snapEnd_only {K : List Piece} (hK : .snap ∉ K ∧ .regs ∉ K) (s : State) : s.snapEnd.only K = s.only K := by
  simp [State.snapEnd, hK, RegSt.only]

@[simp] theorem State.ctlFence_only {K : List Piece} (hK : .regs ∉ K ∧ .pins ∉ K ∧ .evt ∉ K ∧ .pinFlt ∉ K ∧ .flt ∉ K ∧
    .link ∉ K ∧ .reqs ∉ K ∧ .trx ∉ K ∧ .regul ∉ K ∧ .chans ∉ K ∧ .capo ∉ K ∧ .slots ∉ K ∧ .doms ∉ K ∧ .pwr ∉ K) (s : State)
    (v : Word) : (s.ctlFence v).only K = s.only K := by
  unfold State.ctlFence
  split <;> simp [hK]

@[simp] theorem State.dieAgain_only {K : List Piece} (hK : .regs ∉ K ∧ .pins ∉ K ∧ .chans ∉ K ∧ .array ∉ K ∧ .capo ∉ K)
    (s : State) (ch : Nat) : (s.dieAgain ch).only K = s.only K := by
  simp [State.dieAgain, hK]

@[simp] theorem State.returnBy_only {K : List Piece} (hK : .conf ∉ K ∧ .regs ∉ K ∧ .pins ∉ K ∧ .flt ∉ K ∧ .chans ∉ K ∧
    .array ∉ K ∧ .capo ∉ K ∧ .cal ∉ K ∧ .doms ∉ K ∧ .cgs ∉ K ∧ .pwr ∉ K) (s : State) (u : FUnit) (i ch : Nat) :
    (s.returnBy u i ch).only K = s.only K := by
  simp [State.returnBy, hK, FltSt.only]

@[simp] theorem State.ctlUnfence_only {K : List Piece} (hK : K ⊆ [.time, .commits, .posted, .snap, .inputs, .wrstN, .mem,
    .nvm, .lanes, .courses, .keyOps, .tab, .sensors, .sec, .boot, .role, .pair, .rpr, .upd, .free, .pending]) (s : State)
    (v : Word) (ok : Bool) : (s.ctlUnfence v ok).only K = s.only K := by
  refine State.only_mono hK ?_
  unfold State.ctlUnfence
  dsimp only
  repeat' split
  all_goals simp [LinkSt.only, SecSt.only]

@[simp] theorem State.pinHold_only {K : List Piece} (hK : .pinFlt ∉ K) (s : State) : s.pinHold.only K = s.only K := by
  simp [State.pinHold, hK, FltSt.only]

@[simp] theorem State.pinRelease_only {K : List Piece} (hK : .regs ∉ K ∧ .pinFlt ∉ K) (s : State) (seq : Nat) :
    (s.pinRelease seq).only K = s.only K := by
  simp [State.pinRelease, hK, FltSt.only]

@[simp] theorem State.pulseOver_only {K : List Piece} (hK : .pinFlt ∉ K) (s : State) : s.pulseOver.only K = s.only K := by
  unfold State.pulseOver
  split <;> simp [hK, FltSt.only]

@[simp] theorem State.viewRecord_only {K : List Piece} (hK : .regs ∉ K) (s : State) (p seq : Nat) :
    (s.viewRecord p seq).only K = s.only K := by
  simp [State.viewRecord, hK, RegSt.only]

@[simp] theorem State.viewLog_only {K : List Piece} (hK : .regs ∉ K ∧ .pins ∉ K ∧ .evt ∉ K ∧ .pinFlt ∉ K ∧ .doms ∉ K ∧
    .pwr ∉ K) (s : State) (slot : Nat) : (s.viewLog slot).only K = s.only K := by
  simp [State.viewLog, hK, RegSt.only]

@[simp] theorem State.persistDue_only {K : List Piece} (hK : .regs ∉ K ∧ .pins ∉ K ∧ .evt ∉ K ∧ .doms ∉ K ∧ .pwr ∉ K)
    (s : State) : s.persistDue.only K = s.only K := by
  unfold State.persistDue
  split <;> simp [hK]

@[simp] theorem State.persistNext_only {K : List Piece} (hK : .nvm ∉ K) (s : State) : s.persistNext.only K = s.only K := by
  unfold State.persistNext
  split <;> simp [hK]

@[simp] theorem State.logWritten_only {K : List Piece} (hK : .regs ∉ K ∧ .evt ∉ K) (s : State) (seq : Nat) :
    (s.logWritten seq).only K = s.only K := by
  unfold State.logWritten
  split <;> simp [hK]

@[simp] theorem State.logScanned_only {K : List Piece} (hK : .regs ∉ K ∧ .pins ∉ K ∧ .evt ∉ K ∧ .pinFlt ∉ K ∧ .doms ∉ K ∧
    .pwr ∉ K) (s : State) : s.logScanned.only K = s.only K := by
  simp [State.logScanned, hK]

@[simp] theorem State.ackWrite_only {K : List Piece} (hK : .regs ∉ K ∧ .link ∉ K ∧ .reqs ∉ K ∧ .trx ∉ K ∧ .regul ∉ K ∧
    .chans ∉ K ∧ .slots ∉ K ∧ .rpr ∉ K) (s : State) (a : Access) (off : Nat) (v : Word) (tag : Option Nat) (bad : Bool) :
    (s.ackWrite a off v tag bad).only K = s.only K := by
  unfold State.ackWrite
  split <;> simp [hK, RegSt.only]

@[simp] theorem State.captureSave_only {K : List Piece} (hK : .boot ∉ K) (s : State) : s.captureSave.only K = s.only K := by
  simp [State.captureSave, hK]

@[simp] theorem State.saveStart_only {K : List Piece} (hK : .nvm ∉ K) (s : State) (x : List (Nat × Nat) × Nat) :
    (s.saveStart x).only K = s.only K := by
  simp [State.saveStart, hK]

@[simp] theorem State.lockNow_only {K : List Piece} (hK : .mem ∉ K ∧ .sec ∉ K) (s : State) : s.lockNow.only K = s.only K := by
  simp [State.only, State.lockNow, hK, NvmSt.only, SecSt.only]

@[simp] theorem State.unblock_only {K : List Piece} (hK : .pins ∉ K ∧ .doms ∉ K) (s : State) : s.unblock.only K = s.only K := by
  simp [State.unblock, hK]

@[simp] theorem State.revertConfig_only {K : List Piece} (hK : .conf ∉ K ∧ .pinFlt ∉ K ∧ .regul ∉ K) (s : State)
    (d : Nat) : (s.revertConfig d).only K = s.only K := by
  simp [State.revertConfig, hK, RegSt.only]

@[simp] theorem State.storeFailed_only {K : List Piece} (hK : .conf ∉ K ∧ .regs ∉ K ∧ .pins ∉ K ∧ .evt ∉ K ∧ .pinFlt ∉ K ∧
    .regul ∉ K ∧ .doms ∉ K ∧ .pwr ∉ K) (s : State) (d : Nat) : (s.storeFailed d).only K = s.only K := by
  simp [State.storeFailed, hK]

@[simp] theorem State.coldStart_only {K : List Piece} (hK : K ⊆ [.time, .commits, .posted, .snap, .inputs, .wrstN, .mem,
    .nvm, .reqs, .keyOps, .trx, .array, .tab, .sensors, .boot, .rpr, .upd, .free, .pending]) (s : State) (d : Nat) :
    (s.coldStart d).only K = s.only K := by
  refine State.only_mono hK ?_
  simp [State.coldStart, LinkSt.only, SecSt.only]

@[simp] theorem State.linkFresh_only {K : List Piece} (hK : .regs ∉ K ∧ .pins ∉ K ∧ .evt ∉ K ∧ .pinFlt ∉ K ∧ .flt ∉ K ∧
    .lanes ∉ K ∧ .courses ∉ K ∧ .link ∉ K ∧ .chans ∉ K ∧ .array ∉ K ∧ .sec ∉ K ∧ .doms ∉ K ∧ .pwr ∉ K) (s : State) :
    s.linkFresh.only K = s.only K := by
  simp only [State.linkFresh, hK, State.event_only, State.unfenceCourse_only,
    State.only_forAll,


    State.only_link_sec,
    LinkSt.only, SecSt.only,
    not_false_eq_true, and_self, ite_self, if_false, implies_true]

@[simp] theorem State.luthierUp_only {K : List Piece} (hK : .cal ∉ K) (s : State) : s.luthierUp.only K = s.only K := by
  unfold State.luthierUp
  refine State.only_forAll (fun _ _ => ?_) _ _
  all_goals simp [hK]

@[simp] theorem State.setTrims_only {K : List Piece} (hK : .cal ∉ K) (s : State) (g : Nat) :
    (s.setTrims g).only K = s.only K := by
  simp [State.setTrims, hK]

@[simp] theorem State.groupUp_only {K : List Piece} (hK : .conf ∉ K ∧ .regs ∉ K ∧ .pins ∉ K ∧ .evt ∉ K ∧ .pinFlt ∉ K ∧
    .flt ∉ K ∧ .chans ∉ K ∧ .array ∉ K ∧ .capo ∉ K ∧ .cal ∉ K ∧ .doms ∉ K ∧ .cgs ∉ K ∧ .pwr ∉ K) (s : State) (g : Nat)
    (kept : Bool) : (s.groupUp g kept).only K = s.only K := by
  simp [State.groupUp, hK]

@[simp] theorem State.domUp_only {K : List Piece} (hK : K ⊆ [.time, .commits, .posted, .snap, .inputs, .wrstN, .mem, .nvm,
    .keyOps, .tab, .sensors, .boot, .rpr, .upd, .free, .pending]) (s : State) (d : Nat) (fresh cold selfOk : Bool) :
    (s.domUp d fresh cold selfOk).only K = s.only K := by
  refine State.only_mono hK ?_
  simp [State.domUp, PinSt.only, PairSt.only]

@[simp] theorem State.unmask_only {K : List Piece} (hK : .conf ∉ K ∧ .regs ∉ K ∧ .chans ∉ K ∧ .capo ∉ K) (s : State) :
    s.unmask.only K = s.only K := by
  simp [State.unmask, hK]

@[simp] theorem State.wakeReady_only {K : List Piece} (hK : K ⊆ [.time, .commits, .posted, .snap, .inputs, .wrstN, .mem,
    .nvm, .keyOps, .tab, .sensors, .boot, .rpr, .upd, .free, .pending]) (s : State) (d : Nat)
    (retOk storeOk selfOk : Bool) : (s.wakeReady d retOk storeOk selfOk).only K = s.only K := by
  refine State.only_mono hK ?_
  simp [State.wakeReady, PinSt.only, LinkSt.only]

@[simp] theorem State.discardWrite_only {K : List Piece} (hK : .posted ∉ K ∧ .regs ∉ K) (s : State) (e : Posted) :
    (s.discardWrite e).only K = s.only K := by
  simp [State.discardWrite, hK, RegSt.only]

@[simp] theorem State.failWaiting_only {K : List Piece} (hK : .posted ∉ K ∧ .regs ∉ K ∧ .link ∉ K ∧ .reqs ∉ K ∧ .trx ∉ K ∧
    .regul ∉ K ∧ .chans ∉ K ∧ .slots ∉ K ∧ .rpr ∉ K) (s : State) (d : Nat) : (s.failWaiting d).only K = s.only K := by
  simp [State.failWaiting, hK, RegSt.only]

@[simp] theorem State.wakeExpired_only {K : List Piece} (hK : .posted ∉ K ∧ .regs ∉ K ∧ .pins ∉ K ∧ .evt ∉ K ∧ .pinFlt ∉ K ∧
    .link ∉ K ∧ .reqs ∉ K ∧ .trx ∉ K ∧ .regul ∉ K ∧ .chans ∉ K ∧ .slots ∉ K ∧ .doms ∉ K ∧ .pwr ∉ K ∧ .rpr ∉ K) (s : State)
    (d : Nat) : (s.wakeExpired d).only K = s.only K := by
  unfold State.wakeExpired
  split <;> simp [hK, PinSt.only, LinkSt.only]

@[simp] theorem State.domLost_only {K : List Piece} (hK : K ⊆ [.time, .commits, .snap, .inputs, .wrstN, .mem, .nvm, .keyOps,
    .array, .tab, .sensors, .boot, .upd, .free, .pending]) (s : State) (d code reason : Nat) :
    (s.domLost d code reason).only K = s.only K := by
  refine State.only_mono hK ?_
  simp only [State.domLost, State.autoSupport_only, State.failWaiting_only, State.fatalFault_only, State.fenceUnit_only,
    State.lastFault_only, State.loseDom_only, State.maskEnd_only, State.portReset_only, State.setCg_only, State.setDom_only,
    State.setRole_only, State.syncAge_only, State.unblock_only, State.only_ite,
    State.only_forAll, State.only_link_pins, State.only_sec_cal,




    PinSt.only, LinkSt.only, SecSt.only, List.mem_cons,
    List.not_mem_nil, List.cons_subset, List.nil_subset, reduceCtorEq, or_false, or_true,
    not_false_eq_true, and_self, ite_self, if_false, if_true, implies_true, or_self]

@[simp] theorem State.wakeAgain_only {K : List Piece} (hK : K ⊆ [.time, .commits, .snap, .inputs, .wrstN, .mem, .nvm,
    .keyOps, .array, .tab, .sensors, .boot, .upd, .free, .pending]) (s : State) (d : Nat) :
    (s.wakeAgain d).only K = s.only K := by
  refine State.only_mono hK ?_
  unfold State.wakeAgain
  split <;> simp

@[simp] theorem State.pswDrops_only {K : List Piece} (hK : K ⊆ [.time, .commits, .snap, .inputs, .wrstN, .mem, .nvm, .keyOps,
    .array, .tab, .sensors, .boot, .upd, .free, .pending]) (s : State) (d : Nat) : (s.pswDrops d).only K = s.only K := by
  refine State.only_mono hK ?_
  simp [State.pswDrops, PinSt.only, LinkSt.only]

@[simp] theorem State.powerOn_only {K : List Piece} (hK : .regs ∉ K ∧ .pins ∉ K ∧ .doms ∉ K ∧ .pwr ∉ K) (s : State) (d : Nat) :
    (s.powerOn d).only K = s.only K := by
  simp [State.powerOn, hK]

@[simp] theorem State.powerDown_only {K : List Piece} (hK : K ⊆ [.time, .commits, .posted, .snap, .inputs, .wrstN, .mem,
    .nvm, .reqs, .keyOps, .trx, .array, .tab, .sensors, .slots, .boot, .rpr, .upd, .free, .pending]) (s : State) (p : Path)
    (d : Nat) (target : DomState) : (s.powerDown p d target).only K = s.only K := by
  refine State.only_mono hK ?_
  simp [State.powerDown]

@[simp] theorem State.linkAcked_only {K : List Piece} (hK : K ⊆ [.time, .commits, .posted, .snap, .inputs, .wrstN, .mem,
    .nvm, .reqs, .keyOps, .trx, .array, .tab, .sensors, .slots, .boot, .rpr, .upd, .free, .pending]) (s : State) :
    s.linkAcked.only K = s.only K := by
  refine State.only_mono hK ?_
  unfold State.linkAcked
  split <;> simp

@[simp] theorem State.powerUnfence_only {K : List Piece} (hK : .conf ∉ K ∧ .regs ∉ K ∧ .pins ∉ K ∧ .evt ∉ K ∧ .pinFlt ∉ K ∧
    .flt ∉ K ∧ .chans ∉ K ∧ .array ∉ K ∧ .capo ∉ K ∧ .cal ∉ K ∧ .doms ∉ K ∧ .cgs ∉ K ∧ .pwr ∉ K) (s : State) (d : Nat) :
    (s.powerUnfence d).only K = s.only K := by
  simp [State.powerUnfence, hK]

@[simp] theorem State.linkWakes_only {K : List Piece} (hK : .regs ∉ K ∧ .pins ∉ K ∧ .doms ∉ K ∧ .pwr ∉ K) (s : State)
    (c : Nat) : (s.linkWakes c).only K = s.only K := by
  simp [State.linkWakes, hK]

@[simp] theorem State.daaAnswer_only {K : List Piece} (hK : .pins ∉ K) (s : State) (svc : Bool) :
    (s.daaAnswer svc).only K = s.only K := by
  simp [State.daaAnswer, hK, PinSt.only]

@[simp] theorem State.svcTakes_only {K : List Piece} (hK : .pins ∉ K) (s : State) (new : Option (BitVec 7)) :
    (s.svcTakes new).only K = s.only K := by
  simp [State.svcTakes, hK, PinSt.only]

@[simp] theorem State.smpMatch_only {K : List Piece} (hK : .regs ∉ K ∧ .pins ∉ K ∧ .doms ∉ K ∧ .pwr ∉ K) (s : State) :
    s.smpMatch.only K = s.only K := by
  simp [State.smpMatch, hK]

@[simp] theorem State.takeAddress_only {K : List Piece} (hK : .pins ∉ K) (s : State) (new : BitVec 7) :
    (s.takeAddress new).only K = s.only K := by
  simp [State.takeAddress, hK, PinSt.only]

@[simp] theorem State.smpTransfer_only {K : List Piece} (hK : .regs ∉ K ∧ .pins ∉ K ∧ .doms ∉ K ∧ .pwr ∉ K) (s : State)
    (x : SmpXfer) : (s.smpTransfer x).only K = s.only K := by
  unfold State.smpTransfer
  split <;> simp [hK]

@[simp] theorem State.idleReached_only {K : List Piece} (hK : K ⊆ [.time, .commits, .posted, .snap, .inputs, .wrstN, .mem,
    .nvm, .reqs, .keyOps, .trx, .array, .tab, .sensors, .slots, .boot, .rpr, .upd, .free, .pending]) (s : State) (g : Nat)
    (k : IdleStep) : (s.idleReached g k).only K = s.only K := by
  refine State.only_mono hK ?_
  unfold State.idleReached
  split <;> simp

@[simp] theorem State.delayMet_only {K : List Piece} (hK : K ⊆ [.time, .commits, .posted, .snap, .inputs, .wrstN, .mem, .nvm,
    .reqs, .keyOps, .trx, .array, .tab, .sensors, .slots, .boot, .rpr, .upd, .free, .pending]) (s : State) (d : Nat) :
    (s.delayMet d).only K = s.only K := by
  refine State.only_mono hK ?_
  unfold State.delayMet
  repeat' split
  all_goals simp

@[simp] theorem State.delayOver_only {K : List Piece} (hK : K ⊆ [.time, .commits, .posted, .snap, .inputs, .wrstN, .mem,
    .nvm, .reqs, .keyOps, .trx, .array, .tab, .sensors, .slots, .boot, .rpr, .upd, .free, .pending]) (s : State)
    (d : Nat) : (s.delayOver d).only K = s.only K := by
  refine State.only_mono hK ?_
  unfold State.delayOver
  repeat' split
  all_goals simp

@[simp] theorem State.keyEntry_only {K : List Piece} (hK : .regs ∉ K ∧ .sec ∉ K ∧ .free ∉ K) (s : State) (k : Nat) :
    (s.keyEntry k).2.only K = s.only K := by
  simp [State.keyEntry, hK]

@[simp] theorem State.setKeyOp_only {K : List Piece} (hK : .keyOps ∉ K) (s : State) (mtag : Nat) (f : KeyOp → KeyOp) :
    (s.setKeyOp mtag f).only K = s.only K := by
  simp [State.setKeyOp, hK, TrxSt.only]

@[simp] theorem State.endKeyOp_only {K : List Piece} (hK : .regs ∉ K ∧ .link ∉ K ∧ .keyOps ∉ K) (s : State) (mtag : Nat)
    (ok : Bool) : (s.endKeyOp mtag ok).only K = s.only K := by
  unfold State.endKeyOp
  split <;> simp [hK, TrxSt.only]

@[simp] theorem State.eraseSlot_only {K : List Piece} (hK : .keyOps ∉ K ∧ .slots ∉ K) (s : State) (o : KeyOp) :
    (s.eraseSlot o).only K = s.only K := by
  simp [State.eraseSlot, hK]

@[simp] theorem State.slotErased_only {K : List Piece} (hK : .regs ∉ K ∧ .flt ∉ K ∧ .link ∉ K ∧ .keyOps ∉ K ∧ .slots ∉ K ∧
    .sec ∉ K ∧ .free ∉ K) (s : State) (o : KeyOp) : (s.slotErased o).only K = s.only K := by
  simp [State.slotErased, hK]

@[simp] theorem State.startPage_only {K : List Piece} (hK : .regs ∉ K ∧ .nvm ∉ K ∧ .keyOps ∉ K ∧ .sec ∉ K ∧ .free ∉ K)
    (s : State) (o : KeyOp) : (s.startPage o).only K = s.only K := by
  simp [State.startPage, hK]

@[simp] theorem State.keyTurn_only {K : List Piece} (hK : .regs ∉ K ∧ .link ∉ K ∧ .keyOps ∉ K ∧ .slots ∉ K ∧ .sec ∉ K ∧
    .free ∉ K) (s : State) (o : KeyOp) : (s.keyTurn o).only K = s.only K := by
  unfold State.keyTurn
  dsimp only
  repeat' split
  all_goals simp [hK]

@[simp] theorem State.keyFinish_only {K : List Piece} (hK : .regs ∉ K ∧ .flt ∉ K ∧ .link ∉ K ∧ .keyOps ∉ K ∧ .slots ∉ K ∧
    .sec ∉ K ∧ .free ∉ K) (s : State) : s.keyFinish.only K = s.only K := by
  simp [State.keyFinish, hK]

@[simp] theorem State.keysFail_only {K : List Piece} (hK : .regs ∉ K ∧ .link ∉ K ∧ .keyOps ∉ K) (s : State) :
    s.keysFail.only K = s.only K := by
  simp [State.keysFail, hK, TrxSt.only]

@[simp] theorem State.keyServe_only {K : List Piece} (hK : .regs ∉ K ∧ .nvm ∉ K ∧ .flt ∉ K ∧ .link ∉ K ∧ .keyOps ∉ K ∧
    .slots ∉ K ∧ .sec ∉ K ∧ .free ∉ K) (s : State) : s.keyServe.only K = s.only K := by
  have hturn (l : List KeyOp) (t : State) : (forAll l (fun o t => match t.keyOp o.mtag with
      | some x => if x.phase = 0 ∧ !x.page ∧ t.keyFirst x then t.keyTurn x else t
      | none => t) t).only K = t.only K :=
    State.only_forAll (fun o t => by split <;> simp [hK]) _ _
  have hpage (o : Option KeyOp) (t : State) : State.only (match o with
      | some o => if t.pageWriting ∨ !t.pins.nvmRdy then t else t.startPage o
      | none => t) K = t.only K := by
    split <;> simp [hK]
  unfold State.keyServe
  split_ifs
  · rfl
  · simp [hK]
  · extract_lets t1 t2 t3
    have h1 : t1.only K = s.only K := hturn _ _
    have h2 : t2.only K = s.only K := by simp [t2, hK, h1]
    have h3 : t3.only K = s.only K := (hpage _ _).trans h2
    split_ifs <;> simp [h3, hK]
  · rfl

@[simp] theorem State.keyAccept_only {K : List Piece} (hK : .regs ∉ K ∧ .pins ∉ K ∧ .nvm ∉ K ∧ .flt ∉ K ∧ .link ∉ K ∧
    .keyOps ∉ K ∧ .slots ∉ K ∧ .sec ∉ K ∧ .doms ∉ K ∧ .pwr ∉ K ∧ .free ∉ K) (s : State) (mtag : Nat) (h : Cell) :
    (s.keyAccept mtag h).only K = s.only K := by
  simp [State.keyAccept, hK, TrxSt.only]

@[simp] theorem State.keyErased_only {K : List Piece} (hK : .regs ∉ K ∧ .nvm ∉ K ∧ .flt ∉ K ∧ .link ∉ K ∧ .keyOps ∉ K ∧
    .slots ∉ K ∧ .sec ∉ K ∧ .free ∉ K) (s : State) (k : Nat) (partner : Bool) : (s.keyErased k partner).only K = s.only K := by
  unfold State.keyErased
  split <;> simp [hK]

@[simp] theorem State.keyPageDone_only {K : List Piece} (hK : .regs ∉ K ∧ .nvm ∉ K ∧ .flt ∉ K ∧ .link ∉ K ∧ .keyOps ∉ K ∧
    .slots ∉ K ∧ .sec ∉ K ∧ .free ∉ K) (s : State) (mtag : Nat) (ok : Bool) : (s.keyPageDone mtag ok).only K = s.only K := by
  unfold State.keyPageDone
  repeat' split
  all_goals simp [hK]

@[simp] theorem State.clearSuspects_only {K : List Piece} (hK : .chans ∉ K) (s : State) (ch : Nat) :
    (s.clearSuspects ch).only K = s.only K := by
  simp [State.clearSuspects, hK]

@[simp] theorem State.ctlUnfenceFree_only {K : List Piece} (hK : K ⊆ [.time, .commits, .posted, .snap, .inputs, .wrstN, .mem,
    .nvm, .lanes, .courses, .keyOps, .tab, .sensors, .sec, .boot, .role, .pair, .rpr, .upd, .pending]) (s : State) (v : Word) :
    (s.ctlUnfenceFree v).only K = s.only K := by
  refine State.only_mono hK ?_
  unfold State.ctlUnfenceFree
  split <;> simp

@[simp] theorem State.fltCtl_only {K : List Piece} (hK : K ⊆ [.time, .commits, .posted, .snap, .inputs, .wrstN, .mem, .nvm,
    .lanes, .courses, .keyOps, .tab, .sensors, .sec, .boot, .role, .pair, .rpr, .upd, .pending]) (s : State) (v : Word) :
    (s.fltCtl v).only K = s.only K := by
  refine State.only_mono hK ?_
  unfold State.fltCtl
  split <;> simp

@[simp] theorem State.fltPin_only {K : List Piece} (hK : .regs ∉ K ∧ .pinFlt ∉ K) (s : State) (v : Word) :
    (s.fltPin v).only K = s.only K := by
  unfold State.fltPin
  split <;> simp [hK]

@[simp] theorem State.pwrReq_only {K : List Piece} (hK : K ⊆ [.time, .commits, .posted, .snap, .inputs, .wrstN, .mem, .nvm,
    .reqs, .keyOps, .trx, .array, .tab, .sensors, .slots, .boot, .rpr, .upd, .free, .pending]) (s : State) (p : Path)
    (v : Word) : (s.pwrReq p v).only K = s.only K := by
  refine State.only_mono hK ?_
  unfold State.pwrReq
  split <;> simp

@[simp] theorem State.rprCmd_only {K : List Piece} (hK : .conf ∉ K ∧ .regs ∉ K ∧ .pins ∉ K ∧ .nvm ∉ K ∧ .evt ∉ K ∧
    .pinFlt ∉ K ∧ .chans ∉ K ∧ .capo ∉ K ∧ .doms ∉ K ∧ .cgs ∉ K ∧ .pwr ∉ K ∧ .rpr ∉ K) (s : State) (v : Word) :
    (s.rprCmd v).only K = s.only K := by
  unfold State.rprCmd
  split <;> simp [hK]

@[simp] theorem State.rprBctl_only {K : List Piece} (hK : .conf ∉ K ∧ .regs ∉ K ∧ .pins ∉ K ∧ .chans ∉ K ∧ .capo ∉ K ∧
    .doms ∉ K ∧ .cgs ∉ K ∧ .pwr ∉ K ∧ .rpr ∉ K) (s : State) (v : Word) : (s.rprBctl v).only K = s.only K := by
  unfold State.rprBctl
  split <;> simp [hK]

@[simp] theorem State.rprLctl_only {K : List Piece} (hK : .regs ∉ K ∧ .pins ∉ K ∧ .evt ∉ K ∧ .pinFlt ∉ K ∧ .lanes ∉ K ∧
    .courses ∉ K ∧ .doms ∉ K ∧ .pwr ∉ K ∧ .rpr ∉ K ∧ .free ∉ K) (s : State) (v : Word) : (s.rprLctl v).only K = s.only K := by
  unfold State.rprLctl
  split <;> simp [hK]

@[simp] theorem State.crsCtl_only {K : List Piece} (hK : K ⊆ [.time, .commits, .posted, .snap, .inputs, .wrstN, .mem, .nvm,
    .keyOps, .tab, .sensors, .sec, .boot, .role, .upd, .free, .pending]) (s : State) (c : Nat) (v : Word) :
    (s.crsCtl c v).only K = s.only K := by
  refine State.only_mono hK ?_
  simp [State.crsCtl]

@[simp] theorem State.calRuns_only {K : List Piece} (hK : .conf ∉ K ∧ .regs ∉ K ∧ .pins ∉ K ∧ .chans ∉ K ∧ .capo ∉ K ∧
    .cal ∉ K ∧ .doms ∉ K ∧ .cgs ∉ K ∧ .pwr ∉ K) (s : State) (groups : Nat) : (s.calRuns groups).only K = s.only K := by
  simp [State.calRuns, hK]

@[simp] theorem State.writeActs_only {K : List Piece} (hK : K ⊆ [.time, .posted, .inputs, .wrstN, .keyOps, .tab, .sensors,
    .pending]) (s : State) (path : Path) (level off : Nat) (v : Word) : (s.writeActs path level off v).only K = s.only K := by
  refine State.only_mono hK ?_
  unfold State.writeActs
  split <;> simp

@[simp] theorem State.writeMode_only {K : List Piece} (hK : .conf ∉ K) (s : State) (off : Nat) (v : Word) :
    (s.writeMode off v).only K = s.only K := by
  simp [State.writeMode, hK, RegSt.only]

@[simp] theorem State.applyWrite_only {K : List Piece} (hK : K ⊆ [.time, .posted, .inputs, .wrstN, .keyOps, .tab, .sensors,
    .pending]) (s : State) (path : Path) (level off : Nat) (v : Word) : (s.applyWrite path level off v).only K = s.only K := by
  refine State.only_mono hK ?_
  unfold State.applyWrite
  split <;> simp

@[simp] theorem State.unpost_only {K : List Piece} (hK : .posted ∉ K) (s : State) (e : Posted) :
    (s.unpost e).only K = s.only K := by
  simp [State.unpost, hK, RegSt.only]

@[simp] theorem State.saveTurn_only {K : List Piece} (hK : .posted ∉ K ∧ .regs ∉ K ∧ .nvm ∉ K ∧ .boot ∉ K) (s : State)
    (e : Posted) : (s.saveTurn e).only K = s.only K := by
  unfold State.saveTurn
  dsimp only
  split <;> simp [hK]

@[simp] theorem State.unstall_only {K : List Piece} (hK : .posted ∉ K) (s : State) (r : StalledRead) :
    (s.unstall r).only K = s.only K := by
  simp [State.unstall, hK, RegSt.only]

@[simp] theorem State.lateWaits_only {K : List Piece} (hK : .posted ∉ K ∧ .regs ∉ K ∧ .pins ∉ K ∧ .doms ∉ K ∧ .pwr ∉ K)
    (s : State) (e : Posted) (d : Nat) : (s.lateWaits e d).only K = s.only K := by
  simp [State.lateWaits, hK, RegSt.only]

@[simp] theorem State.readWaits_only {K : List Piece} (hK : .posted ∉ K ∧ .regs ∉ K ∧ .pins ∉ K ∧ .doms ∉ K ∧ .pwr ∉ K)
    (s : State) (r : StalledRead) (d : Nat) : (s.readWaits r d).only K = s.only K := by
  simp [State.readWaits, hK, RegSt.only]

@[simp] theorem State.drainPath_only {K : List Piece} (hK : K ⊆ [.time, .inputs, .wrstN, .keyOps, .tab, .sensors, .pending])
    (s : State) (p : Nat) (n1 : Nat) : (s.drainPath p n1).only K = s.only K := by
  refine State.only_mono hK ?_
  induction n1 generalizing s with
  | zero => rfl
  | succ n ih =>
    unfold State.drainPath
    repeat' split
    all_goals simp [ih]

@[simp] theorem State.drainWrites_only {K : List Piece} (hK : K ⊆ [.time, .inputs, .wrstN, .keyOps, .tab, .sensors, .pending])
    (s : State) : s.drainWrites.only K = s.only K := by
  refine State.only_mono hK ?_
  simp [State.drainWrites]

@[simp] theorem State.postedEffect_only {K : List Piece} (hK : K ⊆ [.time, .inputs, .wrstN, .keyOps, .tab, .sensors, .pending])
    (s : State) (page : Nat) : (s.postedEffect page).only K = s.only K := by
  refine State.only_mono hK ?_
  unfold State.postedEffect
  split <;> simp

@[simp] theorem State.writeReg_only {K : List Piece} (hK : K ⊆ [.time, .inputs, .wrstN, .keyOps, .tab, .sensors, .pending])
    (s : State) (a : Access) (off : Nat) (v : Word) (tag : Option Nat) (own : Bool) :
    (s.writeReg a off v tag own).only K = s.only K := by
  refine State.only_mono hK ?_
  simp [State.writeReg, RegSt.only]

@[simp] theorem State.saveDone_only {K : List Piece} (hK : K ⊆ [.time, .inputs, .wrstN, .tab, .sensors, .pending]) (s : State)
    (failed : Bool) : (s.saveDone failed).only K = s.only K := by
  refine State.only_mono hK ?_
  unfold State.saveDone
  split <;> simp [RegSt.only, PinSt.only, FltSt.only, TrxSt.only]

@[simp] theorem State.cmReg_only {K : List Piece} (hK : K ⊆ [.time, .inputs, .wrstN, .keyOps, .tab, .sensors, .pending])
    (s : State) (data : BitVec 56) : (s.cmReg data).only K = s.only K := by
  refine State.only_mono hK ?_
  simp [State.cmReg]

@[simp] theorem State.ledgerFails_only {K : List Piece} (hK : .regs ∉ K ∧ .flt ∉ K) (s : State) (l : Nat) :
    (s.ledgerFails l).only K = s.only K := by
  simp [State.ledgerFails, hK, FltSt.only]

@[simp] theorem State.overrun_only {K : List Piece} (hK : K ⊆ [.time, .conf, .commits, .posted, .snap, .inputs, .wrstN, .mem,
    .nvm, .lanes, .courses, .keyOps, .array, .tab, .sensors, .sec, .cal, .cgs, .boot, .role, .rpr, .upd, .free, .pending])
    (s : State) (cls : Nat) : (s.overrun cls).only K = s.only K := by
  refine State.only_mono hK ?_
  simp [State.overrun]

@[simp] theorem State.useCells_only {K : List Piece} (hK : .link ∉ K) (s : State) (req wd mgt : Nat) :
    (s.useCells req wd mgt).only K = s.only K := by
  simp [State.useCells, hK, LinkSt.only]

@[simp] theorem State.noTagNotice_only {K : List Piece} (hK : .regs ∉ K ∧ .link ∉ K ∧ .free ∉ K) (s : State)
    (detail : Nat) : (s.noTagNotice detail).only K = s.only K := by
  simp [State.noTagNotice, hK]

@[simp] theorem State.formatErr_only {K : List Piece} (hK : .regs ∉ K ∧ .link ∉ K ∧ .trx ∉ K) (s : State) (w : Bool)
    (tag lines detail : Nat) : (s.formatErr w tag lines detail).only K = s.only K := by
  simp [State.formatErr, hK]

@[simp] theorem State.badFormat_only {K : List Piece} (hK : .regs ∉ K ∧ .link ∉ K ∧ .trx ∉ K ∧ .free ∉ K) (s : State)
    (w : Bool) (tag lines detail : Nat) : (s.badFormat w tag lines detail).only K = s.only K := by
  simp [State.badFormat, hK]

@[simp] theorem State.badMgt_only {K : List Piece} (hK : .regs ∉ K ∧ .link ∉ K ∧ .trx ∉ K) (s : State)
    (mtag detail : Nat) : (s.badMgt mtag detail).only K = s.only K := by
  simp [State.badMgt, hK, TrxSt.only]

@[simp] theorem State.proceed_only {K : List Piece} (hK : K ⊆ [.time, .inputs, .wrstN, .keyOps, .tab, .sensors, .pending])
    (s : State) (r : Req) : (s.proceed r).only K = s.only K := by
  refine State.only_mono hK ?_
  simp [State.proceed, PinSt.only, FltSt.only, TrxSt.only]

@[simp] theorem State.releaseHeld_only {K : List Piece} (hK : K ⊆ [.time, .inputs, .wrstN, .keyOps, .tab, .sensors, .pending])
    (s : State) : s.releaseHeld.only K = s.only K := by
  refine State.only_mono hK ?_
  unfold State.releaseHeld
  refine State.only_forAll (fun _ _ => ?_) _ _
  repeat' split
  all_goals simp

@[simp] theorem State.acceptReq_only {K : List Piece} (hK : K ⊆ [.time, .inputs, .wrstN, .keyOps, .tab, .sensors, .pending])
    (s : State) (c k : Nat) (h : Cell) (data : List Cell) (mask : BitVec 64) :
    (s.acceptReq c k h data mask).only K = s.only K := by
  refine State.only_mono hK ?_
  simp only [State.acceptReq, State.acct_only, State.releaseHeld_only, State.takePool_only, State.wake_only,
    State.only_when,
    State.only_boot_flt_pins_trx,



    PinSt.only, FltSt.only, TrxSt.only, List.mem_cons,
    List.not_mem_nil, List.cons_subset, List.nil_subset, reduceCtorEq, or_false, or_true,
    not_false_eq_true, and_self, ite_self, if_false, if_true, or_self]

@[simp] theorem State.deliverReq_only {K : List Piece} (hK : K ⊆ [.time, .inputs, .wrstN, .keyOps, .tab, .sensors, .pending])
    (s : State) (c k : Nat) (h : Cell) (data : List Cell) (mask : Option (BitVec 64)) :
    (s.deliverReq c k h data mask).only K = s.only K := by
  refine State.only_mono hK ?_
  unfold State.deliverReq
  dsimp only
  repeat' split
  all_goals simp

@[simp] theorem State.deliverAs_only {K : List Piece} (hK : K ⊆ [.time, .inputs, .wrstN, .keyOps, .tab, .sensors, .pending])
    (s : State) (op c k : Nat) (h : Cell) (data : List Cell) (mask : Option (BitVec 64)) :
    (s.deliverAs op c k h data mask).only K = s.only K := by
  refine State.only_mono hK ?_
  simp [State.deliverAs]

@[simp] theorem State.deliverMask_only {K : List Piece} (hK : K ⊆ [.time, .conf, .commits, .posted, .snap, .inputs, .wrstN,
    .mem, .nvm, .lanes, .courses, .keyOps, .array, .tab, .sensors, .sec, .cal, .cgs, .boot, .role, .rpr, .upd, .pending])
    (s : State) (c k : Nat) (m : Cell) : (s.deliverMask c k m).only K = s.only K := by
  refine State.only_mono hK ?_
  unfold State.deliverMask
  repeat' split
  all_goals simp

@[simp] theorem State.deliverBad_only {K : List Piece} (hK : K ⊆ [.time, .conf, .commits, .posted, .snap, .inputs, .wrstN,
    .mem, .nvm, .lanes, .courses, .keyOps, .array, .tab, .sensors, .sec, .cal, .cgs, .boot, .role, .rpr, .upd, .pending])
    (s : State) (c k : Nat) (h : Cell) : (s.deliverBad c k h).only K = s.only K := by
  refine State.only_mono hK ?_
  unfold State.deliverBad
  repeat' split
  all_goals simp

@[simp] theorem State.only_flt_regul {K : List Piece} (s : State) {x} (hx : FltSt.only x K = s.flt.only K) (hy : .regul ∉ K) (y) :
    State.only { s with flt := x, regul := y } K = s.only K := by simp only [State.only, hx, hy, if_false]

@[simp] theorem State.resync_only {K : List Piece} (hK : .regs ∉ K ∧ .link ∉ K ∧ .trx ∉ K) (s : State) (mtag : Nat) (drain : Bool) :
    (s.resync mtag drain).only K = s.only K := by
  have hnote (x : Resync) : State.only { s.count 0x20130 with trx := { s.trx with resyncs := s.trx.resyncs ++
      [x] } } K = s.only K :=
    (State.only_trx (s.count 0x20130) (by simp [TrxSt.only, hK, State.count])).trans (State.count_only hK.1 ..)
  unfold State.resync
  dsimp only
  split <;> simp only [State.sendSummary_only, hK, hnote, not_false_eq_true]

@[simp] theorem State.summaryCapture_only {K : List Piece} (hK : .link ∉ K ∧ .trx ∉ K) (s : State) (mtag : Nat) :
    (s.summaryCapture mtag).only K = s.only K := by
  simp [State.summaryCapture, hK, TrxSt.only]

@[simp] theorem State.mgmtActs_only {K : List Piece} (hK : .time ∉ K ∧ .regs ∉ K ∧ .pins ∉ K ∧ .nvm ∉ K ∧ .flt ∉ K ∧
    .link ∉ K ∧ .keyOps ∉ K ∧ .trx ∉ K ∧ .slots ∉ K ∧ .sec ∉ K ∧ .doms ∉ K ∧ .pwr ∉ K ∧ .free ∉ K) (s : State) (clear : Bool)
    (h : Cell) (detail : Nat) : (s.mgmtActs clear h detail).only K = s.only K := by
  unfold State.mgmtActs
  dsimp only
  repeat' split
  all_goals simp [hK, TrxSt.only]

@[simp] theorem State.deliverMgmt_only {K : List Piece} (hK : K ⊆ [.conf, .commits, .posted, .snap, .inputs, .wrstN, .mem,
    .lanes, .courses, .array, .tab, .sensors, .cal, .cgs, .boot, .role, .rpr, .upd, .pending]) (s : State) (c k : Nat)
    (h : Cell) : (s.deliverMgmt c k h).only K = s.only K := by
  refine State.only_mono hK ?_
  unfold State.deliverMgmt
  dsimp only
  repeat' split
  all_goals simp [TrxSt.only]

@[simp] theorem State.deliverMgmtAs_only {K : List Piece} (hK : K ⊆ [.conf, .commits, .posted, .snap, .inputs, .wrstN, .mem,
    .lanes, .courses, .array, .tab, .sensors, .cal, .cgs, .boot, .role, .rpr, .upd, .pending]) (s : State) (sub c k : Nat)
    (h : Cell) : (s.deliverMgmtAs sub c k h).only K = s.only K := by
  refine State.only_mono hK ?_
  simp [State.deliverMgmtAs]

@[simp] theorem State.fenceDone_only {K : List Piece} (hK : .link ∉ K ∧ .reqs ∉ K ∧ .trx ∉ K ∧ .regul ∉ K ∧ .chans ∉ K ∧
    .slots ∉ K) (s : State) (tag : Nat) : (s.fenceDone tag).only K = s.only K := by
  unfold State.fenceDone
  split <;> simp [hK]

@[simp] theorem State.deliverCells_only {K : List Piece} (hK : K ⊆ [.inputs, .wrstN, .tab, .sensors, .pending]) (s : State)
    (c : Nat) (cells : List Cell) (masks : List (Nat × BitVec 64)) (k fuel : Nat) :
    (s.deliverCells c cells masks k fuel).only K = s.only K := by
  refine State.only_mono hK ?_
  induction fuel generalizing s masks k with
  | zero => rfl
  | succ fuel ih =>
    unfold State.deliverCells
    split
    · rfl
    · split_ifs
      all_goals simp [ih]

@[simp] theorem State.placed_only {K : List Piece} (hK : .regs ∉ K ∧ .trx ∉ K ∧ .pair ∉ K) (s : State) (m : UpMsg) :
    (s.placed m).only K = s.only K := by
  unfold State.placed
  dsimp only
  repeat' split
  all_goals simp [hK, TrxSt.only]

@[simp] theorem State.peerDown_only {K : List Piece} (hK : K ⊆ [.time, .inputs, .wrstN, .keyOps, .tab, .sensors, .pending])
    (s : State) (c accepted : Nat) : (s.peerDown c accepted).only K = s.only K := by
  refine State.only_mono hK ?_
  simp [State.peerDown, PinSt.only, LinkSt.only]

@[simp] theorem State.rxBad_only {K : List Piece} (hK : .courses ∉ K) (s : State) (c : Nat) : (s.rxBad c).only K = s.only K := by
  simp [State.rxBad, hK]

@[simp] theorem State.tagFails_only {K : List Piece} (hK : K ⊆ [.time, .commits, .posted, .snap, .inputs, .wrstN, .mem, .nvm,
    .keyOps, .array, .tab, .sensors, .sec, .boot, .role, .upd, .free, .pending]) (s : State) (c : Nat) :
    (s.tagFails c).only K = s.only K := by
  refine State.only_mono hK ?_
  simp [State.tagFails]

@[simp] theorem State.flitArrives_only {K : List Piece} (hK : K ⊆ [.time, .commits, .posted, .snap, .inputs, .wrstN, .mem,
    .nvm, .keyOps, .array, .tab, .sensors, .sec, .boot, .role, .upd, .free, .pending]) (s : State) (c : Nat)
    (corrected : List Nat) : (s.flitArrives c corrected).only K = s.only K := by
  refine State.only_mono hK ?_
  simp [State.flitArrives]

@[simp] theorem State.flitFails_only {K : List Piece} (hK : K ⊆ [.time, .commits, .posted, .snap, .inputs, .wrstN, .mem,
    .nvm, .keyOps, .array, .tab, .sensors, .sec, .boot, .role, .upd, .free, .pending]) (s : State) (c : Nat) (kind : FlitFail)
    (corrected : List Nat) : (s.flitFails c kind corrected).only K = s.only K := by
  refine State.only_mono hK ?_
  unfold State.flitFails
  repeat' split
  all_goals simp

@[simp] theorem State.freeFlits_only {K : List Piece} (hK : .courses ∉ K ∧ .link ∉ K) (s : State) (c ack : Nat) :
    (s.freeFlits c ack).only K = s.only K := by
  simp [State.freeFlits, hK, LinkSt.only]

@[simp] theorem State.replayEvent_only {K : List Piece} (hK : K ⊆ [.time, .commits, .posted, .snap, .inputs, .wrstN, .mem,
    .nvm, .keyOps, .array, .tab, .sensors, .sec, .boot, .role, .upd, .free, .pending]) (s : State) (c : Nat) :
    (s.replayEvent c).only K = s.only K := by
  refine State.only_mono hK ?_
  unfold State.replayEvent
  dsimp only
  repeat' split
  all_goals simp

@[simp] theorem State.takeAck_only {K : List Piece} (hK : K ⊆ [.time, .commits, .posted, .snap, .inputs, .wrstN, .mem, .nvm,
    .keyOps, .array, .tab, .sensors, .sec, .boot, .role, .upd, .free, .pending]) (s : State) (c : Nat) (hdr : BitVec 64) :
    (s.takeAck c hdr).only K = s.only K := by
  refine State.only_mono hK ?_
  unfold State.takeAck
  split <;> simp

@[simp] theorem State.takeSeq_only {K : List Piece} (hK : K ⊆ [.inputs, .wrstN, .tab, .sensors, .pending]) (s : State)
    (c : Nat) (hdr : BitVec 64) (cells : List Cell) : (s.takeSeq c hdr cells).only K = s.only K := by
  refine State.only_mono hK ?_
  unfold State.takeSeq
  repeat' split
  all_goals simp

@[simp] theorem State.flitRx_only {K : List Piece} (hK : K ⊆ [.inputs, .wrstN, .tab, .sensors, .pending]) (s : State) (c : Nat)
    (hdr : BitVec 64) (cells : List Cell) (corrected : List Nat) : (s.flitRx c hdr cells corrected).only K = s.only K := by
  refine State.only_mono hK ?_
  unfold State.flitRx
  dsimp only
  repeat' split
  all_goals simp

@[simp] theorem State.sendMarkers_only {K : List Piece} (hK : .lanes ∉ K ∧ .courses ∉ K) (s : State) (c j : Nat) :
    (s.sendMarkers c j).only K = s.only K := by
  simp [State.sendMarkers, hK]

@[simp] theorem State.sendSlot_only {K : List Piece} (hK : .lanes ∉ K ∧ .courses ∉ K) (s : State) (c : Nat) (flit : List Byte)
    (j : Nat) : (s.sendSlot c flit j).only K = s.only K := by
  simp [State.sendSlot, hK]

@[simp] theorem State.sendFlit_only {K : List Piece}
    (hK : .regs ∉ K ∧ .pins ∉ K ∧ .evt ∉ K ∧ .pinFlt ∉ K ∧ .lanes ∉ K ∧ .courses ∉ K ∧ .doms ∉ K ∧ .pwr ∉ K) (s : State) (c : Nat)
    (flit : List Byte) : (s.sendFlit c flit).only K = s.only K := by
  have hslots (l : List Nat) (t : State) : (forAll l (fun j t => t.sendSlot c flit j) t).only K = t.only K :=
    State.only_forAll (fun j t => by simp [hK]) _ _
  unfold State.sendFlit
  dsimp only
  split
  · rw [State.sparedEvent_only (by simp [hK]), State.setCourse_only (by simp [hK]), hslots, State.only_forAll]
    simp [hK]
  · rw [State.setCourse_only (by simp [hK]), hslots, State.only_forAll]
    simp [hK]

@[simp] theorem State.emit_only {K : List Piece} (hK : .regs ∉ K ∧ .pins ∉ K ∧ .evt ∉ K ∧ .pinFlt ∉ K ∧ .lanes ∉ K ∧
    .courses ∉ K ∧ .doms ∉ K ∧ .pwr ∉ K) (s : State) (c ftype seq crReq crWd crMgt : Nat) (cells : List Cell) :
    (s.emit c ftype seq crReq crWd crMgt cells).only K = s.only K := by
  simp [State.emit, hK]

@[simp] theorem State.newFlit_only {K : List Piece} (hK : K ⊆ [.time, .inputs, .wrstN, .keyOps, .tab, .sensors, .pending])
    (s : State) (c ftype : Nat) (msgs : List UpMsg) : (s.newFlit c ftype msgs).only K = s.only K := by
  refine State.only_mono hK ?_
  simp [State.newFlit, PinSt.only, LinkSt.only]

@[simp] theorem State.flitTx_only {K : List Piece} (hK : K ⊆ [.time, .inputs, .wrstN, .keyOps, .tab, .sensors, .pending])
    (s : State) (c : Nat) : (s.flitTx c).only K = s.only K := by
  refine State.only_mono hK ?_
  unfold State.flitTx
  dsimp only
  repeat' split
  all_goals simp [PinSt.only, LinkSt.only]

@[simp] theorem State.replayTimeout_only {K : List Piece} (hK : K ⊆ [.time, .commits, .posted, .snap, .inputs, .wrstN, .mem,
    .nvm, .keyOps, .array, .tab, .sensors, .sec, .boot, .role, .upd, .free, .pending]) (s : State) (c : Nat) :
    (s.replayTimeout c).only K = s.only K := by
  refine State.only_mono hK ?_
  simp [State.replayTimeout]

@[simp] theorem State.nakAgain_only {K : List Piece} (hK : .courses ∉ K) (s : State) (c : Nat) :
    (s.nakAgain c).only K = s.only K := by
  simp [State.nakAgain, hK]

@[simp] theorem State.crWaits_only {K : List Piece} (hK : .link ∉ K) (s : State) : s.crWaits.only K = s.only K := by
  simp [State.crWaits, hK, LinkSt.only]

@[simp] theorem State.setSpdm_only {K : List Piece} (hK : .sec ∉ K) (s : State) (t : Transport) (f : Spdm → Spdm) :
    (s.setSpdm t f).only K = s.only K := by
  unfold State.setSpdm
  split <;> simp [hK, SecSt.only]

@[simp] theorem State.spdmAnswer_only {K : List Piece} (hK : .link ∉ K ∧ .trx ∉ K ∧ .sec ∉ K ∧ .free ∉ K) (s : State)
    (t : Transport) (mtag code : Nat) (body : List Byte) : (s.spdmAnswer t mtag code body).only K = s.only K := by
  unfold State.spdmAnswer
  dsimp only
  repeat' split
  all_goals simp only [hK, State.sendUp_only, State.setSpdm_only, State.useFree_only,



    State.only_trx, TrxSt.only,
    not_false_eq_true, if_false]

@[simp] theorem State.spdmError_only {K : List Piece} (hK : .link ∉ K ∧ .trx ∉ K ∧ .sec ∉ K ∧ .free ∉ K) (s : State)
    (t : Transport) (mtag code : Nat) : (s.spdmError t mtag code).only K = s.only K := by
  simp [State.spdmError, hK]

@[simp] theorem State.spdmNonce_only {K : List Piece} (hK : .regs ∉ K ∧ .sec ∉ K ∧ .free ∉ K) (s : State) :
    (s.spdmNonce).2.only K = s.only K := by
  unfold State.spdmNonce
  split <;> simp [hK]

@[simp] theorem State.spdmDefer_only {K : List Piece} (hK : .link ∉ K ∧ .trx ∉ K ∧ .sec ∉ K ∧ .free ∉ K) (s : State)
    (t : Transport) (mtag code : Nat) (body : List Byte) : (s.spdmDefer t mtag code body).only K = s.only K := by
  simp [State.spdmDefer, hK]

@[simp] theorem State.spdmVersion_only {K : List Piece} (hK : .link ∉ K ∧ .trx ∉ K ∧ .sec ∉ K ∧ .free ∉ K) (s : State)
    (t : Transport) (mtag : Nat) : (s.spdmVersion t mtag).only K = s.only K := by
  simp [State.spdmVersion, hK]

@[simp] theorem State.spdmCapabilities_only {K : List Piece} (hK : .link ∉ K ∧ .trx ∉ K ∧ .sec ∉ K ∧ .free ∉ K) (s : State)
    (t : Transport) (mtag : Nat) : (s.spdmCapabilities t mtag).only K = s.only K := by
  simp [State.spdmCapabilities, hK]

@[simp] theorem State.spdmAlgorithms_only {K : List Piece} (hK : .link ∉ K ∧ .trx ∉ K ∧ .sec ∉ K ∧ .free ∉ K) (s : State)
    (t : Transport) (mtag : Nat) (supported : Bool) : (s.spdmAlgorithms t mtag supported).only K = s.only K := by
  simp [State.spdmAlgorithms, hK]

@[simp] theorem State.spdmNegotiated_only {K : List Piece} (hK : .link ∉ K ∧ .trx ∉ K ∧ .sec ∉ K ∧ .free ∉ K) (s : State)
    (t : Transport) (mtag : Nat) {f : State → State} (hf : ∀ u, (f u).only K = u.only K) :
    (s.spdmNegotiated t mtag f).only K = s.only K := by
  simp [State.spdmNegotiated, hK, hf]

@[simp] theorem State.spdmDigests_only {K : List Piece} (hK : .link ∉ K ∧ .trx ∉ K ∧ .sec ∉ K ∧ .free ∉ K) (s : State)
    (t : Transport) (mtag : Nat) : (s.spdmDigests t mtag).only K = s.only K := by
  simp [State.spdmDigests, hK]

@[simp] theorem State.spdmCertificate_only {K : List Piece} (hK : .link ∉ K ∧ .trx ∉ K ∧ .sec ∉ K ∧ .free ∉ K) (s : State)
    (t : Transport) (mtag slot offset len : Nat) : (s.spdmCertificate t mtag slot offset len).only K = s.only K := by
  simp [State.spdmCertificate, hK]

@[simp] theorem State.spdmChallenge_only {K : List Piece} (hK : .regs ∉ K ∧ .link ∉ K ∧ .trx ∉ K ∧ .sec ∉ K ∧ .free ∉ K)
    (s : State) (t : Transport) (mtag slot nonce : Nat) : (s.spdmChallenge t mtag slot nonce).only K = s.only K := by
  simp [State.spdmChallenge, hK]

@[simp] theorem State.spdmMeasurements_only {K : List Piece} (hK : .regs ∉ K ∧ .link ∉ K ∧ .trx ∉ K ∧ .sec ∉ K ∧ .free ∉ K)
    (s : State) (t : Transport) (mtag index : Nat) : (s.spdmMeasurements t mtag index).only K = s.only K := by
  simp [State.spdmMeasurements, hK]

@[simp] theorem State.spdmRespond_only {K : List Piece} (hK : .link ∉ K ∧ .trx ∉ K ∧ .sec ∉ K ∧ .free ∉ K) (s : State)
    (t : Transport) (mtag : Nat) : (s.spdmRespond t mtag).only K = s.only K := by
  unfold State.spdmRespond
  split <;> simp [hK]

@[simp] theorem State.spdmExchange_only {K : List Piece} (hK : .regs ∉ K ∧ .link ∉ K ∧ .trx ∉ K ∧ .sec ∉ K ∧ .free ∉ K)
    (s : State) (t : Transport) (mtag share : Nat) (mutAuth : Bool) :
    (s.spdmExchange t mtag share mutAuth).only K = s.only K := by
  simp [State.spdmExchange, hK]

@[simp] theorem State.spdmEncap_only {K : List Piece} (hK : .link ∉ K ∧ .trx ∉ K ∧ .sec ∉ K ∧ .free ∉ K) (s : State)
    (t : Transport) (mtag : Nat) : (s.spdmEncap t mtag).only K = s.only K := by
  unfold State.spdmEncap
  split <;> simp [hK]

@[simp] theorem State.spdmDeliver_only {K : List Piece} (hK : .link ∉ K ∧ .trx ∉ K ∧ .sec ∉ K ∧ .free ∉ K) (s : State)
    (t : Transport) (mtag : Nat) (chainOk : Bool) (root : List Byte) : (s.spdmDeliver t mtag chainOk root).only K = s.only K := by
  unfold State.spdmDeliver
  split <;> simp [hK]

@[simp] theorem State.spdmFinish_only {K : List Piece} (hK : K ⊆ [.time, .posted, .snap, .inputs, .wrstN, .reqs, .keyOps,
    .array, .tab, .sensors, .slots, .rpr, .pending]) (s : State) (t : Transport) (mtag : Nat) (verified : Bool) :
    (s.spdmFinish t mtag verified).only K = s.only K := by
  refine State.only_mono hK ?_
  unfold State.spdmFinish
  repeat' split
  all_goals simp

@[simp] theorem State.spdmUpdate_only {K : List Piece} (hK : .courses ∉ K ∧ .link ∉ K ∧ .trx ∉ K ∧ .sec ∉ K ∧ .free ∉ K)
    (s : State) (t : Transport) (mtag : Nat) (all : Bool) : (s.spdmUpdate t mtag all).only K = s.only K := by
  unfold State.spdmUpdate
  repeat' split
  all_goals simp [hK]

@[simp] theorem State.spdmEnd_only {K : List Piece} (hK : .link ∉ K ∧ .trx ∉ K ∧ .sec ∉ K ∧ .free ∉ K) (s : State)
    (t : Transport) (mtag : Nat) : (s.spdmEnd t mtag).only K = s.only K := by
  simp [State.spdmEnd, hK]

@[simp] theorem State.spdmArrives_only {K : List Piece} (hK : .regs ∉ K ∧ .link ∉ K ∧ .trx ∉ K) (s : State)
    (t : Transport) (mtag : Nat) {f : State → State} (hf : ∀ u, (f u).only K = u.only K) :
    (s.spdmArrives t mtag f).only K = s.only K := by
  unfold State.spdmArrives
  split <;> simp [hK, hf, TrxSt.only]

@[simp] theorem State.spdmRow_only {K : List Piece} (hK : .regs ∉ K ∧ .pins ∉ K ∧ .link ∉ K ∧ .trx ∉ K ∧ .sec ∉ K ∧ .doms ∉ K ∧
    .capo ∉ K ∧ .cgs ∉ K ∧ .pwr ∉ K) (s : State) (t : Transport) (mtag : Nat) (i : Instr)
    {f : State → State} (hf : ∀ u, (f u).only K = u.only K) : (s.spdmRow t mtag i f).only K = s.only K := by
  unfold State.spdmRow
  refine State.spdmArrives_only ⟨hK.1, hK.2.2.1, hK.2.2.2.1⟩ s t mtag fun u => ?_
  cases t <;> dsimp only <;> split_ifs <;> simp [hf, hK, TrxSt.only, SecSt.only]

@[simp] theorem State.spdmRun_only {K : List Piece} (hK : K ⊆ [.time, .posted, .snap, .inputs, .wrstN, .reqs, .keyOps,
    .array, .tab, .sensors, .slots, .rpr, .pending]) (s : State) (i : Instr) : (s.spdmRun i).only K = s.only K := by
  refine State.only_mono hK ?_
  unfold State.spdmRun
  split <;> simp

@[simp] theorem State.spdmFail_only {K : List Piece} (hK : .regs ∉ K ∧ .link ∉ K ∧ .trx ∉ K) (s : State) (l : List Instr) :
    (s.spdmFail l).only K = s.only K := by
  unfold State.spdmFail
  refine State.only_forAll (fun _ _ => ?_) _ _
  dsimp only
  repeat' split
  all_goals simp [hK, TrxSt.only]

@[simp] theorem State.spdmServe_only {K : List Piece} (hK : K ⊆ [.time, .posted, .snap, .inputs, .wrstN, .reqs, .keyOps,
    .array, .tab, .sensors, .slots, .rpr, .pending]) (s : State) : s.spdmServe.only K = s.only K := by
  refine State.only_mono hK ?_
  simp [State.spdmServe, LinkSt.only, SecSt.only]

@[simp] theorem State.luthierFails_only {K : List Piece} (hK : .regs ∉ K ∧ .link ∉ K ∧ .keyOps ∉ K ∧ .trx ∉ K ∧ .sec ∉ K)
    (s : State) : s.luthierFails.only K = s.only K := by
  simp [State.luthierFails, hK, LinkSt.only, SecSt.only]

@[simp] theorem State.jobDone_only {K : List Piece} (hK : K ⊆ [.time, .conf, .commits, .posted, .snap, .inputs, .wrstN,
    .lanes, .courses, .array, .tab, .capo, .sensors, .cal, .cgs, .role, .pair, .rpr, .pending]) (s : State) (j : NvmJob) :
    (s.jobDone j).only K = s.only K := by
  refine State.only_mono hK ?_
  unfold State.jobDone
  split <;> simp

@[simp] theorem State.setTorn_only {K : List Piece} (hK : .cal ∉ K) (s : State) (ch p : Nat) :
    (s.setTorn ch p).only K = s.only K := by
  simp [State.setTorn, hK]

@[simp] theorem State.jobFails_only {K : List Piece} (hK : K ⊆ [.time, .inputs, .wrstN, .tab, .sensors, .pending]) (s : State)
    (j : NvmJob) : (s.jobFails j).only K = s.only K := by
  refine State.only_mono hK ?_
  unfold State.jobFails
  split <;> simp

@[simp] theorem State.portNext_only {K : List Piece} (hK : .nvm ∉ K) (s : State) : s.portNext.only K = s.only K := by
  simp [State.portNext, hK, NvmSt.only]

@[simp] theorem State.setWords_only {K : List Piece} (hK : .nvm ∉ K) (s : State) (j : NvmJob) (l : List
    (Nat × BitVec 64)) : (s.setWords j l).only K = s.only K := by
  simp [State.setWords, hK, NvmSt.only]

@[simp] theorem State.wordFails_only {K : List Piece} (hK : K ⊆ [.time, .inputs, .wrstN, .tab, .sensors, .pending]) (s : State)
    (j : NvmJob) (addr : Nat) (err : Bool) : (s.wordFails j addr err).only K = s.only K := by
  refine State.only_mono hK ?_
  simp [State.wordFails, NvmSt.only]

@[simp] theorem State.wordLands_only {K : List Piece} (hK : K ⊆ [.time, .conf, .commits, .posted, .snap, .inputs, .wrstN,
    .lanes, .courses, .array, .tab, .capo, .sensors, .cal, .cgs, .role, .pair, .rpr, .pending]) (s : State) (j : NvmJob)
    (w : Nat × BitVec 64) (rest : List (Nat × BitVec 64)) : (s.wordLands j w rest).only K = s.only K := by
  refine State.only_mono hK ?_
  simp [State.wordLands]

@[simp] theorem State.nvmAcked_only {K : List Piece} (hK : K ⊆ [.time, .inputs, .wrstN, .tab, .sensors, .pending]) (s : State)
    (err : Bool) : (s.nvmAcked err).only K = s.only K := by
  refine State.only_mono hK ?_
  unfold State.nvmAcked
  repeat' split
  all_goals simp

@[simp] theorem State.nvmLate_only {K : List Piece} (hK : K ⊆ [.time, .inputs, .wrstN, .tab, .sensors, .pending])
    (s : State) : s.nvmLate.only K = s.only K := by
  refine State.only_mono hK ?_
  unfold State.nvmLate
  split <;> simp

@[simp] theorem State.nvmFalls_only {K : List Piece} (hK : K ⊆ [.time, .wrstN, .tab, .sensors, .pending]) (s : State) :
    s.nvmFalls.only K = s.only K := by
  refine State.only_mono hK ?_
  unfold State.nvmFalls
  dsimp only
  repeat' split
  all_goals simp only [State.jobFails_only, State.keyServe_only, State.nvmFail_only, State.useFree_only,
    State.wordLands_only, State.only_forAll,
    State.only_boot_flt_pins_trx,
    State.only_nvm,


    PinSt.only, NvmSt.only, FltSt.only, TrxSt.only,
    List.mem_cons, List.not_mem_nil, List.cons_subset, List.nil_subset, reduceCtorEq, or_false,
    or_true, not_false_eq_true, and_self, if_false, if_true, implies_true,
    or_self]

@[simp] theorem State.nvmRises_only {K : List Piece} (hK : K ⊆ [.time, .wrstN, .pending]) (s : State) (env : BootEnv) :
    (s.nvmRises env).only K = s.only K := by
  refine State.only_mono hK ?_
  unfold State.nvmRises
  dsimp only
  split_ifs
  · rfl
  · rw [State.bootRest_only (by simp)]
    simp [PinSt.only]
  · have hup : State.only { s with pins := { s.pins with nvmRdy := true } } [.time, .wrstN, .pending] =
        s.only [.time, .wrstN, .pending] := by simp [PinSt.only]
    refine (State.drainWrites_only (by simp) _).trans ((State.keyServe_only (by simp) _).trans ((State.portNext_only
        (by simp) _).trans
      ((State.only_nvm _ ?_).trans hup)))
    simp [NvmSt.only]

@[simp] theorem State.nvmNever_only {K : List Piece} (hK : .pins ∉ K ∧ .nvm ∉ K ∧ .pinFlt ∉ K ∧ .boot ∉ K) (s : State) :
    s.nvmNever.only K = s.only K := by
  simp [State.nvmNever, hK]

@[simp] theorem State.timeTick_only {K : List Piece} (hK : .time ∉ K) (s : State) : s.timeTick.only K = s.only K := by
  simp [State.timeTick, hK]

@[simp] theorem State.applySets_only {K : List Piece} (hK : .time ∉ K ∧ .regs ∉ K ∧ .pins ∉ K ∧ .evt ∉ K ∧ .pinFlt ∉ K ∧
    .doms ∉ K ∧ .pwr ∉ K) (s : State) : s.applySets.only K = s.only K := by
  simp [State.applySets, hK]

@[simp] theorem State.mismatched_only {K : List Piece} (hK : .regs ∉ K ∧ .pins ∉ K ∧ .evt ∉ K ∧ .pinFlt ∉ K ∧ .flt ∉ K ∧
    .doms ∉ K ∧ .pwr ∉ K) (s : State) (partner : Bool) (l scope : Nat) (diff : Int) (held sev : Nat) :
    (s.mismatched partner l scope diff held sev).only K = s.only K := by
  simp [State.mismatched, hK]

@[simp] theorem State.checkWhole_only {K : List Piece} (hK : K ⊆ [.time, .conf, .commits, .posted, .snap, .inputs, .wrstN,
    .mem, .nvm, .lanes, .courses, .keyOps, .array, .tab, .sensors, .sec, .cal, .cgs, .boot, .role, .rpr, .upd, .free,
    .pending]) (s : State) (l scope : Nat) (diff : Int) (held : Nat) : (s.checkWhole l scope diff held).only K = s.only K := by
  refine State.only_mono hK ?_
  simp [State.checkWhole]

@[simp] theorem State.checkChan_only {K : List Piece} (hK : .regs ∉ K ∧ .pins ∉ K ∧ .evt ∉ K ∧ .pinFlt ∉ K ∧ .flt ∉ K ∧
    .link ∉ K ∧ .reqs ∉ K ∧ .trx ∉ K ∧ .regul ∉ K ∧ .chans ∉ K ∧ .capo ∉ K ∧ .slots ∉ K ∧ .doms ∉ K ∧ .pwr ∉ K) (s : State)
    (l ch : Nat) (diff : Int) (held : Nat) : (s.checkChan l ch diff held).only K = s.only K := by
  simp [State.checkChan, hK]

@[simp] theorem State.checkSlots_only {K : List Piece} (hK : K ⊆ [.time, .conf, .commits, .posted, .snap, .inputs, .wrstN,
    .mem, .nvm, .lanes, .courses, .keyOps, .array, .tab, .sensors, .sec, .cal, .cgs, .boot, .role, .rpr, .upd, .free,
    .pending]) (s : State) : s.checkSlots.only K = s.only K := by
  refine State.only_mono hK ?_
  unfold State.checkSlots
  dsimp only
  split <;> simp

@[simp] theorem State.checkTokens_only {K : List Piece} (hK : .regs ∉ K ∧ .pins ∉ K ∧ .evt ∉ K ∧ .pinFlt ∉ K ∧ .flt ∉ K ∧
    .link ∉ K ∧ .reqs ∉ K ∧ .trx ∉ K ∧ .regul ∉ K ∧ .chans ∉ K ∧ .capo ∉ K ∧ .slots ∉ K ∧ .doms ∉ K ∧ .pwr ∉ K) (s : State)
    (g : Nat) : (s.checkTokens g).only K = s.only K := by
  simp [State.checkTokens, hK]

@[simp] theorem State.overridesEnd_only {K : List Piece}
    (hK : .regs ∉ K ∧ .pins ∉ K ∧ .evt ∉ K ∧ .pinFlt ∉ K ∧ .flt ∉ K ∧ .regul ∉ K ∧ .capo ∉ K ∧ .doms ∉ K ∧ .pwr ∉ K) (s : State) :
    s.overridesEnd.only K = s.only K := by
  have hdie (g : Nat) (t : State) : (((t.syncRefBal g).setPurse g (fun p => { p with
      issued := p.purse + p.refBal + p.muteBal, consumed := 0, returned := 0 })).event 0x02 0x0204 0 [(0, 1, 5), (1, 1, g)]).only K
      = t.only K := by simp [hK]
  simp [State.overridesEnd, hK, hdie, FltSt.only]

@[simp] theorem State.checkLedgers_only {K : List Piece} (hK : K ⊆ [.time, .conf, .commits, .posted, .snap, .inputs, .wrstN,
    .mem, .nvm, .lanes, .courses, .keyOps, .array, .tab, .sensors, .sec, .cal, .cgs, .boot, .role, .rpr, .upd, .free,
    .pending]) (s : State) : s.checkLedgers.only K = s.only K := by
  refine State.only_mono hK ?_
  simp [State.checkLedgers]

@[simp] theorem State.progTick_only {K : List Piece} (hK : .trx ∉ K) (s : State) : s.progTick.only K = s.only K := by
  simp [State.progTick, hK, TrxSt.only]

@[simp] theorem State.noteStall_only {K : List Piece} (hK : .regs ∉ K) (s : State) (point : Nat) :
    (s.noteStall point).only K = s.only K := by
  simp [State.noteStall, hK]

@[simp] theorem State.progStalls_only {K : List Piece} (hK : K ⊆ [.time, .conf, .commits, .posted, .snap, .inputs, .wrstN,
    .mem, .nvm, .lanes, .courses, .keyOps, .array, .tab, .sensors, .sec, .cal, .cgs, .boot, .role, .rpr, .upd, .free,
    .pending]) (s : State) (point : Nat) : (s.progStalls point).only K = s.only K := by
  refine State.only_mono hK ?_
  simp [State.progStalls]

@[simp] theorem State.droneTick_only {K : List Piece} (hK : K ⊆ [.inputs, .wrstN, .tab, .sensors, .pending]) (s : State) :
    s.droneTick.only K = s.only K := by
  refine State.only_mono hK ?_
  simp [State.droneTick, RegSt.only]

@[simp] theorem State.dronesFail_only {K : List Piece} (hK : K ⊆ [.time, .conf, .commits, .posted, .snap, .inputs, .wrstN,
    .mem, .nvm, .lanes, .courses, .keyOps, .array, .tab, .sensors, .sec, .cal, .cgs, .boot, .role, .rpr, .upd, .free,
    .pending]) (s : State) : s.dronesFail.only K = s.only K := by
  refine State.only_mono hK ?_
  simp [State.dronesFail]

@[simp] theorem State.primaryFails_only {K : List Piece} (hK : K ⊆ [.time, .conf, .commits, .posted, .snap, .inputs, .wrstN,
    .mem, .nvm, .lanes, .courses, .keyOps, .array, .tab, .sensors, .sec, .cal, .cgs, .boot, .role, .rpr, .upd, .free,
    .pending]) (s : State) : s.primaryFails.only K = s.only K := by
  refine State.only_mono hK ?_
  simp [State.primaryFails, PwrSt.only]

@[simp] theorem State.checkerFails_only {K : List Piece} (hK : K ⊆ [.time, .conf, .commits, .posted, .snap, .inputs, .wrstN,
    .mem, .nvm, .lanes, .courses, .keyOps, .array, .tab, .sensors, .sec, .cal, .cgs, .boot, .role, .rpr, .upd, .free,
    .pending]) (s : State) : s.checkerFails.only K = s.only K := by
  refine State.only_mono hK ?_
  simp [State.checkerFails, PwrSt.only]

@[simp] theorem State.powerRises_only {K : List Piece} (hK : K ⊆ [.time, .posted, .snap, .mem, .lanes, .courses, .keyOps,
    .pending]) (s : State) (env : BootEnv) : (s.powerRises env).only K = s.only K := by
  refine State.only_mono hK ?_
  simp [State.powerRises, PinSt.only, FltSt.only, TrxSt.only]

@[simp] theorem State.restartCold_only {K : List Piece} (hK : K ⊆ [.time, .wrstN, .mem, .free, .pending]) (s : State) :
    s.restartCold.only K = s.only K := by
  refine State.only_mono hK ?_
  simp [State.restartCold, State.only, State.cold, State.coldNvm, State.coldPins, RegSt.only, PinSt.only, NvmSt.only, FltSt.only,
    PwrSt.only, LinkSt.only, TrxSt.only, SecSt.only, PairSt.only]

@[simp] theorem State.restartGoes_only {K : List Piece} (hK : K ⊆ [.time, .wrstN, .mem, .pending]) (s : State) (env : BootEnv) :
    (s.restartGoes env).only K = s.only K := by
  refine State.only_mono hK ?_
  unfold State.restartGoes
  split
  · rfl
  · split_ifs
    · rw [State.startUp_only (by simp), State.restartCold_only (by simp)]
    · rfl

@[simp] theorem State.noteCorrection_only {K : List Piece} (hK : .conf ∉ K ∧ .regs ∉ K ∧ .pins ∉ K ∧ .chans ∉ K ∧ .capo ∉ K ∧
    .cal ∉ K ∧ .doms ∉ K ∧ .cgs ∉ K ∧ .pwr ∉ K ∧ .rpr ∉ K) (s : State) (ch bit : Nat) :
    (s.noteCorrection ch bit).only K = s.only K := by
  simp [State.noteCorrection, hK]

@[simp] theorem State.scrubLook_only {K : List Piece} (hK : .conf ∉ K ∧ .regs ∉ K ∧ .pins ∉ K ∧ .evt ∉ K ∧ .pinFlt ∉ K ∧
    .chans ∉ K ∧ .capo ∉ K ∧ .cal ∉ K ∧ .doms ∉ K ∧ .cgs ∉ K ∧ .pwr ∉ K ∧ .rpr ∉ K ∧ .free ∉ K) (s : State) (ch : Nat)
    (e : Nat × Nat × Nat × Got) : (s.scrubLook ch e).only K = s.only K := by
  unfold State.scrubLook
  dsimp only
  split <;> simp [hK]

@[simp] theorem State.scrubChecked_only {K : List Piece} (hK : .conf ∉ K ∧ .regs ∉ K ∧ .pins ∉ K ∧ .evt ∉ K ∧ .pinFlt ∉ K ∧
    .chans ∉ K ∧ .capo ∉ K ∧ .cal ∉ K ∧ .doms ∉ K ∧ .cgs ∉ K ∧ .pwr ∉ K ∧ .rpr ∉ K ∧ .free ∉ K) (s : State) (ch : Nat) :
    (s.scrubChecked ch).only K = s.only K := by
  simp [State.scrubChecked, hK]

@[simp] theorem State.afterRows_only {K : List Piece} (hK : K ⊆ [.time, .posted, .snap, .inputs, .wrstN, .mem, .nvm, .keyOps,
    .array, .tab, .sensors, .boot, .upd, .pending]) (s : State) (ch : Nat) : (s.afterRows ch).only K = s.only K := by
  refine State.only_mono hK ?_
  simp [State.afterRows]

@[simp] theorem State.entropyFails_only {K : List Piece} (hK : .regs ∉ K ∧ .pins ∉ K ∧ .evt ∉ K ∧ .pinFlt ∉ K ∧ .sec ∉ K ∧
    .doms ∉ K ∧ .pwr ∉ K) (s : State) (test : Nat) : (s.entropyFails test).only K = s.only K := by
  simp [State.entropyFails, hK, SecSt.only]

@[simp] theorem State.flitBytesRx_only {K : List Piece} (hK : K ⊆ [.inputs, .wrstN, .tab, .sensors, .pending]) (s : State)
    (c : Nat) (flit : Option (List Byte)) : (s.flitBytesRx c flit).only K = s.only K := by
  refine State.only_mono hK ?_
  unfold State.flitBytesRx
  dsimp only
  repeat' split
  all_goals simp

@[simp] theorem State.keepBlock_only {K : List Piece} (hK : .courses ∉ K) (s : State) (c l : Nat) (x : Lane) (p : BitVec 64) :
    (s.keepBlock c l x p).only K = s.only K := by
  unfold State.keepBlock
  split <;> simp [hK]

@[simp] theorem State.flitDone_only {K : List Piece} (hK : K ⊆ [.inputs, .wrstN, .tab, .sensors, .pending]) (s : State)
    (c f : Nat) : (s.flitDone c f).only K = s.only K := by
  refine State.only_mono hK ?_
  unfold State.flitDone
  split <;> simp

@[simp] theorem State.passBlock_only {K : List Piece} (hK : K ⊆ [.inputs, .wrstN, .tab, .sensors, .pending]) (s : State)
    (c l : Nat) (x : Lane) : (s.passBlock c l x).only K = s.only K := by
  refine State.only_mono hK ?_
  simp [State.passBlock]

@[simp] theorem State.takeHeader_only {K : List Piece} (hK : K ⊆ [.time, .posted, .snap, .inputs, .wrstN, .keyOps, .array,
    .tab, .sensors, .pending]) (s : State) (c l : Nat) (r : Lane × Bool) : (s.takeHeader c l r).only K = s.only K := by
  refine State.only_mono hK ?_
  simp [State.takeHeader]

@[simp] theorem State.checkSkew_only {K : List Piece} (hK : K ⊆ [.time, .posted, .snap, .inputs, .wrstN, .keyOps, .array,
    .tab, .sensors, .pending]) (s : State) (c l : Nat) : (s.checkSkew c l).only K = s.only K := by
  refine State.only_mono hK ?_
  simp [State.checkSkew]

@[simp] theorem State.markerRx_only {K : List Piece} (hK : K ⊆ [.inputs, .wrstN, .tab, .sensors, .pending]) (s : State)
    (c l : Nat) (p : BitVec 64) (at0 : Nat) : (s.markerRx c l p at0).only K = s.only K := by
  refine State.only_mono hK ?_
  unfold State.markerRx
  dsimp only
  repeat' split
  all_goals simp

@[simp] theorem State.controlRx_only {K : List Piece} (hK : K ⊆ [.inputs, .wrstN, .tab, .sensors, .pending]) (s : State)
    (c l : Nat) (p : BitVec 64) : (s.controlRx c l p).only K = s.only K := by
  refine State.only_mono hK ?_
  simp [State.controlRx]

@[simp] theorem State.laneMapRx_only {K : List Piece} (hK : K ⊆ [.inputs, .wrstN, .tab, .sensors, .pending]) (s : State)
    (c l : Nat) (p : BitVec 64) : (s.laneMapRx c l p).only K = s.only K := by
  refine State.only_mono hK ?_
  simp [State.laneMapRx]

@[simp] theorem State.laneSwitchRx_only {K : List Piece} (hK : K ⊆ [.inputs, .wrstN, .tab, .sensors, .pending]) (s : State)
    (c l : Nat) (p : BitVec 64) : (s.laneSwitchRx c l p).only K = s.only K := by
  refine State.only_mono hK ?_
  simp [State.laneSwitchRx]

@[simp] theorem State.dataRx_only {K : List Piece} (hK : K ⊆ [.inputs, .wrstN, .tab, .sensors, .pending]) (s : State)
    (c l : Nat) (p : BitVec 64) : (s.dataRx c l p).only K = s.only K := by
  refine State.only_mono hK ?_
  simp [State.dataRx]

@[simp] theorem State.blockRx_only {K : List Piece} (hK : K ⊆ [.inputs, .wrstN, .tab, .sensors, .pending]) (s : State)
    (c l : Nat) (hdr : BitVec 2) (p : BitVec 64) : (s.blockRx c l hdr p).only K = s.only K := by
  refine State.only_mono hK ?_
  unfold State.blockRx
  have hloop := fun K hK => State.loopBlock_only (K := K) hK s c l hdr p
  split
  next t heq =>
    rw [heq] at hloop
    exact hloop _ (by simp)
  next t heq =>
    dsimp only
    split_ifs <;> simp

@[simp] theorem State.afterDom_only {K : List Piece} (hK : K ⊆ [.time, .inputs, .wrstN, .tab, .sensors, .pending]) (s : State)
    (d : Nat) : (s.afterDom d).only K = s.only K := by
  refine State.only_mono hK ?_
  simp [State.afterDom]

@[simp] theorem State.withFetchWord_only {K : List Piece} (hK : .pending ∉ K) (s : State) (nbits w : Nat) :
    (s.withFetchWord nbits w).only K = s.only K := by
  unfold State.withFetchWord
  split <;> simp [hK]

end Sys2Proof.Machine
end

section
/-! PROOFS. Lanes: what a change of a lane,
    of a course or of a counter leaves as it was; the word-valid of a lane and its block lock. -/

namespace Sys2Proof.Machine

/-! ### Changes of a lane, of a course and of a counter -/

theorem State.setLane_lane (s : State) (c l d k : Nat) (f : Lane → Lane) :
    (s.setLane c l f).lane d k = if 17 * c + l = 17 * d + k then f (s.lane c l) else s.lane d k := Tbl.get_upd ..

@[simp] theorem State.setLane_lane_self (s : State) (c l : Nat) (f : Lane → Lane) : (s.setLane c l f).lane c l = f (s.lane c l) :=
  Tbl.get_upd_self ..

theorem State.setLane_lane_of_ne (s : State) (c : Nat) {l k : Nat} (f : Lane → Lane) (h : k ≠ l) :
    (s.setLane c l f).lane c k = s.lane c k := Tbl.get_upd_ne _ _ (by omega)

theorem State.setLane_lanes_of_ne (s : State) (c l : Nat) {i : Nat} (f : Lane → Lane) (h : i ≠ 17 * c + l) :
    (s.setLane c l f).link.lanes.get i = s.link.lanes.get i := Tbl.get_upd_ne _ _ h

@[simp] theorem State.setLane_course (s : State) (c l d : Nat) (f : Lane → Lane) : (s.setLane c l f).course d = s.course d := rfl

@[simp] theorem State.setLane_courses (s : State) (c l : Nat) (f : Lane → Lane) :
    (s.setLane c l f).link.courses = s.link.courses := rfl

theorem State.changesOnly.setLane {s t : State} {m : List Part} (h : s.changesOnly t m) (c l : Nat) (f : Lane → Lane)
    (hm : Part.link ∈ m := by decide) : s.changesOnly (t.setLane c l f) m := changesOnly_link h hm _

@[simp] theorem State.setCourse_course_self (s : State) (c : Nat) (f : Course → Course) :
    (s.setCourse c f).course c = f (s.course c) := Tbl.get_upd_self ..

theorem State.setCourse_course_of_ne (s : State) {c d : Nat} (f : Course → Course) (h : d ≠ c) :
    (s.setCourse c f).course d = s.course d := Tbl.get_upd_ne _ _ h

@[simp] theorem State.setCourse_lane (s : State) (c d l : Nat) (f : Course → Course) : (s.setCourse c f).lane d l = s.lane d l :=
    rfl

theorem State.changesOnly.setCourse {s t : State} {m : List Part} (h : s.changesOnly t m) (c : Nat) (f : Course → Course)
    (hm : Part.link ∈ m := by decide) : s.changesOnly (t.setCourse c f) m := changesOnly_link h hm _

@[simp] theorem State.countBy_lane (s : State) (off k c l : Nat) : (s.countBy off k).lane c l = s.lane c l := rfl

@[simp] theorem State.countBy_course (s : State) (off k c : Nat) : (s.countBy off k).course c = s.course c := rfl

@[simp] theorem State.countBy_doneEpoch (s : State) (off k : Nat) : (s.countBy off k).regs.doneEpoch = s.regs.doneEpoch := by
  unfold State.countBy
  cases s.regs.snapBusy <;> rfl

theorem State.countBy_counter_self {s : State} (h : s.regs.snapBusy = false) (off k : Nat) :
    (s.countBy off k).counter off = s.counter off + BitVec.ofNat 64 k := by
  simp [State.countBy, State.counter, h]

theorem State.changesOnly.countBy {s t : State} {m : List Part} (h : s.changesOnly t m) (off k : Nat)
    (hm : Part.regs ∈ m := by decide) : s.changesOnly (t.countBy off k) m := changesOnly_regs h hm _

@[simp] theorem State.count_lane (s : State) (off c l : Nat) : (s.count off).lane c l = s.lane c l := rfl

@[simp] theorem State.count_course (s : State) (off c : Nat) : (s.count off).course c = s.course c := rfl

@[simp] theorem State.count_link (s : State) (off : Nat) : (s.count off).link = s.link := rfl

@[simp] theorem State.count_doneEpoch (s : State) (off : Nat) : (s.count off).regs.doneEpoch = s.regs.doneEpoch :=
  s.countBy_doneEpoch off 1

theorem State.count_counter_self {s : State} (h : s.regs.snapBusy = false) (off : Nat) :
    (s.count off).counter off = s.counter off + 1#64 := State.countBy_counter_self h off 1

theorem State.changesOnly.count {s t : State} {m : List Part} (h : s.changesOnly t m) (off : Nat)
    (hm : Part.regs ∈ m := by decide) : s.changesOnly (t.count off) m := h.countBy off 1 hm

/-- A command of `act` whose effect is known as a state with a frame. -/
theorem exec_of_effect {c : Instr} {s t u : State} {l : List Part} (h : exec c s = act c.wellFormed s u) (hwf : c.wellFormed = true)
    (hrun : s.running = true) (hu : u = t) (hframe : s.changesOnly t l) (hepoch : t.regs.doneEpoch = s.regs.doneEpoch)
    (hl : ((.chans ∉ l ∧ .rpr ∉ l ∧ .cal ∉ l) ∧ .sec ∉ l ∧ .trx ∉ l) ∧ .pins ∉ l ∧ .pending ∉ l := by decide) :
    exec c s = .next t := by
  subst hu
  exact exec_of_frame h hwf hrun hframe hepoch hl

/-- The same with its frame, for a statement that claims both. -/
theorem exec_and_frame {c : Instr} {s t u : State} {l : List Part} (h : exec c s = act c.wellFormed s u)
    (hwf : c.wellFormed = true) (hrun : s.running = true) (hu : u = t) (hframe : s.changesOnly t l)
    (hepoch : t.regs.doneEpoch = s.regs.doneEpoch)
    (hl : ((.chans ∉ l ∧ .rpr ∉ l ∧ .cal ∉ l) ∧ .sec ∉ l ∧ .trx ∉ l) ∧ .pins ∉ l ∧ .pending ∉ l := by decide) :
    exec c s = .next t ∧ s.changesOnly t l := ⟨exec_of_effect h hwf hrun hu hframe hepoch hl, hframe⟩

theorem exec_of_unchanged {c : Instr} {s t : State} (h : exec c s = act c.wellFormed s t) (hwf : c.wellFormed = true)
    (hrun : s.running = true) (ht : t = s) : exec c s = .next s := by
  exact exec_of_effect (l := []) h hwf hrun ht (.refl s _) rfl

/-! ### The word-valid of a lane -/

theorem State.rxvRises_of_low {s : State} {c l : Nat} (hlow : (s.lane c l).rxv = false) :
    s.rxvRises c l = (s.setLane c l (fun x => { x.hunt with rxv := true, st := if x.st = .failed then .failed else .hunt })).count
      (crsAt c 0x140) := by
  simp [State.rxvRises, hlow]

theorem exec_lnRxvRise {s : State} {c l : Nat} (hrun : s.running = true) (hc : c < 12) (hl : l < 17) (hlow :
    (s.lane c l).rxv = false) :
    exec (.lnRxvRise c l) s = .next ((s.setLane c l (fun x =>
      { x.hunt with rxv := true, st := if x.st = .failed then .failed else .hunt })).count (crsAt c 0x140)) := by
  exact exec_of_effect (l := [.link, .regs]) rfl (by simp [Instr.wellFormed, Instr.units, Instr.partsOk, hc, hl]) hrun
    (State.rxvRises_of_low hlow) (((State.changesOnly.refl s _).setLane _ _ _).count _) (State.count_doneEpoch ..)

/-- What comes on a lane is not heard while its word-valid is low. -/
theorem State.hears_of_low {s : State} {c l : Nat} (hlow : (s.lane c l).rxv = false) : s.hears c l = false := by
  simp [State.hears, hlow]

theorem State.loopBlock_of_low {s : State} {c l : Nat} (hlow : (s.lane c l).rxv = false)
    (hloop : s.rpr.loop = none ∨ s.rpr.loop.map (fun x => x.mode) = some 3) (hdr : BitVec 2) (p : BitVec 64) :
    (s.loopBlock c l hdr p).2 = s := by
  have hlow' : (s.link.lanes.get (17 * c + l)).rxv = false := hlow
  unfold State.loopBlock
  cases hx : s.rpr.loop with
  | none => rfl
  | some x =>
    have hmode : x.mode = 3 := by simpa [hx] using hloop
    simp only [hmode, hlow']
    split <;> simp

theorem State.blockRx_of_low {s : State} {c l : Nat} (hlow : (s.lane c l).rxv = false)
    (hloop : s.rpr.loop = none ∨ s.rpr.loop.map (fun x => x.mode) = some 3) (hdr : BitVec 2) (p : BitVec 64) :
    s.blockRx c l hdr p = s := by
  have hsame := State.loopBlock_of_low hlow hloop hdr p
  unfold State.blockRx
  split
  · simpa [*] using hsame
  · simp [State.hears_of_low hlow]

/-- Settles O59: a lane without a word-valid is not heard, and the rise of its word-valid makes it hunt. -/
theorem laneDataNeedsItsWordValid : Obligations.LaneDataNeedsItsWordValid := by
  intro s c l at0 hdr p hrun hc hl hlow
  refine ⟨fun hloop => ?_, ?_, _, exec_lnRxvRise hrun hc hl hlow, ?_⟩
  · exact exec_of_unchanged rfl (by simp [Instr.wellFormed, Instr.units, Instr.partsOk, hc, hl]) hrun
      (State.blockRx_of_low hlow hloop hdr p)
  · exact exec_of_unchanged rfl (by simp [Instr.wellFormed, Instr.units, Instr.partsOk, hc, hl]) hrun
      (by simp [opMarker, State.markerRx, State.hears_of_low hlow])
  · refine ⟨by simp, by simp, by simp [Lane.hunt], by simp [Lane.hunt], fun hsnap => ?_, ?_⟩
    · exact State.count_counter_self hsnap _
    · exact ((State.changesOnly.refl s _).setLane _ _ _).count _

end Sys2Proof.Machine
end

section
/-! PROOFS. Block lock: a lane that hunts, and a lane that leaves its state. -/

namespace Sys2Proof.Machine

/-! ### A lane leaves its state -/

theorem State.rxvFalls_of_high {s : State} {c l : Nat} (h : (s.lane c l).rxv = true) :
    s.rxvFalls c l =
      (s.setLane c l (fun x => { x with rxv := false })).laneLeaves c l (fun x => { x.hunt with rxv := false }) := by
  simp [State.rxvFalls, h]

theorem State.laneLeaves_of_hunt {s : State} {c l : Nat} (h : (s.lane c l).st = .hunt) (f : Lane → Lane) :
    s.laneLeaves c l f = s.setLane c l f := by simp only [State.laneLeaves, h]

theorem State.laneLeaves_of_locked {s : State} {c l : Nat} (h : (s.lane c l).st = .locked) (f : Lane → Lane) :
    s.laneLeaves c l f = (s.setLane c l f).count (crsAt c 0x140) := by simp only [State.laneLeaves, h]

/-- Whether another lane left lately is told by the other lanes alone. -/
theorem State.leftLately_congr {s t : State} {c l : Nat} (hnow : t.now = s.now) (h : ∀ p, p ≠ l → t.lane c p = s.lane c p) :
    t.leftLately c l = s.leftLately c l := by
  refine List.any_congr rfl fun p => ?_
  by_cases hp : p = l
  · simp [hp]
  · rw [h p hp, hnow]

/-- A lane after it has left ALIGNED, with its loss of lock counted. -/
def State.laneLeft (s : State) (c l : Nat) (f : Lane → Lane) : State :=
  ((s.setLane c l f).setLane c l (fun y => { y with leftAt := some s.now })).count (crsAt c 0x140)

theorem State.laneLeft_lane_self (s : State) (c l : Nat) (f : Lane → Lane) :
    (s.laneLeft c l f).lane c l = { f (s.lane c l) with leftAt := some s.now } := by simp [State.laneLeft]

theorem State.laneLeft_lane_of_ne (s : State) (c : Nat) {l p : Nat} (f : Lane → Lane) (h : p ≠ l) :
    (s.laneLeft c l f).lane c p = s.lane c p := by
  simp [State.laneLeft, State.setLane_lane_of_ne, h]

@[simp] theorem State.laneLeft_course (s : State) (c l : Nat) (f : Lane → Lane) (d : Nat) :
    (s.laneLeft c l f).course d = s.course d := rfl

theorem State.laneLeaves_of_aligned {s : State} {c l : Nat} (h : (s.lane c l).st = .aligned) (hlate : s.leftLately c l = false)
    (f : Lane → Lane) :
    s.laneLeaves c l f = ((s.laneLeft c l f).settleCourse c).spareLane c (s.lane c l).logLane 34 := by
  have hlate' : (s.laneLeft c l f).leftLately c l = false :=
    hlate ▸ State.leftLately_congr rfl fun p hp => s.laneLeft_lane_of_ne c f hp
  simp only [State.laneLeaves, h]
  rw [show ((s.setLane c l f).setLane c l (fun y => { y with leftAt := some s.now })).count
      (crsAt c 0x140) = s.laneLeft c l f from rfl,
    hlate']
  rfl

/-- A course without an ALIGNED lane has no logical lane. -/
theorem State.lanesReady_of_noneAligned {s : State} {c : Nat} (h : ∀ p, p < 17 → (s.lane c p).st ≠ .aligned) :
    s.lanesReady c = false := by
  have hnone : s.laneOf c 0 = none := by
    unfold State.laneOf
    rw [List.filter_eq_nil_iff.2]
    intro p hp
    simp [h p (List.mem_range.1 hp)]
  exact List.all_eq_false.2 ⟨0, by simp, by simp [hnone]⟩

theorem State.settleCourse_of_notReady {s : State} {c : Nat} (h : s.lanesReady c = false) (hup : (s.course c).up = false) :
    s.settleCourse c = s := by simp [State.settleCourse, h, hup]

theorem State.spareLane_of_down {s : State} {c : Nat} (k wait : Nat) (htx : (s.course c).tx = .down)
    (hun : (s.course c).unfenceAt = none) : s.spareLane c k wait = s := by
  simp [State.spareLane, State.spareVerdict, htx, hun]

/-- The last ALIGNED lane of a course that is down loses its word-valid. -/
theorem State.rxvFalls_of_lastAligned {s : State} {c l : Nat} (hhigh : (s.lane c l).rxv = true) (hst : (s.lane c l).st = .aligned)
    (htx : (s.course c).tx = .down) (hup : (s.course c).up = false) (hnone : ∀ p, p < 17 → p ≠ l → (s.lane c p).st ≠ .aligned)
    (hlate : s.leftLately c l = false) (hun : (s.course c).unfenceAt = none) :
    s.rxvFalls c l =
      (s.setLane c l (fun x => { x with rxv := false })).laneLeft c l (fun x => { x.hunt with rxv := false }) := by
  have hnot : ((s.setLane c l (fun x => { x with rxv := false })).laneLeft c l
      (fun x => { x.hunt with rxv := false })).lanesReady c = false := by
    refine State.lanesReady_of_noneAligned fun p hp => ?_
    by_cases hpl : p = l
    · subst hpl
      simp [State.laneLeft_lane_self, Lane.hunt]
    · rw [State.laneLeft_lane_of_ne _ _ _ hpl, State.setLane_lane_of_ne _ _ _ hpl]
      exact hnone p hp hpl
  have hlate' : (s.setLane c l (fun x => { x with rxv := false })).leftLately c l = false :=
    hlate ▸ State.leftLately_congr rfl fun p hp => State.setLane_lane_of_ne s c _ hp
  rw [State.rxvFalls_of_high hhigh, State.laneLeaves_of_aligned (by simpa using hst) hlate',
      State.settleCourse_of_notReady hnot hup]
  exact State.spareLane_of_down _ _ htx hun

/-! ### Headers of a lane that hunts -/

theorem Lane.header_snd_of_hunt {x : Lane} (h : x.st = .hunt) (valid isMark : Bool) : (x.header valid isMark).2 = false := by
  unfold Lane.header
  rw [h]
  dsimp only
  split_ifs <;> rfl

theorem State.passBlock_of_not_aligned {s : State} {c l : Nat} {x : Lane} (h : x.st ≠ .aligned) : s.passBlock c l x = s := by
  simp [State.passBlock, h]

theorem State.keepBlock_of_not_aligned {s : State} {c l : Nat} {x : Lane} (h : x.st ≠ .aligned) (p : BitVec 64) :
    s.keepBlock c l x p = s := by
  unfold State.keepBlock
  split <;> simp [h]

theorem State.takeHeader_of_stays {s : State} {c l : Nat} {r : Lane × Bool} (h : r.2 = false) :
    s.takeHeader c l r = s.setLane c l (fun _ => r.1) := by simp [State.takeHeader, h]

/-- A state after a lane's stream has moved on by 66 bits and its descrambler over a block. -/
def State.streamOn (s : State) (c l : Nat) (bits : BitVec 66) (descr : BitVec 58) : State :=
  (s.setLane c l (fun x => { x with prev := bits, older := x.prev })).setLane c l (fun x => { x with descr := descr })

theorem State.streamOn_lane (s : State) (c l : Nat) (bits : BitVec 66) (descr : BitVec 58) :
    (s.streamOn c l bits descr).lane c l =
      { s.lane c l with prev := bits, older := (s.lane c l).prev, descr := descr } := by simp [State.streamOn]

/-- A block that is no control block moves a hunting lane by its header alone. -/
theorem State.blockRx_of_hunt {s : State} {c l : Nat} {hdr : BitVec 2} {p : BitVec 64} (hloop : s.rpr.loop = none)
    (hhears : s.hears c l = true) (hhunt : (s.lane c l).st = .hunt)
    (hb : (blockAt (s.lane c l).prev (blockBits hdr p) (s.lane c l).cand).1 ≠ 0b10#2) :
    ∃ d, s.blockRx c l hdr p = (s.streamOn c l (blockBits hdr p) d).setLane c l (fun _ =>
      (((s.streamOn c l (blockBits hdr p) d).lane c l).header
        ((blockAt (s.lane c l).prev (blockBits hdr p) (s.lane c l).cand).1 == 0b01#2) false).1) := by
  refine ⟨(descramble (s.lane c l).register (blockAt (s.lane c l).prev (blockBits hdr p) (s.lane c l).cand).2).1, ?_⟩
  generalize hd : (descramble (s.lane c l).register (blockAt (s.lane c l).prev (blockBits hdr p) (s.lane c l).cand).2).1 = d
  have hst : ((s.streamOn c l (blockBits hdr p) d).lane c l).st = .hunt := by rw [State.streamOn_lane]; exact hhunt
  have hna : ((s.streamOn c l (blockBits hdr p) d).lane c l).st ≠ .aligned := by simp [hst]
  have hdue : (s.lane c l).markerDue = false := by simp [Lane.markerDue, hhunt]
  have hfree : s.loopBlock c l hdr p = (false, s) := by simp only [State.loopBlock, hloop]
  unfold State.blockRx
  rw [hfree]
  simp only [hhears, hb, hd, hdue, false_and, if_false, Bool.not_true, Bool.false_eq_true]
  rw [show (s.setLane c l (fun x => { x with prev := blockBits hdr p, older := x.prev })).setLane c l
    (fun x => { x with descr := d }) = s.streamOn c l (blockBits hdr p) d from rfl]
  split_ifs with h01
  · rw [State.dataRx, State.keepBlock_of_not_aligned hna, State.passBlock_of_not_aligned hna,
      State.takeHeader_of_stays (Lane.header_snd_of_hunt hst ..), h01]
    rfl
  · rw [State.passBlock_of_not_aligned (by simpa [State.streamOn_lane] using hna),
      State.takeHeader_of_stays (Lane.header_snd_of_hunt hst ..), beq_eq_false_iff_ne.2 h01]

/-- A hunting lane that receives a block takes its header, and nothing but the link changes. -/
theorem exec_laneBlockRx_of_hunt {s : State} {c l : Nat} {hdr : BitVec 2} {p : BitVec 64} (hrun : s.running = true) (hc : c < 12)
    (hl : l < 17) (hloop : s.rpr.loop = none) (hhears : s.hears c l = true) (hhunt : (s.lane c l).st = .hunt)
    (hb : (blockAt (s.lane c l).prev (blockBits hdr p) (s.lane c l).cand).1 ≠ 0b10#2) :
    ∃ t, exec (.laneBlockRx c l hdr p) s = .next t ∧ s.changesOnly t [.link] ∧
      ∃ y : Lane, y.st = .hunt ∧ y.count = (s.lane c l).count ∧ y.cand = (s.lane c l).cand ∧
        t.lane c l = (y.header ((blockAt (s.lane c l).prev (blockBits hdr p) (s.lane c l).cand).1 == 0b01#2) false).1 := by
  obtain ⟨d, hd⟩ := State.blockRx_of_hunt hloop hhears hhunt hb
  obtain ⟨hexec, hframe⟩ := exec_and_frame (c := .laneBlockRx c l hdr p) (l := [.link]) rfl
    (by simp [Instr.wellFormed, Instr.units, Instr.partsOk, hc, hl]) hrun hd
    ((((State.changesOnly.refl s _).setLane c l _).setLane c l _).setLane c l _) rfl
  refine ⟨_, hexec, hframe, (s.streamOn c l (blockBits hdr p) d).lane c l, ?_⟩
  simp [State.streamOn_lane, hhunt]

/-- Settles O12: the word-valid of a lane and the headers of a lane that hunts. -/
theorem lanesHuntAndLock : Obligations.LanesHuntAndLock := by
  refine ⟨fun s c l hrun hc hl => ?_, fun s c l hdr p hrun hc hl hloop hhears hhunt => ?_⟩
  · have hwf : (Instr.lnRxvFall c l).wellFormed = true := by simp [Instr.wellFormed, Instr.units, Instr.partsOk, hc, hl]
    refine ⟨fun hlow => ?_, fun hhigh hst => ?_, fun hhigh hst htx hup hnone hlate hun => ?_, ?_⟩
    · exact ⟨_, exec_lnRxvRise hrun hc hl hlow, by simp, fun i hi => State.setLane_lanes_of_ne s c l _ hi, rfl,
        fun hsnap => State.count_counter_self hsnap _, ((State.changesOnly.refl s _).setLane _ _ _).count _⟩
    · have hlanes := fun i (hi : i ≠ 17 * c + l) =>
        (State.setLane_lanes_of_ne (s.setLane c l (fun x => { x with rxv := false })) c l (fun x => { x.hunt with rxv := false })
          hi).trans (State.setLane_lanes_of_ne s c l _ hi)
      rcases hst with hst | hst
      · obtain ⟨hexec, hframe⟩ := exec_and_frame (l := [.link, .regs]) rfl hwf hrun
          ((State.rxvFalls_of_high hhigh).trans (State.laneLeaves_of_hunt (by simpa using hst) _))
          (((State.changesOnly.refl s _).setLane _ _ _).setLane _ _ _) rfl
        refine ⟨_, hexec, by simp [Lane.hunt], hlanes, rfl, fun _ => ?_, hframe⟩
        rw [if_neg (by simp [hst]), BitVec.add_zero]
        rfl
      · obtain ⟨hexec, hframe⟩ := exec_and_frame (l := [.link, .regs]) rfl hwf hrun
          ((State.rxvFalls_of_high hhigh).trans (State.laneLeaves_of_locked (by simpa using hst) _))
          ((((State.changesOnly.refl s _).setLane _ _ _).setLane _ _ _).count _) (State.count_doneEpoch ..)
        refine ⟨_, hexec, by simp [Lane.hunt], hlanes, rfl, fun hsnap => ?_, hframe⟩
        rw [if_pos hst]
        exact State.count_counter_self hsnap _
    · obtain ⟨hexec, hframe⟩ := exec_and_frame (l := [.link, .regs]) rfl hwf hrun
        (State.rxvFalls_of_lastAligned hhigh hst htx hup hnone hlate hun)
        (((((State.changesOnly.refl s _).setLane _ _ _).setLane _ _ _).setLane _ _ _).count _) (State.count_doneEpoch ..)
      refine ⟨_, hexec, ?_, rfl, fun hsnap => State.count_counter_self hsnap _, hframe⟩
      rw [State.laneLeft_lane_self, State.setLane_lane_self]
      rfl
    · obtain ⟨hexec, hframe⟩ := exec_and_frame (c := .lnEqack c l) (l := [.link]) rfl
        (by simp [Instr.wellFormed, Instr.units, Instr.partsOk, hc, hl]) hrun rfl ((State.changesOnly.refl s _).setLane _ _ _) rfl
      exact ⟨_, hexec, State.setLane_lane_self .., fun i hi => State.setLane_lanes_of_ne s c l _ hi, rfl, hframe⟩
  · refine ⟨fun hb hcount => ?_, fun hb hcount => ?_, fun hb => ?_⟩
    · obtain ⟨t, hexec, hframe, y, hy, hycount, hycand, hlane⟩ :=
        exec_laneBlockRx_of_hunt hrun hc hl hloop hhears hhunt (by rw [hb]; decide)
      have hne : (s.lane c l).count + 1 ≠ 64 := by omega
      refine ⟨t, hexec, ?_, ?_, ?_, hframe⟩ <;> rw [hlane] <;> simp [Lane.header, hy, hb, hycount, hycand, hne]
    · obtain ⟨t, hexec, hframe, y, hy, hycount, hycand, hlane⟩ :=
        exec_laneBlockRx_of_hunt hrun hc hl hloop hhears hhunt (by rw [hb]; decide)
      refine ⟨t, hexec, ?_, ?_, hframe⟩ <;> rw [hlane] <;> simp [Lane.header, hy, hb, hycount, hcount]
    · have hbad : ((blockAt (s.lane c l).prev (blockBits hdr p) (s.lane c l).cand).1 == 0b01#2) = false := by
        rcases hb with hb | hb <;> rw [hb] <;> rfl
      obtain ⟨t, hexec, hframe, y, hy, hycount, hycand, hlane⟩ :=
        exec_laneBlockRx_of_hunt hrun hc hl hloop hhears hhunt (by rcases hb with hb | hb <;> rw [hb] <;> decide)
      refine ⟨t, hexec, ?_, ?_, ?_, hframe⟩ <;> rw [hlane] <;> simp [Lane.header, hy, hbad, hycand]

end Sys2Proof.Machine
end

section
/-! PROOFS. The input pins and the queue (R23): every outcome puts them back, and no effect but PWR_GOOD's and the wrapper's writes
the level of WRSTN. -/

namespace Sys2Proof.Machine

section
variable {K : List Piece} (s : State)
theorem opTrainingTimeout_wrstN (ch : Nat) : (opTrainingTimeout ch s).only [.wrstN] = s.only [.wrstN] := by
  unfold opTrainingTimeout; split
  · split_ifs <;> simp
  · rfl
theorem opRmwMerge_wrstN (tag w) : (opRmwMerge tag w s).only [.wrstN] = s.only [.wrstN] := by
  unfold opRmwMerge; split
  · rfl
  · split
    · split
      · rfl
      · simp
    · rfl
theorem opTagTimeout_wrstN (tag w) : (opTagTimeout tag w s).only [.wrstN] = s.only [.wrstN] := by
  unfold opTagTimeout; split
  · rfl
  · split <;> simp
theorem opQuarantineEnd_wrstN (tag w) : (opQuarantineEnd tag w s).only [.wrstN] = s.only [.wrstN] := by
  unfold opQuarantineEnd; split
  · rfl
  · split <;> simp [TrxSt.only]
theorem opSensorAckTimeout_wrstN (b n) : (opSensorAckTimeout b n s).only [.wrstN] = s.only [.wrstN] := by
  unfold opSensorAckTimeout; split <;> simp
theorem opOcwHoldExpiry_wrstN : (opOcwHoldExpiry s).only [.wrstN] = s.only [.wrstN] := by
  unfold opOcwHoldExpiry; split <;> simp
theorem opTabRowIssue_wrstN (ch b t r f) : (opTabRowIssue ch b t r f s).only [.wrstN] = s.only [.wrstN] := by
  unfold opTabRowIssue; split <;> simp
theorem opBurstComplete_wrstN (ch p e b) : (opBurstComplete ch p e b s).only [.wrstN] = s.only [.wrstN] := by
  unfold opBurstComplete
  cases s.drainSlot ch <;> simp
theorem opReadDataReturn_wrstN (ch d b) : (opReadDataReturn ch d b s).only [.wrstN] = s.only [.wrstN] := by
  unfold opReadDataReturn; split
  · rfl
  · dsimp only
    split <;> simp
theorem opCaptureMiss_wrstN (ch : Nat) : (opCaptureMiss ch s).only [.wrstN] = s.only [.wrstN] := by
  unfold opCaptureMiss; split <;> simp
theorem opStatusResult_wrstN (ch sid st) : (opStatusResult ch sid st s).only [.wrstN] = s.only [.wrstN] := by
  unfold opStatusResult; dsimp only; split <;> simp
theorem opMitlatchRx_wrstN (ch sid) : (opMitlatchRx ch sid s).only [.wrstN] = s.only [.wrstN] := by
  unfold opMitlatchRx; split <;> simp
theorem opHotPeriodExpiry_wrstN (ch b) : (opHotPeriodExpiry ch b s).only [.wrstN] = s.only [.wrstN] := by
  unfold opHotPeriodExpiry; split <;> simp
theorem opSentCheckResult_wrstN (ch b c p) : (opSentCheckResult ch b c p s).only [.wrstN] = s.only [.wrstN] := by
  unfold opSentCheckResult; split
  · simp only [State.only_ite, State.agentAsks_only, State.askAll_only, State.only_when, State.suspect_only, State.stick_only,
      State.only_pwr, PwrSt.only, State.setChan_only, State.count_only, State.setBank_only, ite_self, List.mem_cons,
      List.not_mem_nil, reduceCtorEq, or_false, not_false_eq_true, and_self, if_false]
  · rfl
theorem opEntropyRetest_wrstN (p r) : (opEntropyRetest p r s).only [.wrstN] = s.only [.wrstN] := by
  unfold opEntropyRetest; split <;> simp [SecSt.only]
end

/-- Every command of `act` leaves the level of WRSTN. -/
theorem exec_keeps_wrstN {c : Instr} (h : isPlain c = true) (s : State) :
    ∃ u, exec c s = act c.wellFormed s u ∧ u.only [.wrstN] = s.only [.wrstN] := by
  cases c
  case pwrGoodRise | pwrGoodFall | nvmRdyFall | nvmRdyRise | brgSfencedRise | brgSfencedFall | regOcwRise | regOcwFall
    | wsBypass | wsExtest | wsIntest | cmReg | cmSram | cmId => exact Bool.noConfusion h
  case trainingTimeout => exact ⟨_, rfl, opTrainingTimeout_wrstN s ..⟩
  case rmwMerge => exact ⟨_, rfl, opRmwMerge_wrstN s ..⟩
  case tagTimeout => exact ⟨_, rfl, opTagTimeout_wrstN s ..⟩
  case quarantineEnd => exact ⟨_, rfl, opQuarantineEnd_wrstN s ..⟩
  case sensorAckTimeout => exact ⟨_, rfl, opSensorAckTimeout_wrstN s ..⟩
  case ocwHoldExpiry => exact ⟨_, rfl, opOcwHoldExpiry_wrstN s ..⟩
  case tabRowIssue => exact ⟨_, rfl, opTabRowIssue_wrstN s ..⟩
  case burstComplete => exact ⟨_, rfl, opBurstComplete_wrstN s ..⟩
  case readDataReturn => exact ⟨_, rfl, opReadDataReturn_wrstN s ..⟩
  case captureMiss => exact ⟨_, rfl, opCaptureMiss_wrstN s ..⟩
  case statusResult => exact ⟨_, rfl, opStatusResult_wrstN s ..⟩
  case mitlatchRx => exact ⟨_, rfl, opMitlatchRx_wrstN s ..⟩
  case hotPeriodExpiry => exact ⟨_, rfl, opHotPeriodExpiry_wrstN s ..⟩
  case sentCheckResult => exact ⟨_, rfl, opSentCheckResult_wrstN s ..⟩
  case entropyRetest => exact ⟨_, rfl, opEntropyRetest_wrstN s ..⟩
  case svcActivate =>
    exact ⟨_, rfl, State.service_only (by simp) s fun u => State.orLate_only (by simp) u _ (by simp)⟩
  case svcRestart =>
    exact ⟨_, rfl, State.service_only (by simp) s fun u => State.orLate_only (by simp) u _ (by simp)⟩
  case svcConfirm =>
    exact ⟨_, rfl, State.service_only (by simp) s fun u => State.orLate_only (by simp) u _ (by simp)⟩
  case nvmRdyTimeout | nvmAck | nvmAccessTimeout | trainingComplete | linkWaitTimeout | droneTick | dronePrimaryFail
    | droneCheckerFail | holdoverExpiry | lnRxvFall | lnRxvRise | lnEqack | laneBlockRx | marker | laneMap | laneSwitch
    | idleFlitRx | msgFlitRx | courseDown | flitTx =>
    exact ⟨_, rfl, by
      simp [opNvmRdyTimeout, opNvmAck, opNvmAccessTimeout, opTrainingComplete, opLinkWaitTimeout, opDroneTick,
        opDronePrimaryFail, opDroneCheckerFail, opHoldoverExpiry, opLnRxvFall, opLnRxvRise, opLnEqack, opLaneBlockRx,
        opMarker, opLaneMap, opLaneSwitch, opIdleFlitRx, opMsgFlitRx, opCourseDown, opFlitTx]⟩
  case replayTimeout | nakResend | crWait | retrainLimit | rd | wr | wrp | mask | fadd64 | cas64 | fence | fenceComplete
    | cfgrd | cfgwr | malformedMessage | resync | summaryCapture | timeSet | keyCreate | keyErase =>
    exact ⟨_, rfl, by
      simp [opReplayTimeout, opNakResend, opCrWait, opRetrainLimit, opRd, opWr, opWrp, opMask, opFadd64, opCas64, opFence,
        opFenceComplete, opCfgrd, opCfgwr, opMalformedMessage, opResync, opSummaryCapture, opTimeSet, opKeyCreate,
        opKeyErase]⟩
  case keyEraseComplete | keyPersist | getVersion | getCapabilities | negotiateAlgorithms | getDigests | getCertificate
    | challenge | getMeasurements | keyExchange | finish | getEncapsulatedRequest | deliverEncapsulatedResponse | keyUpdate
    | endSession | respondIfReady | routerAdmit | windowRoll | ageUnitExpiry | sysCommit =>
    exact ⟨_, rfl, by
      simp [opKeyEraseComplete, opKeyPersist, opGetVersion, opGetCapabilities, opNegotiateAlgorithms, opGetDigests,
        opGetCertificate, opChallenge, opGetMeasurements, opKeyExchange, opFinish, opGetEncapsulatedRequest,
        opDeliverEncapsulatedResponse, opKeyUpdate, opEndSession, opRespondIfReady, opRouterAdmit, opWindowRoll,
        opAgeUnitExpiry, opSysCommit]⟩
  case commitCheck | groupApply | mapSwitch | commitWaitExpiry | registerWrite | postedWriteEffect | sleepingDomainRead
    | rcRead | counterLowRead | sysSnap | sysSumctlCapture | smpSummaryRead | sysSave | saveComplete | smpAddressMatch
    | sensorRound | sensorRead | regIldReading | telemRise | pswRdyFall =>
    exact ⟨_, rfl, by
      simp [opCommitCheck, opGroupApply, opMapSwitch, opCommitWaitExpiry, opRegisterWrite, opPostedWriteEffect,
        opSleepingDomainRead, opRcRead, opCounterLowRead, opSysSnap, opSysSumctlCapture, opSmpSummaryRead, opSysSave,
        opSaveComplete, opSmpAddressMatch, opSensorRound, opSensorRead, opRegIldReading, opTelemRise, opPswRdyFall]⟩
  case dieWindowRoll | agentRequest | preemptionPoint | statPoll | bankIdleTimeout | slotTimerExpiry | exitSweepEnd
    | suspectScrubEnd | replicaWindowEnd | calRunComplete | slewStep | idlePeriod | idleWaitExpiry | retrainComplete | calRun
    | calRetrain | refSusclr | idleThresholdExpiry | entryConditionsMet | delayLimitExpiry =>
    exact ⟨_, rfl, by
      simp [opDieWindowRoll, opAgentRequest, opPreemptionPoint, opStatPoll, opBankIdleTimeout, opSlotTimerExpiry,
        opExitSweepEnd, opSuspectScrubEnd, opReplicaWindowEnd, opCalRunComplete, opSlewStep, opIdlePeriod, opIdleWaitExpiry,
        opRetrainComplete, opCalRun, opCalRetrain, opRefSusclr, opIdleThresholdExpiry, opEntryConditionsMet,
        opDelayLimitExpiry]⟩
  case pwrReqOn | pwrReqRetention | pwrReqOff | linkEntryAcked | wakeReady | wakeTimerExpiry | wakeRetry | pwrUnfence
    | linkWake | mirIdentity | pairAloneTimeout | mirHeartbeat | mirRefBase | mirBacklog | mirKey | mirRepair | mirConfig
    | mirTrims | mirSleep | mirPairkey =>
    exact ⟨_, rfl, by
      simp [opPwrReqOn, opPwrReqRetention, opPwrReqOff, opLinkEntryAcked, opWakeReady, opWakeTimerExpiry, opWakeRetry,
        opPwrUnfence, opLinkWake, opMirIdentity, opPairAloneTimeout, opMirHeartbeat, opMirRefBase, opMirBacklog, opMirKey,
        opMirRepair, opMirConfig, opMirTrims, opMirSleep, opMirPairkey]⟩
  case mirHandback | mirrorAck | mirrorResendTimeout | mirrorNoackTimeout | mirRxreqWake | heartbeatWindowClose | brgFgnt
    | brgXrdy | takeoverRetrainDone | handback | handbackDrained | handbackAcked | handbackWaitExpiry | progStall
    | faultNPulseEnd | fltFence | fltUnfence | fltPinHold | fltPinRelease | evtView =>
    exact ⟨_, rfl, by
      simp [opMirHandback, opMirrorAck, opMirrorResendTimeout, opMirrorNoackTimeout, opMirRxreqWake, opHeartbeatWindowClose,
        opBrgFgnt, opBrgXrdy, opTakeoverRetrainDone, opHandback, opHandbackDrained, opHandbackAcked, opHandbackWaitExpiry,
        opProgStall, opFaultNPulseEnd, opFltFence, opFltUnfence, opFltPinHold, opFltPinRelease, opEvtView]⟩
  case evtLogidx | persistDelayExpiry | eventPersist | logScanDone | crsFence | crsUnfence | crsRetrain | secLock
    | entropyHealthFail | softRow | spprReady | repairWaitExpiry | tspprExpiry | rowRestoreDone | repairRecordWritten
    | hardRow | hpprCountExpiry | colAdd | colRemove | bistStart =>
    exact ⟨_, rfl, by
      simp [opEvtLogidx, opPersistDelayExpiry, opEventPersist, opLogScanDone, opCrsFence, opCrsUnfence, opCrsRetrain,
        opSecLock, opEntropyHealthFail, opSoftRow, opSpprReady, opRepairWaitExpiry, opTspprExpiry, opRowRestoreDone,
        opRepairRecordWritten, opHardRow, opHpprCountExpiry, opColAdd, opColRemove, opBistStart]⟩
  case bistAbort | bistEnd | loopNesl | loopNepl | loopFar | loopOff | svcOpen | svcBlock | svcVerify | verifyDone | svcAbort
    | svcReadBitmap | updConfirm | updateRestartProceed | followActivate | selftestPass | probationExpiry | flitCrcFailure
    | snapCaptureComplete =>
    exact ⟨_, rfl, by
      simp [opBistAbort, opBistEnd, opLoopNesl, opLoopNepl, opLoopFar, opLoopOff, opSvcOpen, opSvcBlock, opSvcVerify,
        opVerifyDone, opSvcAbort, opSvcReadBitmap, opUpdConfirm, opUpdateRestartProceed, opFollowActivate, opSelftestPass,
        opProbationExpiry, opFlitCrcFailure, opSnapCaptureComplete]⟩

theorem State.wrstN_of_only {s t : State} (h : t.only [.wrstN] = s.only [.wrstN]) : t.pins.wrstN = s.pins.wrstN :=
  congrArg (fun u => u.pins.wrstN) h

theorem State.mirrorFrom_wrstN (s t : State) : (s.mirrorFrom t).pins.wrstN = t.pins.wrstN :=
  State.wrstN_of_only (by simp)

theorem State.InputsAlike.refl (s : State) : s.InputsAlike s := ⟨rfl, rfl, rfl, rfl, rfl, rfl⟩

theorem State.inputsAlike_withInputs (u t : State) : u.InputsAlike (u.withInputs t) := ⟨rfl, rfl, rfl, rfl, rfl, rfl⟩

theorem act_inputs {ok : Bool} {s u t : State} (hu : u.only [.wrstN] = s.only [.wrstN]) (h : act ok s u = .next t) :
    s.InputsAlike t ∧ t.pins.wrstN = s.pins.wrstN := by
  cases ok <;> cases hrun : s.running <;> simp only [act, hrun, Host.Outcome.next.injEq, reduceCtorEq] at h
  · exact h ▸ ⟨.refl s, rfl⟩
  · exact h ▸ ⟨s.inputsAlike_withInputs _, (State.mirrorFrom_wrstN s u).trans (State.wrstN_of_only hu)⟩

theorem actPin_inputs {ok : Bool} {s u v t : State} (hv : v.only [.wrstN] = u.only [.wrstN]) (h : actPin ok s u v = .next t) :
    u.InputsAlike t ∧ t.pins.wrstN = u.pins.wrstN := by
  cases ok <;> cases hrun : s.running <;> simp only [actPin, hrun, Host.Outcome.next.injEq, reduceCtorEq] at h
  · exact h ▸ ⟨.refl u, rfl⟩
  · exact h ▸ ⟨u.inputsAlike_withInputs _, (State.mirrorFrom_wrstN s v).trans (State.wrstN_of_only hv)⟩

theorem actWrapper_inputs {high : Bool} {s u t : State} (h : actWrapper high s u = .next t) :
    s.InputsAlike t ∧ (u.only [.wrstN] = s.only [.wrstN] → t.pins.wrstN = s.pins.wrstN) := by
  cases hhigh : s.pins.pwrGood && high <;> simp only [actWrapper, hhigh, Host.Outcome.next.injEq] at h
  · exact h ▸ ⟨.refl s, fun _ => rfl⟩
  · exact h ▸ ⟨s.inputsAlike_withInputs _, State.wrstN_of_only⟩

theorem actPower_inputs {level ok : Bool} {s u t : State} (h : actPower level ok s u = .next t) :
    ({ s with pins := { s.pins with pwrGood := level } } : State).InputsAlike t ∧ t.pins.wrstN = u.pins.wrstN := by
  cases ok <;> simp only [actPower, Host.Outcome.next.injEq, reduceCtorEq] at h
  exact h ▸ ⟨State.inputsAlike_withInputs _ _, rfl⟩

theorem opRegOcwRise_wrstN (s : State) :
    (opRegOcwRise s).only [.wrstN] = ({ s with pins := { s.pins with regOcw := true } } : State).only [.wrstN] := by
  have hs : ({ s with pins := { s.pins with regOcw := true } } : State).only [.wrstN] = s.only [.wrstN] :=
    State.only_pins s (by simp [PinSt.only])
  unfold opRegOcwRise
  split
  · exact hs.symm
  · rw [State.noteCut_only (by simp), State.stick_only (by simp)]
    rfl

theorem opRegOcwFall_wrstN (s : State) :
    (opRegOcwFall s).only [.wrstN] = ({ s with pins := { s.pins with regOcw := false } } : State).only [.wrstN] := by
  unfold opRegOcwFall
  split
  · rfl
  · exact (State.only_pins s (by simp [PinSt.only])).symm

theorem opPwrGoodFall_pins_wrstN (s : State) : (opPwrGoodFall s).pins.wrstN = s.pins.wrstN := by
  unfold opPwrGoodFall
  split <;> rfl

/-- Settles O3: what an outcome puts back, and the effects' frame over WRSTN. -/
theorem inputsFollowTheirOwnEvents : Obligations.InputsFollowTheirOwnEvents := by
  intro c s t hexec
  have hall (h : s.InputsAlike t ∧ t.pins.wrstN = s.pins.wrstN) :
      t.pending = s.pending ∧ t.pins.instId = s.pins.instId ∧ t.pins.pwrGood = s.pins.pwrGood ∧ t.pins.nvmRdy = s.pins.nvmRdy ∧
        t.pins.sfenced = s.pins.sfenced ∧ t.pins.regOcw = s.pins.regOcw ∧ t.pins.wrstN = s.pins.wrstN := by
    obtain ⟨⟨hgood, hid, hrdy, hfenced, hocw, hpending⟩, hwrst⟩ := h
    exact ⟨hpending, hid, hgood, hrdy, hfenced, hocw, hwrst⟩
  have hplain (hc : isPlain c = true) : s.InputsAlike t ∧ t.pins.wrstN = s.pins.wrstN := by
    obtain ⟨u, hu, hw⟩ := exec_keeps_wrstN hc s
    exact act_inputs hw (hu ▸ hexec)
  cases c
  case pwrGoodRise env =>
    obtain ⟨⟨-, hid, hrdy, hfenced, hocw, hpending⟩, -⟩ := actPower_inputs hexec
    exact ⟨hpending, hid, fun h => absurd rfl (h env), fun _ _ => hrdy, fun _ _ => hfenced, fun _ _ => hocw,
      fun h => absurd rfl (h env)⟩
  case pwrGoodFall =>
    rw [show exec .pwrGoodFall s = execPwrGoodFall s from rfl, execPwrGoodFall] at hexec
    obtain ⟨⟨-, hid, hrdy, hfenced, hocw, hpending⟩, hwrst⟩ := actPower_inputs hexec
    exact ⟨hpending, hid, fun _ h => absurd rfl h, fun _ _ => hrdy, fun _ _ => hfenced, fun _ _ => hocw,
      fun _ _ => hwrst.trans (opPwrGoodFall_pins_wrstN s)⟩
  case nvmRdyFall =>
    rw [show exec .nvmRdyFall s = execNvmRdyFall s from rfl, execNvmRdyFall] at hexec
    obtain ⟨⟨hgood, hid, -, hfenced, hocw, hpending⟩, hwrst⟩ := actPin_inputs (by simp [opNvmRdyFall, PinSt.only]) hexec
    exact ⟨hpending, hid, fun _ _ => hgood, fun _ h => absurd rfl h, fun _ _ => hfenced, fun _ _ => hocw, fun _ _ => hwrst⟩
  case nvmRdyRise env =>
    rw [show exec (.nvmRdyRise env) s = execNvmRdyRise env s from rfl, execNvmRdyRise] at hexec
    obtain ⟨⟨hgood, hid, -, hfenced, hocw, hpending⟩, hwrst⟩ := actPin_inputs (by simp [opNvmRdyRise, PinSt.only]) hexec
    exact ⟨hpending, hid, fun _ _ => hgood, fun h => absurd rfl (h env), fun _ _ => hfenced, fun _ _ => hocw, fun _ _ => hwrst⟩
  case brgSfencedRise =>
    rw [show exec .brgSfencedRise s = execBrgSfencedRise s from rfl, execBrgSfencedRise] at hexec
    obtain ⟨⟨hgood, hid, hrdy, -, hocw, hpending⟩, hwrst⟩ := actPin_inputs (by simp [opBrgSfencedRise, PinSt.only]) hexec
    exact ⟨hpending, hid, fun _ _ => hgood, fun _ _ => hrdy, fun h => absurd rfl h, fun _ _ => hocw, fun _ _ => hwrst⟩
  case brgSfencedFall =>
    rw [show exec .brgSfencedFall s = execBrgSfencedFall s from rfl, execBrgSfencedFall] at hexec
    obtain ⟨⟨hgood, hid, hrdy, -, hocw, hpending⟩, hwrst⟩ := actPin_inputs (by simp [opBrgSfencedFall, PinSt.only]) hexec
    exact ⟨hpending, hid, fun _ _ => hgood, fun _ _ => hrdy, fun _ h => absurd rfl h, fun _ _ => hocw, fun _ _ => hwrst⟩
  case regOcwRise =>
    rw [show exec .regOcwRise s = execRegOcwRise s from rfl, execRegOcwRise] at hexec
    obtain ⟨⟨hgood, hid, hrdy, hfenced, -, hpending⟩, hwrst⟩ := actPin_inputs (opRegOcwRise_wrstN s) hexec
    exact ⟨hpending, hid, fun _ _ => hgood, fun _ _ => hrdy, fun _ _ => hfenced, fun h => absurd rfl h, fun _ _ => hwrst⟩
  case regOcwFall =>
    rw [show exec .regOcwFall s = execRegOcwFall s from rfl, execRegOcwFall] at hexec
    obtain ⟨⟨hgood, hid, hrdy, hfenced, -, hpending⟩, hwrst⟩ := actPin_inputs (opRegOcwFall_wrstN s) hexec
    exact ⟨hpending, hid, fun _ _ => hgood, fun _ _ => hrdy, fun _ _ => hfenced, fun _ h => absurd rfl h, fun _ _ => hwrst⟩
  case wsBypass b =>
    obtain ⟨⟨hgood, hid, hrdy, hfenced, hocw, hpending⟩, -⟩ := actWrapper_inputs hexec
    exact ⟨hpending, hid, fun _ _ => hgood, fun _ _ => hrdy, fun _ _ => hfenced, fun _ _ => hocw, fun _ h => absurd rfl (h b)⟩
  case wsExtest | wsIntest | cmSram | cmId =>
    obtain ⟨hin, hwrst⟩ := actWrapper_inputs hexec
    obtain ⟨hpending, hid, hgood, hrdy, hfenced, hocw, hwrst⟩ :=
      hall ⟨hin, hwrst (by simp [opWsExtest, opWsIntest, opCmSram, opCmId])⟩
    exact ⟨hpending, hid, fun _ _ => hgood, fun _ _ => hrdy, fun _ _ => hfenced, fun _ _ => hocw, fun _ _ => hwrst⟩
  case cmReg data =>
    rw [show exec (.cmReg data) s = execCmReg data s from rfl, execCmReg] at hexec
    obtain ⟨⟨hgood, hid, hrdy, hfenced, hocw, hpending⟩, hwrst⟩ :=
      actPin_inputs (u := if s.pins.pwrGood && s.pins.wrstN then s.loadIr 16 else s) (by simp [opCmReg]) hexec
    have hload : (if s.pins.pwrGood && s.pins.wrstN then s.loadIr 16 else s).pins = s.pins ∧
        (if s.pins.pwrGood && s.pins.wrstN then s.loadIr 16 else s).pending = s.pending := by split <;> exact ⟨rfl, rfl⟩
    rw [hload.1] at hgood hid hrdy hfenced hocw hwrst
    rw [hload.2] at hpending
    exact ⟨hpending, hid, fun _ _ => hgood, fun _ _ => hrdy, fun _ _ => hfenced, fun _ _ => hocw, fun _ _ => hwrst⟩
  all_goals
    obtain ⟨hpending, hid, hgood, hrdy, hfenced, hocw, hwrst⟩ := hall (hplain rfl)
    exact ⟨hpending, hid, fun _ _ => hgood, fun _ _ => hrdy, fun _ _ => hfenced, fun _ _ => hocw, fun _ _ => hwrst⟩

end Sys2Proof.Machine
end

section
/-! PROOFS. States for counterexamples, and the spare lane of a course (O13). -/

-- The kernel evaluates each witness in turn.
set_option Elab.async false

namespace Sys2Proof.Machine

/-- A domain that is on, with nothing asked of it. -/
def onDomain : Domain :=
  { st := .on, from0 := true, wakeFrom := none, tries := 0, retryAt := none, delay := none, refused := false, waitAck := none,
    cold := false, timer := 0, limit := 0 }

/-- A running machine that is READY and alone: every domain is on, every channel group active, course 3 up and in RUN, every lane
hunts, and the reference is locked on course 3. -/
def readyState : State :=
  { State.reset with
    time := ⟨100000, 5000#48, []⟩
    pins := { State.reset.pins with pwrGood := true, nvmRdy := true, pswEn := .const true }
    pwr := { PwrSt.init with doms := .const onDomain, cgs := .const ⟨.active, 0, 0, none, none, .off⟩ }
    boot := { BootSt.init with stage := .ready, chReady := 0xffffffff }
    link := { LinkSt.init with
      courses := ⟨Course.init, [(3, { Course.init with tx := .run, up := true })]⟩
      lanes := .const { Lane.init with rxv := true, st := .hunt } }
    sec := { SecSt.init false with drbgOk := true }
    pair := { PairSt.init with role := .alone }
    cal := { CalSt.init with refState := .locked, refCourse := 3 } }

/-- Course 3 with logical lane 7 on lane 2 and an idle spare, course 1 up, no reference, and a channel that takes two words of
the link's page as those of group 2 when its arbiter decides: LNK_MODE with EXPERT_EN, and LNK_AUTO_SPARE cleared. -/
def spareState : State :=
  { readyState with
    link := { readyState.link with
      courses := readyState.link.courses.set 1 { Course.init with tx := .run, up := true }
      lanes := (readyState.link.lanes.set (17 * 3 + 2) { Lane.init with rxv := true, st := .aligned, logLane := 7 }).set
          (17 * 3 + 16)
        { Lane.init with rxv := true, st := .aligned, logLane := 16 } }
    cal := { readyState.cal with refState := .absent }
    chans := readyState.chans.upd 0 (fun c => { c with
      statusDue := [0], g2 := some [(0x1c000, 0x100#32), (0x1c808, 0x80000000#32)] }) }

theorem spareState_rxvFalls : ((spareState.withInputs (spareState.mirrorFrom
    (spareState.rxvFalls 3 2))).course 3).mapReq = none := by
  decide +kernel

/-- The state meets what O13 asks of an aligned lane that is lost. -/
theorem spareState_met :
    spareState.running = true ∧ (spareState.lane 3 2).rxv = true ∧ (spareState.lane 3 2).st = .aligned ∧
      (spareState.lane 3 2).logLane = 7 ∧ (spareState.course 3).tx = .run ∧ (spareState.course 3).up = true ∧
      (spareState.course 3).unfenceAt = none ∧ (spareState.course 3).mapReq = none ∧ (spareState.course 3).spareRx = 16 ∧
      spareState.leftLately 3 2 = false ∧ (∀ q, q < 17 → q ≠ 2 → (spareState.lane 3 q).logLane ≠ 7) ∧
      (spareState.laneOf 3 16).isSome = true ∧ spareState.rfb RF.LNK_AUTO_SPARE = true := by decide +kernel

/-- Refutes O13: the loss of the lane starts a calibration run,
    since another course brings back the reference; its channel's arbiter
decides, and puts the words that wait as those of group 2 into force. Nothing keeps LNK_AUTO_SPARE out of them,
    so it may be clear by
the time the spare is looked for. -/
theorem not_lanesAlignFailAndSpare : ¬ Obligations.LanesAlignFailAndSpare := by
  intro h
  obtain ⟨hrun, hrxv, hst, hlog, htx, hup, hun, hmap, hspare, hlate, hothers, hidle, hauto⟩ := spareState_met
  obtain ⟨t, ht, hasked, -⟩ := (h.2 spareState 3 2 7 0 hrun (by decide) (by decide) (by decide)).2.2
    hrxv hst hlog htx hup hun hmap hspare hlate hothers hidle hauto
  rw [exec_of_act rfl (by decide) hrun] at ht
  obtain rfl := Host.Outcome.next.inj ht
  exact Option.some_ne_none 7 (hasked.symm.trans spareState_rxvFalls)

end Sys2Proof.Machine
end

section
/-! PROOFS. Flits received and sent (O14, O15): the ledger of a course. -/

namespace Sys2Proof.Machine

theorem insertEnt_insertEnt {α : Type} (i : Nat) (a b : α) (l : List (Nat × α)) :
    insertEnt i a (insertEnt i b l) = insertEnt i a l := by
  induction l with
  | nil => simp [insertEnt]
  | cons e l ih =>
    obtain ⟨j, x⟩ := e
    simp only [insertEnt]
    split_ifs with hlt heq
    · simp [insertEnt]
    · simp [insertEnt]
    · simp only [insertEnt, if_neg hlt, if_neg heq, ih]

@[simp] theorem Tbl.set_set {α : Type} (t : Tbl α) (i : Nat) (a b : α) : (t.set i b).set i a = t.set i a := by
  simp [Tbl.set, insertEnt_insertEnt]

@[simp] theorem Tbl.upd_upd {α : Type} (t : Tbl α) (i : Nat) (f g : α → α) : (t.upd i f).upd i g = t.upd i (fun x => g (f x)) := by
  simp [Tbl.upd]

theorem State.setCourse_setCourse (s : State) (c : Nat) (f g : Course → Course) :
    (s.setCourse c f).setCourse c g = s.setCourse c (fun x => g (f x)) := by simp [State.setCourse]

/-- A change of a course is told by the course that it makes. -/
theorem State.setCourse_congr {s : State} {c : Nat} {f g : Course → Course} (h : f (s.course c) = g (s.course c)) :
    s.setCourse c f = s.setCourse c g := by
  have hget : f (s.link.courses.get c) = g (s.link.courses.get c) := h
  simp [State.setCourse, Tbl.upd, hget]

/-! ### A flit that passes its checks -/

@[simp] theorem State.noteFec_nil (s : State) (c : Nat) : s.noteFec c [] = s := rfl

theorem State.flitArrives_nil (s : State) (c : Nat) :
    s.flitArrives c [] = s.setCourse c (fun x => { x with rxCount := x.rxCount + 1 }) := rfl

theorem State.delivers_congr {s t : State} {c : Nat} (hdom : t.pwr.doms = s.pwr.doms) (hup : (t.course c).up = (s.course c).up) :
    t.delivers c = s.delivers c := by simp [State.delivers, State.domOn, State.dom, hdom, hup]

/-- A flit that has passed its checks on a course in clear, before its acknowledgement is taken. -/
def State.flitTaken (s : State) (c : Nat) : State :=
  (s.setCourse c (fun x => { x with rxCount := x.rxCount + 1 })).count (crsAt c 0x108)

@[simp] theorem State.flitTaken_course_self (s : State) (c : Nat) :
    (s.flitTaken c).course c = { s.course c with rxCount := (s.course c).rxCount + 1 } := by simp [State.flitTaken]

theorem State.flitTaken_course_of_ne (s : State) {c d : Nat} (h : d ≠ c) : (s.flitTaken c).course d = s.course d := by
  simp [State.flitTaken, State.setCourse_course_of_ne _ _ h]

theorem State.flitTaken_counter {s : State} (h : s.regs.snapBusy = false) (c : Nat) :
    (s.flitTaken c).counter (crsAt c 0x108) = s.counter (crsAt c 0x108) + 1#64 := State.count_counter_self h _

theorem State.changesOnly.flitTaken {s t : State} {m : List Part} (h : s.changesOnly t m) (c : Nat)
    (hm : Part.link ∈ m := by decide) (hr : Part.regs ∈ m := by decide) : s.changesOnly (t.flitTaken c) m :=
  (h.setCourse c _ hm).count _ hr

@[simp] theorem State.flitTaken_delivers (s : State) (c : Nat) : (s.flitTaken c).delivers c = s.delivers c :=
  State.delivers_congr rfl (by simp)

theorem Course.verify_clear {x : Course} (h : x.encrypted = false) : x.verify 0 = some x := by simp [Course.verify, h]

/-- A flit in clear on an up course: its acknowledgement, then its SEQ and contents. -/
theorem State.flitRx_of_clear {s : State} {c : Nat} {hdr : BitVec 64} (hdel : s.delivers c = true)
    (henc : (s.course c).encrypted = false) (hepoch : fEpoch hdr = 0) (cells : List Cell) :
    s.flitRx c hdr cells [] =
      if fType hdr = 0 ∨ !((s.flitTaken c).takeAck c hdr).delivers c then (s.flitTaken c).takeAck c hdr
      else ((s.flitTaken c).takeAck c hdr).takeSeq c hdr cells := by
  have harrive : (s.flitArrives c []).delivers c = true := hdel ▸ State.delivers_congr rfl (by simp [State.flitArrives_nil])
  have henc' : ((s.flitArrives c []).course c).encrypted = false := by simp [State.flitArrives_nil, henc]
  have hsame : (s.flitArrives c []).setCourse c (fun _ => (s.flitArrives c []).course c) = s.flitArrives c [] := by
    rw [State.flitArrives_nil, State.setCourse_setCourse]
    simp [State.setCourse, State.course, Tbl.upd]
  simp only [State.flitRx, hdel, harrive, hepoch, Course.verify_clear henc', Bool.not_true, Bool.false_eq_true, if_false, hsame,
      bne_self_eq_false, when]
  rfl

/-! ### Its acknowledgement, its SEQ and contents -/

theorem State.takeAck_of_none {s : State} {hdr : BitVec 64} (h : fKind hdr = 0) (c : Nat) : s.takeAck c hdr = s := by
  simp [State.takeAck, h]

/-- A sequenced flit in clear, with no acknowledgement, on an up course. -/
theorem State.flitRx_of_sequenced {s : State} {c : Nat} {hdr : BitVec 64} (hdel : s.delivers c = true)
    (henc : (s.course c).encrypted = false) (hepoch : fEpoch hdr = 0) (hkind : fKind hdr = 0) (htype : fType hdr ≠ 0)
    (cells : List Cell) : s.flitRx c hdr cells [] = (s.flitTaken c).takeSeq c hdr cells := by
  rw [State.flitRx_of_clear hdel henc hepoch, State.takeAck_of_none hkind, State.flitTaken_delivers, hdel]
  simp [htype]

/-- E moves past a flit in sequence. -/
def State.nextExpected (s : State) (c : Nat) : State :=
  s.setCourse c (fun x => { x with expect := x.expect + 1, nakWait := false, nakDue := false })

theorem State.takeSeq_of_inSequence {s : State} {c : Nat} {hdr : BitVec 64} {cells : List Cell}
    (hseq : seqPast (s.course c).expect (fSeq hdr) = 0) (htype : fType hdr = 1) (hpad : cells.head?.map hOp = some 0) :
    s.takeSeq c hdr cells = s.nextExpected c := by
  obtain ⟨h, l, rfl⟩ : ∃ h l, cells = h :: l := by cases cells <;> simp_all
  have hop : hOp h = 0 := by simpa using hpad
  simp [State.takeSeq, hseq, htype, State.deliverCells, hop, State.nextExpected]

theorem State.takeSeq_of_ahead {s : State} {c : Nat} {hdr : BitVec 64} (h0 : 0 < seqPast (s.course c).expect (fSeq hdr))
    (h1 : seqPast (s.course c).expect (fSeq hdr) < 2048) (cells : List Cell) : s.takeSeq c hdr cells = s.rxBad c := by
  simp [State.takeSeq, Nat.pos_iff_ne_zero.1 h0, h1]

theorem State.takeSeq_of_behind {s : State} {c : Nat} {hdr : BitVec 64} (h : 2048 ≤ seqPast (s.course c).expect (fSeq hdr))
    (cells : List Cell) : s.takeSeq c hdr cells = s := by
  have h0 : seqPast (s.course c).expect (fSeq hdr) ≠ 0 := by omega
  have h1 : ¬ seqPast (s.course c).expect (fSeq hdr) < 2048 := by omega
  simp [State.takeSeq, h0, h1]

/-- A course in RUN whose only flit is acknowledged. -/
theorem State.freeFlits_of_one {s : State} {c ack : Nat} {f : SentFlit} (hbuf : (s.course c).buffer = [f])
    (hcov : covers ack f.seq = true) (htx : (s.course c).tx = .run) :
    s.freeFlits c ack = ({ s with link := { s.link with
      req := { s.link.req with flying := s.link.req.flying - f.crReq, held := s.link.req.held + f.crReq }
      wd := { s.link.wd with flying := s.link.wd.flying - f.crWd, held := s.link.wd.held + f.crWd }
      mgt := { s.link.mgt with flying := s.link.mgt.flying - f.crMgt, held := s.link.mgt.held + f.crMgt } } } : State).setCourse c
        (fun x => { x with buffer := [], run := [], acked := max x.acked (f.seq + 1) }) := by
  have hrest : (s.course c).buffer.filter (fun f => !covers ack f.seq) = [] := by simp [hbuf, hcov]
  have hgone : (s.course c).buffer.filter (fun f => covers ack f.seq) = [f] := by simp [hbuf, hcov]
  simp only [State.freeFlits, hrest, hgone, List.foldl_cons, List.foldl_nil, Nat.zero_add, List.any_nil, List.filter_false]
  refine State.setCourse_congr ?_
  simp only [State.course] at htx ⊢
  rw [htx]

/-- The host's answer to the fence of a course that holds one flit, which it has not accepted. -/
theorem State.peerDown_of_back {s : State} {e accepted : Nat} {f : SentFlit} (hwait : (s.course e).waitPeer = true)
    (hheld : (s.course e).held = [f]) (hback : accepted < f.seq) (hnone : ∀ r ∈ s.trx.reqs, r.stage ≠ .held) :
    s.peerDown e accepted = ({ s with link := { s.link with
      upQ := f.msgs ++ s.link.upQ
      req := { s.link.req with flying := s.link.req.flying - f.crReq, pending := s.link.req.pending + f.crReq }
      wd := { s.link.wd with flying := s.link.wd.flying - f.crWd, pending := s.link.wd.pending + f.crWd }
      mgt := { s.link.mgt with flying := s.link.mgt.flying - f.crMgt, pending :=
          s.link.mgt.pending + f.crMgt } } } : State).setCourse e
        (fun x => { x with held := [], waitPeer := false }) := by
  have hnot : ¬ f.seq ≤ accepted := by omega
  have hheldBack : s.trx.reqs.filter (fun r => r.stage == .held) = [] := by
    simpa [List.filter_eq_nil_iff] using hnone
  simp [State.peerDown, hwait, hheld, hnot, State.releaseHeld, hheldBack]

/-- Settles O14. -/
theorem flitsMoveTheLedger : Obligations.FlitsMoveTheLedger := by
  refine ⟨fun s c hdr cells hrun hc hdel hsnap henc hepoch hkind hlen => ?_,
      fun s c hdr f hrun hc hdel hsnap henc hepoch htype => ?_,
    fun s c e hdr cell f hrun hc he hne hdel henc hepoch hkind htype hseq hnone hfield hwait hheld hback => ?_⟩
  · have hwf : (Instr.msgFlitRx c hdr cells []).wellFormed = true := by
      simp [Instr.wellFormed, Instr.units, Instr.partsOk, hc, hlen]
    have hrx (htype : fType hdr = 1) : opMsgFlitRx c hdr cells [] s = (s.flitTaken c).takeSeq c hdr cells := by
      rw [opMsgFlitRx, if_pos htype, State.flitRx_of_sequenced hdel henc hepoch hkind (by omega)]
    have hpast : seqPast ((s.flitTaken c).course c).expect (fSeq hdr) = seqPast (s.course c).expect (fSeq hdr) := by simp
    refine ⟨fun htype hpad hseq => ?_, fun htype h0 h1 => ?_, fun htype h => ?_⟩
    · obtain ⟨hexec, hframe⟩ := exec_and_frame (c := .msgFlitRx c hdr cells []) (l := [.link, .regs]) rfl hwf hrun
        ((hrx htype).trans (State.takeSeq_of_inSequence (hpast.trans hseq) htype hpad))
        (((State.changesOnly.refl s _).flitTaken c).setCourse c _) (State.count_doneEpoch ..)
      exact ⟨_, hexec, by simp [State.nextExpected], by simp [State.nextExpected], by simp [State.nextExpected],
        by simp [State.nextExpected], State.flitTaken_counter hsnap c, hframe⟩
    · obtain ⟨hexec, hframe⟩ := exec_and_frame (c := .msgFlitRx c hdr cells []) (l := [.link, .regs]) rfl hwf hrun
        ((hrx htype).trans (State.takeSeq_of_ahead (by omega) (by omega) cells))
        (((State.changesOnly.refl s _).flitTaken c).setCourse c _) (State.count_doneEpoch ..)
      exact ⟨_, hexec, by simp [State.rxBad], by simp [State.rxBad], by simp [State.rxBad], hframe⟩
    · obtain ⟨hexec, hframe⟩ := exec_and_frame (c := .msgFlitRx c hdr cells []) (l := [.link, .regs]) rfl hwf hrun
        ((hrx htype).trans (State.takeSeq_of_behind (by omega) cells))
        ((State.changesOnly.refl s _).flitTaken c) (State.count_doneEpoch ..)
      exact ⟨_, hexec, State.flitTaken_course_self s c, hframe⟩
  · have hwf : (Instr.idleFlitRx c hdr []).wellFormed = true := by simp [Instr.wellFormed, Instr.units, Instr.partsOk, hc]
    have hrx : opIdleFlitRx c hdr [] s = (s.flitTaken c).takeAck c hdr := by
      rw [opIdleFlitRx, if_pos htype, State.flitRx_of_clear hdel henc hepoch, if_pos (.inl htype)]
    refine ⟨fun hkind => ?_, fun hkind hbuf hcov htx => ?_⟩
    · obtain ⟨hexec, hframe⟩ := exec_and_frame (c := .idleFlitRx c hdr []) (l := [.link, .regs]) rfl hwf hrun
        (hrx.trans (State.takeAck_of_none hkind c)) ((State.changesOnly.refl s _).flitTaken c) (State.count_doneEpoch ..)
      exact ⟨_, hexec, State.flitTaken_course_self s c, State.flitTaken_counter hsnap c, rfl, hframe⟩
    · have hack : (s.flitTaken c).takeAck c hdr = (s.flitTaken c).freeFlits c (fAck hdr) := by simp only [State.takeAck, hkind]
      have hfree := State.freeFlits_of_one (s := s.flitTaken c) (c := c) (ack := fAck hdr) (f := f) (by simpa using hbuf) hcov
        (by simpa using htx)
      obtain ⟨hexec, hframe⟩ := exec_and_frame (c := .idleFlitRx c hdr []) (l := [.link, .regs]) rfl hwf hrun
        (hrx.trans (hack.trans hfree))
        ((changesOnly_link ((State.changesOnly.refl s _).flitTaken c) (by decide) _).setCourse c _) (State.count_doneEpoch ..)
      refine ⟨_, hexec, by simp, ?_, ?_, rfl, rfl, rfl, hframe⟩ <;> rw [State.setCourse_course_self] <;>
        simp [State.flitTaken, State.course, State.setCourse]
  · have hwf : (Instr.courseDown c hdr cell []).wellFormed = true := by simp [Instr.wellFormed, Instr.units, Instr.partsOk, hc]
    have hrx : opCourseDown c hdr cell [] s = ((s.flitTaken c).nextExpected c).peerDown e (fieldNat cell 63 16) := by
      rw [opCourseDown, if_pos htype, State.flitRx_of_sequenced hdel henc hepoch hkind (by omega)]
      simp [State.takeSeq, hseq, htype, hfield, he, State.nextExpected]
    have hcourse : ((s.flitTaken c).nextExpected c).course e = s.course e := by
      rw [State.nextExpected, State.setCourse_course_of_ne _ _ hne, State.flitTaken_course_of_ne s hne]
    obtain ⟨hexec, hframe⟩ := exec_and_frame (c := .courseDown c hdr cell []) (l := [.link, .regs]) rfl hwf hrun
      (hrx.trans (State.peerDown_of_back (by rw [hcourse]; exact hwait) (by rw [hcourse]; exact hheld) hback hnone))
      ((changesOnly_link (((State.changesOnly.refl s _).flitTaken c).setCourse c _) (by decide) _).setCourse e _)
      (State.count_doneEpoch ..)
    refine ⟨_, hexec, ?_, by simp, by simp, rfl, rfl, hframe⟩
    rw [State.setCourse_course_of_ne _ _ (Ne.symm hne)]
    simp [State.nextExpected, State.course, State.setCourse, State.flitTaken]

end Sys2Proof.Machine
end

section
/-! PROOFS. The transmitter (O15): what sending a flit leaves as it was. -/

namespace Sys2Proof.Machine

/-- A state goes on sending on a course: only lanes, and the place of the course's transmitter in its marker period, move. -/
structure State.SendsOn (s t : State) (c : Nat) : Prop where
  frame : s.changesOnly t [.link]
  link : t.link = { s.link with lanes := t.link.lanes, courses := t.link.courses }
  course : t.course c = { s.course c with
    txPos := (t.course c).txPos, mseq := (t.course c).mseq, mapAge := (t.course c).mapAge }

theorem State.SendsOn.refl (s : State) (c : Nat) : s.SendsOn s c := ⟨.refl s _, rfl, rfl⟩

theorem State.SendsOn.trans {s t u : State} {c : Nat} (h : s.SendsOn t c) (k : t.SendsOn u c) : s.SendsOn u c := by
  refine ⟨State.changesOnly.after h.frame k.frame (List.Subset.refl _), ?_, ?_⟩
  · rw [k.link, h.link]
  · rw [k.course, h.course]

theorem State.SendsOn.forAll {α : Type} {c : Nat} {l : List α} {f : α → State → State} (h : ∀ a (t : State), t.SendsOn
    (f a t) c) (s : State) :
    s.SendsOn (Machine.forAll l f s) c := by
  induction l generalizing s with
  | nil => exact .refl s c
  | cons a l ih => rw [forAll_cons]; exact (h a s).trans (ih _)

theorem State.sendsOn_setLane (s : State) (c l : Nat) (f : Lane → Lane) : s.SendsOn (s.setLane c l f) c :=
  ⟨(State.changesOnly.refl s _).setLane c l f, rfl, rfl⟩

theorem State.sendsOn_setCourse (s : State) (c : Nat) {f : Course → Course}
    (hf : ∀ x, f x = { x with txPos := (f x).txPos, mseq := (f x).mseq, mapAge := (f x).mapAge }) : s.SendsOn
        (s.setCourse c f) c := by
  refine ⟨(State.changesOnly.refl s _).setCourse c f, rfl, ?_⟩
  rw [State.setCourse_course_self]
  exact hf _

theorem State.sendsOn_sendMarkers (s : State) (c j : Nat) : s.SendsOn (s.sendMarkers c j) c := by
  unfold State.sendMarkers
  dsimp only
  split
  · exact (State.SendsOn.forAll (fun _ t => t.sendsOn_setLane c _ _) s).trans (State.sendsOn_setCourse _ c fun _ => rfl)
  · exact .refl s c

theorem State.sendsOn_sendSlot (s : State) (c : Nat) (flit : List Byte) (j : Nat) : s.SendsOn (s.sendSlot c flit j) c :=
  ((s.sendsOn_sendMarkers c j).trans (State.SendsOn.forAll (fun _ t => t.sendsOn_setLane c _ _) _)).trans
    (State.sendsOn_setCourse _ c fun _ => rfl)

/-- A flit leaves on a course none of whose lanes is to move to the spare. -/
theorem State.sendsOn_sendFlit {s : State} {c : Nat} (h : (s.course c).switchTx = none) (flit : List Byte) :
    s.SendsOn (s.sendFlit c flit) c := by
  have hslots := (State.SendsOn.forAll (l := List.range 17) (c := c)
    (fun p t => t.sendsOn_setLane c p (fun y => { y with sent := [], words := [] })) s).trans
    (State.SendsOn.forAll (l := List.range 4) (fun j t => t.sendsOn_sendSlot c flit j) _)
  have hswitch := congrArg Course.switchTx hslots.course
  rw [h] at hswitch
  simp only [State.sendFlit, hswitch]
  exact hslots.trans (State.sendsOn_setCourse _ c fun _ => rfl)

theorem State.countBy_counter_of_ne {s : State} {off o : Nat} (h : o ≠ off) (k : Nat) :
    (s.countBy off k).counter o = s.counter o := by
  unfold State.countBy State.counter
  cases s.regs.snapBusy <;> simp [Tbl.get_upd_ne _ _ h]

theorem State.count_counter_of_ne {s : State} {off o : Nat} (h : o ≠ off) : (s.count off).counter o = s.counter o :=
  State.countBy_counter_of_ne h 1

theorem State.countBy_snapBusy (s : State) (off k : Nat) : (s.countBy off k).regs.snapBusy = s.regs.snapBusy := by
  unfold State.countBy
  cases h : s.regs.snapBusy <;> simp [h]

/-- A flit is counted as sent, and a NAK with it. -/
def State.countSent (s : State) (c : Nat) (nak : Bool) : State :=
  when nak (fun t => t.count (crsAt c 0x138)) (s.count (crsAt c 0x100))

@[simp] theorem State.countSent_link (s : State) (c : Nat) (nak : Bool) : (s.countSent c nak).link = s.link := by cases nak <;> rfl

@[simp] theorem State.countSent_course (s : State) (c d : Nat) (nak : Bool) : (s.countSent c nak).course d = s.course d := by
  simp [State.course]

theorem State.countSent_frame {s t : State} {m : List Part} (h : s.changesOnly t m) (c : Nat) (nak : Bool)
    (hm : Part.regs ∈ m := by decide) : s.changesOnly (t.countSent c nak) m := by
  cases nak
  · exact h.count _ hm
  · exact (h.count _ hm).count _ hm

theorem State.countSent_doneEpoch (s : State) (c : Nat) (nak : Bool) : (s.countSent c nak).regs.doneEpoch = s.regs.doneEpoch := by
  cases nak <;> simp [State.countSent, when]

theorem State.countSent_counter {s : State} (h : s.regs.snapBusy = false) (c : Nat) (nak : Bool) :
    (s.countSent c nak).counter (crsAt c 0x100) = s.counter (crsAt c 0x100) + 1#64 := by
  cases nak with
  | false => exact State.count_counter_self h _
  | true => exact (State.count_counter_of_ne (by simp [crsAt])).trans (State.count_counter_self h _)

/-- What a flit in clear leaves when it is sent on a course none of whose lanes is to move to the spare: the course keeps the flit and
owes no NAK, and the flit counts. -/
structure State.SentClear (s t : State) (c : Nat) (hdr : BitVec 64) (cells : List Cell) : Prop where
  frame : s.changesOnly t [.link, .regs]
  link : t.link = { s.link with lanes := t.link.lanes, courses := t.link.courses }
  doneEpoch : t.regs.doneEpoch = s.regs.doneEpoch
  counter : s.regs.snapBusy = false → t.counter (crsAt c 0x100) = s.counter (crsAt c 0x100) + 1#64
  course : ∃ last : TxFlit, last.header = hdr ∧ last.cells = cells ∧ t.course c = { s.course c with
    nakDue := false, last := some last, txPos := (t.course c).txPos, mseq := (t.course c).mseq, mapAge := (t.course c).mapAge }

theorem State.sentClear_of_base {s : State} {c : Nat} {hdr : BitVec 64} {cells : List Cell} {y : Course} (last : TxFlit)
    (hhdr : last.header = hdr) (hcells : last.cells = cells) (hy : y = { s.course c with nakDue := false, last := some last })
    (hswitch : (s.course c).switchTx = none) (flit : List Byte) :
    s.SentClear (((s.setCourse c (fun _ => y)).countSent c (s.course c).nakDue).sendFlit c flit) c hdr cells := by
  have hframe : s.changesOnly ((s.setCourse c (fun _ => y)).countSent c (s.course c).nakDue) [.link, .regs] :=
    State.countSent_frame ((State.changesOnly.refl s _).setCourse c _) c _
  have hepoch := State.countSent_doneEpoch (s.setCourse c (fun _ => y)) c (s.course c).nakDue
  have hcount (h : s.regs.snapBusy = false) :=
    State.countSent_counter (s := s.setCourse c (fun _ => y)) h c (s.course c).nakDue
  have hcourse : ((s.setCourse c (fun _ => y)).countSent c (s.course c).nakDue).course c = y := by simp
  have hlink : ((s.setCourse c (fun _ => y)).countSent c (s.course c).nakDue).link = (s.setCourse c (fun _ => y)).link := by simp
  generalize (s.setCourse c (fun _ => y)).countSent c (s.course c).nakDue = u at hframe hepoch hcount hcourse hlink ⊢
  have hsent := State.sendsOn_sendFlit (s := u) (c := c) (by rw [hcourse, hy]; exact hswitch) flit
  generalize u.sendFlit c flit = t at hsent ⊢
  refine ⟨hframe.after hsent.frame (by decide), ?_, ?_, fun hsnap => ?_, last, hhdr, hcells, ?_⟩
  · rw [hsent.link, hlink]; rfl
  · rw [hsent.frame.regs_eq, hepoch]; rfl
  · rw [State.counter, hsent.frame.regs_eq]; exact hcount hsnap
  · rw [hsent.course, hcourse, hy]

theorem State.emit_of_clear {s : State} {c : Nat} (henc : (s.course c).encrypted = false) (hswitch : (s.course c).switchTx = none)
    (ftype seq r w m : Nat) (cells : List Cell) :
    s.SentClear (s.emit c ftype seq r w m cells) c
      (flitHdr ftype (seq + 4095) ((s.course c).expect + 4095) (if (s.course c).nakDue then 2 else 1) r w m 0) cells := by
  unfold State.emit
  simp only [henc, Bool.false_and, Bool.false_eq_true, if_false, b2n, Nat.add_zero]
  generalize hlast : (TxFlit.mk _ cells _ _ _) = last
  generalize hflit : flitBytes _ _ _ = flit
  exact State.sentClear_of_base last (by rw [← hlast]) (by rw [← hlast]) (by simp [henc]) hswitch flit

/-! ### What the transmitter chooses -/

/-- The state with another queue of messages to send. -/
def State.withQueue (s : State) (q : List UpMsg) : State := { s with link := { s.link with upQ := q } }

@[simp] theorem State.withQueue_course (s : State) (q : List UpMsg) (c : Nat) : (s.withQueue q).course c = s.course c := rfl

@[simp] theorem State.withQueue_link (s : State) (q : List UpMsg) : (s.withQueue q).link = { s.link with upQ := q } := rfl

@[simp] theorem State.withQueue_trx (s : State) (q : List UpMsg) : (s.withQueue q).trx = s.trx := rfl

theorem State.changesOnly.withQueue {s t : State} {m : List Part} (h : s.changesOnly t m) (q : List UpMsg)
    (hm : Part.link ∈ m := by decide) : s.changesOnly (t.withQueue q) m := changesOnly_link h hm _

section
variable {s : State} {c : Nat} (hdel : s.delivers c = true) (htx : (s.course c).tx = .run) (hroom :
    (s.course c).buffer.length < 256)
  (hdowns : (s.course c).downs = []) (hloop : s.rpr.loop = none)
include hdel htx hroom hdowns hloop

theorem State.flitTx_of_run : s.flitTx c = match takeFit 30 s.link.upQ with
    | (m :: l, rest) => (s.withQueue rest).newFlit c 1 (m :: l)
    | ([], _) => if s.creditsDue then s.newFlit c 1 [] else s.emit c 0 (s.course c).next 0 0 0 [] := by
  obtain ⟨hdom, hup⟩ : s.domOn 1 = true ∧ (s.course c).up = true := by simpa [State.delivers] using hdel
  have hsends : s.sends c = true := by simp [State.sends, hdom, htx, hloop]
  have hfew : ¬ 256 ≤ (s.course c).buffer.length := by omega
  simp only [State.flitTx, hsends, htx, hup, hdowns, hfew, Bool.not_true, Bool.false_eq_true, if_false]
  rfl

theorem State.flitTx_of_idle (hq : s.link.upQ = []) (hcr : s.creditsDue = false) :
    s.flitTx c = s.emit c 0 (s.course c).next 0 0 0 [] := by
  simp [State.flitTx_of_run hdel htx hroom hdowns hloop, hq, hcr, takeFit]

theorem State.flitTx_of_one {m : UpMsg} (hq : s.link.upQ = [m]) (hlen : m.cells.length ≤ 30) :
    s.flitTx c = (s.withQueue []).newFlit c 1 [m] := by
  simp [State.flitTx_of_run hdel htx hroom hdowns hloop, hq, hlen, takeFit]
end

theorem State.placed_of_plain {m : UpMsg} (hlen : m.cells.length ≠ 1) (hdone : m.done = .nothing) (hfence : m.fenceOf = none)
    (s : State) : s.placed m = s := by simp [State.placed, hlen, hdone, hfence, when]

theorem State.releaseHeld_of_none {s : State} (h : s.trx.reqs = []) : s.releaseHeld = s := by simp [State.releaseHeld, h]

/-- A new flit is numbered and stored, and the pending returns go with it. -/
def State.flitStored (s : State) (c ftype : Nat) (msgs : List UpMsg) : State :=
  ({ s with link := { s.link with
    req := s.link.req.fly (min s.link.req.pending 255), wd := s.link.wd.fly (min s.link.wd.pending 1023)
    mgt := s.link.mgt.fly (min s.link.mgt.pending 15), crWaited := false } } : State).setCourse c (fun x => { x with
      next := x.next + 1, buffer := x.buffer ++ [⟨x.next, ftype, msgs, min s.link.req.pending 255, min s.link.wd.pending 1023,
        min s.link.mgt.pending 15, 0⟩] })

@[simp] theorem State.flitStored_course (s : State) (c ftype : Nat) (msgs : List UpMsg) :
    (s.flitStored c ftype msgs).course c = { s.course c with
      next := (s.course c).next + 1
      buffer := (s.course c).buffer ++ [⟨(s.course c).next, ftype, msgs, min s.link.req.pending 255, min s.link.wd.pending 1023,
        min s.link.mgt.pending 15, 0⟩] } := State.setCourse_course_self ..

/-- A flit of one message that completes nothing. -/
theorem State.newFlit_of_plain {s : State} {m : UpMsg} (hlen : m.cells.length ≠ 1) (hdone : m.done = .nothing)
    (hfence : m.fenceOf = none) (hreqs : s.trx.reqs = []) (c : Nat) (henc : (s.course c).encrypted = false)
    (hswitch : (s.course c).switchTx = none) :
    s.newFlit c 1 [m] = (s.flitStored c 1 [m]).emit c 1 ((s.course c).next + 1) (min s.link.req.pending 255)
      (min s.link.wd.pending 1023) (min s.link.mgt.pending 15) m.cells := by
  have hsent := State.emit_of_clear (s := s.flitStored c 1 [m]) (c := c) (by simpa using henc) (by simpa using hswitch) 1
    ((s.course c).next + 1) (min s.link.req.pending 255) (min s.link.wd.pending 1023) (min s.link.mgt.pending 15) m.cells
  have htrx : ((s.flitStored c 1 [m]).emit c 1 ((s.course c).next + 1) (min s.link.req.pending 255)
      (min s.link.wd.pending 1023) (min s.link.mgt.pending 15) m.cells).trx.reqs = [] := by
    rw [hsent.frame.trx_eq]; exact hreqs
  have hcells : [m].flatMap (fun m => m.cells) = m.cells := by simp
  rw [State.newFlit, hcells]
  change (forAll [m] (fun m t => t.placed m) ((s.flitStored c 1 [m]).emit c 1 ((s.course c).next + 1) (min s.link.req.pending 255)
      (min s.link.wd.pending 1023) (min s.link.mgt.pending 15) m.cells)).releaseHeld = _
  rw [forAll_cons, forAll_nil, State.placed_of_plain hlen hdone hfence, State.releaseHeld_of_none htrx]

/-- Settles O15, by what sending a flit in clear leaves. -/
theorem transmitterSendsIdleOrMessages : Obligations.TransmitterSendsIdleOrMessages := by
  intro s c m hrun hc hdel htx hroom hdowns hswitch henc hsnap hloop
  have hwf : (Instr.flitTx c).wellFormed = true := by simp [Instr.wellFormed, Instr.units, Instr.partsOk, hc]
  refine ⟨fun hq hcr => ?_, fun hq hlen hlen1 hdone hfence hreqs => ?_⟩
  · have hsent := State.emit_of_clear henc hswitch 0 (s.course c).next 0 0 0 []
    have hidle := State.flitTx_of_idle hdel htx hroom hdowns hloop hq hcr
    generalize s.emit c 0 (s.course c).next 0 0 0 [] = t at hsent hidle
    obtain ⟨last, hhdr, -, hcourse⟩ := hsent.course
    obtain ⟨hexec, hframe⟩ := exec_and_frame (c := .flitTx c) (l := [.link, .regs]) rfl hwf hrun hidle hsent.frame hsent.doneEpoch
    refine ⟨t, hexec, ?_, ?_, ?_, ?_, hsent.counter hsnap, hframe⟩ <;> rw [hcourse]
    simp [hhdr]
  · have hstored : s.changesOnly ((s.withQueue []).flitStored c 1 [m]) [.link, .regs] :=
      (changesOnly_link ((State.changesOnly.refl s _).withQueue []) (by decide) _).setCourse c _
    have hsent := State.emit_of_clear (s := (s.withQueue []).flitStored c 1 [m]) (c := c) (by simpa using henc)
      (by simpa using hswitch) 1 ((s.course c).next + 1) (min s.link.req.pending 255) (min s.link.wd.pending 1023)
      (min s.link.mgt.pending 15) m.cells
    have hone := (State.flitTx_of_one hdel htx hroom hdowns hloop hq hlen).trans
      (State.newFlit_of_plain (s := s.withQueue []) hlen1 hdone hfence hreqs c henc hswitch)
    simp only [State.withQueue_course, State.withQueue_link] at hone
    generalize ((s.withQueue []).flitStored c 1 [m]).emit c 1 ((s.course c).next + 1) (min s.link.req.pending 255)
      (min s.link.wd.pending 1023) (min s.link.mgt.pending 15) m.cells = t at hsent hone
    obtain ⟨last, -, hcells, hcourse⟩ := hsent.course
    rw [State.flitStored_course] at hcourse
    obtain ⟨hexec, -⟩ := exec_and_frame (c := .flitTx c) (l := [.link, .regs]) rfl hwf hrun hone
      (hstored.after hsent.frame (by decide)) hsent.doneEpoch
    refine ⟨t, hexec, ?_, ?_, ?_, ?_, ?_, ?_, hsent.counter hsnap⟩
    · rw [hcourse]; rfl
    · rw [hsent.link]; rfl
    · rw [hcourse]; rfl
    · rw [hsent.link]; rfl
    · rw [hsent.link]; rfl
    · rw [hcourse]; simp [hcells]

end Sys2Proof.Machine
end

section
/-! PROOFS. Fencing a course (R149 to R151), and the timers of the link (O16): what becomes of the course and of the others. -/

namespace Sys2Proof.Machine

/-! ### Marks -/

/-- A list of marks names a unit. -/
def namesUnit (l : List FenceMark) (u : FUnit) (i : Nat) : Bool := l.any (fun m => m.unit == u && m.index == i)

theorem State.marked_eq (s : State) (u : FUnit) (i : Nat) : s.marked u i = namesUnit s.flt.marks u i := by
  rw [Bool.eq_iff_iff]
  simp [State.marked, State.mark, namesUnit]

theorem namesUnit_addMark (l : List FenceMark) (u : FUnit) (i reason : Nat) : namesUnit (addMark l u i reason) u i = true := by
  unfold addMark
  split
  next h =>
    obtain ⟨m, hm, hnames⟩ := List.any_eq_true.1 h
    refine List.any_eq_true.2 ⟨_, List.mem_map_of_mem hm, ?_⟩
    split <;> simpa using hnames
  next => simp [namesUnit]

theorem State.flt_marks_of_only {s t : State} (h : t.only [.flt] = s.only [.flt]) : t.flt.marks = s.flt.marks :=
  congrArg (fun x => x.flt.marks) h

theorem State.bumpGen_marks (s : State) : s.bumpGen.flt.marks = s.flt.marks := by
  unfold State.bumpGen
  split <;> rfl

/-- The unit stands marked once it is fenced, and no other mark moves. -/
theorem State.fenceUnit_marks (s : State) (u : FUnit) (i reason : Nat) (cause : Option (Nat × Nat)) :
    (s.fenceUnit u i reason cause).flt.marks = addMark s.flt.marks u i reason := by
  unfold State.fenceUnit
  extract_lets first src t1 t2 shown t3 t4
  have h2 : t2.flt.marks = addMark s.flt.marks u i reason := by
    cases cause with
    | none => rfl
    | some x => exact State.flt_marks_of_only (State.keepCause_only (by simp) _ _)
  have h4 : t4.flt.marks = addMark s.flt.marks u i reason := by
    rw [← h2]
    exact State.flt_marks_of_only (by simp [t4, t3])
  cases first with
  | true => exact (State.flt_marks_of_only (State.cutUnit_only (by simp) _ _ _)).trans (t4.bumpGen_marks.trans h4)
  | false => exact h4

theorem State.fenceUnit_marked (s : State) (u : FUnit) (i reason : Nat) (cause : Option (Nat × Nat)) :
    (s.fenceUnit u i reason cause).marked u i = true := by
  rw [State.marked_eq, State.fenceUnit_marks, namesUnit_addMark]

theorem namesUnit_addMark_of {l : List FenceMark} {u : FUnit} {i : Nat} (h : namesUnit l u i = true) (v : FUnit) (j reason : Nat) :
    namesUnit (addMark l v j reason) u i = true := by
  obtain ⟨m, hm, hnames⟩ := List.any_eq_true.1 h
  unfold addMark
  split
  · refine List.any_eq_true.2 ⟨_, List.mem_map_of_mem hm, ?_⟩
    split <;> exact hnames
  · exact List.any_eq_true.2 ⟨m, List.mem_append_left _ hm, hnames⟩

theorem State.fatalFault_marks (s : State) (source code reason : Nat) :
    (s.fatalFault source code reason).flt.marks = addMark s.flt.marks .inst 0 reason := by
  unfold State.fatalFault
  extract_lets src t1 t2 t3 t4 t5
  have h2 : t2.flt.marks = addMark s.flt.marks .inst 0 reason := State.flt_marks_of_only (State.event_only (by simp) ..)
  have h3 : t3.flt.marks = t2.flt.marks := State.flt_marks_of_only (State.noteChannels_only (by simp) ..)
  have h4 : t4.flt.marks = t3.bumpGen.flt.marks :=
    State.flt_marks_of_only (State.only_forAll (fun r t => State.fail_only (by simp) ..) _ _)
  have h5 : t5.flt.marks = t4.flt.marks := State.flt_marks_of_only (State.cutUnit_only (by simp) ..)
  have hgen := t3.bumpGen_marks
  clear_value t1 t2 t3 t4 t5
  split
  · exact h2
  · exact h5.trans (h4.trans (hgen.trans (h3.trans h2)))

/-! ### One change for every course of a list -/

theorem forAll_course_of_not_mem {f : Nat → State → State} (hf : ∀ a t e, e ≠ a → (f a t).course e = t.course e) {l : List Nat}
    {d : Nat} (hd : d ∉ l) (s : State) : (forAll l f s).course d = s.course d := by
  induction l generalizing s with
  | nil => rfl
  | cons a l ih =>
    rw [List.mem_cons, not_or] at hd
    rw [forAll_cons, ih hd.2, hf a s d hd.1]

theorem forAll_course_of_mem {f : Nat → State → State} (hf : ∀ a t e, e ≠ a → (f a t).course e = t.course e) {g : Course → Course}
    {d : Nat} (hg : ∀ t : State, (f d t).course d = g (t.course d)) {l : List Nat} (hl : l.Nodup) (hd : d ∈ l) (s : State) :
    (forAll l f s).course d = g (s.course d) := by
  induction l generalizing s with
  | nil => exact absurd hd List.not_mem_nil
  | cons a l ih =>
    obtain ⟨ha, hl⟩ := List.nodup_cons.1 hl
    rw [forAll_cons]
    rcases List.mem_cons.1 hd with rfl | hd
    · rw [forAll_course_of_not_mem hf ha, hg]
    · rw [ih hl hd, hf a s d (fun h => ha (h ▸ hd))]

/-! ### A course that is fenced -/

/-- Every up course is to report a fence. -/
def State.announce (s : State) (cell : Cell) : State :=
  forAll (List.range 12) (fun d t => if (t.course d).up then t.setCourse d (fun x => { x with downs := x.downs ++
      [cell] }) else t) s

theorem State.announce_course {s : State} {d : Nat} (hd : d < 12) (cell : Cell) :
    (s.announce cell).course d = if (s.course d).up then { s.course d with downs := (s.course d).downs ++
        [cell] } else s.course d := by
  refine forAll_course_of_mem (g := fun x => if x.up then { x with downs := x.downs ++ [cell] } else x) (fun a t e he => ?_)
    (fun t => ?_) List.nodup_range (List.mem_range.2 hd) s
  · split
    · exact State.setCourse_course_of_ne _ _ he
    · rfl
  · split <;> simp_all

@[simp] theorem State.announce_only {K : List Piece} (hK : .courses ∉ K) (s : State) (cell : Cell) :
    (s.announce cell).only K = s.only K := by simp [State.announce, hK]

theorem State.courses_of_only {s t : State} (h : t.only [.courses] = s.only [.courses]) (c : Nat) : t.course c = s.course c :=
  congrArg (fun x => x.course c) h

theorem State.followRef_course (s : State) (c : Nat) : s.followRef.course c = s.course c :=
  State.courses_of_only (State.followRef_only (by simp) s) c

/-- What a fence leaves: the course fenced and marked, and what the others report. -/
structure State.CourseFenced (s t : State) (c : Nat) (r : CourseReason) : Prop where
  tx : (t.course c).tx = .fenced
  up : (t.course c).up = false
  why : (t.course c).fenceWhy = some r
  failAt : (t.course c).failAt = none
  marked : t.marked .course c = true
  downs : ∀ d, d < 12 → d ≠ c → (s.course d).up = true →
    (t.course d).downs = (s.course d).downs ++ [courseDownCell c r.num (((s.course c).expect + 2 ^ 48 - 1) % 2 ^ 48)]

/-- The end of a loopback on a course that is fenced leaves every course. -/
theorem State.loopEnd_courses {s : State} {x : Loop} (hloop : s.rpr.loop = some x) (htx : (s.course x.course).tx = .fenced) :
    s.loopEnd.only [.courses, .flt] = s.only [.courses, .flt] := by
  have htx' : ¬ (({ s with rpr := { s.rpr with loop := none } } : State).course x.course).tx = .down := by
    rw [show ({ s with rpr := { s.rpr with loop := none } } : State).course x.course = s.course x.course from rfl, htx]
    decide
  simp only [State.loopEnd, hloop, if_neg htx']
  simp

/-- A course that is fenced, with the flits that it holds for the host's answer. -/
def Course.fencedWith (x : Course) (why : CourseReason) (l : List SentFlit) : Course :=
  { x.still with
    tx := .fenced, fenceWhy := some why, held := x.still.held ++ l, buffer := [], run := [], nakWait := false, nakDue := false
    waitPeer := true, retrainAt := none, limitAt := none, downs := [] }

theorem State.fenceCourse_of_live {s : State} {c : Nat} (htx : (s.course c).tx ≠ .fenced) (hc : c < 12) (why : CourseReason) :
    s.CourseFenced (s.fenceCourse c why) c why := by
  unfold State.fenceCourse
  extract_lets was t1 t2 t3 accepted t4 r t5 t6 t7 t8
  have hm1 : namesUnit t1.flt.marks .course c = true := (State.marked_eq ..).symm.trans (s.fenceUnit_marked .course c why.num none)
  have hwas : was = false := decide_eq_false htx
  have h3 (d : Nat) : t3.course d = s.course d := State.courses_of_only (by simp [t3, t2, t1]) d
  have h4 (d : Nat) : r.2.course d = s.course d := (State.courses_of_only (by simp [r, t4]) d).trans (h3 d)
  have ha : accepted = ((s.course c).expect + 2 ^ 48 - 1) % 2 ^ 48 := by rw [← h3]
  have h5c : t5.course c = (s.course c).fencedWith why r.1 := by
    simp only [t5, State.setCourse_course_self, h4, Course.fencedWith]
  have h5 {d : Nat} (hd : d ≠ c) : t5.course d = s.course d := by
    simp only [t5, State.setCourse_course_of_ne _ _ hd, h4]
  have hm5 : t5.flt.marks = t1.flt.marks := State.flt_marks_of_only (by simp [t5, r, t4, t3, t2])
  have h6 : t6 = t5.announce (courseDownCell c why.num accepted) := rfl
  clear_value t1 t2 t3 t4 r t5 accepted
  have h6c : t6.course c = t5.course c := by rw [h6, State.announce_course hc, h5c]; rfl
  have h6d {d : Nat} (hd : d < 12) (hne : d ≠ c) (hup : (s.course d).up = true) :
      (t6.course d).downs = (s.course d).downs ++ [courseDownCell c why.num accepted] := by
    rw [h6, State.announce_course hd, h5 hne, if_pos hup]
  have hm6 : t6.flt.marks = t5.flt.marks := by rw [h6]; exact State.flt_marks_of_only (State.announce_only (by simp) ..)
  clear_value t6
  have h7 : t7.only [.courses, .flt] = t6.only [.courses, .flt] := by
    simp only [t7]
    split
    next x hx =>
      split
      next h => exact State.loopEnd_courses hx (by rw [h.1, h6c, h5c]; rfl)
      next => rfl
    next => rfl
  have h8 : t8.only [.courses, .flt] = t6.only [.courses, .flt] := (State.followRef_only (by simp) t7).trans h7
  clear_value t7 t8
  have hcourse (d : Nat) : t8.course d = t6.course d := congrArg (fun t => t.course d) h8
  have hnames : namesUnit t8.flt.marks .course c = true := by
    rw [show t8.flt.marks = t6.flt.marks from congrArg (fun t => t.flt.marks) h8, hm6, hm5, hm1]
  have hend {u : State} (hu : ∀ d, u.course d = t8.course d) (hm : namesUnit u.flt.marks .course c = true) :
      s.CourseFenced u c why := by
    have huc : u.course c = (s.course c).fencedWith why r.1 := (hu c).trans ((hcourse c).trans (h6c.trans h5c))
    refine ⟨by rw [huc]; rfl, by rw [huc]; rfl, by rw [huc]; rfl, by rw [huc]; rfl, by rw [State.marked_eq, hm],
      fun d hd hne hup => ?_⟩
    rw [hu, hcourse, h6d hd hne hup, ha]
  rw [hwas]
  dsimp only
  split
  · exact hend (fun d => State.courses_of_only (State.fatalFault_only (by simp) ..) d)
      (by rw [State.fatalFault_marks]; exact namesUnit_addMark_of hnames ..)
  · exact hend (fun _ => rfl) hnames

/-! ### The timers of the link -/

theorem State.withInputs_only {K : List Piece} (hK : .inputs ∉ K ∧ .pending ∉ K) (s t : State) :
    (s.withInputs t).only K = t.only K := by simp [State.withInputs, State.only, PinSt.only, hK]

/-- A command of `act` in a running state leaves its effect, but for the pieces that its way to the partner and the inputs touch. -/
theorem exec_seen {c : Instr} {s u : State} (h : exec c s = act c.wellFormed s u) (hwf : c.wellFormed = true)
    (hrun : s.running = true)
    (K : List Piece) (hK : (.regs ∉ K ∧ .sec ∉ K ∧ .pair ∉ K ∧ .free ∉ K) ∧ .inputs ∉ K ∧ .pending ∉ K := by decide) :
    ∃ t, exec c s = .next t ∧ t.only K = u.only K :=
  ⟨_, exec_of_act h hwf hrun, (State.withInputs_only hK.2 s _).trans (State.mirrorFrom_only hK.1 s u)⟩

theorem State.CourseFenced.of_only {s t u : State} {c : Nat} {why : CourseReason} (h : s.CourseFenced t c why)
    (hu : u.only [.courses, .flt] = t.only [.courses, .flt]) : s.CourseFenced u c why := by
  have hcourse (d : Nat) : u.course d = t.course d := congrArg (fun x => x.course d) hu
  have hmarks : u.flt.marks = t.flt.marks := congrArg (fun x => x.flt.marks) hu
  refine ⟨by rw [hcourse, h.tx], by rw [hcourse, h.up], by rw [hcourse, h.why], by rw [hcourse, h.failAt], ?_,
      fun d hd hne hup => ?_⟩
  · rw [State.marked_eq, hmarks, ← State.marked_eq, h.marked]
  · rw [hcourse, h.downs d hd hne hup]

theorem State.rf_of_only {s t : State} (h : t.only [.conf] = s.only [.conf]) (f : Field) : t.rf f = s.rf f :=
  congrArg (fun x => x.rf f) h

/-- The replay timer of a course in RUN with one flit to resend, whose replay count stays within its limit. -/
theorem State.replayTimeout_of_one {s : State} {c : Nat} {f : SentFlit} (hdom : s.domOn 1 = true) (htx : (s.course c).tx = .run)
    (hbuf : (s.course c).buffer = [f]) (hlimit : f.replays + 1 ≤ s.rf RF.LNK_REPLAY_LIMIT) :
    s.replayTimeout c = s.startReplay c true := by
  have hrec : s.receives c = true := by simp [State.receives, hdom, htx]
  have hbuf' : ((s.startReplay c true).course c).buffer = [{ f with replays := f.replays + 1 }] := by
    simp [State.startReplay, hbuf, b2n]
  have hrf : (s.startReplay c true).rf RF.LNK_REPLAY_LIMIT = s.rf RF.LNK_REPLAY_LIMIT :=
    State.rf_of_only (by simp) _
  have hfew : ¬ s.rf RF.LNK_REPLAY_LIMIT < f.replays + 1 := by omega
  simp [State.replayTimeout, hrec, State.replayEvent, hbuf, hbuf', htx, hrf, hfew]

/-- Settles O16. -/
theorem linkTimersAct : Obligations.LinkTimersAct := by
  intro s c d f dl hrun hc hd hne
  refine ⟨fun hdom htx hbuf hlimit => ?_, fun hrec hnak => ?_, fun hpending => ?_, fun htx hlimit hdue hup hlive hloop => ?_⟩
  · obtain ⟨hexec, hframe⟩ := exec_and_frame (c := .replayTimeout c) (l := [.link, .regs]) rfl
      (by simp [Instr.wellFormed, Instr.units, Instr.partsOk, hc]) hrun (State.replayTimeout_of_one hdom htx hbuf hlimit)
      (((State.changesOnly.refl s _).setCourse c _).count _) (State.count_doneEpoch ..)
    refine ⟨_, hexec, ?_, ?_, ?_, hframe⟩ <;> simp [State.startReplay, hbuf, b2n]
  · obtain ⟨hexec, hframe⟩ := exec_and_frame (c := .nakResend c) (l := [.link]) rfl
      (by simp [Instr.wellFormed, Instr.units, Instr.partsOk, hc]) hrun
      (show s.nakAgain c = s.setCourse c (fun x => { x with nakDue := true }) by simp [State.nakAgain, hrec, hnak])
      ((State.changesOnly.refl s _).setCourse c _) rfl
    exact ⟨_, hexec, by simp, hframe⟩
  · obtain ⟨hexec, hframe⟩ := exec_and_frame (c := .crWait) (l := [.link]) rfl rfl hrun
      (show s.crWaits = { s with link := { s.link with crWaited := true } } by simp [State.crWaits, hpending])
      (changesOnly_link (State.changesOnly.refl s _) (by decide) _) rfl
    exact ⟨_, hexec, rfl, hframe⟩
  · have hother : s.otherUp c = true := by
      simp only [State.otherUp, List.any_eq_true, List.mem_range]
      exact ⟨d, hd, by simp [hne, hup]⟩
    have hover : opRetrainLimit c s = s.fenceCourse c .retrain := by
      simp [opRetrainLimit, State.retrainOver, htx, hlimit, hother, hdue]
    obtain ⟨t, hexec, hseen⟩ := exec_seen (c := .retrainLimit c) (u := opRetrainLimit c s) rfl
      (by simp [Instr.wellFormed, Instr.units, Instr.partsOk, hc]) hrun [.courses, .flt]
    have hfenced := (State.fenceCourse_of_live (s := s) (by rw [htx]; decide) hc .retrain).of_only (hover ▸ hseen)
    exact ⟨t, hexec, hfenced.tx, hfenced.up, hfenced.why, hfenced.marked, hfenced.downs d hd hne hup⟩

end Sys2Proof.Machine
end

section
/-! PROOFS. A register access ends the delayed entry of its channel group. The statements about an access that is done at once
exclude only an entry of the domain itself that is delayed, so the power controller changes where they say that it does not (O32,
O33, O53). -/

-- The kernel evaluates each witness in turn.
set_option Elab.async false

namespace Sys2Proof.Machine

/-- The running machine, which the wrapper may access, with an entry of channel group 0 to self-refresh delayed. -/
def delayedState : State :=
  { readyState with
    pins := { readyState.pins with wrstN := true }
    pwr := { readyState.pwr with cgs := readyState.pwr.cgs.upd 0 (fun x => { x with delay := some (.selfRefresh, 200000) }) } }

/-- An access by the wrapper. -/
def wrapperAccess : Access := ⟨.wrapper, 0, false, false⟩

/-- CM_REG's data register for a read of the first counter of channel 0, at word 0x20040. -/
def counterRead : BitVec 56 := 0x20040000000000#56

/-! ### What the three statements ask of the state -/

theorem delayedState_writeOpen :
    (delayedState.writeOpen wrapperAccess (4 * 0x20200) 0#32) ∧ regKind (4 * 0x20200) = .reg .chn 0 0x800 false ∧
      fieldsOfWord .chn 0x800 = [(RF.CHN_BASE, 0)] ∧ delayedState.wordDomain (pathNum wrapperAccess.path) (4 * 0x20200) ≠ 0 := by
  refine ⟨?_, by decide +kernel, by decide +kernel, by decide +kernel⟩
  unfold State.writeOpen
  decide +kernel

theorem delayedState_readable :
    delayedState.running = true ∧ delayedState.pathWaits 2 = false ∧ delayedState.closedTo .smpSession (4 * 0x20040) = false ∧
      delayedState.domOn (delayedState.wordDomain 2 (4 * 0x20040)) = true ∧
      (delayedState.dom (delayedState.wordDomain 2 (4 * 0x20040))).delay = none ∧
      regKind (4 * 0x20040) = .counter .chn 0x80100 false false ∧ delayedState.pageRead .chn ≤ 0 := by decide +kernel

theorem delayedState_wrapperReads :
    delayedState.pins.pwrGood = true ∧ delayedState.running = true ∧ delayedState.pins.wrstN = true ∧
      delayedState.rpr.cmBusy = false ∧ delayedState.sec.lock = false ∧ delayedState.pathWaits (pathNum .wrapper) = false ∧
      delayedState.domOn (delayedState.wordDomain (pathNum .wrapper) (4 * fieldNat counterRead 54 36)) = true ∧
      (delayedState.dom (delayedState.wordDomain (pathNum .wrapper) (4 * fieldNat counterRead 54 36))).delay = none ∧
      bitAt counterRead 55 = false ∧ regKind (4 * fieldNat counterRead 54 36) = .counter .chn 0x80100 false false := by
  decide +kernel

/-! ### What the accesses do -/

/-- The refusals that the power controller has counted in an outcome's next state. -/
def refusalsAfter (o : Host.Outcome State Fault Refusal) : Option Nat :=
  match o with
  | .next t => some t.pwr.refusals
  | _ => none

theorem refusalsAfter_eq {o : Host.Outcome State Fault Refusal} {t s : State} {l : List Part} (ho : o = .next t)
    (hl : s.changesOnly t l) (hp : Part.pwr ∉ l) : refusalsAfter o = some s.pwr.refusals := by
  have hpwr : t.pwr = s.pwr := hl .pwr hp
  rw [ho, refusalsAfter, hpwr]

theorem delayedState_written :
    refusalsAfter (exec (.registerWrite wrapperAccess 0x20200 0#32) delayedState) ≠ some delayedState.pwr.refusals :=
        by decide +kernel

theorem delayedState_counterRead :
    refusalsAfter (exec (.counterLowRead ⟨.smpSession, 0, false,
        false⟩ 0x20040) delayedState) ≠ some delayedState.pwr.refusals := by
  decide +kernel

theorem delayedState_cmReg : refusalsAfter (exec (.cmReg counterRead) delayedState) ≠ some delayedState.pwr.refusals := by
  decide +kernel

/-! ### The refutations -/

/-- Refutes O32: the write of CHN_BASE refuses the delayed entry of its group, which the power controller counts. -/
theorem not_writesReachTheShadow : ¬ Obligations.WritesReachTheShadow := by
  intro h
  obtain ⟨hopen, hkind, hfields, hdom⟩ := delayedState_writeOpen
  obtain ⟨t, ht, -, -, -, -, honly⟩ := ((h delayedState wrapperAccess 0x20200 0 0 0x800 0 0 0#32 .chn RF.CHN_BASE
    ⟨wrapperAccess, 0, 0, 0#32, none, false, none, 0⟩ (.off, 0) (by decide)).1 (by decide) hopen hkind hfields rfl).1 hdom
  exact delayedState_written (refusalsAfter_eq ht honly (by decide))

/-- Refutes O33: so does the read of a counter of a channel. -/
theorem not_readsActAsTheirRegisterSays : ¬ Obligations.ReadsActAsTheirRegisterSays := by
  intro h
  obtain ⟨hrun, hpath, hclosed, hon, hdelay, hkind, hlevel⟩ := delayedState_readable
  obtain ⟨t, ht, -, -, -, honly⟩ := ((h delayedState ⟨.smpSession, 0, false, false⟩ 0x20040 0 0 0 .chn RF.CHN_BASE false 0x80100
    hrun (by decide) (by decide) hpath hclosed).2 (by decide) hon hdelay).2 hkind (hlevel.trans (Nat.zero_le _))
  exact delayedState_counterRead (refusalsAfter_eq ht honly (by decide))

/-- Refutes O53: so does the wrapper's read of it. -/
theorem not_wrapperInstructions : ¬ Obligations.WrapperInstructions := by
  intro h
  obtain ⟨hgood, hrun, hhigh, hidle, hopen, hpath, hon, hdelay, hread, hkind⟩ := delayedState_wrapperReads
  obtain ⟨-, -, -, -, -, -, haccess⟩ :=
    h delayedState 0#32 0#24 counterRead .chn 0x80100 0 0 0 false RF.CHN_BASE 0#2505 hgood
  obtain ⟨t, ht, -, -, -, -, -, honly⟩ := (haccess hrun hhigh hidle hopen hpath hon hdelay).1 hread hkind
  exact delayedState_cmReg (refusalsAfter_eq ht honly (by decide))

end Sys2Proof.Machine
end

section
/-! PROOFS. A drone tick lets the reads that wait have their turn, CM_REG's among them (O11). -/

-- The kernel evaluates each witness in turn.
set_option Elab.async false

namespace Sys2Proof.Machine

/-- The running machine with CM_REG's read of the first word of the window waiting. -/
def waitingState : State :=
  { readyState with
    regs := { readyState.regs with stalled := [⟨⟨.wrapper, 0, false, false⟩, 0, none, none, 1⟩] }
    rpr := { readyState.rpr with cmBusy := true } }

theorem waitingState_met :
    waitingState.running = true ∧ waitingState.regs.posted =
        [] ∧ waitingState.rpr.loop = none ∧ waitingState.rpr.cmBusy = true := by
  decide +kernel

theorem waitingState_ticks :
    (waitingState.withInputs (waitingState.mirrorFrom (opDroneTick waitingState))).rpr.cmBusy = false := by decide +kernel

/-- Refutes O11: nothing is posted and no loopback runs, but the read completes at the tick, and the wrapper is no longer busy. -/
theorem not_dronesKeepTimeAndFailOver : ¬ Obligations.DronesKeepTimeAndFailOver := by
  intro h
  obtain ⟨hrun, hposted, hloop, hbusy⟩ := waitingState_met
  obtain ⟨t, ht, -, -, -, -, hkept⟩ := h.1 waitingState hrun
  obtain ⟨-, -, -, hrpr⟩ := hkept hposted hloop
  rw [exec_of_act rfl (by decide) hrun] at ht
  obtain rfl := Host.Outcome.next.inj ht
  have hkeeps := waitingState_ticks
  rw [hrpr, hbusy] at hkeeps
  exact Bool.noConfusion hkeeps

end Sys2Proof.Machine
end

section
/-! PROOFS. A commit of group 0 scales the minimums anew, which may exceed what the floor allows by then (O31). -/

-- The kernel evaluates each witness in turn.
set_option Elab.async false

namespace Sys2Proof.Machine

/-- A commit of group 0 that gives context 3 a minimum of 40, past its checking phase. -/
def minimumCommit : Commit :=
  { epoch := 1, mask := 1, level := 2, secureLvl := true, shadow := .const 0#32, touched := .const 0#32, full := false,
      checked := true,
    adjusted := false, waiting := [0], chG2 := [], chG4 := [], deadline := none, boot := false, checkedAt := 90000, slotAt := [],
    mins := [(3, 40)], holds := false, uidAt := 0 }

/-- The running machine at a window roll, with that commit in its apply phase. The floor has fallen to 0 since the check. -/
def floorlessState : State :=
  { readyState with
    regs := { readyState.regs with commits := [minimumCommit] }
    regul := { readyState.regul with ctx := ⟨Ctx.init, [(3, Ctx.init)]⟩, floorNow := 0, lastRoll := readyState.now } }

theorem floorlessState_met :
    floorlessState.running = true ∧ floorlessState.boot.stage = .ready ∧ floorlessState.pair.role ≠ .fenced ∧
      floorlessState.regs.commits = [minimumCommit] ∧ minimumCommit.shadow.dflt = 0#32 ∧ floorlessState.regs.force.dflt = 0#32 ∧
      floorlessState.safePoint minimumCommit 0 0 = true ∧ (∀ r ∈ floorlessState.trx.reqs, r.stage ≠ .held) := by decide +kernel

theorem floorlessState_applies :
    (floorlessState.withInputs (floorlessState.mirrorFrom
        (opGroupApply 0 0 floorlessState))).evt.head ≠ floorlessState.evt.head := by
  decide +kernel

/-- Refutes O31: the committed minimums do not fit the floor in force any more, so that they are scaled, which is an event. -/
theorem not_groupsAndMapsComeIntoForce : ¬ Obligations.GroupsAndMapsComeIntoForce := by
  intro h
  obtain ⟨hrun, hready, hrole, hcommits, hshadow, hforce, hsafe, hreqs⟩ := floorlessState_met
  obtain ⟨t, ht, -, -, -, honly⟩ := (h.1 floorlessState minimumCommit 0 0 hrun hready hrole (by decide) hcommits rfl rfl rfl hshadow
    hforce hsafe hreqs).2 rfl
  have hevt : t.evt = floorlessState.evt := honly .evt (by decide)
  rw [exec_of_act rfl (by decide) hrun] at ht
  obtain rfl := Host.Outcome.next.inj ht
  exact floorlessState_applies (congrArg EvtSt.head hevt)

end Sys2Proof.Machine
end

section
/-! PROOFS. The router takes the deficits back before it chooses. On a table of contexts that is not in rising order this lists a context
twice, and the shared slots are counted as taken (O27). -/

-- The kernel evaluates each witness in turn.
set_option Elab.async false

namespace Sys2Proof.Machine

/-- A read of line 0 that waits in the queue of context 5. -/
def waitingRead : Req := { readyState.newReq 3 0 0x1#128 [] 0#64 with stage := .queued 5, clear := false }

/-- The running machine with that read, key 0 active, and a table of contexts whose list falls: context 3, with a deficit and 3,100
reserved slots, stands behind context 5. -/
def unsortedState : State :=
  { readyState with
    trx := { readyState.trx with reqs := [waitingRead] }
    sec := { readyState.sec with own := readyState.sec.own.upd 0 (fun x => { x with st := .active }) }
    regul := { readyState.regul with ctx := ⟨Ctx.init, [(5, Ctx.init), (3, { Ctx.init with resv := 3100, deficit := 1 })]⟩ } }

theorem unsortedState_met :
    unsortedState.running = true ∧ unsortedState.domOn 2 = true ∧ unsortedState.trx.reqs = [waitingRead] ∧
      waitingRead.stage = .queued 5 ∧ hOp waitingRead.hdr = 0x01 ∧ hLen waitingRead.hdr = 0 ∧ waitingRead.left = [0] ∧
      unsortedState.candidate 5 = true ∧ unsortedState.judge waitingRead waitingRead.cell = .serve ∧
      unsortedState.loc (hLaddr waitingRead.hdr) = some ⟨0, 0, 0, 0, 0⟩ ∧
      (unsortedState.chan 0).lineHeld (hLaddr waitingRead.hdr) = false ∧
      (unsortedState.chan 0).newestWrite (hLaddr waitingRead.hdr) = none := by decide +kernel

theorem unsortedState_admits :
    ((unsortedState.withInputs (unsortedState.mirrorFrom (opRouterAdmit unsortedState))).ctx 5).out = 0 ∧
      (unsortedState.ctx 5).out = 0 := by decide +kernel

/-- Refutes O27: the read is a candidate as the state stands, but none once the deficits are taken back, and takes no slot. -/
theorem not_admissionDispatchesToTheChannel : ¬ Obligations.AdmissionDispatchesToTheChannel := by
  intro h
  obtain ⟨hrun, hon, hreqs, hstage, hop, hlen, hleft, hcand, hjudge, hloc, hheld, hwrite⟩ := unsortedState_met
  obtain ⟨t, ht, hout, -⟩ := h unsortedState waitingRead 5 ⟨0, 0, 0, 0, 0⟩ hrun hon hreqs hstage hop hlen hleft hcand hjudge hloc
    hheld hwrite
  rw [exec_of_act rfl (by decide) hrun] at ht
  obtain rfl := Host.Outcome.next.inj ht
  rw [unsortedState_admits.1, unsortedState_admits.2] at hout
  exact absurd hout (by decide)

end Sys2Proof.Machine
end

section
/-! PROOFS. A channel group that enters self-refresh makes its channels' arbiters decide,
    and the words of group 2 that wait there may
move a request to another group (O10). -/

-- The kernel evaluates each witness in turn.
set_option Elab.async false

namespace Sys2Proof.Machine

/-- Start-up in step 10, without a reference for 64 drone ticks,
    with a read of line 0 that waits at the router and a channel of group 1
that takes a word of the map's page as one of group 2 when its arbiter decides: SERVE then names channel 4 alone. -/
def movingState : State :=
  { readyState with
    boot := { readyState.boot with stage := .link }
    pins := { readyState.pins with chRst := .const true }
    link := { readyState.link with courses := .const Course.init }
    trx := { readyState.trx with reqs := [waitingRead] }
    chans := readyState.chans.upd 2 (fun c => { c with g2 := some [(0x40008, 0xffffffef#32)] }) }

theorem movingState_met :
    movingState.running = true ∧ movingState.boot.stage = .link ∧ movingState.refCourses = [] ∧
      movingState.boot.stageAt + 64 ≤ movingState.now ∧ movingState.groupOn 2 = true ∧ (movingState.cg 2).st = .active ∧
      movingState.unmetCg 2 .selfRefresh = [] ∧ (movingState.dom (8 + 2)).st ≠ .failed := by decide +kernel

theorem movingState_waits :
    ((movingState.withInputs (movingState.mirrorFrom (opLinkWaitTimeout movingState))).cg 2).st = .active := by decide +kernel

/-- Refutes O10: nothing stands against the entry of group 2 before, but once group 1 has entered, the read waits for group 2, whose
entry is refused. -/
theorem not_trainingPassesOrFences : ¬ Obligations.TrainingPassesOrFences := by
  intro h
  obtain ⟨hrun, hstage, href, hlate, hon, hactive, hunmet, hfailed⟩ := movingState_met
  obtain ⟨t, ht, -, hgroups⟩ := h.2 movingState hrun hstage href hlate
  have hrests := hgroups 2 (by decide) hon hactive hunmet hfailed
  rw [exec_of_act rfl (by decide) hrun] at ht
  obtain rfl := Host.Outcome.next.inj ht
  exact CgState.noConfusion (movingState_waits.symm.trans hrests)

end Sys2Proof.Machine
end

section
/-! PROOFS. A draw from the DRBG may be the one after which it is reseeded, which takes a free value and counts (O24, O25). -/

-- The kernel evaluates each witness in turn.
set_option Elab.async false

namespace Sys2Proof.Machine

/-- KEY_PERSIST with ON of key slot 1, under management tag 2, with PRIV and SECURE. -/
def persistHeader : Cell := cellOf [(0, 6, 0x20), (8, 6, 2), (16, 8, 6), (24, 5, 1), (32, 11, 1), (45, 1, 1), (46, 1, 1), (47, 1,
    1)]

/-- The running machine with a credit of management, key slot 1 active, KEY_PERSIST allowed, and a DRBG whose next request is the
last before its reseed. -/
def reseedState : State :=
  { readyState with
    regs := { readyState.regs with force := readyState.regs.force.set (RF.SEC_PERSIST_EN.addr 0 0) 0x40000000#32 }
    link := { readyState.link with
      courses := readyState.link.courses.upd 3 (fun x => { x with encrypted := true })
      mgt := { readyState.link.mgt with held := 1 } }
    sec := { readyState.sec with
      own := readyState.sec.own.upd 1 (fun x => { x with st := .active })
      drbgGen := 2 ^ 20
      smp := { Spdm.init with stage := 3 }
      link := { Spdm.init with stage := 3, session := some ⟨0, true, true, false, false, 0, 0, [], [], 0⟩ } } }

/-! ### KEY_PERSIST (O24) -/

theorem reseedState_persistMet :
    reseedState.trx.keyOps = [] ∧ reseedState.domOn 7 = true ∧ (reseedState.dom 7).delay = none ∧ reseedState.pair.role ≠ .paired ∧
      reseedState.keyBad persistHeader (!(reseedState.course 3).encrypted) = none ∧ kFlag persistHeader = true ∧
      (reseedState.slot false (kId persistHeader)).st = .active ∧ reseedState.pins.nvmRdy = true ∧ reseedState.pageWriting = false ∧
      (entriesBut (kId persistHeader) (reseedState.heldEntries reseedState.boot.running)).length < 127 := by decide +kernel

theorem reseedState_mgmtArrives : reseedState.mgmtArrives 3 0 6 persistHeader := by
  unfold State.mgmtArrives
  decide +kernel

theorem reseedState_persists :
    (reseedState.withInputs (reseedState.mirrorFrom (opKeyPersist 3 0 persistHeader reseedState))).free ≠ reseedState.free := by
  decide +kernel

/-- Refutes O24: the IV of the entry is drawn by the request after which the DRBG is reseeded, from raw bits that are free. -/
theorem not_keySlotsMoveByTheirMessages : ¬ Obligations.KeySlotsMoveByTheirMessages := by
  intro h
  obtain ⟨hops, hon, hdelay, hrole, hgood, hflag, hactive, hnvm, hpage, hroom⟩ := reseedState_persistMet
  obtain ⟨-, -, hpersist, -⟩ := h.1 reseedState 3 0 persistHeader hops hon hdelay hrole hgood
  obtain ⟨t, ht, -, -, -, -, honly⟩ := hpersist reseedState_mgmtArrives hflag hactive hnvm hpage hroom
  have hfree : t.free = reseedState.free := honly .free (by decide)
  rw [exec_of_act rfl (by decide) reseedState_mgmtArrives.1] at ht
  obtain rfl := Host.Outcome.next.inj ht
  exact reseedState_persists hfree

/-! ### CHALLENGE (O25) -/

theorem reseedState_spdmOpen : reseedState.spdmOpen .smp 0 ∧ (reseedState.spdm .smp).stage = 3 := by
  unfold State.spdmOpen
  decide +kernel

/-- A CHALLENGE that a negotiated connection answers draws its nonce, and leaves the registers as the draw does. -/
theorem opChallenge_regs {s : State} {m nonce : Nat} (hresp : s.responder = true) (hstage : ((s.accessDom 7).spdm .smp).stage = 3) :
    (opChallenge .smp m 0 nonce s).only [.regs] = (s.accessDom 7).spdmNonce.2.only [.regs] := by
  have hrow : opChallenge .smp m 0 nonce s = (s.accessDom 7).spdmChallenge .smp m 0 nonce := if_pos hresp
  rw [hrow, State.spdmChallenge, State.spdmNegotiated, if_pos hstage, if_neg (by simp)]
  exact State.spdmDefer_only (by decide) _ _ _ _ _

theorem reseedState_draws :
    reseedState.responder = true ∧ ((reseedState.accessDom 7).spdm .smp).stage = 3 ∧ reseedState.pair.role ≠ .paired ∧
      (reseedState.accessDom 7).spdmNonce.2.counter 0x5130 ≠ reseedState.counter 0x5130 := by decide +kernel

/-- Refutes O25: the nonce is drawn by the request after which the DRBG is reseeded, which is counted. -/
theorem not_spdmNegotiatesAndAnswers : ¬ Obligations.SpdmNegotiatesAndAnswers := by
  intro h
  obtain ⟨hopen, hstage⟩ := reseedState_spdmOpen
  obtain ⟨hresp, hthere, hrole, hdraws⟩ := reseedState_draws
  obtain ⟨-, -, ⟨t, ht, -, honly⟩, -⟩ := (h.2 reseedState .smp 0 0 0 0 0 (0, []) hopen (by decide) (by decide) (by decide)).1 hstage
  have hregs : t.regs = reseedState.regs := honly .regs (by decide)
  rw [exec_of_act rfl (by decide) hopen.1] at ht
  obtain rfl := Host.Outcome.next.inj ht
  have hmirror : reseedState.mirrorFrom (opChallenge .smp 0 0 0 reseedState) = opChallenge .smp 0 0 0 reseedState :=
    if_neg (fun hp => hrole hp.1)
  have hsame : (opChallenge .smp 0 0 0 reseedState).counter 0x5130 = reseedState.counter 0x5130 := by
    rw [← hmirror]
    exact congrArg (fun r : RegSt => r.counters.get 0x5130) hregs
  exact hdraws ((congrArg (fun x => x.counter 0x5130) (opChallenge_regs hresp hthere)).symm.trans hsame)

end Sys2Proof.Machine
end

section
/-! PROOFS. A commit past its check may hold the memory requests that come, whatever its deadline says (O19). -/

-- The kernel evaluates each witness in turn.
set_option Elab.async false

namespace Sys2Proof.Machine

/-- A read of line 0. -/
def readHeader : Cell := 0x1#128

/-- The running machine with the credits of a request, and a commit in its apply phase that holds memory requests but has no
deadline. -/
def holdingState : State :=
  { readyState with
    regs := { readyState.regs with commits := [{ minimumCommit with holds := true }] }
    link := { readyState.link with req := { readyState.link.req with held := 1 } } }

theorem holdingState_reqArrives : holdingState.reqArrives 3 0 readHeader := by
  unfold State.reqArrives
  decide +kernel

theorem holdingState_routerOpen : holdingState.routerOpen (hRqid readHeader) := by
  have hnone : holdingState.trx.reqs = [] := by decide +kernel
  refine ⟨by decide +kernel, by decide +kernel, by decide +kernel, by decide +kernel, fun x hx => ?_⟩
  rw [hnone] at hx
  exact absurd hx List.not_mem_nil

theorem holdingState_holds :
    (((holdingState.withInputs (holdingState.mirrorFrom (opRd 3 0 readHeader holdingState))).req holdingState.trx.nextUid).map
      (fun r => r.stage)) = some .held := by decide +kernel

/-- Refutes O19: the read is held for the map. -/
theorem not_memoryRequestsJoinTheirQueue : ¬ Obligations.MemoryRequestsJoinTheirQueue := by
  intro h
  obtain ⟨hread, -⟩ := h holdingState 3 0 readHeader 0#128 [] 0#64 holdingState_reqArrives holdingState_routerOpen
  obtain ⟨t, ht, ⟨r, hr, hstage, -⟩, -⟩ := hread (by decide)
  rw [exec_of_act rfl (by decide) holdingState_reqArrives.1] at ht
  obtain rfl := Host.Outcome.next.inj ht
  have hheld := holdingState_holds
  rw [hr] at hheld
  exact Stage.noConfusion (hstage.symm.trans (Option.some.inj hheld))

end Sys2Proof.Machine
end

section
/-! PROOFS. In ROM recovery mode a match of the SMP's address wakes no domain but D5 and D7 (O34). -/

-- The kernel evaluates each witness in turn.
set_option Elab.async false

namespace Sys2Proof.Machine

/-- ROM recovery mode with an address on the SMP, and D4 off, which SMP_WAKE names. -/
def recoveryState : State :=
  { readyState with
    boot := { readyState.boot with stage := .recovery }
    pins := { readyState.pins with smpAddr := some 8#7 }
    pwr := { readyState.pwr with doms := readyState.pwr.doms.upd 4 (fun x => { x with st := .off }) }
    regs := { readyState.regs with
      force := (readyState.regs.force.set (RF.PWR_SMP_WAKE.addr 0 0) 0xff#32).set (pageBase .pwr 0) 0x100#32 } }

theorem recoveryState_met :
    recoveryState.running = true ∧ recoveryState.pins.smpAddr = some 8#7 ∧ (recoveryState.rf RF.PWR_SMP_WAKE).testBit
        (4 - 1) = true ∧
      recoveryState.domOn 4 = false ∧ (recoveryState.dom 4).st ≠ .failed ∧ (recoveryState.dom 4).wakeFrom = none := by
  decide +kernel

theorem recoveryState_matches :
    ((recoveryState.withInputs (recoveryState.mirrorFrom (opSmpAddressMatch (.sdr 8#7) recoveryState))).dom 4).wakeFrom = none := by
  decide +kernel

/-- Refutes O34: D4 stays off (R98). -/
theorem not_snapshotsSummariesAndSaves : ¬ Obligations.SnapshotsSummariesAndSaves := by
  intro h
  obtain ⟨hrun, haddr, hnamed, hoff, hfailed, hasleep⟩ := recoveryState_met
  obtain ⟨-, -, hmatch⟩ := h.2 recoveryState ⟨.smp, 0, false, false⟩ 8#7 ⟨⟨.smp, 0, false, false⟩, 0, 0, 0#32, none, false, none,
      0⟩ []
    (by decide)
  obtain ⟨t, ht, -, -, hwakes, -⟩ := hmatch hrun haddr
  have hwoken := hwakes 4 (by decide) (by decide) hnamed hoff hfailed hasleep
  rw [exec_of_act rfl (by decide) hrun] at ht
  obtain rfl := Host.Outcome.next.inj ht
  rw [recoveryState_matches] at hwoken
  exact Option.some_ne_none _ hwoken.symm

end Sys2Proof.Machine
end

section
/-! PROOFS. The domains of line protection never enter off, and PWR_UNFENCE brings them back from retention (O43). -/

-- The kernel evaluates each witness in turn.
set_option Elab.async false

namespace Sys2Proof.Machine

/-- The running machine with the domain D3 failed. -/
def failedDomain : State :=
  { readyState with
    pins := { readyState.pins with wrstN := true }
    pwr := { readyState.pwr with doms := readyState.pwr.doms.upd 3 (fun x => { x with st := .failed }) } }

theorem failedDomain_met :
    failedDomain.writeOpen ⟨.wrapper, 0, false, false⟩ 0x1020 (BitVec.ofNat 32 3) ∧ (failedDomain.dom 3).st = .failed ∧
      failedDomain.mayWake 3 = true := by
  unfold State.writeOpen
  decide +kernel

theorem failedDomain_unfenced :
    (((failedDomain.withInputs (failedDomain.mirrorFrom (opPwrUnfence ⟨.wrapper, 0, false, false⟩ 3 failedDomain))).dom 3).st) =
      .retention := by
  decide +kernel

/-- Refutes O43: the domain D3 comes back as one in retention. -/
theorem not_domainsWakeOrFail : ¬ Obligations.DomainsWakeOrFail := by
  intro h
  obtain ⟨hopen, hfailed, hwake⟩ := failedDomain_met
  obtain ⟨t, ht, hst, -⟩ := ((h failedDomain ⟨.wrapper, 0, false, false⟩ 0 3 0 (by decide) (by decide)).1 (by decide)
    (by decide)).2 hopen hfailed hwake
  rw [exec_of_act rfl (by decide) (by decide)] at ht
  obtain rfl := Host.Outcome.next.inj ht
  exact absurd (failedDomain_unfenced.symm.trans hst) (by decide)

end Sys2Proof.Machine
end

section
/-! PROOFS. A transfer that waits at the capo is preempted, and what it waited for is wanted no longer: the capo changes where an
entry to power-down (O42) or a calibration run (O40) asks for the channel. -/

-- The kernel evaluates each witness in turn.
set_option Elab.async false

namespace Sys2Proof.Machine

/-- The running machine, which the wrapper may access, its core dies out of reset, channel group 0 idle for 10 drone ticks, and a
patrol transfer of channel 0 that waits at the capo for its purse, a missed capture behind it. -/
def patrolState : State :=
  { readyState with
    pins := { readyState.pins with chRst := .const true, wrstN := true }
    pwr := { readyState.pwr with cgs := readyState.pwr.cgs.upd 0 (fun x => { x with idle := 10 }) }
    capo := { readyState.capo with purses := readyState.capo.purses.upd 0 (fun p => { p with wants := [⟨0, 1, false⟩] }) }
    chans := readyState.chans.upd 0 (fun c => { c with
      holder := some .scrb, xfer := some (Xfer.fresh .scrb [] 13), missed := [(0, .scrb)] }) }

theorem patrolState_idle :
    patrolState.running = true ∧ (patrolState.cg 0).st = .active ∧ 0 < patrolState.idleLimit .pd ∧
      patrolState.idleLimit .pd ≤ (patrolState.cg 0).idle ∧ (patrolState.cg 0).refused ≠ some .powerDown ∧
      (patrolState.cg 0).delay = none ∧ patrolState.domOn (8 + 0) = true ∧
      (patrolState.cg 0).pdAt + patrolState.idleLimit .pd ≤ patrolState.now ∧ patrolState.unmetCg 0 .powerDown = [] := by
  decide +kernel

theorem patrolState_mayRun :
    patrolState.writeOpen wrapperAccess 0x7024 (BitVec.ofNat 32 (2 ^ 0)) ∧ patrolState.canRun 0 = true ∧
      (patrolState.calGr 0).run = none ∧ patrolState.cal.refState ≠ .holdover := by
  unfold State.writeOpen
  decide +kernel

theorem patrolState_goesDown :
    (patrolState.withInputs (patrolState.mirrorFrom (opIdleThresholdExpiry 0 .pd patrolState))).capo ≠ patrolState.capo := by
  decide +kernel

theorem patrolState_runs :
    (patrolState.withInputs (patrolState.mirrorFrom (opCalRun wrapperAccess (BitVec.ofNat 16 (2 ^ 0)) patrolState))).capo ≠
      patrolState.capo := by
  decide +kernel

/-- Refutes O42: REF preempts the transfer that waits at the capo, for the entry to power-down. -/
theorem not_domainsEnterLowPower : ¬ Obligations.DomainsEnterLowPower := by
  intro h
  obtain ⟨hrun, hst, hlim, hidle, href, hdelay, hon, hat, hunmet⟩ := patrolState_idle
  obtain ⟨t, ht, -, -, -, honly⟩ := (h patrolState wrapperAccess 0 0 0 0 [] .off .active (by decide)).1 hrun (by decide) hst hlim
    hidle href hdelay hon hat hunmet
  rw [exec_of_act rfl (by decide) hrun] at ht
  obtain rfl := Host.Outcome.next.inj ht
  exact patrolState_goesDown (honly .capo (by decide))

/-- Refutes O40: CAL preempts it, for the probes of the run. -/
theorem not_runsMakeGroupsFresh : ¬ Obligations.RunsMakeGroupsFresh := by
  intro h
  obtain ⟨hopen, hcan, hnone, href⟩ := patrolState_mayRun
  obtain ⟨t, ht, -, -, -, honly⟩ := (h patrolState wrapperAccess 0 0 Trims.init Trims.init ⟨0, false, false, 0, [], [], [], 0,
      false, 0, 0⟩ (by decide)).1 (by decide) hopen hcan hnone href
  rw [exec_of_act rfl (by decide) hopen.1] at ht
  obtain rfl := Host.Outcome.next.inj ht
  exact patrolState_runs (honly .capo (by decide))

end Sys2Proof.Machine
end

section
/-! PROOFS. So does the capo where a takeover (O46) or a handback (O47) drains the buffered writes. -/

-- The kernel evaluates each witness in turn.
set_option Elab.async false

namespace Sys2Proof.Machine

/-- A buffered write to line 0. -/
def bufferedWrite : WrEnt :=
  { uid := 0, laddr := 0, bank := 0, row := 0, col := 0, data := 0, key := 0, gen := 0, wseqs := [0], rt := false, ready := true,
    chosen := false, back := false, bad := false, corrected := false, order := 0 }

/-- A channel that holds the buffered write, for which WRD has lost two rounds, and a patrol transfer with the grant. -/
def Chan.patrolled (c : Chan) : Chan :=
  { (c.setAgent .wrd (fun a => { a with age := 2 })) with
    writes := [bufferedWrite], holder := some .scrb, xfer := some (Xfer.fresh .scrb [] 13) }

/-- The state with the patrol transfer, its groups calibrated, at the request for the fence; the channel holds a buffered write. -/
def declaredState : State :=
  { patrolState with
    pair := { patrolState.pair with role := .paired, step := .freq }
    cal := { patrolState.cal with groups := patrolState.cal.groups.mapAll (fun x => { x with st := .fresh }) }
    chans := readyState.chans.upd 0 Chan.patrolled }

/-- The same in double-stop mode, on a partner channel, with a returning machine whose identity has matched. -/
def survivorState : State :=
  { declaredState with
    pair := { patrolState.pair with role := .survivor, step := .doubleStop, doubleStop := true, serving := true, idSeen := true }
    sec := { patrolState.sec with pairKey := some 0 }
    capo := { readyState.capo with purses := readyState.capo.purses.upd 0 (fun p => { p with wants := [⟨32, 1, false⟩] }) }
    chans := readyState.chans.upd 32 Chan.patrolled }

theorem declaredState_met :
    declaredState.running = true ∧ declaredState.pair.step = .freq ∧ ∀ ch, ch < 64 →
        (declaredState.chan ch).downStands = false := by
  decide +kernel

theorem survivorState_met :
    survivorState.writeOpen wrapperAccess 0x8010 1#32 ∧ (∀ n, n < 32 → (survivorState.chan (32 + n)).downStands = false) ∧
      survivorState.pair.step = .doubleStop ∧ survivorState.pair.idSeen = true ∧ survivorState.sec.pairKey.isSome = true := by
  unfold State.writeOpen
  decide +kernel

theorem declaredState_wins :
    (declaredState.withInputs (declaredState.mirrorFrom (opBrgFgnt declaredState))).capo ≠ declaredState.capo := by
  decide +kernel

theorem survivorState_handsBack :
    (survivorState.withInputs (survivorState.mirrorFrom (opHandback wrapperAccess survivorState))).capo ≠ survivorState.capo := by
  decide +kernel

/-- Refutes O46: the fence that is won drains the write, and WRD preempts the transfer that waits at the capo. -/
theorem not_takeoverReachesDoubleStop : ¬ Obligations.TakeoverReachesDoubleStop := by
  intro h
  obtain ⟨hrun, hstep, hdown⟩ := declaredState_met
  obtain ⟨t, ht, -, -, -, honly⟩ := (h declaredState 0 hrun).1 hstep hdown
  rw [exec_of_act rfl (by decide) hrun] at ht
  obtain rfl := Host.Outcome.next.inj ht
  exact declaredState_wins (honly .capo (by decide))

/-- Refutes O47: so does the write of HANDBACK on a partner channel. -/
theorem not_handbackEndsDoubleStop : ¬ Obligations.HandbackEndsDoubleStop := by
  intro h
  obtain ⟨hopen, hdown, hstep, hseen, hkey⟩ := survivorState_met
  obtain ⟨t, ht, -, -, honly⟩ := (h survivorState wrapperAccess 0 (by decide)).1 hopen hdown hstep hseen hkey
  rw [exec_of_act rfl (by decide) hopen.1] at ht
  obtain rfl := Host.Outcome.next.inj ht
  exact survivorState_handsBack (honly .capo (by decide))

end Sys2Proof.Machine
end

section
/-! PROOFS. The next spare row is tried with a fresh comparison: what the first one showed does not stay (O51). -/

-- The kernel evaluates each witness in turn.
set_option Elab.async false

namespace Sys2Proof.Machine

/-- A soft repair whose row has read back otherwise than the buffer holds it. -/
def failedRepair : RepairOp :=
  { op := 1, ch := 0, bank := 0, row := 0, col := 0, dq := 0, stage := .comparing, second := false, buffer := [], since := 0,
      bad := true }

/-- The running machine at the end of that comparison. -/
def comparingState : State := { readyState with rpr := { readyState.rpr with op := some failedRepair } }

theorem comparingState_tries :
    (comparingState.withInputs (comparingState.mirrorFrom (opRowRestoreDone false comparingState))).rpr.op.map RepairOp.bad =
      some false := by
  decide +kernel

/-- Refutes O51: the mark of the failed comparison is gone from the operation that tries the next spare row. -/
theorem not_repairsGoOnAndEnd : ¬ Obligations.RepairsGoOnAndEnd := by
  intro h
  obtain ⟨-, -, -, hcompared, -⟩ := h comparingState failedRepair [] (by decide) rfl (by decide)
  obtain ⟨t, ht, hop, -⟩ := (hcompared rfl).2 rfl
  rw [exec_of_act rfl (by decide) (by decide)] at ht
  obtain rfl := Host.Outcome.next.inj ht
  exact absurd (comparingState_tries.symm.trans (congrArg (Option.map RepairOp.bad) hop)) (by decide)

end Sys2Proof.Machine
end

section
/-! PROOFS. The update service stages and verifies an image (O54): a service command that the luthier takes at once, and the staging
record that it leaves. -/

namespace Sys2Proof.Machine

/-! ### Parts of a state by their pieces -/

theorem State.link_of_only {s t : State} (h : t.only [.lanes, .courses, .link] = s.only [.lanes, .courses,
    .link]) : t.link = s.link :=
  congrArg (fun x => x.link) h

theorem State.trx_of_only {s t : State} (h : t.only [.reqs, .keyOps, .trx] = s.only [.reqs, .keyOps, .trx]) : t.trx = s.trx :=
  congrArg (fun x => x.trx) h

theorem State.nvm_of_only {s t : State} (h : t.only [.mem, .nvm] = s.only [.mem, .nvm]) : t.nvm = s.nvm :=
  congrArg (fun x => x.nvm) h

theorem State.array_of_only {s t : State} (h : t.only [.array] = s.only [.array]) : t.array = s.array := congrArg
    (fun x => x.array) h

theorem State.mem_of_only {s t : State} (h : t.only [.mem] = s.only [.mem]) : t.nvm.mem = s.nvm.mem := congrArg
    (fun x => x.nvm.mem) h

theorem State.upd_of_only {s t : State} (h : t.only [.upd] = s.only [.upd]) : t.upd = s.upd := congrArg (fun x => x.upd) h

/-! ### A command that the luthier takes at once (R443) -/

theorem State.wake_of_on {s : State} {d : Nat} (hon : s.domOn d = true) (hdelay : (s.dom d).delay = none) : s.wake d = s := by
  have hst : (s.dom d).st = .on := by simpa [State.domOn] using hon
  simp [State.wake, State.wakeOne, hst, hdelay]

theorem State.service_of_open {s : State} (h : s.serviceOpen) (f : State → State) : s.service f = f s := by
  obtain ⟨-, hbusy, -, hon, hdelay, -⟩ := h
  simp [State.service, hbusy, State.wake_of_on hon hdelay]

theorem State.withNvm_of_ready {s : State} (h : s.pins.nvmRdy = true) (code : Nat) (go : State) : s.withNvm code go = go := by
  simp [State.withNvm, h]

/-! ### Effects outside what is mirrored -/

/-- The pieces of the state that hold the mirrored items (R381). -/
def mirrorPieces : List Piece := [.rpr, .cal, .chans, .slots, .keyOps, .commits]

/-- The pieces of the state that hold the mirrored items, the inputs and the queue (R23, R381). -/
def keptPieces : List Piece := mirrorPieces ++ [.inputs, .pending]

theorem State.mirrorsAlike_of_only {s u : State} (hu : u.only mirrorPieces = s.only mirrorPieces) : s.MirrorsAlike u := by
  refine ⟨fun ch => ?_, fun ch => ?_, fun ch => ?_, fun ch b => ?_, ?_, ?_, ?_⟩
  · exact congrArg (fun x => (x.rmap ch).seq) hu
  · exact congrArg (fun x => (x.calCh ch).count) hu
  · exact congrArg (fun x => (x.chan ch).backlog) hu
  · exact congrArg (fun x => (x.chan ch).base b) hu
  · exact congrArg (fun x => x.sec.own) hu
  · exact congrArg (fun x => x.trx.keyOps) hu
  · exact congrArg (fun x => x.regs.doneEpoch) hu

theorem State.inputsAlike_of_only {s u : State} (hu : u.only [.inputs, .pending] = s.only [.inputs, .pending]) : s.InputsAlike u :=
  ⟨congrArg (fun x => x.pins.pwrGood) hu, congrArg (fun x => x.pins.instId) hu, congrArg (fun x => x.pins.nvmRdy) hu,
    congrArg (fun x => x.pins.sfenced) hu, congrArg (fun x => x.pins.regOcw) hu, congrArg (fun x => x.pending) hu⟩

/-- A command of `act` that leaves those pieces leaves its own effect. -/
theorem exec_of_kept {c : Instr} {s u : State} (h : exec c s = act c.wellFormed s u) (hwf : c.wellFormed = true)
    (hrun : s.running = true) (hu : u.only keptPieces = s.only keptPieces) : exec c s = .next u :=
  exec_of_alike h hwf hrun (State.mirrorsAlike_of_only (State.only_mono (by decide) hu))
    (State.inputsAlike_of_only (State.only_mono (by decide) hu))

@[simp] theorem State.event_upd (s : State) (source code sev : Nat) (l : List (Nat × Nat × Nat)) :
    (s.event source code sev l).upd = s.upd := State.upd_of_only (State.event_only (by simp) ..)

@[simp] theorem State.verifyReads_upd (s : State) (slot result : Nat) : (s.verifyReads slot result).upd = s.upd :=
  State.upd_of_only (State.verifyReads_only (by simp) ..)


/-! ### The staging record (R442 to R448) -/

theorem State.stageWith_upd (s : State) (before : List (Nat × BitVec 64)) (f : Staging → Staging) :
    (s.stageWith before f).upd =
      { s.upd with stage0 := { f s.upd.stage0 with seq := (s.upd.stage0.seq + 1) % 2 ^ 32 }, busy := true } := rfl

@[simp] theorem State.stageWith_mem (s : State) (before : List (Nat × BitVec 64)) (f : Staging → Staging) :
    (s.stageWith before f).nvm.mem = s.nvm.mem := State.mem_of_only (State.stageWith_only (by simp) ..)

theorem State.changesOnly.stageWith {s t : State} {l : List Part} (h : s.changesOnly t l) (before : List (Nat × BitVec 64))
    (f : Staging → Staging) (hl : .upd ∈ l ∧ .nvm ∈ l := by decide) : s.changesOnly (t.stageWith before f) l :=
  changesOnly_nvm (changesOnly_upd h hl.1 _) hl.2 _

theorem State.changesOnly.svc {s t : State} {l : List Part} (h : s.changesOnly t l) (code result : Nat) (hl : .upd ∈ l :=
    by decide) :
    s.changesOnly (t.svc code result) l := changesOnly_upd h hl _

/-- A command that the luthier takes at once and that leaves the mirrored items. -/
theorem exec_service {c : Instr} {s : State} {f : State → State} (hopen : s.serviceOpen) (h : exec c s = act c.wellFormed s
    (s.service f))
    (hwf : c.wellFormed = true) (hu : (f s).only keptPieces = s.only keptPieces) : exec c s = .next (f s) := by
  rw [State.service_of_open hopen] at h
  exact exec_of_kept h hwf hopen.1 hu

section
variable {s : State} (hopen : s.serviceOpen)
include hopen

theorem exec_svcOpen {len : Nat} (hlen : len < 2 ^ 32) : exec (.svcOpen len) s = .next (s.svcOpen len) :=
  exec_service (c := .svcOpen len) (f := fun t => t.svcOpen len) hopen rfl
    (by simpa [Instr.wellFormed, Instr.units, Instr.partsOk] using hlen) (by simp [keptPieces, mirrorPieces])

theorem exec_svcBlock {n : Nat} {data : List Byte} {crc : Word} (hn : n < 65536) (hdata : data.length = 4096) :
    exec (.svcBlock n data crc) s = .next (s.svcBlock n data crc) :=
  exec_service (c := .svcBlock n data crc) (f := fun t => t.svcBlock n data crc) hopen rfl
    (by simp [Instr.wellFormed, Instr.units, Instr.partsOk, hn, hdata]) (by simp [keptPieces, mirrorPieces])

theorem exec_svcVerify : exec .svcVerify s = .next s.svcVerify :=
  exec_service (c := .svcVerify) (f := State.svcVerify) hopen rfl rfl (by simp [keptPieces, mirrorPieces])

theorem exec_svcAbort : exec .svcAbort s = .next s.svcAbort :=
  exec_service (c := .svcAbort) (f := State.svcAbort) hopen rfl rfl (by simp [keptPieces, mirrorPieces])

theorem exec_svcReadBitmap :
    exec .svcReadBitmap s = .next { s with upd := { s.upd with lastCode := 8, result := 0, readMap := true } } :=
  exec_service (c := .svcReadBitmap)
    (f := fun t => { t with upd := { t.upd with lastCode := 8, result := 0, readMap := true } }) hopen rfl rfl rfl

theorem exec_verifyDone (ok : Bool) : exec (.verifyDone ok) s = .next (s.verifyEnd ok) :=
  exec_of_kept (c := .verifyDone ok) rfl rfl hopen.1 (by simp [keptPieces, mirrorPieces])

/-! ### The clauses of O54 -/

/-- What no staging of an image touches. -/
def stagingPieces : List Piece := [.mem, .array, .lanes, .courses, .link, .reqs, .keyOps, .trx]

omit hopen in
theorem State.staging_frame {t : State} (h : t.only stagingPieces = s.only stagingPieces) :
    t.nvm.mem = s.nvm.mem ∧ t.array = s.array ∧ t.link = s.link ∧ t.trx = s.trx :=
  ⟨State.mem_of_only (State.only_mono (by decide) h), State.array_of_only (State.only_mono (by decide) h),
    State.link_of_only (State.only_mono (by decide) h), State.trx_of_only (State.only_mono (by decide) h)⟩

theorem opened_of_serviceOpen {len : Nat} (hst : s.upd.stage0.st ≠ 3) (hprob : s.onProbation = false) (hlo : 4096 ≤ len)
    (hhi : len ≤ 3141632) :
    ∃ t, exec (.svcOpen len) s = .next t ∧
      t.upd.stage0 = ⟨(s.upd.stage0.seq + 1) % 2 ^ 32, 1, len, 0#768, 0#384⟩ ∧ t.upd.busy = true ∧ t.upd.lastCode = 1 ∧
      t.upd.result = 0 ∧ t.nvm.mem = s.nvm.mem ∧ t.array = s.array ∧ t.link = s.link ∧ t.trx = s.trx := by
  obtain ⟨-, -, -, -, -, hrdy⟩ := id hopen
  have hlen : ¬ (len < 4096 ∨ 3141632 < len) := by omega
  have hupd : (s.svcOpen len).upd =
      { s.upd with
        stage0 := ⟨(s.upd.stage0.seq + 1) % 2 ^ 32, 1, len, 0#768, 0#384⟩
        busy := true
        lastCode := 1
        result := 0 } := by
    simp [State.svcOpen, hst, hprob, hlen, State.withNvm_of_ready hrdy, State.stageWith_upd, State.svc]
  refine ⟨_, exec_svcOpen hopen (by omega), ?_⟩
  rw [hupd]
  exact ⟨rfl, rfl, rfl, rfl, State.staging_frame (by simp [stagingPieces])⟩

theorem open_refused {len : Nat} (hlen : len < 2 ^ 32) :
    (s.upd.stage0.st = 3 → exec (.svcOpen len) s = .next { s with upd := { s.upd with lastCode := 1, result := svState } }) ∧
    (s.upd.stage0.st ≠ 3 → s.onProbation = true → s.recovery = false →
      exec (.svcOpen len) s = .next { s with upd := { s.upd with lastCode := 1, result := svProbation } }) ∧
    (s.upd.stage0.st ≠ 3 → s.onProbation = false → len < 4096 ∨ 3141632 < len →
      exec (.svcOpen len) s = .next { s with upd := { s.upd with lastCode := 1, result := svRange } }) := by
  rw [exec_svcOpen hopen hlen]
  refine ⟨fun hst => ?_, fun hst hprob hrec => ?_, fun hst hprob hrange => ?_⟩
  · simp [State.svcOpen, hst, State.svc]
  · simp [State.svcOpen, hst, hprob, hrec, State.svc]
  · simp [State.svcOpen, hst, hprob, hrange, State.svc]

theorem block_taken {n : Nat} {data : List Byte} {crc : Word} (hn : n < 65536) (hdata : data.length = 4096)
    (hst : s.upd.stage0.st = 1) (hin : n < blocksOf s.upd.stage0.length) (hcrc : crc = crc32c (leBytes 2 n ++ data)) :
    ∃ t, exec (.svcBlock n data crc) s = .next t ∧
      t.upd.stage0.bitmap = s.upd.stage0.bitmap ||| (1#768 <<< n) ∧ t.upd.stage0.length = s.upd.stage0.length ∧
      t.upd.stage0.st = (if popCount (s.upd.stage0.bitmap ||| (1#768 <<< n)) 768 = blocksOf s.upd.stage0.length then 2 else 1) ∧
      t.upd.busy = true ∧ t.upd.lastCode = 2 ∧ t.upd.result = 0 ∧ t.nvm.mem = s.nvm.mem ∧ s.changesOnly t [.upd, .nvm] := by
  obtain ⟨-, -, -, -, -, hrdy⟩ := id hopen
  have heq : s.svcBlock n data crc = (s.svc 2 0).stageWith (wordsOf (slotAddr s.targetSlot + 4096 * n) data) (fun y => { y with
      bitmap := s.upd.stage0.bitmap ||| (1#768 <<< n)
      st := if decide (popCount (s.upd.stage0.bitmap ||| (1#768 <<< n)) 768 = blocksOf s.upd.stage0.length) then 2 else 1 }) := by
    simp [State.svcBlock, hst, hcrc, hin, State.withNvm_of_ready hrdy]
  refine ⟨_, exec_svcBlock hopen hn hdata, ?_⟩
  rw [heq]
  refine ⟨rfl, rfl, ?_, rfl, rfl, rfl, State.stageWith_mem .., ((State.changesOnly.refl s _).svc 2 0).stageWith _ _⟩
  simp [State.stageWith_upd, State.svc]

theorem block_of_bad_crc {n : Nat} {data : List Byte} {crc : Word} (hn : n < 65536) (hdata : data.length = 4096)
    (hst : s.upd.stage0.st = 1) (hcrc : crc ≠ crc32c (leBytes 2 n ++ data)) :
    ∃ t, exec (.svcBlock n data crc) s = .next t ∧ t.upd = { s.upd with lastCode := 2, result := svCrc } ∧
      (s.regs.snapBusy = false → t.counter 0x4108 = s.counter 0x4108 + 1#64) ∧ s.changesOnly t [.upd, .regs] := by
  have heq : s.svcBlock n data crc = (s.svc 2 svCrc).count 0x4108 := by simp [State.svcBlock, hst, hcrc.symm]
  refine ⟨_, exec_svcBlock hopen hn hdata, ?_⟩
  rw [heq]
  exact ⟨State.upd_of_only (State.count_only (by simp) ..), fun hsnap => State.count_counter_self hsnap _,
    ((State.changesOnly.refl s _).svc 2 svCrc).count _⟩

theorem block_refused {n : Nat} {data : List Byte} {crc : Word} (hn : n < 65536) (hdata : data.length = 4096) :
    (s.upd.stage0.st = 1 → crc = crc32c (leBytes 2 n ++ data) → blocksOf s.upd.stage0.length ≤ n →
      exec (.svcBlock n data crc) s = .next { s with upd := { s.upd with lastCode := 2, result := svRange } }) ∧
    (s.upd.stage0.st ≠ 1 →
      exec (.svcBlock n data crc) s = .next { s with upd := { s.upd with lastCode := 2, result := svState } }) := by
  rw [exec_svcBlock hopen hn hdata]
  refine ⟨fun hst hcrc hout => ?_, fun hst => ?_⟩
  · simp [State.svcBlock, hst, hcrc, hout, State.svc]
  · simp [State.svcBlock, hst, State.svc]

theorem verify_begins :
    (s.upd.stage0.st = 2 ∨ s.upd.stage0.st = 6 →
      exec .svcVerify s = .next { s with upd := { s.upd with lastCode := 3, result := 0, stage0 := { s.upd.stage0 with st :=
          3 } } }) ∧
    (s.upd.stage0.st ≠ 2 → s.upd.stage0.st ≠ 6 →
      exec .svcVerify s = .next { s with upd := { s.upd with lastCode := 3, result := svState } }) := by
  obtain ⟨-, -, -, -, -, hrdy⟩ := id hopen
  rw [exec_svcVerify hopen]
  refine ⟨fun hst => ?_, fun hfull hfailed => ?_⟩
  · simp [State.svcVerify, hst, State.withNvm_of_ready hrdy, State.svc]
  · simp [State.svcVerify, hfull, hfailed, State.svc]

omit hopen in
/-- The staging that the end of the checks leaves (R448). -/
theorem State.verifyEnd_upd (ok : Bool) (hst : s.upd.stage0.st = 3) (hrdy : s.pins.nvmRdy = true) :
    (s.verifyEnd ok).upd =
      { s.upd with
        result := (s.verifyResult ok).1
        component := (s.verifyResult ok).2
        busy := true
        stage0 := { s.upd.stage0 with
          st := if (s.verifyResult ok).1 = 0 then 4 else 6
          digest := if (s.verifyResult ok).1 = 0 then (s.manifest s.targetSlot).digest else s.upd.stage0.digest
          seq := (s.upd.stage0.seq + 1) % 2 ^ 32 } } := by
  by_cases hres : (s.verifyResult ok).1 = 0
  · simp [State.verifyEnd, hst, hrdy, hres, State.stageWith_upd, State.svc]
  · simp [State.verifyEnd, hst, hrdy, hres, State.stageWith_upd, State.svc]

omit hopen in
theorem State.verifyResult_of_layout (ok : Bool) (h : (s.manifest s.targetSlot).layoutOk s.upd.stage0.length = false) :
    s.verifyResult ok = (svFormat, 0) := by
  simp [State.verifyResult, h]

theorem verified_of_serviceOpen (ok : Bool) (hst : s.upd.stage0.st = 3) :
    ∃ t, exec (.verifyDone ok) s = .next t ∧ t.upd.busy = true ∧ t.upd.result = (s.verifyResult ok).1 ∧
      t.upd.component = (s.verifyResult ok).2 ∧
      ((s.manifest s.targetSlot).layoutOk s.upd.stage0.length = false → t.upd.result = svFormat) ∧
      (t.upd.result = 0 → t.upd.stage0.st = 4 ∧ t.upd.stage0.digest = (s.manifest s.targetSlot).digest) ∧
      (t.upd.result ≠ 0 → t.upd.stage0.st = 6 ∧ t.upd.stage0.digest = s.upd.stage0.digest) ∧
      t.nvm.mem = s.nvm.mem ∧ t.array = s.array ∧ t.link = s.link ∧ t.trx = s.trx := by
  obtain ⟨-, -, -, -, -, hrdy⟩ := id hopen
  refine ⟨_, exec_verifyDone hopen ok, ?_⟩
  simp only [State.verifyEnd_upd ok hst hrdy]
  exact ⟨trivial, trivial, trivial, fun h => congrArg Prod.fst (State.verifyResult_of_layout ok h), fun h => ⟨if_pos h, if_pos h⟩,
    fun h => ⟨if_neg h, if_neg h⟩, State.staging_frame (by simp [stagingPieces])⟩

theorem abort_of_serviceOpen :
    (s.upd.stage0.st ≠ 3 →
      ∃ t, exec .svcAbort s = .next t ∧ t.upd.stage0 = { s.upd.stage0 with st := 0, seq := (s.upd.stage0.seq + 1) % 2 ^ 32 } ∧
        t.upd.busy = true ∧ t.upd.lastCode = 5 ∧ t.upd.result = 0 ∧ t.nvm.mem = s.nvm.mem ∧ s.changesOnly t [.upd, .nvm]) ∧
    (s.upd.stage0.st = 3 → exec .svcAbort s = .next { s with upd := { s.upd with lastCode := 5, result := svState } }) := by
  obtain ⟨-, -, -, -, -, hrdy⟩ := id hopen
  refine ⟨fun hst => ?_, fun hst => ?_⟩
  · have heq : s.svcAbort = (s.svc 5 0).stageWith [] (fun x => { x with st := 0 }) := by
      simp [State.svcAbort, hst, State.withNvm_of_ready hrdy]
    exact ⟨_, (exec_svcAbort hopen).trans (congrArg _ heq), rfl, rfl, rfl, rfl,
      State.stageWith_mem .., ((State.changesOnly.refl s _).svc 5 0).stageWith _ _⟩
  · rw [exec_svcAbort hopen]
    simp [State.svcAbort, hst, State.svc]

end

/-- Settles O54, each command of the service port in a lemma of its own: what its operation leaves of the staging record, and the
pieces of the state that the operation does not write. -/
theorem imagesAreStaged : Obligations.ImagesAreStaged :=
  ⟨fun _ _ hopen hst hprob hlo hhi => opened_of_serviceOpen hopen hst hprob hlo hhi,
    fun _ _ hopen hlen => open_refused hopen hlen,
    fun _ _ _ _ hopen hn hdata => ⟨fun hst hin hcrc => block_taken hopen hn hdata hst hin hcrc,
      fun hst hcrc => block_of_bad_crc hopen hn hdata hst hcrc, block_refused hopen hn hdata⟩,
    fun _ hopen => verify_begins hopen, fun _ ok hopen hst => verified_of_serviceOpen hopen ok hst,
    fun _ hopen => abort_of_serviceOpen hopen, fun _ hopen => exec_svcReadBitmap hopen⟩

end Sys2Proof.Machine
end

section
/-! PROOFS. Sticky bits stand (R90): which operations only add to the sticky words, and that a bit once set reads 1. -/

namespace Sys2Proof.Machine

/-- Every sticky bit of `s` stands in `t`. -/
structure State.keepsSticky (s t : State) : Prop where
  bits : ∀ a i, (s.regs.sticky.get a).getLsbD i = true → (t.regs.sticky.get a).getLsbD i = true

/-- A one-bit sticky field is set. -/
def State.raised (s : State) (f : Field) : Prop := (s.regs.sticky.get (f.addr 0 0)).getLsbD f.lo = true

theorem State.keepsSticky.refl (s : State) : s.keepsSticky s := ⟨fun _ _ h => h⟩

theorem State.keepsSticky.trans {s t u : State} (h : s.keepsSticky t) (k : t.keepsSticky u) : s.keepsSticky u :=
  ⟨fun a i x => k.bits a i (h.bits a i x)⟩

theorem State.keepsSticky_of_eq {s t : State} (h : t.regs.sticky = s.regs.sticky) : s.keepsSticky t :=
  ⟨fun _ _ x => by rwa [h]⟩

theorem State.keepsSticky_of_only {s t : State} (h : t.only [.regs] = s.only [.regs]) : s.keepsSticky t :=
  State.keepsSticky_of_eq (congrArg (fun x => x.regs.sticky) h)

theorem State.sticky_of_raised {s : State} {f : Field} (hf : f.hi = f.lo) (h : s.raised f) : s.sticky f 0 = 1 := by
  unfold State.raised at h
  unfold State.sticky fieldNat
  rw [BitVec.getLsbD, Nat.testBit_eq_decide_div_mod_eq] at h
  simpa [hf] using h

theorem State.raised.mono {s t : State} {f : Field} (h : s.raised f) (hk : s.keepsSticky t) : t.raised f := hk.bits _ _ h

theorem State.stickBits_keepsSticky (s : State) (f : Field) (n v : Nat) : s.keepsSticky (s.stickBits f n v) := by
  refine ⟨fun a i hi => ?_⟩
  simp only [State.stickBits, Tbl.get_upd]
  split
  · next heq => simp [heq, hi]
  · exact hi

theorem State.stick_keepsSticky (s : State) (f : Field) : s.keepsSticky (s.stick f) := s.stickBits_keepsSticky f 0 1

theorem State.stick_raised (s : State) {f : Field} (hf : f.hi = f.lo ∧ f.lo < 32) : (s.stick f).raised f := by
  obtain ⟨hone, hlo⟩ := hf
  have hbit : (BitVec.ofNat 32 (2 ^ f.lo)).getLsbD f.lo = true := by
    rw [BitVec.getLsbD_ofNat, Nat.testBit_two_pow_self, decide_eq_true hlo]
    rfl
  simp only [State.raised, State.stick, State.stickBits, hone, Tbl.get_upd_self, BitVec.getLsbD_or]
  rw [show 1 % 2 ^ (f.lo + 1 - f.lo) * 2 ^ f.lo = 2 ^ f.lo by simp, hbit, Bool.or_true]

theorem State.countBy_keepsSticky (s : State) (off k : Nat) : s.keepsSticky (s.countBy off k) :=
  State.keepsSticky_of_eq (by unfold State.countBy; cases s.regs.snapBusy <;> rfl)

theorem State.count_keepsSticky (s : State) (off : Nat) : s.keepsSticky (s.count off) := s.countBy_keepsSticky off 1

section
variable {s t : State} (h : s.keepsSticky t)
include h

theorem State.keepsSticky.stickBits (f : Field) (n v : Nat) : s.keepsSticky (t.stickBits f n v) := h.trans
    (t.stickBits_keepsSticky f n v)

theorem State.keepsSticky.stick (f : Field) : s.keepsSticky (t.stick f) := h.trans (t.stick_keepsSticky f)

theorem State.keepsSticky.count (off : Nat) : s.keepsSticky (t.count off) := h.trans (t.count_keepsSticky off)

theorem State.keepsSticky.of_regs {u : State} (hu : u.regs = t.regs) : s.keepsSticky u :=
  h.trans (State.keepsSticky_of_eq (congrArg RegSt.sticky hu))

theorem State.keepsSticky.when {c : Bool} {f : State → State} (hf : ∀ t : State, t.keepsSticky (f t)) : s.keepsSticky
    (when c f t) := by
  cases c
  · exact h
  · exact h.trans (hf t)

theorem State.keepsSticky.forAll {α : Type} {f : α → State → State} (hf : ∀ a (t : State), t.keepsSticky (f a t)) (l : List α) :
    s.keepsSticky (forAll l f t) := by
  induction l generalizing t with
  | nil => exact h
  | cons a l ih => exact ih (h.trans (hf a t))

/-! ### Wakes and events -/

theorem State.keepsSticky.refuseEntry (d r : Nat) : s.keepsSticky (t.refuseEntry d r) := by
  unfold State.refuseEntry
  refine .stick (.count (h.of_regs ?_) _) _
  rfl

theorem State.keepsSticky.wakeOne (d : Nat) : s.keepsSticky (t.wakeOne d) := by
  unfold State.wakeOne
  split
  · split
    · refine .refuseEntry (h.of_regs ?_) d 1
      rfl
    · exact h
  · exact h
  · exact h
  · split
    · exact h.of_regs rfl
    · exact h

theorem State.keepsSticky.wake (d : Nat) : s.keepsSticky (t.wake d) := by
  unfold State.wake
  split
  · exact h.wakeOne d
  · exact h.forAll (fun e u => (State.keepsSticky.refl u).wakeOne e) _

theorem State.keepsSticky.queueRec (r : EvRec) : s.keepsSticky (t.queueRec r) := by
  unfold State.queueRec
  dsimp only
  split
  · refine .wake (h.of_regs ?_) 7
    rfl
  · refine .stick (.count (h.of_regs ?_) _) _
    rfl

theorem State.keepsSticky.retireNewest : s.keepsSticky t.retireNewest := by
  unfold State.retireNewest
  split
  · split
    · exact h.queueRec _
    · exact h
  · exact h

theorem State.keepsSticky.pushRec (e : EvRec) : s.keepsSticky (t.pushRec e) := by
  unfold State.pushRec
  dsimp only
  split
  · refine .count (h.of_regs ?_) _
    rfl
  · refine .when (.count (.of_regs (.when (c := ?_) h.retireNewest (f := fun t => t.count 0x3120) ?_) ?_) _) ?_
    · exact (t.retireNewest.evt.ring.get ((t.retireNewest.evt.head + 1) % 4096)).isSome
    · exact fun u => .count (.refl u) _
    · rfl
    · exact fun u => .queueRec (.refl u) _

theorem State.keepsSticky.eventP (partner : Bool) (source code sev : Nat) (pl : BitVec 96) :
    s.keepsSticky (t.eventP partner source code sev pl) := by
  have hseen : s.keepsSticky (Machine.when (t.assertsOn sev) State.assertPin (t.stickBits RF.FLT_SEV_SEEN 0 (2 ^ sev))) :=
    .when (h.stickBits _ 0 _) (fun _ => State.keepsSticky_of_eq rfl)
  unfold State.eventP
  dsimp only
  split
  · exact (hseen.wakeOne 5).pushRec _
  · split
    · refine .wake (hseen.of_regs ?_) 5
      rfl
    · refine .stick (.count (hseen.of_regs ?_) _) _
      rfl

theorem State.keepsSticky.event (source code sev : Nat) (l : List (Nat × Nat × Nat)) :
    s.keepsSticky (t.event source code sev l) := h.eventP ..

end

end Sys2Proof.Machine
end

section
/-! PROOFS. A register write that nothing stands against (`State.writeOpen`): its fields are stored, its register acts,
    and its path is
answered (R71 to R77). -/

namespace Sys2Proof.Machine

theorem State.accessDom_of_on {s : State} {d : Nat} (hd : d < 8) (hdelay : (s.dom d).delay = none) : s.accessDom d = s := by
  simp [State.accessDom, hdelay, show ¬ 8 ≤ d by omega]

theorem State.writeLevel_le_two (s : State) (f : Field) : s.writeLevel f ≤ 2 := by
  unfold State.writeLevel State.pageWrite
  repeat' split
  all_goals omega

/-- Every field's bits of a word: what a writer of level 2 may write. -/
def fieldMask (l : List (Field × Nat)) : Word :=
  BitVec.ofNat 32 (l.foldl (fun w f => w + (2 ^ (f.1.hi + 1 - f.1.lo) - 1) * 2 ^ f.1.lo) 0)

theorem State.writable_two (s : State) (l : List (Field × Nat)) : s.writable 2 l = fieldMask l := by
  rw [State.writable, List.filter_eq_self.2 fun f _ => decide_eq_true (s.writeLevel_le_two f.1)]
  rfl

/-- A register whose fields only command: a write of it stores nothing. -/
def commandFields (l : List (Field × Nat)) : Bool := l.all (fun f => f.1.acc != .rwb && f.1.acc != .rw)

theorem State.storeFields_of_command {l : List (Field × Nat)} (h : commandFields l = true) (s : State) (p level n : Nat)
    (v : Word) :
    s.storeFields p level l n v = s := by
  refine forAll_of_fixed fun f hf => ?_
  have hacc := List.all_eq_true.1 h f (List.mem_filter.1 hf).1
  cases hc : f.1.acc
  case rwb => simp [hc] at hacc
  case rw => simp [hc] at hacc
  all_goals rfl

section
variable {s : State} {a : Access} {off : Nat} {v : Word} {pg : Page} {n x : Nat}

theorem State.applyWrite_of_level (path : Path) (hbad : s.writeBad 2 off v = false) (hreg : regKind off = .reg pg n x false)
    (hne : fieldsOfWord pg x ≠ []) :
    s.applyWrite path 2 off v = (s.storeFields (pathNum path) 2 (fieldsOfWord pg x) n v).writeActs path 2 off
      (v &&& fieldMask (fieldsOfWord pg x)) := by
  have hall : (fieldsOfWord pg x).all (fun f => decide (2 < s.writeLevel f.1)) = false := by
    obtain ⟨f, l, hl⟩ := List.exists_cons_of_ne_nil hne
    rw [hl, List.all_cons, decide_eq_false (Nat.not_lt.2 (s.writeLevel_le_two f.1)), Bool.false_and]
  simp only [State.applyWrite, hbad, hreg, when, hall, State.writable_two]
  rfl

/-- The effect of a write that nothing stands against. -/
theorem State.writeReg_of_open (hopen : s.writeOpen a off v) (hreg : regKind off = .reg pg n x false) (hdom : pageDomain off < 8)
    (hoff : off ≠ 0x88) (hne : fieldsOfWord pg x ≠ []) :
    s.writeReg a off v none true = ((s.storeFields (pathNum a.path) 2 (fieldsOfWord pg x) n v).writeActs a.path 2 off
      (v &&& fieldMask (fieldsOfWord pg x))).ackWrite a off v none false := by
  obtain ⟨-, hlevel, hon, hdelay, hbusy, hwaits, hbad, hclosed⟩ := hopen
  have hd : s.wordDomain (pathNum a.path) off = pageDomain off := by simp [State.wordDomain, hreg]
  rw [hd] at hon hdelay
  have hat : s.writesAt 2 off v = 2 := by unfold State.writesAt; split <;> rfl
  simp [State.writeReg, hclosed, hreg, hd, State.accessDom_of_on hdom hdelay, hlevel, hat, hbad, hbusy, hon, hoff, hwaits,
    State.applyWrite_of_level a.path hbad hreg hne]

theorem State.writeReg_of_command (hopen : s.writeOpen a off v) (hreg : regKind off = .reg pg n x false) (hdom : pageDomain off < 8)
    (hoff : off ≠ 0x88) (hne : fieldsOfWord pg x ≠ []) (hcmd : commandFields (fieldsOfWord pg x) = true) :
    s.writeReg a off v none true =
      (s.writeActs a.path 2 off (v &&& fieldMask (fieldsOfWord pg x))).ackWrite a off v none false := by
  rw [State.writeReg_of_open hopen hreg hdom hoff hne, State.storeFields_of_command hcmd]

end

/-! ### The answer of a write that no tag asked for -/

section
variable (s : State) (a : Access) (off : Nat) (v : Word) (bad : Bool)

/-- The write is answered by its path: in CM_REG's data register, in the status byte of an SMP session, or not at all. -/
theorem State.ackNone_cases :
    (∃ w, s.ackWrite a off v none bad = { s with rpr := { s.rpr with cmBusy := false, cmResult := w } }) ∨
    (∃ w, s.ackWrite a off v none bad = { s with regs := { s.regs with smpStatus := w } }) ∨ s.ackWrite a off v none bad = s := by
  cases hpath : a.path
  case wrapper =>
    refine .inl ⟨BitVec.ofNat 56 (s.rpr.cmResult.toNat / 2 ^ 36 * 2 ^ 36 + b2n bad * 2 ^ 32 + (0#32).toNat), ?_⟩
    simp only [State.ackWrite, hpath, Option.bind_none, State.cmDone]
  case smpSession =>
    exact .inr (.inl ⟨some (BitVec.ofNat 8 (b2n bad)), by simp only [State.ackWrite, hpath, Option.bind_none]⟩)
  all_goals exact .inr (.inr (by simp only [State.ackWrite, hpath, Option.bind_none]))

theorem State.ackNone_only {K : List Piece} (hK : .regs ∉ K ∧ .rpr ∉ K) :
    (s.ackWrite a off v none bad).only K = s.only K := by
  obtain ⟨w, h⟩ | ⟨w, h⟩ | h := s.ackNone_cases a off v bad <;> simp [h, hK, RegSt.only]

theorem State.ackNone_rmap (ch : Nat) : (s.ackWrite a off v none bad).rmap ch = s.rmap ch := by
  obtain ⟨w, h⟩ | ⟨w, h⟩ | h := s.ackNone_cases a off v bad <;> simp only [h, State.rmap]

theorem State.ackNone_sticky : (s.ackWrite a off v none bad).regs.sticky = s.regs.sticky := by
  obtain ⟨w, h⟩ | ⟨w, h⟩ | h := s.ackNone_cases a off v bad <;> simp only [h]

theorem State.ackNone_doneEpoch : (s.ackWrite a off v none bad).regs.doneEpoch = s.regs.doneEpoch := by
  obtain ⟨w, h⟩ | ⟨w, h⟩ | h := s.ackNone_cases a off v bad <;> simp only [h]

end

/-- Of the pieces that hold the mirrored items and the inputs, those that the answer of a write leaves. -/
def writePieces : List Piece := [.cal, .chans, .slots, .keyOps, .commits, .inputs, .pending]

/-- A register write by its own command, nothing standing against it and its effect leaving the mirrored items. -/
theorem exec_of_write {c : Instr} {s u : State} {a : Access} {off : Nat} {v : Word}
    (h : exec c s = act c.wellFormed s (u.ackWrite a off v none false)) (hwf : c.wellFormed = true) (hrun : s.running = true)
    (hu : u.only keptPieces = s.only keptPieces) : exec c s = .next (u.ackWrite a off v none false) := by
  have hrpr : u.rpr = s.rpr := congrArg (fun x => x.rpr) hu
  have hepoch : u.regs.doneEpoch = s.regs.doneEpoch := congrArg (fun x => x.regs.doneEpoch) hu
  have hack : (u.ackWrite a off v none false).only writePieces = s.only writePieces :=
    (u.ackNone_only a off v false (by decide)).trans (State.only_mono (by decide) hu)
  refine exec_of_alike h hwf hrun ⟨fun ch => ?_, fun ch => ?_, fun ch => ?_, fun ch b => ?_, ?_, ?_, ?_⟩ ⟨?_, ?_, ?_, ?_, ?_, ?_⟩
  · rw [State.ackNone_rmap, State.rmap, hrpr]; rfl
  · exact congrArg (fun x => (x.calCh ch).count) hack
  · exact congrArg (fun x => (x.chan ch).backlog) hack
  · exact congrArg (fun x => (x.chan ch).base b) hack
  · exact congrArg (fun x => x.sec.own) hack
  · exact congrArg (fun x => x.trx.keyOps) hack
  · exact (u.ackNone_doneEpoch a off v false).trans hepoch
  · exact congrArg (fun x => x.pins.pwrGood) hack
  · exact congrArg (fun x => x.pins.instId) hack
  · exact congrArg (fun x => x.pins.nvmRdy) hack
  · exact congrArg (fun x => x.pins.sfenced) hack
  · exact congrArg (fun x => x.pins.regOcw) hack
  · exact congrArg (fun x => x.pending) hack

end Sys2Proof.Machine
end

section
/-! PROOFS. Activation, restart and confirmation of an update (O55). -/

namespace Sys2Proof.Machine

/-! ### Pieces that an event leaves -/

theorem State.now_of_only {s t : State} (h : t.only [.time] = s.only [.time]) : t.now = s.now := congrArg (fun x => x.now) h

theorem State.boot_of_only {s t : State} (h : t.only [.boot] = s.only [.boot]) : t.boot = s.boot := congrArg (fun x => x.boot) h

section
variable (s : State) (source code sev : Nat) (l : List (Nat × Nat × Nat))

@[simp] theorem State.event_nvm : (s.event source code sev l).nvm = s.nvm := State.nvm_of_only (State.event_only (by simp) ..)

@[simp] theorem State.event_array : (s.event source code sev l).array = s.array := State.array_of_only (State.event_only
    (by simp) ..)

@[simp] theorem State.event_link : (s.event source code sev l).link = s.link := State.link_of_only (State.event_only (by simp) ..)

@[simp] theorem State.event_trx : (s.event source code sev l).trx = s.trx := State.trx_of_only (State.event_only (by simp) ..)

@[simp] theorem State.event_now : (s.event source code sev l).now = s.now := State.now_of_only (State.event_only (by simp) ..)

@[simp] theorem State.event_boot : (s.event source code sev l).boot = s.boot := State.boot_of_only (State.event_only (by simp) ..)

end

/-! ### Activation -/

theorem State.activateNow_jobs {s : State} (hrdy : s.pins.nvmRdy = true) (follow : Nat) :
    (s.activateNow follow).nvm.jobs.map (fun j => j.why) = s.nvm.jobs.map (fun j => j.why) ++ [.restart] := by
  simp [State.activateNow, State.nvmJob, hrdy]

theorem State.changesOnly.activateNow {s t : State} {l : List Part} (h : s.changesOnly t l) (follow : Nat)
    (hl : .upd ∈ l ∧ .nvm ∈ l := by decide) : s.changesOnly (t.activateNow follow) l :=
  changesOnly_nvm (changesOnly_upd h hl.1 _) hl.2 _

@[simp] theorem State.activateNow_mem (s : State) (follow : Nat) : (s.activateNow follow).nvm.mem = s.nvm.mem :=
  State.mem_of_only (State.activateNow_only (by simp) ..)

theorem State.orLate_of_none {s : State} (h : s.upd.restartAt = none) (c : LateCmd) (f : State → State) : s.orLate c f = f s := by
  simp [State.orLate, h]

section
variable {s : State}

theorem activated_of_serviceOpen {digest : List Byte} (hopen : s.serviceOpen) (hst : s.upd.stage0.st = 4)
    (hlen : digest.length = 48)
    (hdigest : digestOf digest = s.upd.stage0.digest) (hpair : s.pins.instId = false ∨ s.recovery = true) :
    ∃ t, exec (.svcActivate digest) s = .next t ∧ t.upd.activate = some 0 ∧ t.upd.busy = true ∧ t.upd.result = 0 ∧
      t.nvm.jobs.map (fun j => j.why) = s.nvm.jobs.map (fun j => j.why) ++ [.restart] ∧ t.nvm.mem = s.nvm.mem ∧
      s.changesOnly t [.upd, .nvm] := by
  obtain ⟨-, -, hrestart, -, -, hrdy⟩ := id hopen
  have hpair' : ((s.manifest s.targetSlot).pair && s.pins.instId && !s.recovery) = false := by
    rcases hpair with h | h <;> simp [h]
  have heq : s.orLate (.activate digest) (fun t => t.svcActivate digest) = (s.svc 4 0).activateNow 0 := by
    rw [State.orLate_of_none hrestart]
    simp only [State.svcActivate]
    rw [if_neg (not_not.2 hst), if_neg (not_not.2 hdigest), hpair', if_neg (by decide), State.withNvm_of_ready hrdy]
  refine ⟨(s.svc 4 0).activateNow 0, ?_, rfl, rfl, rfl, State.activateNow_jobs hrdy 0, State.activateNow_mem .., ?_⟩
  · rw [← heq]
    exact exec_service (c := .svcActivate digest) (f := fun t => t.orLate (.activate digest)
        (fun t => t.svcActivate digest)) hopen rfl
      (by simp [Instr.wellFormed, Instr.units, Instr.partsOk, hlen]) (by simp only [heq]; simp [keptPieces, mirrorPieces])
  · exact ((State.changesOnly.refl s _).svc 4 0).activateNow 0

theorem followed_of_ready (hrun : s.running = true) (hst : s.upd.stage0.st = 5) (hready : s.ready = true)
    (hpeer : s.pair.peerDigest = some s.upd.stage0.digest) (hbusy : s.upd.busy = false) (hrdy : s.pins.nvmRdy = true) :
    ∃ t, exec .followActivate s = .next t ∧ t.upd.activate = some 1 ∧ t.upd.busy = true ∧
      t.nvm.jobs.map (fun j => j.why) = s.nvm.jobs.map (fun j => j.why) ++ [.restart] ∧ t.nvm.mem = s.nvm.mem ∧
      s.changesOnly t [.upd, .nvm] := by
  have heq : s.followNow = s.activateNow 1 := by simp [State.followNow, hst, hready, hpeer, hbusy, hrdy]
  exact ⟨_, (exec_of_kept (c := .followActivate) (u := s.followNow) rfl rfl hrun (by simp [keptPieces, mirrorPieces])).trans
      (congrArg _ heq), rfl,
    rfl, State.activateNow_jobs hrdy 1, State.activateNow_mem .., (State.changesOnly.refl s _).activateNow 1⟩

/-! ### Restarts (R450) -/

/-- With no request outstanding the decision of a restart records itself alone. -/
theorem State.decideRestart_of_idle (hreqs : s.trx.reqs = []) (hnone : s.upd.restartAt = none) (cause : Nat) :
    s.decideRestart cause = (({ s with upd := { s.upd with restartAt := some (s.now + 2), cause :=
        cause } } : State).event 0x04 0x0c08 0
      [(0, 1, cause)]) := by
  have hmem : ({ s with upd := { s.upd with restartAt := some (s.now + 2), cause := cause } } : State).memoryReqs = [] := by
    simp [State.memoryReqs, hreqs, tagOrder, sortBy]
  simp only [State.decideRestart, hnone, hmem, forAll_nil]

/-- What the decision leaves. -/
theorem State.decideRestart_frame (hreqs : s.trx.reqs = []) (hnone : s.upd.restartAt = none) (cause : Nat) {K : List Piece}
    (hK : .upd ∉ K ∧ .regs ∉ K ∧ .pins ∉ K ∧ .evt ∉ K ∧ .pinFlt ∉ K ∧ .doms ∉ K ∧ .pwr ∉ K) :
    (s.decideRestart cause).only K = s.only K ∧
      (s.decideRestart cause).upd = { s.upd with restartAt := some (s.now + 2), cause := cause } := by
  rw [State.decideRestart_of_idle hreqs hnone]
  exact ⟨by simp [hK], by simp⟩

theorem restart_of_serviceOpen (hopen : s.serviceOpen) (hst : s.upd.stage0.st ≠ 3) (hreqs : s.trx.reqs = []) :
    ∃ t, exec .svcRestart s = .next t ∧ t.upd.restartAt = some (s.now + 2) ∧ t.upd.cause = 1 ∧ t.upd.result = 0 ∧
      t.nvm = s.nvm ∧ t.array = s.array ∧ t.link = s.link := by
  obtain ⟨-, -, hrestart, -, -, -⟩ := id hopen
  have heq : s.orLate .restart State.svcRestart = (s.svc 6 0).decideRestart 1 := by
    rw [State.orLate_of_none hrestart, State.svcRestart, if_neg hst]
  obtain ⟨honly, hupd⟩ := State.decideRestart_frame (s := s.svc 6 0) hreqs hrestart 1
    (K := keptPieces ++ [.mem, .nvm, .array, .lanes, .courses, .link]) (by decide)
  rw [← heq] at honly hupd
  refine ⟨s.orLate .restart State.svcRestart, ?_, ?_⟩
  · exact exec_service (c := .svcRestart) (f := fun t => t.orLate .restart State.svcRestart) hopen rfl rfl
      (State.only_mono (by decide) honly)
  · rw [hupd]
    exact ⟨rfl, rfl, rfl, State.nvm_of_only (State.only_mono (by decide) honly), State.array_of_only (State.only_mono
        (by decide) honly),
      State.link_of_only (State.only_mono (by decide) honly)⟩

theorem probation_expires {t0 : Nat} (hrun : s.running = true) (hfrom : s.upd.probFrom = some t0) (hprob : s.onProbation = true)
    (hend : s.upd.probEnd = false) (htime : t0 + 2000000 * s.rf RF.UPD_PROB_WINDOW ≤ s.now) (hnone : s.upd.restartAt = none)
    (hreqs : s.trx.reqs = []) :
    ∃ t, exec .probationExpiry s = .next t ∧ t.upd.probEnd = true ∧ t.upd.restartAt = some (s.now + 2) ∧ t.upd.cause = 2 ∧
      t.nvm = s.nvm ∧ t.array = s.array ∧ t.link = s.link := by
  have heq : s.probationOver = ((({ s with upd := { s.upd with probEnd := true } } : State).event 0x04 0x0c06 1
      [(0, 1, s.boot.brec.unconfirmed)])).decideRestart 2 := by
    simp only [State.probationOver, hfrom, hprob, hend, htime, decide_true, Bool.not_false, Bool.and_self, if_true]
  have hevent := State.event_only (K := keptPieces ++ [.mem, .nvm, .array, .lanes, .courses, .link]) (by decide)
    ({ s with upd := { s.upd with probEnd := true } } : State) 0x04 0x0c06 1 [(0, 1, s.boot.brec.unconfirmed)]
  obtain ⟨honly, hupd⟩ := State.decideRestart_frame (by rw [State.event_trx]; exact hreqs) (by rw [State.event_upd]; exact hnone) 2
    (K := keptPieces ++ [.mem, .nvm, .array, .lanes, .courses, .link]) (by decide)
    (s := ({ s with upd := { s.upd with probEnd := true } } : State).event 0x04 0x0c06 1 [(0, 1, s.boot.brec.unconfirmed)])
  rw [hevent, ← heq] at honly
  rw [← heq, State.event_upd, State.event_now] at hupd
  refine ⟨s.probationOver, exec_of_kept (c := .probationExpiry) rfl rfl hrun (State.only_mono (by decide) honly), ?_⟩
  rw [hupd]
  exact ⟨rfl, rfl, rfl, State.nvm_of_only (State.only_mono (by decide) honly), State.array_of_only (State.only_mono
      (by decide) honly),
    State.link_of_only (State.only_mono (by decide) honly)⟩

/-- The ROM's checks have passed: D5 to D7 are on and the DRBG is seeded (R92). -/
theorem State.bootRom_of_good {env : BootEnv} (hrom : env.romOk = true) (hfuse : env.fuseOk = true)
    (hentropy : env.entropyOk = true)
    (hdead : env.deadDomain = []) :
    s.bootRom env = (true, (forAll (List.range 16) (fun g t => t.enterNoref g) (forAll [5, 6, 7] (fun d t => t.switchOn d)
      ({ s.setStage .rom with nvm := { s.nvm with badWords := env.badWords } } : State))).startDrbg) := by
  simp only [State.bootRom, hdead, hrom, hfuse, hentropy, List.contains_nil, List.any_cons, List.any_nil, Bool.or_self,
    Bool.not_true, if_false, Bool.false_eq_true]
  rfl

/-- What steps 1 to 3 leave, their checks passed. -/
theorem State.bootRom_frame {env : BootEnv} (hrom : env.romOk = true) (hfuse : env.fuseOk = true) (hentropy : env.entropyOk = true)
    (hdead : env.deadDomain = []) {K : List Piece} (hK : .free ∉ K ∧ .sec ∉ K ∧ .cal ∉ K ∧ .doms ∉ K ∧ .pins ∉ K ∧ .regs ∉ K) :
    (s.bootRom env).1 = true ∧ (s.bootRom env).2.only K =
      ({ s.setStage .rom with nvm := { s.nvm with badWords := env.badWords } } : State).only K := by
  rw [State.bootRom_of_good hrom hfuse hentropy hdead]
  exact ⟨rfl, by simp [hK]⟩

theorem restart_goes_on {t0 : Nat} {env : BootEnv} (hrun : s.running = true) (henv : env.wellFormed = true)
    (hat : s.upd.restartAt = some t0) (htime : t0 ≤ s.now) (hrdy : s.pins.nvmRdy = false) (hrom : env.romOk = true)
    (hfuse : env.fuseOk = true) (hentropy : env.entropyOk = true) (hdead : env.deadDomain = []) :
    ∃ t, exec (.updateRestartProceed env) s = .next t ∧ t.boot.stage = .rom ∧ t.boot.waiting = true ∧
      t.upd.restartAt = none ∧ t.time = s.time ∧ t.nvm.mem = s.nvm.mem ∧ t.pair = PairSt.init := by
  obtain ⟨hok, honly⟩ := State.bootRom_frame (s := s.restartCold) hrom hfuse hentropy hdead
    (K := [.time, .inputs, .mem, .boot, .role, .pair, .upd]) (by decide)
  have hwait : (s.restartCold.bootRom env).2.pins.nvmRdy = false := (congrArg (fun x => x.pins.nvmRdy) honly).trans hrdy
  have heq : s.restartGoes env = { (s.restartCold.bootRom env).2 with
      boot := { (s.restartCold.bootRom env).2.boot with waiting := true, stageAt := (s.restartCold.bootRom env).2.now } } := by
    rcases hr : s.restartCold.bootRom env with ⟨b, u⟩
    rw [hr] at hok hwait
    obtain rfl : b = true := hok
    have hwait : u.pins.nvmRdy = false := hwait
    simp only [State.restartGoes, hat, htime, if_true, State.startUp, hr, hwait, Bool.false_eq_true, if_false]
  have hpair : (s.restartGoes env).pair = PairSt.init := by
    rw [heq]
    exact congrArg (fun x => x.pair) honly
  have hmirror : s.mirrorFrom (s.restartGoes env) = s.restartGoes env := by
    rw [State.mirrorFrom, hpair]
    exact if_neg fun h => absurd h.2 (by decide)
  refine ⟨s.withInputs (s.restartGoes env), ?_, ?_⟩
  · rw [exec_of_act (c := .updateRestartProceed env) rfl (by simp [Instr.wellFormed, Instr.units, Instr.partsOk, henv]) hrun]
    exact congrArg (fun x => Host.Outcome.next (s.withInputs x)) hmirror
  · refine ⟨?_, ?_, ?_, ?_, ?_, hpair⟩ <;> rw [heq]
    · exact congrArg (fun x => x.boot.stage) honly
    · rfl
    · exact congrArg (fun x => x.upd.restartAt) honly
    · exact congrArg (fun x => x.time) honly
    · exact congrArg (fun x => x.nvm.mem) honly

/-! ### Confirmation (R455, R456) -/

theorem State.confirmNow_brec (route : Nat) :
    (s.confirmNow route).boot.brec.pending = false ∧ (s.confirmNow route).boot.brec.unconfirmed = 0 := by
  unfold State.confirmNow
  rw [State.event_boot]
  exact ⟨rfl, rfl⟩

theorem State.confirmNow_raised (route : Nat) : (s.confirmNow route).raised RF.UPD_CONFIRMED_EVT :=
  (State.stick_raised _ (by decide)).mono ((State.keepsSticky.refl _).event ..)

theorem State.confirmNow_jobs (hrdy : s.pins.nvmRdy = true) (route : Nat) :
    (s.confirmNow route).nvm.jobs.map (fun j => j.why) = s.nvm.jobs.map (fun j => j.why) ++ [.bootRecord] := by
  have hnvm : (s.confirmNow route).nvm = (s.writeBoot (fun b => { b with pending := false, unconfirmed := 0 })).nvm := by
    rw [State.confirmNow, State.event_nvm]
    rfl
  rw [hnvm]
  simp [State.writeBoot, State.nvmJob, hrdy]

@[simp] theorem State.confirmNow_mem (route : Nat) : (s.confirmNow route).nvm.mem = s.nvm.mem :=
  State.mem_of_only (State.confirmNow_only (by simp) ..)

theorem State.confirmHost_of_match (hend : s.upd.probEnd = false) (hprob : s.onProbation = true) (hagree : s.pairAgrees 0 = true) :
    s.confirmHost true = (0, s.confirmNow 0) := by
  simp [State.confirmHost, hend, hprob, hagree]

theorem confirmed_of_serviceOpen {digest : List Byte} (hend : s.upd.probEnd = false) (hprob : s.onProbation = true)
    (hagree : s.pairAgrees 0 = true) (hopen : s.serviceOpen) (hrec : s.recovery = false) (hlen : digest.length = 48)
    (hdigest : digestOf digest = s.boot.digest) :
    ∃ t, exec (.svcConfirm digest) s = .next t ∧ t.boot.brec.pending = false ∧ t.boot.brec.unconfirmed = 0 ∧
      t.upd.result = 0 ∧ t.sticky RF.UPD_CONFIRMED_EVT 0 = 1 ∧
      t.nvm.jobs.map (fun j => j.why) = s.nvm.jobs.map (fun j => j.why) ++ [.bootRecord] ∧ t.nvm.mem = s.nvm.mem := by
  obtain ⟨-, -, hrestart, -, -, hrdy⟩ := id hopen
  have heq : s.orLate (.confirm digest) (fun t => t.svcConfirm digest) = (s.confirmNow 0).svc 7 0 := by
    simp [State.orLate_of_none hrestart, State.svcConfirm, hrec, hdigest, State.confirmHost_of_match hend hprob hagree]
  refine ⟨(s.confirmNow 0).svc 7 0, ?_, (State.confirmNow_brec 0).1, (State.confirmNow_brec 0).2, rfl,
    State.sticky_of_raised rfl (State.confirmNow_raised 0), State.confirmNow_jobs hrdy 0, State.confirmNow_mem 0⟩
  rw [← heq]
  exact exec_service (c := .svcConfirm digest) (f := fun t => t.orLate (.confirm digest) (fun t => t.svcConfirm digest)) hopen rfl
    (by simp [Instr.wellFormed, Instr.units, Instr.partsOk, hlen]) (by simp only [heq]; simp [keptPieces, mirrorPieces, State.svc])

theorem confirmed_of_writeOpen {a : Access} (hend : s.upd.probEnd = false) (hprob : s.onProbation = true)
    (hagree : s.pairAgrees 0 = true) (hcourse : a.course < 12) (hopen : s.writeOpen a 0x4018 (s.boot.digest.setWidth 32))
    (hrestart : s.upd.restartAt = none) :
    ∃ t, exec (.updConfirm a (s.boot.digest.setWidth 32)) s = .next t ∧ t.boot.brec.pending = false ∧
      t.boot.brec.unconfirmed = 0 ∧ t.sticky RF.UPD_CONFIRMED_EVT 0 = 1 ∧ t.nvm.mem = s.nvm.mem := by
  have hrun : s.running = true := hopen.1
  have heq := State.writeReg_of_command hopen (pg := .upd) (n := 0) (x := 0x18) (by decide) (by decide) (by decide) (by decide)
    (by decide)
  have hall : s.boot.digest.setWidth 32 &&& fieldMask (fieldsOfWord .upd 0x18) = s.boot.digest.setWidth 32 := by
    rw [show fieldMask (fieldsOfWord .upd 0x18) = BitVec.allOnes 32 by decide, BitVec.and_allOnes]
  rw [hall, State.writeActs, State.orLate_of_none hrestart, State.regConfirm, decide_eq_true rfl,
    State.confirmHost_of_match hend hprob hagree] at heq
  have hack := (s.confirmNow 0).ackNone_only a 0x4018 (s.boot.digest.setWidth 32) false (K := [.boot, .mem]) (by decide)
  have hboot := State.boot_of_only (State.only_mono (by decide) hack)
  refine ⟨_, exec_of_write (c := .updConfirm a (s.boot.digest.setWidth 32)) (u := s.confirmNow 0)
    (congrArg (act (Instr.updConfirm a (s.boot.digest.setWidth 32)).wellFormed s) heq)
    (by simp [Instr.wellFormed, Instr.units, Instr.partsOk, hcourse]) hrun (by simp [keptPieces, mirrorPieces]), ?_, ?_, ?_, ?_⟩
  · rw [hboot]
    exact (State.confirmNow_brec 0).1
  · rw [hboot]
    exact (State.confirmNow_brec 0).2
  · rw [State.sticky, State.ackNone_sticky]
    exact State.sticky_of_raised rfl (State.confirmNow_raised 0)
  · exact (State.mem_of_only (State.only_mono (by decide) hack)).trans (State.confirmNow_mem 0)

theorem selftest_passes (hrun : s.running = true) (htest : s.upd.testing = true) (hauto : s.rfb RF.UPD_AUTO_CONFIRM = false) :
    exec .selftestPass s = .next { s with upd := { s.upd with testing := false, selfPass := true } } := by
  have heq : s.selfPassed = { s with upd := { s.upd with testing := false, selfPass := true } } := by
    have hauto' : ({ s with upd := { s.upd with testing := false, selfPass :=
        true } } : State).rfb RF.UPD_AUTO_CONFIRM = false := hauto
    simp only [State.selfPassed, htest, if_true, hauto', Bool.false_and, Bool.false_eq_true, if_false]
  exact exec_of_effect (c := .selftestPass) (l := [.upd]) rfl rfl hrun heq (changesOnly_upd (.refl s _) (by decide) _) rfl

end

/-- Settles O55, each command in a lemma of its own: the decision of a restart with no request outstanding records itself alone,
    and a
confirmation rewrites the boot record. -/
theorem updatesActivateAndConfirm : Obligations.UpdatesActivateAndConfirm :=
  fun _ _ _ _ _ => ⟨activated_of_serviceOpen, followed_of_ready, restart_of_serviceOpen, probation_expires, restart_goes_on,
    fun hend hprob hagree => ⟨confirmed_of_serviceOpen hend hprob hagree, confirmed_of_writeOpen hend hprob hagree⟩,
        selftest_passes⟩

end Sys2Proof.Machine
end

section
/-! PROOFS. Measurement windows and the age unit (O29): what a roll leaves of each context. -/

namespace Sys2Proof.Machine

theorem State.regul_of_only {s t : State} (h : t.only [.regul] = s.only [.regul]) : t.regul = s.regul := congrArg
    (fun x => x.regul) h

/-! ### The contexts at a roll (R211 to R214) -/

/-- From `r` to `r'` only the contexts have moved. -/
def RegulSt.ctxMoved (r r' : RegulSt) : Prop := r' = { r with ctx := r'.ctx }

theorem RegulSt.ctxMoved.trans {r r' r'' : RegulSt} (h : r.ctxMoved r') (k : r'.ctxMoved r'') : r.ctxMoved r'' := by
  unfold RegulSt.ctxMoved at *
  rw [k, h]

/-- The context is listed. -/
def RegulSt.lists (r : RegulSt) (k : Nat) : Prop := (lookupEnt k r.ctx.ents).isSome = true

theorem lookupEnt_isSome_of_mem {α : Type} {k : Nat} {l : List (Nat × α)} (h : k ∈ l.map (·.1)) :
    (lookupEnt k l).isSome = true := by
  induction l with
  | nil => simp at h
  | cons e l ih =>
    obtain ⟨i, c⟩ := e
    rcases List.mem_cons.1 h with rfl | h
    · simp [lookupEnt]
    · rw [lookupEnt]
      split
      · rfl
      · exact ih h

theorem RegulSt.lists_of_mem {r : RegulSt} {k : Nat} (h : k ∈ r.ctx.keysWhere (fun _ => true)) : r.lists k :=
  lookupEnt_isSome_of_mem (by simpa [Tbl.keysWhere] using h)

theorem RegulSt.lists_upd {r : RegulSt} {k : Nat} (h : r.lists k) (i : Nat) (f : Ctx → Ctx) :
    ({ r with ctx := r.ctx.upd i f } : RegulSt).lists k := by
  simp only [RegulSt.lists, Tbl.upd, Tbl.set, lookupEnt_insertEnt]
  split
  · rfl
  · exact h

/-- A context at the close of its window: all that the window counted starts again, and what it was granted stands. -/
structure Ctx.closes (c c' : Ctx) : Prop where
  out : c'.out = c.out
  committed : c'.committed = c.committed
  window : c.winLines = 0 → c'.winLines = 0

theorem Ctx.closes.refl (c : Ctx) : c.closes c := ⟨rfl, rfl, id⟩

theorem Ctx.closes.trans {c c' c'' : Ctx} (h : c.closes c') (k : c'.closes c'') : c.closes c'' :=
  ⟨k.out.trans h.out, k.committed.trans h.committed, fun x => k.window (h.window x)⟩

/-- A context whose deficit alone may have moved. -/
structure Ctx.sameButDeficit (c c' : Ctx) : Prop where
  out : c'.out = c.out
  committed : c'.committed = c.committed
  minEff : c'.minEff = c.minEff
  winLines : c'.winLines = c.winLines

/-- What the close of a window makes of a context, `short` telling that it fell short (R214). -/
def Ctx.atClose (short : Bool) (c : Ctx) : Ctx :=
  { c with
    winLines := 0
    shortWin := if short then min (c.shortWin + 1) (2 ^ 32 - 1) else c.shortWin }

section
variable (s : State)

theorem State.closeWindow_regul (k : Nat) :
    ∃ f : Ctx → Ctx, (s.closeWindow k).regul = { s.regul with ctx := s.regul.ctx.upd k f } ∧ ∀ c, c.closes (f c) ∧
        (f c).winLines = 0 := by
  refine ⟨Ctx.atClose (s.isOwed k && !(s.ctxReqs k).isEmpty), ?_, fun c => ⟨⟨rfl, rfl, fun _ => rfl⟩, rfl⟩⟩
  unfold State.closeWindow
  dsimp only
  generalize (s.isOwed k && !(s.ctxReqs k).isEmpty) = short
  cases short <;> rfl

theorem State.closeWindow_ctx (k i : Nat) :
    (s.ctx i).closes ((s.closeWindow k).ctx i) ∧ (i = k → ((s.closeWindow k).ctx i).winLines = 0) := by
  obtain ⟨f, hregul, hf⟩ := s.closeWindow_regul k
  have hctx : (s.closeWindow k).ctx i = if k = i then f (s.ctx k) else s.ctx i := by
    rw [State.ctx, hregul]
    exact Tbl.get_upd ..
  rw [hctx]
  split
  · next heq => exact heq ▸ ⟨(hf _).1, fun _ => (hf _).2⟩
  · next hne => exact ⟨.refl _, fun h => absurd h.symm hne⟩

/-- Every window of a list of contexts closes. -/
theorem State.closeWindows_regul (l : List Nat) :
    s.regul.ctxMoved (forAll l (fun k t => t.closeWindow k) s).regul ∧
    (∀ i, (s.ctx i).closes ((forAll l (fun k t => t.closeWindow k) s).ctx i)) ∧
    (∀ i ∈ l, ((forAll l (fun k t => t.closeWindow k) s).ctx i).winLines = 0) ∧
    ∀ i, s.regul.lists i → (forAll l (fun k t => t.closeWindow k) s).regul.lists i := by
  induction l generalizing s with
  | nil => exact ⟨rfl, fun i => .refl _, by simp, fun i h => h⟩
  | cons k l ih =>
    obtain ⟨hmoved, hcloses, hzero, hlists⟩ := ih (s.closeWindow k)
    obtain ⟨f, hregul, -⟩ := s.closeWindow_regul k
    have hstep := s.closeWindow_ctx k
    rw [forAll_cons]
    refine ⟨RegulSt.ctxMoved.trans (by rw [RegulSt.ctxMoved, hregul]) hmoved, fun i => (hstep i).1.trans (hcloses i),
        fun i hi => ?_,
      fun i h => hlists i (hregul ▸ RegulSt.lists_upd h k f)⟩
    rcases List.mem_cons.1 hi with rfl | hi
    · exact (hcloses i).window ((hstep i).2 rfl)
    · exact hzero i hi

/-! ### The effective minimums (R212) -/

theorem State.resetDeficits_regul :
    s.regul.ctxMoved s.resetDeficits.regul ∧ ∀ i, (s.ctx i).sameButDeficit (s.resetDeficits.ctx i) := by
  unfold State.resetDeficits
  generalize hp : (fun k : Nat => (s.ctxQueue k).isEmpty || s.isOwed k) = p
  suffices h : ∀ (l : List Nat) (t : State), t.regul.ctxMoved (forAll l (fun k t => if p k then t.setCtx k (fun c =>
      { c with deficit := 0 }) else t) t).regul ∧ ∀ i, (t.ctx i).sameButDeficit ((forAll l (fun k t => if p k then t.setCtx k
          (fun c =>
      { c with deficit := 0 }) else t) t).ctx i) by
    subst hp
    exact h _ s
  intro l
  induction l with
  | nil => exact fun t => ⟨rfl, fun i => ⟨rfl, rfl, rfl, rfl⟩⟩
  | cons k l ih =>
    intro t
    have hstep : t.regul.ctxMoved (if p k then t.setCtx k (fun c => { c with deficit := 0 }) else t).regul ∧
        ∀ i, (t.ctx i).sameButDeficit ((if p k then t.setCtx k (fun c => { c with deficit := 0 }) else t).ctx i) := by
      split
      · refine ⟨rfl, fun i => ?_⟩
        have hctx : (t.setCtx k (fun c => { c with deficit := 0 })).ctx i =
            if k = i then { t.ctx k with deficit := 0 } else t.ctx i := Tbl.get_upd ..
        rw [hctx]
        split
        · next heq => exact heq ▸ ⟨rfl, rfl, rfl, rfl⟩
        · exact ⟨rfl, rfl, rfl, rfl⟩
      · exact ⟨rfl, fun i => ⟨rfl, rfl, rfl, rfl⟩⟩
    obtain ⟨hmoved, hsame⟩ := ih (if p k then t.setCtx k (fun c => { c with deficit := 0 }) else t)
    rw [forAll_cons]
    exact ⟨hstep.1.trans hmoved, fun i => ⟨(hsame i).out.trans (hstep.2 i).out, (hsame i).committed.trans (hstep.2 i).committed,
      (hsame i).minEff.trans (hstep.2 i).minEff, (hsame i).winLines.trans (hstep.2 i).winLines⟩⟩

omit s in
theorem lookupEnt_map_key {α : Type} (k : Nat) (g : Nat → α → α) (l : List (Nat × α)) :
    lookupEnt k (l.map (fun e => (e.1, g e.1 e.2))) = (lookupEnt k l).map (g k) := by
  induction l with
  | nil => rfl
  | cons e l ih =>
    simp only [List.map_cons, lookupEnt]
    split
    · next heq => simp [heq]
    · exact ih

/-- The share of a committed minimum that the budget left by the real-time contexts allows is at most the minimum (R212). -/
theorem scaled_le {c budget rt ord : Nat} (h : budget < 100 * (rt + ord)) : c * (budget - 100 * rt) / (100 * ord) ≤ c :=
  Nat.div_le_of_le_mul (Nat.mul_comm (100 * ord) c ▸ Nat.mul_le_mul_left c (by omega))

/-- A roll of the minimums: before the deficits are reset every listed context has its effective minimum,
    at most the committed one. -/
theorem State.scaleMins_regul (old : Nat) :
    ∃ (t : State) (eff : Nat → Ctx → Nat), (s.scaleMins old).regul = t.resetDeficits.regul ∧ t.regul.lastRoll = s.now ∧
      t.regul.rollFloor = s.regul.floorNow ∧ t.regul.slotFree = s.regul.slotFree ∧ (∀ k c, eff k c ≤ c.committed) ∧
      t.regul.ctx = ⟨s.regul.ctx.dflt, s.regul.ctx.ents.map (fun e => (e.1, { e.2 with minEff := eff e.1 e.2 }))⟩ := by
  unfold State.scaleMins
  extract_lets floor budget rt ord whole rtOver eff r0 t0 u t1 t2
  have heff : ∀ k c, eff k c ≤ c.committed := by
    intro k c
    by_cases hwhole : 100 * (rt + ord) ≤ budget
    · simp [eff, whole, hwhole]
    · have hscaled := scaled_le (c := c.committed) (Nat.lt_of_not_le hwhole)
      simp only [eff]
      split
      · exact Nat.le_refl _
      · split
        · exact Nat.zero_le _
        · exact hscaled
  have ht1 : t1.regul = t0.regul := State.regul_of_only (by simp only [t1]; split <;> simp [u])
  refine ⟨t1, eff, ?_, ?_, ?_, ?_, heff, ?_⟩
  · exact State.regul_of_only (by split <;> simp [t2])
  all_goals rw [ht1]

/-- A listed context after a roll of the minimums. -/
theorem State.scaleMins_ctx (old k : Nat) (hk : s.regul.lists k) :
    ((s.scaleMins old).ctx k).winLines = (s.ctx k).winLines ∧ ((s.scaleMins old).ctx k).committed = (s.ctx k).committed ∧
      ((s.scaleMins old).ctx k).minEff ≤ ((s.scaleMins old).ctx k).committed ∧ ((s.scaleMins old).ctx k).out = (s.ctx k).out := by
  obtain ⟨t, eff, hregul, -, -, -, heff, hctx⟩ := s.scaleMins_regul old
  obtain ⟨c, hc⟩ := Option.isSome_iff_exists.1 hk
  have hs : s.ctx k = c := by simp [State.ctx, Tbl.get, hc]
  have hmap := lookupEnt_map_key k (fun k c => { c with minEff := eff k c }) s.regul.ctx.ents
  have ht : t.ctx k = { c with minEff := eff k c } := by
    simp only [State.ctx, Tbl.get, hctx]
    rw [hmap, hc]
    rfl
  have hsame := t.resetDeficits_regul.2 k
  have hres : (s.scaleMins old).ctx k = t.resetDeficits.ctx k := by rw [State.ctx, hregul]; rfl
  rw [hres, hsame.out, hsame.committed, hsame.minEff, hsame.winLines, ht, hs]
  exact ⟨rfl, rfl, heff k c, rfl⟩

theorem State.scaleMins_frame (old : Nat) :
    (s.scaleMins old).regul.lastRoll = s.now ∧ (s.scaleMins old).regul.rollFloor = s.regul.floorNow ∧
      (s.scaleMins old).regul.slotFree = s.regul.slotFree := by
  obtain ⟨t, -, hregul, hroll, hfloor, hslot, -, -⟩ := s.scaleMins_regul old
  rw [hregul, t.resetDeficits_regul.1]
  exact ⟨hroll, hfloor, hslot⟩

end

/-! ### The two commands -/

/-- What no roll of a window touches. -/
def rollPieces : List Piece := [.time, .lanes, .courses, .link, .reqs, .keyOps, .trx, .mem, .nvm]

theorem State.rollWindow_frame (s : State) :
    s.rollWindow.regul.lastRoll = s.now ∧ s.rollWindow.regul.rollFloor = s.regul.floorNow ∧
    (∀ k, k ∈ s.regul.ctx.keysWhere (fun _ => true) → (s.rollWindow.ctx k).winLines = 0 ∧
      (s.rollWindow.ctx k).committed = (s.ctx k).committed ∧ (s.rollWindow.ctx k).minEff ≤ (s.rollWindow.ctx k).committed ∧
      (s.rollWindow.ctx k).out = (s.ctx k).out) ∧ s.rollWindow.regul.slotFree = s.regul.slotFree := by
  unfold State.rollWindow
  obtain ⟨hmoved, hcloses, hzero, hlists⟩ := s.closeWindows_regul (s.regul.ctx.keysWhere (fun _ => true))
  have hnow : (forAll (s.regul.ctx.keysWhere (fun _ => true)) (fun k t => t.closeWindow k) s).now = s.now :=
    State.now_of_only (by simp)
  generalize forAll (s.regul.ctx.keysWhere (fun _ => true)) (fun k t => t.closeWindow k) s = t at *
  obtain ⟨hroll, hfloor, hslot⟩ := t.scaleMins_frame s.regul.rollFloor
  refine ⟨hroll.trans hnow, hfloor.trans (by rw [hmoved]), fun k hk => ?_, hslot.trans (by rw [hmoved])⟩
  obtain ⟨hwin, hcom, hmin, hout⟩ := t.scaleMins_ctx s.regul.rollFloor k (hlists k (RegulSt.lists_of_mem hk))
  exact ⟨hwin.trans (hzero k hk), hcom.trans (hcloses k).committed, hmin, hout.trans (hcloses k).out⟩

section
variable {s : State} (hrun : s.running = true) (hon : s.domOn 2 = true)
include hrun hon

theorem window_rolls (htime : s.now % s.rf RF.REG_WINDOW = 0) (hlast : s.regul.lastRoll < s.now) :
    ∃ t, exec .windowRoll s = .next t ∧ t.regul.lastRoll = s.now ∧ t.regul.rollFloor = s.regul.floorNow ∧
      (∀ k, k ∈ s.regul.ctx.keysWhere (fun _ => true) → (t.ctx k).winLines = 0 ∧ (t.ctx k).committed = (s.ctx k).committed ∧
        (t.ctx k).minEff ≤ (t.ctx k).committed ∧ (t.ctx k).out = (s.ctx k).out) ∧
      t.regul.slotFree = s.regul.slotFree ∧ t.link = s.link ∧ t.trx = s.trx ∧ t.nvm = s.nvm := by
  have heq : opWindowRoll s = s.rollWindow := if_pos ⟨hon, htime, hlast⟩
  obtain ⟨hroll, hfloor, hctx, hslot⟩ := s.rollWindow_frame
  have honly := State.rollWindow_only (K := rollPieces) (by decide) s
  exact ⟨s.rollWindow, exec_of_kept (c := .windowRoll) (congrArg (act true s) heq) rfl hrun (by simp [keptPieces, mirrorPieces]),
      hroll, hfloor, hctx,
    hslot, State.link_of_only (State.only_mono (by decide) honly), State.trx_of_only (State.only_mono (by decide) honly),
    State.nvm_of_only (State.only_mono (by decide) honly)⟩

theorem age_unit_passes :
    ∃ t, exec .ageUnitExpiry s = .next t ∧ t.regul = { s.regul with ageNow := s.regul.ageNow + 1 } ∧
      s.changesOnly t [.regul, .regs] := by
  have honly : ∀ K : List Piece, .regs ∉ K →
      (opAgeUnitExpiry s).only K = ({ s with regul := { s.regul with ageNow := s.regul.ageNow + 1 } } : State).only K := by
    intro K hK
    simp [opAgeUnitExpiry, hon, hK]
  refine ⟨opAgeUnitExpiry s, exec_of_kept (c := .ageUnitExpiry) rfl rfl hrun (honly _ (by decide)), ?_, ?_⟩
  · exact State.regul_of_only (honly _ (by decide))
  · exact State.changesOnly_of_only (K := Piece.all.filter (fun p => p.part != .regul && p.part != .regs))
      ((honly _ (by decide)).trans (by simp [Piece.all, Piece.part])) (by decide)

end

/-- Settles O29: a roll first closes each context's window, then sets the effective minimums, each at most its committed one. -/
theorem windowsAndAges : Obligations.WindowsAndAges := fun _ hrun hon => ⟨window_rolls hrun hon, age_unit_passes hrun hon⟩

end Sys2Proof.Machine
end

section
/-! PROOFS. Sensor rounds, the regulator's telemetry and the die windows (O35). -/

namespace Sys2Proof.Machine

theorem State.sensors_of_only {s t : State} (h : t.only [.sensors] = s.only [.sensors]) : t.sensors = s.sensors :=
  congrArg (fun x => x.sensors) h

theorem State.capo_of_only {s t : State} (h : t.only [.capo] = s.only [.capo]) : t.capo = s.capo := congrArg (fun x => x.capo) h

theorem State.regs_of_only {s t : State} (h : t.only [.conf, .commits, .posted, .snap, .regs] = s.only [.conf, .commits, .posted,
    .snap, .regs]) :
    t.regs = s.regs := congrArg (fun x => x.regs) h

/-! ### Sensor reads (R30, R31) -/

section
variable {s : State}

/-- What an effect in the sensors, the registers and the events leaves alone. -/
theorem changesOnly_of_sensors {t : State}
    (h : ∀ K : List Piece,
        (.sensors ∉ K ∧ .regs ∉ K ∧ .pins ∉ K ∧ .evt ∉ K ∧ .pinFlt ∉ K ∧ .doms ∉ K ∧ .pwr ∉ K) → t.only K = s.only K) :
    s.changesOnly t [.sensors, .regs, .pins, .evt, .flt, .pwr] :=
  State.changesOnly_of_only (h (Piece.all.filter (fun p => p != .sensors && p != .regs && p != .pins && p != .evt && p != .pinFlt &&
    p != .doms && p != .pwr)) (by decide)) (by decide)

theorem State.sensorDone_of_more {k : Nat} (h : s.sensors.due.filter (fun i => i != k) ≠ []) :
    s.sensorDone k =
      { s with sensors := { s.sensors with due := s.sensors.due.filter (fun i => i != k), asked := some (k, s.now) } } := by
  simp only [State.sensorDone]
  exact if_neg (by simpa using h)

section
variable {base : Bool} {n k : Nat} {v : BitVec 10} {par : Bool}

theorem State.sensorGives_of_due (hk : k = sensorNum base n) (hdue : s.sensors.due.contains k = true) :
    s.sensorGives ⟨base, n, v, par⟩ = if par == oddParity 10 v.toNat then s.sensorGood k v.toNat else s.sensorBad k := by
  subst hk
  exact if_pos hdue

/-- A first bad reading is retried: the read is asked again. -/
theorem State.sensorBad_of_even (heven : s.sensors.bad.get k % 2 = 0) :
    s.sensorBad k = { s with sensors := { s.sensors with
      bad := s.sensors.bad.set k (s.sensors.bad.get k + 1), asked := some (k, s.now) } } := by
  simp only [State.sensorBad]
  exact if_pos (by omega)

/-- A second one in a row marks the sensor failed. -/
theorem State.sensorBad_of_odd (hodd : s.sensors.bad.get k % 2 = 1) (hmore : s.sensors.due.filter (fun i => i != k) ≠ []) :
    (s.sensorBad k).sensors.failed.get k = true ∧ (s.sensorBad k).sensors.due = s.sensors.due.filter (fun i => i != k) ∧
      (s.sensorBad k).sensors.last = s.sensors.last := by
  unfold State.sensorBad
  extract_lets m x t u
  rw [if_neg (by omega)]
  have hu : u.sensors = t.sensors := State.sensors_of_only (by simp [u])
  have hdone : u.sensors.due = s.sensors.due := congrArg (fun x => x.due) hu
  rw [State.sensorDone_of_more (by rw [← hdone] at hmore; exact hmore)]
  exact ⟨Tbl.get_set_self .., congrArg (fun l => l.filter (fun i => i != k)) hdone, congrArg (fun x => x.last) hu⟩

theorem State.sensorBad_only_of_odd {K : List Piece}
    (hK : .sensors ∉ K ∧ .regs ∉ K ∧ .pins ∉ K ∧ .evt ∉ K ∧ .pinFlt ∉ K ∧ .doms ∉ K ∧
    .pwr ∉ K) (hodd : s.sensors.bad.get k % 2 = 1) (hmore : s.sensors.due.filter (fun i => i != k) ≠ []) :
    (s.sensorBad k).only K = s.only K := by
  unfold State.sensorBad
  extract_lets m x t u
  rw [if_neg (by omega)]
  have hu : u.sensors = t.sensors := State.sensors_of_only (by simp [u])
  have hdone : u.sensors.due = s.sensors.due := congrArg (fun x => x.due) hu
  rw [State.sensorDone_of_more (by rw [← hdone] at hmore; exact hmore)]
  simp [u, t, hK]

/-! ### The end of a round (R30, R305) -/

theorem State.judgeJunction_parts : s.judgeJunction.sensors = s.sensors ∧ s.judgeJunction.capo.input = s.capo.input ∧
    s.judgeJunction.capo.baseMax = s.capo.baseMax ∧ s.judgeJunction.capo.chMax = s.capo.chMax := by
  unfold State.judgeJunction
  extract_lets hot x t
  have hcapo : (when (hot && !s.capo.overTemp.get 0) (fun t => t.event 0x86 0x0602 2
      [(0, 1, s.baseHot.1), (1, 1, s.capo.baseMax)]) t).capo = t.capo := State.capo_of_only (by simp)
  rw [hcapo]
  exact ⟨State.sensors_of_only (by simp [t]), rfl, rfl, rfl⟩

theorem State.judgeStep_parts : s.judgeStep.sensors = s.sensors ∧ s.judgeStep.capo.input = s.capo.input ∧
    s.judgeStep.capo.baseMax = s.capo.baseMax ∧ s.judgeStep.capo.chMax = s.capo.chMax := by
  unfold State.judgeStep
  extract_lets x t
  cases decide (s.capo.step < x) <;> exact ⟨rfl, rfl, rfl, rfl⟩

/-- The last read of a round gives the throttle its input. -/
theorem State.roundDone_parts : s.roundDone.sensors = { s.sensors with asked := none, lastRound := s.now } ∧
    s.roundDone.capo.input = max s.roundDone.capo.baseMax s.roundDone.capo.chMax := by
  unfold State.roundDone
  extract_lets t u b c x y w
  obtain ⟨hsensors, hinput, hbase, hch⟩ := w.judgeStep.judgeJunction_parts
  obtain ⟨hsensors', hinput', hbase', hch'⟩ := w.judgeStep_parts
  have hu : u.only [.time, .sensors] = s.only [.time, .sensors] := by simp [u, t]
  rw [hinput, hbase, hch, hinput', hbase', hch', hsensors, hsensors']
  refine ⟨?_, rfl⟩
  have hs : u.sensors = s.sensors := State.sensors_of_only (State.only_mono (by decide) hu)
  have hnow : u.now = s.now := State.now_of_only (State.only_mono (by decide) hu)
  have hw : w.sensors = { u.sensors with asked := none, lastRound := u.now } := rfl
  rw [hw, hs, hnow]

/-- What no read of a sensor touches. -/
def sensorPieces : List Piece := [.lanes, .courses, .link, .reqs, .keyOps, .trx, .array, .mem, .nvm]

end

/-! ### The clauses of O35 -/

section
variable {base : Bool} {n k j t0 : Nat} {v : BitVec 10} {par : Bool} (hrun : s.running = true)
include hrun

theorem sensor_round_begins :
    exec .sensorRound s = .next { s with sensors := { s.sensors with due := List.range 80, asked := some (0, s.now) } } :=
  exec_of_effect (c := .sensorRound) (l := [.sensors]) rfl rfl hrun rfl (changesOnly_sensors (.refl s _) (by decide) _) rfl

variable (hn : n < if base = true then 16 else 64) (hk : k = sensorNum base n)
include hn hk

omit hk in
theorem exec_sensorRead {u : State} (hu : s.sensorGives ⟨base, n, v, par⟩ = u) (hkept : u.only keptPieces = s.only keptPieces) :
    exec (.sensorRead base n v par) s = .next u := by
  subst hu
  exact exec_of_kept (c := .sensorRead base n v par) rfl (by simpa [Instr.wellFormed, Instr.units,
      Instr.partsOk] using hn) hrun hkept

theorem good_reading_stands (hdue : s.sensors.due.contains k = true) (hpar : par = oddParity 10 v.toNat)
    (hmore : s.sensors.due.filter (fun i => i != k) ≠ []) :
    exec (.sensorRead base n v par) s = .next { s with sensors := { s.sensors with
      last := s.sensors.last.set k (some v.toNat), bad := s.sensors.bad.set k 0, failed := s.sensors.failed.set k false,
      due := s.sensors.due.filter (fun i => i != k), asked := some (k, s.now) } } := by
  refine exec_sensorRead hrun hn ?_ rfl
  rw [State.sensorGives_of_due hk hdue, if_pos (by simp [hpar]), State.sensorGood]
  exact State.sensorDone_of_more hmore

theorem last_reading_ends_round (hdue : s.sensors.due = [k]) (hpar : par = oddParity 10 v.toNat) :
    ∃ t, exec (.sensorRead base n v par) s = .next t ∧ t.sensors.due = [] ∧ t.sensors.asked = none ∧
      t.sensors.lastRound = s.now ∧ t.sensors.last.get k = some v.toNat ∧
      t.capo.input = max t.capo.baseMax t.capo.chMax ∧ t.link = s.link ∧ t.trx = s.trx ∧ t.array = s.array ∧ t.nvm = s.nvm := by
  obtain ⟨t, ht, honly⟩ := exec_seen (c := .sensorRead base n v par) (u := s.sensorGives ⟨base, n, v, par⟩) rfl
    (by simpa [Instr.wellFormed, Instr.units, Instr.partsOk] using hn) hrun ([.sensors, .capo] ++ sensorPieces)
  have hnone : s.sensors.due.filter (fun i => i != k) = [] := by simp [hdue]
  have heq : s.sensorGives ⟨base, n, v, par⟩ = ({ s with sensors := { s.sensors with
      last := s.sensors.last.set k (some v.toNat), bad := s.sensors.bad.set k 0, failed := s.sensors.failed.set k false,
      due := [], asked := some (k, s.now) } } : State).roundDone := by
    rw [State.sensorGives_of_due hk (by simp [hdue]), if_pos (by simp [hpar]), State.sensorGood, State.sensorDone]
    simp only [hnone, List.isEmpty_nil, if_true]
    rfl
  rw [heq] at honly
  have hsensors := State.sensors_of_only (State.only_mono (by decide) honly)
  have hcapo := State.capo_of_only (State.only_mono (by decide) honly)
  have hframe : t.only sensorPieces = s.only sensorPieces :=
    (State.only_mono (by decide) honly).trans ((State.roundDone_only (by decide) _).trans (by simp [sensorPieces]))
  rw [State.roundDone_parts.1] at hsensors
  refine ⟨t, ht, by rw [hsensors], by rw [hsensors], by rw [hsensors]; rfl, by rw [hsensors]; exact Tbl.get_set_self .., ?_,
    State.link_of_only (State.only_mono (by decide) hframe), State.trx_of_only (State.only_mono (by decide) hframe),
    State.array_of_only (State.only_mono (by decide) hframe), State.nvm_of_only (State.only_mono (by decide) hframe)⟩
  rw [hcapo]
  exact State.roundDone_parts.2

theorem bad_reading_retried (hdue : s.sensors.due.contains k = true) (heven : s.sensors.bad.get k % 2 = 0) :
    (par ≠ oddParity 10 v.toNat →
      exec (.sensorRead base n v par) s = .next { s with sensors := { s.sensors with
        bad := s.sensors.bad.set k (s.sensors.bad.get k + 1), asked := some (k, s.now) } }) ∧
    (s.sensors.asked = some (j, t0) → t0 + 2 ≤ s.now →
      exec (.sensorAckTimeout base n) s = .next { s with sensors := { s.sensors with
        bad := s.sensors.bad.set k (s.sensors.bad.get k + 1), asked := some (k, s.now) } }) := by
  refine ⟨fun hpar => exec_sensorRead hrun hn ?_ rfl, fun hasked htime => ?_⟩
  · rw [State.sensorGives_of_due hk hdue, if_neg (by simp [hpar])]
    exact State.sensorBad_of_even heven
  · have heq : opSensorAckTimeout base n s = s.sensorBad k := by
      simp only [opSensorAckTimeout, hasked]
      rw [← hk, if_pos ⟨hdue, htime⟩]
    rw [State.sensorBad_of_even heven] at heq
    exact exec_of_effect (c := .sensorAckTimeout base n) (l := [.sensors]) rfl
      (by simpa [Instr.wellFormed, Instr.units, Instr.partsOk] using hn) hrun heq (changesOnly_sensors (.refl s _)
          (by decide) _) rfl

theorem second_bad_reading_fails (hdue : s.sensors.due.contains k = true) (hodd : s.sensors.bad.get k % 2 = 1)
    (hmore : s.sensors.due.filter (fun i => i != k) ≠ []) (hpar : par ≠ oddParity 10 v.toNat) :
    ∃ t, exec (.sensorRead base n v par) s = .next t ∧ t.sensors.failed.get k = true ∧
      t.sensors.due = s.sensors.due.filter (fun i => i != k) ∧ t.sensors.last = s.sensors.last ∧
      s.changesOnly t [.sensors, .regs, .pins, .evt, .flt, .pwr] := by
  have heq : s.sensorGives ⟨base, n, v, par⟩ = s.sensorBad k := by
    rw [State.sensorGives_of_due hk hdue, if_neg (by simp [hpar])]
  obtain ⟨hfailed, hleft, hlast⟩ := State.sensorBad_of_odd hodd hmore
  exact ⟨_, exec_sensorRead hrun hn heq (State.sensorBad_only_of_odd (by decide) hodd hmore), hfailed, hleft, hlast,
    changesOnly_of_sensors fun _ hK => State.sensorBad_only_of_odd hK hodd hmore⟩

end

/-! ### The regulator's telemetry (R306) and the die windows (R301) -/

/-- An event on a pin, its effect with the pin's new level and without a mirrored item. -/
theorem exec_of_pin {c : Instr} {u t : State} (h : exec c s = actPin c.wellFormed s u t) (hwf : c.wellFormed = true)
    (hrun : s.running = true) (ht : t.only mirrorPieces = s.only mirrorPieces)
    (hin : t.only [.inputs, .pending] = u.only [.inputs, .pending]) : exec c s = .next t := by
  rw [h, hwf, actPin, hrun]
  exact congrArg Host.Outcome.next ((congrArg u.withInputs (State.mirrorsAlike_of_only ht).mirrorFrom_eq).trans
    (State.inputsAlike_of_only hin).withInputs_eq)

section
variable {v : BitVec 10} {die t0 : Nat} (hrun : s.running = true)
include hrun

theorem load_reading_stands :
    ∃ t, exec (.regIldReading v) s = .next t ∧ t.capo.ild = v.toNat ∧
      (95 * s.rf RF.CAP_ILD_LIMIT < 100 * v.toNat → t.capo.ildOkFrom = none) ∧
      (100 * v.toNat ≤ 95 * s.rf RF.CAP_ILD_LIMIT → t.capo.ildOkFrom = some (s.capo.ildOkFrom.getD s.now)) ∧
      t.capo.fTelem = s.capo.fTelem ∧ s.changesOnly t [.capo] := by
  refine ⟨s.ildReading v.toNat, exec_of_frame (c := .regIldReading v) (l := [.capo]) rfl rfl hrun
    (changesOnly_capo (.refl s _) (by decide) _) rfl, rfl, fun hover => ?_, fun hlow => ?_, rfl,
    changesOnly_capo (.refl s _) (by decide) _⟩
  · simp [State.ildReading, hover]
  · cases hfrom : s.capo.ildOkFrom <;> simp [State.ildReading, hlow, hfrom]

theorem telemetry_rises (hfrom : s.capo.ildOkFrom = some t0) (htime : t0 + 16 ≤ s.now) (hcut : s.capo.fTelem < 100) :
    exec .telemRise s = .next
      { s with capo := { s.capo with fTelem := min 100 (s.capo.fTelem + 5), ildOkFrom := some s.now } } := by
  have heq : s.telemUp = { s with capo := { s.capo with fTelem := min 100 (s.capo.fTelem + 5), ildOkFrom := some s.now } } := by
    simp only [State.telemUp, hfrom]
    exact if_pos ⟨htime, hcut⟩
  exact exec_of_effect (c := .telemRise) (l := [.capo]) rfl rfl hrun heq (changesOnly_capo (.refl s _) (by decide) _) rfl

theorem overcurrent_rises (hlow : s.pins.regOcw = false) :
    ∃ t, exec .regOcwRise s = .next t ∧ t.pins = { s.pins with regOcw := true } ∧ t.capo = { s.capo with ocwHold := none } ∧
      t.sticky RF.CAP_OCW_SEEN 0 = 1 ∧ s.changesOnly t [.pins, .capo, .regs] := by
  have heq : opRegOcwRise s =
      (({ s with pins := { s.pins with regOcw := true }, capo := { s.capo with ocwHold := none } } : State).stick
        RF.CAP_OCW_SEEN).noteCut s.telemFrac := if_neg (by simp [hlow])
  have honly : ∀ K : List Piece, .regs ∉ K → (opRegOcwRise s).only K =
      ({ s with pins := { s.pins with regOcw := true }, capo := { s.capo with ocwHold := none } } : State).only K := by
    intro K hK
    rw [heq]
    simp [hK]
  have hrest := honly (Piece.all.filter (fun p => p != .regs)) (by decide)
  refine ⟨opRegOcwRise s, exec_of_pin (c := .regOcwRise) rfl rfl hrun (honly _ (by decide)) (honly _ (by decide)),
    congrArg (fun x => x.pins) hrest, congrArg (fun x => x.capo) hrest, ?_, ?_⟩
  · rw [heq]
    exact State.sticky_of_raised rfl ((State.stick_raised _ (by decide)).mono
      (.when (.refl _) (fun u => .stick (.refl u) _)))
  · exact State.changesOnly_of_only (K := Piece.all.filter (fun p => p.part != .pins && p.part != .capo && p.part != .regs))
      ((honly _ (by decide)).trans rfl) (by decide)

theorem overcurrent_falls (hhigh : s.pins.regOcw = true) :
    exec .regOcwFall s = .next
      { s with
        pins := { s.pins with regOcw := false }
        capo := { s.capo with ocwHold := some (s.now + 64) } } := by
  refine exec_of_pin (c := .regOcwFall) (u := { s with pins := { s.pins with regOcw := false } }) ?_ rfl hrun rfl rfl
  exact congrArg (actPin true s { s with pins := { s.pins with regOcw := false } }) (if_pos hhigh)

theorem hold_ends (hhold : s.capo.ocwHold = some t0) (htime : t0 ≤ s.now) :
    exec .ocwHoldExpiry s = .next { s with capo := { s.capo with ocwHold := none } } := by
  have heq : opOcwHoldExpiry s = { s with capo := { s.capo with ocwHold := none } } := by
    simp only [opOcwHoldExpiry, hhold]
    exact if_pos htime
  exact exec_of_effect (c := .ocwHoldExpiry) (l := [.capo]) rfl rfl hrun heq (changesOnly_capo (.refl s _) (by decide) _) rfl

theorem die_window_rolls (hdie : die < 16) :
    ∃ t, exec (.dieWindowRoll die) s = .next t ∧ t.capo.dieCount.get die = 0 ∧
      t.capo.dieNo.get die = s.capo.dieNo.get die + 1 ∧
      (∀ i, i ≠ die → t.capo.dieCount.get i = s.capo.dieCount.get i) ∧ s.changesOnly t [.capo] :=
  ⟨opDieWindowRoll die s, exec_of_frame (c := .dieWindowRoll die) (l := [.capo]) rfl
    (by simp [Instr.wellFormed, Instr.units, Instr.partsOk, hdie]) hrun (changesOnly_capo (.refl s _) (by decide) _) rfl,
    Tbl.get_set_self .., Tbl.get_upd_self .., fun _ hi => Tbl.get_set_ne _ _ hi, changesOnly_capo (.refl s _) (by decide) _⟩

end

end

/-- Settles O35, a lemma for each kind of reading and for each event of the regulator. -/
theorem sensorsAndTelemetry : Obligations.SensorsAndTelemetry :=
  ⟨fun _ _ _ _ _ _ _ _ hrun hn hk => ⟨sensor_round_begins hrun, good_reading_stands hrun hn hk, last_reading_ends_round hrun hn hk,
      bad_reading_retried hrun hn hk, second_bad_reading_fails hrun hn hk⟩,
    fun _ _ _ _ hrun => ⟨load_reading_stands hrun, telemetry_rises hrun, overcurrent_rises hrun, overcurrent_falls hrun,
        hold_ends hrun,
      die_window_rolls hrun⟩⟩

end Sys2Proof.Machine
end

section
/-! PROOFS. The mirror port and heartbeats (O44): what a message that goes out leaves of the port, identities,
    and the heartbeat window. -/

namespace Sys2Proof.Machine

theorem State.pair_of_only {s t : State} (h : t.only [.role, .pair] = s.only [.role, .pair]) : t.pair = s.pair :=
  congrArg (fun x => x.pair) h

/-! ### Messages that go out -/

/-- From `p` to `q` messages have gone out, or wait to. -/
def PairSt.sends (p q : PairSt) : Prop :=
  q = { p with
    sent := q.sent
    waiting := q.waiting
    txSeq := q.txSeq }

theorem PairSt.sends.refl (p : PairSt) : p.sends p := rfl

theorem PairSt.sends.trans {p q r : PairSt} (h : p.sends q) (k : q.sends r) : p.sends r := by
  unfold PairSt.sends at *
  rw [k, h]

theorem forAll_sends {α : Type} {f : α → State → State} (hf : ∀ a (t : State), t.pair.sends (f a t).pair) (l : List α) (s : State) :
    s.pair.sends (forAll l f s).pair := by
  induction l generalizing s with
  | nil => exact .refl _
  | cons a l ih => exact (hf a s).trans (ih (f a s))

theorem when_sends {f : State → State} (hf : ∀ t : State, t.pair.sends (f t).pair) (c : Bool) (s : State) :
    s.pair.sends (when c f s).pair := by
  cases c
  · exact .refl _
  · exact hf s

section
variable (s : State)

theorem State.mirSend_sends (type : Nat) (body : List Word) (keyOp : Option Nat) : s.pair.sends
    (s.mirSend type body keyOp).pair := by
  unfold State.mirSend
  split
  · rfl
  · rfl

theorem State.random_pair (n : Nat) : (s.random n).2.pair = s.pair := State.pair_of_only (State.random_only (by decide) s n)

theorem State.sendKey_sends (k : Nat) (keyOp : Option Nat) : s.pair.sends (s.sendKey k keyOp).pair := by
  have hbody : (s.keyBody false k).2.pair = s.pair := by
    unfold State.keyBody
    split
    · rfl
    · dsimp only
      split
      · rfl
      · exact s.random_pair 12
  unfold State.sendKey
  exact hbody ▸ State.mirSend_sends _ _ _ _

theorem State.sendKeys_sends : s.pair.sends s.sendKeys.pair := forAll_sends (fun k t => t.sendKey_sends k none) _ s

theorem State.sendConfig_sends (groups : List Nat) (epoch : Nat) : s.pair.sends (s.sendConfig groups epoch).pair :=
  forAll_sends (fun _ t => t.mirSend_sends _ _ _) _ s

theorem State.mirrorAll_sends : s.pair.sends s.mirrorAll.pair := by
  unfold State.mirrorAll
  refine PairSt.sends.trans (forAll_sends (fun ch t => ?_) _ s) (State.sendConfig_sends _ _ _)
  exact PairSt.sends.trans (PairSt.sends.trans (PairSt.sends.trans (t.mirSend_sends ..) (State.mirSend_sends ..))
      (State.mirSend_sends ..))
    (forAll_sends (fun _ u => u.mirSend_sends ..) _ _)

theorem State.mirrorFrom_sends (t : State) : t.pair.sends (s.mirrorFrom t).pair := by
  unfold State.mirrorFrom
  split
  · extract_lets u w
    have hchannels : t.pair.sends u.pair := by
      refine forAll_sends (fun ch v => ?_) _ t
      dsimp only
      refine .trans ?_ (when_sends (fun v => v.mirSend_sends ..) _ _)
      refine .trans ?_ (forAll_sends (fun _ v => v.mirSend_sends ..) _ _)
      refine .trans ?_ (forAll_sends (fun _ v => v.mirSend_sends ..) _ _)
      exact (when_sends (fun v => v.mirSend_sends ..) _ v).trans (when_sends (fun v => v.mirSend_sends ..) _ _)
    have hkeys : t.pair.sends w.pair :=
      hchannels.trans (when_sends (fun v => forAll_sends (fun k v => v.sendKey_sends k _) _ v) _ u)
    split
    · split
      · exact hkeys.trans (State.sendConfig_sends _ _ _)
      · exact hkeys
    · exact hkeys
  · exact .refl _

end

/-! ### Commands at a machine that is not PAIRED, and at one that is -/

theorem State.mirrorFrom_of_unpaired {s t : State} (h : s.pair.role ≠ .paired ∨ t.pair.role ≠ .paired) : s.mirrorFrom t = t :=
  if_neg fun hp => h.elim (fun k => k hp.1) (fun k => k hp.2)

/-- Nothing is mirrored from a step to or from another role: the command leaves its effect, but for the inputs. -/
theorem exec_unpaired {c : Instr} {s u : State} (h : exec c s = act c.wellFormed s u) (hwf : c.wellFormed = true)
    (hrun : s.running = true) (hrole : s.pair.role ≠ .paired ∨ u.pair.role ≠ .paired) : exec c s = .next (s.withInputs u) := by
  rw [exec_of_act h hwf hrun, State.mirrorFrom_of_unpaired hrole]

/-- A command leaves its effect in the port too, but for the messages that go out. -/
theorem exec_seen_pair {c : Instr} {s u : State} (h : exec c s = act c.wellFormed s u) (hwf : c.wellFormed = true)
    (hrun : s.running = true) (K : List Piece)
    (hK : (.regs ∉ K ∧ .sec ∉ K ∧ .pair ∉ K ∧ .free ∉ K) ∧ .inputs ∉ K ∧ .pending ∉ K := by decide) :
    ∃ t, exec c s = .next t ∧ t.only K = u.only K ∧ u.pair.sends t.pair :=
  ⟨_, exec_of_act h hwf hrun, (State.withInputs_only hK.2 s _).trans (State.mirrorFrom_only hK.1 s u), State.mirrorFrom_sends s u⟩

/-! ### Identities (R112) -/

section
variable {s : State} {l : List Word}

theorem State.hearsNot_of_arrives {type : Nat} (h : s.mirArrives type l) (k : Nat) : s.hearsNot k = false := by
  obtain ⟨-, -, -, -, -, hclamped⟩ := h
  simp [State.hearsNot, hclamped]

/-- A message of its type that passes its check comes to a port that is on. -/
theorem State.receive_of_arrives {type : Nat} (h : s.mirArrives type l) :
    s.receive type l =
      if type = mtIdentity then if s.pair.idSentAt.isSome then (s.ackMir (mirSeq l)).takeIdentity (mirBody l) else s
      else if type = mtHeartbeat then
        (if s.portOpen && l.length == 54 then (s.ackMir (mirSeq l)).takeBeat (mirBody l) else s)
      else if !s.portOpen then s
      else
        if 192 ≤ (mirSeq l + 256 - s.pair.rxSeq) % 256 then s.ackMir (mirSeq l)
        else if (mirSeq l + 256 - s.pair.rxSeq) % 256 < 64 then
          (({ s with pair := { s.pair with
            early := if s.pair.early.any (fun e => e.1 == mirSeq l) then s.pair.early else s.pair.early ++ [(mirSeq l, l)] } } :
            State).ackMir (mirSeq l)).drainMir 65
        else s := by
  have hears := State.hearsNot_of_arrives h type
  obtain ⟨-, -, hok, htype, hon, -⟩ := h
  simp [State.receive, hears, hok, htype, hon]

theorem State.setRole_pair (r : PairRole) : (s.setRole r).pair = { s.pair with role := r } := by
  unfold State.setRole
  split
  · next heq => rw [← heq]
  · exact State.pair_of_only (State.bumpGen_only (by decide) _)

theorem State.followNow_of_st (h : s.upd.stage0.st ≠ 5) : s.followNow = s := if_neg fun k => h k.1

/-- The port of a machine that becomes PAIRED. -/
theorem State.becomePaired_pair : s.becomePaired.pair.role = .paired ∧ s.becomePaired.pair.idSeen = s.pair.idSeen ∧
    s.becomePaired.pair.acked = s.pair.acked ∧ s.becomePaired.pair.rxSeq = 0 := by
  unfold State.becomePaired State.startPairKey
  extract_lets t p d x v sec q u
  have hd : d.2.pair = { t.pair with beats := 2, peerArmed := false, peerHalted := false } := State.random_pair _ 88
  have hsent := (u.mirSend_sends mtPairkey (toWords (pairShare u.inst x.1 x.2)) none).trans (State.mirrorAll_sends _)
  have hu : u.pair = { d.2.pair with share := some x } := rfl
  rw [hu, hd, State.setRole_pair] at hsent
  rw [hsent]
  exact ⟨rfl, rfl, rfl, rfl⟩

theorem State.mismatch_pair (n : Nat) :
    (s.mismatch n).pair.role = .mismatch ∧ (s.mismatch n).pair.idSeen = s.pair.idSeen ∧ (s.mismatch n).pair.sent = [] := by
  have hpair : (s.mismatch n).pair = { s.portReset.pair with role := .mismatch } := by
    rw [State.mismatch, State.pair_of_only (State.event_only (by decide) ..), State.setRole_pair]
  rw [hpair]
  exact ⟨rfl, rfl, rfl⟩

end

/-- The manifest digest that an identity record carries. -/
def identDigest (b : List Word) : BitVec 384 :=
  (List.range 12).foldl (fun d i => d ||| ((bodyWord b (i + 2)).setWidth 384 <<< (32 * i))) 0#384

/-- An identity record has come, with this SEQ and digest. -/
def State.seen (s : State) (seq : Nat) (digest : BitVec 384) : State :=
  { s with pair := { s.pair with
    acked := some seq
    idSeen := true
    peerDigest := some digest } }

section
variable {s : State} {l : List Word} {n t0 : Nat}

theorem mirIdentity_wellFormed (harr : s.mirArrives mtIdentity l) : (Instr.mirIdentity l).wellFormed = true := by
  simpa [Instr.wellFormed, Instr.units, Instr.partsOk] using harr.2.1

theorem exec_mirIdentity (harr : s.mirArrives mtIdentity l) (hsent : s.pair.idSentAt.isSome = true) :
    exec (.mirIdentity l) s = act (Instr.mirIdentity l).wellFormed s ((s.ackMir (mirSeq l)).takeIdentity (mirBody l)) := by
  have heq : opMirIdentity l s = (s.ackMir (mirSeq l)).takeIdentity (mirBody l) := by
    rw [opMirIdentity, State.receive_of_arrives harr, if_pos rfl, if_pos hsent]
  exact congrArg (act (Instr.mirIdentity l).wellFormed s) heq

/-- What an identity record that agrees does. -/
theorem State.takeIdentity_of_same (hdiff : s.identityDiff (mirBody l) = none) :
    (s.pair.role = .none →
      (s.ackMir (mirSeq l)).takeIdentity (mirBody l) = (s.seen (mirSeq l) (identDigest (mirBody l))).becomePaired.followNow) ∧
    (s.pair.role = .paired → s.pair.missed < 2 →
      (s.ackMir (mirSeq l)).takeIdentity (mirBody l) = (s.seen (mirSeq l) (identDigest (mirBody l))).followNow) := by
  have hdiff' : (s.ackMir (mirSeq l)).identityDiff (mirBody l) = none := hdiff
  refine ⟨fun hrole => ?_, fun hrole hmissed => ?_⟩
  · have hrole' : (s.ackMir (mirSeq l)).pair.role = .none := hrole
    unfold State.takeIdentity
    rw [hrole', hdiff']
    rfl
  · have hrole' : (s.ackMir (mirSeq l)).pair.role = .paired := hrole
    have hmissed' : ¬ 2 ≤ (s.ackMir (mirSeq l)).pair.missed := Nat.not_le.2 hmissed
    unfold State.takeIdentity
    rw [hrole', hdiff']
    exact if_neg hmissed'

/-- What one that differs does. -/
theorem State.takeIdentity_of_other (hrole : s.pair.role = .none) (hdiff : s.identityDiff (mirBody l) = some n) :
    (s.ackMir (mirSeq l)).takeIdentity (mirBody l) = ((s.seen (mirSeq l) (identDigest (mirBody l))).mismatch n).followNow := by
  have hdiff' : (s.ackMir (mirSeq l)).identityDiff (mirBody l) = some n := hdiff
  have hrole' : (s.ackMir (mirSeq l)).pair.role = .none := hrole
  unfold State.takeIdentity
  rw [hrole', hdiff']
  rfl

/-- What neither pairing nor a mismatch touches. -/
def portPieces : List Piece := [.array, .mem, .nvm, .lanes, .courses, .link, .upd]

theorem State.port_frame {s t : State} (h : t.only portPieces = s.only portPieces) :
    t.array = s.array ∧ t.nvm = s.nvm ∧ t.link = s.link ∧ t.upd = s.upd :=
  ⟨State.array_of_only (State.only_mono (by decide) h), State.nvm_of_only (State.only_mono (by decide) h),
    State.link_of_only (State.only_mono (by decide) h), State.upd_of_only (State.only_mono (by decide) h)⟩

section
variable (hst : s.upd.stage0.st ≠ 5)
include hst

theorem identity_pairs (harr : s.mirArrives mtIdentity l) (hsent : s.pair.idSentAt.isSome = true) (hrole : s.pair.role = .none)
    (hdiff : s.identityDiff (mirBody l) = none) :
    ∃ t, exec (.mirIdentity l) s = .next t ∧ t.pair.role = .paired ∧ t.pair.idSeen = true ∧
      t.pair.acked = some (mirSeq l) ∧ t.pair.rxSeq = 0 ∧ t.array = s.array ∧ t.nvm = s.nvm ∧ t.link = s.link := by
  have honly : (s.seen (mirSeq l) (identDigest (mirBody l))).becomePaired.only portPieces = s.only portPieces :=
    State.becomePaired_only (by decide) _
  obtain ⟨harray, hnvm, hlink, hupd⟩ := State.port_frame honly
  have heq := (State.takeIdentity_of_same hdiff).1 hrole
  rw [State.followNow_of_st (by rw [hupd]; exact hst)] at heq
  obtain ⟨hpaired, hseen, hacked, hrx⟩ := (s.seen (mirSeq l) (identDigest (mirBody l))).becomePaired_pair
  have hexec := exec_unpaired (exec_mirIdentity harr hsent) (mirIdentity_wellFormed harr) harr.1 (.inl (by simp [hrole]))
  rw [heq] at hexec
  generalize (s.seen (mirSeq l) (identDigest (mirBody l))).becomePaired = u at *
  exact ⟨_, hexec, hpaired, hseen, hacked, hrx, harray, hnvm, hlink⟩

theorem identity_mismatches (harr : s.mirArrives mtIdentity l) (hsent : s.pair.idSentAt.isSome = true) (hrole : s.pair.role = .none)
    (hdiff : s.identityDiff (mirBody l) = some n) :
    ∃ t, exec (.mirIdentity l) s = .next t ∧ t.pair.role = .mismatch ∧ t.pair.idSeen = true ∧ t.pair.sent = [] ∧
      t.array = s.array ∧ t.nvm = s.nvm ∧ t.link = s.link := by
  have honly : ((s.seen (mirSeq l) (identDigest (mirBody l))).mismatch n).only portPieces = s.only portPieces :=
    State.mismatch_only (by decide) _ n
  obtain ⟨harray, hnvm, hlink, hupd⟩ := State.port_frame honly
  have heq := State.takeIdentity_of_other hrole hdiff
  rw [State.followNow_of_st (by rw [hupd]; exact hst)] at heq
  obtain ⟨hmismatch, hseen, hnone⟩ := (s.seen (mirSeq l) (identDigest (mirBody l))).mismatch_pair n
  refine ⟨_, exec_unpaired (exec_mirIdentity harr hsent) (mirIdentity_wellFormed harr) harr.1 (.inl (by simp [hrole])), ?_⟩
  rw [heq]
  exact ⟨hmismatch, hseen, hnone, harray, hnvm, hlink⟩

theorem identity_of_paired (harr : s.mirArrives mtIdentity l) (hsent : s.pair.idSentAt.isSome = true)
    (hrole : s.pair.role = .paired)
    (hdiff : s.identityDiff (mirBody l) = none) (hmissed : s.pair.missed < 2) :
    ∃ t, exec (.mirIdentity l) s = .next t ∧ t.pair.role = .paired ∧ t.pair.idSeen = true ∧
      t.pair.acked = some (mirSeq l) ∧ t.pair.sent = s.pair.sent ∧ s.changesOnly t [.pair] := by
  have heq := (State.takeIdentity_of_same hdiff).2 hrole hmissed
  rw [State.followNow_of_st (s := s.seen _ _) hst] at heq
  have hexec := exec_mirIdentity harr hsent
  rw [heq] at hexec
  exact ⟨_, exec_of_kept hexec (mirIdentity_wellFormed harr) harr.1 rfl, hrole, rfl, rfl, rfl, changesOnly_pair (.refl s _)
      (by decide) _⟩

end

theorem alone_of_timeout (hrun : s.running = true) (hsent : s.pair.idSentAt = some t0) (hrole : s.pair.role = .none)
    (hseen : s.pair.idSeen = false) (htime : t0 + 2048 ≤ s.now) :
    ∃ t, exec .pairAloneTimeout s = .next t ∧ t.pair = { s.pair with role := .alone } ∧ s.changesOnly t [.pair, .flt] := by
  have heq : s.alone = s.setRole .alone := by
    simp only [State.alone, hsent]
    exact if_pos ⟨hrole, by simp [hseen], htime⟩
  have honly : ∀ K : List Piece, .flt ∉ K ∧ .role ∉ K → s.alone.only K = s.only K := fun K hK => State.alone_only hK s
  refine ⟨s.alone, exec_of_kept (c := .pairAloneTimeout) rfl rfl hrun (honly _ (by decide)), by rw [heq, State.setRole_pair], ?_⟩
  exact State.changesOnly_of_only (honly (Piece.all.filter (fun p => p.part != .pair && p.part != .flt)) (by decide)) (by decide)

end

/-! ### Heartbeats (R384 to R388) -/

/-- From `p` to `q` what a heartbeat brought stands. -/
structure PairSt.keepsBeat (p q : PairSt) : Prop where
  gotBeat : q.gotBeat = p.gotBeat
  beatAt : q.beatAt = p.beatAt
  acked : q.acked = p.acked
  chans : ∀ n, (q.chans.get n).st = (p.chans.get n).st ∧ (q.chans.get n).k = (p.chans.get n).k ∧
    (q.chans.get n).drained = (p.chans.get n).drained

theorem PairSt.keepsBeat.refl (p : PairSt) : p.keepsBeat p := ⟨rfl, rfl, rfl, fun _ => ⟨rfl, rfl, rfl⟩⟩

theorem PairSt.keepsBeat.trans {p q r : PairSt} (h : p.keepsBeat q) (k : q.keepsBeat r) : p.keepsBeat r :=
  ⟨k.gotBeat.trans h.gotBeat, k.beatAt.trans h.beatAt, k.acked.trans h.acked, fun n =>
    ⟨(k.chans n).1.trans (h.chans n).1, (k.chans n).2.1.trans (h.chans n).2.1, (k.chans n).2.2.trans (h.chans n).2.2⟩⟩

theorem PairSt.keepsBeat_of_eq {p q : PairSt} (h : q = p) : p.keepsBeat q := h ▸ .refl p

theorem PairSt.sends.keepsBeat {p q : PairSt} (h : p.sends q) : p.keepsBeat q := by
  rw [h]
  exact ⟨rfl, rfl, rfl, fun _ => ⟨rfl, rfl, rfl⟩⟩

section
variable (s : State)

/-- The port of a machine that declares its partner failed (R388). -/
theorem State.declare_pair (reason : Nat) (hrole : s.pair.role = .paired) (hstep : s.pair.step = .idle) :
    (s.declare reason).pair = { s.pair with
      step := .freq
      reason := reason
      declared := s.now
      declStamp := s.time.stamp
      idSeen := false
      sent := []
      waiting := []
      early := []
      peerArmed := false
      chans := (List.range 32).foldl (fun tb n => tb.upd n (fun m => { m with given := 0 })) s.pair.chans } := by
  rw [State.declare, if_pos ⟨hrole, hstep⟩]
  exact State.pair_of_only (State.event_only (by decide) ..)

theorem State.declare_keepsBeat (reason : Nat) : s.pair.keepsBeat (s.declare reason).pair := by
  by_cases h : s.pair.role = .paired ∧ s.pair.step = .idle
  · rw [State.declare_pair s reason h.1 h.2]
    refine ⟨rfl, rfl, rfl, fun n => ?_⟩
    rw [Tbl.get_foldl_upd _ _ _ List.nodup_range]
    split <;> exact ⟨rfl, rfl, rfl⟩
  · rw [State.declare, if_neg h]
    exact .refl _

theorem State.sleepNow_keepsBeat : s.pair.keepsBeat s.sleepNow.pair := by
  unfold State.sleepNow
  split
  · have hsent := State.mirSend_sends ({ s with pair := { s.pair with sleepSent := true } } : State) mtSleep [0#32] none
    have hpair : s.pair.keepsBeat ({ s with pair := { s.pair with sleepSent := true } } : State).pair :=
      ⟨rfl, rfl, rfl, fun _ => ⟨rfl, rfl, rfl⟩⟩
    exact hpair.trans hsent.keepsBeat
  · exact .refl _

theorem when_keepsBeat {f : State → State} (hf : ∀ t : State, t.pair.keepsBeat (f t).pair) (c : Bool) :
    s.pair.keepsBeat (when c f s).pair := by
  cases c
  · exact .refl _
  · exact hf s

/-- The port once a heartbeat has come, before anything that follows from it. -/
theorem State.takeBeat_pair (b : List Word) :
    ({ (s.takeWords b).pair with gotBeat := true, beatAt := s.now } : PairSt).keepsBeat (s.takeBeat b).pair := by
  have hnow : s.now = (s.takeWords b).now := (State.now_of_only (State.takeWords_only (by decide) s b)).symm
  unfold State.takeBeat
  rw [hnow]
  generalize s.takeWords b = w
  extract_lets q f t p t1 t2 t3 t4 t5
  have h1 : ({ w.pair with gotBeat := true, beatAt := w.now } : PairSt).keepsBeat t1.pair :=
    ⟨rfl, rfl, rfl, fun _ => ⟨rfl, rfl, rfl⟩⟩
  have h2 : t1.pair.keepsBeat t2.pair := when_keepsBeat _ (fun u => u.declare_keepsBeat 1) _
  have h3 : t2.pair.keepsBeat t3.pair := by
    refine when_keepsBeat _ (fun u => ?_) _
    refine .trans ?_ ((State.mirrorAll_sends _).keepsBeat.trans (State.sendKeys_sends _).keepsBeat)
    rw [State.setRole_pair]
    exact ⟨rfl, rfl, rfl, fun _ => ⟨rfl, rfl, rfl⟩⟩
  have h4 : t3.pair.keepsBeat t4.pair := t3.sleepNow_keepsBeat
  have h5 : t4.pair.keepsBeat t5.pair := by
    simp only [t5]
    split
    · exact PairSt.keepsBeat_of_eq (State.pair_of_only (State.sleptGroups_only (by decide) _))
    · exact .refl _
  refine (((h1.trans h2).trans h3).trans h4).trans (h5.trans ?_)
  split
  · exact PairSt.keepsBeat_of_eq (State.pair_of_only (State.only_forAll (fun ch u => State.refLimits_only (by decide) u ch) _ _))
  · exact .refl _

/-- The words of a heartbeat (R384). -/
theorem State.takeWords_chan (b : List Word) {n : Nat} (hn : n < 32) :
    ((s.takeWords b).pair.chans.get n).st = fieldNat (bodyWord b (20 + n)) 31 28 ∧
    ((s.takeWords b).pair.chans.get n).k = fieldNat (bodyWord b (20 + n)) 17 0 ∧
    ((s.takeWords b).pair.chans.get n).drained = (if n % 2 = 0 then fieldNat (bodyWord b (4 + n / 2)) 15 0
      else fieldNat (bodyWord b (4 + n / 2)) 31 16) := by
  simp only [State.takeWords]
  rw [Tbl.get_foldl_upd _ _ _ List.nodup_range, if_pos (List.mem_range.2 hn)]
  exact ⟨rfl, rfl, rfl⟩

end

section
variable {s : State} {l : List Word}

theorem heartbeat_taken {n : Nat} (harr : s.mirArrives mtHeartbeat l) (hopen : s.portOpen = true) (hlen : l.length = 54)
    (hn : n < 32) :
    ∃ t, exec (.mirHeartbeat l) s = .next t ∧ t.pair.gotBeat = true ∧ t.pair.beatAt = s.now ∧
      t.pair.acked = some (mirSeq l) ∧ (t.pair.chans.get n).st = fieldNat (bodyWord (mirBody l) (20 + n)) 31 28 ∧
      (t.pair.chans.get n).k = fieldNat (bodyWord (mirBody l) (20 + n)) 17 0 ∧
      (t.pair.chans.get n).drained = (if n % 2 = 0 then fieldNat (bodyWord (mirBody l) (4 + n / 2)) 15 0
        else fieldNat (bodyWord (mirBody l) (4 + n / 2)) 31 16) ∧ t.nvm = s.nvm ∧ t.array = s.array := by
  have heq : opMirHeartbeat l s = (s.ackMir (mirSeq l)).takeBeat (mirBody l) := by
    rw [opMirHeartbeat, State.receive_of_arrives harr, if_neg (by decide), if_pos rfl, if_pos (by simp [hopen, hlen])]
  obtain ⟨t, ht, honly, hsends⟩ := exec_seen_pair (c := .mirHeartbeat l) (u := opMirHeartbeat l s) rfl
    (by simp [Instr.wellFormed, Instr.units, Instr.partsOk, hlen]) harr.1 [.array, .mem, .nvm]
  rw [heq] at honly hsends
  have hbeat := ((s.ackMir (mirSeq l)).takeBeat_pair (mirBody l)).trans hsends.keepsBeat
  have hframe := honly.trans (State.takeBeat_only (by decide) _ _)
  obtain ⟨hst, hk, hdrained⟩ := (s.ackMir (mirSeq l)).takeWords_chan (mirBody l) hn
  obtain ⟨hst', hk', hdrained'⟩ := hbeat.chans n
  exact ⟨t, ht, hbeat.gotBeat, hbeat.beatAt, hbeat.acked, hst'.trans hst, hk'.trans hk, hdrained'.trans hdrained,
    State.nvm_of_only (State.only_mono (by decide) hframe), State.array_of_only (State.only_mono (by decide) hframe)⟩

end

/-! ### The pins that an event leaves (R372) -/

/-- From `p` to `q` only the enables of the power switches have moved. -/
def PinSt.switched (p q : PinSt) : Prop := q = { p with pswEn := q.pswEn }

theorem PinSt.switched.refl (p : PinSt) : p.switched p := rfl

theorem PinSt.switched.trans {p q r : PinSt} (h : p.switched q) (k : q.switched r) : p.switched r := by
  unfold PinSt.switched at *
  rw [k, h]

theorem PinSt.switched_of_eq {p q : PinSt} (h : q = p) : p.switched q := h ▸ .refl p

theorem when_switched {f : State → State} (hf : ∀ t : State, t.pins.switched (f t).pins) (c : Bool) (s : State) :
    s.pins.switched (when c f s).pins := by
  cases c
  · exact .refl _
  · exact hf s

theorem forAll_switched {α : Type} {f : α → State → State} (hf : ∀ a (t : State), t.pins.switched (f a t).pins) (l : List α)
    (s : State) :
    s.pins.switched (forAll l f s).pins := by
  induction l generalizing s with
  | nil => exact .refl _
  | cons a l ih => exact (hf a s).trans (ih (f a s))

section
variable (s : State)

theorem State.wakeOne_switched (d : Nat) : s.pins.switched (s.wakeOne d).pins := by
  unfold State.wakeOne
  split
  · split <;> exact .refl _
  · exact .refl _
  · exact .refl _
  · split
    · rfl
    · exact .refl _

theorem State.wake_switched (d : Nat) : s.pins.switched (s.wake d).pins := by
  unfold State.wake
  split
  · exact s.wakeOne_switched d
  · exact forAll_switched (fun e t => t.wakeOne_switched e) _ s

theorem State.queueRec_switched (r : EvRec) : s.pins.switched (s.queueRec r).pins := by
  unfold State.queueRec
  extract_lets ring t
  split
  · exact State.wake_switched ({ t with evt := { t.evt with queue := joinQueue s.evt.queue { r with queued := true } } } : State) 7
  · exact .refl _

theorem State.pushRec_switched (e : EvRec) : s.pins.switched (s.pushRec e).pins := by
  have hretire : s.pins.switched s.retireNewest.pins := by
    unfold State.retireNewest
    split
    · split
      · exact s.queueRec_switched _
      · exact .refl _
    · exact .refl _
  unfold State.pushRec
  split
  · exact .refl _
  · extract_lets t q u r w v
    have hu : t.pins.switched u.pins := when_switched (f := fun t => t.count 0x3120) (fun _ => .refl _) _ t
    exact (hretire.trans hu).trans (when_switched (fun v => v.queueRec_switched r) _ v)

theorem State.eventP_switched (partner : Bool) (source code sev : Nat) (pl : BitVec 96) :
    s.pins.switched (s.eventP partner source code sev pl).pins := by
  unfold State.eventP
  extract_lets e t
  have ht : s.pins.switched t.pins := when_switched (f := State.assertPin) (fun _ => .refl _) _ (s.stickBits _ 0 _)
  refine ht.trans ?_
  split
  · exact (t.wakeOne_switched 5).trans (State.pushRec_switched _ _)
  · split
    · exact State.wake_switched ({ t with evt := { t.evt with hold := t.evt.hold ++ [{ e with held := true }] } } : State) 5
    · exact .refl _

theorem State.event_switched (source code sev : Nat) (l : List (Nat × Nat × Nat)) : s.pins.switched
    (s.event source code sev l).pins :=
  s.eventP_switched ..

/-! ### A partner declared failed (R388, R389) -/

theorem State.declare_brgFreq (reason : Nat) (hrole : s.pair.role = .paired) (hstep : s.pair.step = .idle) :
    (s.declare reason).pins.brgFreq = true := by
  rw [State.declare, if_pos ⟨hrole, hstep⟩]
  extract_lets p q t
  have h : t.pins.switched (((t.stick RF.MIR_TAKEOVER).count 0x8128).event 0x08 0x0802 2 [(0, 1, 1 - s.inst), (1, 1,
      reason)]).pins :=
    State.event_switched _ _ _ _ _
  rw [h]

theorem State.declare_raised (reason : Nat) (hrole : s.pair.role = .paired) (hstep : s.pair.step = .idle) :
    (s.declare reason).raised RF.MIR_TAKEOVER := by
  rw [State.declare, if_pos ⟨hrole, hstep⟩]
  exact (State.stick_raised _ (by decide)).mono (((State.keepsSticky.refl _).count _).event ..)

end

/-- A window without a heartbeat has closed (R388). -/
def State.misses (s : State) : State :=
  (({ s with pair := { s.pair with
    lastWin := s.now
    gotBeat := false
    missed := s.pair.missed + 1 } } : State).stick RF.MIR_MISS_SEEN).count 0x8110

section
variable {s : State} {m : MirMsg} (hrun : s.running = true) (hrole : s.pair.role = .paired) (hstep : s.pair.step = .idle)

/-- What a declaration does not touch. -/
def declarePieces : List Piece := mirrorPieces ++ [.inputs, .pending, .mem, .nvm]

theorem State.declare_frame {s t : State} (h : t.only declarePieces = s.only declarePieces) : t.nvm = s.nvm ∧ t.chans = s.chans :=
  ⟨State.nvm_of_only (State.only_mono (by decide) h),
    congrArg (fun x => x.chans) (State.only_mono (K := [.chans]) (by decide) h)⟩

include hrun hrole hstep

theorem unacknowledged_declares (harmed : s.armed = true) (hsent : s.pair.sent = [m]) (htime : m.first + 64 ≤ s.now) :
    ∃ t, exec .mirrorNoackTimeout s = .next t ∧ t.pair.step = .freq ∧ t.pair.reason = 2 ∧ t.pins.brgFreq = true ∧
      t.pair.sent = [] ∧ t.nvm = s.nvm ∧ t.chans = s.chans := by
  have heq : s.noAck = s.declare 2 := by simp [State.noAck, harmed, hsent, htime]
  have honly : s.noAck.only declarePieces = s.only declarePieces := State.noAck_only (by decide) s
  have hpair := s.declare_pair 2 hrole hstep
  have hfreq := s.declare_brgFreq 2 hrole hstep
  obtain ⟨hnvm, hchans⟩ := State.declare_frame honly
  rw [← heq] at hpair hfreq
  exact ⟨s.noAck, exec_of_kept (c := .mirrorNoackTimeout) rfl rfl hrun (State.only_mono (by decide) honly), by rw [hpair], by rw
      [hpair], hfreq,
    by rw [hpair], hnvm, hchans⟩

variable (hjoint : s.pair.joint = false) (hon : s.domOn 6 = true) (hwin : s.pair.lastWin ≠ s.now)
include hjoint hon hwin

omit hrun in
theorem State.closeBeat_of_beat (hgot : s.pair.gotBeat = true) :
    s.closeBeat = { s with pair := { s.pair with lastWin := s.now, gotBeat := false, missed := 0 } } := by
  rw [State.closeBeat, if_pos ⟨hrole, by simp [hjoint], hon, hstep, hwin⟩]
  simp only [hgot, if_true]

omit hrun in
theorem State.closeBeat_of_miss (hgot : s.pair.gotBeat = false) :
    s.closeBeat = if s.armed ∧ 2 ≤ s.misses.pair.missed then s.misses.declare 0 else s.misses := by
  rw [State.closeBeat, if_pos ⟨hrole, by simp [hjoint], hon, hstep, hwin⟩]
  simp only [hgot, Bool.false_eq_true, if_false]
  rfl

theorem window_of_beat (hgot : s.pair.gotBeat = true) :
    ∃ t, exec .heartbeatWindowClose s = .next t ∧ t.pair = { s.pair with lastWin := s.now, gotBeat := false, missed := 0 } ∧
      s.changesOnly t [.pair] := by
  have heq := State.closeBeat_of_beat hrole hstep hjoint hon hwin hgot
  exact ⟨_, exec_of_effect (c := .heartbeatWindowClose) (l := [.pair]) rfl rfl hrun heq (changesOnly_pair (.refl s _)
      (by decide) _) rfl,
    rfl, changesOnly_pair (.refl s _) (by decide) _⟩

theorem window_of_miss (hgot : s.pair.gotBeat = false) (hfew : s.armed = false ∨ s.pair.missed = 0) :
    ∃ t, exec .heartbeatWindowClose s = .next t ∧ t.pair = { s.pair with lastWin := s.now, missed := s.pair.missed + 1 } ∧
      t.sticky RF.MIR_MISS_SEEN 0 = 1 ∧ s.changesOnly t [.pair, .regs] := by
  have heq := State.closeBeat_of_miss hrole hstep hjoint hon hwin hgot
  rw [if_neg fun h => by
    have hmissed : 2 ≤ s.pair.missed + 1 := h.2
    rcases hfew with hfew | hfew
    · simp [hfew] at h
    · omega] at heq
  have hpair : s.misses.pair = { s.pair with lastWin := s.now, missed := s.pair.missed + 1 } := by
    change ({ s.pair with lastWin := s.now, gotBeat := false, missed := s.pair.missed + 1 } : PairSt) = _
    rw [← hgot]
  have hkept : s.misses.only keptPieces = s.only keptPieces := by simp [State.misses, keptPieces, mirrorPieces, PairSt.only]
  refine ⟨s.misses, exec_of_kept (c := .heartbeatWindowClose) (congrArg (act true s) heq) rfl hrun hkept, hpair, ?_, ?_⟩
  · exact State.sticky_of_raised rfl ((State.stick_raised _ (by decide)).mono ((State.keepsSticky.refl _).count _))
  · exact changesOnly_regs (changesOnly_pair (.refl s _) (by decide) _) (by decide) _

theorem window_declares (hgot : s.pair.gotBeat = false) (harmed : s.armed = true) (hmissed : 1 ≤ s.pair.missed) :
    ∃ t, exec .heartbeatWindowClose s = .next t ∧ t.pair.step = .freq ∧ t.pair.reason = 0 ∧ t.pins.brgFreq = true ∧
      t.pair.declared = s.now ∧ t.sticky RF.MIR_TAKEOVER 0 = 1 ∧ t.nvm = s.nvm ∧ t.chans = s.chans := by
  have heq := State.closeBeat_of_miss hrole hstep hjoint hon hwin hgot
  rw [if_pos ⟨harmed, Nat.succ_le_succ hmissed⟩] at heq
  have honly : s.closeBeat.only declarePieces = s.only declarePieces := State.closeBeat_only (by decide) s
  obtain ⟨hnvm, hchans⟩ := State.declare_frame honly
  have hpair := s.misses.declare_pair 0 hrole hstep
  have hfreq := s.misses.declare_brgFreq 0 hrole hstep
  have hraised := s.misses.declare_raised 0 hrole hstep
  rw [← heq] at hpair hfreq hraised
  exact ⟨s.closeBeat, exec_of_kept (c := .heartbeatWindowClose) rfl rfl hrun (State.only_mono (by decide) honly), by rw [hpair],
    by rw [hpair], hfreq, by rw [hpair]; rfl, State.sticky_of_raised rfl hraised, hnvm, hchans⟩

end

/-- Settles O44: identities by the role that they meet, heartbeats by what they bring, and the two ways to a partner declared
failed. -/
theorem pairingAndHeartbeats : Obligations.PairingAndHeartbeats :=
  ⟨fun _ _ _ _ hst => ⟨fun harr hsent => ⟨identity_pairs hst harr hsent, identity_mismatches hst harr hsent,
      identity_of_paired hst harr hsent⟩, alone_of_timeout⟩,
    fun _ _ _ _ => ⟨heartbeat_taken, fun hrun hrole hjoint hon hstep =>
      ⟨fun hwin => ⟨window_of_beat hrun hrole hstep hjoint hon hwin, window_of_miss hrun hrole hstep hjoint hon hwin,
        window_declares hrun hrole hstep hjoint hon hwin⟩, unacknowledged_declares hrun hrole hstep⟩⟩⟩

end Sys2Proof.Machine
end

section
/-! PROOFS. State messages in order, and the mirror port (O45). -/

namespace Sys2Proof.Machine

/-- The message that is next in order has been taken: acknowledged, its SEQ passed, none early (R384). -/
def State.taken (s : State) (l : List Word) : State :=
  { s with pair := { s.pair with
    acked := some (mirSeq l)
    rxSeq := (s.pair.rxSeq + 1) % 256
    early := [] } }

theorem State.drainMir_of_none {s : State} (h : s.pair.early = []) (n : Nat) : s.drainMir n = s := by
  cases n <;> simp [State.drainMir, h]

section
variable {s : State} {l : List Word} {type : Nat}

theorem State.mismatch_early (n : Nat) : (s.mismatch n).pair.early = [] := by
  rw [State.mismatch, State.pair_of_only (State.event_only (by decide) ..), State.setRole_pair]
  rfl

theorem State.taken_pieces {K : List Piece} (hK : .pair ∉ K) : (s.taken l).only K = s.only K :=
  State.only_pair s (by simp [PairSt.only, hK])

/-- The state message that is next in order is applied at once. -/
theorem State.receive_of_next (h : s.mirNext type l) (htype : type ≠ mtIdentity ∧ type ≠ mtHeartbeat) :
    s.receive type l = ((s.taken l).applyMir l).drainMir 64 := by
  obtain ⟨harr, hopen, hseq, hearly⟩ := h
  have hzero : (mirSeq l + 256 - s.pair.rxSeq) % 256 = 0 := by omega
  rw [State.receive_of_arrives harr, if_neg htype.1, if_neg htype.2, if_neg (by simp [hopen]), hzero, if_neg (by decide),
    if_pos (by decide)]
  simp only [hearly, List.any_nil, Bool.false_eq_true, if_false, List.nil_append]
  rw [State.drainMir]
  simp only [State.ackMir, List.find?_cons, hseq, beq_self_eq_true, List.filter_cons, bne_self_eq_false, Bool.false_eq_true,
      if_false,
    List.filter_nil]
  rw [State.taken, hseq]

theorem State.receive_of_applied (h : s.mirNext type l) (htype : type ≠ mtIdentity ∧ type ≠ mtHeartbeat) {u : State}
    (hu : (s.taken l).applyMir l = u) (hearly : u.pair.early = []) : s.receive type l = u := by
  rw [State.receive_of_next h htype, hu, State.drainMir_of_none hearly]

/-- A state message in order whose effect leaves what is mirrored. -/
theorem exec_of_next {c : Instr} (hc : exec c s = act c.wellFormed s (s.receive type l)) (hwf : c.wellFormed = true)
    (h : s.mirNext type l) (htype : type ≠ mtIdentity ∧ type ≠ mtHeartbeat) {u : State} (hu : (s.taken l).applyMir l = u)
    (hearly : u.pair.early = []) (hm : s.MirrorsAlike u) (hi : s.InputsAlike u) : exec c s = .next u := by
  rw [State.receive_of_applied h htype hu hearly] at hc
  exact exec_of_alike hc hwf h.1.1 hm hi

/-- One that changes the port alone. -/
theorem exec_of_next_pair {c : Instr} (hc : exec c s = act c.wellFormed s (s.receive type l)) (hwf : c.wellFormed = true)
    (h : s.mirNext type l) (htype : type ≠ mtIdentity ∧ type ≠ mtHeartbeat) {p : PairSt}
    (hu : (s.taken l).applyMir l = { s.taken l with pair := p }) (htaken : p.rxSeq = (s.pair.rxSeq + 1) % 256 ∧
      p.acked = some (mirSeq l) ∧ p.early = []) :
    ∃ t, exec c s = .next t ∧ s.mirTaken t l ∧ t.pair = p ∧ s.changesOnly t [.pair] :=
  ⟨_, exec_of_next hc hwf h htype hu htaken.2.2 (State.mirrorsAlike_of_only rfl) (State.inputsAlike_of_only rfl), htaken, rfl,
    changesOnly_pair (.refl s _) (by decide) _⟩

/-- One whose application ends in another role. -/
theorem exec_of_next_unpaired {c : Instr} (hc : exec c s = act c.wellFormed s (s.receive type l)) (hwf : c.wellFormed = true)
    (h : s.mirNext type l) (htype : type ≠ mtIdentity ∧ type ≠ mtHeartbeat) {u : State} (hu : (s.taken l).applyMir l = u)
    (hearly : u.pair.early = []) (hrole : u.pair.role ≠ .paired) : exec c s = .next (s.withInputs u) := by
  rw [State.receive_of_applied h htype hu hearly] at hc
  exact exec_unpaired hc hwf h.1.1 (.inr hrole)

end

/-! ### What each type carries (R381) -/

section
variable {s : State} {l : List Word} {k i : Nat}

theorem mirNext_length {type : Nat} (h : s.mirNext type l) : l.length < 65536 := h.1.2.1

/-- A message of one of the types that are taken while PAIRED. -/
theorem State.applyMir_of_paired {type : Nat} (h : s.mirNext type l) (hrole : s.pair.role = .paired) {f : State → State}
    (hf : ∀ t : State, mirType l = type → t.pair.role = .paired → t.applyMir l = f t) : (s.taken l).applyMir l = f (s.taken l) :=
  hf (s.taken l) h.1.2.2.2.1 hrole

theorem refBase_taken (h : s.mirNext mtRefBase l) (hrole : s.pair.role = .paired) (hi : i < 64) :
    ∃ t, exec (.mirRefBase l) s = .next t ∧ s.mirTaken t l ∧
      (t.pair.chans.get ((bodyWord (mirBody l) 0).toNat % 32)).bases.get i =
        (if i % 2 = 0 then fieldNat (bodyWord (mirBody l) (1 + i / 2)) 15 0
          else fieldNat (bodyWord (mirBody l) (1 + i / 2)) 31 16) ∧ s.changesOnly t [.pair] := by
  have hu := State.applyMir_of_paired h hrole (f := fun t => t.takeRefBase (mirBody l)) fun t htype hrole => by
    rw [State.applyMir, htype, hrole]
    rfl
  obtain ⟨t, ht, htaken, hpair, hframe⟩ := exec_of_next_pair (c := .mirRefBase l) rfl
    (by simpa [Instr.wellFormed, Instr.units, Instr.partsOk] using mirNext_length h) h (by decide) hu ⟨rfl, rfl, rfl⟩
  refine ⟨t, ht, htaken, ?_, hframe⟩
  rw [hpair]
  simp only [Tbl.get_upd_self]
  exact (Tbl.get_foldl_upd (List.range 64) (fun j _ => if j % 2 = 0 then fieldNat (bodyWord (mirBody l) (1 + j / 2)) 15 0
    else fieldNat (bodyWord (mirBody l) (1 + j / 2)) 31 16) _ List.nodup_range i).trans (if_pos (List.mem_range.2 hi))

/-- A backlog from which an entry has gone, and into which it may have come. -/
theorem backlog_any (b : List Backlog) (bank row : Nat) (add : Bool) :
    ((b.filter (fun e => !(e.bank == bank && e.row == row))) ++ (if add then [(⟨bank, row, 0⟩ : Backlog)] else [])).any
      (fun e => e.bank == bank && e.row == row) = add := by
  have hgone : (b.filter (fun e => !(e.bank == bank && e.row == row))).any (fun e => e.bank == bank && e.row == row) = false := by
    rw [List.any_eq_false]
    intro e he
    simpa [not_and_or, imp_iff_not_or] using (List.mem_filter.1 he).2
  rw [List.any_append, hgone]
  cases add <;> simp

theorem backlog_taken (h : s.mirNext mtBacklog l) (hrole : s.pair.role = .paired) :
    ∃ t, exec (.mirBacklog l) s = .next t ∧ s.mirTaken t l ∧
      (t.pair.chans.get (fieldNat (bodyWord (mirBody l) 0) 4 0)).backlog.any (fun e =>
        e.bank == fieldNat (bodyWord (mirBody l) 0) 13 8 && e.row == (bodyWord (mirBody l) 1).toNat % 32768) =
          bitAt (bodyWord (mirBody l) 0) 31 ∧ s.changesOnly t [.pair] := by
  have hu := State.applyMir_of_paired h hrole (f := fun t => t.takeBacklog (mirBody l)) fun t htype hrole => by
    rw [State.applyMir, htype, hrole]
    rfl
  obtain ⟨t, ht, htaken, hpair, hframe⟩ := exec_of_next_pair (c := .mirBacklog l) rfl
    (by simpa [Instr.wellFormed, Instr.units, Instr.partsOk] using mirNext_length h) h (by decide) hu ⟨rfl, rfl, rfl⟩
  have hch : fieldNat (bodyWord (mirBody l) 0) 4 0 % 32 = fieldNat (bodyWord (mirBody l) 0) 4 0 :=
    Nat.mod_eq_of_lt (Nat.mod_lt _ (by decide))
  refine ⟨t, ht, htaken, ?_, hframe⟩
  rw [hpair]
  simp only [hch, Tbl.get_upd_self]
  exact backlog_any ..

theorem repair_taken (h : s.mirNext mtRepair l) (hrole : s.pair.role = .paired) :
    ∃ t, exec (.mirRepair l) s = .next t ∧ s.mirTaken t l ∧
      (t.pair.chans.get ((bodyWord (mirBody l) 0).toNat % 32)).repair = ((mirBody l).drop 1).flatMap wordBytes ∧
      s.changesOnly t [.pair] := by
  have hu := State.applyMir_of_paired h hrole (f := fun t => t.takeRepair (mirBody l)) fun t htype hrole => by
    rw [State.applyMir, htype, hrole]
    rfl
  obtain ⟨t, ht, htaken, hpair, hframe⟩ := exec_of_next_pair (c := .mirRepair l) rfl
    (by simpa [Instr.wellFormed, Instr.units, Instr.partsOk] using mirNext_length h) h (by decide) hu ⟨rfl, rfl, rfl⟩
  refine ⟨t, ht, htaken, ?_, hframe⟩
  rw [hpair]
  simp only [Tbl.get_upd_self]

theorem config_taken (h : s.mirNext mtConfig l) (hrole : s.pair.role = .paired) :
    ∃ t, exec (.mirConfig l) s = .next t ∧ s.mirTaken t l ∧
      t.pair.epoch = (if bitAt (bodyWord (mirBody l) 0) 31 then (bodyWord (mirBody l) 1).toNat else s.pair.epoch) ∧
      t.pair.config = (configWords (mirBody l)).foldl (fun tb w => tb.set w.1 (BitVec.ofNat 32 w.2)) s.pair.config ∧
      s.changesOnly t [.pair] := by
  have hu := State.applyMir_of_paired h hrole (f := fun t => t.takeConfig (mirBody l)) fun t htype hrole => by
    rw [State.applyMir, htype, hrole]
    rfl
  obtain ⟨t, ht, htaken, hpair, hframe⟩ := exec_of_next_pair (c := .mirConfig l) rfl
    (by simpa [Instr.wellFormed, Instr.units, Instr.partsOk] using mirNext_length h) h (by decide) hu ⟨rfl, rfl, rfl⟩
  exact ⟨t, ht, htaken, by rw [hpair]; rfl, by rw [hpair]; rfl, hframe⟩

theorem trims_taken (h : s.mirNext mtTrims l) (hrole : s.pair.role = .paired) :
    ∃ t, exec (.mirTrims l) s = .next t ∧ s.mirTaken t l ∧
      (t.pair.chans.get ((bodyWord (mirBody l) 0).toNat % 32)).trims =
        some (trimsOf (((mirBody l).drop 1).flatMap wordBytes)) ∧ s.changesOnly t [.pair] := by
  have hu := State.applyMir_of_paired h hrole (f := fun t => t.takeTrims (mirBody l)) fun t htype hrole => by
    rw [State.applyMir, htype, hrole]
    rfl
  obtain ⟨t, ht, htaken, hpair, hframe⟩ := exec_of_next_pair (c := .mirTrims l) rfl
    (by simpa [Instr.wellFormed, Instr.units, Instr.partsOk] using mirNext_length h) h (by decide) hu ⟨rfl, rfl, rfl⟩
  refine ⟨t, ht, htaken, ?_, hframe⟩
  rw [hpair]
  simp only [Tbl.get_upd_self]

theorem wake_flag_taken (h : s.mirNext mtSleep l) (hrole : s.pair.role = .paired) (hflag : bitAt (bodyWord
    (mirBody l) 0) 0 = true) :
    ∃ t, exec (.mirSleep l) s = .next t ∧ s.mirTaken t l ∧ t.pair.joint = false ∧ t.pair.sleepSent = false ∧
      s.changesOnly t [.pair] := by
  have hu := State.applyMir_of_paired h hrole (f := fun t =>
      { t with pair := { t.pair with joint := false, sleepSent := false, peerOffer := 0 } }) fun t htype hrole => by
    rw [State.applyMir, htype, hrole]
    exact if_pos hflag
  obtain ⟨t, ht, htaken, hpair, hframe⟩ := exec_of_next_pair (c := .mirSleep l) rfl
    (by simpa [Instr.wellFormed, Instr.units, Instr.partsOk] using mirNext_length h) h (by decide) hu ⟨rfl, rfl, rfl⟩
  exact ⟨t, ht, htaken, by rw [hpair], by rw [hpair], hframe⟩

theorem handback_taken (h : s.mirNext mtHandback l) (hrole : s.pair.role = .fenced) :
    ∃ t, exec (.mirHandback l) s = .next t ∧ s.mirTaken t l ∧ t.pair.handMsgs = s.pair.handMsgs ++ [mirBody l] ∧
      s.changesOnly t [.pair] := by
  have hrole' : (s.taken l).pair.role = .fenced := hrole
  have htype : mirType l = mtHandback := h.1.2.2.2.1
  have hu : (s.taken l).applyMir l =
      { s.taken l with pair := { (s.taken l).pair with handMsgs := s.pair.handMsgs ++ [mirBody l] } } := by
    rw [State.applyMir, htype]
    exact if_pos hrole'
  obtain ⟨t, ht, htaken, hpair, hframe⟩ := exec_of_next_pair (c := .mirHandback l) rfl
    (by simpa [Instr.wellFormed, Instr.units, Instr.partsOk] using mirNext_length h) h (by decide) hu ⟨rfl, rfl, rfl⟩
  exact ⟨t, ht, htaken, by rw [hpair], hframe⟩

/-! ### Keys (R326) -/

theorem erased_key_taken (h : s.mirNext mtKey l) (hrole : s.pair.role = .paired) (herase : bitAt (bodyWord (mirBody l) 0) 31 = true)
    (hk : fieldNat (bodyWord (mirBody l) 0) 10 0 = k) :
    ∃ t, exec (.mirKey l) s = .next t ∧ s.mirTaken t l ∧ (t.slot true k).st = .empty ∧ (t.slot true k).keys = .zero ∧
      (∀ j, j ≠ k → t.slot true j = s.slot true j) ∧ s.changesOnly t [.pair, .sec] := by
  have hu := State.applyMir_of_paired h hrole (f := fun t => t.zeroSlot true k) fun t htype hrole => by
    rw [State.applyMir, htype, hrole]
    exact hk ▸ if_pos herase
  refine ⟨_, exec_of_next (c := .mirKey l) rfl (by simpa [Instr.wellFormed, Instr.units, Instr.partsOk] using mirNext_length h) h
    (by decide) hu rfl ⟨fun _ => rfl, fun _ => rfl, fun _ => rfl, fun _ _ => rfl, rfl, rfl, rfl⟩ (State.inputsAlike_of_only rfl),
    ⟨rfl, rfl, rfl⟩, ?_, ?_, fun j hj => Tbl.get_upd_ne _ _ hj, changesOnly_sec (changesOnly_pair (.refl s _) (by decide) _)
        (by decide) _⟩
  · exact congrArg KeySlot.st (Tbl.get_upd_self ..)
  · exact congrArg KeySlot.keys (Tbl.get_upd_self ..)

/-- A slot that the partner holds, as its KEY message wrapped it. -/
def wrappedSlot (keys : Keys) (bytes : List Byte) (x : KeySlot) : KeySlot :=
  { x with
    st := .active
    keys := keys
    cls := numAt bytes 2 1 % 4
    meta1 := (numAt bytes 2 1).testBit 2
    gen := (x.gen + 1) % 65536
    uses := 0
    eastOk := true
    westOk := true }

/-- The wrapped slot that a KEY message carries, unwrapped under the pair key. -/
def State.unwrapped (s : State) (l : List Word) : Option Keys :=
  s.sec.pairKey.bind (fun q => unwrapSlot q forPair (1 - s.inst) (((mirBody l).drop 1).flatMap wordBytes))

theorem State.takeSlotKey_of_wrapped {t : State} (hwrap : bitAt (bodyWord (mirBody l) 0) 31 = false)
    (hk : fieldNat (bodyWord (mirBody l) 0) 10 0 = k) :
    t.takeSlotKey true (1 - t.inst) (mirBody l) = match t.unwrapped l with
      | some keys => t.setSlot true k (wrappedSlot keys (((mirBody l).drop 1).flatMap wordBytes))
      | none => t.mismatch 4 := by
  rw [State.takeSlotKey, hwrap, hk]
  rfl

theorem wrapped_key_taken (h : s.mirNext mtKey l) (hrole : s.pair.role = .paired) (hwrap : bitAt (bodyWord
    (mirBody l) 0) 31 = false)
    (hk : fieldNat (bodyWord (mirBody l) 0) 10 0 = k) :
    ∃ t, exec (.mirKey l) s = .next t ∧ (∀ j, j ≠ k → t.slot true j = s.slot true j) ∧ t.sec.own = s.sec.own ∧
      (∀ keys, s.unwrapped l = some keys →
        s.mirTaken t l ∧ (t.slot true k).st = .active ∧ (t.slot true k).keys = keys ∧
          (t.slot true k).gen = ((s.slot true k).gen + 1) % 65536 ∧ s.changesOnly t [.pair, .sec]) ∧
      (s.unwrapped l = none → t.slot true k = s.slot true k) := by
  have hwf : (Instr.mirKey l).wellFormed = true := by simpa [Instr.wellFormed, Instr.units, Instr.partsOk] using mirNext_length h
  have hu := State.applyMir_of_paired h hrole (f := fun t => t.takeSlotKey true (1 - t.inst) (mirBody l)) fun t htype hrole => by
    rw [State.applyMir, htype, hrole]
    rfl
  rw [State.takeSlotKey_of_wrapped hwrap hk, show (s.taken l).unwrapped l = s.unwrapped l from rfl] at hu
  cases hkeys : s.unwrapped l with
  | some keys =>
    rw [hkeys] at hu
    have hslot := Tbl.get_upd_self s.sec.partner k (wrappedSlot keys (((mirBody l).drop 1).flatMap wordBytes))
    refine ⟨_, exec_of_next (c := .mirKey l) rfl hwf h (by decide) hu rfl
      ⟨fun _ => rfl, fun _ => rfl, fun _ => rfl, fun _ _ => rfl, rfl, rfl, rfl⟩ (State.inputsAlike_of_only rfl),
      fun j hj => Tbl.get_upd_ne _ _ hj, rfl, fun keys' hkeys' => ?_, fun hnone => by simp at hnone⟩
    obtain rfl : keys = keys' := Option.some.inj hkeys'
    exact ⟨⟨rfl, rfl, rfl⟩, congrArg KeySlot.st hslot, congrArg KeySlot.keys hslot, congrArg KeySlot.gen hslot,
      changesOnly_sec (changesOnly_pair (.refl s _) (by decide) _) (by decide) _⟩
  | none =>
    rw [hkeys] at hu
    obtain ⟨hmismatch, -, -⟩ := (s.taken l).mismatch_pair 4
    have hslots : ((s.taken l).mismatch 4).only [.slots] = s.only [.slots] :=
      (State.mismatch_only (by decide) _ 4).trans (State.taken_pieces (by decide))
    have hown : ((s.taken l).mismatch 4).sec.own = s.sec.own := congrArg (fun x => x.sec.own) hslots
    have hpartner (j : Nat) : ((s.taken l).mismatch 4).slot true j = s.slot true j := congrArg (fun x => x.slot true j) hslots
    exact ⟨_, exec_of_next_unpaired (c := .mirKey l) rfl hwf h (by decide) hu (State.mismatch_early ..) (by simp [hmismatch]),
      fun j _ => hpartner j, hown, fun keys hsome => by simp at hsome, fun _ => hpartner k⟩

/-! ### The pair key -/

omit l k i in
theorem State.random_pairKey (n : Nat) : (s.random n).2.sec.pairKey = s.sec.pairKey := by
  change (when (decide (2 ^ s.rf RF.SEC_RESEED_LOG ≤ s.sec.drbgGen + 1)) State.reseed _).sec.pairKey = _
  cases decide (2 ^ s.rf RF.SEC_RESEED_LOG ≤ s.sec.drbgGen + 1) <;> rfl

omit l k i in
theorem State.sendKey_pairKey (j : Nat) (keyOp : Option Nat) : (s.sendKey j keyOp).sec.pairKey = s.sec.pairKey := by
  have hbody : (s.keyBody false j).2.sec.pairKey = s.sec.pairKey := by
    unfold State.keyBody
    split
    · rfl
    · dsimp only
      split
      · rfl
      · exact s.random_pairKey 12
  have hsend : ∀ (t : State) (b : List Word), (t.mirSend mtKey b keyOp).sec = t.sec := by
    intro t b
    unfold State.mirSend
    split <;> rfl
  unfold State.sendKey
  exact (congrArg SecSt.pairKey (hsend _ _)).trans hbody

omit l k i in
theorem State.sendKeys_pairKey : s.sendKeys.sec.pairKey = s.sec.pairKey := by
  have hall : ∀ (js : List Nat) (t : State), (forAll js (fun j t => t.sendKey j none) t).sec.pairKey = t.sec.pairKey := by
    intro js
    induction js with
    | nil => exact fun _ => rfl
    | cons j js ih => exact fun t => (ih (t.sendKey j none)).trans (t.sendKey_pairKey j none)
  unfold State.sendKeys
  exact hall _ s

/-- The pair key that this machine's share and a PAIRKEY message agree. -/
def State.agreedKey (s : State) (l : List Word) : Option Nat :=
  s.pair.share.bind (fun x => pairKeyOf s.inst x.1 x.2 ((mirBody l).flatMap wordBytes))

/-- The machine once it has agreed a pair key. -/
def State.keyed (s : State) (key : Nat) : State :=
  if s.pair.role = .paired then ({ s with sec := { s.sec with pairKey := some key } } : State).sendKeys
  else { s with sec := { s.sec with pairKey := some key } }

omit l k i in
theorem State.keyed_pair (key : Nat) : s.pair.sends (s.keyed key).pair ∧ (s.keyed key).sec.pairKey = some key := by
  have hkept : ∀ t : State, t.pair = s.pair → t.sec.pairKey = some key →
      s.pair.sends t.sendKeys.pair ∧ t.sendKeys.sec.pairKey = some key :=
    fun t hpair hkey => ⟨by rw [← hpair]; exact t.sendKeys_sends, State.sendKeys_pairKey.trans hkey⟩
  unfold State.keyed
  split
  · refine hkept _ ?_ ?_
    · rfl
    · rfl
  · exact ⟨.refl _, rfl⟩

omit l k i in
theorem State.keyed_only {K : List Piece} (hK : .regs ∉ K ∧ .sec ∉ K ∧ .pair ∉ K ∧ .free ∉ K) (key : Nat) :
    (s.keyed key).only K = s.only K := by
  unfold State.keyed
  split <;> simp [hK, SecSt.only]

theorem pairkey_taken (h : s.mirNext mtPairkey l) :
    ∃ t, exec (.mirPairkey l) s = .next t ∧
      (∀ key, s.agreedKey l = some key → s.mirTaken t l ∧ t.sec.pairKey = some key) ∧
      (s.agreedKey l = none → s.pair.role = .paired → t.pair.role = .mismatch) ∧
      t.array = s.array ∧ t.nvm = s.nvm ∧ t.link = s.link := by
  have hwf : (Instr.mirPairkey l).wellFormed = true := by
    simpa [Instr.wellFormed, Instr.units, Instr.partsOk] using mirNext_length h
  have htype : mirType l = mtPairkey := h.1.2.2.2.1
  have hu : (s.taken l).applyMir l = match s.agreedKey l with
      | some key => (s.taken l).keyed key
      | none => (s.taken l).mismatch 4 := by
    rw [State.applyMir, htype]
    rfl
  cases hkey : s.agreedKey l with
  | some key =>
    rw [hkey] at hu
    obtain ⟨hsends, hpairKey⟩ := (s.taken l).keyed_pair key
    have honly : ∀ {K : List Piece}, (.regs ∉ K ∧ .sec ∉ K ∧ .pair ∉ K ∧ .free ∉ K) → ((s.taken l).keyed key).only K = s.only K :=
      fun hK => (State.keyed_only hK key).trans (State.taken_pieces hK.2.2.1)
    obtain ⟨harray, hnvm, hlink, -⟩ := State.port_frame (honly (K := portPieces) (by decide))
    refine ⟨_, exec_of_next (c := .mirPairkey l) rfl hwf h (by decide) hu (by rw [hsends]; rfl)
      (State.mirrorsAlike_of_only (honly (by decide))) (State.inputsAlike_of_only (honly (by decide))), fun key' hsome => ?_,
      fun hnone => by simp at hnone, harray, hnvm, hlink⟩
    obtain rfl : key = key' := Option.some.inj hsome
    exact ⟨⟨by rw [hsends]; rfl, by rw [hsends]; rfl, by rw [hsends]; rfl⟩, hpairKey⟩
  | none =>
    rw [hkey] at hu
    obtain ⟨hmismatch, -, -⟩ := (s.taken l).mismatch_pair 4
    obtain ⟨harray, hnvm, hlink, -⟩ := State.port_frame
      (((s.taken l).mismatch_only (K := portPieces) (by decide) 4).trans (State.taken_pieces (by decide)))
    exact ⟨_, exec_of_next_unpaired (c := .mirPairkey l) rfl hwf h (by decide) hu (State.mismatch_early ..) (by simp [hmismatch]),
      fun key hsome => by simp at hsome, fun _ _ => hmismatch, harray, hnvm, hlink⟩

end

/-! ### The mirror port (R384, R396) -/

section
variable {s : State} {d : Nat} (hon : (s.dom d).st ≠ .on)
include hon

/-- A domain that needs no other is woken alone. -/
theorem State.wake_of_sleeping (hd : ∀ t : State, t.wakeFirst d = []) : s.wake d = s.wakeOne d := by
  rw [State.wake, hd]
  cases hst : (s.dom d).st
  case on => exact absurd hst hon
  all_goals rfl

theorem State.wakeOne_of_sleeping (hfailed : (s.dom d).st ≠ .failed) (hnone : (s.dom d).wakeFrom = none)
    (hmay : s.mayWake d = true) :
    s.wakeOne d = (s.setDom d (fun x => { x with
      tries := 0, from0 := decide ((s.dom d).st = .off), cold := false, timer := s.rf RF.PWR_WAKE_TIMER,
        limit := s.rf RF.PWR_RETRIES })).beginWake d := by
  unfold State.wakeOne
  rw [hnone]
  cases hst : (s.dom d).st
  case on => exact absurd hst hon
  case failed => exact absurd hst hfailed
  all_goals exact if_pos hmay

end

section
variable {s : State} {m : MirMsg} (hrun : s.running = true)
include hrun

theorem config_acknowledged (hclamped : s.clamped = false) (hsent : s.pair.sent = [m]) (hseq : m.seq < 256)
    (hwaiting : s.pair.waiting = []) (hops : s.trx.keyOps = []) (htype : mirType m.words = mtConfig) :
    ∃ t, exec (.mirrorAck m.seq) s = .next t ∧
      t.pair = { s.pair with sent := [], mirrored := (m.words.getD 2 0#32).toNat } ∧ s.changesOnly t [.pair] := by
  have hack : s.acknowledged m.seq =
      { s with pair := { s.pair with sent := [], mirrored := (m.words.getD 2 0#32).toNat } } := by
    simp [State.acknowledged, State.sentMsg, hsent, State.mirPump, hwaiting, htype, State.configLeft]
  have heq : opMirrorAck m.seq s =
      { s with pair := { s.pair with sent := [], mirrored := (m.words.getD 2 0#32).toNat } } := by
    rw [opMirrorAck, if_neg (by simp [hclamped]), hack]
    simp [State.keyFinish, State.keyServe, hops]
  exact ⟨_, exec_of_effect (c := .mirrorAck m.seq) (l := [.pair]) rfl
    (by simp [Instr.wellFormed, Instr.units, Instr.partsOk, hseq]) hrun heq (changesOnly_pair (.refl s _) (by decide) _) rfl, rfl,
    changesOnly_pair (.refl s _) (by decide) _⟩

theorem message_resent (hsent : s.pair.sent = [m]) (hseq : m.seq < 256) (htime : m.at0 + 4 ≤ s.now) (hon : s.domOn 6 = true)
    (hsnap : s.regs.snapBusy = false) :
    ∃ t, exec (.mirrorResendTimeout m.seq) s = .next t ∧ t.pair = { s.pair with sent := [{ m with at0 := s.now }] } ∧
      t.counter 0x8118 = s.counter 0x8118 + 1#64 ∧ s.changesOnly t [.pair, .regs] := by
  have heq : s.resendMir m.seq =
      ((({ s with pair := { s.pair with sent := [{ m with at0 := s.now }] } } : State).count 0x8118).mirWords m.words.length) := by
    simp [State.resendMir, State.sentMsg, hsent, htime, hon]
  have hframe : s.changesOnly ((({ s with pair := { s.pair with sent := [{ m with at0 :=
      s.now }] } } : State).count 0x8118).mirWords
      m.words.length) [.pair, .regs] := ((changesOnly_pair (.refl s _) (by decide) _).count _).countBy _ _
  refine ⟨_, exec_of_effect (c := .mirrorResendTimeout m.seq) rfl
    (by simp [Instr.wellFormed, Instr.units, Instr.partsOk, hseq]) hrun heq hframe ?_, rfl, ?_, hframe⟩
  · exact (State.countBy_doneEpoch _ _ _).trans (State.count_doneEpoch _ _)
  · simp [State.mirWords, State.counter, State.count, State.countBy, hsnap, Tbl.get_upd]

theorem request_wakes (hclamped : s.clamped = false) (hoff : s.domOn 6 = false) (hfailed : (s.dom 6).st ≠ .failed)
    (hnone : (s.dom 6).wakeFrom = none) (hmay : s.mayWake 6 = true) :
    ∃ t, exec .mirRxreqWake s = .next t ∧ (t.dom 6).wakeFrom = some s.now ∧ (∀ i, i ≠ 6 → t.dom i = s.dom i) ∧
      s.changesOnly t [.pwr, .pins] := by
  have hon : (s.dom 6).st ≠ .on := by simpa [State.domOn] using hoff
  have heq : opMirRxreqWake s = (s.setDom 6 (fun x => { x with
      tries := 0, from0 := decide ((s.dom 6).st = .off), cold := false, timer := s.rf RF.PWR_WAKE_TIMER,
        limit := s.rf RF.PWR_RETRIES })).beginWake 6 := by
    rw [opMirRxreqWake, if_neg (by simp [hclamped, hoff])]
    rw [State.wake_of_sleeping hon (fun _ => rfl), State.wakeOne_of_sleeping hon hfailed hnone hmay]
  refine ⟨_, exec_of_kept (c := .mirRxreqWake) (congrArg (act true s) heq) rfl hrun rfl, ?_, fun i hi => ?_, ?_⟩
  · simp [State.dom, State.beginWake, State.setDom, State.now]
  · simp [State.dom, State.beginWake, State.setDom, Tbl.get_upd, Ne.symm hi]
  · exact State.changesOnly_of_only (K := Piece.all.filter (fun p => p.part != .pwr && p.part != .pins)) rfl (by decide)

end

/-- Settles O45, a lemma for each type of message: the one that is next in order is applied to the state in which it has been
acknowledged. -/
theorem mirrorPortAndMessages : Obligations.MirrorPortAndMessages :=
  ⟨fun _ _ _ _ => ⟨refBase_taken, backlog_taken, erased_key_taken, wrapped_key_taken, repair_taken, config_taken, trims_taken,
      wake_flag_taken, pairkey_taken, fun h hrole _ => handback_taken h hrole⟩,
    fun _ _ hrun => ⟨config_acknowledged hrun, message_resent hrun, request_wakes hrun⟩⟩

end Sys2Proof.Machine
end

section
set_option Elab.async false
/-! PROOFS. The fields of a word that a write carries, and the frames of a register write by its own command. -/

namespace Sys2Proof.Machine

/-! ### The fields of a written word -/

section
variable {w : Nat}

theorem testBit_fieldNat (v : BitVec w) (hi lo i : Nat) :
    (fieldNat v hi lo).testBit i = (decide (i < hi + 1 - lo) && v.getLsbD (lo + i)) := by
  simp [fieldNat, Nat.testBit_mod_two_pow, Nat.testBit_div_two_pow, BitVec.getLsbD, Nat.add_comm]

/-- A field all of whose bits a mask holds. -/
theorem fieldNat_and_of_covered {m : BitVec w} {hi lo : Nat} (h : ∀ i, i < hi + 1 → lo ≤ i → m.getLsbD i = true) (v : BitVec w) :
    fieldNat (v &&& m) hi lo = fieldNat v hi lo := by
  refine Nat.eq_of_testBit_eq fun i => ?_
  simp only [testBit_fieldNat, BitVec.getLsbD_and]
  by_cases hi : i < hi + 1 - lo
  · rw [h (lo + i) (by omega) (by omega), Bool.and_true]
  · simp [hi]

end

theorem getLsbD_putBits (w : Word) (hi lo v : Nat) {i : Nat} (h : i < 32) :
    (putBits w hi lo v).getLsbD i = if lo ≤ i ∧ i < hi + 1 then v.testBit (i - lo) else w.getLsbD i := by
  simp only [putBits, BitVec.getLsbD_or, BitVec.getLsbD_and, BitVec.getLsbD_not, BitVec.getLsbD_ofNat, Nat.testBit_mul_two_pow,
    Nat.testBit_two_pow_sub_one, Nat.testBit_mod_two_pow, h, decide_true, Bool.true_and]
  by_cases hlo : lo ≤ i <;> by_cases hhi : i < hi + 1
  · simp [hlo, hhi, show i - lo < hi + 1 - lo by omega]
  · simp [hhi, show ¬ i - lo < hi + 1 - lo by omega]
  all_goals simp [hlo]

theorem fieldNat_putBits_self (w : Word) {hi lo : Nat} (h : hi < 32) (v : Nat) :
    fieldNat (putBits w hi lo v) hi lo = v % 2 ^ (hi + 1 - lo) := by
  refine Nat.eq_of_testBit_eq fun i => ?_
  rw [testBit_fieldNat, Nat.testBit_mod_two_pow]
  by_cases hi : i < hi + 1 - lo
  · rw [getLsbD_putBits _ _ _ _ (by omega), if_pos (by omega), Nat.add_sub_cancel_left]
  · simp [hi]

theorem fieldNat_putBits_of_disjoint (w : Word) {hi lo hi' lo' : Nat} (hle : hi' < 32) (h : hi' < lo ∨ hi < lo') (v : Nat) :
    fieldNat (putBits w hi lo v) hi' lo' = fieldNat w hi' lo' := by
  refine Nat.eq_of_testBit_eq fun i => ?_
  simp only [testBit_fieldNat]
  by_cases hi : i < hi' + 1 - lo'
  · rw [getLsbD_putBits _ _ _ _ (by omega), if_neg (by omega)]
  · simp [hi]

/-! ### Register writes by their own command -/

section
variable {s u : State} {a : Access} {off : Nat} {v : Word}

/-- The answer of a write touches of the repairs CM_REG's data register alone. -/
theorem State.ackNone_rpr : ∃ busy w, (u.ackWrite a off v none false).rpr = { u.rpr with cmBusy := busy, cmResult := w } := by
  obtain ⟨w, h⟩ | ⟨w, h⟩ | h := u.ackNone_cases a off v false
  · exact ⟨false, w, by rw [h]⟩
  · exact ⟨u.rpr.cmBusy, u.rpr.cmResult, by rw [h]⟩
  · exact ⟨u.rpr.cmBusy, u.rpr.cmResult, by rw [h]⟩

/-- A register write by its own command leaves its effect, but for the pieces that its answer, its way to the partner and the inputs
touch; of the repairs the answer touches CM_REG's data register. -/
theorem exec_write_seen {c : Instr} (h : exec c s = act c.wellFormed s (u.ackWrite a off v none false)) (hwf : c.wellFormed = true)
    (hrun : s.running = true) (K : List Piece)
    (hK : (.regs ∉ K ∧ .sec ∉ K ∧ .pair ∉ K ∧ .free ∉ K) ∧ (.inputs ∉ K ∧ .pending ∉ K) ∧ .rpr ∉ K := by decide) :
    ∃ t, exec c s = .next t ∧ t.only K = u.only K ∧ ∃ busy w, t.rpr = { u.rpr with cmBusy := busy, cmResult := w } := by
  obtain ⟨hmir, hin, hrpr⟩ := hK
  have hcons {p : Piece} (hp : p ∉ K) (hne : p ≠ .rpr) : p ∉ .rpr :: K := fun hmem => (List.mem_cons.1 hmem).elim hne hp
  obtain ⟨t, hexec, hseen⟩ := exec_seen h hwf hrun (.rpr :: K) ⟨⟨hcons hmir.1 (by decide), hcons hmir.2.1 (by decide),
    hcons hmir.2.2.1 (by decide), hcons hmir.2.2.2 (by decide)⟩, hcons hin.1 (by decide), hcons hin.2 (by decide)⟩
  refine ⟨t, hexec, (State.only_mono (List.subset_cons_self _ _) hseen).trans (u.ackNone_only a off v false ⟨hmir.1, hrpr⟩), ?_⟩
  have hof : t.rpr = (u.ackWrite a off v none false).rpr := by
    have := congrArg (fun x => x.rpr) hseen
    simpa [State.only] using this
  rw [hof]
  exact State.ackNone_rpr

end

end Sys2Proof.Machine
end

section
set_option Elab.async false
/-! PROOFS. The commands of RPR_CMD (R424, R425, R428, R429, R438). -/

namespace Sys2Proof.Machine

/-! ### A changed repair map that MRAM has not taken yet (R422) -/

/-- The pieces of the state that hold the mirrored items, but for the repair maps, with the inputs and the queue. -/
def mapKept : List Piece := [.cal, .chans, .slots, .keyOps, .commits, .inputs, .pending]

/-- A repair map that is on its way to MRAM does not go to the partner yet. -/
theorem State.mirrorFrom_of_writing {s t : State} (h : t.only mapKept = s.only mapKept)
    (hepoch : t.regs.doneEpoch = s.regs.doneEpoch)
    (hseq : ∀ ch, (t.rmap ch).seq = (s.rmap ch).seq ∨ t.nvm.jobs.any (fun j => j.why == .repairMap ch) = true) :
    s.mirrorFrom t = t := by
  have hcount (ch : Nat) : (t.calCh ch).count = (s.calCh ch).count := congrArg (fun x => (x.calCh ch).count) h
  have hbacklog (ch : Nat) : (t.chan ch).backlog = (s.chan ch).backlog := congrArg (fun x => (x.chan ch).backlog) h
  have hbase (ch b : Nat) : (t.chan ch).base b = (s.chan ch).base b := congrArg (fun x => (x.chan ch).base b) h
  have hown : t.sec.own = s.sec.own := congrArg (fun x => x.sec.own) h
  have hops : t.trx.keyOps = s.trx.keyOps := congrArg (fun x => x.trx.keyOps) h
  have hslots : slotsChanged s t = [] := by
    simp only [slotsChanged, List.filter_eq_nil_iff]
    intro k _
    simp [State.slot, State.eraseOpen, hown, hops]
  have hmap (ch : Nat) : ((s.rmap ch).seq != (t.rmap ch).seq && !t.nvm.jobs.any (fun j => j.why == .repairMap ch)) = false := by
    obtain hsame | hjob := hseq ch
    · simp [hsame]
    · simp [hjob]
  unfold State.mirrorFrom
  split
  · rw [forAll_of_fixed (s := t)]
    · rw [hslots]
      simp only [forAll_nil, hepoch, ne_eq, not_true_eq_false, false_and, if_false]
      cases t.sec.pairKey.isSome <;> simp only [when] <;> split <;> rfl
    · intro ch _
      have hall : (List.range 64).all (fun _ => true) = true := List.all_eq_true.2 fun _ _ => rfl
      simp only [hmap, hcount, hbacklog, hbase, bne_self_eq_false, backlogLess_self, forAll_nil, when, beq_self_eq_true, hall,
        Bool.not_true]
  · rfl

/-! ### The commands -/

section
variable {s : State} {a : Access} {v : Word} {ch bank row col dq : Nat}

/-- The state in which an operation has begun (R438). -/
def State.repairing (s : State) (o : RepairOp) : State :=
  { s with rpr := { s.rpr with op := some o, result := 3, reason := 0 } }

theorem State.repairStart_of_none (hop : s.rpr.op = none) (o : RepairOp) (go : State → State) :
    s.repairStart o go = go (s.repairing o) := by
  rw [State.repairStart, hop]
  rfl

/-- RPR_CMD as its write carries it. -/
theorem exec_rprCmd {c : Instr} {op : Nat} (hc : exec c s = act c.wellFormed s (s.writeReg a 0x9008 (putBits v 31 28 op) none true))
    (hopen : s.writeOpen a 0x9008 (putBits v 31 28 op)) (hch : fieldNat v 27 23 = ch) (hbank : fieldNat v 22 17 = bank) {u : State}
    (hu : (match op % 2 ^ 4 with
      | 1 => s.softRow ch bank
      | 2 => s.hardRow ch bank
      | 3 => s.colAdd ch bank
      | 4 => s.colRemove ch bank
      | _ => s) = u) :
    exec c s = act c.wellFormed s (u.ackWrite a 0x9008 (putBits v 31 28 op) none false) := by
  rw [hc, State.writeReg_of_command hopen (pg := .rpr) (n := 0) (x := 0x8) (by decide) (by decide) (by decide) (by decide)
      (by decide),
    State.writeActs, State.rprCmd, fieldNat_and_of_covered (by decide), fieldNat_and_of_covered (by decide),
    fieldNat_and_of_covered (by decide), fieldNat_putBits_self v (by decide), fieldNat_putBits_of_disjoint v (by decide)
        (by decide),
    fieldNat_putBits_of_disjoint v (by decide) (by decide), hch, hbank]
  subst hu
  rfl

/-- An operation that changes its channel's repair map: the map goes to MRAM, and the operation waits for it. -/
theorem exec_mapChange {c : Instr} {off : Nat} {o : RepairOp} {f : RepairMap → RepairMap}
    (hc : exec c s = act c.wellFormed s
      (((s.repairing o).recordMap o f (fun x => { x with stage := .recording })).ackWrite a off v none false))
    (hwf : c.wellFormed = true) (hrun : s.running = true) (hrdy : s.pins.nvmRdy = true) (hch : o.ch < 32) :
    ∃ t, exec c s = .next t ∧ t.rpr.op = some { o with stage := .recording } ∧
      t.rmap o.ch = { f (s.rmap o.ch) with seq := ((s.rmap o.ch).seq + 1) % 2 ^ 32 } ∧
      t.nvm.jobs.map (fun j => j.why) = s.nvm.jobs.map (fun j => j.why) ++ [.repairMap o.ch] ∧ t.nvm.mem = s.nvm.mem ∧
      s.changesOnly t [.rpr, .nvm, .regs, .pair] := by
  have hu : (s.repairing o).recordMap o f (fun x => { x with stage := .recording }) =
      ((s.repairing o).changeMap o.ch f).setOp (fun x => { x with stage := .recording }) := by
    rw [State.recordMap, show (s.repairing o).pins.nvmRdy = true from hrdy]
  rw [hu] at hc
  generalize hw : ((s.repairing o).changeMap o.ch f).setOp (fun x => { x with stage := .recording }) = u at hc
  have hchange : (s.repairing o).changeMap o.ch f = ({ s.repairing o with rpr := { (s.repairing o).rpr with
      maps := s.rpr.maps.set o.ch { f (s.rmap o.ch) with seq := ((s.rmap o.ch).seq + 1) % 2 ^ 32 } } } : State).nvmJob
        (.repairMap o.ch) true (wordsOf (repairAddr 0 o.ch)
          (({ f (s.rmap o.ch) with seq := ((s.rmap o.ch).seq + 1) % 2 ^ 32 } : RepairMap).bytes o.ch) ++
        wordsOf (repairAddr 1 o.ch) (({ f (s.rmap o.ch) with seq := ((s.rmap o.ch).seq + 1) % 2 ^ 32 } : RepairMap).bytes o.ch)) :=
    if_pos ⟨hch, hrdy⟩
  have hmaps : u.rpr.maps = s.rpr.maps.set o.ch { f (s.rmap o.ch) with seq := ((s.rmap o.ch).seq + 1) % 2 ^ 32 } := by
    rw [← hw, hchange]
    rfl
  have hop : u.rpr.op = some { o with stage := .recording } := by
    rw [← hw, hchange]
    rfl
  have hjobs : u.nvm.jobs.map (fun j => j.why) = s.nvm.jobs.map (fun j => j.why) ++ [.repairMap o.ch] := by
    rw [← hw, hchange]
    simp only [State.setOp, State.nvmJob, hrdy, State.repairing, List.map_append, List.map_cons, List.map_nil]
  have hmem : u.nvm.mem = s.nvm.mem := by
    rw [← hw, hchange]
    simp only [State.setOp, State.nvmJob, hrdy, State.repairing]
  have honly : u.only (Piece.all.filter fun p => p.part != .rpr && p.part != .nvm) =
      s.only (Piece.all.filter fun p => p.part != .rpr && p.part != .nvm) := by
    rw [← hw]
    exact (State.setOp_only (by decide) ..).trans ((State.changeMap_only (by decide) ..).trans (State.only_rpr (by decide) s _))
  generalize ht : u.ackWrite a off v none false = t at hc
  have hack : t.only (Piece.all.filter fun p => p.part != .rpr && p.part != .regs) =
      u.only (Piece.all.filter fun p => p.part != .rpr && p.part != .regs) := by
    rw [← ht]
    exact u.ackNone_only a off v false (by decide)
  have htmap (k : Nat) : t.rmap k = if o.ch = k then { f (s.rmap o.ch) with seq :=
      ((s.rmap o.ch).seq + 1) % 2 ^ 32 } else s.rmap k := by
    rw [← ht, State.ackNone_rmap, State.rmap, hmaps, Tbl.get_set]
    rfl
  have htnvm : t.nvm = u.nvm := State.nvm_of_only (State.only_mono (by decide) hack)
  have hkept : t.only mapKept = s.only mapKept :=
    (by rw [← ht]; exact u.ackNone_only a off v false (by decide) : t.only mapKept = u.only mapKept).trans
      (State.only_mono (by decide) honly)
  have hepoch : t.regs.doneEpoch = s.regs.doneEpoch := by
    rw [← ht, State.ackNone_doneEpoch]
    exact congrArg (fun x => x.regs.doneEpoch) honly
  have hmirror : s.mirrorFrom t = t := by
    refine State.mirrorFrom_of_writing hkept hepoch fun k => ?_
    by_cases hk : o.ch = k
    · refine .inr ?_
      have hmem : NvmWhy.repairMap o.ch ∈ u.nvm.jobs.map (fun j => j.why) := by
        rw [hjobs]
        exact List.mem_append_right _ (List.mem_singleton_self _)
      obtain ⟨j, hj, hwhy⟩ := List.mem_map.1 hmem
      rw [htnvm, ← hk]
      exact List.any_eq_true.2 ⟨j, hj, by rw [hwhy, beq_self_eq_true]⟩
    · rw [htmap, if_neg hk]
      exact .inl rfl
  have hinputs : s.InputsAlike t := State.inputsAlike_of_only (State.only_mono (by decide) hkept)
  refine ⟨t, by rw [exec_of_act hc hwf hrun, hmirror, hinputs.withInputs_eq], ?_, by rw [htmap, if_pos rfl], htnvm ▸ hjobs,
    htnvm ▸ hmem, ?_⟩
  · obtain ⟨busy, w, hrpr⟩ := State.ackNone_rpr (u := u) (a := a) (off := off) (v := v)
    rw [← ht, hrpr]
    exact hop
  · exact State.changesOnly_of_only (K := Piece.all.filter fun p => p.part != .rpr && p.part != .nvm && p.part != .regs)
      ((State.only_mono (by decide) hack).trans (State.only_mono (by decide) honly)) (by decide)

theorem soft_row_begins (hcourse : a.course < 12) (hop : s.rpr.op = none) (hch : fieldNat v 27 23 = ch)
    (hbank : fieldNat v 22 17 = bank)
    (hrow : s.rf RF.RPR_ARG_ROW = row) (hopen : s.writeOpen a 0x9008 (putBits v 31 28 1)) (hspare : (s.rmap ch).rowsIn bank < 4)
    (hroom : (s.rmap ch).soft.length < 128) :
    ∃ t o, exec (.softRow a v) s = .next t ∧ t.rpr.op = some o ∧ o.op = 1 ∧ o.ch = ch ∧ o.bank = bank ∧ o.row = row ∧
      o.second = false ∧ t.rpr.result = 3 ∧ t.rpr.maps = s.rpr.maps ∧ t.array = s.array ∧ t.nvm = s.nvm ∧ t.link = s.link := by
  have hu : s.softRow ch bank = (s.repairing (s.repairOf 1 ch bank)).agentAsks ch .aux := by
    rw [State.softRow, State.repairStart_of_none hop]
    exact if_neg (not_or.2 ⟨Nat.not_le.2 hspare, Nat.not_le.2 hroom⟩)
  obtain ⟨t, hexec, hseen, busy, w, hrpr⟩ := exec_write_seen (exec_rprCmd (c := .softRow a v) rfl hopen hch hbank hu)
    (by simp [Instr.wellFormed, Instr.units, Instr.partsOk, hcourse]) hopen.1 [.array, .mem, .nvm, .lanes, .courses, .link]
  have hasks {K : List Piece} (hK : .conf ∉ K ∧ .regs ∉ K ∧ .pins ∉ K ∧ .chans ∉ K ∧ .capo ∉ K ∧ .doms ∉ K ∧ .cgs ∉ K ∧ .pwr ∉ K) :
      ((s.repairing (s.repairOf 1 ch bank)).agentAsks ch .aux).only K = (s.repairing (s.repairOf 1 ch bank)).only K :=
    State.agentAsks_only hK ..
  have hmid : ((s.repairing (s.repairOf 1 ch bank)).agentAsks ch .aux).rpr = (s.repairing (s.repairOf 1 ch bank)).rpr :=
    congrArg (fun x => x.rpr) (hasks (K := [.rpr]) (by decide))
  have hall := hseen.trans ((hasks (by decide)).trans (State.only_rpr (by decide) s _))
  rw [hmid] at hrpr
  refine ⟨t, s.repairOf 1 ch bank, hexec, by rw [hrpr]; rfl, rfl, rfl, rfl, hrow, rfl, by rw [hrpr]; rfl, by rw [hrpr]; rfl, ?_,
      ?_, ?_⟩
  · exact State.array_of_only (State.only_mono (by decide) hall)
  · exact State.nvm_of_only (State.only_mono (by decide) hall)
  · exact State.link_of_only (State.only_mono (by decide) hall)

section
variable (hcourse : a.course < 12) (hop : s.rpr.op = none) (hrdy : s.pins.nvmRdy = true) (hch : fieldNat v 27 23 = ch)
  (hbank : fieldNat v 22 17 = bank)
include hcourse hop hrdy hch hbank

theorem hard_row_begins (hrow : s.rf RF.RPR_ARG_ROW = row) (hopen : s.writeOpen a 0x9008 (putBits v 31 28 2))
    (hfenced : s.cmdFenced ch = true) (hspare : (s.rmap ch).rowsIn bank < 4) (hroom : (s.rmap ch).hard.length < 128) :
    ∃ t o, exec (.hardRow a v) s = .next t ∧ t.rpr.op = some o ∧ o.op = 2 ∧ o.stage = .recording ∧
      (t.rmap ch).hard = (s.rmap ch).hard ++ [(bank, row, true)] ∧ (t.rmap ch).soft = (s.rmap ch).soft ∧
      t.nvm.jobs.map (fun j => j.why) = s.nvm.jobs.map (fun j => j.why) ++ [.repairMap ch] ∧ t.nvm.mem = s.nvm.mem ∧
      s.changesOnly t [.rpr, .nvm, .regs, .pair] := by
  have hu : s.hardRow ch bank = (s.repairing (s.repairOf 2 ch bank)).recordMap (s.repairOf 2 ch bank)
      (fun m => { m with hard := m.hard ++ [(bank, row, true)] }) (fun x => { x with stage := .recording }) := by
    rw [State.hardRow, State.repairStart_of_none hop, ← hrow]
    refine (if_neg ?_).trans (if_neg (not_or.2 ⟨Nat.not_le.2 hspare, Nat.not_le.2 hroom⟩))
    rw [show (s.repairing (s.repairOf 2 ch bank)).cmdFenced ch = true from hfenced]
    decide
  obtain ⟨t, hexec, hopt, hmap, hjobs, hmem, hframe⟩ := exec_mapChange (exec_rprCmd (c := .hardRow a v) rfl hopen hch hbank hu)
    (by simp [Instr.wellFormed, Instr.units, Instr.partsOk, hcourse]) hopen.1 hrdy (hch ▸ Nat.mod_lt _ (by decide))
  have hmap' : t.rmap ch = _ := hmap
  exact ⟨t, _, hexec, hopt, rfl, rfl, by rw [hmap']; rfl, by rw [hmap']; rfl, hjobs, hmem, hframe⟩

theorem column_added (hcol : s.rf RF.RPR_ARG_COLUMN = col) (hdq : s.rf RF.RPR_DQ = dq)
    (hopen : s.writeOpen a 0x9008 (putBits v 31 28 3)) (hle : dq ≤ 35) (hroom : (s.rmap ch).column.length < 64)
    (hfree : ∀ e ∈ (s.rmap ch).column, e.2 ≠ (bank, col)) :
    ∃ t o, exec (.colAdd a v) s = .next t ∧ t.rpr.op = some o ∧ o.op = 3 ∧ o.stage = .recording ∧
      (t.rmap ch).column = (s.rmap ch).column ++ [(dq, bank, col)] ∧
      t.nvm.jobs.map (fun j => j.why) = s.nvm.jobs.map (fun j => j.why) ++ [.repairMap ch] ∧ t.nvm.mem = s.nvm.mem ∧
      s.changesOnly t [.rpr, .nvm, .regs, .pair] := by
  have hany : (s.rmap ch).column.any (fun e => e.2.1 == bank && e.2.2 == col) = false := by
    refine List.any_eq_false.2 fun e he hboth => hfree e he ?_
    obtain ⟨hb, hc⟩ := Bool.and_eq_true_iff.1 hboth
    exact Prod.ext (eq_of_beq hb) (eq_of_beq hc)
  have hu : s.colAdd ch bank = (s.repairing (s.repairOf 3 ch bank)).recordMap (s.repairOf 3 ch bank)
      (fun m => { m with column := m.column ++ [(dq, bank, col)] }) (fun x => { x with stage := .recording }) := by
    rw [State.colAdd, State.repairStart_of_none hop]
    subst hcol hdq
    refine (if_neg (not_or.2 ⟨Nat.not_lt.2 hle, ?_⟩)).trans (if_neg (Nat.not_le.2 hroom))
    exact Bool.not_eq_true _ ▸ hany
  obtain ⟨t, hexec, hopt, hmap, hjobs, hmem, hframe⟩ := exec_mapChange (exec_rprCmd (c := .colAdd a v) rfl hopen hch hbank hu)
    (by simp [Instr.wellFormed, Instr.units, Instr.partsOk, hcourse]) hopen.1 hrdy (hch ▸ Nat.mod_lt _ (by decide))
  have hmap' : t.rmap ch = _ := hmap
  exact ⟨t, _, hexec, hopt, rfl, rfl, by rw [hmap']; rfl, hjobs, hmem, hframe⟩

theorem column_removed (hcol : s.rf RF.RPR_ARG_COLUMN = col) (hopen : s.writeOpen a 0x9008 (putBits v 31 28 4))
    (hstands : (dq, bank, col) ∈ (s.rmap ch).column) :
    ∃ t o, exec (.colRemove a v) s = .next t ∧ t.rpr.op = some o ∧ o.op = 4 ∧ o.stage = .recording ∧
      (t.rmap ch).column = (s.rmap ch).column.filter (fun e => !(e.2.1 == bank && e.2.2 == col)) ∧
      t.nvm.jobs.map (fun j => j.why) = s.nvm.jobs.map (fun j => j.why) ++ [.repairMap ch] ∧ t.nvm.mem = s.nvm.mem ∧
      s.changesOnly t [.rpr, .nvm, .regs, .pair] := by
  have hu : s.colRemove ch bank = (s.repairing (s.repairOf 4 ch bank)).recordMap (s.repairOf 4 ch bank)
      (fun m => { m with column := m.column.filter (fun e => !(e.2.1 == bank && e.2.2 == col)) })
      (fun x => { x with stage := .recording }) := by
    rw [State.colRemove, State.repairStart_of_none hop]
    subst hcol
    exact if_pos (List.any_eq_true.2 ⟨_, hstands, by simp [State.repairOf]⟩)
  obtain ⟨t, hexec, hopt, hmap, hjobs, hmem, hframe⟩ := exec_mapChange (exec_rprCmd (c := .colRemove a v) rfl hopen hch hbank hu)
    (by simp [Instr.wellFormed, Instr.units, Instr.partsOk, hcourse]) hopen.1 hrdy (hch ▸ Nat.mod_lt _ (by decide))
  have hmap' : t.rmap ch = _ := hmap
  exact ⟨t, _, hexec, hopt, rfl, rfl, by rw [hmap']; rfl, hjobs, hmem, hframe⟩

end

end

/-- Settles O50, each command of RPR_CMD in a lemma of its own: a soft repair is left to the agent AUX, and the three others change
their channel's map, which does not go to the partner before MRAM holds it. -/
theorem repairsBegin : Obligations.RepairsBegin :=
  fun _ _ _ _ _ _ _ _ hcourse hop hrdy hch hbank hrow hcol hdq => ⟨soft_row_begins hcourse hop hch hbank hrow,
    hard_row_begins hcourse hop hrdy hch hbank hrow, column_added hcourse hop hrdy hch hbank hcol hdq,
    column_removed hcourse hop hrdy hch hbank hcol⟩

end Sys2Proof.Machine
end

section
set_option Elab.async false
/-! PROOFS. What a step sends to the partner sets no sticky bit back (R90, R381),
    and a register write that leaves the mirrored items
but for repairs under way. -/

namespace Sys2Proof.Machine

section
variable {s t : State} (h : s.keepsSticky t)
include h

theorem State.keepsSticky.mirSend (type : Nat) (body : List Word) (keyOp : Option Nat) : s.keepsSticky
    (t.mirSend type body keyOp) := by
  unfold State.mirSend
  split
  · unfold State.mirPlace State.mirWords
    exact (h.of_regs (by rfl)).trans (State.countBy_keepsSticky _ _ _)
  · exact State.keepsSticky.of_regs h rfl

theorem State.keepsSticky.random (n : Nat) : s.keepsSticky (t.random n).2 := by
  unfold State.random
  extract_lets x u
  have hdrawn : s.keepsSticky u := State.keepsSticky.of_regs h rfl
  refine hdrawn.when fun v => ?_
  unfold State.reseed
  exact ((State.keepsSticky.refl v).of_regs (by rfl)).count 0x5130

theorem State.keepsSticky.sendKey (k : Nat) (keyOp : Option Nat) : s.keepsSticky (t.sendKey k keyOp) := by
  have hbody : s.keepsSticky (t.keyBody false k).2 := by
    unfold State.keyBody
    split
    · exact h
    · dsimp only
      split
      · exact h
      · exact h.random 12
  unfold State.sendKey
  exact hbody.mirSend _ _ _

theorem State.keepsSticky.mirrorFrom (u : State) : s.keepsSticky (u.mirrorFrom t) := by
  unfold State.mirrorFrom
  split
  · extract_lets v w
    have hchannels : s.keepsSticky v := by
      refine h.forAll (fun ch v => ?_) _
      dsimp only
      refine State.keepsSticky.when ?_ fun x => (State.keepsSticky.refl x).mirSend ..
      refine State.keepsSticky.forAll ?_ (fun _ x => (State.keepsSticky.refl x).mirSend ..) _
      refine State.keepsSticky.forAll ?_ (fun _ x => (State.keepsSticky.refl x).mirSend ..) _
      exact State.keepsSticky.when (State.keepsSticky.when (.refl v) fun x => (State.keepsSticky.refl x).mirSend ..) fun x =>
        (State.keepsSticky.refl x).mirSend ..
    have hkeys : s.keepsSticky w := hchannels.when fun x => (State.keepsSticky.refl x).forAll (fun k y =>
      (State.keepsSticky.refl y).sendKey k _) _
    split
    · split
      · exact hkeys.forAll (fun _ x => (State.keepsSticky.refl x).mirSend ..) _
      · exact hkeys
    · exact hkeys
  · exact h

end

/-- A command of `act` leaves its effect, but for the pieces that its way to the partner and the inputs touch; a sticky bit that its
effect sets stands. -/
theorem exec_seen_sticky {c : Instr} {s u : State} (h : exec c s = act c.wellFormed s u) (hwf : c.wellFormed = true)
    (hrun : s.running = true) (K : List Piece)
    (hK : (.regs ∉ K ∧ .sec ∉ K ∧ .pair ∉ K ∧ .free ∉ K) ∧ .inputs ∉ K ∧ .pending ∉ K := by decide) :
    ∃ t, exec c s = .next t ∧ t.only K = u.only K ∧ u.keepsSticky t :=
  ⟨_, exec_of_act h hwf hrun, (State.withInputs_only hK.2 s _).trans (State.mirrorFrom_only hK.1 s u),
    State.keepsSticky.of_regs ((State.keepsSticky.refl u).mirrorFrom s) rfl⟩

/-- Where the repair maps stand, nothing of the other mirrored items having changed, nothing goes to the partner. -/
theorem exec_write_of_maps {c : Instr} {s u : State} {a : Access} {off : Nat} {v : Word}
    (h : exec c s = act c.wellFormed s (u.ackWrite a off v none false)) (hwf : c.wellFormed = true) (hrun : s.running = true)
    (hu : u.only mapKept = s.only mapKept) (hmaps : u.rpr.maps = s.rpr.maps) (hepoch : u.regs.doneEpoch = s.regs.doneEpoch) :
    exec c s = .next (u.ackWrite a off v none false) := by
  have hkept : (u.ackWrite a off v none false).only mapKept = s.only mapKept :=
    (u.ackNone_only a off v false (by decide)).trans hu
  rw [exec_of_act h hwf hrun, State.mirrorFrom_of_writing hkept ((u.ackNone_doneEpoch a off v false).trans hepoch) fun ch => ?_,
    (State.inputsAlike_of_only (State.only_mono (by decide) hkept)).withInputs_eq]
  rw [State.ackNone_rmap, State.rmap, hmaps]
  exact .inl rfl

end Sys2Proof.Machine
end

section
set_option Elab.async false
/-! PROOFS. The built-in test (R430, R431) and the loopbacks (R434 to R436). -/

namespace Sys2Proof.Machine

section
variable {s : State} {a : Access} {v : Word} {b : Bist} {res : BistResult}

/-! ### The built-in test -/

/-- RPR_BCTL as its write carries it. -/
theorem exec_rprBctl {c : Instr} {w : Word} (hc : exec c s = act c.wellFormed s (s.writeReg a 0x9020 w none true))
    (hopen : s.writeOpen a 0x9020 w) :
    exec c s = act c.wellFormed s ((s.rprBctl (w &&& fieldMask (fieldsOfWord .rpr 0x20))).ackWrite a 0x9020 w none false) := by
  rw [hc, State.writeReg_of_command hopen (pg := .rpr) (n := 0) (x := 0x20) (by decide) (by decide) (by decide) (by decide)
      (by decide),
    State.writeActs]

/-- The state in which a test has begun. -/
def State.withTest (s : State) (b : Bist) : State :=
  { s with rpr := { s.rpr with bist := some b, bstate := 1, bres := ⟨0, 0, 0, 0, 0⟩, bparam := s.rf RF.RPR_HAMMER_K } }

theorem State.bistStart_of_fenced {test scope ch bank back : Nat} (hnone : s.rpr.bist = none) (hfenced : s.cmdFenced ch = true)
    (htest : test ≤ 1) (hscope : scope ≤ 2) (hback : back ≤ 4) :
    s.bistStart test scope ch bank back =
      ((s.withTest ⟨ch, test, scope, bank, back, false, 0, ⟨0, 0, 0, 0, 0⟩⟩).count 0x9108).agentAsks ch .aux := by
  have hbad : ¬ (1 < test ∨ 2 < scope ∨ 4 < back) := by omega
  rw [State.bistStart, hnone]
  simp only [hfenced, Bool.not_true, Bool.false_eq_true, if_false, if_neg hbad]
  rfl

theorem test_begins (hcourse : a.course < 12) (hopen : s.writeOpen a 0x9020 (putBits v 31 28 1)) (hnone : s.rpr.bist = none)
    (hfenced : s.cmdFenced (fieldNat v 21 17) = true) (htest : fieldNat v 27 24 ≤ 1) (hscope : fieldNat v 23 22 ≤ 2)
    (hback : fieldNat v 10 8 ≤ 4) :
    ∃ t, exec (.bistStart a v) s = .next t ∧
      t.rpr.bist = some ⟨fieldNat v 21 17, fieldNat v 27 24, fieldNat v 23 22, fieldNat v 16 11, fieldNat v 10 8, false, 0,
        ⟨0, 0, 0, 0, 0⟩⟩ ∧
      t.rpr.bstate = 1 ∧ t.array = s.array ∧ t.nvm = s.nvm ∧ t.link = s.link := by
  generalize hb : (⟨fieldNat v 21 17, fieldNat v 27 24, fieldNat v 23 22, fieldNat v 16 11, fieldNat v 10 8, false, 0,
    ⟨0, 0, 0, 0, 0⟩⟩ : Bist) = b
  have hu : s.rprBctl (putBits v 31 28 1 &&& fieldMask (fieldsOfWord .rpr 0x20)) =
      ((s.withTest b).count 0x9108).agentAsks (fieldNat v 21 17) .aux := by
    rw [State.rprBctl, fieldNat_and_of_covered (by decide), fieldNat_putBits_self v (by decide)]
    simp only [Nat.reduceMod, Nat.reducePow, Nat.reduceAdd, Nat.reduceSub]
    rw [fieldNat_and_of_covered (by decide), fieldNat_and_of_covered (by decide), fieldNat_and_of_covered (by decide),
      fieldNat_and_of_covered (by decide), fieldNat_and_of_covered (by decide), fieldNat_putBits_of_disjoint v (by decide)
          (by decide),
      fieldNat_putBits_of_disjoint v (by decide) (by decide), fieldNat_putBits_of_disjoint v (by decide) (by decide),
      fieldNat_putBits_of_disjoint v (by decide) (by decide), fieldNat_putBits_of_disjoint v (by decide) (by decide),
      State.bistStart_of_fenced hnone hfenced htest hscope hback, hb]
  obtain ⟨t, hexec, hseen, busy, w, hrpr⟩ := exec_write_seen (hu ▸ exec_rprBctl (c := .bistStart a v) rfl hopen)
    (by simp [Instr.wellFormed, Instr.units, Instr.partsOk, hcourse]) hopen.1 [.array, .mem, .nvm, .lanes, .courses, .link]
  have hasks {K : List Piece} (hK : .conf ∉ K ∧ .regs ∉ K ∧ .pins ∉ K ∧ .chans ∉ K ∧ .capo ∉ K ∧ .doms ∉ K ∧ .cgs ∉ K ∧ .pwr ∉ K) :
      (((s.withTest b).count 0x9108).agentAsks (fieldNat v 21 17) .aux).only K = (s.withTest b).only K :=
    (State.agentAsks_only hK ..).trans (State.count_only hK.2.1 ..)
  have hmid : (((s.withTest b).count 0x9108).agentAsks (fieldNat v 21 17) .aux).rpr = (s.withTest b).rpr :=
    congrArg (fun x => x.rpr) (hasks (K := [.rpr]) (by decide))
  have hall := hseen.trans ((hasks (by decide)).trans (State.only_rpr (by decide) s _))
  rw [hmid] at hrpr
  refine ⟨t, hexec, by rw [hrpr]; rfl, by rw [hrpr]; rfl, ?_, ?_, ?_⟩
  · exact State.array_of_only (State.only_mono (by decide) hall)
  · exact State.nvm_of_only (State.only_mono (by decide) hall)
  · exact State.link_of_only (State.only_mono (by decide) hall)

theorem test_aborts (hcourse : a.course < 12) (hopen : s.writeOpen a 0x9020 (BitVec.ofNat 32 (2 * 2 ^ 28)))
    (hbist : s.rpr.bist = some b) :
    ∃ t, exec (.bistAbort a) s = .next t ∧ t.rpr.bist = some { b with abort := true } ∧ s.changesOnly t [.rpr, .regs] := by
  have hu : s.rprBctl (BitVec.ofNat 32 (2 * 2 ^ 28) &&& fieldMask (fieldsOfWord .rpr 0x20)) = s.bistAbort := by
    rw [State.rprBctl, show fieldNat (BitVec.ofNat 32 (2 * 2 ^ 28) &&& fieldMask (fieldsOfWord .rpr 0x20)) 31 28 = 2 by decide]
    rfl
  have honly {K : List Piece} (hK : .rpr ∉ K) : s.bistAbort.only K = s.only K := State.only_rpr hK s _
  refine ⟨_, exec_write_of_maps (hu ▸ exec_rprBctl (c := .bistAbort a) rfl hopen)
    (by simp [Instr.wellFormed, Instr.units, Instr.partsOk, hcourse]) hopen.1 (honly (by decide)) rfl rfl, ?_, ?_⟩
  · obtain ⟨busy, w, hrpr⟩ := State.ackNone_rpr (u := s.bistAbort) (a := a) (off := 0x9020) (v := BitVec.ofNat 32 (2 * 2 ^ 28))
    rw [hrpr]
    simp only [State.bistAbort, hbist, Option.map_some]
  · exact State.changesOnly_of_only (K := Piece.all.filter fun p => p != .rpr && p != .regs)
      ((State.ackNone_only _ a _ _ false (by decide)).trans (honly (by decide))) (by decide)

/-- The state in which a test has left its results, and raw data over its scope. -/
def State.tested (s : State) (b : Bist) (r : BistResult) : State :=
  ({ s with
    rpr := { s.rpr with
      bist := none, bstate := if b.abort then 0 else if min r.failBursts (2 ^ 24 - 1) = 0 then 2 else 3,
      bres := { r with failBursts := min r.failBursts (2 ^ 24 - 1) } }
    array := ⟨s.array.dflt, s.array.ents.filter (fun e =>
      !(e.1 / 524288 / 64 == b.ch && b.banks.contains (e.1 / 524288 % 64)))⟩ } : State).setChan b.ch (fun c => { c with
        banks := b.banks.foldl (fun tb i => tb.upd i (fun x => { x with acts := 0 })) c.banks })

/-- What a test wrote is raw data: no line of its scope is known any more. -/
theorem State.tested_array (s : State) (b : Bist) (r : BistResult) (k : Nat) :
    (s.tested b r).array.get k =
      if (k / 524288 / 64 == b.ch && b.banks.contains (k / 524288 % 64)) = true then s.array.dflt else s.array.get k := by
  refine (Tbl.get_filter s.array.dflt s.array.ents (fun k => !(k / 524288 / 64 == b.ch && b.banks.contains
      (k / 524288 % 64))) k).trans ?_
  cases k / 524288 / 64 == b.ch && b.banks.contains (k / 524288 % 64) <;> rfl

theorem State.bistEnd_of_test (hbist : s.rpr.bist = some b) :
    s.bistEnd res = (((s.tested b (joinResults b.res res)).reinitChannel b.ch).stick RF.RPR_BIST_END).event 0x09 0x0b05 0
      [(0, 1, b.ch), (1, 1, b.test), (2, 1, if b.abort then 2 else if min (joinResults b.res res).failBursts
          (2 ^ 24 - 1) = 0 then 0 else 1),
        (4, 4, min (joinResults b.res res).failBursts (2 ^ 24 - 1))] := by
  rw [State.bistEnd, hbist]
  rfl

/-- The pieces in which a test leaves its results, and those that it leaves alone. -/
def testPieces : List Piece := [.rpr, .array, .mem, .nvm, .lanes, .courses, .link]

theorem State.bistEnd_pieces (hbist : s.rpr.bist = some b) :
    (s.bistEnd res).only testPieces = (s.tested b (joinResults b.res res)).only testPieces := by
  rw [State.bistEnd_of_test hbist]
  exact (State.event_only (by decide) ..).trans ((State.stick_only (by decide) ..).trans (State.reinitChannel_only (by decide) ..))

theorem State.bistEnd_raised (hbist : s.rpr.bist = some b) : (s.bistEnd res).raised RF.RPR_BIST_END := by
  rw [State.bistEnd_of_test hbist]
  exact (State.stick_raised _ (by decide)).mono ((State.keepsSticky.refl _).event ..)

theorem test_ends (hrun : s.running = true) (hbist : s.rpr.bist = some b) (habort : b.abort = false) (hwf : res.wellFormed = true) :
    ∃ t, exec (.bistEnd res) s = .next t ∧ t.rpr.bist = none ∧
      t.rpr.bres = { joinResults b.res res with failBursts := min (joinResults b.res res).failBursts (2 ^ 24 - 1) } ∧
      t.rpr.bstate = (if (joinResults b.res res).failBursts = 0 then 2 else 3) ∧ t.sticky RF.RPR_BIST_END 0 = 1 ∧
      (∀ k, k / 524288 / 64 = b.ch → b.banks.contains (k / 524288 % 64) = true → t.array.get k = s.array.dflt) ∧
      (∀ k, k / 524288 / 64 ≠ b.ch → t.array.get k = s.array.get k) ∧ t.nvm = s.nvm ∧ t.link = s.link := by
  obtain ⟨t, hexec, hseen, hsticky⟩ := exec_seen_sticky (c := .bistEnd res) rfl
    (by simp [Instr.wellFormed, Instr.units, Instr.partsOk, hwf]) hrun testPieces
  have hall := hseen.trans (State.bistEnd_pieces hbist)
  have hrpr : t.rpr = (s.tested b (joinResults b.res res)).rpr := congrArg (fun x => x.rpr) hall
  have harray : t.array = (s.tested b (joinResults b.res res)).array := State.array_of_only (State.only_mono (by decide) hall)
  have hzero : (min (joinResults b.res res).failBursts (2 ^ 24 - 1) = 0) = ((joinResults b.res res).failBursts = 0) :=
    propext ⟨fun h => by omega, fun h => by omega⟩
  refine ⟨t, hexec, by rw [hrpr]; rfl, by rw [hrpr]; rfl, ?_, ?_, fun k hch hbank => ?_, fun k hch => ?_, ?_, ?_⟩
  · rw [hrpr]
    simp only [State.tested, State.setChan, habort, hzero, Bool.false_eq_true, if_false]
  · exact State.sticky_of_raised rfl ((State.bistEnd_raised hbist).mono hsticky)
  · rw [harray, State.tested_array, if_pos (by rw [hch, hbank, beq_self_eq_true]; rfl)]
  · rw [harray, State.tested_array, if_neg (by simp [hch])]
  · exact (State.nvm_of_only (State.only_mono (by decide) hall)).trans rfl
  · exact (State.link_of_only (State.only_mono (by decide) hall)).trans rfl

/-! ### Loopbacks -/

/-- RPR_LCTL as its write carries it: its fields are stored, and its mode acts. -/
theorem exec_rprLctl {c : Instr} {w : Word} (hc : exec c s = act c.wellFormed s (s.writeReg a 0x9040 w none true))
    (hopen : s.writeOpen a 0x9040 w) :
    exec c s = act c.wellFormed s (((s.storeFields (pathNum a.path) 2 (fieldsOfWord .rpr 0x40) 0 w).rprLctl
      (w &&& fieldMask (fieldsOfWord .rpr 0x40))).ackWrite a 0x9040 w none false) := by
  rw [hc, State.writeReg_of_open hopen (pg := .rpr) (n := 0) (x := 0x40) (by decide) (by decide) (by decide) (by decide),
    State.writeActs]

/-- A loopback that has just started. -/
def Loop.started (mode c lanes : Nat) (w : List (BitVec 66)) : Loop :=
  ⟨mode, c, lanes, .const 0, .const false, .const [], .const 0#31, 0,
    (List.range 17).foldl (fun tb p => tb.set p (BitVec.ofNat 31 (p + 1))) (.const 0#31), .const (if mode = 3 then w else []),
        .const none⟩

/-- A lane that a loopback takes. -/
def Lane.looped (mode : Nat) (y : Lane) : Lane :=
  { y with lb := if mode = 1 then 1 else y.lb, txv := decide (mode ≠ 2), pd := if mode = 2 then y.pd else false }

theorem State.loopStart_of_loopable {mode c lanes : Nat} (hloop : s.loopable c = true) (hnone : s.rpr.loop = none) :
    s.loopStart mode c lanes = forAll ((List.range 17).filter (fun l => lanes.testBit l)) (fun l t => t.setLane c l
        (Lane.looped mode))
      { s.useFree with rpr := { s.rpr with
        loop := some (Loop.started mode c lanes (List.replicate 4 (s.freeVal.setWidth 66))) } } := by
  rw [State.loopStart, hloop, hnone]
  rfl

theorem forAll_setLane_lane {c l : Nat} {f : Lane → Lane} {P : Lane → Prop} (hf : ∀ y, P (f y)) {L : List Nat} (hl : l ∈ L)
    (s : State) :
    P ((forAll L (fun l t => t.setLane c l f) s).lane c l) := by
  have hkeep (L : List Nat) (t : State) (ht : P (t.lane c l)) : P ((forAll L (fun l t => t.setLane c l f) t).lane c l) := by
    induction L generalizing t with
    | nil => exact ht
    | cons k L ih =>
      refine ih _ ?_
      by_cases hk : l = k
      · rw [hk, State.setLane_lane_self]
        exact hf _
      · rwa [State.setLane_lane_of_ne _ _ _ hk]
  induction L generalizing s with
  | nil => exact absurd hl List.not_mem_nil
  | cons k L ih =>
    obtain rfl | hmem := List.mem_cons.1 hl
    · refine hkeep L _ ?_
      rw [State.setLane_lane_self]
      exact hf _
    · exact ih hmem _

/-- What a loopback of a mode leaves: itself, and its lanes. -/
theorem loopback_starts {c : Instr} {mode : Nat} (hc : exec c s = act c.wellFormed s (s.writeReg a 0x9040
    (putBits v 31 30 mode) none true))
    (hwf : c.wellFormed = true) (hmode : mode = 1 ∨ mode = 2 ∨ mode = 3) (hlt : fieldNat v 27 24 < 12)
    (hloop : s.loopable (fieldNat v 27 24) = true) (hnone : s.rpr.loop = none) (hopen : s.writeOpen a 0x9040
        (putBits v 31 30 mode)) :
    ∃ t y, exec c s = .next t ∧ t.rpr.loop = some y ∧ y.mode = mode ∧ y.course = fieldNat v 27 24 ∧ y.lanes = fieldNat v 16 0 ∧
      (∀ l, l < 17 → (fieldNat v 16 0).testBit l = true → (t.lane (fieldNat v 27 24) l).txv = decide (mode ≠ 2)) ∧
      t.link.courses = s.link.courses ∧ s.changesOnly t [.rpr, .link, .regs, .free] := by
  generalize hstore : s.storeFields (pathNum a.path) 2 (fieldsOfWord .rpr 0x40) 0 (putBits v 31 30 mode) = s'
  have hkept {K : List Piece} (hK : .conf ∉ K ∧ .regs ∉ K) : s'.only K = s.only K := hstore ▸ State.storeFields_only hK ..
  have hcourses : s'.link = s.link := State.link_of_only (hkept (by decide))
  have hrpr : s'.rpr = s.rpr := congrArg (fun x => x.rpr) (hkept (K := [.rpr]) (by decide))
  have hepoch : s'.regs.doneEpoch = s.regs.doneEpoch := congrArg (fun x => x.regs.doneEpoch) (hkept (K := [.commits]) (by decide))
  generalize hc0 : fieldNat v 27 24 = c0 at *
  generalize hl0 : fieldNat v 16 0 = lanes at *
  have hu : s'.rprLctl (putBits v 31 30 mode &&& fieldMask (fieldsOfWord .rpr 0x40)) = s'.loopStart mode c0 lanes := by
    rw [State.rprLctl, fieldNat_and_of_covered (by decide), fieldNat_putBits_self v (by decide), fieldNat_and_of_covered
        (by decide),
      fieldNat_and_of_covered (by decide), fieldNat_putBits_of_disjoint v (by decide) (by decide),
      fieldNat_putBits_of_disjoint v (by decide) (by decide), hc0, hl0]
    obtain rfl | rfl | rfl := hmode <;> exact if_pos hlt
  have hlooped := State.loopStart_of_loopable (s := s') (mode := mode) (lanes := lanes)
    (show s'.loopable c0 = true by rw [← hloop, State.loopable, State.loopable, hcourses]) (hrpr ▸ hnone)
  have honly {K : List Piece} (hK : .lanes ∉ K) : (s'.loopStart mode c0 lanes).only K = State.only { s'.useFree with
      rpr := { s'.rpr with loop := some (Loop.started mode c0 lanes (List.replicate 4 (s'.freeVal.setWidth 66))) } } K := by
    rw [hlooped]
    exact State.only_forAll (fun _ _ => State.setLane_only hK ..) _ _
  have hurpr : (s'.loopStart mode c0 lanes).rpr =
      { s.rpr with loop := some (Loop.started mode c0 lanes (List.replicate 4 (s'.freeVal.setWidth 66))) } :=
    (congrArg (fun x => x.rpr) (honly (K := [.rpr]) (by decide))).trans (by rw [← hrpr]; rfl)
  have hstart {K : List Piece} (hK : .conf ∉ K ∧ .regs ∉ K ∧ .lanes ∉ K ∧ .rpr ∉ K ∧ .free ∉ K) :
      (s'.loopStart mode c0 lanes).only K = s.only K :=
    (State.loopStart_only hK.2 ..).trans (hkept ⟨hK.1, hK.2.1⟩)
  have hexec := exec_write_of_maps (hu ▸ hstore ▸ exec_rprLctl hc hopen) hwf hopen.1 (hstart (by decide)) (by rw [hurpr])
    (congrArg (fun x => x.regs.doneEpoch) (hstart (K := [.commits]) (by decide)))
  have hack {K : List Piece} (hK : .regs ∉ K ∧ .rpr ∉ K) :=
    (s'.loopStart mode c0 lanes).ackNone_only a 0x9040 (putBits v 31 30 mode) false hK
  refine ⟨_, Loop.started mode c0 lanes (List.replicate 4 (s'.freeVal.setWidth 66)), hexec, ?_, rfl, rfl, rfl,
      fun l hl hbit => ?_, ?_, ?_⟩
  · obtain ⟨busy, w, h⟩ := State.ackNone_rpr (u := s'.loopStart mode c0 lanes) (a := a) (off := 0x9040) (v := putBits v 31 30 mode)
    rw [h, hurpr]
  · have hlane := congrArg (fun x => (x.lane c0 l).txv) (hack (K := [.lanes]) (by decide))
    refine hlane.trans ?_
    rw [hlooped]
    exact forAll_setLane_lane (P := fun y => y.txv = decide (mode ≠ 2)) (fun _ => rfl)
      (List.mem_filter.2 ⟨List.mem_range.2 hl, hbit⟩) _
  · exact congrArg (fun x => x.link.courses) ((hack (K := [.courses]) (by decide)).trans (hstart (by decide)))
  · exact State.changesOnly_of_only (K :=
      Piece.all.filter fun p => p.part != .rpr && p.part != .link && p.part != .regs && p.part != .free)
      ((hack (by decide)).trans (hstart (by decide))) (by decide)

/-- The course of a loopback that has ended: one that was not yet up is fenced by command (log 144). -/
def State.leaveLoop (s : State) (c : Nat) : State :=
  let t : State := { s with rpr := { s.rpr with loop := none } }
  if (t.course c).tx = .down then t.setCourse c (fun y => { y with tx := .fenced, fenceWhy := some .command }) else t

theorem State.leaveLoop_courses (s : State) (c : Nat) :
    ((s.course c).tx ≠ .down → (s.leaveLoop c).link.courses = s.link.courses) ∧
    ((s.course c).tx = .down → (s.leaveLoop c).course c = { s.course c with tx := .fenced, fenceWhy := some .command }) := by
  refine ⟨fun h => ?_, fun h => ?_⟩
  · have hleft : s.leaveLoop c = { s with rpr := { s.rpr with loop := none } } := if_neg h
    rw [hleft]
  · have hleft : s.leaveLoop c = ({ s with rpr := { s.rpr with loop := none } } : State).setCourse c
      (fun y => { y with tx := .fenced, fenceWhy := some .command }) := if_pos h
    rw [hleft, State.setCourse_course_self]
    rfl

theorem State.loopEnd_only_of_loop {x : Loop} (hloop : s.rpr.loop = some x) {K : List Piece}
    (hK : (.regs ∉ K ∧ .pins ∉ K ∧ .evt ∉ K ∧ .pinFlt ∉ K ∧ .doms ∉ K ∧ .pwr ∉ K) ∧ .lanes ∉ K) :
    s.loopEnd.only K = (s.leaveLoop x.course).only K := by
  rw [State.loopEnd, hloop]
  refine (State.event_only hK.1 ..).trans ?_
  refine (State.only_when K ..).trans ?_
  rw [State.darkLanes_only ⟨hK.1.1, hK.2⟩, ite_self]
  exact State.only_forAll (fun _ _ => State.setLane_only hK.2 ..) _ _

theorem loopback_ends {x : Loop} (hcourse : a.course < 12) (hopen : s.writeOpen a 0x9040 0#32) (hloop : s.rpr.loop = some x) :
    ∃ t, exec (.loopOff a) s = .next t ∧ t.rpr.loop = none ∧
      ((s.course x.course).tx ≠ .down → t.link.courses = s.link.courses) ∧
      ((s.course x.course).tx = .down → t.course x.course = { s.course x.course with tx := .fenced, fenceWhy := some .command }) ∧
      t.nvm = s.nvm ∧ t.array = s.array ∧ t.trx = s.trx := by
  generalize hstore : s.storeFields (pathNum a.path) 2 (fieldsOfWord .rpr 0x40) 0 0#32 = s'
  have hkept {K : List Piece} (hK : .conf ∉ K ∧ .regs ∉ K) : s'.only K = s.only K := hstore ▸ State.storeFields_only hK ..
  have hlink : s'.link = s.link := State.link_of_only (hkept (by decide))
  have hrpr : s'.rpr = s.rpr := congrArg (fun x => x.rpr) (hkept (K := [.rpr]) (by decide))
  have hu : s'.rprLctl (0#32 &&& fieldMask (fieldsOfWord .rpr 0x40)) = s'.loopEnd := by
    rw [State.rprLctl, show fieldNat (0#32 &&& fieldMask (fieldsOfWord .rpr 0x40)) 31 30 = 0 by decide]
    rfl
  obtain ⟨t, hexec, hseen, busy, w, htrpr⟩ := exec_write_seen (hu ▸ hstore ▸ exec_rprLctl (c := .loopOff a) rfl hopen)
    (by simp [Instr.wellFormed, Instr.units, Instr.partsOk, hcourse]) hopen.1 [.courses, .mem, .nvm, .array, .reqs, .keyOps, .trx]
  have hleft {K : List Piece} (hK : (.regs ∉ K ∧ .pins ∉ K ∧ .evt ∉ K ∧ .pinFlt ∉ K ∧ .doms ∉ K ∧ .pwr ∉ K) ∧ .lanes ∉ K) :
      s'.loopEnd.only K = (s'.leaveLoop x.course).only K := State.loopEnd_only_of_loop (hrpr ▸ hloop) hK
  have hfrom {K : List Piece} (hK : .rpr ∉ K ∧ .courses ∉ K) : (s'.leaveLoop x.course).only K = s'.only K := by
    rw [State.leaveLoop]
    split
    · exact (State.setCourse_only hK.2 ..).trans (State.only_rpr hK.1 s' _)
    · exact State.only_rpr hK.1 s' _
  have hcourses : t.link.courses = (s'.leaveLoop x.course).link.courses :=
    congrArg (fun x => x.link.courses) (hseen.trans (hleft (by decide)))
  have hrest := (State.only_mono (K := [.mem, .nvm, .array, .reqs, .keyOps, .trx]) (by decide) hseen).trans
    ((hleft (by decide)).trans ((hfrom (by decide)).trans (hkept (by decide))))
  have hcourse : s'.course x.course = s.course x.course := congrArg (fun l => l.courses.get x.course) hlink
  obtain ⟨hup, hdown⟩ := s'.leaveLoop_courses x.course
  refine ⟨t, hexec, ?_, fun h => ?_, fun h => ?_, ?_, ?_, ?_⟩
  · have hend : s'.loopEnd.rpr = (s'.leaveLoop x.course).rpr := congrArg (fun x => x.rpr) (hleft (K := [.rpr]) (by decide))
    rw [htrpr, hend, State.leaveLoop]
    exact (apply_ite (fun u : State => u.rpr.loop) ..).trans (ite_self _)
  · rw [hcourses, hup (by rwa [hcourse]), hlink]
  · rw [State.course, hcourses]
    exact (hdown (by rwa [hcourse])).trans (by rw [hcourse])
  · exact State.nvm_of_only (State.only_mono (by decide) hrest)
  · exact State.array_of_only (State.only_mono (by decide) hrest)
  · exact State.trx_of_only (State.only_mono (by decide) hrest)

end

/-- Settles O52, each command in a lemma of its own: a loopback takes its lanes by `Lane.looped` and leaves the courses, and its end
fences by command the course that was not yet up. -/
theorem builtInTestAndLoopbacks : Obligations.BuiltInTestAndLoopbacks := by
  refine ⟨fun s a v b res hcourse => ⟨test_begins hcourse, test_aborts hcourse, test_ends⟩,
    fun s a v x hcourse => ⟨fun hlt hloop hnone => ⟨fun hopen => ?_, fun hopen => ?_, fun hopen => ?_⟩, loopback_ends hcourse⟩⟩
  · obtain ⟨t, y, hexec, hy, hmode, hon, hlanes, -, hcourses, hframe⟩ := loopback_starts (c := .loopNesl a v) rfl
      (by simp [Instr.wellFormed, Instr.units, Instr.partsOk, hcourse]) (.inl rfl) hlt hloop hnone hopen
    exact ⟨t, y, hexec, hy, hmode, hon, hlanes, hcourses, hframe⟩
  · obtain ⟨t, y, hexec, hy, hmode, hon, hlanes, hdark, hcourses, hframe⟩ := loopback_starts (c := .loopNepl a v) rfl
      (by simp [Instr.wellFormed, Instr.units, Instr.partsOk, hcourse]) (.inr (.inl rfl)) hlt hloop hnone hopen
    exact ⟨t, y, hexec, hy, hmode, hon, hlanes, hdark, hcourses, hframe⟩
  · obtain ⟨t, y, hexec, hy, hmode, hon, hlanes, -, hcourses, hframe⟩ := loopback_starts (c := .loopFar a v) rfl
      (by simp [Instr.wellFormed, Instr.units, Instr.partsOk, hcourse]) (.inr (.inr rfl)) hlt hloop hnone hopen
    exact ⟨t, y, hexec, hy, hmode, hon, hlanes, hcourses, hframe⟩

end Sys2Proof.Machine
end

section
set_option Elab.async false
/-! PROOFS. FLT_CTL and FLT_PIN (R402 to R404, R408, R409), and the progress points (R193). -/

namespace Sys2Proof.Machine

theorem State.flt_of_only {s t : State} (h : t.only [.pinFlt, .flt] = s.only [.pinFlt, .flt]) : t.flt = s.flt := congrArg
    (fun x => x.flt) h

theorem State.time_of_only {s t : State} (h : t.only [.time] = s.only [.time]) : t.time = s.time := congrArg (fun x => x.time) h

theorem State.marked_of_marks {s t : State} (h : t.flt.marks = s.flt.marks) (u : FUnit)
    (i : Nat) : t.marked u i = s.marked u i := by
  rw [State.marked_eq, h, ← State.marked_eq]

theorem namesUnit_filter (l : List FenceMark) (u : FUnit) (i : Nat) :
    namesUnit (l.filter fun m => !(m.unit == u && m.index == i)) u i = false := by
  refine List.any_eq_false.2 fun m hm => ?_
  simpa [imp_iff_not_or] using (List.mem_filter.1 hm).2

theorem State.fatalFault_fatal (s : State) (source code reason : Nat) : (s.fatalFault source code reason).flt.fatal = true := by
  have hof {t u : State} (h : u.only [.flt] = t.only [.flt]) : u.flt.fatal = t.flt.fatal := congrArg (fun x => x.flt.fatal) h
  have hgen (t : State) : t.bumpGen.flt.fatal = t.flt.fatal := by
    unfold State.bumpGen
    split <;> rfl
  unfold State.fatalFault
  extract_lets src t1 t2 t3 t4 t5
  have h2 : t2.flt.fatal = true := hof (State.event_only (by simp) ..)
  have h3 : t3.flt.fatal = t2.flt.fatal := hof (State.noteChannels_only (by simp) ..)
  have h4 : t4.flt.fatal = t3.bumpGen.flt.fatal := hof (State.only_forAll (fun r t => State.fail_only (by simp) ..) _ _)
  have h5 : t5.flt.fatal = t4.flt.fatal := hof (State.cutUnit_only (by simp) ..)
  have hbump := hgen t3
  clear_value t1 t2 t3 t4 t5
  split
  · exact h2
  · exact h5.trans (h4.trans (hbump.trans (h3.trans h2)))

/-- A unit that returns to service loses its marks, and no other mark moves. -/
theorem State.serviceBack_marked (s : State) (u : FUnit) (i : Nat) : (s.serviceBack u i).marked u i = false := by
  have hback (chs : List Nat) (t : State) : (forAll chs (fun ch t =>
      (t.epochUp ch).reinitChannel ch) t).flt.marks = t.flt.marks := by
    induction chs generalizing t with
    | nil => rfl
    | cons ch chs ih =>
      refine (ih _).trans ?_
      exact (State.flt_marks_of_only (State.reinitChannel_only (by decide) (t.epochUp ch) ch)).trans rfl
  have hmarks : (s.serviceBack u i).flt.marks = (s.dropMark u i).flt.marks := by
    unfold State.serviceBack
    extract_lets t chs v
    refine (hback _ _).trans ((State.bumpGen_marks v).trans ?_)
    exact State.flt_marks_of_only ((State.eventP_only (by decide) ..).trans (State.undefineLines_only (by decide) ..))
  rw [State.marked_eq, hmarks]
  exact namesUnit_filter ..

section
variable {s : State} {a : Access} {v : Word} {u : FUnit} {i n t0 : Nat} {ok : Bool} {q : Byte}

/-! ### FLT_CTL -/

/-- The unit is named by bits that OP does not take. -/
theorem State.ctlUnit_of_fields {v' : Word} (hunit : fieldNat v' 27 24 = fieldNat v 27 24)
    (hindex : fieldNat v' 11 0 = fieldNat v 11 0) :
    s.ctlUnit v' = s.ctlUnit v := by
  rw [State.ctlUnit, State.ctlUnit, hunit, hindex]

theorem unit_fenced (hcourse : a.course < 12) (hopen : s.writeOpen a 0x2020 (putBits v 31 28 1)) (hunit : s.ctlUnit v = some (u,
    i)) :
    ∃ t, exec (.fltFence a v) s = .next t ∧ t.marked u i = true ∧ t.nvm = s.nvm ∧ t.time = s.time := by
  have hwrite : exec (.fltFence a v) s = act (Instr.fltFence a v).wellFormed s
      ((s.fenceUnit u i rsnCommand none).ackWrite a 0x2020 (putBits v 31 28 1) none false) := by
    refine (congrArg (act (Instr.fltFence a v).wellFormed s) (State.writeReg_of_command hopen (pg := .flt) (n := 0) (x := 0x20)
      (by decide) (by decide) (by decide) (by decide) (by decide))).trans ?_
    rw [State.writeActs, State.fltCtl, fieldNat_and_of_covered (by decide), fieldNat_putBits_self v (by decide)]
    simp only [Nat.reduceMod, Nat.reducePow, Nat.reduceAdd, Nat.reduceSub]
    rw [State.ctlFence, State.ctlUnit_of_fields
      ((fieldNat_and_of_covered (by decide) _).trans (fieldNat_putBits_of_disjoint v (by decide) (by decide) 1))
      ((fieldNat_and_of_covered (by decide) _).trans (fieldNat_putBits_of_disjoint v (by decide) (by decide) 1)), hunit]
  obtain ⟨t, hexec, hseen, -⟩ := exec_write_seen hwrite (by simp [Instr.wellFormed, Instr.units, Instr.partsOk, hcourse]) hopen.1
    [.flt, .mem, .nvm, .time]
  have hfence {K : List Piece} (hK : .regs ∉ K ∧ .pins ∉ K ∧ .evt ∉ K ∧ .pinFlt ∉ K ∧ .flt ∉ K ∧ .link ∉ K ∧ .reqs ∉ K ∧ .trx ∉ K ∧
      .regul ∉ K ∧ .chans ∉ K ∧ .capo ∉ K ∧ .slots ∉ K ∧ .doms ∉ K ∧ .pwr ∉ K) :
          (s.fenceUnit u i rsnCommand none).only K = s.only K :=
    State.fenceUnit_only hK ..
  have hrest := (State.only_mono (K := [.mem, .nvm, .time]) (by decide) hseen).trans (hfence (by decide))
  refine ⟨t, hexec, ?_, State.nvm_of_only (State.only_mono (by decide) hrest), State.time_of_only (State.only_mono
      (by decide) hrest)⟩
  rw [State.marked_of_marks (State.flt_marks_of_only (State.only_mono (by decide) hseen)), State.fenceUnit_marked]

/-- UNFENCE through a path that carries the outcome of the self-test. -/
theorem exec_fltUnfence (hopen : s.writeOpen a 0x2020 (putBits v 31 28 2)) :
    exec (.fltUnfence a v ok) s = act (Instr.fltUnfence a v ok).wellFormed s
      ((s.ctlUnfence (putBits v 31 28 2) ok).ackWrite a 0x2020 (putBits v 31 28 2) none false) := by
  obtain ⟨-, hlevel, hon, hdelay, hbusy, hwaits, hbad, hclosed⟩ := hopen
  have hd : s.wordDomain (pathNum a.path) 0x2020 = 5 := rfl
  rw [hd] at hon hdelay
  have hgo : s.domOn 5 ∧ !s.busy (busyKey 0x2020) ∧ !s.pathWaits (pathNum a.path) ∧
      !s.writeBad (s.accessLevel a) 0x2020 (putBits v 31 28 2) ∧ !s.closedTo a.path 0x1000 := by
    rw [hlevel]
    simp [hon, hbusy, hwaits, hbad, hclosed]
  refine congrArg (act (Instr.fltUnfence a v ok).wellFormed s) ?_
  rw [opFltUnfence, if_pos hgo, State.accessDom_of_on (by decide) hdelay]

section
variable (hunit : s.ctlUnit v = some (u, i)) (hinside : s.insideFenced u i = false) (hmarked : s.marked u i = true)
  (hnone : s.flt.unfencing = [])
include hunit hinside hmarked hnone

/-- A bank returns at once, a half whose self-tests passed with every slot reloaded from the other half. -/
theorem State.ctlUnfence_at_once (hkind : u = .bank ∨ (u = .lpHalf ∧ ok = true)) :
    ∃ x : SecSt, s.ctlUnfence (putBits v 31 28 2) ok = ({ s with sec := x } : State).serviceBack u i := by
  have hsame := (State.ctlUnit_of_fields (s := s) (fieldNat_putBits_of_disjoint v (hi := 31) (lo := 28) (by decide) (by decide) 2)
    (fieldNat_putBits_of_disjoint v (by decide) (by decide) 2)).trans hunit
  rw [State.ctlUnfence, hsame]
  obtain rfl | ⟨rfl, rfl⟩ := hkind
  · refine ⟨s.sec, ?_⟩
    dsimp only
    simp only [hinside, hmarked, hnone, Bool.false_eq_true, if_false, Bool.not_true, Bool.false_or, List.contains_nil]
  · simp only [hinside, hmarked, hnone, Bool.false_eq_true, if_false, Bool.not_true, Bool.false_or, List.contains_nil]
    exact ⟨_, rfl⟩

theorem State.ctlUnfence_of_channel (hkind : u = .channel) :
    s.ctlUnfence (putBits v 31 28 2) ok = s.returnBy .channel i i := by
  subst hkind
  rw [State.ctlUnfence, State.ctlUnit_of_fields (fieldNat_putBits_of_disjoint v (by decide) (by decide) 2)
    (fieldNat_putBits_of_disjoint v (by decide) (by decide) 2), hunit]
  simp only [hinside, hmarked, hnone, Bool.false_eq_true, if_false, Bool.not_true, Bool.false_or, List.contains_nil]

end

theorem unit_returns (hcourse : a.course < 12) (hopen : s.writeOpen a 0x2020 (putBits v 31 28 2)) (hunit : s.ctlUnit v = some (u,
    i))
    (hinside : s.insideFenced u i = false) (hmarked : s.marked u i = true) (hnone : s.flt.unfencing = [])
    (hkind : u = .bank ∨ (u = .lpHalf ∧ ok = true)) :
    ∃ t, exec (.fltUnfence a v ok) s = .next t ∧ t.marked u i = false ∧ t.nvm = s.nvm ∧ t.time = s.time := by
  obtain ⟨x, hback⟩ := State.ctlUnfence_at_once hunit hinside hmarked hnone hkind
  obtain ⟨t, hexec, hseen, -⟩ := exec_write_seen (hback ▸ exec_fltUnfence hopen) (by simp [Instr.wellFormed, Instr.units,
      Instr.partsOk, hcourse]) hopen.1
    [.flt, .mem, .nvm, .time]
  have hrest := (State.only_mono (K := [.mem, .nvm, .time]) (by decide) hseen).trans
    ((State.serviceBack_only (by decide) ..).trans (State.only_sec s (by rfl)))
  refine ⟨t, hexec, ?_, State.nvm_of_only (State.only_mono (by decide) hrest), State.time_of_only (State.only_mono
      (by decide) hrest)⟩
  rw [State.marked_of_marks (State.flt_marks_of_only (State.only_mono (by decide) hseen)), State.serviceBack_marked]

/-- A retraining is under way once it was asked for. -/
theorem State.retrain_retraining (s : State) (ch : Nat) (full : Bool) (bits : List Nat) :
    ((s.retrain ch full bits).calCh ch).retraining = true := by
  have hof {t u : State} (h : u.only [.cal] = t.only [.cal]) : u.calCh ch = t.calCh ch := congrArg (fun x => x.calCh ch) h
  unfold State.retrain
  dsimp only
  split
  next h => simpa [State.calCh, State.setCalCh] using h
  next =>
    rw [hof ((State.agentAsks_only (by decide) ..).trans ((State.setChan_only (by decide) ..).trans
      ((State.refreshAsks_only (by decide) ..).trans (State.count_only (by decide) ..))))]
    simp [State.calCh, State.setCalCh, State.setCalGr]

theorem channel_returns_by_retraining (hcourse : a.course < 12) (hopen : s.writeOpen a 0x2020 (putBits v 31 28 2))
    (hunit : s.ctlUnit v = some (u, i)) (hinside : s.insideFenced u i = false) (hmarked : s.marked u i = true)
    (hnone : s.flt.unfencing = []) (hkind : u = .channel) :
    ∃ t, exec (.fltUnfence a v ok) s = .next t ∧ t.marked .channel i = true ∧ t.flt.unfencing = [(.channel, i)] ∧
      (t.calCh i).retraining = true ∧ t.nvm = s.nvm ∧ t.time = s.time := by
  obtain ⟨t, hexec, hseen, -⟩ := exec_write_seen
      (State.ctlUnfence_of_channel hunit hinside hmarked hnone hkind ▸ exec_fltUnfence hopen)
    (by simp [Instr.wellFormed, Instr.units, Instr.partsOk, hcourse]) hopen.1 [.flt, .cal, .mem, .nvm, .time]
  have hflt : (s.returnBy .channel i i).only [.flt] =
      State.only { s with flt := { s.flt with unfencing := s.flt.unfencing ++ [(.channel, i)] } } [.flt] := by
    unfold State.returnBy
    extract_lets low x t1 t2
    refine (State.retrain_only (by decide) ..).trans ((State.wake_only (by decide) ..).trans ?_)
    exact (State.only_when ..).trans (by rw [State.dieAgain_only (by decide), ite_self])
  have hseenFlt := (State.only_mono (K := [.flt]) (by decide) hseen).trans hflt
  have hcal : (t.calCh i).retraining = ((s.returnBy .channel i i).calCh i).retraining :=
    congrArg (fun x => (x.calCh i).retraining) (State.only_mono (K := [.cal]) (by decide) hseen)
  have hrest := (State.only_mono (K := [.mem, .nvm, .time]) (by decide) hseen).trans (State.returnBy_only
      (by decide) s .channel i i)
  refine ⟨t, hexec, ?_, ?_, ?_, State.nvm_of_only (State.only_mono (by decide) hrest), State.time_of_only (State.only_mono
      (by decide) hrest)⟩
  · subst hkind
    rw [State.marked_of_marks (State.flt_marks_of_only hseenFlt)]
    exact hmarked
  · have hlist : s.flt.unfencing ++ [(FUnit.channel, i)] = [(FUnit.channel, i)] := by rw [hnone, List.nil_append]
    exact (congrArg (fun x => x.flt.unfencing) hseenFlt).trans hlist
  · rw [hcal]
    exact State.retrain_retraining ..

/-! ### Progress points -/

theorem stalled_channel_fenced (hrun : s.running = true) (hdue : s.progDue n = true) (hn : n < 32)
    (hsingle : s.pair.doubleStop = false) :
    ∃ t, exec (.progStall n) s = .next t ∧ t.marked .channel n = true ∧ t.nvm = s.nvm := by
  obtain ⟨t, hexec, hseen⟩ := exec_seen (c := .progStall n) rfl (by simp [Instr.wellFormed, Instr.units, Instr.partsOk]; omega) hrun
    [.flt, .mem, .nvm]
  have hu : opProgStall n s =
      (((s.noteStall n).eventP (decide (32 ≤ n)) 0x20 0x0206 3 (payload [(0, 1, n)])).progDone n).fenceUnit .channel n rsnStall
        (some (0x20, 0x0206)) := by
    rw [opProgStall, State.progStalls, if_neg (by omega), hsingle]
    exact if_pos hdue
  refine ⟨t, hexec, ?_, State.nvm_of_only ((State.only_mono (by decide) hseen).trans (State.progStalls_only (by decide) s n))⟩
  rw [State.marked_of_marks (State.flt_marks_of_only (State.only_mono (by decide) hseen)), hu, State.fenceUnit_marked]

theorem stalled_engine_fatal (hrun : s.running = true) (hdue : s.progDue n = true) (hlo : 32 ≤ n) (hhi : n < 34) :
    ∃ t, exec (.progStall n) s = .next t ∧ t.flt.fatal = true ∧ t.nvm = s.nvm := by
  obtain ⟨t, hexec, hseen⟩ := exec_seen (c := .progStall n) rfl (by simp [Instr.wellFormed, Instr.units, Instr.partsOk, hhi]) hrun
    [.flt, .mem, .nvm]
  have hu : opProgStall n s = (((s.noteStall n).event 0x20 0x0206 4 [(0, 1,
      n)]).progDone n).fatalFault 0x20 0x0206 rsnInstance := by
    rw [opProgStall, State.progStalls, if_pos hlo, if_pos hdue]
  refine ⟨t, hexec, ?_, State.nvm_of_only ((State.only_mono (by decide) hseen).trans (State.progStalls_only (by decide) s n))⟩
  refine (congrArg (fun x => x.flt.fatal) (State.only_mono (K := [.flt]) (by decide) hseen)).trans ?_
  rw [hu]
  exact State.fatalFault_fatal ..

/-! ### FAULT_N -/

theorem pulse_ends (hrun : s.running = true) (hend : s.flt.pulseEnd = some t0) (htime : t0 ≤ s.now) :
    exec .faultNPulseEnd s = .next { s with flt := { s.flt with pulseEnd := none } } := by
  have heq : opFaultNPulseEnd s = { s with flt := { s.flt with pulseEnd := none } } := by
    rw [opFaultNPulseEnd, State.pulseOver, hend]
    exact if_pos htime
  exact exec_of_kept (c := .faultNPulseEnd) (congrArg (act true s) heq) rfl hrun (State.only_flt s (by rfl))

/-- FLT_PIN as its write carries it: its fields are stored, and DRIVE acts. -/
theorem exec_fltPin {c : Instr} {w : Word} (hc : exec c s = act c.wellFormed s (s.writeReg a 0x2018 w none true))
    (hopen : s.writeOpen a 0x2018 w) :
    exec c s = act c.wellFormed s (((s.storeFields (pathNum a.path) 2 (fieldsOfWord .flt 0x18) 0 w).fltPin
      (w &&& fieldMask (fieldsOfWord .flt 0x18))).ackWrite a 0x2018 w none false) := by
  rw [hc, State.writeReg_of_open hopen (pg := .flt) (n := 0) (x := 0x18) (by decide) (by decide) (by decide) (by decide),
    State.writeActs]

theorem exec_fltPin_written {c : Instr} {w : Word} (hc : exec c s = act c.wellFormed s (s.writeReg a 0x2018 w none true))
    (hwf : c.wellFormed = true) (hopen : s.writeOpen a 0x2018 w) :
    exec c s = .next (((s.storeFields (pathNum a.path) 2 (fieldsOfWord .flt 0x18) 0 w).fltPin
      (w &&& fieldMask (fieldsOfWord .flt 0x18))).ackWrite a 0x2018 w none false) :=
  exec_of_write (exec_fltPin hc hopen) hwf hopen.1 ((State.fltPin_only (by decide) ..).trans (State.storeFields_only
      (by decide) ..))

/-- What a write of FLT_PIN leaves of FAULT_N, where DRIVE takes a value. -/
theorem pin_driven {c : Instr} {w : Word} {d : Bool} (hc : exec c s = act c.wellFormed s (s.writeReg a 0x2018 w none true))
    (hwf : c.wellFormed = true) (hopen : s.writeOpen a 0x2018 w)
    (hpin : ∀ s' : State, s'.flt = s.flt → s'.fltPin (w &&& fieldMask (fieldsOfWord .flt 0x18)) = { s' with flt :=
        { s'.flt with drive := d } }) :
    ∃ t, exec c s = .next t ∧ t.flt = { s.flt with drive := d } ∧ s.changesOnly t [.flt, .regs, .rpr] := by
  have hexec := exec_fltPin_written hc hwf hopen
  have hflt : (s.storeFields (pathNum a.path) 2 (fieldsOfWord .flt 0x18) 0 w).flt = s.flt :=
    State.flt_of_only (State.storeFields_only (by decide) ..)
  rw [hpin _ hflt] at hexec
  refine ⟨_, hexec, (State.flt_of_only (State.ackNone_only _ a _ _ false (by decide))).trans (by rw [hflt]), ?_⟩
  exact State.changesOnly_of_only (K := Piece.all.filter fun p => p.part != .flt && p.part != .regs && p.part != .rpr)
    ((State.ackNone_only _ a _ _ false (by decide)).trans ((State.only_flt _ (by rfl)).trans (State.storeFields_only
        (by decide) ..)))
    (by decide)

theorem pin_held (hcourse : a.course < 12) (hopen : s.writeOpen a 0x2018 (BitVec.ofNat 32 (1 + q.toNat * 2 ^ 8))) :
    ∃ t, exec (.fltPinHold a q) s = .next t ∧ t.flt = { s.flt with drive := true } ∧ s.changesOnly t [.flt, .regs, .rpr] := by
  refine pin_driven (c := .fltPinHold a q) rfl (by simp [Instr.wellFormed, Instr.units, Instr.partsOk,
      hcourse]) hopen fun s' _ => ?_
  have hbit : bitAt (BitVec.ofNat 32 (1 + q.toNat * 2 ^ 8) &&& fieldMask (fieldsOfWord .flt 0x18)) 0 = true := by
    rw [bitAt, BitVec.getLsbD_and, show (fieldMask (fieldsOfWord .flt 0x18)).getLsbD 0 = true by decide, BitVec.getLsbD_ofNat,
      Nat.testBit_zero, Bool.and_true]
    exact decide_eq_true (by omega)
  rw [State.fltPin, hbit]
  rfl

section
variable (hcourse : a.course < 12) (hopen : s.writeOpen a 0x2018 (BitVec.ofNat 32 (q.toNat * 2 ^ 8)))
include hcourse hopen

omit hcourse hopen in
/-- A release by its SEQ. -/
theorem State.fltPin_release (s' : State) :
    s'.fltPin (BitVec.ofNat 32 (q.toNat * 2 ^ 8) &&& fieldMask (fieldsOfWord .flt 0x18)) = s'.pinRelease q.toNat := by
  have hbit : bitAt (BitVec.ofNat 32 (q.toNat * 2 ^ 8) &&& fieldMask (fieldsOfWord .flt 0x18)) 0 = false := by
    rw [bitAt, BitVec.getLsbD_and, BitVec.getLsbD_ofNat, Nat.testBit_zero, 
      decide_eq_false (p := q.toNat * 2 ^ 8 % 2 = 1) (by omega), Bool.and_false, Bool.false_and]
  have hseq : fieldNat (BitVec.ofNat 32 (q.toNat * 2 ^ 8) &&& fieldMask (fieldsOfWord .flt 0x18)) 15 8 = q.toNat := by
    have hlt := q.isLt
    rw [fieldNat_and_of_covered (by decide), fieldNat, BitVec.toNat_ofNat]
    omega
  rw [State.fltPin, hbit, hseq]

theorem pin_released (hseq : q.toNat = s.flt.asserts % 256) :
    ∃ t, exec (.fltPinRelease a q) s = .next t ∧ t.flt = { s.flt with drive := false } ∧ s.changesOnly t [.flt, .regs, .rpr] := by
  refine pin_driven (c := .fltPinRelease a q) rfl (by simp [Instr.wellFormed, Instr.units, Instr.partsOk, hcourse]) hopen
    fun s' hflt => ?_
  rw [State.fltPin_release, State.pinRelease, hflt, if_pos hseq]

theorem stale_release_ignored (hseq : q.toNat ≠ s.flt.asserts % 256) :
    ∃ t, exec (.fltPinRelease a q) s = .next t ∧ t.sticky RF.FLT_RELEASE_STALE 0 = 1 ∧ s.changesOnly t [.regs, .rpr] := by
  have hexec := exec_fltPin_written (c := .fltPinRelease a q) rfl (by simp [Instr.wellFormed, Instr.units, Instr.partsOk,
      hcourse]) hopen
  have hflt : (s.storeFields (pathNum a.path) 2 (fieldsOfWord .flt 0x18) 0 (BitVec.ofNat 32 (q.toNat * 2 ^ 8))).flt = s.flt :=
    State.flt_of_only (State.storeFields_only (by decide) ..)
  rw [State.fltPin_release, State.pinRelease, hflt, if_neg hseq] at hexec
  refine ⟨_, hexec, ?_, ?_⟩
  · rw [State.sticky, State.ackNone_sticky]
    exact State.sticky_of_raised rfl (State.stick_raised _ (by decide))
  · exact State.changesOnly_of_only (K := Piece.all.filter fun p => p.part != .regs && p.part != .rpr)
      ((State.ackNone_only _ a _ _ false (by decide)).trans ((State.stick_only (by decide) ..).trans
        (State.storeFields_only (by decide) ..))) (by decide)

end

end

/-- Settles O48, each command in a lemma of its own: a fence marks its unit, a bank or a half loses its marks at once,
    and a channel keeps
its own while its retraining runs. -/
theorem fencesAndTheFaultPin : Obligations.FencesAndTheFaultPin :=
  fun _ _ _ _ _ _ _ _ _ hcourse => ⟨unit_fenced hcourse,
    fun hopen hunit hinside hmarked hnone => ⟨unit_returns hcourse hopen hunit hinside hmarked hnone,
      channel_returns_by_retraining hcourse hopen hunit hinside hmarked hnone⟩,
    fun hrun hdue => ⟨stalled_channel_fenced hrun hdue, stalled_engine_fatal hrun hdue⟩, pulse_ends, pin_held hcourse,
    fun hopen => ⟨pin_released hcourse hopen, stale_release_ignored hcourse hopen⟩⟩

end Sys2Proof.Machine
end

section
set_option Elab.async false
/-! PROOFS. What an event leaves of the registers: beside the counters and the sticky words nothing moves (R84, R90). -/

namespace Sys2Proof.Machine

/-- From `p` to `q` only counters and sticky words have moved. -/
def RegSt.tallied (p q : RegSt) : Prop := q = { p with sticky := q.sticky, counters := q.counters, snapAcc := q.snapAcc }

theorem RegSt.tallied.refl (p : RegSt) : p.tallied p := rfl

theorem RegSt.tallied.trans {p q r : RegSt} (h : p.tallied q) (k : q.tallied r) : p.tallied r := by
  unfold RegSt.tallied at *
  rw [k, h]

theorem RegSt.tallied.views {p q : RegSt} (h : p.tallied q) : q.views = p.views := by rw [h]

theorem RegSt.tallied.logCopy {p q : RegSt} (h : p.tallied q) : q.logCopy = p.logCopy := by rw [h]

theorem when_tallied {f : State → State} (hf : ∀ t : State, t.regs.tallied (f t).regs) (c : Bool) (s : State) :
    s.regs.tallied (when c f s).regs := by
  cases c
  · exact .refl _
  · exact hf s

theorem forAll_tallied {α : Type} {f : α → State → State} (hf : ∀ a (t : State), t.regs.tallied (f a t).regs) (l : List α)
    (s : State) :
    s.regs.tallied (forAll l f s).regs := by
  induction l generalizing s with
  | nil => exact .refl _
  | cons a l ih => exact (hf a s).trans (ih (f a s))

section
variable (s : State)

theorem State.stick_tallied (f : Field) : s.regs.tallied (s.stick f).regs := rfl

theorem State.count_tallied (off : Nat) : s.regs.tallied (s.count off).regs := by
  unfold State.count State.countBy
  cases s.regs.snapBusy <;> rfl

theorem State.refuseEntry_tallied (d reason : Nat) : s.regs.tallied (s.refuseEntry d reason).regs := by
  unfold State.refuseEntry
  refine .trans ?_ (State.stick_tallied _ _)
  exact State.count_tallied _ _

theorem State.wakeOne_tallied (d : Nat) : s.regs.tallied (s.wakeOne d).regs := by
  unfold State.wakeOne
  split
  · split
    · exact State.refuseEntry_tallied (s.setDom d _) d 1
    · exact .refl _
  · exact .refl _
  · exact .refl _
  · split <;> exact .refl _

theorem State.wake_tallied (d : Nat) : s.regs.tallied (s.wake d).regs := by
  unfold State.wake
  split
  · exact s.wakeOne_tallied d
  · exact forAll_tallied (fun e t => t.wakeOne_tallied e) _ s

theorem State.queueRec_tallied (r : EvRec) : s.regs.tallied (s.queueRec r).regs := by
  unfold State.queueRec
  extract_lets ring t
  split
  · exact State.wake_tallied ({ t with evt := { t.evt with queue := joinQueue s.evt.queue { r with queued := true } } } : State) 7
  · exact (State.count_tallied t 0x3118).trans (State.stick_tallied _ _)

theorem State.pushRec_tallied (e : EvRec) : s.regs.tallied (s.pushRec e).regs := by
  have hretire : s.regs.tallied s.retireNewest.regs := by
    unfold State.retireNewest
    split
    · split
      · exact s.queueRec_tallied _
      · exact .refl _
    · exact .refl _
  unfold State.pushRec
  split
  · exact State.count_tallied _ _
  · extract_lets t q u r w v
    have hu : t.regs.tallied u.regs := when_tallied (f := fun t => t.count 0x3120) (fun t => t.count_tallied _) _ t
    have hv : u.regs.tallied v.regs := State.count_tallied _ _
    exact (hretire.trans hu).trans (hv.trans (when_tallied (fun v => v.queueRec_tallied r) _ v))

theorem State.eventP_tallied (partner : Bool) (source code sev : Nat) (pl : BitVec 96) :
    s.regs.tallied (s.eventP partner source code sev pl).regs := by
  unfold State.eventP
  extract_lets e t
  have hseen : s.regs.tallied (s.stickBits RF.FLT_SEV_SEEN 0 (2 ^ sev)).regs := rfl
  have ht : s.regs.tallied t.regs := hseen.trans (when_tallied (f := State.assertPin) (fun _ => .refl _) _ _)
  refine ht.trans ?_
  split
  · exact (t.wakeOne_tallied 5).trans (State.pushRec_tallied _ _)
  · split
    · exact State.wake_tallied ({ t with evt := { t.evt with hold := t.evt.hold ++ [{ e with held := true }] } } : State) 5
    · exact .trans (State.count_tallied _ _) (State.stick_tallied _ _)

theorem State.event_tallied (source code sev : Nat) (l : List (Nat × Nat × Nat)) : s.regs.tallied
    (s.event source code sev l).regs :=
  s.eventP_tallied ..

theorem State.readsOf_tallied (a n : Nat) : s.regs.tallied (s.readsOf a n).regs := forAll_tallied
    (fun _ t => t.event_tallied ..) _ s

end

/-- Nothing is recorded for a read of words that are all good. -/
theorem State.readsOf_of_clean {s : State} {a n : Nat} (h : s.nvmClean a n = true) : s.readsOf a n = s := by
  have hnil : s.nvm.badWords.filter (fun w => decide (a / 8 ≤ w) && decide (w < (a + n + 7) / 8)) = [] := by
    refine List.filter_eq_nil_iff.2 fun w hw hin => ?_
    have hout := List.all_eq_true.1 h w hw
    simp only [Bool.or_eq_true, Bool.and_eq_true, decide_eq_true_eq] at hout hin
    omega
  rw [State.readsOf, hnil, forAll_nil]

/-- The answer of a write that no tag asked for touches of the registers the status byte of an SMP session alone. -/
theorem State.ackNone_regs {u : State} {a : Access} {off : Nat} {v : Word} :
    ∃ w, (u.ackWrite a off v none false).regs = { u.regs with smpStatus := w } := by
  obtain ⟨w, h⟩ | ⟨w, h⟩ | h := u.ackNone_cases a off v false
  · exact ⟨u.regs.smpStatus, by rw [h]⟩
  · exact ⟨w, by rw [h]⟩
  · exact ⟨u.regs.smpStatus, by rw [h]⟩

end Sys2Proof.Machine
end

section
set_option Elab.async false
/-! PROOFS. The event view, the event log and LOCK (R414 to R417, R420, R433), and the entropy tests (R327). -/

namespace Sys2Proof.Machine

theorem State.evt_of_only {s t : State} (h : t.only [.evt] = s.only [.evt]) : t.evt = s.evt := congrArg (fun x => x.evt) h

theorem State.sec_of_only {s t : State} (h : t.only [.slots, .sec] = s.only [.slots, .sec]) : t.sec = s.sec := congrArg
    (fun x => x.sec) h

section
variable {s : State} {a : Access} {k : Nat} {r : EvRec} {rest : List EvRec}

/-! ### The views -/

section
variable (hcourse : a.course < 12) (hk : k < 2 ^ 32) (hopen : s.writeOpen a 0x3010 (BitVec.ofNat 32 k))
include hcourse hk hopen

/-- A view as it is left in the registers. -/
theorem view_written : ∃ s' t : State, s'.only (Piece.all.filter fun p => p.part != .regs) = s.only
    (Piece.all.filter fun p => p.part != .regs) ∧
    exec (.evtView a k) s = .next t ∧ t.regs.evtCopy = (s'.viewRecord (pathNum a.path) k).regs.evtCopy ∧
    t.regs.views = (s'.viewRecord (pathNum a.path) k).regs.views ∧ s.changesOnly t [.regs, .rpr] := by
  have hall : BitVec.ofNat 32 k &&& fieldMask (fieldsOfWord .evt 0x10) = BitVec.ofNat 32 k := by
    rw [show fieldMask (fieldsOfWord .evt 0x10) = BitVec.allOnes 32 by decide, BitVec.and_allOnes]
  have hwrite := State.writeReg_of_open hopen (pg := .evt) (n := 0) (x := 0x10) (by decide) (by decide) (by decide) (by decide)
  rw [hall, State.writeActs, BitVec.toNat_ofNat, Nat.mod_eq_of_lt hk] at hwrite
  generalize hstore : s.storeFields (pathNum a.path) 2 (fieldsOfWord .evt 0x10) 0 (BitVec.ofNat 32 k) = s' at hwrite
  have hkept : s'.only (Piece.all.filter fun p => p.part != .regs) = s.only (Piece.all.filter fun p => p.part != .regs) :=
    hstore ▸ State.storeFields_only (by decide) ..
  have hcommits : s'.only keptPieces = s.only keptPieces := hstore ▸ State.storeFields_only (by decide) ..
  have hview {K : List Piece} (hK : .regs ∉ K) : (s'.viewRecord (pathNum a.path) k).only K = s'.only K := by
    simp [State.viewRecord, RegSt.only, hK]
  have hexec := exec_of_write (c := .evtView a k) (congrArg (act (Instr.evtView a k).wellFormed s) hwrite)
    (by simp [Instr.wellFormed, Instr.units, Instr.partsOk, hcourse, show k < 4294967296 from hk]) hopen.1 ((hview
        (by decide)).trans hcommits)
  obtain ⟨w, hregs⟩ := State.ackNone_regs (u := s'.viewRecord (pathNum a.path) k) (a := a) (off := 0x3010) (v := BitVec.ofNat 32 k)
  refine ⟨s', _, hkept, hexec, by rw [hregs], by rw [hregs], ?_⟩
  exact State.changesOnly_of_only (K := Piece.all.filter fun p => p.part != .regs && p.part != .rpr)
    ((State.ackNone_only _ a _ _ false (by decide)).trans ((hview (by decide)).trans (State.only_mono (by decide) hkept)))
        (by decide)

theorem record_viewed (hring : s.evt.ring.get (k % 4096) = some r) (hseq : r.seq = k) (hhead : k ≤ s.evt.head) :
    ∃ t, exec (.evtView a k) s = .next t ∧ t.regs.evtCopy.get (pathNum a.path) = some (r.words k) ∧
      t.regs.views.get (16 * pathNum a.path + 8) = 0 ∧ s.changesOnly t [.regs, .rpr] := by
  obtain ⟨s', t, hkept, hexec, hcopy, hviews, hframe⟩ := view_written hcourse hk hopen
  have hevt : s'.evt = s.evt := State.evt_of_only (State.only_mono (by decide) hkept)
  have hhit : (s'.evt.ring.get (k % 4096)).filter (fun r => r.seq == k && decide (k ≤ s'.evt.head)) = some r := by
    rw [hevt, hring]
    simp [hseq, hhead]
  refine ⟨t, hexec, ?_, ?_, hframe⟩
  · rw [hcopy, State.viewRecord, hhit, ← hseq]
    exact Tbl.get_set_self ..
  · rw [hviews, State.viewRecord, hhit]
    exact Tbl.get_set_self ..

theorem missing_record_viewed (hring : s.evt.ring.get (k % 4096) = none) :
    ∃ t, exec (.evtView a k) s = .next t ∧ t.regs.evtCopy.get (pathNum a.path) = none ∧
      t.regs.views.get (16 * pathNum a.path + 8) = 1 ∧ s.changesOnly t [.regs, .rpr] := by
  obtain ⟨s', t, hkept, hexec, hcopy, hviews, hframe⟩ := view_written hcourse hk hopen
  have hevt : s'.evt = s.evt := State.evt_of_only (State.only_mono (by decide) hkept)
  have hhit : (s'.evt.ring.get (k % 4096)).filter (fun r => r.seq == k && decide (k ≤ s'.evt.head)) = none := by
    rw [hevt, hring]
    rfl
  refine ⟨t, hexec, ?_, ?_, hframe⟩
  · rw [hcopy, State.viewRecord, hhit]
    exact Tbl.get_set_self ..
  · rw [hviews, State.viewRecord, hhit]
    exact Tbl.get_set_self ..

end

theorem State.viewLog_of_ready (hk : k < 16384) (hrdy : s.pins.nvmRdy = true) :
    s.viewLog k = State.readsOf { s with regs := { s.regs with
      logCopy := s.regs.logCopy.set 0 (if s.nvmClean (0xb0000 + 32 * k) 32 then toWords (s.mram (0xb0000 + 32 * k) 32) else []),
      views := s.regs.views.set 9 k } } (0xb0000 + 32 * k) 32 := by
  have haddr : logAddr k = 0xb0000 + 32 * k := by rw [logAddr, Nat.mod_eq_of_lt hk]
  rw [State.viewLog, haddr, hrdy, Nat.mod_eq_of_lt hk]
  rfl

section
variable (hcourse : a.course < 12) (hk : k < 16384) (hopen : s.writeOpen a 0x3048 (BitVec.ofNat 32 k)) (hrdy : s.pins.nvmRdy = true)
include hcourse hk hopen hrdy

omit hrdy in
/-- The log slot of a number below 16,384, as EVT_LOGIDX carries it. -/
theorem exec_evtLogidx : exec (.evtLogidx a k) s = .next ((s.viewLog k).ackWrite a 0x3048 (BitVec.ofNat 32 k) none false) := by
  have hslot : fieldNat (BitVec.ofNat 32 k &&& fieldMask (fieldsOfWord .evt 0x48)) 13 0 = k := by
    rw [fieldNat_and_of_covered (by decide), fieldNat, BitVec.toNat_ofNat]
    omega
  have hwrite := State.writeReg_of_command hopen (pg := .evt) (n := 0) (x := 0x48) (by decide) (by decide) (by decide) (by decide)
    (by decide)
  rw [State.writeActs, hslot] at hwrite
  exact exec_of_write (c := .evtLogidx a k) (congrArg (act (Instr.evtLogidx a k).wellFormed s) hwrite)
    (by simp [Instr.wellFormed, Instr.units, Instr.partsOk, hcourse, hk]) hopen.1 (State.viewLog_only (by decide) ..)

omit hcourse hopen in
/-- What EVT_LOGIDX leaves in the words of the log view. -/
theorem log_copied {t : State} (ht : t = (s.viewLog k).ackWrite a 0x3048 (BitVec.ofNat 32 k) none false) :
    t.regs.logCopy.get 0 = if s.nvmClean (0xb0000 + 32 * k) 32 then toWords (s.mram (0xb0000 + 32 * k) 32) else [] := by
  obtain ⟨w, hregs⟩ := State.ackNone_regs (u := s.viewLog k) (a := a) (off := 0x3048) (v := BitVec.ofNat 32 k)
  rw [ht, hregs]
  rw [State.viewLog_of_ready hk hrdy, (State.readsOf_tallied ..).logCopy]
  exact Tbl.get_set_self ..

theorem good_slot_viewed (hclean : s.nvmClean (0xb0000 + 32 * k) 32 = true) :
    ∃ t, exec (.evtLogidx a k) s = .next t ∧ t.regs.logCopy.get 0 = toWords (s.mram (0xb0000 + 32 * k) 32) ∧
      s.changesOnly t [.regs, .rpr] := by
  refine ⟨_, exec_evtLogidx hcourse hk hopen, (log_copied hk hrdy rfl).trans (if_pos hclean), ?_⟩
  refine State.changesOnly_of_only (K := Piece.all.filter fun p => p.part != .regs && p.part != .rpr)
    ((State.ackNone_only _ a _ _ false (by decide)).trans ?_) (by decide)
  rw [State.viewLog_of_ready hk hrdy, State.readsOf_of_clean]
  · exact State.only_regs s rfl
  · exact hclean

theorem bad_slot_viewed (hbad : s.nvmClean (0xb0000 + 32 * k) 32 = false) :
    ∃ t, exec (.evtLogidx a k) s = .next t ∧ t.regs.logCopy.get 0 = [] ∧ t.nvm = s.nvm ∧
      s.changesOnly t [.regs, .rpr, .evt, .flt, .pins, .pwr] := by
  have honly {K : List Piece} (hK : .regs ∉ K ∧ .rpr ∉ K ∧ .pins ∉ K ∧ .evt ∉ K ∧ .pinFlt ∉ K ∧ .doms ∉ K ∧ .pwr ∉ K) :
      ((s.viewLog k).ackWrite a 0x3048 (BitVec.ofNat 32 k) none false).only K = s.only K :=
    (State.ackNone_only _ a _ _ false ⟨hK.1, hK.2.1⟩).trans (State.viewLog_only ⟨hK.1, hK.2.2⟩ ..)
  refine ⟨_, exec_evtLogidx hcourse hk hopen,
    (log_copied hk hrdy rfl).trans (if_neg (by rw [hbad]; decide)), State.nvm_of_only (honly (by decide)), ?_⟩
  exact State.changesOnly_of_only (K :=
      Piece.all.filter fun p => p.part != .regs && p.part != .rpr && p.part != .evt && p.part != .flt &&
    p.part != .pins && p.part != .pwr) (honly (by decide)) (by decide)

end

theorem lock_burns (hcourse : a.course < 12) (hopen : s.writeOpen a 0x500c 1#32) :
    ∃ t, exec (.secLock a) s = .next t ∧ t.sec = { s.sec with lock := true } ∧
      t.nvm = { s.nvm with lockFuse := true } ∧ s.changesOnly t [.sec, .nvm, .regs, .rpr] := by
  have hwrite := State.writeReg_of_command hopen (pg := .sec) (n := 0) (x := 0xc) (by decide) (by decide) (by decide) (by decide)
    (by decide)
  have hact : s.writeActs a.path 2 0x500c (1#32 &&& fieldMask (fieldsOfWord .sec 0xc)) = s.lockNow := by
    rw [State.writeActs, show bitAt (1#32 &&& fieldMask (fieldsOfWord .sec 0xc)) 0 = true by decide]
    rfl
  rw [hact] at hwrite
  have hlock {K : List Piece} (hK : .mem ∉ K ∧ .sec ∉ K) : s.lockNow.only K = s.only K := State.lockNow_only hK s
  refine ⟨_, exec_of_write (c := .secLock a) (congrArg (act (Instr.secLock a).wellFormed s) hwrite)
    (by simp [Instr.wellFormed, Instr.units, Instr.partsOk, hcourse]) hopen.1 (hlock (by decide)), ?_, ?_, ?_⟩
  · exact State.sec_of_only (State.ackNone_only _ a _ _ false (by decide))
  · exact State.nvm_of_only (State.ackNone_only _ a _ _ false (by decide))
  · exact State.changesOnly_of_only (K :=
      Piece.all.filter fun p => p.part != .sec && p.part != .nvm && p.part != .regs && p.part != .rpr)
      ((State.ackNone_only _ a _ _ false (by decide)).trans (hlock (by decide))) (by decide)

/-! ### Persistence (R415 to R417) -/

section
variable (hrun : s.running = true)
include hrun

theorem newest_record_queued (hnew : s.newest = some r) (hqueued : r.queued = false) (hsev : s.rf RF.EVT_PERSIST_MIN ≤ r.sev)
    (htime : r.born + s.rf RF.EVT_PERSIST_DELAY ≤ s.now) (hroom : s.evt.queue.length < 64) (hcode : r.code ≠ 0x0205)
    (hon : s.domOn 7 = true) (hdelay : (s.dom 7).delay = none) :
    ∃ t, exec .persistDelayExpiry s = .next t ∧ t.evt.queue = s.evt.queue ++ [{ r with queued := true }] ∧
      t.evt.head = s.evt.head ∧ s.changesOnly t [.evt] := by
  have hjoin : joinQueue s.evt.queue { r with queued := true } = s.evt.queue ++ [{ r with queued := true }] := if_neg hcode
  have heq : s.persistDue = { s with evt := { s.evt with
      ring := s.evt.ring.set (r.seq % 4096) (some { r with queued := true }), queue := s.evt.queue ++ [{ r with queued :=
          true }] } } := by
    have hpersists : s.persists r = true := by simp [State.persists, hqueued, hsev]
    rw [State.persistDue, hnew]
    simp only [hpersists, htime, decide_true, Bool.and_self, if_true]
    rw [State.queueRec, if_pos hroom, State.wake_of_on, hjoin]
    · exact hon
    · exact hdelay
  exact ⟨_, exec_of_kept (c := .persistDelayExpiry) (congrArg (act true s) heq) rfl hrun (State.only_evt (by decide) s _), rfl, rfl,
    State.changesOnly_of_only (K := Piece.all.filter fun p => p.part != .evt) (State.only_evt (by decide) s _) (by decide)⟩

section
variable (hqueue : s.evt.queue = r :: rest)
include hqueue

theorem record_written_to_log (hon : s.domOn 7 = true) (hrdy : s.pins.nvmRdy = true) (hready : s.evt.logReady = true)
    (hidle : s.logging = false) :
    ∃ t, exec .eventPersist s = .next t ∧
      t.nvm.jobs = s.nvm.jobs ++ [⟨.eventLog r.seq, true, wordsOf (logAddr s.evt.logSlot) (r.bytes
          ((s.evt.logSeq + 1) % 2 ^ 32))⟩] ∧
      t.nvm.mem = s.nvm.mem ∧ s.changesOnly t [.nvm] := by
  have heq : s.persistNext =
      s.nvmRecord (.eventLog r.seq) (logAddr s.evt.logSlot) (r.bytes ((s.evt.logSeq + 1) % 2 ^ 32)) := by
    rw [State.persistNext, hqueue]
    exact if_pos (by rw [hready, hon, hrdy, hidle]; rfl)
  have honly {K : List Piece} (hK : .nvm ∉ K) :
      (s.nvmRecord (.eventLog r.seq) (logAddr s.evt.logSlot) (r.bytes ((s.evt.logSeq + 1) % 2 ^ 32))).only K = s.only K :=
    State.nvmJob_only hK ..
  refine ⟨_, exec_of_kept (c := .eventPersist) (congrArg (act true s) heq) rfl hrun (honly (by decide)), ?_, ?_, ?_⟩
  · simp only [State.nvmRecord, State.nvmJob, hrdy]
  · exact State.mem_of_only (honly (by decide))
  · exact State.changesOnly_of_only (K := Piece.all.filter fun p => p.part != .nvm) (honly (by decide)) (by decide)

omit hrun hqueue in
/-- The last word of the only record lands, and its job ends. -/
theorem State.lastWord_lands (q : Nat) (w : Nat × BitVec 64) (hjobs : s.nvm.jobs = [⟨.eventLog q, true, [w]⟩]) :
    ∃ bad, s.nvmAcked false = (State.logWritten { s with nvm := { s.nvm with
      mem := memWriteWord s.nvm.mem w.1 w.2, badWords := bad, jobs := [] } } q).portNext := by
  have hport : s.portJob = some ⟨.eventLog q, true, [w]⟩ := by
    rw [State.portJob, hjobs]
    rfl
  have hset : ((s.landWords [w]).setWords ⟨.eventLog q, true, [w]⟩ []).nvm.jobs = [⟨.eventLog q, true, []⟩] := by
    have hmap : s.nvm.jobs.map (fun x => if x = ⟨.eventLog q, true, [w]⟩ then { x with words := [] } else x) = [⟨.eventLog q,
        true, []⟩] := by
      rw [hjobs, List.map_cons, if_pos rfl, List.map_nil]
    exact hmap
  have hfor : ((s.landWords [w]).setWords ⟨.eventLog q, true, [w]⟩ []).jobFor (fun w => w == .eventLog q) = some ⟨.eventLog q,
      true, []⟩ := by
    rw [State.jobFor, hset]
    exact List.find?_cons_of_pos (beq_self_eq_true _)
  have hdrop : dropFirst (fun j : NvmJob => j.why == .eventLog q) [⟨.eventLog q, true, []⟩] = [] := if_pos (beq_self_eq_true _)
  refine ⟨((s.landWords [w]).landWords []).nvm.badWords, ?_⟩
  rw [State.nvmAcked, hport]
  simp only [State.wordLands, Bool.false_eq_true, if_false, Machine.when, List.isEmpty_nil, if_true, State.jobDone]
  rw [State.endJob, hfor]
  simp only [Machine.when, Bool.and_self, State.landWords] at hset ⊢
  rw [hset, hdrop]
  rfl

theorem last_word_of_record {w : Nat × BitVec 64} (hjobs : s.nvm.jobs = [⟨.eventLog r.seq, true, [w]⟩]) :
    ∃ t, exec (.nvmAck false) s = .next t ∧ t.nvm.jobs = [] ∧ t.nvm.mem = memWriteWord s.nvm.mem w.1 w.2 ∧
      t.evt.queue = rest ∧ t.evt.logSlot = (s.evt.logSlot + 1) % 16384 ∧ t.evt.pseq = r.seq ∧ t.evt.ring = s.evt.ring ∧
      s.changesOnly t [.nvm, .evt, .regs] := by
  obtain ⟨bad, hland⟩ := State.lastWord_lands r.seq w hjobs
  have hfind : s.evt.queue.find? (fun x => x.seq == r.seq) = some r := by
    rw [hqueue]
    exact List.find?_cons_of_pos (beq_self_eq_true _)
  have herase : s.evt.queue.erase r = rest := by rw [hqueue, List.erase_cons_head]
  generalize hu : s.nvmAcked false = u at hland
  have honly {K : List Piece} (hK : .mem ∉ K ∧ .nvm ∉ K ∧ .evt ∉ K ∧ .regs ∉ K) : u.only K = s.only K := by
    rw [hland, State.portNext_only hK.2.1, State.logWritten_only ⟨hK.2.2.2, hK.2.2.1⟩]
    exact State.only_nvm s (by simp [NvmSt.only, hK])
  rw [State.logWritten, hfind] at hland
  simp only [herase] at hland
  refine ⟨_, exec_of_kept (c := .nvmAck false) (congrArg (act true s) hu) rfl hrun (honly (by decide)), ?_, ?_, ?_, ?_, ?_, ?_,
    State.changesOnly_of_only (K := Piece.all.filter fun p => p.part != .nvm && p.part != .evt && p.part != .regs) (honly
        (by decide))
      (by decide)⟩
  all_goals
    rw [hland]
    rfl

end

/-- One step of the scan: the valid record with the greatest LOG_SEQ so far (R417). -/
def State.logStep (s : State) (b : Option (Nat × Nat)) (slot : Nat) : Option (Nat × Nat) :=
  if s.logOk slot then
    let q := numAt (s.mram (logAddr slot) 4) 0 4
    match b with
    | some x => if wrapsAfter q x.2 then some (slot, q) else b
    | none => some (slot, q)
  else b

omit hrun in
theorem logScan_of_none {n : Nat} (h : ∀ i, i < n → s.logOk i = false) : (List.range n).foldl s.logStep none = none := by
  refine List.foldlRecOn (motive := fun b => b = none) _ _ rfl fun b hb i hi => ?_
  rw [State.logStep, h i (List.mem_range.1 hi), hb]
  rfl

omit hrun in
theorem logScan_of_one {n : Nat} (hk : k < n) (h : ∀ i, i < n → s.logOk i = decide (i = k)) :
    (List.range n).foldl s.logStep none = some (k, numAt (s.mram (logAddr k) 4) 0 4) := by
  have hupto (m : Nat) (hm : m ≤ n) :
      (List.range m).foldl s.logStep none = if k < m then some (k, numAt (s.mram (logAddr k) 4) 0 4) else none := by
    induction m with
    | zero => rfl
    | succ m ih =>
      rw [List.range_succ, List.foldl_append, ih (by omega), List.foldl_cons, List.foldl_nil, State.logStep, h m (by omega)]
      by_cases hmk : m = k
      · subst hmk
        simp
      · simp only [hmk, decide_false, Bool.false_eq_true, if_false]
        exact if_congr (by omega) rfl rfl
  rw [hupto n (Nat.le_refl n), if_pos hk]

section
variable (hboot : s.boot.stage = .ready) (hscan : s.evt.logReady = false) (hon : s.domOn 7 = true) (hrdy : s.pins.nvmRdy = true)
include hboot hscan hon hrdy

omit hrun in
/-- What the end of the scan leaves of the log, behind what its reads record. -/
theorem State.logScanned_of_ready : ∃ queue, s.logScanned =
    Machine.when ((List.range 16384).foldl s.logStep none).isNone (fun t => t.stick RF.EVT_LOG_BAD)
      { s.readsOf 0xb0000 0x80000 with evt := { (s.readsOf 0xb0000 0x80000).evt with
        logReady := true,
        logSlot := match (List.range 16384).foldl s.logStep none with | some x => (x.1 + 1) % 16384 | none => 0
        logSeq := match (List.range 16384).foldl s.logStep none with | some x => x.2 | none => 0
        queue := queue } } := by
  have hgo : s.boot.stage = .ready ∧ !s.evt.logReady ∧ s.domOn 7 ∧ s.pins.nvmRdy := ⟨hboot, by rw [hscan]; rfl, hon, hrdy⟩
  unfold State.logScanned
  -- The slots stay opaque, so that the two folds are compared by their steps.
  generalize List.range 16384 = slots
  rw [if_pos hgo]
  exact ⟨_, rfl⟩

theorem log_found_empty (hnone : ∀ i, i < 16384 → s.logOk i = false) :
    ∃ t, exec .logScanDone s = .next t ∧ t.evt.logReady = true ∧ t.evt.logSlot = 0 ∧ t.sticky RF.EVT_LOG_BAD 0 = 1 ∧
      s.changesOnly t [.evt, .regs, .flt, .pins, .pwr] ∧ (s.nvm.badWords = [] → s.changesOnly t [.evt, .regs]) := by
  obtain ⟨queue, hu⟩ := State.logScanned_of_ready hboot hscan hon hrdy
  rw [logScan_of_none hnone] at hu
  have hexec := exec_of_kept (c := .logScanDone) (u := s.logScanned) rfl rfl hrun (State.logScanned_only (by decide) s)
  refine ⟨_, hexec, by rw [hu]; rfl, by rw [hu]; rfl, ?_, ?_, fun hgood => ?_⟩
  · rw [hu]
    exact State.sticky_of_raised rfl (State.stick_raised _ (by decide))
  · exact State.changesOnly_of_only (K :=
      Piece.all.filter fun p => p.part != .evt && p.part != .regs && p.part != .flt && p.part != .pins &&
      p.part != .pwr) (State.logScanned_only (by decide) s) (by decide)
  · rw [hu, State.readsOf_of_clean (by rw [State.nvmClean, hgood]; rfl)]
    exact State.changesOnly_of_only (K := Piece.all.filter fun p => p.part != .evt && p.part != .regs)
      ((State.stick_only (by decide) ..).trans (State.only_evt (by decide) s _)) (by decide)

theorem log_found (hk : k < 16384) (hone : ∀ i, i < 16384 → s.logOk i = decide (i = k)) :
    ∃ t, exec .logScanDone s = .next t ∧ t.evt.logReady = true ∧ t.evt.logSlot = (k + 1) % 16384 ∧
      t.evt.logSeq = numAt (s.mram (logAddr k) 4) 0 4 ∧ s.changesOnly t [.evt, .regs, .flt, .pins, .pwr] ∧
      (s.nvm.badWords = [] → s.changesOnly t [.evt]) := by
  obtain ⟨queue, hu⟩ := State.logScanned_of_ready hboot hscan hon hrdy
  rw [logScan_of_one hk hone] at hu
  have hexec := exec_of_kept (c := .logScanDone) (u := s.logScanned) rfl rfl hrun (State.logScanned_only (by decide) s)
  refine ⟨_, hexec, by rw [hu]; rfl, by rw [hu]; rfl, by rw [hu]; rfl, ?_, fun hgood => ?_⟩
  · exact State.changesOnly_of_only (K :=
      Piece.all.filter fun p => p.part != .evt && p.part != .regs && p.part != .flt && p.part != .pins &&
      p.part != .pwr) (State.logScanned_only (by decide) s) (by decide)
  · rw [hu, State.readsOf_of_clean (by rw [State.nvmClean, hgood]; rfl)]
    exact State.changesOnly_of_only (K := Piece.all.filter fun p => p.part != .evt) (State.only_evt (by decide) s _) (by decide)

end

end

/-! ### The entropy tests (R327) -/

section
variable (hrun : s.running = true)
include hrun

omit hrun in
theorem State.entropyFails_parts (n : Nat) :
    (s.entropyFails n).sec = { s.sec with drbgOk := false, retestAt := some (s.now + 1024) } ∧
      (s.entropyFails n).raised RF.SEC_ENTROPY_FAIL ∧ s.changesOnly (s.entropyFails n) [.sec, .regs, .pins, .evt, .flt, .pwr] := by
  refine ⟨State.sec_of_only ((State.event_only (by decide) ..).trans (State.stick_only (by decide) ..)),
    (State.stick_raised _ (by decide)).mono ((State.keepsSticky.refl _).event ..), ?_⟩
  exact State.changesOnly_of_only (K :=
      Piece.all.filter fun p => p.part != .sec && p.part != .regs && p.part != .pins && p.part != .evt &&
    p.part != .flt && p.part != .pwr) (State.entropyFails_only (by decide) s n) (by decide)

theorem health_test_fails {n : Nat} (hn : n < 3) (hok : s.sec.drbgOk = true) :
    ∃ t, exec (.entropyHealthFail n) s = .next t ∧ t.sec = { s.sec with drbgOk := false, retestAt := some (s.now + 1024) } ∧
      t.sticky RF.SEC_ENTROPY_FAIL 0 = 1 ∧ s.changesOnly t [.sec, .regs, .pins, .evt, .flt, .pwr] := by
  have heq : opEntropyHealthFail n none s = s.entropyFails n := if_pos (by rw [hok]; rfl)
  obtain ⟨hsec, hraised, hframe⟩ := s.entropyFails_parts n
  exact ⟨_, exec_of_kept (c := .entropyHealthFail n) (congrArg (act _ s) heq)
    (by simp [Instr.wellFormed, Instr.units, Instr.partsOk, hn]) hrun (State.entropyFails_only (by decide) s n), hsec,
    State.sticky_of_raised rfl hraised, hframe⟩

section
variable {t0 : Nat} {pass : Bool} {raw : Option (BitVec 1024)} (hfrom : s.sec.retestAt = some t0) (htime : t0 ≤ s.now)
include hfrom htime

theorem retest_passes (hpass : (pass && raw.all (fun w => !rctFails w && !aptFails w)) = true) :
    ∃ t, exec (.entropyRetest pass raw) s = .next t ∧
      t.sec = { s.sec with drbgOk := true, drbgGen := 0, retestAt := none, drbg := t.sec.drbg } ∧
      t.sec.drbg = .instantiate (conditioned (Config.rawBits s.free)) (conditioned (Config.rawBits (s.free + 1))) ∧
      s.changesOnly t [.sec, .free] := by
  have heq : opEntropyRetest pass raw s = ({ s with sec := { s.sec with retestAt := none } } : State).startDrbg := by
    rw [opEntropyRetest, hfrom]
    exact (if_neg (Nat.not_lt.2 htime)).trans (if_pos hpass)
  have honly {K : List Piece} (hK : .sec ∉ K ∧ .free ∉ K) :
      (({ s with sec := { s.sec with retestAt := none } } : State).startDrbg).only K = s.only K :=
    (State.startDrbg_only hK _).trans (State.only_sec s (by simp [SecSt.only, hK]))
  exact ⟨_, exec_of_kept (c := .entropyRetest pass raw) (congrArg (act (Instr.entropyRetest pass raw).wellFormed s) heq)
    (by simp [Instr.wellFormed, Instr.units, Instr.partsOk]) hrun (honly (by decide)), rfl, rfl,
    State.changesOnly_of_only (K := Piece.all.filter fun p => p.part != .sec && p.part != .free) (honly (by decide)) (by decide)⟩

theorem retest_fails (hfail : (pass && raw.all (fun w => !rctFails w && !aptFails w)) = false) :
    ∃ t, exec (.entropyRetest pass raw) s = .next t ∧ t.sec = { s.sec with drbgOk := false, retestAt := some (s.now + 1024) } ∧
      s.changesOnly t [.sec, .regs, .pins, .evt, .flt, .pwr] := by
  have heq : opEntropyRetest pass raw s = s.entropyFails 2 := by
    rw [opEntropyRetest, hfrom]
    exact (if_neg (Nat.not_lt.2 htime)).trans (if_neg (by rw [hfail]; decide))
  obtain ⟨hsec, -, hframe⟩ := s.entropyFails_parts 2
  exact ⟨_, exec_of_kept (c := .entropyRetest pass raw) (congrArg (act (Instr.entropyRetest pass raw).wellFormed s) heq)
    (by simp [Instr.wellFormed, Instr.units, Instr.partsOk]) hrun (State.entropyFails_only (by decide) s 2), hsec, hframe⟩

end

end

end

/-- Settles O49, each command in a lemma of its own: the scan is a fold of `State.logStep`,
    and a failed read of the log's words leaves
the copied words as they are (`RegSt.tallied`). -/
theorem eventsAndEntropy : Obligations.EventsAndEntropy := by
  refine ⟨fun s a k r rest w hcourse => ⟨fun hk hopen => ⟨record_viewed hcourse hk hopen, missing_record_viewed hcourse hk hopen⟩,
    fun hk hopen hrdy => ⟨good_slot_viewed hcourse hk hopen hrdy, bad_slot_viewed hcourse hk hopen hrdy⟩,
    newest_record_queued, fun hrun hqueue hon hrdy => ⟨record_written_to_log hrun hqueue hon hrdy, fun hjobs _ =>
      last_word_of_record hrun hqueue hjobs⟩, fun hrun hboot hscan hon hrdy => ⟨log_found_empty hrun hboot hscan hon hrdy,
      log_found hrun hboot hscan hon hrdy⟩, lock_burns hcourse⟩,
    fun s n t0 pass raw hrun => ⟨health_test_fails hrun, fun hfrom htime => ⟨retest_passes hrun hfrom htime,
        retest_fails hrun hfrom htime⟩⟩⟩

end Sys2Proof.Machine
end

section
set_option Elab.async false
/-! PROOFS. The commands of CRS_CTL (R139, R149 to R153). -/

namespace Sys2Proof.Machine

/-! ### The lanes of a course -/

theorem forAll_setLane_lane_of_not_mem {c l : Nat} {f : Lane → Lane} {L : List Nat} (hl : l ∉ L) (s : State) :
    (forAll L (fun l t => t.setLane c l f) s).lane c l = s.lane c l := by
  induction L generalizing s with
  | nil => rfl
  | cons k L ih =>
    rw [List.mem_cons, not_or] at hl
    rw [forAll_cons, ih hl.2, State.setLane_lane_of_ne _ _ _ hl.1]

theorem State.setLanes_lane (s : State) (c : Nat) (f : Lane → Lane) {l : Nat} (hl : l < 17) :
    (s.setLanes c f).lane c l = f (s.lane c l) := by
  have hgen (L : List Nat) (hnodup : L.Nodup) (hmem : l ∈ L) (s : State) :
      (forAll L (fun l t => t.setLane c l f) s).lane c l = f (s.lane c l) := by
    induction L generalizing s with
    | nil => exact absurd hmem List.not_mem_nil
    | cons k L ih =>
      obtain ⟨hk, hnodup⟩ := List.nodup_cons.1 hnodup
      rw [forAll_cons]
      obtain rfl | hmem := List.mem_cons.1 hmem
      · rw [forAll_setLane_lane_of_not_mem hk, State.setLane_lane_self]
      · rw [ih hnodup hmem, State.setLane_lane_of_ne _ _ _ (ne_of_mem_of_not_mem hmem hk)]
  exact hgen _ List.nodup_range (List.mem_range.2 hl) s

theorem State.lanes_of_only {s t : State} (h : t.only [.lanes] = s.only [.lanes]) (c l : Nat) : t.lane c l = s.lane c l :=
  congrArg (fun x => x.lane c l) h

/-! ### CRS_CTL as its write carries it -/

section
variable {s : State} {a : Access} {c d : Nat}

theorem crsCtl_register : ∀ c, c < 12 → regKind (crsAt c 0x10) = .reg .crs c 0x10 false ∧ pageDomain (crsAt c 0x10) < 8 ∧
    crsAt c 0x10 ≠ 0x88 := by decide

theorem State.writeActs_crsCtl (hc : c < 12) (path : Path) (v : Word) : s.writeActs path 2 (crsAt c 0x10) v = s.crsCtl c v := by
  interval_cases c <;> rfl

theorem exec_crsCtl {i : Instr} {v : Word} (hi : exec i s = act i.wellFormed s (s.writeReg a (crsAt c 0x10) v none true))
    (hc : c < 12)
    (hopen : s.writeOpen a (crsAt c 0x10) v) :
    exec i s = act i.wellFormed s ((s.crsCtl c (v &&& fieldMask (fieldsOfWord .crs 0x10))).ackWrite a
        (crsAt c 0x10) v none false) := by
  obtain ⟨hreg, hdom, hoff⟩ := crsCtl_register c hc
  rw [hi, State.writeReg_of_command hopen hreg hdom hoff (by decide) (by decide), State.writeActs_crsCtl hc]

/-! ### The commands -/

theorem course_fenced_by_command (hcourse : a.course < 12) (hc : c < 12) (hd : d < 12) (hne : d ≠ c)
    (hopen : s.writeOpen a (crsAt c 0x10) 2#32) (htx : (s.course c).tx ≠ .fenced) (hup : (s.course d).up = true) :
    ∃ t, exec (.crsFence a c) s = .next t ∧ (t.course c).tx = .fenced ∧ (t.course c).up = false ∧
      (t.course c).fenceWhy = some .command ∧ t.marked .course c = true ∧
      (t.course d).downs = (s.course d).downs ++ [courseDownCell c 2 (((s.course c).expect + 2 ^ 48 - 1) % 2 ^ 48)] := by
  have hu : s.crsCtl c (2#32 &&& fieldMask (fieldsOfWord .crs 0x10)) = s.fenceCourse c .command := by
    rw [State.crsCtl, show 2#32 &&& fieldMask (fieldsOfWord .crs 0x10) = 2#32 by decide]
    rfl
  obtain ⟨t, hexec, hseen, -⟩ := exec_write_seen (hu ▸ exec_crsCtl (i := .crsFence a c) rfl hc hopen)
    (by simp [Instr.wellFormed, Instr.units, Instr.partsOk, hcourse, hc]) hopen.1 [.courses, .flt]
  have hfenced := (State.fenceCourse_of_live htx hc .command).of_only hseen
  exact ⟨t, hexec, hfenced.tx, hfenced.up, hfenced.why, hfenced.marked, hfenced.downs d hd hne hup⟩

theorem course_unfenced (hcourse : a.course < 12) (hc : c < 12) (hopen : s.writeOpen a (crsAt c 0x10) 4#32)
    (htx : (s.course c).tx = .fenced) :
    ∃ t, exec (.crsUnfence a c) s = .next t ∧ (t.course c).tx = .down ∧ (t.course c).expect = 0 ∧ (t.course c).next = 0 ∧
      (t.course c).unfenceAt = some s.now ∧ (t.course c).held = (s.course c).held ∧ t.marked .course c = false ∧
      ∀ l, l < 17 → (t.lane c l).st = .hunt := by
  generalize hx : ({ Course.init with
    unfenceAt := some s.now, held := (s.course c).held, waitPeer := (s.course c).waitPeer, retrains := [],
    last := (s.course c).last } : Course) = x
  have hu : s.crsCtl c (4#32 &&& fieldMask (fieldsOfWord .crs 0x10)) =
      ((s.setCourse c (fun x => { Course.init with
        unfenceAt := some s.now, held := x.held, waitPeer := x.waitPeer, retrains := [], last := x.last })).setLanes c
          (fun x => { x.hunt with pd := false, txv := true, eqReq := true, leftAt := none })).serviceBack .course c := by
    rw [State.crsCtl, show 4#32 &&& fieldMask (fieldsOfWord .crs 0x10) = 4#32 by decide]
    exact if_neg (not_not.2 htx)
  obtain ⟨t, hexec, hseen, -⟩ := exec_write_seen (hu ▸ exec_crsCtl (i := .crsUnfence a c) rfl hc hopen)
    (by simp [Instr.wellFormed, Instr.units, Instr.partsOk, hcourse, hc]) hopen.1 [.courses, .lanes, .flt]
  have hback := (State.only_mono (K := [.courses, .lanes]) (by decide) hseen).trans (State.serviceBack_only (by decide) ..)
  have htc : t.course c = x := by
    rw [State.courses_of_only ((State.only_mono (by decide) hback).trans (State.setLanes_only (by decide) ..)),
      State.setCourse_course_self, hx]
  refine ⟨t, hexec, by rw [htc, ← hx]; rfl, by rw [htc, ← hx]; rfl, by rw [htc, ← hx]; rfl, by rw [htc, ← hx], by rw [htc, ← hx],
      ?_, fun l hl => ?_⟩
  · rw [State.marked_of_marks (State.flt_marks_of_only (State.only_mono (by decide) hseen)), State.serviceBack_marked]
  · rw [State.lanes_of_only (State.only_mono (by decide) hback), State.setLanes_lane _ _ _ hl]
    rfl

/-- A course in RUN that has not been retrained of late is retrained without a fence. -/
theorem State.enterRetrain_of_first (htx : (s.course c).tx = .run) (hnone : (s.course c).retrains = []) :
    ∃ l, s.enterRetrain c = (((s.setLanes c (fun x => if x.st = .failed then x.hunt else x)).setCourse c Course.still).setCourse c
      (fun x => { x with
        tx := .retrain, run := [], spareRx := 16, spareTx := 16, retrains := l,
        retrainAt := some s.now, limitAt := some (s.now + s.rf RF.LNK_RETRAIN_LIMIT) })).followRef := by
  refine ⟨if s.otherUp c then [s.now] else [], ?_⟩
  have hlen : decide (3 ≤ (if s.otherUp c then [s.now] else []).length) = false := by split <;> rfl
  rw [State.enterRetrain, hnone, List.filter_nil, List.append_nil]
  refine (if_neg (by rw [htx]; decide)).trans ((if_neg (by rw [htx]; decide)).trans (if_neg ?_))
  rw [hlen, Bool.false_and]
  decide

theorem course_retrained_by_command (hcourse : a.course < 12) (hc : c < 12) (hopen : s.writeOpen a (crsAt c 0x10) 1#32)
    (htx : (s.course c).tx = .run) (hnone : (s.course c).retrains = []) :
    ∃ t, exec (.crsRetrain a c) s = .next t ∧ (t.course c).tx = .retrain ∧ (t.course c).up = false ∧
      (t.course c).retrainAt = some s.now ∧ (t.course c).limitAt = some (s.now + s.rf RF.LNK_RETRAIN_LIMIT) ∧
      (∀ l, l < 17 → (t.lane c l).st = .hunt) := by
  have hu : s.crsCtl c (1#32 &&& fieldMask (fieldsOfWord .crs 0x10)) =
      ((s.countBy (crsAt c 0x140) (s.lockedLanes c)).setLanes c (fun x => { x.hunt with leftAt := none })).enterRetrain c := by
    rw [State.crsCtl, show 1#32 &&& fieldMask (fieldsOfWord .crs 0x10) = 1#32 by decide]
    exact if_neg (htx ▸ (by decide : TxState.run ≠ .fenced))
  generalize hw : (s.countBy (crsAt c 0x140) (s.lockedLanes c)).setLanes c (fun x => { x.hunt with leftAt := none }) = w at hu
  have hwc : w.course c = s.course c := hw ▸ State.courses_of_only (State.setLanes_only (by decide) ..) c
  have hwlane {l : Nat} (hl : l < 17) : (w.lane c l).st = .hunt := by rw [← hw, State.setLanes_lane _ _ _ hl]; rfl
  have hwnow : w.now = s.now := hw ▸ State.now_of_only (State.setLanes_only (by decide) ..)
  have hwrf : w.rf RF.LNK_RETRAIN_LIMIT = s.rf RF.LNK_RETRAIN_LIMIT :=
    hw ▸ State.rf_of_only ((State.setLanes_only (by decide) ..).trans (State.countBy_only (by decide) ..)) _
  obtain ⟨l, hfirst⟩ := State.enterRetrain_of_first (s := w) (c := c) (by rw [hwc, htx]) (by rw [hwc, hnone])
  rw [hfirst, hwnow, hwrf] at hu
  obtain ⟨t, hexec, hseen, -⟩ := exec_write_seen (hu ▸ exec_crsCtl (i := .crsRetrain a c) rfl hc hopen)
    (by simp [Instr.wellFormed, Instr.units, Instr.partsOk, hcourse, hc]) hopen.1 [.courses, .lanes]
  have hall := hseen.trans (State.followRef_only (by decide) _)
  have htc := State.courses_of_only (State.only_mono (by decide) hall) c
  rw [State.setCourse_course_self, State.setCourse_course_self] at htc
  refine ⟨t, hexec, by rw [htc], by rw [htc]; rfl, by rw [htc], by rw [htc], fun l hl => ?_⟩
  have htl := State.lanes_of_only ((State.only_mono (K := [.lanes]) (by decide) hall).trans
    ((State.setCourse_only (by decide) ..).trans (State.setCourse_only (by decide) ..))) c l
  rw [htl, State.setLanes_lane _ _ _ hl]
  split
  · rfl
  · exact hwlane hl

end

/-- Settles O18, each command of CRS_CTL in a lemma of its own: a course's first retraining of late fences nothing. -/
theorem courseCommandsAct : Obligations.CourseCommandsAct :=
  fun _ _ _ _ hcourse hc hd hne _ => ⟨fun hopen htx hup _ => course_fenced_by_command hcourse hc hd hne hopen htx hup,
    course_unfenced hcourse hc, course_retrained_by_command hcourse hc⟩

end Sys2Proof.Machine
end

section
set_option Elab.async false
/-! PROOFS. Corrections (R352, R353, R360) and retrainings (R346, R348, R358). -/

namespace Sys2Proof.Machine

/-- A READY machine that holds no commit and is not fenced has nothing to go on with. -/
theorem State.goOn_of_ready {s : State} (hcommits : s.regs.commits = []) (hstage : s.boot.stage = .ready)
    (hrole : s.pair.role ≠ .fenced) :
    s.goOn = s := by
  have hsettle : s.settleG2 = s := by
    rw [State.settleG2, State.applying, hcommits]
  have htrain : s.trainingOver = s := if_neg fun h => by rw [hstage] at h; exact absurd h.1 (by decide)
  have hboot : s.bootGoesOn = s := by
    simp only [State.bootGoesOn, htrain, hstage, reduceCtorEq, false_and, if_false]
  rw [State.goOn, hsettle, hboot]
  exact if_neg fun h => hrole h.1

section
variable {s : State} {a : Access} {ch : Nat} {p : Corr} {full : Bool} {res : TrainResult}

theorem State.setCalCh_self (f : CalChan → CalChan) : (s.setCalCh ch f).calCh ch = f (s.calCh ch) := Tbl.get_upd_self ..

theorem State.setCalCh_of_ne (f : CalChan → CalChan) {i : Nat} (h : i ≠ ch) : (s.setCalCh ch f).calCh i = s.calCh i :=
    Tbl.get_upd_ne _ _ h

theorem State.calCh_of_only {s t : State} (h : t.only [.cal] = s.only [.cal]) (i : Nat) : t.calCh i = s.calCh i :=
  congrArg (fun x => x.calCh i) h

/-! ### Corrections -/

@[simp] theorem CalChan.move_count (c : CalChan) (k : Nat) (d : Int) : (c.move k d).count = c.count := by
  unfold CalChan.move
  split <;> rfl

/-- A command that changes one channel's calibration, beside the registers, but not what goes to the partner. -/
theorem exec_of_calCh {c : Instr} {u : State} (f : CalChan → CalChan) (h : exec c s = act c.wellFormed s u)
    (hwf : c.wellFormed = true)
    (hrun : s.running = true) (hu : u.only (Piece.all.filter fun p => p != .regs) =
      (s.setCalCh ch f).only (Piece.all.filter fun p => p != .regs)) (hcount : (f (s.calCh ch)).count = (s.calCh ch).count) :
    exec c s = .next u ∧ u.calCh ch = f (s.calCh ch) ∧ (∀ i, i ≠ ch → u.calCh i = s.calCh i) ∧ s.changesOnly u [.cal, .regs] := by
  have hcal (i : Nat) : u.calCh i = (s.setCalCh ch f).calCh i := State.calCh_of_only (State.only_mono (by decide) hu) i
  have hrest : u.only (Piece.all.filter fun p => p != .regs && p != .cal) = s.only
      (Piece.all.filter fun p => p != .regs && p != .cal) :=
    (State.only_mono (by decide) hu).trans (State.setCalCh_only (by decide) ..)
  have hself : u.calCh ch = f (s.calCh ch) := (hcal ch).trans (State.setCalCh_self f)
  have hothers (i : Nat) (hi : i ≠ ch) : u.calCh i = s.calCh i := (hcal i).trans (State.setCalCh_of_ne f hi)
  refine ⟨exec_of_alike h hwf hrun ⟨?_, fun i => ?_, ?_, ?_, ?_, ?_, ?_⟩ (State.inputsAlike_of_only (State.only_mono
      (by decide) hrest)),
    hself, hothers, State.changesOnly_of_only hrest (by decide)⟩
  · exact fun i => congrArg (fun x => (x.rmap i).seq) hrest
  · by_cases hi : i = ch
    · rw [hi, hself, hcount]
    · rw [hothers i hi]
  · exact fun i => congrArg (fun x => (x.chan i).backlog) hrest
  · exact fun i b => congrArg (fun x => (x.chan i).base b) hrest
  · exact congrArg (fun x => x.sec.own) hrest
  · exact congrArg (fun x => x.trx.keyOps) hrest
  · exact congrArg (fun x => x.regs.doneEpoch) hrest

section
variable (hrun : s.running = true) (hch : ch < 64) (hpending : (s.calCh ch).pending = [p])
include hrun hch hpending

theorem correction_slewed (hwait : p.wait = false) (hheld : s.trimsHeld ch = false) (hbursts : 64 ≤ (s.calCh ch).burstCount)
    (hflights : (s.chan ch).flights = []) :
    ∃ t, exec (.slewStep ch) s = .next t ∧
      t.calCh ch = { (s.calCh ch).move p.trim (oneStep p.steps) with
        pending := if p.steps - oneStep p.steps = 0 then [] else [{ p with steps := p.steps - oneStep p.steps }],
        burstCount := 0 } ∧
      (∀ i, i ≠ ch → t.calCh i = s.calCh i) ∧ s.changesOnly t [.cal, .regs] := by
  have hrest : [p].filterMap (fun p => if p.wait then some p
      else if p.steps - oneStep p.steps = 0 then none else some { p with steps := p.steps - oneStep p.steps }) =
      if p.steps - oneStep p.steps = 0 then [] else [{ p with steps := p.steps - oneStep p.steps }] := by
    simp only [List.filterMap_cons, hwait, Bool.false_eq_true, if_false, List.filterMap_nil]
    split <;> simp_all
  have hslewed : [p].filter (fun p => !p.wait) = [p] := by simp [hwait]
  have heq : s.slewOnce ch = (s.setCalCh ch (fun _ => { (s.calCh ch).move p.trim (oneStep p.steps) with
      pending := if p.steps - oneStep p.steps = 0 then [] else [{ p with steps := p.steps - oneStep p.steps }],
      burstCount := 0 })).countBy 0x7110 1 := by
    rw [State.slewOnce, hpending, hslewed, hrest, hheld]
    exact if_pos ⟨hbursts, by simp, hflights, rfl⟩
  exact ⟨_, exec_of_calCh (c := .slewStep ch) _ (congrArg (act (Instr.slewStep ch).wellFormed s) heq)
    (by simp [Instr.wellFormed, Instr.units, Instr.partsOk, hch]) hrun (State.countBy_only (by decide) ..) (CalChan.move_count ..)⟩

theorem correction_applied_whole (hwait : p.wait = true) (hheld : s.trimsHeld ch = false) (hflights : (s.chan ch).flights = []) :
    ∃ t, exec (.idlePeriod ch) s = .next t ∧
      t.calCh ch = { (s.calCh ch).move p.trim p.steps with pending := [], burstCount := 0 } ∧
      (∀ i, i ≠ ch → t.calCh i = s.calCh i) ∧ s.changesOnly t [.cal, .regs] := by
  have heq : s.applyIdle ch =
      (s.setCalCh ch (fun _ => { (s.calCh ch).move p.trim p.steps with pending := [], burstCount := 0 })).count 0x7118 := by
    rw [State.applyIdle, hpending, hheld, hflights]
    exact if_pos (by simp [hwait])
  exact ⟨_, exec_of_calCh (c := .idlePeriod ch) _ (congrArg (act (Instr.idlePeriod ch).wellFormed s) heq)
    (by simp [Instr.wellFormed, Instr.units, Instr.partsOk, hch]) hrun (State.count_only (by decide) ..) (CalChan.move_count ..)⟩

theorem correction_forced (hwait : p.wait = true) (htime : (s.calCh ch).waitSince + s.rf RF.CAL_IDLE_WAIT ≤ s.now) :
    ∃ t, exec (.idleWaitExpiry ch) s = .next t ∧ (t.calCh ch).pending = [{ p with wait := false, forced := true }] ∧
      t.sticky RF.CAL_SLEW_FORCED 0 = 1 ∧ (∀ i, i ≠ ch → t.calCh i = s.calCh i) ∧ s.changesOnly t [.cal, .regs] := by
  have heq : s.forceSlew ch = (s.setCalCh ch (fun c => { c with
      pending := c.pending.map (fun p => { p with wait := false, forced := p.forced || p.wait }) })).stick RF.CAL_SLEW_FORCED := by
    rw [State.forceSlew]
    exact if_pos (by simp [hpending, hwait, htime])
  obtain ⟨hexec, hself, hothers, hframe⟩ := exec_of_calCh (c := .idleWaitExpiry ch) _ (congrArg (act
      (Instr.idleWaitExpiry ch).wellFormed s) heq)
    (by simp [Instr.wellFormed, Instr.units, Instr.partsOk, hch]) hrun (State.stick_only (by decide) ..) rfl
  exact ⟨_, hexec, by rw [hself, hpending]; simp [hwait], State.sticky_of_raised rfl (State.stick_raised _ (by decide)), hothers,
      hframe⟩

end

/-! ### Retrainings -/

theorem State.retrain_of_idle (hidle : (s.calCh ch).retraining = false) (bits : List Nat) :
    ((s.retrain ch full bits).calCh ch) = { s.calCh ch with
      retraining := true, fullRun := full, inFull := full, step5 := bits, transfers := 0, verified := 0 } ∧
    ∀ i, i ≠ ch → (s.retrain ch full bits).calCh i = s.calCh i := by
  have hcal (i : Nat) : (s.retrain ch full bits).calCh i = (s.setCalCh ch (fun c => { c with
      retraining := true, fullRun := full, inFull := full, step5 := bits, transfers := 0, verified := 0 })).calCh i := by
    unfold State.retrain
    simp only [hidle]
    exact State.calCh_of_only ((State.agentAsks_only (by decide) ..).trans ((State.setChan_only (by decide) ..).trans
      ((State.refreshAsks_only (by decide) ..).trans (State.count_only (by decide) ..)))) i
  exact ⟨(hcal ch).trans (State.setCalCh_self _), fun i hi => (hcal i).trans (State.setCalCh_of_ne _ hi)⟩

theorem retraining_starts (hcourse : a.course < 12) (hch : ch < 32)
    (hopen : s.writeOpen a 0x7028 (BitVec.ofNat 32 (ch + b2n full * 2 ^ 31))) (hidle : (s.calCh ch).retraining = false) :
    ∃ t, exec (.calRetrain a ch full) s = .next t ∧ (t.calCh ch).retraining = true ∧ (t.calCh ch).inFull = full ∧
      (t.calCh ch).trims = (s.calCh ch).trims ∧ (∀ i, i ≠ ch → t.calCh i = s.calCh i) ∧ t.array = s.array ∧ t.nvm = s.nvm ∧
      t.link = s.link := by
  have hnum : fieldNat (BitVec.ofNat 32 (ch + b2n full * 2 ^ 31) &&& fieldMask (fieldsOfWord .cal 0x28)) 4 0 = ch := by
    rw [fieldNat_and_of_covered (by decide), fieldNat, BitVec.toNat_ofNat]
    cases full <;> simp only [b2n] <;> omega
  have hbit : bitAt (BitVec.ofNat 32 (ch + b2n full * 2 ^ 31) &&& fieldMask (fieldsOfWord .cal 0x28)) 31 = full := by
    rw [bitAt, BitVec.getLsbD_and, show (fieldMask (fieldsOfWord .cal 0x28)).getLsbD 31 = true by decide, Bool.and_true,
      BitVec.getLsbD_ofNat, Nat.testBit_eq_decide_div_mod_eq]
    cases full <;> simp only [b2n] <;> simp <;> omega
  have hwrite := State.writeReg_of_command hopen (pg := .cal) (n := 0) (x := 0x28) (by decide) (by decide) (by decide) (by decide)
    (by decide)
  rw [State.writeActs, hnum, hbit] at hwrite
  obtain ⟨t, hexec, hseen, -⟩ := exec_write_seen (c := .calRetrain a ch full)
    (congrArg (act (Instr.calRetrain a ch full).wellFormed s) hwrite)
    (by simp [Instr.wellFormed, Instr.units, Instr.partsOk, hcourse, hch]) hopen.1
    [.cal, .array, .mem, .nvm, .lanes, .courses, .link]
  have hrest := (State.only_mono (K := [.array, .mem, .nvm, .lanes, .courses, .link]) (by decide) hseen).trans
    (State.retrain_only (by decide) ..)
  have hcal := State.calCh_of_only (State.only_mono (by decide) hseen)
  obtain ⟨hself, hothers⟩ := State.retrain_of_idle (full := full) hidle []
  refine ⟨t, hexec, by rw [hcal, hself], by rw [hcal, hself], by rw [hcal, hself], fun i hi => by rw [hcal, hothers i hi], ?_,
      ?_, ?_⟩
  · exact State.array_of_only (State.only_mono (by decide) hrest)
  · exact State.nvm_of_only (State.only_mono (by decide) hrest)
  · exact State.link_of_only (State.only_mono (by decide) hrest)

/-! ### What a passed retraining leaves -/

theorem State.writeSet_calCh (t temp : Nat) (trims : Trims) (est : Bool) (i : Nat) :
    (s.writeSet ch t temp trims est).calCh i = s.calCh i := by
  unfold State.writeSet
  split
  · rfl
  · exact (State.calCh_of_only ((State.count_only (by decide) ..).trans (State.nvmJob_only (by decide) ..)) i).trans rfl

theorem State.rewriteSet_calCh (temp : Nat) (trims : Trims) (i : Nat) : (s.rewriteSet ch temp trims).calCh i = s.calCh i := by
  unfold State.rewriteSet State.rewriteUnder
  exact (apply_ite (fun t : State => t.calCh i) ..).trans (by rw [State.writeSet_calCh, ite_self])

/-- The state in which the trims of a retraining have come into force, its result is recorded and its run is counted. -/
def State.applyRetrain (s : State) (ch : Nat) (r : TrainResult) : State :=
  ((((s.testsOff ch).setCalCh ch (fun c => c.retrained r.trims c.inFull
      (s.chan ch).temp)).retrainEvent ch 0).calCounts ch).quarReady ch

theorem State.applyRetrain_only {K : List Piece} (hK : (.regs ∉ K ∧ .pins ∉ K ∧ .evt ∉ K ∧ .pinFlt ∉ K ∧ .doms ∉ K ∧ .pwr ∉ K) ∧
    .chans ∉ K ∧ .cal ∉ K ∧ .trx ∉ K) : (s.applyRetrain ch res).only K = s.only K := by
  obtain ⟨hevent, hchans, hcal, htrx⟩ := hK
  exact (State.quarReady_only htrx ..).trans ((State.calCounts_only hcal ..).trans ((State.retrainEvent_only hevent ..).trans
    ((State.setCalCh_only hcal ..).trans (State.testsOff_only hchans ..))))

/-- Where no unit waits for the retraining, its end leaves the arbiters of the queues beside. -/
theorem State.retrainPassed_of_none (hnone : s.flt.unfencing = []) : ∃ temp trims, s.retrainPassed ch res =
    forAll [Agent.rtq, .rdq, .wrd] (fun a t => t.agentAsks ch a)
        (((s.applyRetrain ch res).rewriteSet ch temp trims).unfencingDone ch) := by
  have hflt (temp : Nat) (trims : Trims) : ((s.applyRetrain ch res).rewriteSet ch temp trims).flt.unfencing = [] := by
    rw [← hnone]
    exact congrArg (fun x => x.flt.unfencing) ((State.rewriteSet_only (K := [.flt]) (by decide) ..).trans
        (State.applyRetrain_only (by decide)))
  have hback (temp : Nat) (trims : Trims) : ((s.applyRetrain ch res).rewriteSet ch temp trims).unfencingOf ch = [] := by
    rw [State.unfencingOf, hflt, List.filter_nil]
  refine ⟨(s.chan ch).temp, (s.applyRetrain ch res).trimsOfCh ch, ?_⟩
  unfold State.retrainPassed
  extract_lets temp t1 t2 t3 back t4
  have hnil : back = [] := hback temp _
  have hnone : t4 = t3.unfencingDone ch := by rw [show t4 = forAll back (fun u t => t.serviceBack u.1 u.2)
      (t3.unfencingDone ch) from rfl, hnil, forAll_nil]
  rw [hnone]
  rfl

theorem State.applyRetrain_calCh (i : Nat) : (s.applyRetrain ch res).calCh i = if i = ch then
    { (s.calCh ch).retrained res.trims (s.calCh ch).inFull (s.chan ch).temp with
      count := ((s.calCh ch).count + 1) % 2 ^ 32, last := s.time.stamp } else s.calCh i := by
  unfold State.applyRetrain
  generalize ht : (s.testsOff ch).setCalCh ch (fun c => c.retrained res.trims c.inFull (s.chan ch).temp) = t
  have hoff (i : Nat) : (s.testsOff ch).calCh i = s.calCh i := State.calCh_of_only (State.testsOff_only (by decide) ..) i
  have hevent (i : Nat) : (t.retrainEvent ch 0).calCh i = t.calCh i := State.calCh_of_only (State.retrainEvent_only
      (by decide) ..) i
  have hstamp : (t.retrainEvent ch 0).time = s.time := by
    rw [← ht]
    exact State.time_of_only ((State.retrainEvent_only (by decide) ..).trans
      ((State.setCalCh_only (by decide) ..).trans (State.testsOff_only (by decide) ..)))
  rw [State.calCh_of_only (State.quarReady_only (by decide) ..), State.calCounts]
  split
  next h => rw [h, State.setCalCh_self, hevent, hstamp, ← ht, State.setCalCh_self, hoff]; rfl
  next h => rw [State.setCalCh_of_ne _ h, hevent, ← ht, State.setCalCh_of_ne _ h, hoff]

/-- The trims that a retraining without a waiting unit leaves: they are in force, and the run is counted. -/
theorem State.retrainPassed_calCh (hnone : s.flt.unfencing = []) (i : Nat) :
    (s.retrainPassed ch res).calCh i = if i = ch then
      { (s.calCh ch).retrained res.trims (s.calCh ch).inFull (s.chan ch).temp with
        count := ((s.calCh ch).count + 1) % 2 ^ 32, last := s.time.stamp } else s.calCh i := by
  obtain ⟨temp, trims, heq⟩ := State.retrainPassed_of_none (ch := ch) (res := res) hnone
  rw [heq, ← State.applyRetrain_calCh]
  refine (State.calCh_of_only (State.only_forAll (fun _ _ => State.agentAsks_only (by decide) ..) _ _) i).trans ?_
  exact State.rewriteSet_calCh ..

theorem State.retrainPassed_array (hnone : s.flt.unfencing = []) : (s.retrainPassed ch res).only [.array] = s.only [.array] := by
  obtain ⟨temp, trims, heq⟩ := State.retrainPassed_of_none (ch := ch) (res := res) hnone
  rw [heq]
  refine (State.only_forAll (fun _ _ => State.agentAsks_only (by decide) ..) _ _).trans ?_
  exact (State.only_flt _ (by rfl)).trans ((State.rewriteSet_only (by decide) ..).trans (State.applyRetrain_only (by decide)))

section
variable (hrun : s.running = true) (hidle : s.nothingWaits) (hch : ch < 64) (hwf : res.wellFormed = true)
  (hretrain : (s.calCh ch).retraining = true) (hpart : (s.calCh ch).inFull = false) (hfull : (s.calCh ch).fullRun = false)
  (hstep : (s.calCh ch).step5 = []) (hdq : dqBad res = []) (hcmd : cmdBad res = []) (hall : res.strobeAll = false)
  (hsids : res.strobeSids = []) (hreset : res.resetFailed = false)
include hretrain hpart hfull hstep hdq hcmd hall hsids hreset

/-- A retraining of steps 3, 4 and 6 whose TSVs are good is judged by its verification, its preamble and its narrowed sweeps. -/
theorem State.endRetrain_of_narrow : s.endRetrain ch res =
    if (!res.verifyPassed || !gateOk res || !narrowed (s.calCh ch).trims res.trims) = true then
      (s.retrainEvent ch 1).setCalCh ch (fun c => { c with inFull := true, step5 := [], transfers := 0, verified := 0 })
    else s.retrainPassed ch res := by
  unfold State.endRetrain
  simp only [hretrain, hpart, hfull, hstep, hdq, hcmd, hall, hsids, hreset, List.filter_nil, State.steerDq, List.any_nil,
      Bool.not_true,
    Bool.false_or, List.isEmpty_nil, Bool.or_false]
  generalize (!res.verifyPassed || !gateOk res || !narrowed (s.calCh ch).trims res.trims) = bad
  cases bad <;> rfl

include hrun hidle hch hwf

omit hretrain hpart hfull hstep hdq hcmd hall hsids hreset in
/-- RETRAIN_COMPLETE at a machine in which nothing waits. -/
theorem exec_retrainComplete {u : State} (hu : s.endRetrain ch res = u)
    (hkept : u.only [.commits, .boot, .role] = s.only [.commits, .boot, .role]) (K : List Piece)
    (hK : (.regs ∉ K ∧ .sec ∉ K ∧ .pair ∉ K ∧ .free ∉ K) ∧ .inputs ∉ K ∧ .pending ∉ K := by decide) :
    ∃ t, exec (.retrainComplete ch res) s = .next t ∧ t.only K = u.only K := by
  obtain ⟨hcommits, -, -, -, -, -, hstage, hrole⟩ := hidle
  have hgo : (s.endRetrain ch res).goOn = u := by
    rw [hu]
    refine State.goOn_of_ready ?_ ?_ ?_
    · rw [← hcommits]
      exact congrArg (fun x => x.regs.commits) hkept
    · rw [← hstage]
      exact congrArg (fun x => x.boot.stage) hkept
    · rw [show u.pair.role = s.pair.role from congrArg (fun x => x.pair.role) hkept]
      exact hrole
  exact exec_seen (c := .retrainComplete ch res) (congrArg (act (Instr.retrainComplete ch res).wellFormed s) hgo)
    (by simp [Instr.wellFormed, Instr.units, Instr.partsOk, hch, hwf]) hrun K hK

theorem retraining_goes_full (hverify : res.verifyPassed = false) :
    ∃ t, exec (.retrainComplete ch res) s = .next t ∧ (t.calCh ch).retraining = true ∧ (t.calCh ch).inFull = true ∧
      (t.calCh ch).trims = (s.calCh ch).trims ∧ (∀ i, i ≠ ch → t.calCh i = s.calCh i) ∧ t.array = s.array ∧ t.nvm = s.nvm ∧
      t.link = s.link := by
  have hu := State.endRetrain_of_narrow hretrain hpart hfull hstep hdq hcmd hall hsids hreset
  rw [if_pos (by rw [hverify]; rfl)] at hu
  have honly {K : List Piece} (hK : (.regs ∉ K ∧ .pins ∉ K ∧ .evt ∉ K ∧ .pinFlt ∉ K ∧ .doms ∉ K ∧ .pwr ∉ K) ∧ .cal ∉ K) :
      ((s.retrainEvent ch 1).setCalCh ch (fun c => { c with inFull := true, step5 := [], transfers := 0, verified := 0 })).only K =
        s.only K := (State.setCalCh_only hK.2 ..).trans (State.retrainEvent_only hK.1 ..)
  obtain ⟨t, hexec, hseen⟩ := exec_retrainComplete hrun hidle hch hwf hu
    (honly (by decide)) [.cal, .array, .mem, .nvm, .lanes, .courses, .link]
  have hrest := (State.only_mono (K := [.array, .mem, .nvm, .lanes, .courses, .link]) (by decide) hseen).trans (honly (by decide))
  have hevent (i : Nat) : (s.retrainEvent ch 1).calCh i = s.calCh i := State.calCh_of_only (State.retrainEvent_only
      (by decide) ..) i
  have hcal := State.calCh_of_only (State.only_mono (by decide) hseen)
  have hself : t.calCh ch = { s.calCh ch with inFull := true, step5 := [], transfers := 0, verified := 0 } := by
    rw [hcal, State.setCalCh_self, hevent]
  refine ⟨t, hexec, by rw [hself, ← hretrain], by rw [hself], by rw [hself], fun i hi => ?_, ?_, ?_, ?_⟩
  · rw [hcal, State.setCalCh_of_ne _ hi, hevent]
  · exact State.array_of_only (State.only_mono (by decide) hrest)
  · exact State.nvm_of_only (State.only_mono (by decide) hrest)
  · exact State.link_of_only (State.only_mono (by decide) hrest)

theorem retraining_comes_into_force (hverify : res.verifyPassed = true) (hgate : gateOk res = true)
    (hnarrow : narrowed (s.calCh ch).trims res.trims = true) (hnone : s.flt.unfencing = []) :
    ∃ t, exec (.retrainComplete ch res) s = .next t ∧ (t.calCh ch).retraining = false ∧
      (t.calCh ch).trims.wdeskew = res.trims.wdeskew ∧ (t.calCh ch).trims.rdeskew = res.trims.rdeskew ∧
      (t.calCh ch).trims.rstrobe = res.trims.rstrobe ∧ (t.calCh ch).trims.cdeskew = (s.calCh ch).trims.cdeskew ∧
      (t.calCh ch).count = ((s.calCh ch).count + 1) % 2 ^ 32 ∧ (t.calCh ch).last = s.time.stamp ∧
      (∀ i, i ≠ ch → t.calCh i = s.calCh i) ∧ t.array = s.array ∧ t.link = s.link := by
  have hu := State.endRetrain_of_narrow hretrain hpart hfull hstep hdq hcmd hall hsids hreset
  rw [if_neg (by rw [hverify, hgate, hnarrow]; decide)] at hu
  obtain ⟨t, hexec, hseen⟩ := exec_retrainComplete hrun hidle hch hwf hu
    (State.retrainPassed_only (by decide) s ch res) [.cal, .array, .lanes, .courses, .link]
  have hcal (i : Nat) := (State.calCh_of_only (State.only_mono (by decide) hseen) i).trans (State.retrainPassed_calCh hnone i)
  have hself : t.calCh ch = { (s.calCh ch).retrained res.trims false (s.chan ch).temp with
      count := ((s.calCh ch).count + 1) % 2 ^ 32, last := s.time.stamp } := by rw [hcal, if_pos rfl, hpart]
  have hlink := (State.only_mono (K := [.lanes, .courses, .link]) (by decide) hseen).trans (State.retrainPassed_only
      (by decide) s ch res)
  refine ⟨t, hexec, by rw [hself]; rfl, by rw [hself]; rfl, by rw [hself]; rfl, by rw [hself]; rfl, by rw [hself]; rfl, by rw
      [hself],
    by rw [hself], fun i hi => by rw [hcal, if_neg hi], ?_, State.link_of_only hlink⟩
  exact State.array_of_only ((State.only_mono (by decide) hseen).trans (State.retrainPassed_array hnone))

end

end

/-- Settles O41, each command in a lemma of its own: a passed retraining applies its trims and counts (`State.applyRetrain`),
    and the
end of a narrow one asks nothing further of a machine in which nothing waits. -/
theorem correctionsAndRetrainings : Obligations.CorrectionsAndRetrainings :=
  fun _ _ _ _ _ _ hcourse => ⟨fun hrun hch hpending => ⟨correction_slewed hrun hch hpending,
      correction_applied_whole hrun hch hpending,
      correction_forced hrun hch hpending⟩, retraining_starts hcourse,
    fun hrun hidle hch hwf hretrain hpart hfull hstep hdq hcmd hall hsids hreset =>
      ⟨retraining_comes_into_force hrun hidle hch hwf hretrain hpart hfull hstep hdq hcmd hall hsids hreset,
        retraining_goes_full hrun hidle hch hwf hretrain hpart hfull hstep hdq hcmd hall hsids hreset⟩⟩

end Sys2Proof.Machine
end

section
set_option Elab.async false
/-! PROOFS. Resynchronisation (R183, R185) and TIME_SET (R65): a management message of one cell that passes its checks acts. -/

namespace Sys2Proof.Machine

/-- The state in which an accepted management message of one cell acts: its cell is freed, it is counted,
    and its tag is outstanding. -/
def State.mgmtTaken (s : State) (mtag : Nat) : State :=
  let t := ((s.useCells 0 0 1).freeMgtCells 1).count 0x20100
  { t with trx := { t.trx with mgtOut := t.trx.mgtOut ++ [mtag] } }

section
variable {s : State} {c k sub m : Nat} {h : Cell}

theorem State.mgmtTaken_only {K : List Piece} (hK : .link ∉ K ∧ .regs ∉ K ∧ .trx ∉ K) (mtag : Nat) :
    (s.mgmtTaken mtag).only K = s.only K :=
  (State.only_trx (((s.useCells 0 0 1).freeMgtCells 1).count 0x20100) (by simp [TrxSt.only, hK])).trans (by simp [hK])

theorem extentBad_of_oneCell (hk : k < 30) (hop : hOp h = 0x20) (hcells : mCells h = 1) : extentBad k h = false := by
  have hone : msgCells h = some 1 := by simp [msgCells, hop, show fieldNat h 28 24 = 1 from hcells]
  simp [extentBad, hone]
  omega

/-- What an accepted management message of one cell does. -/
theorem State.deliverMgmtAs_of_arrives (harr : s.mgmtArrives c k sub h) :
    s.deliverMgmtAs sub c k h = (s.mgmtTaken (mTag h)).mgmtActs (!(s.course c).encrypted) h (cellDetail k 0x20) := by
  obtain ⟨-, -, hk, hdel, hheld, hop, hsub, hcells, hok, hfree⟩ := harr
  have hlack : s.lacking 0 0 1 = none := by simp [State.lacking, Nat.not_lt.2 hheld]
  have hbusy : (((s.useCells 0 0 1).freeMgtCells 1).count 0x20100).mtagBusy (mTag h) = false := hfree
  rw [State.deliverMgmtAs, if_pos ⟨hop, hsub, by simp [extentBad_of_oneCell hk hop hcells]⟩, State.deliverMgmt]
  simp only [hdel, hcells, hlack, hok, hbusy, Bool.not_true, Bool.false_eq_true, if_false]
  rfl

theorem exec_of_arrives {i : Instr} (harr : s.mgmtArrives c k sub h) (hi : exec i s = act i.wellFormed s
    (s.deliverMgmtAs sub c k h))
    (hwf : i.wellFormed = true)
    (hkept : ((s.mgmtTaken (mTag h)).mgmtActs (!(s.course c).encrypted) h
        (cellDetail k 0x20)).only keptPieces = s.only keptPieces) :
    exec i s = .next ((s.mgmtTaken (mTag h)).mgmtActs (!(s.course c).encrypted) h (cellDetail k 0x20)) := by
  rw [← State.deliverMgmtAs_of_arrives harr] at hkept ⊢
  exact exec_of_kept hi hwf harr.1 hkept

/-! ### The state summary -/

/-- The messages of a state summary. -/
def State.summaryMsgs (s : State) (mtag : Nat) : List UpMsg :=
  (List.range 8).map fun p => ⟨summaryHdr mtag p s.flt.generation (p == 7) ::
    (List.range 16).map (fun i => bytesCell ((s.summary.drop (256 * p + 16 * i)).take 16)), .summary mtag, none, false⟩

/-- Messages that are sent up one after the other join the upstream queue in their order. -/
theorem State.forAll_sendUp {α : Type} (cells : α → List Cell) (done : Completes) (l : List α) (t : State) :
    forAll l (fun p t => t.sendUp (cells p) done none) t =
      { t with link := { t.link with upQ := t.link.upQ ++ l.map (fun p => ⟨cells p, done, none, false⟩) } } := by
  induction l generalizing t with
  | nil => simp [forAll]
  | cons p l ih => exact (ih (t.sendUp (cells p) done none)).trans (by simp [State.sendUp])

theorem State.sendSummary_eq (t : State) (mtag : Nat) :
    t.sendSummary mtag = { t with link := { t.link with upQ := t.link.upQ ++ t.summaryMsgs mtag } } :=
  State.forAll_sendUp _ _ _ t

theorem State.summaryMsgs_length (t : State) (mtag : Nat) : (t.summaryMsgs mtag).length = 8 := by
  simp [State.summaryMsgs]

theorem State.summaryMsgs_heads (t : State) (mtag : Nat) : (t.summaryMsgs mtag).map (fun m => m.cells.head?) =
    (List.range 8).map (fun p => some (summaryHdr mtag p t.flt.generation (p == 7))) := by
  simp [State.summaryMsgs]

/-- RESYNC without DRAIN shows the summary at once. -/
theorem resync_shows (harr : s.mgmtArrives c k 1 h) (hdrain : bitAt h 32 = false) :
    ∃ t, exec (.resync c k h) s = .next t ∧ t.link.upQ.length = s.link.upQ.length + 8 ∧
      (t.link.upQ.drop s.link.upQ.length).map (fun m => m.cells.head?) =
        (List.range 8).map (fun p => some (summaryHdr (mTag h) p s.flt.generation (p == 7))) ∧
      t.trx.mgtOut = s.trx.mgtOut ++ [mTag h] ∧ t.trx.reqs = s.trx.reqs ∧ t.link.mgt.held = s.link.mgt.held - 1 ∧
      s.changesOnly t [.link, .trx, .regs] := by
  obtain ⟨-, hc, hk, -, -, -, hsub, -⟩ := id harr
  have hact : (s.mgmtTaken (mTag h)).mgmtActs (!(s.course c).encrypted) h (cellDetail k 0x20) =
      (s.mgmtTaken (mTag h)).resync (mTag h) false := by simp [State.mgmtActs, hsub, hdrain]
  have honly {K : List Piece} (hK : .link ∉ K ∧ .regs ∉ K ∧ .trx ∉ K) :
      ((s.mgmtTaken (mTag h)).resync (mTag h) false).only K = s.only K := by
    simp [State.mgmtTaken_only, hK]
  refine ⟨_, exec_of_arrives (i := .resync c k h) harr rfl (by simp [Instr.wellFormed, Instr.units, Instr.partsOk, hc, hk])
    (by rw [hact]; exact honly (by decide)), ?_⟩
  rw [hact]
  refine ⟨?_, ?_, ?_, ?_, ?_, State.changesOnly_of_only (K := Piece.all.filter fun p => p.part != .link && p.part != .regs &&
    p.part != .trx) (honly (by decide)) (by decide)⟩
  all_goals simp only [State.resync, Bool.false_eq_true, if_false, State.sendSummary_eq]
  · simp only [List.length_append, State.summaryMsgs_length]
    rfl
  · exact (congrArg _ (List.drop_left' rfl)).trans (State.summaryMsgs_heads _ _)
  all_goals rfl

/-- RESYNC with DRAIN waits for the tags that are outstanding. -/
theorem resync_drains (harr : s.mgmtArrives c k 1 h) (hdrain : bitAt h 32 = true) :
    ∃ t, exec (.resync c k h) s = .next t ∧ t.link.upQ = s.link.upQ ∧
      t.trx.resyncs.map (fun y => (y.mtag, y.drain, y.wait)) =
        s.trx.resyncs.map (fun y => (y.mtag, y.drain, y.wait)) ++ [(mTag h, true, s.outTags)] ∧
      s.changesOnly t [.link, .trx, .regs] := by
  obtain ⟨-, hc, hk, -, -, -, hsub, -⟩ := id harr
  have hact : (s.mgmtTaken (mTag h)).mgmtActs (!(s.course c).encrypted) h (cellDetail k 0x20) =
      (s.mgmtTaken (mTag h)).resync (mTag h) true := by simp [State.mgmtActs, hsub, hdrain]
  have honly {K : List Piece} (hK : .link ∉ K ∧ .regs ∉ K ∧ .trx ∉ K) :
      ((s.mgmtTaken (mTag h)).resync (mTag h) true).only K = s.only K := by
    simp [State.mgmtTaken_only, hK]
  refine ⟨_, exec_of_arrives (i := .resync c k h) harr rfl (by simp [Instr.wellFormed, Instr.units, Instr.partsOk, hc, hk])
    (by rw [hact]; exact honly (by decide)), ?_⟩
  rw [hact]
  exact ⟨rfl, by simp only [State.resync, if_true, List.map_append]; rfl,
    State.changesOnly_of_only (K := Piece.all.filter fun p => p.part != .link && p.part != .regs && p.part != .trx)
      (honly (by decide)) (by decide)⟩

/-- The summary of a RESYNC with DRAIN is captured once no tag is waited for. -/
theorem summary_captured {x : Resync} (hrun : s.running = true) (hm : m < 64) (hone : s.trx.resyncs = [x]) (hmtag : x.mtag = m)
    (hshown : x.shown = false) (hwait : x.wait = []) :
    ∃ t, exec (.summaryCapture m) s = .next t ∧ t.trx.resyncs = [{ x with shown := true }] ∧
      t.link.upQ.length = s.link.upQ.length + 8 ∧
      (t.link.upQ.drop s.link.upQ.length).map (fun y => y.cells.head?) =
        (List.range 8).map (fun p => some (summaryHdr m p s.flt.generation (p == 7))) ∧ s.changesOnly t [.link, .trx] := by
  have heff : s.summaryCapture m = ({ s with trx := { s.trx with resyncs := [{ x with shown :=
      true }] } } : State).sendSummary m := by
    simp [State.summaryCapture, hone, hmtag, hshown, hwait]
  have honly {K : List Piece} (hK : .link ∉ K ∧ .trx ∉ K) : (s.summaryCapture m).only K = s.only K :=
    State.summaryCapture_only hK s m
  refine ⟨_, exec_of_kept (c := .summaryCapture m) rfl (by simp [Instr.wellFormed, Instr.units, Instr.partsOk, hm]) hrun
    (honly (K := keptPieces) (by decide)), ?_⟩
  show (s.summaryCapture m).trx.resyncs = _ ∧ (s.summaryCapture m).link.upQ.length = _ ∧
    ((s.summaryCapture m).link.upQ.drop _).map _ = _ ∧ s.changesOnly (s.summaryCapture m) _
  refine ⟨?_, ?_, ?_, State.changesOnly_of_only (K := Piece.all.filter fun p => p.part != .link && p.part != .trx)
    (honly (by decide)) (by decide)⟩
  all_goals simp only [heff, State.sendSummary_eq]
  · simp only [List.length_append, State.summaryMsgs_length]
  · exact (congrArg _ (List.drop_left' rfl)).trans (State.summaryMsgs_heads _ _)

/-- TIME_SET takes its T and is acknowledged. -/
theorem timeSet_taken (harr : s.mgmtArrives c k 2 h) :
    ∃ t, exec (.timeSet c k h) s = .next t ∧ t.time.stamp = s.time.stamp ∧ t.time.elapsed = s.time.elapsed ∧
      t.time.setting = s.time.setting ++ [(h.extractLsb' 32 48, s.time.stamp)] ∧
      t.link.upQ = s.link.upQ ++ [⟨[wackMt (mTag h)], .mtag (mTag h), none, false⟩] ∧ s.changesOnly t [.link, .trx, .regs,
          .time] := by
  obtain ⟨-, hc, hk, -, -, -, hsub, -⟩ := id harr
  have hact : (s.mgmtTaken (mTag h)).mgmtActs (!(s.course c).encrypted) h (cellDetail k 0x20) =
      ({ s.mgmtTaken (mTag h) with time := { s.time with setting := s.time.setting ++ [(h.extractLsb' 32 48, s.time.stamp)] } } :
        State).wackMgt (mTag h) := by
    simp only [State.mgmtActs, hsub]
    rfl
  have honly {K : List Piece} (hK : .link ∉ K ∧ .regs ∉ K ∧ .trx ∉ K) (htime : .time ∉ K) :
      (({ s.mgmtTaken (mTag h) with time := { s.time with setting := s.time.setting ++ [(h.extractLsb' 32 48, s.time.stamp)] } } :
        State).wackMgt (mTag h)).only K = s.only K := by
    simp [State.mgmtTaken_only, hK, htime]
  refine ⟨_, exec_of_arrives (i := .timeSet c k h) harr rfl (by simp [Instr.wellFormed, Instr.units, Instr.partsOk, hc, hk])
    (by rw [hact]; exact honly (by decide) (by decide)), ?_⟩
  rw [hact]
  exact ⟨rfl, rfl, rfl, rfl, State.changesOnly_of_only (K := Piece.all.filter fun p => p.part != .link && p.part != .regs &&
    p.part != .trx && p.part != .time) (honly (by decide) (by decide)) (by decide)⟩

end

/-- Settles O23: RESYNC shows the summary or waits for its tags, SUMMARY_CAPTURE shows it, and TIME_SET waits for the tick. -/
theorem resyncAndTimeSet : Obligations.ResyncAndTimeSet :=
  ⟨fun _ _ _ _ _ _ => ⟨resync_shows, resync_drains, summary_captured⟩, fun _ _ _ _ => timeSet_taken⟩

end Sys2Proof.Machine
end

section
set_option Elab.async false
/-! PROOFS. A request that ends at the router: what it gives back, and its answer (R169, R203). -/

namespace Sys2Proof.Machine

section
variable {s : State} {r : Req}

/-- A request at the router that is no write gives back its request cell. -/
theorem State.cellsBack_of_atRouter (hat : r.atRouter = true) (hw : isWrite
    (hOp r.hdr) = false) : s.cellsBack r = s.freeReqCells 1 := by
  simp [State.cellsBack, hat, hw]

theorem State.endReq_of_atRouter (hat : r.atRouter = true) (hw : isWrite (hOp r.hdr) = false) :
    (s.endReq r).link = (s.freeReqCells 1).link ∧
      (s.endReq r).trx = { (s.dropReq r.uid).trx with prog := s.trx.prog.set 32 none } := by
  have hbefore := State.link_of_only (s := s) (t := ((((s.dropReq r.uid).leaveCtx r).slotBack r).useBack r).acctBack r) (by simp)
  have hdropped := State.trx_of_only (s := s.dropReq r.uid)
    (t := ((((s.dropReq r.uid).leaveCtx r).slotBack r).useBack r).acctBack r) (by simp)
  rw [State.endReq, State.cellsBack_of_atRouter hat hw]
  generalize ((((s.dropReq r.uid).leaveCtx r).slotBack r).useBack r).acctBack r = u at hbefore hdropped ⊢
  constructor
  · simp only [State.progDone, State.freeReqCells, hbefore]
  · simp only [State.progDone, State.freeReqCells, hdropped]
    rfl

/-- The last request leaves none behind. -/
theorem State.dropReq_of_single (hone : s.trx.reqs = [r]) : (s.dropReq r.uid).trx.reqs = [] := by
  simp [State.dropReq, hone]

@[simp] theorem State.noteErr_link (code : ErrCode) : (s.noteErr code).link = s.link :=
  State.link_of_only (State.noteErr_only (by decide) ..)

@[simp] theorem State.noteErr_trx (code : ErrCode) : (s.noteErr code).trx = s.trx :=
  State.trx_of_only (State.noteErr_only (by decide) ..)

/-- The end and the answer of a request at the router. -/
theorem State.answered_of_atRouter (hat : r.atRouter = true) (hw : isWrite (hOp r.hdr) = false) (code : ErrCode) (w : Bool)
    (cells : List Cell) (f : Option Nat) :
    (((s.endReq r).noteErr code).answer w (hTag r.hdr) cells f).link =
        ((s.freeReqCells 1).sendUp cells (.tag w (hTag r.hdr)) f).link ∧
      (((s.endReq r).noteErr code).answer w (hTag r.hdr) cells f).trx =
        { (s.dropReq r.uid).trx with prog := s.trx.prog.set 32 none, respond := s.trx.respond ++ [(w, hTag r.hdr)] } := by
  obtain ⟨hlink, htrx⟩ := State.endReq_of_atRouter (s := s) hat hw
  constructor
  · simp only [State.answer, State.sendUp, State.noteErr_link, hlink]
  · simp only [State.answer, State.sendUp, State.noteErr_trx, htrx]
    rfl

/-- Nothing is released where nothing is held. -/
theorem State.releaseHeld_of_empty (h : s.trx.reqs = []) : s.releaseHeld = s := by
  simp [State.releaseHeld, h, forAll]

end

end Sys2Proof.Machine
end

section
set_option Elab.async false
/-! PROOFS. The router answers the one read that waits (R473), and the messages that are answered or given back as they arrive:
a MASK cell (R158) and a message whose extent cannot be trusted (R471). -/

namespace Sys2Proof.Machine

/-! ### The router's choice where one request waits -/

/-- Nothing but regulation is changed. -/
def State.regulates (s t : State) : Prop := ∃ x, t = { s with regul := x }

section
variable {s t : State} {r : Req} {k : Nat}

theorem State.regulates.refl (s : State) : s.regulates s := ⟨s.regul, rfl⟩

theorem State.regulates.trans {u : State} (h : s.regulates t) (h' : t.regulates u) : s.regulates u := by
  obtain ⟨x, rfl⟩ := h
  obtain ⟨y, rfl⟩ := h'
  exact ⟨y, rfl⟩

theorem State.regulates.judge (h : s.regulates t) (r : Req) (cell : Nat) : t.judge r cell = s.judge r cell := by
  obtain ⟨x, rfl⟩ := h
  rfl

theorem State.regulates.ctxQueue (h : s.regulates t) (k : Nat) : t.ctxQueue k = s.ctxQueue k := by
  obtain ⟨x, rfl⟩ := h
  rfl

theorem State.setCtx_regulates (s : State) (k : Nat) (f : Ctx → Ctx) : s.regulates (s.setCtx k f) := ⟨_, rfl⟩

theorem forAll_regulates {α : Type} {f : α → State → State} (hf : ∀ a (t : State), t.regulates (f a t)) (l : List α) (s : State) :
    s.regulates (forAll l f s) := by
  induction l generalizing s with
  | nil => exact .refl s
  | cons a l ih => exact (hf a s).trans (ih (f a s))

theorem State.resetDeficits_regulates (s : State) : s.regulates s.resetDeficits := by
  refine forAll_regulates (fun k t => ?_) _ s
  split
  · exact t.setCtx_regulates k _
  · exact .refl t

theorem nextAfter_of_single (k c : Nat) : nextAfter [k] c = k := by
  by_cases h : c < k <;> simp [nextAfter, h]

/-- The rounds over one candidate end at it. -/
theorem State.robin_of_single (s : State) (k c n : Nat) :
    (s.robin [k] c (n + 1)).1 = k ∧ s.regulates (s.robin [k] c (n + 1)).2 := by
  induction n generalizing s c with
  | zero =>
    rw [State.robin, nextAfter_of_single]
    split
    · exact ⟨rfl, s.setCtx_regulates ..⟩
    · exact ⟨rfl, s.setCtx_regulates ..⟩
  | succ n ih =>
    rw [State.robin, nextAfter_of_single]
    split
    · exact ⟨rfl, s.setCtx_regulates ..⟩
    · exact ⟨(ih _ k).1, (s.setCtx_regulates ..).trans (ih _ k).2⟩

/-- A round over one candidate, from wherever the last round ended. -/
theorem State.round_of_single (s : State) (k : Nat) :
    (if [k].contains s.regul.roundPtr && decide (s.headLines s.regul.roundPtr ≤ (s.ctx s.regul.roundPtr).deficit) then
        (s.regul.roundPtr, s) else s.robin [k] s.regul.roundPtr (4 * [k].length + 1)).1 = k ∧
      s.regulates (if [k].contains s.regul.roundPtr && decide (s.headLines s.regul.roundPtr ≤ (s.ctx s.regul.roundPtr).deficit) then
        (s.regul.roundPtr, s) else s.robin [k] s.regul.roundPtr (4 * [k].length + 1)).2 := by
  split
  · next hc => exact ⟨by simpa using (Bool.and_eq_true_iff.1 hc).1, .refl s⟩
  · exact s.robin_of_single k _ 4

theorem State.rank_cases (s : State) (k : Nat) : s.rank k = 1 ∨ s.rank k = 2 ∨ s.rank k = 3 ∨ s.rank k = 4 := by
  unfold State.rank
  repeat' split
  all_goals simp

/-- The one candidate is chosen. -/
theorem State.chooseCtx_of_single (hone : s.candidates = [k]) : ∃ t, s.chooseCtx = some (k, t) ∧ s.regulates t := by
  have htop : min 5 (s.rank k) = s.rank k := by rcases s.rank_cases k with h | h | h | h <;> rw [h] <;> rfl
  simp only [State.chooseCtx, hone, List.foldl_cons, List.foldl_nil, htop, List.filter_cons, List.filter_nil, beq_self_eq_true,
      if_true,
    Nat.zero_max]
  rcases s.rank_cases k with h | h | h | h <;> rw [h]
  · exact ⟨s, rfl, .refl s⟩
  · exact ⟨s, rfl, .refl s⟩
  · obtain ⟨hfst, hsnd⟩ := s.round_of_single k
    exact ⟨_, congrArg some (Prod.ext hfst rfl), hsnd.trans ⟨_, rfl⟩⟩
  · exact ⟨s, rfl, .refl s⟩

theorem State.ctxQueue_of_single (hone : s.trx.reqs = [r]) (hst : r.stage = .queued k) : s.ctxQueue k = [r] := by
  simp [State.ctxQueue, hone, hst]

/-- A request that ends at its judgement is a candidate. -/
theorem State.candidates_of_err {e : ErrCode} {detail : Nat} (hone : s.trx.reqs = [r]) (hst : r.stage = .queued k)
    (hj : s.judge r r.cell = .err e detail) : s.candidates = [k] := by
  have hcand : s.candidate k = true := by simp [State.candidate, State.ctxQueue_of_single hone hst, hj]
  simp [State.candidates, hone, hst, hcand, sortBy, insertBy, List.eraseDups_cons]

/-- The one request that waits, where a check stops it, is answered with its ERR. -/
theorem State.admitOne_of_err {e : ErrCode} {detail : Nat} (hone : s.trx.reqs = [r]) (hst : r.stage = .queued k)
    (hj : s.judge r r.cell = .err e detail) :
    ∃ t, s.regulates t ∧ s.admitOne = ((t.noteAddr e r).fail r e detail).resetDeficits := by
  have hreset := s.resetDeficits_regulates
  have hreqs : s.resetDeficits.trx.reqs = [r] := by
    obtain ⟨x, hx⟩ := hreset
    rw [hx]
    exact hone
  obtain ⟨t, hchoose, ht⟩ := State.chooseCtx_of_single (State.candidates_of_err hreqs hst ((hreset.judge ..).trans hj))
  refine ⟨t, hreset.trans ht, ?_⟩
  rw [State.admitOne, hchoose]
  simp only [(hreset.trans ht).ctxQueue, State.ctxQueue_of_single hone hst, (hreset.trans ht).judge, hj, State.answerVerdict]

/-- The one read that waits, where a check stops it, is answered at the router. -/
theorem read_stopped {e : ErrCode} {detail : Nat} (hrun : s.running = true) (hon : s.domOn 2 = true) (hone : s.trx.reqs = [r])
    (hst : r.stage = .queued k) (hop : hOp r.hdr = 0x01) (hj : s.judge r r.cell = .err e detail) :
    ∃ t, exec .routerAdmit s = .next t ∧ t.trx.reqs = [] ∧ t.trx.respond = s.trx.respond ++ [(false, hTag r.hdr)] ∧
      t.link.upQ = s.link.upQ ++
        [⟨[errCell e.num (hTag r.hdr) (lineMask (r.left ++ r.down)) detail false false], .tag false (hTag r.hdr), none, false⟩] ∧
      t.link.req.held = s.link.req.held ∧ t.link.req.pending = s.link.req.pending + 1 ∧ t.nvm = s.nvm ∧ t.array = s.array := by
  obtain ⟨v, hv, hadmit⟩ := State.admitOne_of_err hone hst hj
  have hat : r.atRouter = true := by simp [Req.atRouter, hst]
  have hspace : inWriteSpace (hOp r.hdr) = false := by rw [hop]; rfl
  have hone' : (v.noteAddr e r).trx = s.trx := by
    obtain ⟨x, rfl⟩ := hv
    exact (State.trx_of_only (State.noteAddr_only (by decide) ..)).trans rfl
  have hlink' : (v.noteAddr e r).link = s.link := by
    obtain ⟨x, rfl⟩ := hv
    exact (State.link_of_only (State.noteAddr_only (by decide) ..)).trans rfl
  obtain ⟨hlink, htrx⟩ := State.answered_of_atRouter (s := v.noteAddr e r) hat (by rw [hop]; rfl) e
    (inWriteSpace (hOp r.hdr)) [errCell e.num (hTag r.hdr) (lineMask (r.left ++ r.down)) detail false false] none
  rw [hspace, hone'] at htrx
  rw [hspace] at hlink
  have hend : s.admitOne.trx.reqs = [] := by
    rw [hadmit, State.trx_of_only (State.resetDeficits_only (by decide) _), State.fail, hspace, htrx]
    exact State.dropReq_of_single (hone' ▸ hone)
  have hact : opRouterAdmit s = s.admitOne := by rw [opRouterAdmit, if_pos hon, State.releaseHeld_of_empty hend]
  obtain ⟨t, hexec, hseen⟩ := exec_seen (c := .routerAdmit) (s := s) rfl rfl hrun
    [.reqs, .keyOps, .trx, .lanes, .courses, .link, .mem, .nvm, .array]
  rw [hact] at hseen
  have htl := (State.link_of_only (State.only_mono (by decide) hseen)).trans (congrArg State.link hadmit)
  have htt := (State.trx_of_only (State.only_mono (by decide) hseen)).trans (congrArg State.trx hadmit)
  rw [State.link_of_only (State.resetDeficits_only (by decide) _), State.fail, hspace, hlink] at htl
  rw [State.trx_of_only (State.resetDeficits_only (by decide) _), State.fail, hspace, htrx] at htt
  refine ⟨t, hexec, ?_, ?_, ?_, ?_, ?_, ?_, ?_⟩
  · rw [htt]
    exact State.dropReq_of_single (hone' ▸ hone)
  · rw [htt]
  · rw [htl]
    simp only [State.sendUp, State.freeReqCells, hlink']
  · rw [htl]
    simp only [State.sendUp, State.freeReqCells, hlink']
  · rw [htl]
    simp only [State.sendUp, State.freeReqCells, hlink']
  · exact State.nvm_of_only ((State.only_mono (by decide) hseen).trans (State.admitOne_only (by decide) s))
  · exact State.array_of_only ((State.only_mono (by decide) hseen).trans (State.admitOne_only (by decide) s))

end

/-! ### Messages that are answered or given back as they arrive -/

section
variable {s : State} {c k : Nat} {h : Cell}

theorem State.lacking_of_req {n : Nat} (hheld : n ≤ s.link.req.held) : s.lacking n 0 0 = none := by
  simp [State.lacking, Nat.not_lt.2 hheld]

theorem State.lacking_of_mgt {n : Nat} (hheld : n ≤ s.link.mgt.held) : s.lacking 0 0 n = none := by
  simp [State.lacking, Nat.not_lt.2 hheld]

/-- A MASK cell gives its cell back. -/
theorem mask_taken (hrun : s.running = true) (hc : c < 12) (hk : k < 30) (hdel : s.delivers c = true) (hop : hOp h = 0x04)
    (hok : maskOk h = true) (hheld : 1 ≤ s.link.req.held) :
    ∃ t, exec (.mask c k h) s = .next t ∧ t.link.req.held = s.link.req.held - 1 ∧
      t.link.req.pending = s.link.req.pending + 1 ∧ t.link.req.consumed = s.link.req.consumed ∧
      t.link.upQ = s.link.upQ ∧ s.changesOnly t [.link] := by
  have heff : s.deliverMask c k h = (s.useCells 1 0 0).freeReqCells 1 := by
    simp [State.deliverMask, hdel, hop, State.lacking_of_req hheld, hok]
  have honly {K : List Piece} (hK : .link ∉ K) : (s.deliverMask c k h).only K = s.only K := by
    rw [heff]
    simp [hK]
  refine ⟨s.deliverMask c k h, exec_of_kept (c := .mask c k h) rfl (by simp [Instr.wellFormed, Instr.units, Instr.partsOk, hc, hk])
    hrun (honly (by decide)), ?_⟩
  rw [heff] at honly ⊢
  exact ⟨rfl, rfl, Nat.add_sub_cancel .., rfl,
    State.changesOnly_of_only (K := Piece.all.filter fun p => p.part != .link) (honly (by decide)) (by decide)⟩

/-- A management message whose extent cannot be trusted is answered with ERR FORMAT. -/
theorem malformed_mgmt (hrun : s.running = true) (hc : c < 12) (hk : k < 30) (hdel : s.delivers c = true)
    (hbad : extentBad k h = true)
    (hop : hOp h = 0x20) (hheld : 1 ≤ s.link.mgt.held) (hfree : s.mtagBusy (mTag h) = false) :
    ∃ t, exec (.malformedMessage c k h) s = .next t ∧ t.trx.mgtOut = s.trx.mgtOut ++ [mTag h] ∧
      t.link.upQ = s.link.upQ ++ [⟨[errCell 5 (mTag h) 0 (cellDetail k 0x20) true false], .mtag (mTag h), none, false⟩] ∧
      t.link.mgt.held = s.link.mgt.held - 1 ∧ t.link.mgt.pending = s.link.mgt.pending + 1 ∧
      s.changesOnly t [.link, .trx, .regs] := by
  have hbusy : (((s.useCells 0 0 1).freeMgtCells 1).count 0x20100).mtagBusy (mTag h) = false := hfree
  have heff : s.deliverBad c k h = (s.mgmtTaken (mTag h)).failMgt .format (mTag h) (cellDetail k 0x20) := by
    simp only [State.deliverBad, hdel, hbad, hop, State.lacking_of_mgt hheld, State.badMgt, hbusy]
    rfl
  have honly {K : List Piece} (hK : .link ∉ K ∧ .regs ∉ K ∧ .trx ∉ K) : (s.deliverBad c k h).only K = s.only K := by
    rw [heff]
    simp [State.mgmtTaken_only, hK]
  refine ⟨s.deliverBad c k h, exec_of_kept (c := .malformedMessage c k h) rfl
    (by simp [Instr.wellFormed, Instr.units, Instr.partsOk, hc, hk]) hrun (honly (by decide)), ?_⟩
  rw [heff] at honly ⊢
  exact ⟨rfl, rfl, rfl, rfl, State.changesOnly_of_only (K := Piece.all.filter fun p => p.part != .link && p.part != .regs &&
    p.part != .trx) (honly (by decide)) (by decide)⟩

/-- Another message outside the write space whose extent cannot be trusted is answered with ERR FORMAT. -/
theorem malformed_request (hrun : s.running = true) (hc : c < 12) (hk : k < 30) (hdel : s.delivers c = true)
    (hbad : extentBad k h = true) (hop : hOp h ≠ 0x20) (hop0 : hOp h ≠ 0) (hspace : inWriteSpace (hOp h) = false)
    (hmem : isMemory (hOp h) = false) (hheld : 1 ≤ s.link.req.held) (hfree : s.tagBusy false (hTag h) = false) :
    ∃ t, exec (.malformedMessage c k h) s = .next t ∧ t.trx.respond = s.trx.respond ++ [(false, hTag h)] ∧
      t.link.upQ = s.link.upQ ++
        [⟨[errCell 5 (hTag h) 0 (cellDetail k (hOp h)) false false], .tag false (hTag h), none, false⟩] ∧
      t.link.req.held = s.link.req.held - 1 ∧ t.link.req.pending = s.link.req.pending + 1 ∧
      s.changesOnly t [.link, .trx, .regs] := by
  have hbusy : (((s.useCells 1 0 0).freeReqCells 1).count 0x20100).tagBusy false (hTag h) = false := hfree
  have heff : s.deliverBad c k h =
      (((s.useCells 1 0 0).freeReqCells 1).count 0x20100).formatErr false (hTag h) 0 (cellDetail k (hOp h)) := by
    simp [State.deliverBad, hdel, hbad, hop, hop0, State.lacking_of_req hheld, State.badFormat, hspace, hbusy, allLines, hmem]
  have honly {K : List Piece} (hK : .link ∉ K ∧ .regs ∉ K ∧ .trx ∉ K) : (s.deliverBad c k h).only K = s.only K := by
    rw [heff]
    simp [hK]
  refine ⟨s.deliverBad c k h, exec_of_kept (c := .malformedMessage c k h) rfl
    (by simp [Instr.wellFormed, Instr.units, Instr.partsOk, hc, hk]) hrun (honly (by decide)), ?_⟩
  rw [heff] at honly ⊢
  exact ⟨rfl, rfl, rfl, rfl, State.changesOnly_of_only (K := Piece.all.filter fun p => p.part != .link && p.part != .regs &&
    p.part != .trx) (honly (by decide)) (by decide)⟩

end

/-- Settles O20: the read that a check stops, the MASK cell, and the messages whose extent cannot be trusted. -/
theorem readsMasksAndMalformedMessages : Obligations.ReadsMasksAndMalformedMessages :=
  ⟨fun _ _ _ _ _ hrun hon hone hst hop _ _ hj => read_stopped hrun hon hone hst hop hj,
   fun _ _ _ _ hrun hc hk hdel => ⟨mask_taken hrun hc hk hdel, malformed_mgmt hrun hc hk hdel,
    malformed_request hrun hc hk hdel⟩⟩

end Sys2Proof.Machine
end

section
set_option Elab.async false
/-! PROOFS. A request other than a write arrives at an open router and goes on at once (R157, R160, R169). -/

namespace Sys2Proof.Machine

/-- The state in which an accepted request of one cell goes on: its credits and its tag are taken, and it stands at the router. -/
def State.reqTaken (s : State) (c k : Nat) (h : Cell) : State :=
  let t := ((s.useCells 1 0 0).count 0x20100).acct (inWriteSpace (hOp h)) TagAcct.take
  { t with trx := { t.trx with reqs := t.trx.reqs ++ [s.newReq c k h [] 0#64], nextUid := s.trx.nextUid + 1 } }

section
variable {s : State} {c k op : Nat} {h : Cell}

theorem State.reqTaken_only {K : List Piece} (hK : .link ∉ K ∧ .regs ∉ K ∧ .trx ∉ K ∧ .reqs ∉ K) (c k : Nat) (h : Cell) :
    (s.reqTaken c k h).only K = s.only K :=
  (State.only_trx (((s.useCells 1 0 0).count 0x20100).acct (inWriteSpace (hOp h)) TagAcct.take) (by simp [TrxSt.only, hK])).trans
    (by simp [hK])

@[simp] theorem State.acct_reqs (w : Bool) (f : TagAcct → TagAcct) : (s.acct w f).trx.reqs = s.trx.reqs := by
  cases w <;> rfl

@[simp] theorem State.reqTaken_reqs : (s.reqTaken c k h).trx.reqs = s.trx.reqs ++ [s.newReq c k h [] 0#64] := by
  simp [State.reqTaken]
  rfl

@[simp] theorem State.reqTaken_respond : (s.reqTaken c k h).trx.respond = s.trx.respond := by
  unfold State.reqTaken State.acct
  cases inWriteSpace (hOp h) <;> rfl

@[simp] theorem State.reqTaken_fences : (s.reqTaken c k h).trx.fences = s.trx.fences := by
  unfold State.reqTaken State.acct
  cases inWriteSpace (hOp h) <;> rfl

theorem State.reqTaken_resyncs : (s.reqTaken c k h).trx.resyncs = s.trx.resyncs := by
  unfold State.reqTaken State.acct
  cases inWriteSpace (hOp h) <;> rfl

/-- The new request is found under its number. -/
theorem find_newReq {l : List Req} {r : Req} (hnew : ∀ x ∈ l, x.uid < r.uid) :
    (l ++ [r]).find? (fun x => x.uid == r.uid) = some r := by
  have hnone : l.find? (fun x => x.uid == r.uid) = none := by
    refine List.find?_eq_none.2 fun x hx => ?_
    simpa using Nat.ne_of_lt (hnew x hx)
  simp [List.find?_append, hnone]

/-- The new request is found under its tag. -/
theorem find_named {l : List Req} {r : Req} {w : Bool} {tag : Nat} (hfree : l.any (fun x => x.names w tag) = false)
    (hr : r.names w tag = true) : (l ++ [r]).find? (fun x => x.names w tag) = some r := by
  have hnone : l.find? (fun x => x.names w tag) = none := by
    refine List.find?_eq_none.2 fun x hx => ?_
    simpa using List.any_eq_false.1 hfree x hx
  simp [List.find?_append, hnone, hr]

theorem State.routerOpen.new {q : Nat} (hopen : s.routerOpen q) : ∀ x ∈ s.trx.reqs, x.uid < (s.newReq c k h [] 0#64).uid :=
  fun x hx => (hopen.2.2.2.2 x hx).1

/-- Nothing holds the new request. -/
theorem State.heldBack_of_open (hopen : s.routerOpen (hRqid h)) (hmem : isMemory (hOp h) = false) :
    (s.reqTaken c k h).heldBack (s.newReq c k h [] 0#64) = false := by
  obtain ⟨hon, hfence, hsync, -, hreqs⟩ := hopen
  have hon' : (s.reqTaken c k h).domOn 2 = true := hon
  have hhdr : (s.newReq c k h [] 0#64).hdr = h := rfl
  have hnone (f : Req → Bool) : s.trx.reqs.any (fun x => x.stage == .held && hRqid x.hdr == hRqid h &&
      decide (x.uid < (s.newReq c k h [] 0#64).uid) && f x) = false := by
    refine List.any_eq_false.2 fun x hx => ?_
    simp [(hreqs x hx).2.1]
  unfold State.heldBack
  dsimp only
  rw [State.reqTaken_reqs, List.any_append, hhdr, hmem, hon', State.reqTaken_fences, hfence, State.reqTaken_resyncs, hsync, hnone]
  simp

/-- A request of one cell that arrives at an open router, and is no memory request, goes on at once. -/
theorem State.deliverAs_of_open (harr : s.reqArrives c k h) (hopen : s.routerOpen (hRqid h)) (hop : hOp h = op)
    (hmem : isMemory op = false) : s.deliverAs op c k h [] none = (s.reqTaken c k h).proceed (s.newReq c k h [] 0#64) := by
  subst hop
  obtain ⟨-, -, hfit, hdel, hlack, hres, hfree, hnineteen⟩ := harr
  have hnw : isWrite (hOp h) = false := by
    simp only [isMemory, isWrite, Bool.or_eq_false_iff] at hmem ⊢
    exact ⟨⟨⟨hmem.1.1.1.2, hmem.1.1.2⟩, hmem.1.2⟩, hmem.2⟩
  have hwd : wdCells (hOp h) = 0 := by
    simp only [isWrite, Bool.or_eq_false_iff, beq_eq_false_iff_ne] at hnw
    simp [wdCells, hnw]
  have hnotwrp : (hOp h == 0x03) = false := by
    simp only [isWrite, Bool.or_eq_false_iff] at hnw
    exact hnw.1.1.2
  rw [hwd] at hlack
  have hbad : (inWriteSpace (hOp h) && bitAt h 19) = false := by
    cases hsp : inWriteSpace (hOp h)
    · rfl
    · exact hnineteen hsp
  have hbusy : ((s.useCells 1 0 0).count 0x20100).tagBusy (inWriteSpace (hOp h)) (hTag h) = false := hfree
  have hon : (s.reqTaken c k h).domOn 2 = true := hopen.1
  have haccept : ((s.useCells 1 0 0).count 0x20100).acceptReq c k h [] 0#64 = (s.reqTaken c k h).releaseHeld := by
    rw [State.acceptReq, hnw]
    show (when (!(s.reqTaken c k h).domOn 2) (fun t => t.wake 2) (s.reqTaken c k h)).releaseHeld = _
    rw [hon]
    rfl
  have hheld : (s.reqTaken c k h).trx.reqs.filter (fun r => r.stage == .held) = [s.newReq c k h [] 0#64] := by
    rw [State.reqTaken_reqs, List.filter_append, List.filter_eq_nil_iff.2 fun x hx => by simp [(hopen.2.2.2.2 x hx).2.1]]
    rfl
  have hfind : (s.reqTaken c k h).req (s.newReq c k h [] 0#64).uid = some (s.newReq c k h [] 0#64) := by
    rw [State.req, State.reqTaken_reqs]
    exact find_newReq hopen.new
  rw [State.deliverAs, if_pos ⟨rfl, hfit⟩, State.deliverReq, hwd]
  simp only [hdel, hlack, hres, hbad, hnotwrp, hbusy, Bool.not_true, Bool.false_and, Bool.or_false, Bool.false_eq_true, if_false]
  rw [show (none : Option (BitVec 64)).getD 0#64 = 0#64 from rfl, haccept, State.releaseHeld, hheld, forAll_cons, forAll_nil, hfind]
  show (if ((s.newReq c k h [] 0#64).stage == .held && !(s.reqTaken c k h).heldBack (s.newReq c k h
      [] 0#64)) = true then _ else _) = _
  rw [State.heldBack_of_open hopen hmem]
  rfl

end

end Sys2Proof.Machine
end

section
set_option Elab.async false
/-! PROOFS. FENCE (R160): it holds its requester's later requests, and is acknowledged behind its requester's earlier ones. -/

namespace Sys2Proof.Machine

section
variable {s : State} {c k tag : Nat} {h : Cell} {r : Req}

theorem State.proceed_of_fence {t : State} (hop : hOp r.hdr = 0x0c) (hready : t.ready = true) :
    t.proceed r = { t.setReq r.uid (fun x => { x with stage := .waiting }) with
      trx := { (t.setReq r.uid (fun x => { x with stage := .waiting })).trx with fences := t.trx.fences ++ [hRqid r.hdr] } } := by
  rw [State.proceed, if_pos hop, if_pos hready]
  rfl

/-- Where a request alone has its number, a change of it is found under that number. -/
theorem State.req_setReq_new {t : State} {l : List Req} (hl : t.trx.reqs = l ++ [r]) (hnew : ∀ x ∈ l, x.uid < r.uid) {f : Req → Req}
    (hf : (f r).uid = r.uid) : (t.setReq r.uid f).trx.reqs = l ++ [f r] ∧ (t.setReq r.uid f).req r.uid = some (f r) := by
  have hmap : l.map (fun x => if x.uid = r.uid then f x else x) = l :=
    (List.map_congr_left fun x hx => if_neg (Nat.ne_of_lt (hnew x hx))).trans (List.map_id' l)
  have hreqs : (t.setReq r.uid f).trx.reqs = l ++ [f r] := by
    simp only [State.setReq, hl, List.map_append, hmap, List.map_cons, List.map_nil, if_true]
  refine ⟨hreqs, ?_⟩
  rw [State.req, hreqs, ← hf]
  exact find_newReq (hf ▸ hnew)

/-- A FENCE that arrives holds its requester's later requests. -/
theorem fence_holds (harr : s.reqArrives c k h) (hopen : s.routerOpen (hRqid h)) (hop : hOp h = 0x0c) (hready : s.ready = true) :
    ∃ t, exec (.fence c k h) s = .next t ∧ t.trx.fences = s.trx.fences ++ [hRqid h] ∧
      (∃ q, t.req s.trx.nextUid = some q ∧ q.stage = .waiting ∧ q.hdr = h) ∧ t.trx.wrAcct = s.trx.wrAcct.take ∧
      t.link.upQ = s.link.upQ ∧ t.nvm = s.nvm ∧ t.array = s.array := by
  have heff : s.deliverAs 0x0c c k h [] none = (s.reqTaken c k h).proceed (s.newReq c k h [] 0#64) :=
    State.deliverAs_of_open harr hopen hop rfl
  have hgo := State.proceed_of_fence (t := s.reqTaken c k h) (r := s.newReq c k h [] 0#64) hop hready
  have honly {K : List Piece} (hK : .link ∉ K ∧ .regs ∉ K ∧ .trx ∉ K ∧ .reqs ∉ K) :
      (s.deliverAs 0x0c c k h [] none).only K = s.only K := by
    rw [heff, hgo]
    exact (State.only_trx _ (by simp [TrxSt.only, hK])).trans ((State.setReq_only hK.2.2.2 ..).trans (State.reqTaken_only hK c k h))
  obtain ⟨-, hc, hfit, -⟩ := id harr
  refine ⟨s.deliverAs 0x0c c k h [] none, exec_of_kept (c := .fence c k h) rfl
    (by simp [Instr.wellFormed, Instr.units, Instr.partsOk, hc, show k < 30 by omega]) harr.1 (honly (by decide)), ?_,
    ?_, ?_, ?_, State.nvm_of_only (honly (by decide)), State.array_of_only (honly (by decide))⟩
  all_goals rw [heff, hgo]
  · show (s.reqTaken c k h).trx.fences ++ [hRqid h] = _
    rw [State.reqTaken_fences]
  · exact ⟨_, (State.req_setReq_new (t := s.reqTaken c k h) (r := s.newReq c k h [] 0#64)
      (f := fun x => { x with stage := .waiting }) State.reqTaken_reqs hopen.new rfl).2, rfl, rfl⟩
  · show (s.reqTaken c k h).trx.wrAcct = _
    simp only [State.reqTaken, State.acct, hop]
    rfl
  · show (s.reqTaken c k h).link.upQ = _
    simp only [State.reqTaken, State.acct, hop]
    rfl

/-- A FENCE that waits alone is acknowledged. -/
theorem fence_completes (hrun : s.running = true) (htag : tag < 2048) (hone : s.trx.reqs = [r]) (hnames : r.names true tag = true)
    (hop : hOp r.hdr = 0x0c) (hst : r.stage = .waiting) (hslot : r.slot = none) (huse : r.use = false) (hchs : r.chs = []) :
    ∃ t, exec (.fenceComplete tag) s = .next t ∧ t.trx.reqs = [] ∧ t.trx.respond = s.trx.respond ++ [(true, tag)] ∧
      t.link.upQ = s.link.upQ ++ [⟨[wackCell tag 0 0 false 0], .tag true tag, some (hRqid r.hdr), false⟩] ∧
      t.link.req.pending = s.link.req.pending + 1 ∧ s.changesOnly t [.link, .trx] := by
  have htag' : hTag r.hdr = tag := by simpa [Req.names, hop, inWriteSpace] using hnames
  have hfind : s.reqOf true tag = some r := by simp [State.reqOf, hone, hnames]
  have hend : s.endReq r = (((s.dropReq r.uid).freeReqCells 1).progDone 32) := by
    have hctx : (s.dropReq r.uid).ctxAt r = none := by simp [State.ctxAt, hslot, hst, hop, isMemory]
    have hat : r.atRouter = true := by simp [Req.atRouter, hst]
    rw [State.endReq, State.leaveCtx, hctx]
    simp only [State.slotBack, hslot, State.useBack, huse, when, State.acctBack, hchs, forAll_nil]
    rw [State.cellsBack_of_atRouter hat (by rw [hop]; rfl)]
  have heff : s.fenceDone tag = (((s.dropReq r.uid).freeReqCells 1).progDone 32).answer true tag [wackCell tag 0 0 false 0]
      (some (hRqid r.hdr)) := by
    rw [State.fenceDone, hfind]
    dsimp only
    rw [if_pos ⟨hop, hst, by simp [hone]⟩, State.wackPlain, hend, htag']
    rfl
  have honly {K : List Piece} (hK : .link ∉ K ∧ .trx ∉ K ∧ .reqs ∉ K) : (s.fenceDone tag).only K = s.only K := by
    rw [heff]
    simp [hK]
  refine ⟨s.fenceDone tag, exec_of_kept (c := .fenceComplete tag) rfl
    (by simp [Instr.wellFormed, Instr.units, Instr.partsOk, htag]) hrun (honly (by decide)), ?_⟩
  rw [heff] at honly ⊢
  exact ⟨State.dropReq_of_single hone, rfl, rfl, rfl,
    State.changesOnly_of_only (K := Piece.all.filter fun p => p.part != .link && p.part != .trx) (honly (by decide)) (by decide)⟩

end

/-- Settles O21: a FENCE holds its requester's later requests, and is acknowledged once it alone is left. -/
theorem fenceHoldsAndCompletes : Obligations.FenceHoldsAndCompletes :=
  fun _ _ _ _ _ _ => ⟨fence_holds, fence_completes⟩

end Sys2Proof.Machine
end

section
set_option Elab.async false
/-! PROOFS. CFGRD and CFGWR (R161): a register access of the link on a domain that is on, behind no other access of its path, is
answered at once. -/

namespace Sys2Proof.Machine

/-! ### The fields of the window -/

/-- A buffered field lies in its word, and its reset value in the field. -/
def Field.fits (f : Field) (i : Nat) : Bool := decide (f.hi < 32) && decide (f.resetAt i < 2 ^ (f.hi + 1 - f.lo))

theorem fieldsOf_fit (p : Page) :
    (fieldsOf p).all (fun f => f.acc != .rwb || (f.page == p && (List.range f.rep).all (fun i => f.fits i))) = true := by
  cases p <;> decide +kernel

theorem fieldsOf_rqm_rep : (fieldsOf .rqm).all (fun f => f.rep == 1 && f.page == .rqm) = true := by decide

theorem fits_of_fieldsOfWord {p : Page} {x i : Nat} {f : Field} (hf : (f, i) ∈ fieldsOfWord p x) (hacc : f.acc = .rwb) :
    f.fits i = true := by
  have hat {q : Page} {j : Nat} (hmem : f ∈ fieldsOf q) (hj : j < f.rep) : f.fits j = true := by
    have := List.all_eq_true.1 (fieldsOf_fit q) f hmem
    rw [hacc] at this
    exact List.all_eq_true.1 (Bool.and_eq_true_iff.1 this).2 j (List.mem_range.2 hj)
  by_cases hp : p = .rqm
  · subst hp
    have hmem : f ∈ fieldsOf .rqm := by
      obtain ⟨g, hg, heq⟩ := List.mem_map.1 hf
      rwa [← (Prod.mk.inj heq).1]
    have hone := List.all_eq_true.1 fieldsOf_rqm_rep f hmem
    simp only [Bool.and_eq_true, beq_iff_eq] at hone
    have hreset : f.resetAt i = f.resetAt 0 := by simp [Field.resetAt, hone.2]
    have := hat hmem (j := 0) (by omega)
    rwa [Field.fits, ← hreset] at this
  · have hmem : (f, i) ∈ fieldsAt p x := by
      unfold fieldsOfWord at hf
      split at hf
      · exact absurd rfl hp
      · exact hf
    obtain ⟨g, hg, heq⟩ := List.mem_filterMap.1 hmem
    split at heq
    · next hin =>
      obtain ⟨rfl, rfl⟩ := Prod.mk.inj (Option.some.inj heq)
      exact hat hg hin.2.2
    · cases heq

/-- A field that is written into its shadow reads what was written. -/
theorem State.putShadow_rsn (s : State) {f : Field} {i : Nat} (hfits : f.fits i = true) (n : Nat) (v : Word) :
    (s.putShadow f n i (f.of v)).rsn f n i = f.of v := by
  simp only [Field.fits, Bool.and_eq_true, decide_eq_true_eq] at hfits
  have hof : f.of v < 2 ^ (f.hi + 1 - f.lo) := Nat.mod_lt _ (Nat.two_pow_pos _)
  rw [State.rsn, stored, State.putShadow, Tbl.get_upd_self, fieldNat_putBits_self _ hfits.1,
    Nat.mod_eq_of_lt (Nat.xor_lt_two_pow hof hfits.2), Nat.xor_assoc, Nat.xor_self, Nat.xor_zero]

/-! ### Registers that act -/

/-- No field of the word at an offset is buffered. -/
def commandsOnly (off : Nat) : Bool :=
  match regKind off with
  | .reg p _ x _ => (fieldsOfWord p x).all (fun f => f.1.acc != .rwb)
  | _ => true

theorem not_commandsOnly {off n x i : Nat} {p : Page} {f : Field} (hreg : regKind off = .reg p n x false)
    (hfields : fieldsOfWord p x = [(f, i)]) (hacc : f.acc = .rwb) : commandsOnly off = false := by
  simp [commandsOnly, hreg, hfields, hacc]

/-- The control register of a course holds no buffered field. -/
theorem commandsOnly_crsCtl {off : Nat} (h : 0x10000 ≤ off ∧ off < 0x1c000 ∧ off % 0x1000 = 0x10) : commandsOnly off = true := by
  have hreg : regKind off = pageWord .crs ((off - 0x10000) / 0x1000) 0x10 := by
    have hlow {b : Nat} (hb : b ≤ 0x10000) : ¬ off < b := by omega
    simp [regKind, h.2.2, h.2.1, hlow]
  have hword (c : Nat) : pageWord .crs c 0x10 = .reg .crs c 0x10 false := rfl
  rw [commandsOnly, hreg, hword]
  exact (by decide : (fieldsOfWord .crs 0x10).all (fun f => f.1.acc != .rwb) = true)

/-- A register with a buffered field does nothing on a write beside storing it. -/
theorem State.writeActs_of_buffered {off : Nat} (h : commandsOnly off = false) (s : State) (path : Path) (level : Nat) (v : Word) :
    s.writeActs path level off v = s := by
  unfold State.writeActs
  dsimp only
  split
  case h_19 =>
    refine if_neg fun hc => ?_
    rw [commandsOnly_crsCtl hc] at h
    cases h
  all_goals exact absurd h (by decide)

/-! ### An access behind no other of its path -/

/-- What an access of a register on a domain that is on leaves of the machine. -/
def accessPieces : List Piece :=
  [.time, .conf, .commits, .posted, .mem, .nvm, .lanes, .courses, .link, .reqs, .keyOps, .trx, .array, .slots, .sec, .boot,
      .pair, .role,
    .upd, .rpr]

section
variable {s : State} {d e p off : Nat}

@[simp] theorem State.refuseEntry_doms (s : State) (d reason : Nat) : (s.refuseEntry d reason).pwr.doms = s.pwr.doms := rfl

theorem State.accessDom_domOn : (s.accessDom d).domOn e = s.domOn e := by
  unfold State.accessDom
  split
  · rfl
  · split
    · next hon =>
      have hst : (s.dom d).st = .on := by simpa [State.domOn] using hon.1
      unfold State.wakeOne
      rw [hst]
      dsimp only
      split
      · simp only [State.domOn, State.dom, State.refuseEntry_doms, State.setDom, Tbl.get_upd]
        split
        · next heq => subst heq; rfl
        · rfl
      · rfl
    · rfl

theorem State.endDelay_tallied (g reason : Nat) : s.regs.tallied (s.endDelay g reason).regs := by
  unfold State.endDelay
  dsimp only
  refine RegSt.tallied.trans ?_ (State.refuseEntry_tallied _ _ reason)
  exact .refl _

theorem State.accessDom_tallied : s.regs.tallied (s.accessDom d).regs := by
  unfold State.accessDom
  split
  · exact State.endDelay_tallied _ 1
  · split
    · exact s.wakeOne_tallied d
    · exact .refl _

theorem State.accessDom_kept : (s.accessDom d).only accessPieces = s.only accessPieces := State.accessDom_only (by decide) s d

theorem State.accessDom_wordDomain : (s.accessDom d).wordDomain p off = s.wordDomain p off := by
  have hview (v : View) : (s.accessDom d).view p v = s.view p v := by
    rw [State.view, State.view, State.accessDom_tallied.views]
  unfold State.wordDomain
  split <;> simp only [hview]

theorem State.pathWaits_of_kept {t : State} (h : t.only accessPieces = s.only accessPieces) : t.pathWaits p = s.pathWaits p :=
  congrArg (fun x => x.pathWaits p) h

end

section
variable {t : State} {a : Access} {off tag : Nat} {q : Req}

/-- The state in which an access that has its turn acts. -/
def State.turnOf (t : State) (off : Nat) : State := if regKind off = .unmapped then t else t.accessDom (t.wordDomain 0 off)

theorem State.turnOf_kept : (t.turnOf off).only accessPieces = t.only accessPieces := by
  unfold State.turnOf
  split
  · rfl
  · exact State.accessDom_kept

theorem State.turnOf_domOn {d : Nat} : (t.turnOf off).domOn d = t.domOn d := by
  unfold State.turnOf
  split
  · rfl
  · exact State.accessDom_domOn

theorem State.turnOf_wordDomain : (t.turnOf off).wordDomain 0 off = t.wordDomain 0 off := by
  unfold State.turnOf
  split
  · rfl
  · exact State.accessDom_wordDomain

/-- A read of the link that has its turn answers the word. -/
theorem State.readReg_of_turn (hpath : a.path = .link) (hon : t.domOn (t.wordDomain 0 off) = true) (hwaits : t.pathWaits 0 = false)
    (hq : t.reqOf false tag = some q) :
    t.readReg a off (some tag) = ((t.turnOf off).readWord .link ((t.turnOf off).accessLevel a) off).2.rdShort q
      ((t.turnOf off).readWord .link ((t.turnOf off).accessLevel a) off).1 := by
  have hclosed : t.closedTo .link off = false := by simp [State.closedTo]
  have hclosed' : (t.turnOf off).closedTo .link off = false := by simp [State.closedTo]
  have hwaits' : (t.turnOf off).pathWaits 0 = false := (State.pathWaits_of_kept State.turnOf_kept).trans hwaits
  have hon' : (t.turnOf off).domOn ((t.turnOf off).wordDomain 0 off) = true := by rw [State.turnOf_wordDomain,
      State.turnOf_domOn, hon]
  have hq' : ((t.turnOf off).readWord .link ((t.turnOf off).accessLevel a) off).2.reqOf false tag = some q := by
    have hseen := (State.readWord_only (K := [.reqs, .keyOps, .trx]) (by decide) (t.turnOf off) .link ((t.turnOf off).accessLevel a)
      off).trans (State.only_mono (by decide) State.turnOf_kept)
    rw [State.reqOf, State.trx_of_only hseen]
    exact hq
  have hturn : t.readReg a off (some tag) = (t.turnOf off).readTurn a off (some tag) (t.turnOf off).nextOrd := by
    rw [State.readReg, hpath]
    simp only [hclosed, Bool.false_eq_true, false_or]
    show (if (t.turnOf off).pathWaits 0 then _ else _) = _
    rw [hwaits']
    rfl
  rw [hturn, State.readTurn, hpath]
  simp only [hclosed', Bool.false_eq_true, if_false]
  show (if regKind off = .unmapped ∨ (t.turnOf off).domOn ((t.turnOf off).wordDomain 0 off) then _ else _) = _
  rw [if_pos (.inr hon')]
  show State.giveValue ((t.turnOf off).readWord .link ((t.turnOf off).accessLevel a) off).2 a (some tag) _
    ((t.turnOf off).readWord .link ((t.turnOf off).accessLevel a) off).1 = _
  rw [State.giveValue, hpath, Option.bind_some, hq']

end

end Sys2Proof.Machine
end

section
set_option Elab.async false
/-! PROOFS. What CFGRD and CFGWR answer (R161, R164): the word, or WACK with the shadow set. -/

namespace Sys2Proof.Machine

section
variable {s t : State} {a : Access} {off tag n x i : Nat} {q : Req} {f : Field} {p : Page}

/-- A register that holds one buffered field reads its shadow. -/
theorem State.readWord_of_buffered (path : Path) {level : Nat} (hreg : regKind off = .reg p n x false)
    (hfields : fieldsOfWord p x = [(f, i)]) (hacc : f.acc = .rwb) (hlevel : t.readLevel f ≤ level) :
    (t.readWord path level off).1 = BitVec.ofNat 32 (t.rsn f n i % 2 ^ (f.hi + 1 - f.lo) * 2 ^ f.lo) := by
  have hmay : decide (level < t.readLevel f) = false := decide_eq_false (Nat.not_lt.2 hlevel)
  simp [State.readWord, hreg, hfields, hmay, State.wordRead, hlevel, State.fieldRead, hacc]

theorem State.writesAt_ge (level : Nat) (v : Word) : level ≤ s.writesAt level off v := by
  unfold State.writesAt
  split <;> omega

/-- A write of the link of a register with one buffered field sets its shadow and is acknowledged. -/
theorem State.writeReg_of_turn {v : Word} (hpath : a.path = .link) (hreg : regKind off = .reg p n x false)
    (hfields : fieldsOfWord p x = [(f, i)]) (hacc : f.acc = .rwb) (hlevel : (t.turnOf off).writeLevel f ≤
        (t.turnOf off).accessLevel a)
    (hd0 : t.wordDomain 0 off ≠ 0) (hon : t.domOn (t.wordDomain 0 off) = true) (hbusy : t.busy (busyKey off) = false)
    (hwaits : t.pathWaits 0 = false) (hq : t.reqOf true tag = some q) :
    t.writeReg a off v (some tag) false = ((t.turnOf off).putShadow f n i (f.of v)).wackPlain q none none := by
  have hcmd : commandsOnly off = false := not_commandsOnly hreg hfields hacc
  have hne {b : Nat} (hb : commandsOnly b = true) : off ≠ b := fun h => by rw [h, hb] at hcmd; cases hcmd
  have hnot88 : off ≠ 0x88 := fun h => hd0 (by rw [h]; rfl)
  have hclosed (u : State) : u.closedTo .link 0x1000 = false := by simp [State.closedTo]
  have hturn : t.turnOf off = t.accessDom (t.wordDomain 0 off) := by simp [State.turnOf, hreg]
  have hbusy' : (t.turnOf off).busy (busyKey off) = false := by
    rw [show (t.turnOf off).busy (busyKey off) = t.busy (busyKey off) from congrArg (fun x => x.busy
        (busyKey off)) State.turnOf_kept,
      hbusy]
  have hwaits' : (t.turnOf off).pathWaits 0 = false := (State.pathWaits_of_kept State.turnOf_kept).trans hwaits
  have hd : (t.turnOf off).wordDomain 0 off = t.wordDomain 0 off := State.turnOf_wordDomain
  have hon' : (t.turnOf off).domOn (t.wordDomain 0 off) = true := State.turnOf_domOn.trans hon
  have hat (w : Word) : decide ((t.turnOf off).writesAt ((t.turnOf off).accessLevel a) off w <
      (t.turnOf off).writeLevel f) = false :=
    decide_eq_false (Nat.not_lt.2 (hlevel.trans (State.writesAt_ge _ _)))
  have hbad : (t.turnOf off).writeBad ((t.turnOf off).writesAt ((t.turnOf off).accessLevel a) off v) off v = false := by
    simp [State.writeBad, hreg, State.writeDenied, hfields, hat]
  have hposts : (t.turnOf off).posts 0 off = false := by
    simp [State.posts, hd, hd0, hne (b := 0x3048) (by decide)]
  have happly : (t.turnOf off).applyWrite .link ((t.turnOf off).writesAt ((t.turnOf off).accessLevel a) off v) off v =
      (t.turnOf off).putShadow f n i (f.of v) := by
    rw [State.applyWrite, hbad, hreg]
    simp only [hfields, List.all_cons, List.all_nil, hat, Bool.false_and, Bool.false_eq_true, if_false, when,
      State.writeActs_of_buffered hcmd]
    simp [State.storeFields, hlevel.trans (State.writesAt_ge _ _), forAll_cons, hacc]
  have hq' : ((t.turnOf off).putShadow f n i (f.of v)).reqOf true tag = some q := by
    rw [State.reqOf, State.trx_of_only (t := (t.turnOf off).putShadow f n i (f.of v)) (s := t.turnOf off) rfl,
      State.trx_of_only (State.only_mono (by decide) State.turnOf_kept)]
    exact hq
  have hack : ((t.turnOf off).putShadow f n i (f.of v)).ackWrite a off v (some tag) false =
      ((t.turnOf off).putShadow f n i (f.of v)).wackPlain q none none := by
    have hsleep : sleepsLink off v = false := by simp [sleepsLink, hne (b := 0x1014) (by decide)]
    simp [State.ackWrite, hq', hsleep]
  rw [State.writeReg, hpath]
  simp only [hclosed, Bool.false_eq_true, false_or, hreg, reduceCtorEq, if_false, show pathNum Path.link = 0 from rfl]
  rw [← hturn]
  simp [hd, hon', hbusy', hbad, hposts, hnot88, hwaits', happly, hack]

end

/-! ### A register access that arrives -/

theorem State.wordDomain_of_tallied {s t : State} (h : s.regs.tallied t.regs)
    (p off : Nat) : t.wordDomain p off = s.wordDomain p off := by
  have hview (v : View) : t.view p v = s.view p v := by rw [State.view, State.view, h.views]
  unfold State.wordDomain
  split <;> simp only [hview]

/-- The end and the plain answer of a request at the router. -/
theorem State.answer_of_atRouter {u : State} {r : Req} (hat : r.atRouter = true) (hw : isWrite (hOp r.hdr) = false) (w : Bool)
    (cells : List Cell) :
    ((u.endReq r).answer w (hTag r.hdr) cells none).link.upQ = u.link.upQ ++ [⟨cells, .tag w (hTag r.hdr), none, false⟩] ∧
      ((u.endReq r).answer w (hTag r.hdr) cells none).trx.reqs = u.trx.reqs.filter (fun x => x.uid != r.uid) ∧
      ((u.endReq r).answer w (hTag r.hdr) cells none).trx.respond = u.trx.respond ++ [(w, hTag r.hdr)] := by
  obtain ⟨hlink, htrx⟩ := State.endReq_of_atRouter (s := u) hat hw
  refine ⟨?_, ?_, ?_⟩
  · simp only [State.answer, State.sendUp, hlink]
    rfl
  · simp only [State.answer, State.sendUp, htrx]
    rfl
  · simp only [State.answer, State.sendUp, htrx]
    rfl

/-- The state in which an accepted register access has its turn. -/
def State.accessTaken (s : State) (c k : Nat) (h : Cell) : State :=
  (s.reqTaken c k h).setReq (s.newReq c k h [] 0#64).uid (fun x => { x with stage := .waiting })

section
variable {s : State} {c k : Nat} {h : Cell}

theorem State.accessTaken_only {K : List Piece} (hK : .link ∉ K ∧ .regs ∉ K ∧ .trx ∉ K ∧ .reqs ∉ K) :
    (s.accessTaken c k h).only K = s.only K := by
  obtain ⟨-, -, -, hreqs⟩ := id hK
  exact (State.setReq_only hreqs ..).trans (State.reqTaken_only hK c k h)

/-- The request that a register access makes, as it waits. -/
def State.accessReq (s : State) (c k : Nat) (h : Cell) : Req := { s.newReq c k h [] 0#64 with stage := .waiting }

theorem State.accessTaken_reqs (hopen : s.routerOpen (hRqid h)) : (s.accessTaken c k h).trx.reqs = s.trx.reqs ++
    [s.accessReq c k h] :=
  (State.req_setReq_new (t := s.reqTaken c k h) (r := s.newReq c k h [] 0#64)
    (f := fun x => { x with stage := .waiting }) State.reqTaken_reqs hopen.new rfl).1

theorem State.accessTaken_wordDomain (p off : Nat) : (s.accessTaken c k h).wordDomain p off = s.wordDomain p off :=
  State.wordDomain_of_tallied (State.count_tallied (s.useCells 1 0 0) 0x20100) p off

theorem State.accessTaken_domOn {off : Nat} (hon : s.domOn (s.wordDomain 0 off) = true) :
    (s.accessTaken c k h).domOn ((s.accessTaken c k h).wordDomain 0 off) = true := by
  rw [State.accessTaken_wordDomain]
  exact hon

theorem State.accessTaken_link : (s.accessTaken c k h).link.upQ = s.link.upQ := rfl

theorem State.accessTaken_respond : (s.accessTaken c k h).trx.respond = s.trx.respond :=
  State.reqTaken_respond (s := s) (c := c) (k := k) (h := h)

theorem State.accessTaken_reqOf (harr : s.reqArrives c k h) (hopen : s.routerOpen (hRqid h)) :
    (s.accessTaken c k h).reqOf (inWriteSpace (hOp h)) (hTag h) = some (s.accessReq c k h) := by
  obtain ⟨-, -, -, -, -, -, hfree, -⟩ := harr
  simp only [State.tagBusy, Bool.or_eq_false_iff] at hfree
  obtain ⟨⟨hreqs, -⟩, -⟩ := hfree
  rw [State.reqOf, State.accessTaken_reqs hopen]
  exact find_named hreqs (by simp [Req.names, State.accessReq, State.newReq])

theorem State.accessReq_gone (hopen : s.routerOpen (hRqid h)) :
    (s.trx.reqs ++ [s.accessReq c k h]).filter (fun x => x.uid != (s.accessReq c k h).uid) = s.trx.reqs := by
  have hne : ∀ x ∈ s.trx.reqs, (x.uid != (s.accessReq c k h).uid) = true := fun x hx =>
    bne_iff_ne.2 (Nat.ne_of_lt (hopen.2.2.2.2 x hx).1)
  rw [List.filter_append, List.filter_eq_self.2 hne]
  simp

/-- What the two answers of a register access leave of the machine: it has joined the responses, and nothing waits for it. -/
theorem State.access_answered {u : State} (hopen : s.routerOpen (hRqid h)) (hw : isWrite (hOp h) = false)
    (hu : u.only [.lanes, .courses, .link, .reqs, .keyOps, .trx] =
      (s.accessTaken c k h).only [.lanes, .courses, .link, .reqs, .keyOps, .trx]) (w : Bool) (cells : List Cell) :
    ((u.endReq (s.accessReq c k h)).answer w (hTag h) cells none).link.upQ =
        s.link.upQ ++ [⟨cells, .tag w (hTag h), none, false⟩] ∧
      ((u.endReq (s.accessReq c k h)).answer w (hTag h) cells none).trx.reqs = s.trx.reqs ∧
      ((u.endReq (s.accessReq c k h)).answer w (hTag h) cells none).trx.respond = s.trx.respond ++ [(w, hTag h)] := by
  have hlink : u.link = (s.accessTaken c k h).link := State.link_of_only (State.only_mono (by decide) hu)
  have htrx : u.trx = (s.accessTaken c k h).trx := State.trx_of_only (State.only_mono (by decide) hu)
  obtain ⟨hq, hreqs, hresp⟩ := State.answer_of_atRouter (u := u) (r := s.accessReq c k h) rfl hw w cells
  refine ⟨hq.trans (by rw [hlink]; rfl), hreqs.trans ?_, hresp.trans ?_⟩
  · rw [htrx, State.accessTaken_reqs hopen]
    exact State.accessReq_gone hopen
  · rw [htrx, State.accessTaken_respond]
    rfl

/-- CFGRD of a domain that is on answers its word. -/
theorem cfgrd_answered (harr : s.reqArrives c k h) (hopen : s.routerOpen (hRqid h)) (hwaits : s.pathWaits 0 = false)
    (hop : hOp h = 0x10) (hon : s.domOn (s.wordDomain 0 (4 * hOffset h)) = true) :
    ∃ t v, exec (.cfgrd c k h) s = .next t ∧ t.trx.reqs = s.trx.reqs ∧ t.trx.respond = s.trx.respond ++ [(false, hTag h)] ∧
      t.link.upQ = s.link.upQ ++ [⟨[rdataShort (hTag h) v], .tag false (hTag h), none, false⟩] ∧
      (∀ (f : Field) (i n x : Nat) (p : Page), regKind (4 * hOffset h) = .reg p n x false → fieldsOfWord p x = [(f, i)] →
        f.acc = .rwb → s.readLevel f ≤ s.accessLevel ⟨.link, c, hPriv h, hSecure h⟩ →
        v = s.rsn f n i % 2 ^ (f.hi + 1 - f.lo) * 2 ^ f.lo % 2 ^ 32) ∧
      t.nvm = s.nvm ∧ t.array = s.array := by
  obtain ⟨-, hc, hfit, -⟩ := id harr
  generalize hoff : 4 * hOffset h = off at hon ⊢
  generalize ha : (⟨.link, c, hPriv h, hSecure h⟩ : Access) = a
  have hpath : a.path = .link := by rw [← ha]
  have hq : (s.accessTaken c k h).reqOf false (hTag h) = some (s.accessReq c k h) := by
    have := State.accessTaken_reqOf harr hopen
    rwa [hop] at this
  have hread := State.readReg_of_turn (t := s.accessTaken c k h) hpath (State.accessTaken_domOn hon)
    ((congrArg (fun x => x.pathWaits 0) (State.accessTaken_only (K := [.posted]) (by decide))).trans hwaits) hq
  have heff : s.deliverAs 0x10 c k h [] none = (s.accessTaken c k h).readReg a off (some (hTag h)) := by
    rw [State.deliverAs_of_open harr hopen hop rfl, State.proceed, ← ha, ← hoff]
    simp only [State.newReq, hop]
    rfl
  rw [hread] at heff
  generalize hlevel : ((s.accessTaken c k h).turnOf off).accessLevel a = level at heff
  have hkept {K : List Piece} (hK : K ⊆ accessPieces) : ((s.accessTaken c k h).turnOf off).only K = (s.accessTaken c k h).only K :=
    State.only_mono hK State.turnOf_kept
  have hseen := State.readWord_only (K := [.lanes, .courses, .link, .reqs, .keyOps, .trx, .mem, .nvm, .array]) (by decide)
    ((s.accessTaken c k h).turnOf off) .link level off
  have hu := hseen.trans (hkept (by decide))
  obtain ⟨hup, hreqs, hresp⟩ := State.access_answered (u := (((s.accessTaken c k h).turnOf off).readWord .link level off).2) hopen
    (by rw [hop]; rfl) (State.only_mono (by decide) hu) false
    [rdataShort (hTag h) (((s.accessTaken c k h).turnOf off).readWord .link level off).1.toNat]
  obtain ⟨t, hexec, ht⟩ := exec_seen (c := .cfgrd c k h) (s := s) (u := s.deliverAs 0x10 c k h [] none) rfl
    (by simp [Instr.wellFormed, Instr.units, Instr.partsOk, hc, show k < 30 by omega]) harr.1
    [.lanes, .courses, .link, .reqs, .keyOps, .trx, .mem, .nvm, .array]
  rw [heff] at ht
  have htrx := State.trx_of_only (State.only_mono (by decide) ht)
  have hmem {K : List Piece} (hK : K ⊆ [.mem, .nvm, .array]) : t.only K = s.only K :=
    (State.only_mono (L := [.mem, .nvm, .array]) hK ((State.only_mono (by decide) ht).trans ((State.rdShort_only
        (by decide) ..).trans
      ((State.only_mono (by decide) hu).trans (State.accessTaken_only (by decide))))))
  refine ⟨t, (((s.accessTaken c k h).turnOf off).readWord .link level off).1.toNat, hexec, htrx ▸ hreqs, htrx ▸ hresp,
    State.link_of_only (State.only_mono (by decide) ht) ▸ hup, fun f i n x p hreg hfields hacc hlv => ?_,
    State.nvm_of_only (hmem (by decide)), State.array_of_only (hmem (by decide))⟩
  have hconf : ((s.accessTaken c k h).turnOf off).only [.conf, .sec, .courses, .boot, .role, .pair, .upd] =
      s.only [.conf, .sec, .courses, .boot, .role, .pair, .upd] := (hkept (by decide)).trans (State.accessTaken_only (by decide))
  have hrsn : ((s.accessTaken c k h).turnOf off).rsn f n i = s.rsn f n i := congrArg (fun x => x.rsn f n i) hconf
  have hrd : ((s.accessTaken c k h).turnOf off).readLevel f = s.readLevel f := congrArg (fun x => x.readLevel f) hconf
  have hlv' : level = s.accessLevel a := hlevel ▸ congrArg (fun x => x.accessLevel a) hconf
  rw [State.readWord_of_buffered .link hreg hfields hacc (by rw [hrd, hlv']; exact hlv), hrsn, BitVec.toNat_ofNat]

/-- CFGWR of a buffered register of a domain that is on sets its shadow and is acknowledged. -/
theorem cfgwr_acknowledged {f : Field} {i n x : Nat} {p : Page} (harr : s.reqArrives c k h) (hopen : s.routerOpen (hRqid h))
    (hwaits : s.pathWaits 0 = false) (hop : hOp h = 0x11) (hreg : regKind (4 * hOffset h) = .reg p n x false)
    (hfields : fieldsOfWord p x = [(f, i)]) (hacc : f.acc = .rwb)
    (hlevel : s.writeLevel f ≤ s.accessLevel ⟨.link, c, hPriv h, hSecure h⟩) (hd0 : s.wordDomain 0 (4 * hOffset h) ≠ 0)
    (hon : s.domOn (s.wordDomain 0 (4 * hOffset h)) = true) (hbusy : s.busy (busyKey (4 * hOffset h)) = false) :
    ∃ t, exec (.cfgwr c k h) s = .next t ∧ t.rsn f n i = f.of (BitVec.ofNat 32 (hData h)) ∧ t.regs.force = s.regs.force ∧
      t.trx.reqs = s.trx.reqs ∧ t.trx.respond = s.trx.respond ++ [(true, hTag h)] ∧
      t.link.upQ = s.link.upQ ++ [⟨[wackCell (hTag h) 0 0 false 0], .tag true (hTag h), none, false⟩] ∧
      t.nvm = s.nvm ∧ t.array = s.array := by
  obtain ⟨-, hc, hfit, -⟩ := id harr
  generalize hoff : 4 * hOffset h = off at hon hreg hd0 hbusy
  generalize ha : (⟨.link, c, hPriv h, hSecure h⟩ : Access) = a at hlevel
  have hpath : a.path = .link := by rw [← ha]
  have hq : (s.accessTaken c k h).reqOf true (hTag h) = some (s.accessReq c k h) := by
    have := State.accessTaken_reqOf harr hopen
    rwa [hop] at this
  have hkept {K : List Piece} (hK : K ⊆ accessPieces) : ((s.accessTaken c k h).turnOf off).only K = (s.accessTaken c k h).only K :=
    State.only_mono hK State.turnOf_kept
  have hconf : ((s.accessTaken c k h).turnOf off).only [.conf, .sec, .courses, .boot, .role, .pair, .upd] =
      s.only [.conf, .sec, .courses, .boot, .role, .pair, .upd] := (hkept (by decide)).trans (State.accessTaken_only (by decide))
  have hwr : ((s.accessTaken c k h).turnOf off).writeLevel f = s.writeLevel f := congrArg (fun x => x.writeLevel f) hconf
  have hlv : ((s.accessTaken c k h).turnOf off).accessLevel a = s.accessLevel a := congrArg (fun x => x.accessLevel a) hconf
  have hdom := State.accessTaken_wordDomain (s := s) (c := c) (k := k) (h := h) 0 off
  have hposted := State.accessTaken_only (s := s) (c := c) (k := k) (h := h) (K := [.posted]) (by decide)
  have hwrite := State.writeReg_of_turn (t := s.accessTaken c k h) (v := BitVec.ofNat 32 (hData h)) hpath hreg hfields hacc
    (by rw [hwr, hlv]; exact hlevel) (by rw [hdom]; exact hd0) (State.accessTaken_domOn hon)
    ((congrArg (fun x => x.busy (busyKey off)) hposted).trans hbusy)
    ((congrArg (fun x => x.pathWaits 0) hposted).trans hwaits) hq
  have heff : s.deliverAs 0x11 c k h [] none =
      (s.accessTaken c k h).writeReg a off (BitVec.ofNat 32 (hData h)) (some (hTag h)) false := by
    rw [State.deliverAs_of_open harr hopen hop rfl, State.proceed, ← ha, ← hoff]
    simp only [State.newReq, hop]
    rfl
  rw [hwrite] at heff
  have hput {K : List Piece} (hK : .conf ∉ K) (hin : K ⊆ accessPieces) (hout : .link ∉ K ∧ .regs ∉ K ∧ .trx ∉ K ∧ .reqs ∉ K) :
      (((s.accessTaken c k h).turnOf off).putShadow f n i (f.of (BitVec.ofNat 32 (hData h)))).only K = s.only K :=
    (State.putShadow_only hK ..).trans ((hkept hin).trans (State.accessTaken_only hout))
  obtain ⟨hup, hreqs, hresp⟩ := State.access_answered
    (u := ((s.accessTaken c k h).turnOf off).putShadow f n i (f.of (BitVec.ofNat 32 (hData h)))) hopen
    (by rw [hop]; rfl) ((State.putShadow_only (by decide) ..).trans (hkept (by decide))) true [wackCell (hTag h) 0 0 false 0]
  obtain ⟨t, hexec, ht⟩ := exec_seen (c := .cfgwr c k h) (s := s) (u := s.deliverAs 0x11 c k h [] none) rfl
    (by simp [Instr.wellFormed, Instr.units, Instr.partsOk, hc, show k < 30 by omega]) harr.1
    [.conf, .lanes, .courses, .link, .reqs, .keyOps, .trx, .mem, .nvm, .array]
  rw [heff] at ht
  have htrx := State.trx_of_only (State.only_mono (by decide) ht)
  have hregs : t.only [.conf] =
      (((s.accessTaken c k h).turnOf off).putShadow f n i (f.of (BitVec.ofNat 32 (hData h)))).only [.conf] :=
    (State.only_mono (by decide) ht).trans (State.wackPlain_only (by decide) ..)
  have hmem {K : List Piece} (hK : K ⊆ [.mem, .nvm, .array]) : t.only K = s.only K :=
    State.only_mono (L := [.mem, .nvm, .array]) hK ((State.only_mono (by decide) ht).trans ((State.wackPlain_only
        (by decide) ..).trans
      (hput (by decide) (by decide) (by decide))))
  have hfits : f.fits i = true := fits_of_fieldsOfWord (hfields ▸ List.mem_singleton_self _) hacc
  refine ⟨t, hexec, ?_, ?_, htrx ▸ hreqs, htrx ▸ hresp, State.link_of_only (State.only_mono (by decide) ht) ▸ hup,
    State.nvm_of_only (hmem (by decide)), State.array_of_only (hmem (by decide))⟩
  · exact (congrArg (fun x => x.rsn f n i) hregs).trans (State.putShadow_rsn _ hfits n _)
  · exact (congrArg (fun x => x.regs.force) hregs).trans (congrArg (fun x => x.regs.force) hconf)

end

/-- Settles O22: CFGRD answers its word, and CFGWR sets the shadow of a buffered register. -/
theorem linkRegisterAccesses : Obligations.LinkRegisterAccesses :=
  fun _ _ _ _ harr hopen hwaits => ⟨cfgrd_answered harr hopen hwaits, fun _ _ _ _ _ hop hreg hfields hacc _ hlevel hd0 hon hbusy =>
    cfgwr_acknowledged harr hopen hwaits hop hreg hfields hacc hlevel hd0 hon hbusy⟩

end Sys2Proof.Machine
end

section
/-! PROOFS. The arbiter takes the values of group 2 that the channel of its number holds before it decides,
    and brings the batch mode of
the partner channel up to date with them: the request that it was to serve may end there (O36). -/

-- The kernel evaluates each witness in turn.
set_option Elab.async false

namespace Sys2Proof.Machine

/-- A write of line 0 that may be selected. -/
def readyWrite : WrEnt := ⟨0, 0, 0, 0, 0, 0#512, 0, 0, [0], false, true, false, false, false, false, 0⟩

/-- The running machine whose channel 32 is in batch mode with one write; channel 0 holds values of group 2 that wait. -/
def batchState : State :=
  { readyState with
    cal := { readyState.cal with groups := .const ⟨.fresh, 0, 0, 0, none, 0, none, true, false, false⟩ }
    chans := (readyState.chans.upd 0 (fun c => { c with g2 := some [] })).upd 32 (fun c => { c with
      batch := true, writes := [readyWrite]
      reads := [⟨1, 0, 1, 1, 0, 0, false, false, 0, 0, true⟩] }) }

theorem batchState_met :
    batchState.running = true ∧ batchState.channelAlone 32 ∧ (batchState.atFret 32 0).wants 32 .wrd = true ∧
      (batchState.atFret 32 0).longHeld 32 .wrd = false ∧ batchState.masked 32 .wrd = false ∧
      (batchState.chan 32).downStands = false ∧ (batchState.chan 32).holder = none := by
  unfold State.channelAlone
  decide +kernel

theorem batchState_agents (b : Agent) : ((batchState.chan 32).agent b).asks = false := by
  cases b <;> decide +kernel

theorem batchState_nextXfer : ∃ y, (batchState.atFret 32 0).nextXfer 32 .wrd = some y :=
  Option.isSome_iff_exists.mp (by decide +kernel)

theorem batchState_asks :
    ((batchState.withInputs (batchState.mirrorFrom (opAgentRequest 32 .wrd 0 batchState))).chan 32).holder = none := by
  decide +kernel

/-- Refutes O36: WRD of channel 32 asks alone in batch mode; the values of channel 0 end the batch, and no agent holds the grant. -/
theorem not_agentsTakeTheChannel : ¬ Obligations.AgentsTakeTheChannel := by
  intro h
  obtain ⟨hrun, halone, hwants, hlong, hmask, hdown, hholder⟩ := batchState_met
  obtain ⟨y, hy⟩ := batchState_nextXfer
  have ask := (h batchState _ 32 0 .wrd .ref .ref y y hrun (by decide) halone).1 rfl hwants hlong (batchState_agents _) hmask hdown
  obtain ⟨t, ht, hgrant, -⟩ := ask.2 hholder (fun b _ => batchState_agents b) hy
  rw [exec_of_act rfl (by decide) hrun] at ht
  obtain rfl := Host.Outcome.next.inj ht
  rw [batchState_asks] at hgrant
  exact absurd hgrant (by decide)

end Sys2Proof.Machine
end

section
/-! PROOFS. The parity of a word, and the beats of a command that the encodings allow (R257 to R260). -/

set_option Elab.async false

namespace Sys2Proof.Machine

/-! ### Parity -/

theorem foldl_xor_xor (l : List Nat) (f g : Nat → Bool) (a b : Bool) :
    l.foldl (fun p i => p.xor (f i ^^ g i)) (a ^^ b) = (l.foldl (fun p i => p.xor (f i)) a ^^ l.foldl (fun p i => p.xor
        (g i)) b) := by
  induction l generalizing a b with
  | nil => rfl
  | cons i l ih =>
    have hab : (a ^^ b).xor (f i ^^ g i) = (a.xor (f i) ^^ b.xor (g i)) := by
      cases a <;> cases b <;> cases f i <;> cases g i <;> rfl
    simp only [List.foldl_cons, hab, ih]

theorem foldl_xor_decide (i n : Nat) : (List.range n).foldl (fun p j => p.xor (decide (j = i))) false = decide (i < n) := by
  induction n with
  | zero => rfl
  | succ n ih =>
    rw [List.range_succ, List.foldl_append, ih]
    by_cases h : n = i <;> by_cases hlt : i < n <;> simp [h, hlt] <;> omega

theorem oddOnes_xor {n : Nat} (v w : BitVec n) : oddOnes (v ^^^ w) = (oddOnes v ^^ oddOnes w) := by
  simpa [oddOnes, bitAt, BitVec.getLsbD_xor] using foldl_xor_xor (List.range n) (bitAt v) (bitAt w) false false

theorem oddOnes_twoPow {n i : Nat} (hi : i < n) : oddOnes (BitVec.twoPow n i) = true := by
  have h := foldl_xor_decide i n
  rw [decide_eq_true hi] at h
  rw [← h, oddOnes]
  have hbit : ∀ l : List Nat, (∀ j ∈ l, j < n) → ∀ a : Bool, l.foldl (fun p j => p.xor (bitAt (BitVec.twoPow n i) j)) a =
      l.foldl (fun p j => p.xor (decide (j = i))) a := by
    intro l hl
    induction l with
    | nil => exact fun _ => rfl
    | cons j l ih =>
      intro a
      have hj : bitAt (BitVec.twoPow n i) j = decide (j = i) := by
        simp [bitAt, hl j List.mem_cons_self, eq_comm]
      rw [List.foldl_cons, List.foldl_cons, hj, ih fun k hk => hl k (List.mem_cons_of_mem _ hk)]
  exact hbit _ (fun j hj => List.mem_range.1 hj) false

/-- A word whose highest bit is free takes there the bit that makes the number of its ones even. -/
theorem oddOnes_withParity {n i : Nat} (w : BitVec n) (hi : i < n) (hw : w.getLsbD i = false) :
    oddOnes (w ||| (if oddOnes w then BitVec.twoPow n i else 0#n)) = false := by
  have hor : (w ||| BitVec.twoPow n i) = w ^^^ BitVec.twoPow n i := by
    refine BitVec.eq_of_getLsbD_eq fun j hj => ?_
    rw [BitVec.getLsbD_or, BitVec.getLsbD_xor, BitVec.getLsbD_twoPow]
    by_cases hij : i = j
    · subst hij; simp [hw]
    · simp [hij]
  cases hodd : oddOnes w
  · simpa using hodd
  · rw [if_pos rfl, hor, oddOnes_xor, hodd, oddOnes_twoPow hi]
    rfl

/-- A word with one bit more at a place that is free counts that bit beside its own. -/
theorem toNat_withParity {n i : Nat} (w : BitVec n) (hi : i < n) (hw : w.toNat < 2 ^ i) (p : Bool) :
    (w ||| (if p then BitVec.twoPow n i else 0#n)).toNat = w.toNat + b2n p * 2 ^ i := by
  cases p
  · simp [b2n]
  · have hmod : 2 ^ i % 2 ^ n = 2 ^ i := Nat.mod_eq_of_lt (Nat.pow_lt_pow_right (by decide) hi)
    have hsum := Nat.two_pow_add_eq_or_of_lt hw 1
    rw [Nat.mul_one] at hsum
    rw [if_pos rfl, BitVec.toNat_or, BitVec.toNat_twoPow, hmod, Nat.or_comm, ← hsum]
    simp [b2n, Nat.add_comm]

theorem b2n_lt_two (p : Bool) : b2n p < 2 := by cases p <;> decide

/-- A field of a number that is written as what stands below it, itself, and what stands above it. -/
theorem fieldNat_of_parts {n hi lo : Nat} {v : BitVec n} (low x up : Nat) (h : v.toNat = low + x * 2 ^ lo + up * 2 ^ (hi + 1))
    (hlow : low < 2 ^ lo) (hx : x < 2 ^ (hi + 1 - lo)) (hle : lo ≤ hi + 1 := by decide) : fieldNat v hi lo = x := by
  have hpow : 2 ^ (hi + 1) = 2 ^ lo * 2 ^ (hi + 1 - lo) := by rw [← Nat.pow_add, Nat.add_sub_cancel' hle]
  have hsplit : v.toNat = low + 2 ^ lo * (x + 2 ^ (hi + 1 - lo) * up) := by rw [h, hpow]; ring
  rw [fieldNat, hsplit, Nat.add_mul_div_left _ _ (Nat.two_pow_pos lo), Nat.div_eq_of_lt hlow, Nat.zero_add,
      Nat.add_mul_mod_self_left,
    Nat.mod_eq_of_lt hx]

/-! ### Row commands -/

section
variable {c : DieCmd}

theorem DieCmd.toNat_rowBody (hcmd : c.cmd ≤ 12) (hsid : c.sid < 4) (hbank : c.bank < 16) (hrow : c.row < 32768)
    (harg : c.arg < 16) :
    c.rowBody.toNat = c.cmd * 64 + c.sid * 16 + c.bank + c.row % 1024 * 1024 + (c.arg * 32 + c.row / 1024) * 1048576 := by
  rw [DieCmd.rowBody, BitVec.toNat_ofNat]
  omega

theorem DieCmd.captureRow_rowBeats (hcmd : c.cmd ≤ 12) (hsid : c.sid < 4) (hbank : c.bank < 16) (hrow : c.row < 32768)
    (harg : c.arg < 16) : captureRow c.rowBeats = some ⟨c.cmd, c.sid, c.bank, c.row, c.arg, 0, 0, 0⟩ := by
  have hbody := DieCmd.toNat_rowBody hcmd hsid hbank hrow harg
  have hlt : c.rowBody.toNat < 2 ^ 39 := by omega
  have heven : oddOnes c.rowBeats = false := oddOnes_withParity _ (by decide) (Nat.testBit_lt_two_pow hlt)
  have hnat : c.rowBeats.toNat = _ := toNat_withParity c.rowBody (by decide) hlt (oddOnes c.rowBody)
  have hbit := b2n_lt_two (oddOnes c.rowBody)
  generalize b2n (oddOnes c.rowBody) = p at hnat hbit
  rw [hbody] at hnat
  have hop : fieldNat c.rowBeats 9 6 = c.cmd := by rw [fieldNat, hnat]; omega
  have hs : fieldNat c.rowBeats 5 4 = c.sid := by rw [fieldNat, hnat]; omega
  have hb : fieldNat c.rowBeats 3 0 = c.bank := by rw [fieldNat, hnat]; omega
  have hr : fieldNat c.rowBeats 24 20 * 1024 + fieldNat c.rowBeats 19 10 = c.row := by rw [fieldNat, fieldNat, hnat]; omega
  have ha : fieldNat c.rowBeats 28 25 = c.arg := by rw [fieldNat, hnat]; omega
  have hz : fieldNat c.rowBeats 38 30 = 0 := by rw [fieldNat, hnat]; omega
  have h29 : bitAt c.rowBeats 29 = false := by
    rw [bitAt, BitVec.getLsbD, hnat, Nat.testBit_eq_decide_div_mod_eq]
    exact decide_eq_false (by omega)
  rw [captureRow, heven, hop, hs, hb, hr, ha, hz, h29]
  simp [hcmd]

/-! ### Column commands -/

theorem DieCmd.oddOnes_colBeats (hlt : c.colBody.toNat < 2 ^ 31) : oddOnes c.colBeats = false :=
  oddOnes_withParity _ (by decide) (Nat.testBit_lt_two_pow hlt)

theorem DieCmd.toNat_colBeats (hlt : c.colBody.toNat < 2 ^ 31) :
    c.colBeats.toNat = c.colBody.toNat + b2n (oddOnes c.colBody) * 2 ^ 31 := toNat_withParity _ (by decide) hlt _

theorem DieCmd.toNat_colBody_of_access (hlo : 16 ≤ c.cmd) (hhi : c.cmd ≤ 18) (hsid : c.sid < 4) (hbank : c.bank < 16)
    (hcol : c.col < 16) :
    c.colBody.toNat = (c.cmd - 15) * 16 + c.sid * 4 + c.bank % 4 + (c.bank / 4) * 16384 + c.col * 1024 := by
  have hmr : namesMr c.cmd = false := by
    simp only [namesMr, Bool.or_eq_false_iff, beq_eq_false_iff_ne]
    omega
  have hn : c.cmd - 15 < 4 := by omega
  have hq : c.bank / 4 < 4 := by omega
  have hr : c.bank % 4 < 4 := by omega
  rw [DieCmd.colBody, hmr, if_neg (by decide), BitVec.toNat_ofNat]
  generalize c.cmd - 15 = n at hn
  generalize c.bank / 4 = q at hq
  generalize c.bank % 4 = r at hr
  omega

theorem DieCmd.captureCol_of_access (hlo : 16 ≤ c.cmd) (hhi : c.cmd ≤ 18) (hsid : c.sid < 4) (hbank : c.bank < 16)
    (hcol : c.col < 16) :
    captureCol c.colBeats = some ⟨c.cmd, c.sid, c.bank, 0, 0, c.col, 0, 0⟩ := by
  have hbody := DieCmd.toNat_colBody_of_access hlo hhi hsid hbank hcol
  have hlt : c.colBody.toNat < 2 ^ 31 := by omega
  have heven := DieCmd.oddOnes_colBeats hlt
  have hnat := DieCmd.toNat_colBeats hlt
  have hbit := b2n_lt_two (oddOnes c.colBody)
  have hn : c.cmd - 15 ≠ 0 ∧ c.cmd - 15 < 4 ∧ c.cmd - 15 + 15 = c.cmd := by omega
  have hq : c.bank / 4 < 4 ∧ c.bank % 4 < 4 ∧ c.bank / 4 * 4 + c.bank % 4 = c.bank := by omega
  rw [hbody] at hnat
  generalize b2n (oddOnes c.colBody) = p at hnat hbit
  generalize c.cmd - 15 = n at hnat hn
  generalize c.bank / 4 = q at hnat hq
  generalize c.bank % 4 = r at hnat hq
  obtain ⟨h0, hn4, hback⟩ := hn
  obtain ⟨hq4, hr4, hsum⟩ := hq
  clear hlt hbody hlo hhi
  have hop : fieldNat c.colBeats 7 4 = n := by rw [fieldNat, hnat]; omega
  have hs : fieldNat c.colBeats 3 2 = c.sid := by rw [fieldNat, hnat]; omega
  have hbg : fieldNat c.colBeats 15 14 = q :=
    fieldNat_of_parts (n * 16 + c.sid * 4 + r + c.col * 1024) q (p * 32768) (by rw [hnat]; omega) (by omega) hq4
  have hba : fieldNat c.colBeats 1 0 = r := by rw [fieldNat, hnat]; omega
  have hc : fieldNat c.colBeats 13 10 = c.col :=
    fieldNat_of_parts (n * 16 + c.sid * 4 + r) c.col (q + p * 131072) (by rw [hnat]; omega) (by omega) hcol
  have h9 : fieldNat c.colBeats 9 8 = 0 :=
    fieldNat_of_parts (n * 16 + c.sid * 4 + r) 0 (c.col + q * 16 + p * 2097152) (by rw [hnat]; omega) (by omega) (by decide)
  have hz : fieldNat c.colBeats 30 24 = 0 :=
    fieldNat_of_parts (n * 16 + c.sid * 4 + r + q * 16384 + c.col * 1024) 0 p (by rw [hnat]; omega) (by omega) (by decide)
  have hne : n ≠ 4 ∧ n ≠ 5 ∧ ¬ 5 < n := by omega
  obtain ⟨h4, h5, hmax⟩ := hne
  rw [captureCol, heven, hop, hs, hbg, hba, hc, h9, hz, hsum]
  simp [h0, h4, h5, hmax, hback]

theorem DieCmd.captureCol_of_mr (hcmd : c.cmd = 19 ∨ c.cmd = 20) (hsid : c.sid < 4) (hmr : c.mr < 64) (hdata : c.data < 256)
    (hread : c.cmd = 20 → c.data = 0) : captureCol c.colBeats = some ⟨c.cmd, c.sid, 0, 0, 0, 0, c.mr, c.data⟩ := by
  have hnames : namesMr c.cmd = true := by
    rcases hcmd with h | h <;> rw [h] <;> rfl
  have hbody : c.colBody.toNat = (c.cmd - 15) * 16 + c.sid * 4 + c.mr * 256 + c.data * 65536 := by
    rw [DieCmd.colBody, hnames, if_pos rfl, BitVec.toNat_ofNat]
    rcases hcmd with h | h
    · rw [h, if_pos rfl]; omega
    · rw [h, if_neg (by decide), hread h]; omega
  have hlt : c.colBody.toNat < 2 ^ 31 := by omega
  have heven := DieCmd.oddOnes_colBeats hlt
  have hnat := DieCmd.toNat_colBeats hlt
  have hbit := b2n_lt_two (oddOnes c.colBody)
  generalize b2n (oddOnes c.colBody) = p at hnat hbit
  rw [hbody] at hnat
  have hop : fieldNat c.colBeats 7 4 = c.cmd - 15 := by rw [fieldNat, hnat]; omega
  have hs : fieldNat c.colBeats 3 2 = c.sid := by rw [fieldNat, hnat]; omega
  have hm : fieldNat c.colBeats 13 8 = c.mr := by rw [fieldNat, hnat]; omega
  have hd : fieldNat c.colBeats 23 16 = c.data := by rw [fieldNat, hnat]; omega
  have hz : fieldNat c.colBeats 30 24 = 0 := by rw [fieldNat, hnat]; omega
  rw [captureCol, heven, hop, hs, hm, hd, hz]
  rcases hcmd with h | h <;> rw [h] <;> simp

/-! ### What a SID captures -/

theorem captureRow_of_odd {w : BitVec 40} (h : oddOnes w = true) : captureRow w = none := by
  rw [captureRow, h, Bool.true_or, Bool.true_or, Bool.true_or, if_pos rfl]

theorem captureCol_of_odd {w : BitVec 32} (h : oddOnes w = true) : captureCol w = none := by
  simp [captureCol, h]

theorem oddOnes_rowBeats_of_captured {w : BitVec 40} {d : DieCmd} (h : captureRow w = some d) : oddOnes w = false := by
  cases hodd : oddOnes w
  · rfl
  · rw [captureRow_of_odd hodd] at h
    cases h

theorem oddOnes_colBeats_of_captured {w : BitVec 32} {d : DieCmd} (h : captureCol w = some d) : oddOnes w = false := by
  cases hodd : oddOnes w
  · rfl
  · rw [captureCol_of_odd hodd] at h
    cases h

/-- A row command with its operands in range is captured, its other fields read as 0 (R258). -/
theorem DieCmd.captured_of_row (hcmd : c.cmd ≤ 12) (hsid : c.sid < 4) (hbank : c.bank < 16) (hrow : c.row < 32768)
    (harg : c.arg < 16) :
    c.captured 0#40 = some ⟨c.cmd, c.sid, c.bank, c.row, c.arg, 0, 0, 0⟩ := by
  have hbus : onColumn c.cmd = false := decide_eq_false (by omega)
  rw [DieCmd.captured, hbus, if_neg (by decide), BitVec.xor_zero, captureRow_rowBeats hcmd hsid hbank hrow harg]

/-- A captured command loses its parity, and with it its capture, by one bit inverted on its way (R260). -/
theorem DieCmd.captured_of_flip {d : DieCmd} (h : c.captured 0#40 = some d) {i : Nat} (hi : i < if onColumn c.cmd then 32 else 40) :
    c.captured (BitVec.twoPow 40 i) = none := by
  unfold DieCmd.captured at h ⊢
  cases hbus : onColumn c.cmd
  · rw [hbus] at h hi
    rw [if_neg (by decide)] at h hi ⊢
    rw [BitVec.xor_zero] at h
    exact captureRow_of_odd (by rw [oddOnes_xor, oddOnes_rowBeats_of_captured h, oddOnes_twoPow hi]; rfl)
  · rw [hbus] at h hi
    rw [if_pos rfl] at h hi ⊢
    have hzero : c.colBeats ^^^ (0#40).setWidth 32 = c.colBeats := BitVec.xor_zero
    have hone : (BitVec.twoPow 40 i).setWidth 32 = BitVec.twoPow 32 i := by
      refine BitVec.eq_of_getLsbD_eq fun j hj => ?_
      rw [BitVec.getLsbD_setWidth, BitVec.getLsbD_twoPow, BitVec.getLsbD_twoPow]
      have : i < 40 := by omega
      simp [hj, hi, this]
    rw [hzero] at h
    exact captureCol_of_odd (by rw [hone, oddOnes_xor, oddOnes_colBeats_of_captured h, oddOnes_twoPow hi]; rfl)

theorem DieCmd.captured_of_column (hcmd : 16 ≤ c.cmd) : c.captured 0#40 = captureCol c.colBeats := by
  have hbus : onColumn c.cmd = true := decide_eq_true hcmd
  rw [DieCmd.captured, hbus, if_pos rfl]
  exact congrArg captureCol BitVec.xor_zero

theorem DieCmd.captured_of_admitted (h : c.admitted) : c.captured 0#40 = some c := by
  obtain ⟨cmd, sid, bank, row, arg, col, mr, data⟩ := c
  obtain ⟨hsid, hrow | hacc | hmrw | hmrr⟩ := h
  · obtain ⟨hcmd, hbank, hr, harg, rfl, rfl, rfl⟩ := hrow
    exact DieCmd.captured_of_row hcmd hsid hbank hr harg
  · obtain ⟨hlo, hhi, hbank, hcol, rfl, rfl, rfl, rfl⟩ := hacc
    exact (DieCmd.captured_of_column hlo).trans (DieCmd.captureCol_of_access hlo hhi hsid hbank hcol)
  · obtain ⟨rfl, hmr, hdata, rfl, rfl, rfl, rfl⟩ := hmrw
    exact (DieCmd.captured_of_column (Nat.le_of_ble_eq_true rfl)).trans (DieCmd.captureCol_of_mr (.inl rfl) hsid hmr hdata
        (fun h => nomatch h))
  · obtain ⟨rfl, hmr, rfl, rfl, rfl, rfl, rfl⟩ := hmrr
    exact (DieCmd.captured_of_column (Nat.le_of_ble_eq_true rfl)).trans (DieCmd.captureCol_of_mr (.inr rfl) hsid hmr
        (Nat.zero_lt_succ _) (fun _ => rfl))

end

end Sys2Proof.Machine
end

section
/-! PROOFS. A row that closes a bank and a write burst that lands on a channel engine that stands for itself (R228, R234,
    R250 to R261;
O37). -/

set_option Elab.async false

namespace Sys2Proof.Machine

section
variable {s : State} {ch : Nat}

@[simp] theorem State.setChan_setChan (f g : Chan → Chan) : (s.setChan ch f).setChan ch g = s.setChan ch (fun c => g (f c)) :=
  congrArg (fun x => { s with chans := x }) (Tbl.upd_upd ..)

theorem State.setChan_chan_self (f : Chan → Chan) : (s.setChan ch f).chan ch = f (s.chan ch) := Tbl.get_upd_self ..

theorem State.setChan_chan_ne (f : Chan → Chan) {i : Nat} (h : i ≠ ch) : (s.setChan ch f).chan i = s.chan i := Tbl.get_upd_ne _ _ h

/-! ### What follows the rows of a channel that stands for itself -/

theorem State.afterRows_of_alone (hhazard : (s.chan ch).hazard = []) (happ : s.applying = none) (hgot : (s.chan ch).scrubGot = [])
    (hdue : (s.calGr (calGroupOf ch)).dueSince = none) (hdeep : (s.cg (groupOf ch)).st ≠ .deep) :
    s.afterRows ch = s.setChan ch (fun c => { c with scrubGot := [] }) := by
  have hcheck : s.scrubChecked ch = s.setChan ch (fun c => { c with scrubGot := [] }) := by
    rw [State.scrubChecked, hgot]; rfl
  have hresume : (s.scrubChecked ch).resumeAll ch = s.scrubChecked ch := by
    rw [hcheck, State.resumeAll, State.setChan_chan_self]
    show forAll ((s.chan ch).hazard.map _).eraseDups _ _ = _
    rw [hhazard]; rfl
  have hstart : (s.scrubChecked ch).startDue (calGroupOf ch) = s.scrubChecked ch := by
    rw [hcheck, State.startDue]
    show (if (s.calGr (calGroupOf ch)).dueSince.isSome && _ && _ then _ else _) = _
    rw [hdue]; rfl
  have hsettle : (s.scrubChecked ch).settleG2 = s.scrubChecked ch := by
    have h : (s.scrubChecked ch).applying = none := by rw [hcheck]; exact happ
    rw [State.settleG2, h]
  have hstays : (s.scrubChecked ch).deepDone (groupOf ch) = s.scrubChecked ch := by
    rw [hcheck, State.deepDone]
    exact if_neg fun h => hdeep h.1
  rw [State.afterRows, hresume, hstart, hsettle, hstays, Bool.and_not_self]
  exact hcheck

/-! ### An arbiter for which no agent waits -/

/-- No agent but the holder requests a channel. -/
def Chan.quiet (c : Chan) : Prop := ∀ a, (c.agent a).asks = true → c.holder = some a

theorem State.waiting_of_quiet (heng : s.engine ch = [ch]) (h : (s.chan ch).quiet) : s.waiting ch = [] := by
  rw [State.waiting, List.filter_eq_nil_iff]
  rintro ⟨k, a⟩ hw
  have hk : k = ch := by
    simp only [State.seats, heng, List.mem_flatMap, List.mem_map, List.mem_append, List.mem_filter, List.mem_singleton,
      Prod.mk.injEq] at hw
    obtain ⟨b, -, j, hj, rfl, -⟩ := hw
    exact hj.elim And.left And.left
  subst hk
  cases hask : ((s.chan k).agent a).asks
  · simp [State.eligible, hask]
  · simp [State.eligible, h a hask]

theorem State.noteForcing_chan (i : Nat) : (s.noteForcing ch).chan i = s.chan i :=
  congrArg (fun x => x.chan i) (State.noteForcing_only (K := [.chans]) (by decide) s ch)

theorem State.noteForcing_engine : (s.noteForcing ch).engine ch = s.engine ch :=
  congrArg (fun x => x.engine ch) (State.noteForcing_only (K := [.pair]) (by decide) s ch)

theorem State.testPreempt_of_quiet (heng : s.engine ch = [ch]) (h : (s.chan ch).quiet) : s.testPreempt ch = s.noteForcing ch := by
  have hwait : (s.noteForcing ch).waiting ch = [] :=
    State.waiting_of_quiet (State.noteForcing_engine.trans heng) (by rw [State.noteForcing_chan]; exact h)
  unfold State.testPreempt
  simp only [hwait, List.filter_nil, State.highest, List.foldl_nil]
  split
  · rfl
  · split <;> rfl

theorem State.serveWaiting_of_quiet (heng : s.engine ch = [ch]) (h : (s.chan ch).quiet) :
    s.serveWaiting ch = s ∨ s.serveWaiting ch = s.noteForcing ch := by
  rw [State.serveWaiting]
  split
  · exact .inl (by rw [State.waiting_of_quiet heng h]; rfl)
  · exact .inr (State.testPreempt_of_quiet heng h)

theorem State.noteForcing_counter (off : Nat) : (s.noteForcing ch).counter off = s.counter off := by
  unfold State.noteForcing
  cases s.muteForcing ch <;> cases s.refForcing ch <;> rfl

theorem State.serveWaiting_of_quiet_frame (heng : s.engine ch = [ch]) (h : (s.chan ch).quiet) :
    (∀ K, .regs ∉ K → (s.serveWaiting ch).only K = s.only K) ∧ ∀ off, (s.serveWaiting ch).counter off = s.counter off := by
  rcases State.serveWaiting_of_quiet heng h with hserve | hserve <;> rw [hserve]
  · exact ⟨fun _ _ => rfl, fun _ => rfl⟩
  · exact ⟨fun _ hK => State.noteForcing_only hK s ch, State.noteForcing_counter⟩

/-! ### MUTE finds no more work in a closed bank than before -/

/-- What MUTE's work on a channel depends on, hot banks apart. -/
structure Chan.MutesAlike (c d : Chan) : Prop where
  power : d.power = c.power
  rest : d.rest = c.rest
  opening : d.opening = c.opening
  threshDue : d.threshDue = c.threshDue
  mitAsk : d.mitAsk = c.mitAsk
  latchRead : d.latchRead = c.latchRead
  tOld : d.tOld = c.tOld
  backlog : d.backlog = c.backlog
  missed : d.missed = c.missed
  agents : d.agents = c.agents
  reads : d.reads = c.reads
  writes : d.writes = c.writes
  acts : ∀ b, (d.banks.get b).acts = (c.banks.get b).acts
  mustCheck : ∀ b, (d.banks.get b).mustCheck = (c.banks.get b).mustCheck

theorem Chan.MutesAlike.refl (c : Chan) : c.MutesAlike c :=
  ⟨rfl, rfl, rfl, rfl, rfl, rfl, rfl, rfl, rfl, rfl, rfl, rfl, fun _ => rfl, fun _ => rfl⟩

variable {u : State}

theorem State.wants_mute_congr (h : (s.chan ch).MutesAlike (u.chan ch)) (hflt : u.flt = s.flt) (hrpr : u.rpr = s.rpr)
    (hhot : ∀ b, (u.hot ch b && (u.bank ch b).closedSince) = (s.hot ch b && (s.bank ch b).closedSince)) :
    u.wants ch .mute = s.wants ch .mute := by
  have hpend (sid : Nat) : (u.chan ch).mitPends sid = (s.chan ch).mitPends sid := by rw [Chan.mitPends, h.latchRead]; rfl
  have hat : u.sidsAt ch 16 = s.sidsAt ch 16 := by
    simp only [State.sidsAt, hpend, Chan.threshold, h.tOld, h.acts]
    rfl
  have hsids : u.hotSids ch = s.hotSids ch := by simp only [State.hotSids, hpend, hhot]
  have hdue : u.mitDue ch = s.mitDue ch := by simp only [State.mitDue, h.mitAsk, hpend, hat, hsids]
  have hreset : u.resetDriven ch = s.resetDriven ch := by
    simp only [State.resetDriven, State.actsOf, State.reasonsOf, State.mark, hflt]
  have hham (b : Nat) : u.hammered ch b = s.hammered ch b := by simp only [State.hammered, hrpr]
  have hbank (w : Work) : (u.chan ch).workBank w = (s.chan ch).workBank w := by
    cases w <;> simp only [Chan.workBank, Chan.rdOf, Chan.wrOf, h.reads, h.writes]
  have hcheck (l : List Work) : (u.chan ch).checkFirst l = (s.chan ch).checkFirst l := by
    simp only [Chan.checkFirst, hbank, h.mustCheck]
  have hagent : (u.chan ch).agent .mute = (s.chan ch).agent .mute := by simp only [Chan.agent, h.agents]
  have hwaits : u.restartWaits ch .mute = s.restartWaits ch .mute := by
    simp only [State.restartWaits, h.power, h.missed, hagent, hcheck]
  simp only [State.wants, State.hasWork, Chan.atRest, h.power, h.rest, h.opening, h.threshDue, h.backlog, h.mustCheck, hreset,
      hdue, hham,
    hagent, hwaits, hostAgent]
  rfl

theorem State.muteMarks_of_idle (h : s.wants ch .mute = false) : s.muteMarks ch = s := by
  simp [State.muteMarks, h]

/-! ### A row that closes a bank -/

/-- Every SID of a channel has captured a command. -/
def Chan.taken (c : Chan) (got : Option DieCmd) : Chan :=
  { c with sids := (List.range 4).foldl (fun t i => t.upd i (fun x => x.takes i got)) c.sids }

theorem State.sendDies_of_captured {c d : DieCmd} {flip : BitVec 40} (hgot : c.captured flip = some d)
    (hcmd : d.cmd ≠ 11 ∧ d.cmd ≠ 12)
    (t : Nat) : s.sendDies ch c flip t = s.setChan ch (fun x => (x.drive c t).taken (some d)) := by
  have hspare : ((d.cmd == 11 || d.cmd == 12) && !((s.chan ch).sids.get d.sid).hold) = false := by simp [hcmd]
  have hrange : List.range 4 = [0, 1, 2, 3] := rfl
  simp only [State.sendDies, hgot, hspare, hrange, forAll, List.foldl_cons, List.foldl_nil, State.setSid, State.setChan_setChan]
  rfl

/-- A channel whose row command, captured as `d`, has changed the target's bank. -/
def Chan.rowSent (c : Chan) (sent d : DieCmd) (r : BitVec 64) (x : Target) (radius t : Nat) (f : Bank → Bank) : Chan :=
  { c with
    colBits := (c.drive sent t).colBits
    rowBits := (c.drive sent t).rowBits
    strobes := (c.drive sent t).strobes
    sids := (c.taken (some d)).sids
    banks := c.banks.upd x.bank f
    times := (c.launch r x radius t).times
    clock := max c.clock t
    rowBus := some t }

/-- A bank behind a PRE. -/
def Bank.preCharged (y : Bank) : Bank := { y with openRow := none, closeDue := false, idleRun := false }

/-- A bank behind a PREC that found it open. -/
def Bank.closed (y : Bank) : Bank := { y.preCharged with closedSince := true, closedAfter := true }

variable {r : BitVec 64} {x : Target} {b t : Nat}

/-- What a row that closes bank `x.bank` sends, as a SID captures it. -/
def closeCmd (r : BitVec 64) (x : Target) : DieCmd := ⟨rowCmd r, x.bank / 16 % 4, x.bank % 16, 0, 0, 0, 0, 0⟩

theorem State.dieCmd_captured (hcmd : rowCmd r = 2 ∨ rowCmd r = 3) (radius : Nat) :
    (s.dieCmd ch r x radius).captured 0#40 = some (closeCmd r x) := by
  have hd : s.dieCmd ch r x radius = ⟨rowCmd r, x.bank / 16 % 4, x.bank % 16, 0, 0, x.col, rowImm r / 256 % 64,
      s.mrwData ch (x.bank / 16 % 4) (rowImm r)⟩ := by
    rcases hcmd with h | h <;> rw [State.dieCmd, h] <;> rfl
  have hlow : rowCmd r ≤ 12 := by omega
  rw [hd]
  exact DieCmd.captured_of_row hlow (Nat.mod_lt _ (Nat.succ_pos _)) (Nat.mod_lt _ (Nat.succ_pos _)) (Nat.succ_pos _)
      (Nat.succ_pos _)

theorem Chan.launch_of_close (c : Chan) (hcmd : rowCmd r = 2 ∨ rowCmd r = 3) (radius : Nat) :
    c.launch r x radius t = { c with times := (c.launch r x radius t).times, clock := max c.clock t, rowBus := some t } := by
  rcases hcmd with h | h <;> simp [Chan.launch, h, onColumn]

theorem State.sendRow_of_pre (hcmd : rowCmd r = 2) (radius : Nat) :
    s.sendRow ch r x radius 0#40 t =
      s.setChan ch (fun c => c.rowSent (s.dieCmd ch r x radius) (closeCmd r x) r x radius t Bank.preCharged) := by
  have hd : (closeCmd r x).cmd ≠ 11 ∧ (closeCmd r x).cmd ≠ 12 := by simp [closeCmd, hcmd]
  have hkeep (u : State) : u.keep ch r x t = u.setBank ch x.bank Bank.preCharged := by rw [State.keep, hcmd]; rfl
  rw [State.sendRow, hcmd, if_neg (by decide), State.sendDies_of_captured (State.dieCmd_captured (.inl hcmd) radius) hd, hkeep]
  rw [State.setBank, State.setChan_setChan, State.setChan_setChan]
  refine congrArg (s.setChan ch) (funext fun c => ?_)
  rw [Chan.launch_of_close _ (.inl hcmd)]
  simp only [Chan.rowSent, Chan.launch, hcmd]
  rfl

theorem State.sendRow_of_prec (hcmd : rowCmd r = 3) (hopen : (s.bank ch x.bank).openRow.isSome = true) (radius : Nat) :
    s.sendRow ch r x radius 0#40 t =
      s.setChan ch (fun c => c.rowSent (s.dieCmd ch r x radius) (closeCmd r x) r x radius t Bank.closed) := by
  have hd : (closeCmd r x).cmd ≠ 11 ∧ (closeCmd r x).cmd ≠ 12 := by simp [closeCmd, hcmd]
  obtain ⟨row, hrow⟩ := Option.isSome_iff_exists.1 hopen
  have hkeep {u : State} (hu : (u.bank ch x.bank).openRow = some row) : u.keep ch r x t = u.setBank ch x.bank Bank.closed := by
    rw [State.keep, hcmd]
    show u.closeRow ch x.bank = _
    rw [State.closeRow, hu]; rfl
  rw [State.sendRow, hcmd, if_neg (by decide), State.sendDies_of_captured (State.dieCmd_captured (.inr hcmd) radius) hd,
    hkeep (by rw [State.bank, State.setChan_chan_self]; exact hrow)]
  rw [State.setBank, State.setChan_setChan, State.setChan_setChan]
  refine congrArg (s.setChan ch) (funext fun c => ?_)
  rw [Chan.launch_of_close _ (.inr hcmd)]
  simp only [Chan.rowSent, Chan.launch, hcmd]
  rfl

/-- The addressed SID closes the bank too, unless it is in hold (R261). -/
theorem Chan.taken_rows {c : Chan} {sid bank : Nat} (hsid : sid < 4) (hhold : (c.sids.get sid).hold = false) :
    ((c.taken (some ⟨2, sid, bank, 0, 0, 0, 0, 0⟩)).sids.get sid).rows.get bank = none := by
  have hget := Tbl.get_foldl_upd (List.range 4) (fun i (x : Sid) => x.takes i (some ⟨2, sid, bank, 0, 0, 0, 0, 0⟩)) c.sids
    List.nodup_range sid
  rw [if_pos (List.mem_range.2 hsid)] at hget
  have hdeaf : (c.sids.get sid).deaf 2 0 = false := by rw [Sid.deaf, hhold]; rfl
  rw [Chan.taken, hget]
  simp [Sid.takes, hdeaf, Sid.does]

theorem State.draw_of_close (hcmd : rowCmd r = 2 ∨ rowCmd r = 3) (sid : Nat) (waits urgent : Bool) :
    s.draw ch sid (s.cost (rowCmd r)) waits urgent = (true, s) := by
  rcases hcmd with h | h <;> rw [h] <;> rfl

/-- Closing a bank that is not hot leaves MUTE the work that it had. -/
theorem State.wants_mute_of_closed {F : Chan → Chan} {f : Bank → Bank} (h : (s.chan ch).MutesAlike (F (s.chan ch)))
    (hbanks : (F (s.chan ch)).banks = (s.chan ch).banks.upd b f) (hcold : (s.bank ch b).hotUntil = none)
    (hf : ∀ y : Bank, (f y).hotUntil = y.hotUntil) : (s.setChan ch F).wants ch .mute = s.wants ch .mute := by
  have hget (i : Nat) : (s.setChan ch F).bank ch i = if b = i then f (s.bank ch b) else s.bank ch i := by
    rw [State.bank, State.setChan_chan_self, hbanks, Tbl.get_upd]; rfl
  refine State.wants_mute_congr (by rw [State.setChan_chan_self]; exact h) rfl rfl fun i => ?_
  have hnow : (s.setChan ch F).now = s.now := rfl
  rw [State.hot, State.hot, hget, hnow]
  by_cases heq : b = i
  · subst heq
    rw [if_pos rfl, hf, hcold]; rfl
  · rw [if_neg heq]

theorem Chan.rowSent_mutesAlike (c : Chan) (sent d : DieCmd) (radius : Nat) {f : Bank → Bank} (hacts : ∀ y : Bank,
    (f y).acts = y.acts)
    (hcheck : ∀ y : Bank, (f y).mustCheck = y.mustCheck) : c.MutesAlike (c.rowSent sent d r x radius t f) where
  power := rfl
  rest := rfl
  opening := rfl
  threshDue := rfl
  mitAsk := rfl
  latchRead := rfl
  tOld := rfl
  backlog := rfl
  missed := rfl
  agents := rfl
  reads := rfl
  writes := rfl
  acts b := by
    show ((c.banks.upd x.bank f).get b).acts = _
    rw [Tbl.get_upd]; split
    · next heq => rw [hacts, heq]
    · rfl
  mustCheck b := by
    show ((c.banks.upd x.bank f).get b).mustCheck = _
    rw [Tbl.get_upd]; split
    · next heq => rw [hcheck, heq]
    · rfl

/-- The channel behind a PRE row of its running transfer. -/
def State.preIssued (s : State) (ch : Nat) (y : Xfer) (r : BitVec 64) (x : Target) (t : Nat) : State :=
  s.setChan ch (fun c => { (c.rowSent (s.dieCmd ch r x (s.rowRadius y.agent r)) (closeCmd r x) r x (s.rowRadius y.agent r) t
    Bank.preCharged) with xfer := some { y with row := rowNext r }, threadAt := some t })

theorem State.issueRow_of_pre {y : Xfer} {room : Bool} (hx : (s.chan ch).xfer = some y) (hpre : (s.chan ch).preempt = none)
    (hcut : (s.chan ch).maskCut = false) (hended : y.ended = false) (hbegun : y.begun = true) (hr : s.tab.rows.get y.row = r)
    (hcmd : rowCmd r = 2) (hdpa : rowDpa r = 0) (hbr : rowBr r = 0)
    (hmay : s.rowMay ch t (s.chan ch).threadAt r (s.target ch r (y.item r))) :
    s.issueRow ch t room 0#40 = ((s.preIssued ch y r (s.target ch r (y.item r)) t).muteMarks ch).testPreempt ch := by
  obtain ⟨hdriven, hwait, hbus, hrules⟩ := hmay
  have hskip (tgt : Target) : s.skips ch y.agent r tgt = false := by rw [State.skips, hcmd]; rfl
  have htokens (tgt : Target) : s.rowTokens ch (rowCmd r) tgt y.agent = (true, s) := by
    unfold State.rowTokens
    rw [hcmd]; rfl
  have hnext : y.advance r = { y with row := rowNext r } := by rw [Xfer.advance, hbr]; rfl
  have hstill : (y.advance r).ended = false := by rw [hnext]; exact hended
  unfold State.issueRow
  simp only [hx, hpre, hr]
  rw [hended, hcut, hdriven]
  simp only [hskip, htokens, hdpa, hbegun, hbus, hrules]
  simp only [Bool.or_false, Bool.not_true, Bool.false_eq_true, if_false, Bool.true_or, Bool.and_true, Nat.lt_irrefl, decide_false,
    Bool.not_false, Bool.false_and, hstill, State.sendRow_of_pre hcmd, State.setChan_setChan, hcmd]
  rw [if_pos]
  · rw [hnext]
    have hy : s.preIssued ch y r (s.target ch r (y.item r)) t =
        s.preIssued ch { y with ended := false, begun := true } r (s.target ch r (y.item r)) t := by
      rw [← hended, ← hbegun]
    rw [hy]
    rfl
  · split
    · next t0 hthread => exact decide_eq_true (hwait t0 hthread)
    · rfl

/-! ### Commands that work on one channel -/

/-- What the partner mirrors of a channel stands. -/
structure Chan.MirrorsAlike (c d : Chan) : Prop where
  backlog : d.backlog = c.backlog
  kCount : d.kCount = c.kCount
  ptr : ∀ b, (d.banks.get b).ptr = (c.banks.get b).ptr
  owed : ∀ b, (d.banks.get b).owed = (c.banks.get b).owed

theorem Chan.MirrorsAlike.refl (c : Chan) : c.MirrorsAlike c := ⟨rfl, rfl, fun _ => rfl, fun _ => rfl⟩

theorem Chan.MirrorsAlike.base {c d : Chan} (h : c.MirrorsAlike d) (b : Nat) : d.base b = c.base b := by
  simp only [Chan.base, h.kCount, h.ptr, h.owed]

/-- A command that leaves what is mirrored leaves its own effect, whatever else it does to a channel (R381). -/
theorem exec_of_chan {c : Instr} (h : exec c s = act c.wellFormed s u) (hwf : c.wellFormed = true) (hrun : s.running = true)
    (hu : u.only [.rpr, .slots, .keyOps, .commits, .inputs, .pending] = s.only [.rpr, .slots, .keyOps, .commits, .inputs, .pending])
    (hcount : ∀ i, (u.calCh i).count = (s.calCh i).count) (hchan : (s.chan ch).MirrorsAlike (u.chan ch))
    (hne : ∀ i, i ≠ ch → u.chan i = s.chan i) : exec c s = .next u := by
  have hall (i : Nat) : (s.chan i).MirrorsAlike (u.chan i) := by
    by_cases hi : i = ch
    · rw [hi]; exact hchan
    · rw [hne i hi]; exact .refl _
  refine exec_of_alike h hwf hrun ⟨fun i => ?_, hcount, fun i => (hall i).backlog, fun i b => (hall i).base b, ?_, ?_, ?_⟩
    (State.inputsAlike_of_only (State.only_mono (by decide) hu))
  · exact congrArg (fun x => (x.rmap i).seq) hu
  · exact congrArg (fun x => x.sec.own) hu
  · exact congrArg (fun x => x.trx.keyOps) hu
  · exact congrArg (fun x => x.regs.doneEpoch) hu

/-! ### A PRE row of the running transfer -/

/-- What the rows of a channel leave as it was. -/
def rowPieces : List Piece := Piece.all.filter fun p => p != .regs && p != .chans && p != .trx

/-- The channel's point of progress where a row of `s` has sent something. -/
def State.rowNoted (s u : State) (ch : Nat) : State :=
  when ((u.chan ch).rowBus != (s.chan ch).rowBus || (u.chan ch).colBus != (s.chan ch).colBus)
    (fun u => u.progDone (if ch < 32 then ch else 32 + ch)) u

theorem opTabRowIssue_of_transfer {room : Bool} (h : (s.checkMask ch).issueRow ch t room 0#40 = u) :
    opTabRowIssue ch false t room 0#40 s = (s.rowNoted u ch).afterRows ch := by subst h; rfl

theorem opTabRowIssue_of_insert {room : Bool} (h : s.issueInsert ch t room 0#40 = u) :
    opTabRowIssue ch true t room 0#40 s = (s.rowNoted u ch).afterRows ch := by subst h; rfl

/-- The outcome of a row command, told by what the row itself has done. -/
theorem exec_tabRow_of_alone {insert room : Bool} (hch : ch < 64) (hrun : s.running = true) (halone : s.channelAlone ch)
    (hrow : opTabRowIssue ch insert t room 0#40 s = (s.rowNoted u ch).afterRows ch)
    (honly : u.only rowPieces = s.only rowPieces) (hmir : (s.chan ch).MirrorsAlike (u.chan ch))
    (hne : ∀ i, i ≠ ch → u.chan i = s.chan i) (hhazard : (u.chan ch).hazard = (s.chan ch).hazard)
    (hgot : (u.chan ch).scrubGot = (s.chan ch).scrubGot) :
    ∃ v, exec (.tabRowIssue ch insert t room 0#40) s = .next v ∧ v.only rowPieces = s.only rowPieces ∧ v.regs = u.regs ∧
      v.chan ch = { u.chan ch with scrubGot := [] } ∧ ∀ i, i ≠ ch → v.chan i = s.chan i := by
  obtain ⟨-, hnone, happ, -, hempty, hdue, hdeep⟩ := halone
  have hw (K : List Piece) (hK : .trx ∉ K) : (s.rowNoted u ch).only K = u.only K := by simp [State.rowNoted, hK]
  generalize s.rowNoted u ch = w at hrow hw
  have hwchan (i : Nat) : w.chan i = u.chan i := congrArg (fun x => x.chan i) (hw [.chans] (by decide))
  have hwregs : w.regs = u.regs := State.regs_of_only (hw [.conf, .commits, .posted, .snap, .regs] (by decide))
  have hwonly : w.only rowPieces = s.only rowPieces := (hw _ (by decide)).trans honly
  have hafter : w.afterRows ch = w.setChan ch (fun c => { c with scrubGot := [] }) := by
    refine State.afterRows_of_alone ?_ ?_ ?_ ?_ ?_
    · rw [hwchan, hhazard, hnone]
    · rw [← happ]; exact congrArg (fun x => x.applying) (State.only_mono (K := [.commits]) (by decide) hwonly)
    · rw [hwchan, hgot, hempty]
    · rw [← hdue]; exact congrArg (fun x => (x.calGr (calGroupOf ch)).dueSince) (State.only_mono (K := [.cal]) (by decide) hwonly)
    · have hcg : (w.cg (groupOf ch)).st = (s.cg (groupOf ch)).st :=
        congrArg (fun x => (x.cg (groupOf ch)).st) (State.only_mono (K := [.cgs]) (by decide) hwonly)
      rw [hcg]; exact hdeep
  rw [hafter] at hrow
  have hself : (w.setChan ch (fun c => { c with scrubGot := [] })).chan ch = { u.chan ch with scrubGot := [] } := by
    rw [State.setChan_chan_self, hwchan]
  have hother (i : Nat) (hi : i ≠ ch) : (w.setChan ch (fun c => { c with scrubGot := [] })).chan i = s.chan i := by
    rw [State.setChan_chan_ne _ hi, hwchan, hne i hi]
  have hall : (w.setChan ch (fun c => { c with scrubGot := [] })).only rowPieces = s.only rowPieces :=
    (State.setChan_only (by decide) w ch _).trans hwonly
  refine ⟨_, exec_of_chan (ch := ch) (c := .tabRowIssue ch insert t room 0#40) ?_
    (by simp [Instr.wellFormed, Instr.units, Instr.partsOk, hch]) hrun (State.only_mono (by decide) hall)
    (fun i => congrArg (fun x => (x.calCh i).count) (State.only_mono (K := [.cal]) (by decide) hall)) ?_ hother,
    hall, hwregs, hself, hother⟩
  · rw [← hrow]; rfl
  rw [hself]
  exact ⟨hmir.backlog, hmir.kCount, hmir.ptr, hmir.owed⟩

theorem Chan.rowSent_mirrorsAlike (c : Chan) (sent d : DieCmd) (radius : Nat) {f : Bank → Bank} (hptr : ∀ y : Bank,
    (f y).ptr = y.ptr)
    (howed : ∀ y : Bank, (f y).owed = y.owed) : c.MirrorsAlike (c.rowSent sent d r x radius t f) where
  backlog := rfl
  kCount := rfl
  ptr b := by
    show ((c.banks.upd x.bank f).get b).ptr = _
    rw [Tbl.get_upd]; split
    · next heq => rw [hptr, heq]
    · rfl
  owed b := by
    show ((c.banks.upd x.bank f).get b).owed = _
    rw [Tbl.get_upd]; split
    · next heq => rw [howed, heq]
    · rfl

theorem State.checkMask_of_begun {y : Xfer} (hx : (s.chan ch).xfer = some y) (hbegun : y.begun = true) : s.checkMask ch = s := by
  unfold State.checkMask
  rw [hx]
  cases (s.chan ch).holder with
  | none => rfl
  | some h => simp [hbegun]

theorem State.preIssued_mutesAlike (s : State) (ch t : Nat) (y : Xfer) (r : BitVec 64) (x : Target) :
    (s.preIssued ch y r x t).wants ch .mute = s.wants ch .mute ∨ (s.bank ch x.bank).hotUntil ≠ none := by
  by_cases hcold : (s.bank ch x.bank).hotUntil = none
  · have h := Chan.rowSent_mutesAlike (r := r) (x := x) (t := t) (s.chan ch) (s.dieCmd ch r x (s.rowRadius y.agent r))
      (closeCmd r x)
      (s.rowRadius y.agent r) (f := Bank.preCharged) (fun _ => rfl) (fun _ => rfl)
    exact .inl (State.wants_mute_of_closed { h with } rfl hcold fun _ => rfl)
  · exact .inr hcold

/-- A PRE row of the running transfer, no other agent waiting (R250, R261). -/
theorem exec_tabRow_of_pre {y : Xfer} {room : Bool} (hch : ch < 64) (hrun : s.running = true) (halone : s.channelAlone ch)
    (hx : (s.chan ch).xfer = some y) (hholder : (s.chan ch).holder = some y.agent) (hpre : (s.chan ch).preempt = none)
    (hcut : (s.chan ch).maskCut = false) (hended : y.ended = false) (hbegun : y.begun = true) (hr : s.tab.rows.get y.row = r)
    (hcmd : rowCmd r = 2) (hdpa : rowDpa r = 0) (hbr : rowBr r = 0)
    (hmay : s.rowMay ch t (s.chan ch).threadAt r (s.target ch r (y.item r)))
    (hquiet : ∀ a, a ≠ y.agent → ((s.chan ch).agent a).asks = false)
    (hcold : (s.bank ch (s.target ch r (y.item r)).bank).hotUntil = none) (hmute : s.wants ch .mute = false) :
    ∃ v, exec (.tabRowIssue ch false t room 0#40) s = .next v ∧ v.only rowPieces = s.only rowPieces ∧
      v.chan ch = { (s.preIssued ch y r (s.target ch r (y.item r)) t).chan ch with scrubGot := [] } ∧
      ∀ i, i ≠ ch → v.chan i = s.chan i := by
  have hissue := State.issueRow_of_pre (room := room) hx hpre hcut hended hbegun hr hcmd hdpa hbr hmay
  generalize s.target ch r (y.item r) = x at hissue hcold ⊢
  have hidle : (s.preIssued ch y r x t).wants ch .mute = false :=
    ((State.preIssued_mutesAlike s ch t y r x).resolve_right (not_not_intro hcold)).trans hmute
  have hself : (s.preIssued ch y r x t).chan ch = _ := State.setChan_chan_self _
  have hasks : ((s.preIssued ch y r x t).chan ch).quiet := by
    rw [hself]
    intro a ha
    by_contra hne
    have hagent : a ≠ y.agent := fun heq => hne (heq ▸ hholder)
    exact Bool.false_ne_true ((hquiet a hagent).symm.trans ha)
  rw [State.muteMarks_of_idle hidle, State.testPreempt_of_quiet (s := s.preIssued ch y r x t) halone.1 hasks] at hissue
  obtain ⟨v, hv, honly, -, hchan, hother⟩ := exec_tabRow_of_alone (insert := false) (room := room) (t := t)
    (u := (s.preIssued ch y r x t).noteForcing ch) hch hrun halone
    (opTabRowIssue_of_transfer (by rw [State.checkMask_of_begun hx hbegun]; exact hissue))
    ((State.noteForcing_only (by decide) _ ch).trans (State.setChan_only (by decide) s ch _))
    (by
      have h := Chan.rowSent_mirrorsAlike (r := r) (x := x) (t := t) (s.chan ch) (s.dieCmd ch r x (s.rowRadius y.agent r))
        (closeCmd r x) (s.rowRadius y.agent r) (f := Bank.preCharged) (fun _ => rfl) (fun _ => rfl)
      rw [State.noteForcing_chan, hself]
      exact { h with })
    (fun i hi => (State.noteForcing_chan i).trans (State.setChan_chan_ne _ hi))
    (by rw [State.noteForcing_chan, hself]; rfl) (by rw [State.noteForcing_chan, hself]; rfl)
  rw [State.noteForcing_chan] at hchan
  exact ⟨v, hv, honly, hchan, hother⟩

/-! ### The insert thread -/

/-- The channel behind the CLOSE entry's PREC row. -/
def State.closeIssued (s : State) (ch b : Nat) (r : BitVec 64) (t : Nat) : State :=
  s.setChan ch (fun c => { (c.rowSent (s.dieCmd ch r ⟨b, 0, 0⟩ (rowImm r % 8)) (closeCmd r ⟨b, 0, 0⟩) r ⟨b, 0, 0⟩ (rowImm r % 8) t
    Bank.closed) with insert := none, insertAt := some t })

theorem State.issueInsert_of_prec {room : Bool} (hnone : (s.chan ch).insert = none) (htarget : s.insertTarget ch = some b)
    (hr : s.tab.rows.get (s.firstRow 6) = r) (hcmd : rowCmd r = 3) (hdpa : rowDpa r = 0) (hbr : rowBr r = 3)
    (hawake : (s.chan ch).atRest = false) (hopen : (s.bank ch b).openRow.isSome = true)
    (hmay : s.rowMay ch t (s.chan ch).insertAt r ⟨b, 0, 0⟩) :
    s.issueInsert ch t room 0#40 =
      (((s.closeIssued ch b r t).count (chnAt ch 0x138)).muteMarks ch).serveWaiting ch := by
  obtain ⟨hdriven, hwait, hbus, hrules⟩ := hmay
  have hnow : s.insertNow ch = some ⟨b, s.firstRow 6, none⟩ := by rw [State.insertNow, hnone, htarget]; rfl
  have hend : Insert.advance ⟨b, s.firstRow 6, none⟩ r = none := by
    unfold Insert.advance
    rw [hbr]
    rfl
  have hsend := State.sendRow_of_prec (s := s) (x := ⟨b, 0, 0⟩) (t := t) hcmd hopen (rowImm r % 8)
  unfold State.issueInsert
  simp only [hnow, hr, hdriven, hawake, hdpa, hbus, hrules, State.draw_of_close (.inr hcmd), hsend, hopen, hend]
  rw [if_pos]
  · rw [hcmd, State.setChan_setChan]
    rfl
  · split
    · next t0 hthread => simp [hwait t0 hthread]
    · rfl

theorem State.closeIssued_wants_mute (hcold : (s.bank ch b).hotUntil = none) :
    ((s.closeIssued ch b r t).count (chnAt ch 0x138)).wants ch .mute = s.wants ch .mute := by
  have h := Chan.rowSent_mutesAlike (r := r) (x := ⟨b, 0, 0⟩) (t := t) (s.chan ch) (s.dieCmd ch r ⟨b, 0, 0⟩ (rowImm r % 8))
    (closeCmd r ⟨b, 0, 0⟩) (rowImm r % 8) (f := Bank.closed) (fun _ => rfl) (fun _ => rfl)
  have hclosed : (s.closeIssued ch b r t).wants ch .mute = s.wants ch .mute :=
    State.wants_mute_of_closed { h with } rfl hcold fun _ => rfl
  rw [← hclosed]
  exact State.wants_mute_congr (Chan.MutesAlike.refl _) rfl rfl fun _ => rfl

/-- The insert thread's PREC of a close-due bank, no agent asking (R234, R254). -/
theorem exec_tabRow_of_close {room : Bool} (hch : ch < 64) (hrun : s.running = true) (halone : s.channelAlone ch)
    (hnone : (s.chan ch).insert = none) (htarget : s.insertTarget ch = some b) (hr : s.tab.rows.get (s.firstRow 6) = r)
    (hcmd : rowCmd r = 3) (hdpa : rowDpa r = 0) (hbr : rowBr r = 3) (hawake : (s.chan ch).atRest = false)
    (hmay : s.rowMay ch t (s.chan ch).insertAt r ⟨b, 0, 0⟩) (hquiet : ∀ a, ((s.chan ch).agent a).asks = false)
    (hcold : (s.bank ch b).hotUntil = none) (hmute : s.wants ch .mute = false) (hsnap : s.regs.snapBusy = false) :
    ∃ v, exec (.tabRowIssue ch true t room 0#40) s = .next v ∧ v.only rowPieces = s.only rowPieces ∧
      v.counter (chnAt ch 0x138) = s.counter (chnAt ch 0x138) + 1#64 ∧
      v.chan ch = { (s.closeIssued ch b r t).chan ch with scrubGot := [] } ∧ ∀ i, i ≠ ch → v.chan i = s.chan i := by
  have hopen : (s.bank ch b).openRow.isSome = true := by
    have h := List.find?_some htarget
    simp only [Bool.and_eq_true] at h
    exact h.1.2
  have hissue := State.issueInsert_of_prec (room := room) hnone htarget hr hcmd hdpa hbr hawake hopen hmay
  have hself : (s.closeIssued ch b r t).chan ch = _ := State.setChan_chan_self _
  have hne (i : Nat) (hi : i ≠ ch) : (s.closeIssued ch b r t).chan i = s.chan i := State.setChan_chan_ne _ hi
  have honly : (s.closeIssued ch b r t).only rowPieces = s.only rowPieces := State.setChan_only (by decide) s ch _
  have hmir : (s.chan ch).MirrorsAlike ((s.closeIssued ch b r t).chan ch) := by
    have h := Chan.rowSent_mirrorsAlike (r := r) (x := ⟨b, 0, 0⟩) (t := t) (s.chan ch) (s.dieCmd ch r ⟨b, 0, 0⟩ (rowImm r % 8))
      (closeCmd r ⟨b, 0, 0⟩) (rowImm r % 8) (f := Bank.closed) (fun _ => rfl) (fun _ => rfl)
    rw [hself]
    exact { h with }
  rw [State.muteMarks_of_idle ((State.closeIssued_wants_mute hcold).trans hmute)] at hissue
  have hasks : (((s.closeIssued ch b r t).count (chnAt ch 0x138)).chan ch).quiet := by
    intro a ha
    have hagent : ((s.chan ch).agent a).asks = true := by
      rw [show ((s.closeIssued ch b r t).count (chnAt ch 0x138)).chan ch = _ from hself] at ha
      exact ha
    exact absurd ((hquiet a).symm.trans hagent) Bool.false_ne_true
  obtain ⟨hframe, hcounter⟩ := State.serveWaiting_of_quiet_frame
    (s := (s.closeIssued ch b r t).count (chnAt ch 0x138)) halone.1 hasks
  rw [← hissue] at hframe hcounter
  have hall (K : List Piece) (hK : .regs ∉ K) : (s.issueInsert ch t room 0#40).only K = (s.closeIssued ch b r t).only K :=
    (hframe K hK).trans (State.count_only hK _ _)
  have hchans (i : Nat) : (s.issueInsert ch t room 0#40).chan i = (s.closeIssued ch b r t).chan i :=
    congrArg (fun x => x.chan i) (hall [.chans] (by decide))
  obtain ⟨v, hv, hvonly, hregs, hchan, hother⟩ := exec_tabRow_of_alone (insert := true) (room := room) (t := t) hch hrun halone
    (opTabRowIssue_of_insert rfl) ((hall _ (by decide)).trans honly) (by rw [hchans]; exact hmir)
    (fun i hi => (hchans i).trans (hne i hi)) (by rw [hchans, hself]; rfl) (by rw [hchans, hself]; rfl)
  refine ⟨v, hv, hvonly, ?_, by rw [hchan, hchans], hother⟩
  calc v.counter (chnAt ch 0x138) = (s.issueInsert ch t room 0#40).counter (chnAt ch 0x138) := by rw [State.counter, hregs]; rfl
    _ = ((s.closeIssued ch b r t).count (chnAt ch 0x138)).counter (chnAt ch 0x138) := hcounter _
    _ = s.counter (chnAt ch 0x138) + 1#64 := State.count_counter_self (s := s.closeIssued ch b r t) hsnap _

/-! ### A write burst -/

/-- The line that a write burst leaves on the core die, under its slot (R315). -/
def State.landed (s : State) (ch : Nat) (w : WrEnt) : ArrayLine :=
  (s.slot (decide (32 ≤ ch)) w.key).line w.data (w.laddr % 2 ^ 30) w.key

variable {w : WrEnt} {f : Flight} {rest : List Flight} {y : Xfer} {l q k : Nat}

theorem State.loadSlot_of_sound (heast : (s.slot (decide (32 ≤ ch)) w.key).eastOk = true)
    (hwest : (s.slot (decide (32 ≤ ch)) w.key).westOk = true) (half : Nat) : s.loadSlot (decide (32 ≤ ch)) w.key half = s := by
  simp [State.loadSlot, heast, hwest]

theorem State.landWrite_of_sound (hholds : s.slotHolds (decide (32 ≤ ch)) w.key w.gen = true)
    (heast : (s.slot (decide (32 ≤ ch)) w.key).eastOk = true) (hwest : (s.slot (decide (32 ≤ ch)) w.key).westOk = true) :
    s.landWrite ch k w = { s with array := s.array.set k (some (s.landed ch w)) } := by
  unfold State.landWrite
  simp only [State.loadSlot_of_sound heast hwest, hholds, if_true]
  rfl

/-- The channel behind a write burst that has landed. -/
def State.burstEnded (s : State) (ch : Nat) (y : Xfer) (f : Flight) (rest : List Flight) : State :=
  (s.slewBurst ch).setChan ch (fun c => { c with
    flights := rest, xfer := some { y with landed := y.landed + 1 }, clock := max c.clock f.lands })

theorem State.burstEnded_only {K : List Piece} (hK : .cal ∉ K ∧ .chans ∉ K) :
    (s.burstEnded ch y f rest).only K = s.only K :=
  (State.setChan_only hK.2 _ _ _).trans (State.slewBurst_only hK.1 s ch)

theorem State.burstDone_of_write (hx : (s.chan ch).xfer = some y) (hflights : (s.chan ch).flights = f :: rest) (hrest : rest ≠ [])
    (hwrite : f.write = true) (hwork : f.work = .wrLine l q) (hdpa : f.dpa = 2) (hcmp : f.cmp = none) (hplace : f.place = some k)
    (hof : (s.chan ch).wrOf l q = some w) (hholds : s.slotHolds (decide (32 ≤ ch)) w.key w.gen = true)
    (heast : (s.slot (decide (32 ≤ ch)) w.key).eastOk = true) (hwest : (s.slot (decide (32 ≤ ch)) w.key).westOk = true) :
    s.burstDone ch none 0#640 =
      { s.burstEnded ch y f rest with array := s.array.set k (some (s.landed ch w)) } := by
  have hempty : rest.isEmpty = false := by cases rest <;> simp_all
  have hslew : (s.slewBurst ch).chan ch = s.chan ch := congrArg (fun x => x.chan ch) (State.slewBurst_only (K := [.chans])
      (by decide) s ch)
  have hchan : (s.burstEnded ch y f rest).chan ch = _ := State.setChan_chan_self _
  rw [hslew] at hchan
  have hsec : (s.burstEnded ch y f rest).sec = s.sec := State.sec_of_only (State.burstEnded_only (by decide))
  have harray : (s.burstEnded ch y f rest).array = s.array := State.array_of_only (State.burstEnded_only (by decide))
  have hslot : (s.burstEnded ch y f rest).slot = s.slot := by
    funext p i
    unfold State.slot
    rw [hsec]
  have hland : (s.burstEnded ch y f rest).landBurst ch f =
      { s.burstEnded ch y f rest with array := s.array.set k (some (s.landed ch w)) } := by
    have hof' : ((s.burstEnded ch y f rest).chan ch).wrOf l q = some w := by rw [hchan]; exact hof
    unfold State.landBurst
    simp only [hplace, hwork, hdpa, if_true, hof']
    have hholds' : (s.burstEnded ch y f rest).slotHolds (decide (32 ≤ ch)) w.key w.gen = true := by
      rw [State.slotHolds, hslot]; exact hholds
    rw [← hslot] at heast hwest
    rw [State.landWrite_of_sound hholds' heast hwest, State.landed, hslot, harray]
    rfl
  unfold State.burstDone
  simp only [hx, hflights, hwrite, hcmp, hempty]
  rw [← hland]
  simp only [Bool.not_true, Bool.false_and, Bool.and_false, Bool.false_eq_true, if_false]
  rfl

theorem State.slewBurst_calGr (g : Nat) : (s.slewBurst ch).calGr g = s.calGr g := by
  unfold State.slewBurst
  split <;> rfl

theorem State.slewBurst_count (i : Nat) : ((s.slewBurst ch).calCh i).count = (s.calCh i).count := by
  unfold State.slewBurst
  split
  · rfl
  · show ((s.cal.chans.upd ch _).get i).count = _
    rw [Tbl.get_upd]
    split
    · next heq => rw [← heq]; rfl
    · rfl

/-- A write burst that is not the transfer's last (R228, R237). -/
theorem exec_burstComplete_of_write (hch : ch < 64) (hrun : s.running = true) (halone : s.channelAlone ch)
    (hx : (s.chan ch).xfer = some y) (hflights : (s.chan ch).flights = f :: rest) (hrest : rest ≠ []) (hwrite : f.write = true)
    (hwork : f.work = .wrLine l q) (hdpa : f.dpa = 2) (hcmp : f.cmp = none) (hplace : f.place = some k)
    (hof : (s.chan ch).wrOf l q = some w) (hholds : s.slotHolds (decide (32 ≤ ch)) w.key w.gen = true)
    (heast : (s.slot (decide (32 ≤ ch)) w.key).eastOk = true) (hwest : (s.slot (decide (32 ≤ ch)) w.key).westOk = true) :
    ∃ t, exec (.burstComplete ch) s = .next t ∧ (t.chan ch).flights = rest ∧
      (t.chan ch).xfer = some { y with landed := y.landed + 1 } ∧ t.array = s.array.set k (some (s.landed ch w)) ∧
      (t.chan ch).writes = (s.chan ch).writes ∧ s.changesOnly t [.chans, .array, .cal] := by
  obtain ⟨-, hnone, happ, -, hempty, hdue, hdeep⟩ := halone
  have hdone := State.burstDone_of_write hx hflights hrest hwrite hwork hdpa hcmp hplace hof hholds heast hwest
  generalize hd : ({ s.burstEnded ch y f rest with array := s.array.set k (some (s.landed ch w)) } : State) = d at hdone
  have hslew (i : Nat) : (s.slewBurst ch).chan i = s.chan i :=
    congrArg (fun x => x.chan i) (State.slewBurst_only (K := [.chans]) (by decide) s ch)
  have hself : d.chan ch = { s.chan ch with
      flights := rest, xfer := some { y with landed := y.landed + 1 }, clock := max (s.chan ch).clock f.lands } := by
    rw [← hd, ← hslew]; exact State.setChan_chan_self _
  have hne (i : Nat) (hi : i ≠ ch) : d.chan i = s.chan i := by
    rw [← hd, ← hslew]; exact State.setChan_chan_ne _ hi
  have hframe {K : List Piece} (hK : (.cal ∉ K ∧ .chans ∉ K) ∧ .array ∉ K) : d.only K = s.only K := by
    rw [← hd]; exact (State.only_array hK.2 _ _).trans (State.burstEnded_only hK.1)
  have hafter : d.afterRows ch = d.setChan ch (fun c => { c with scrubGot := [] }) := by
    refine State.afterRows_of_alone ?_ ?_ ?_ ?_ ?_
    · rw [hself]; exact hnone
    · rw [← happ]; exact congrArg (fun x => x.applying) (hframe (K := [.commits]) (by decide))
    · rw [hself]; exact hempty
    · rw [← hdue, ← hd]; exact congrArg CalGroup.dueSince (State.slewBurst_calGr _)
    · have hcg : (d.cg (groupOf ch)).st = (s.cg (groupOf ch)).st :=
        congrArg (fun x => (x.cg (groupOf ch)).st) (hframe (K := [.cgs]) (by decide))
      rw [hcg]; exact hdeep
  have hop : opBurstComplete ch none 0#640 0 s = d.setChan ch (fun c => { c with scrubGot := [] }) := by
    rw [← hafter, ← hdone]
    unfold opBurstComplete
    split <;> rfl
  have hchan : (d.setChan ch (fun c => { c with scrubGot := [] })).chan ch = { d.chan ch with scrubGot := [] } :=
    State.setChan_chan_self _
  have hothers (i : Nat) (hi : i ≠ ch) : (d.setChan ch (fun c => { c with scrubGot := [] })).chan i = s.chan i :=
    (State.setChan_chan_ne _ hi).trans (hne i hi)
  have hall {K : List Piece} (hK : (.cal ∉ K ∧ .chans ∉ K) ∧ .array ∉ K) :
      (d.setChan ch (fun c => { c with scrubGot := [] })).only K = s.only K :=
    (State.setChan_only hK.1.2 d ch _).trans (hframe hK)
  have hcount (i : Nat) : ((d.setChan ch (fun c => { c with scrubGot := [] })).calCh i).count = (s.calCh i).count := by
    rw [← hd]; exact State.slewBurst_count i
  refine ⟨_, exec_of_chan (ch := ch) (c := .burstComplete ch) ?_ (by simp [Instr.wellFormed, Instr.units, Instr.partsOk, hch]) hrun
    (hall (by decide)) hcount ?_ hothers, ?_, ?_, ?_, ?_, ?_⟩
  · rw [← hop]; rfl
  · rw [hchan, hself]; exact ⟨rfl, rfl, fun _ => rfl, fun _ => rfl⟩
  · rw [hchan, hself]
  · rw [hchan, hself]
  · rw [← hd]; rfl
  · rw [hchan, hself]
  · exact State.changesOnly_of_only (K := Piece.all.filter fun p => p.part != .chans && p.part != .array && p.part != .cal)
      (hall (by decide)) (by decide)

end

/-- Settles O37, a clause each: a PRE row of the transfer, the insert thread's PREC, and a write burst that lands. -/
theorem rowsIssueAndBurstsLand : Obligations.RowsIssueAndBurstsLand := by
  intro s ch t0 b k l q room x r f rest w hrun hch halone
  refine ⟨?_, ?_, ?_⟩
  · intro hx hholder hpre hcut hended hbegun hr hcmd hdpa hbr hbank hb hhold hmay hquiet hcold hmute
    subst hbank
    obtain ⟨t, ht, honly, hchan, hne⟩ := exec_tabRow_of_pre (room :=
        room) hch hrun halone hx hholder hpre hcut hended hbegun hr hcmd hdpa
      hbr hmay hquiet hcold hmute
    generalize s.target ch r (x.item r) = tgt at *
    have hself : (s.preIssued ch x r tgt t0).chan ch = _ := State.setChan_chan_self _
    rw [hself] at hchan
    have hbank (i : Nat) : t.bank ch i = ((s.chan ch).banks.upd tgt.bank Bank.preCharged).get i := by rw [State.bank, hchan]; rfl
    refine ⟨t, ht, ?_, fun i hi => ?_, ?_, by rw [hchan]; rfl, by rw [hchan]; rfl, by rw [hchan], by rw [hchan], State.capo_of_only
      (State.only_mono (by decide) honly), State.array_of_only (State.only_mono (by decide) honly), State.nvm_of_only
      (State.only_mono (by decide) honly), State.link_of_only (State.only_mono (by decide) honly)⟩
    · rw [hbank, Tbl.get_upd_self]; rfl
    · rw [hbank, Tbl.get_upd_ne _ _ hi]; rfl
    · have hsid : tgt.bank / 16 % 4 = tgt.bank / 16 := by omega
      have hrows := Chan.taken_rows (c := s.chan ch) (sid := tgt.bank / 16) (bank := tgt.bank % 16) (by omega) hhold
      rw [hchan]
      show (((s.chan ch).taken (some (closeCmd r tgt))).sids.get (tgt.bank / 16)).rows.get (tgt.bank % 16) = none
      rw [closeCmd, hcmd, hsid]
      exact hrows
  · intro hnone htarget hr hcmd hdpa hbr hawake hmay hquiet hcold hmute hsnap
    obtain ⟨t, ht, honly, hcounter, hchan, hne⟩ := exec_tabRow_of_close (room :=
        room) hch hrun halone hnone htarget hr hcmd hdpa hbr hawake
      hmay hquiet hcold hmute hsnap
    have hself : (s.closeIssued ch b r t0).chan ch = _ := State.setChan_chan_self _
    rw [hself] at hchan
    have hbank (i : Nat) : t.bank ch i = ((s.chan ch).banks.upd b Bank.closed).get i := by rw [State.bank, hchan]; rfl
    refine ⟨t, ht, ?_, ?_, fun i hi => ?_, by rw [hchan]; rfl, by rw [hchan]; rfl, by rw [hchan], by rw [hchan], hcounter,
      State.array_of_only (State.only_mono (by decide) honly), State.nvm_of_only (State.only_mono (by decide) honly),
      State.link_of_only (State.only_mono (by decide) honly)⟩
    · rw [hbank, Tbl.get_upd_self]; rfl
    · rw [hbank, Tbl.get_upd_self]; rfl
    · rw [hbank, Tbl.get_upd_ne _ _ hi]; rfl
  · intro hx hflights hrest hwrite hwork hdpa hcmp hplace hof hholds heast hwest
    obtain ⟨t, ht, hfl, hxfer, harray, hwrites, honly⟩ :=
        exec_burstComplete_of_write hch hrun halone hx hflights hrest hwrite hwork hdpa hcmp
      hplace hof hholds heast hwest
    exact ⟨t, ht, hfl, hxfer, by rw [harray]; exact Tbl.get_set_self .., fun i hi => by rw [harray]; exact Tbl.get_set_ne _ _ hi,
        hwrites, honly⟩

end Sys2Proof.Machine
end

section
/-! PROOFS. The counters and sticky words of the courses' and the tablature's pages that an arbiter,
    a fence or an event leaves alone,
and the sentinels. -/

set_option Elab.async false

namespace Sys2Proof.Machine

/-- The offset is that of a course's AUTH_FAIL counter or stands on the page of the tablature. -/
abbrev quietOff (o : Nat) : Prop := (0x10 ≤ o / 0x1000 ∧ o / 0x1000 < 0x1c ∧ o % 0x1000 = 0x130) ∨ o / 0x1000 = 0xa0



/-- A counter, a sticky word, and the sentinels. -/
def State.watch (s : State) (o : Nat) : BitVec 64 × Word × Tbl (Option (Word × Bool)) :=
  (s.counter o, s.regs.sticky.get o, s.pwr.sentinels)

section
variable {s t : State} {o : Nat}

theorem State.watch_of_only (h : t.only [.regs, .pwr] = s.only [.regs, .pwr]) : t.watch o = s.watch o := congrArg
    (fun x => x.watch o) h

theorem when_watch {f : State → State} (hf : ∀ t : State, (f t).watch o = t.watch o) (c : Bool) (s : State) :
    (when c f s).watch o = s.watch o := by
  cases c
  · rfl
  · exact hf s

theorem forAll_watch {α : Type} {f : α → State → State} (hf : ∀ a (t : State), (f a t).watch o = t.watch o) (l : List α)
    (s : State) :
    (forAll l f s).watch o = s.watch o := by
  induction l generalizing s with
  | nil => rfl
  | cons a l ih => exact (ih (f a s)).trans (hf a s)

/-! ### Counters and sticky bits elsewhere -/

theorem quietOff_ne {off : Nat} (ho : quietOff o) (hoff : ¬ quietOff off) : off ≠ o := fun h => hoff (h ▸ ho)

theorem not_quietOff_chn (ch : Nat) {k : Nat} (hk : k < 0x1000) : ¬ quietOff (0x80000 + 0x1000 * (ch % 32) + k) := by
  unfold quietOff
  omega

theorem not_quietOff_crs {c k : Nat} (hc : c < 12) (hk : k < 0x1000) (hne : k ≠ 0x130) : ¬ quietOff (0x10000 + 0x1000 * c + k) := by
  unfold quietOff
  omega

section
variable (ho : quietOff o)
include ho

theorem State.countBy_watch {off : Nat} (hoff : ¬ quietOff off) (s : State) (k : Nat) : (s.countBy off k).watch o = s.watch o := by
  unfold State.countBy State.watch State.counter
  cases s.regs.snapBusy
  · dsimp only
    rw [Tbl.get_upd_ne _ _ (quietOff_ne ho hoff).symm]
  · rfl

theorem State.count_watch {off : Nat} (hoff : ¬ quietOff off) (s : State) : (s.count off).watch o = s.watch o :=
  State.countBy_watch ho hoff s 1

theorem State.stickBits_watch {f : Field} {n : Nat} (hoff : ¬ quietOff (f.addr n 0)) (s : State) (v : Nat) :
    (s.stickBits f n v).watch o = s.watch o := by
  unfold State.stickBits State.watch State.counter
  dsimp only
  rw [Tbl.get_upd_ne _ _ (quietOff_ne ho hoff).symm]

theorem State.stick_watch {f : Field} (hoff : ¬ quietOff (f.addr 0 0)) (s : State) : (s.stick f).watch o = s.watch o :=
  State.stickBits_watch ho hoff s 1

/-! ### Wakes and events -/

theorem State.refuseEntry_watch (s : State) (d reason : Nat) : (s.refuseEntry d reason).watch o = s.watch o := by
  unfold State.refuseEntry
  rw [State.stick_watch ho (by decide), State.count_watch ho (by decide)]
  rfl

theorem State.wakeOne_watch (s : State) (d : Nat) : (s.wakeOne d).watch o = s.watch o := by
  unfold State.wakeOne
  split
  · split
    · rw [State.refuseEntry_watch ho]; rfl
    · rfl
  · rfl
  · rfl
  · split <;> rfl

theorem State.wake_watch (s : State) (d : Nat) : (s.wake d).watch o = s.watch o := by
  unfold State.wake
  split
  · exact State.wakeOne_watch ho s d
  · exact forAll_watch (fun e t => State.wakeOne_watch ho t e) _ s

theorem State.queueRec_watch (s : State) (r : EvRec) : (s.queueRec r).watch o = s.watch o := by
  unfold State.queueRec
  dsimp only
  split
  · rw [State.wake_watch ho]; rfl
  · rw [State.stick_watch ho (by decide), State.count_watch ho (by decide)]; rfl

theorem State.retireNewest_watch (s : State) : s.retireNewest.watch o = s.watch o := by
  unfold State.retireNewest
  split
  · split
    · exact State.queueRec_watch ho s _
    · rfl
  · rfl

theorem State.pushRec_watch (s : State) (e : EvRec) : (s.pushRec e).watch o = s.watch o := by
  unfold State.pushRec
  split
  · rw [State.count_watch ho (by decide)]; rfl
  · extract_lets t q u r w
    have hu : u.watch o = s.watch o :=
      (when_watch (fun v => State.count_watch ho (by decide) v) _ t).trans (State.retireNewest_watch ho s)
    rw [when_watch fun v => State.queueRec_watch ho v r]
    exact (State.count_watch ho (by decide) _).trans hu

theorem State.eventP_watch (s : State) (partner : Bool) (source code sev : Nat) (pl : BitVec 96) :
    (s.eventP partner source code sev pl).watch o = s.watch o := by
  unfold State.eventP
  extract_lets e t
  have ht : t.watch o = s.watch o :=
    (when_watch (f := State.assertPin) (fun _ => rfl) _ _).trans
      (State.stickBits_watch (f := RF.FLT_SEV_SEEN) (n := 0) ho (by decide) s _)
  rw [← ht]
  split
  · rw [State.pushRec_watch ho, State.wakeOne_watch ho]
  · split
    · rw [State.wake_watch ho]; rfl
    · rw [State.stick_watch ho (by decide), State.count_watch ho (by decide)]; rfl

theorem State.event_watch (s : State) (source code sev : Nat) (l : List (Nat × Nat × Nat)) :
    (s.event source code sev l).watch o = s.watch o := State.eventP_watch ho ..

/-! ### The arbiter -/

theorem State.noteForcing_watch (s : State) (ch : Nat) : (s.noteForcing ch).watch o = s.watch o := by
  unfold State.noteForcing
  rw [when_watch fun v => State.stick_watch ho (by decide) v, when_watch fun v => State.stick_watch ho (by decide) v]

theorem State.stickChn_watch {f : Field} {ch : Nat} (hf : f.page = .chn ∧ f.off < 0x1000) (s : State) (v : Nat) :
    (s.stickBits f (ch % 32) v).watch o = s.watch o := by
  refine State.stickBits_watch ho ?_ s v
  have haddr : f.addr (ch % 32) 0 = 0x80000 + 0x1000 * (ch % 32) + f.off := by
    rw [Field.addr, hf.1]
    show 0x80000 + 0x1000 * (ch % 32) + f.off + 0 * f.stride = _
    rw [Nat.zero_mul, Nat.add_zero]
  rw [haddr]
  exact not_quietOff_chn ch hf.2

theorem State.countChn_watch {ch k : Nat} (hk : k < 0x1000) (s : State) (n : Nat) :
    (s.countBy (chnAt ch k) n).watch o = s.watch o := State.countBy_watch ho (not_quietOff_chn ch hk) s n

theorem State.countPage_watch (s : State) (ch entry : Nat) : (s.countPage ch entry).watch o = s.watch o := by
  unfold State.countPage
  split_ifs
  · exact State.countChn_watch ho (by decide) s 1
  · exact State.countChn_watch ho (by decide) s 1
  · exact State.countChn_watch ho (by decide) s 1
  · rfl

theorem State.startTransfer_watch (s : State) (ch : Nat) : (s.startTransfer ch).watch o = s.watch o := by
  unfold State.startTransfer
  split
  · rfl
  · split
    · rfl
    · dsimp only
      rw [State.countPage_watch ho, when_watch fun v => State.count_watch ho (by decide) v,
        when_watch fun v => State.count_watch ho (by decide) v, when_watch fun v => State.stickChn_watch ho (by decide) v 1]
      rfl

omit ho in
theorem agentNum_lt (a : Agent) : agentNum a < 8 := by cases a <;> decide

theorem State.grant_watch (s : State) (w : Seat) : (s.grant w).watch o = s.watch o := by
  unfold State.grant
  have hk : 0x180 + 8 * agentNum w.2 < 0x1000 := by have := agentNum_lt w.2; omega
  rw [State.startTransfer_watch ho]
  refine (State.countChn_watch ho hk _ 1).trans ?_
  refine forAll_watch (fun k t => ?_) _ s
  rfl

theorem State.grantFrom_watch (s : State) (b : Before) (w : Seat) : (s.grantFrom b w).watch o = s.watch o :=
  (State.grant_watch ho _ w).trans rfl

theorem State.contest_watch (s : State) (ch : Nat) (w : Seat) : (s.contest ch w).watch o = s.watch o := by
  unfold State.contest
  extract_lets t u
  have ht : t.watch o = s.watch o := by
    refine forAll_watch (fun x t => ?_) _ s
    rfl
  rw [State.grantFrom_watch ho, ← ht]
  simp only [u]
  split
  · split <;> rfl
  · rfl

omit ho in
theorem State.refreshEngine_watch (s : State) (ch : Nat) : (s.refreshEngine ch).watch o = s.watch o :=
  State.watch_of_only (State.refreshEngine_only (by decide) s ch)

theorem State.decideOnce_watch (s : State) (ch : Nat) : (s.decideOnce ch).watch o = s.watch o := by
  unfold State.decideOnce
  rw [← State.refreshEngine_watch s ch]
  generalize s.refreshEngine ch = t
  dsimp only
  split
  · split
    · exact State.contest_watch ho t ch _
    · rfl
  · split
    · exact State.startTransfer_watch ho _ _
    · split
      · exact State.contest_watch ho t ch _
      · split
        · exact State.startTransfer_watch ho _ _
        · rfl

theorem State.decideUp_watch (s : State) (ch n : Nat) : (s.decideUp ch n).watch o = s.watch o := by
  induction n generalizing s with
  | zero => rfl
  | succ n ih =>
    unfold State.decideUp
    dsimp only
    split
    · rw [ih, State.decideOnce_watch ho]
    · exact State.decideOnce_watch ho s ch

theorem State.decideGrant_watch (s : State) (ch : Nat) : (s.decideGrant ch).watch o = s.watch o :=
  (State.decideUp_watch ho _ ch 17).trans (State.watch_of_only (State.takeG2_only (by decide) s _))

theorem State.abandon_watch (s : State) (ch : Nat) (h : Agent) (x : Xfer) (counts : Bool) :
    (s.abandon ch h x counts).watch o = s.watch o := by
  unfold State.abandon
  extract_lets y t u v
  have hu : u.watch o = s.watch o := State.watch_of_only (State.dropDraw_only (by decide) t ch)
  have hv : v.watch o = s.watch o := (when_watch (fun w => State.stickChn_watch ho (by decide) w 1) _ u).trans hu
  refine (when_watch (fun w => ?_) _ v).trans hv
  rw [State.stickChn_watch ho (by decide), State.countChn_watch ho (by decide)]
  exact State.countChn_watch ho (by decide) w 1

theorem State.preemptNow_watch (s : State) (ch : Nat) : (s.preemptNow ch).watch o = s.watch o := by
  unfold State.preemptNow
  split
  · next w h x _ _ _ =>
    split
    · extract_lets t u
      have ht : t.watch o = s.watch o := when_watch (fun w => State.count_watch ho (by decide) w) _ s
      have hu : u.watch o = s.watch o :=
        (State.refreshEngine_watch _ ch).trans ((State.abandon_watch ho t ch h x true).trans ht)
      split
      · exact (State.grantFrom_watch ho u _ w).trans hu
      · exact (State.decideGrant_watch ho u ch).trans hu
    · rfl
  · rfl

theorem State.testPreempt_watch (s : State) (ch : Nat) : (s.testPreempt ch).watch o = s.watch o := by
  unfold State.testPreempt
  rw [← State.noteForcing_watch ho s ch]
  generalize s.noteForcing ch = t
  dsimp only
  split
  · rfl
  · split
    · split
      · exact (State.preemptNow_watch ho _ _).trans rfl
      · rfl
    · rfl

theorem State.serveWaiting_watch (s : State) (ch : Nat) : (s.serveWaiting ch).watch o = s.watch o := by
  unfold State.serveWaiting
  split
  · split
    · rfl
    · rw [State.noteForcing_watch ho, State.decideGrant_watch ho]
  · exact State.testPreempt_watch ho s ch

theorem State.askNow_watch (s : State) (ch : Nat) (a : Agent) : (s.askNow ch a).watch o = s.watch o := by
  unfold State.askNow
  extract_lets t
  have ht : t.watch o = s.watch o := by
    refine (forAll_watch (fun d t => ?_) _ _).trans rfl
    split
    · rfl
    · exact State.wake_watch ho t d
  rw [← ht]
  split
  · rw [State.noteForcing_watch ho, State.decideGrant_watch ho]
  · exact State.testPreempt_watch ho t ch

theorem State.askIf_watch (s : State) (ch : Nat) (a : Agent) : (s.askIf ch a).watch o = s.watch o := by
  unfold State.askIf
  split
  · exact State.askNow_watch ho s ch a
  · rfl

theorem State.runPower_watch (s : State) (ch n : Nat) : (s.runPower ch n).watch o = s.watch o := by
  unfold State.runPower
  split
  · exact (State.askIf_watch ho _ ch .ref).trans rfl
  · rfl

theorem State.pdExit_watch (s : State) (ch : Nat) : (s.pdExit ch).watch o = s.watch o := by
  unfold State.pdExit
  dsimp only
  split
  · refine (forAll_watch (fun k t => ?_) _ _).trans rfl
    split
    · exact State.runPower_watch ho t k 47
    · rfl
  · rfl

theorem State.agentAsks_watch (s : State) (ch : Nat) (a : Agent) : (s.agentAsks ch a).watch o = s.watch o := by
  unfold State.agentAsks
  split
  · refine (State.pdExit_watch ho _ ch).trans (when_watch (fun t => ?_) _ s)
    rfl
  · exact State.askIf_watch ho s ch a

theorem State.askAll_watch (s : State) (ch : Nat) : (s.askAll ch).watch o = s.watch o :=
  forAll_watch (fun a t => State.agentAsks_watch ho t ch a) _ s

theorem State.refLimits_watch (s : State) (ch : Nat) : (s.refLimits ch).watch o = s.watch o := by
  unfold State.refLimits
  extract_lets t u
  have ht : t.watch o = s.watch o := forAll_watch (fun b v => State.watch_of_only (State.urgeClose_only (by decide) v ch b)) _ s
  rw [State.testPreempt_watch ho, ← ht]
  simp only [u]
  split
  · exact State.agentAsks_watch ho t ch .ref
  · rfl

/-! ### Retrainings and corrections -/

theorem State.retrain_watch (s : State) (ch : Nat) (full : Bool) (bits : List Nat) :
    (s.retrain ch full bits).watch o = s.watch o := by
  unfold State.retrain
  dsimp only
  split
  · rfl
  · rw [State.agentAsks_watch ho]
    refine Eq.trans (b := ((State.count _ 0x7120).refreshAsks ch).watch o) rfl ?_
    rw [State.watch_of_only (State.refreshAsks_only (by decide) _ ch), State.count_watch ho (by decide)]
    rfl

theorem State.statusSensor_watch (s : State) (ch sid : Nat) : (s.statusSensor ch sid).watch o = s.watch o := by
  unfold State.statusSensor
  exact when_watch (fun t => State.event_watch ho t ..) _ _

/-! ### Fences -/

theorem State.noteErr_watch (s : State) (code : ErrCode) : (s.noteErr code).watch o = s.watch o := by
  unfold State.noteErr
  split
  · exact State.stick_watch ho (by decide) s
  · rw [State.count_watch ho (by decide), State.stick_watch ho (by decide)]
  · rfl

theorem State.fail_watch (s : State) (r : Req) (code : ErrCode) (detail : Nat) : (s.fail r code detail).watch o = s.watch o := by
  unfold State.fail
  rw [State.watch_of_only (State.answer_only (by decide) _ _ _ _ _), State.noteErr_watch ho,
    State.watch_of_only (State.endReq_only (by decide) s r)]

theorem State.lateData_watch (s : State) (uid ch : Nat) : (s.lateData uid ch).watch o = s.watch o := by
  unfold State.lateData
  rw [State.count_watch ho (by decide)]
  rfl

theorem State.cutChannel_watch (s : State) (ch : Nat) (p : Nat → Bool) : (s.cutChannel ch p).watch o = s.watch o := by
  unfold State.cutChannel
  extract_lets gone late t1 t2 t3 u v
  have h1 : t1.watch o = s.watch o := State.watch_of_only (State.syncBatch_only (by decide) (s.setChan ch (fun c => c.cut p)) ch)
  have h2 : t2.watch o = t1.watch o := when_watch (fun t => State.watch_of_only (State.dropDraw_only (by decide) t ch)) _ t1
  have h3 : t3.watch o = t2.watch o := forAll_watch (fun u t => State.lateData_watch ho t u ch) _ t2
  have h4 : u.watch o = t3.watch o := forAll_watch (fun _ t => State.watch_of_only (State.freePool_only (by decide) t)) _ t3
  have h5 : v.watch o = u.watch o := forAll_watch (fun r t => (State.fail_watch ho _ r .fenced ch).trans
    (State.watch_of_only (State.leaveReads_only (by decide) t r))) _ u
  exact (h5.trans (h4.trans (h3.trans (h2.trans h1))) : v.watch o = s.watch o)

theorem State.cutUnit_watch (s : State) (u : FUnit) (i : Nat) : (s.cutUnit u i).watch o = s.watch o := by
  have hall (l : List Nat) : (forAll l (fun ch t => (t.cutChannel ch (fun _ => true)).quarReady ch) s).watch o = s.watch o :=
    forAll_watch (fun ch t => (State.watch_of_only (State.quarReady_only (by decide) _ ch)).trans
        (State.cutChannel_watch ho t ch _)) l s
  unfold State.cutUnit
  split
  · rfl
  · rfl
  · exact State.cutChannel_watch ho s _ _
  · exact State.cutChannel_watch ho s _ _
  · exact hall _

theorem State.noteChannels_watch (s : State) (u : FUnit) (i : Nat) : (s.noteChannels u i).watch o = s.watch o := by
  unfold State.noteChannels
  split
  · rfl
  · rfl
  · exact State.stickBits_watch ho (by decide) s _

theorem State.keepCause_watch (s : State) (p : EvRec → Bool) : (s.keepCause p).watch o = s.watch o := by
  unfold State.keepCause
  split
  · rfl
  · split
    · split
      · rfl
      · exact State.queueRec_watch ho s _
    · rfl

theorem State.fenceUnit_watch (s : State) (u : FUnit) (i reason : Nat) (cause : Option (Nat × Nat)) :
    (s.fenceUnit u i reason cause).watch o = s.watch o := by
  unfold State.fenceUnit
  extract_lets first src t1 t2 shown t3 t4
  have h2 : t2.watch o = s.watch o := by
    simp only [t2]
    split
    · exact (State.keepCause_watch ho _ _).trans rfl
    · rfl
  have h3 : t3.watch o = t2.watch o := (State.eventP_watch ho _ _ _ _ _ _).trans (State.noteChannels_watch ho t2 u i)
  have h4 : t4.watch o = t3.watch o := (when_watch (f := fun t => t.stick RF.SYS_CH_FENCED) (fun t => State.stick_watch ho
      (by decide) t) _ _).trans
    (State.watch_of_only (State.driveResets_only (by decide) t3 u i))
  have hall : t4.watch o = s.watch o := h4.trans (h3.trans h2)
  clear_value first t4
  cases first
  · exact hall
  · rw [State.cutUnit_watch ho, State.watch_of_only (State.bumpGen_only (by decide) t4), hall]

theorem State.fatalFault_watch (s : State) (source code reason : Nat) : (s.fatalFault source code reason).watch o = s.watch o := by
  unfold State.fatalFault
  extract_lets src t1 t2 t3 t4 t5
  have h2 : t2.watch o = s.watch o := (State.event_watch ho _ _ _ _ _).trans rfl
  split
  · exact h2
  · have h3 : t3.watch o = s.watch o := (State.noteChannels_watch ho t2 _ _).trans h2
    have h4 : t4.watch o = t3.watch o := (forAll_watch (fun r t => State.fail_watch ho t r .fenced _) _ _).trans
      (State.watch_of_only (State.bumpGen_only (by decide) t3))
    have h5 : t5.watch o = t4.watch o := State.cutUnit_watch ho t4 _ _
    have hall : t5.watch o = s.watch o := h5.trans (h4.trans h3)
    clear_value t5
    exact hall

theorem State.suspect_watch (s : State) (ch b : Nat) : (s.suspect ch b).watch o = s.watch o := by
  unfold State.suspect
  extract_lets p t1 t2 t3
  have h2 : t2.watch o = s.watch o := (when_watch (fun t => State.stickBits_watch ho (by decide) t _) _ t1).trans rfl
  have h3 : t3.watch o = t2.watch o := (State.eventP_watch ho _ _ _ _ _ _).trans (State.count_watch ho (by decide) t2)
  split
  · rw [State.fenceUnit_watch ho, h3, h2]
  · rw [h3, h2]

/-! ### Courses -/

theorem State.startRun_watch (s : State) (g : Nat) : (s.startRun g).watch o = s.watch o := by
  unfold State.startRun
  extract_lets t u
  have ht : u.watch o = s.watch o := (State.watch_of_only (State.syncAge_only (by decide) t)).trans rfl
  exact (forAll_watch (fun ch v => State.agentAsks_watch ho v ch .cal) _ u).trans ht

theorem State.dueRun_watch (s : State) (g : Nat) : (s.dueRun g).watch o = s.watch o := by
  unfold State.dueRun
  split
  · rfl
  · rfl
  · split
    · exact State.startRun_watch ho s g
    · rfl

theorem State.takeRef_watch (s : State) (c : Nat) : (s.takeRef c).watch o = s.watch o :=
  (when_watch (fun t => State.stick_watch ho (by decide) t) _ _).trans rfl

theorem State.followRef_watch (s : State) : s.followRef.watch o = s.watch o := by
  have hwindows (t : State) : t.discardWindows.watch o = t.watch o := State.watch_of_only (State.discardWindows_only (by decide) t)
  unfold State.followRef
  split
  · split
    · rfl
    · rw [State.stick_watch ho (by decide), hwindows]; rfl
  · exact State.takeRef_watch ho s _
  · extract_lets t
    rw [State.watch_of_only (State.syncAge_only (by decide) _), forAll_watch fun g v => State.dueRun_watch ho v g]
    exact State.takeRef_watch ho s _
  · rw [State.stick_watch ho (by decide), hwindows]; rfl
  · rfl

theorem State.darkLanes_watch {c : Nat} (hc : c < 12) (s : State) : (s.darkLanes c).watch o = s.watch o := by
  unfold State.darkLanes
  rw [State.watch_of_only (State.setLanes_only (by decide) _ c _)]
  exact State.countBy_watch ho (not_quietOff_crs hc (by decide) (by decide)) s _

theorem State.loopEnd_watch (hloop : ∀ x, s.rpr.loop = some x → x.course < 12) : s.loopEnd.watch o = s.watch o := by
  unfold State.loopEnd
  split
  · rfl
  · next x hx =>
    extract_lets src t1 t2 t3 t4
    have h2 : t2.watch o = s.watch o := by
      simp only [t2]
      split <;> rfl
    have h3 : t3.watch o = t2.watch o := by
      refine forAll_watch (fun l t => ?_) _ t2
      rfl
    have h4 : t4.watch o = t3.watch o := when_watch (fun t => State.darkLanes_watch ho (hloop x hx) t) _ t3
    rw [State.event_watch ho, h4, h3, h2]

theorem State.fenceCourse_watch {c : Nat} (hc : c < 12) (s : State) (why : CourseReason) :
    (s.fenceCourse c why).watch o = s.watch o := by
  unfold State.fenceCourse
  extract_lets was t1 t2 t3 accepted t4 r t5 t6 t7 t8
  have h1 : t1.watch o = s.watch o := State.fenceUnit_watch ho s _ _ _ _
  have h2 : t2.watch o = t1.watch o := State.stickBits_watch (f := RF.CRS_FENCED_EVT) (n := c) ho
    (not_quietOff_crs (k := 0x004) hc (by decide) (by decide)) t1 1
  have h3 : t3.watch o = t2.watch o := when_watch (f := fun t => t.stick RF.SYS_LINK_DEGRADED) (fun t => State.stick_watch ho
      (by decide) t) _ t2
  have h4 : t4.watch o = t3.watch o := State.darkLanes_watch ho hc t3
  have h5 : r.2.watch o = t4.watch o := State.watch_of_only (State.reclaimFlits_only (by decide) t4 _)
  clear_value r
  have h6 : t6.watch o = r.2.watch o := by
    refine (forAll_watch (fun d t => ?_) _ t5).trans rfl
    split <;> rfl
  clear_value t6
  have h7 : t7.watch o = t6.watch o := by
    simp only [t7]
    split
    · next l hl =>
      split
      · next hcl => exact State.loopEnd_watch ho fun x hx => by rw [hl] at hx; cases hx; rw [hcl.1]; exact hc
      · rfl
    · rfl
  clear_value t7
  have h8 : t8.watch o = t7.watch o := State.followRef_watch ho t7
  have hshort : t3.watch o = s.watch o := h3.trans (h2.trans h1)
  have hall : t8.watch o = s.watch o := h8.trans (h7.trans (h6.trans (h5.trans (h4.trans hshort))))
  clear_value was t3 t8
  cases was
  · dsimp only
    split_ifs
    · exact (State.fatalFault_watch ho t8 _ _ _).trans hall
    · exact hall
  · exact hshort

/-! ### What goes to the partner -/

theorem State.mirSend_watch (s : State) (type : Nat) (body : List Word) (keyOp : Option Nat) :
    (s.mirSend type body keyOp).watch o = s.watch o := by
  unfold State.mirSend
  split
  · unfold State.mirPlace State.mirWords
    exact (State.countBy_watch ho (by decide) _ _).trans rfl
  · rfl

theorem State.random_watch (s : State) (n : Nat) : (s.random n).2.watch o = s.watch o := by
  unfold State.random
  refine (when_watch (fun t => ?_) _ _).trans rfl
  unfold State.reseed
  exact (State.count_watch ho (by decide) _).trans rfl

theorem State.sendKey_watch (s : State) (k : Nat) (keyOp : Option Nat) : (s.sendKey k keyOp).watch o = s.watch o := by
  have hbody : (s.keyBody false k).2.watch o = s.watch o := by
    unfold State.keyBody
    split
    · rfl
    · dsimp only
      split
      · rfl
      · exact State.random_watch ho s 12
  exact (State.mirSend_watch ho _ _ _ _).trans hbody

theorem State.mirrorFrom_watch (s t : State) : (s.mirrorFrom t).watch o = t.watch o := by
  unfold State.mirrorFrom
  split
  · extract_lets u v
    have hu : u.watch o = t.watch o := by
      refine forAll_watch (fun ch w => ?_) _ t
      dsimp only
      rw [when_watch fun x => State.mirSend_watch ho x _ _ _, forAll_watch fun _ x => State.mirSend_watch ho x _ _ _,
        forAll_watch fun _ x => State.mirSend_watch ho x _ _ _, when_watch fun x => State.mirSend_watch ho x _ _ _,
        when_watch fun x => State.mirSend_watch ho x _ _ _]
    have hv : v.watch o = t.watch o :=
      (when_watch (fun x => forAll_watch (fun k y => State.sendKey_watch ho y k _) _ x) _ u).trans hu
    split
    · split
      · exact (forAll_watch (fun _ x => State.mirSend_watch ho x _ _ _) _ v).trans hv
      · exact hv
    · exact hv
  · rfl

end

end

/-- A command of `act` leaves its effect, but for the pieces that its way to the partner and the inputs touch,
    and what is watched at
the quiet offsets. -/
theorem exec_watched {c : Instr} {s u : State} (h : exec c s = act c.wellFormed s u) (hwf : c.wellFormed = true)
    (hrun : s.running = true) (K : List Piece)
    (hK : (.regs ∉ K ∧ .sec ∉ K ∧ .pair ∉ K ∧ .free ∉ K) ∧ .inputs ∉ K ∧ .pending ∉ K := by decide) :
    ∃ t, exec c s = .next t ∧ t.only K = u.only K ∧ ∀ o, quietOff o → t.watch o = u.watch o :=
  ⟨_, exec_of_act h hwf hrun, (State.withInputs_only hK.2 s _).trans (State.mirrorFrom_only hK.1 s u),
    fun _ ho => Eq.trans rfl (State.mirrorFrom_watch ho s u)⟩

end Sys2Proof.Machine
end

section
/-! PROOFS. A flit that fails its FEC, its CRC or its authentication (R129, R132, R136, R138, R147; O17). -/

set_option Elab.async false

namespace Sys2Proof.Machine

section
variable {s : State} {c b l : Nat}

theorem State.rxBad_counter (o : Nat) : (s.rxBad c).counter o = s.counter o := rfl

theorem State.rxBad_course : (s.rxBad c).course c =
    { s.course c with nakDue := (s.course c).nakDue || !(s.course c).nakWait, nakWait := true } := State.setCourse_course_self ..

theorem State.live_of_receives (h : s.receives c = true) : (s.course c).tx ≠ .fenced := by
  intro hf
  simp [State.receives, hf] at h

/-- A flit that fails is discarded behind what its kind of failure does (R138). -/
theorem State.flitFails_of_receives (h : s.receives c = true) (kind : FlitFail) (corrected : List Nat) :
    s.flitFails c kind corrected =
      (let t := match kind with
        | .fec => ((s.flitArrives c corrected).count (crsAt c 0x128)).rxBad c
        | .crc => ((s.flitArrives c corrected).count (crsAt c 0x120)).rxBad c
        | .ftype => ((s.flitArrives c corrected).count (crsAt c 0x120)).rxBad c
        | .tag => (s.flitArrives c corrected).tagFails c
      when (t.course c).failAt.isSome (fun t => t.fenceCourse c .lanes) t) := by
  have hopen : ¬ (!s.receives c) = true := by rw [h]; decide
  unfold State.flitFails
  exact (if_neg hopen).trans (by cases kind <;> rfl)

/-- The counter of a kind of failure that is not one of authentication (R153). -/
def failCounter (c : Nat) (k : FlitFail) : Nat := crsAt c (if k = .fec then 0x128 else 0x120)

theorem State.flitFails_of_kind (h : s.receives c = true) {k : FlitFail} (hk : k ≠ .tag) (corrected : List Nat)
    (hat : ((s.flitArrives c corrected).course c).failAt = none) :
    s.flitFails c k corrected = ((s.flitArrives c corrected).count (failCounter c k)).rxBad c := by
  have hsame (o : Nat) : ((((s.flitArrives c corrected).count o).rxBad c).course c).failAt = none := by
    rw [State.rxBad_course]; exact hat
  rw [State.flitFails_of_receives h]
  cases k
  case tag => exact absurd rfl hk
  all_goals
    dsimp only
    rw [hsame]
    rfl

/-! ### A byte that the FEC corrected -/

theorem foldl_snd (m : List (Nat × Nat)) (n : Nat) : m.foldl (fun n p => n + p.2) n = n + (m.map Prod.snd).sum := by
  induction m generalizing n with
  | nil => rfl
  | cons p m ih => rw [List.foldl_cons, ih, List.map_cons, List.sum_cons, Nat.add_assoc]

theorem sum_snd_filter_le (q : Nat × Nat → Bool) (m : List (Nat × Nat)) : ((m.filter q).map Prod.snd).sum ≤
    (m.map Prod.snd).sum := by
  induction m with
  | nil => exact Nat.le_refl _
  | cons p m ih =>
    rw [List.filter_cons, List.map_cons, List.sum_cons]
    split
    · rw [List.map_cons, List.sum_cons]; omega
    · omega

/-- One more correction raises the corrections within the window by one at most. -/
theorem corrected_corrMore (x : Lane) (now : Nat) :
    ({ x with corr := corrMore now x.corr } : Lane).corrected ≤ x.corrected + 1 := by
  have hfilter := sum_snd_filter_le (fun p => decide (now < p.1 + 1024)) x.corr
  unfold Lane.corrected corrMore
  dsimp only
  rw [foldl_snd, foldl_snd]
  generalize x.corr.filter (fun p => decide (now < p.1 + 1024)) = kept at hfilter
  cases kept with
  | nil => simp
  | cons p rest =>
    obtain ⟨t, n⟩ := p
    dsimp only
    split <;> simp at hfilter ⊢ <;> omega

theorem State.noteFec_of_one (hlane : s.laneOf c (b / 8 % 16) = some l) (hfew :
    (s.lane c l).corrected < s.rf RF.LNK_FEC_LANE_THRESH) :
    s.noteFec c [b] =
      (s.setLane c l (fun x => { x with corr := corrMore s.now x.corr })).count (crsAt c (0x180 + 8 * l)) := by
  have hconf : ((s.setLane c l (fun x => { x with corr := corrMore s.now x.corr })).count (crsAt c (0x180 + 8 * l))).rf
      RF.LNK_FEC_LANE_THRESH = s.rf RF.LNK_FEC_LANE_THRESH :=
    congrArg (fun x => x.rf RF.LNK_FEC_LANE_THRESH) (State.count_only (K := [.conf]) (by decide) _ _)
  have hlanes : (((s.setLane c l (fun x => { x with corr := corrMore s.now x.corr })).count (crsAt c (0x180 + 8 * l))).lane c
      l).corrected ≤ (s.lane c l).corrected + 1 := by
    refine Nat.le_trans (Nat.le_of_eq ?_) (corrected_corrMore (s.lane c l) s.now)
    exact congrArg Lane.corrected (Tbl.get_upd_self ..)
  have hkeep := Nat.not_lt.2 (hlanes.trans (Nat.succ_le_of_lt hfew))
  rw [← hconf] at hkeep
  rw [State.noteFec, forAll_cons, forAll_nil]
  dsimp only
  rw [hlane]
  exact if_neg hkeep

/-! ### A flit that fails its authentication -/

/-- The failures of authentication among the last 1,024 flits, that of flit `n` among them (R136). -/
def Course.tagWindow (x : Course) (n : Nat) : List Nat := n :: x.fails.filter (fun k => decide (n < k + 1024))

/-- The course behind a flit that failed its authentication. -/
def Course.tagFailed (x : Course) : Course :=
  { x with
    rxCount := x.rxCount + 1
    fails := x.tagWindow (x.rxCount + 1) }

theorem State.tagFails_of_few (hfew : (s.course c).fails.length < 3) :
    s.tagFails c = ((s.count (crsAt c 0x130)).setCourse c (fun x => { x with
      fails := (s.course c).tagWindow (s.course c).rxCount })).rxBad c := by
  have hlen : ¬ 4 ≤ ((s.course c).tagWindow (s.course c).rxCount).length := by
    have := List.length_filter_le (fun k => decide ((s.course c).rxCount < k + 1024)) (s.course c).fails
    rw [Course.tagWindow, List.length_cons]
    omega
  rw [State.tagFails]
  exact if_neg hlen

theorem State.tagFails_of_fourth (hthree : (s.course c).fails.length = 3)
    (hnear : ∀ k ∈ (s.course c).fails, (s.course c).rxCount < k + 1024) :
    s.tagFails c = ((s.count (crsAt c 0x130)).setCourse c (fun x => { x with
      fails := (s.course c).tagWindow (s.course c).rxCount })).fenceCourse c .tag := by
  have hlen : 4 ≤ ((s.course c).tagWindow (s.course c).rxCount).length := by
    rw [Course.tagWindow, List.filter_eq_self.2 fun k hk => decide_eq_true (hnear k hk), List.length_cons, hthree]
  rw [State.tagFails]
  exact if_pos hlen

/-- What a failed flit leaves: the link's and the registers' parts, but for what is mirrored, the inputs and the queue. -/
def failPieces : List Piece := Piece.all.filter fun p => p.part != .link && p != .regs

theorem failPieces_kept : keptPieces ⊆ failPieces := by decide

theorem State.changesOnly_of_failPieces {u : State} (h : u.only failPieces = s.only failPieces) : s.changesOnly u [.link, .regs] :=
  State.changesOnly_of_only (K := Piece.all.filter fun p => p.part != .link && p.part != .regs) (State.only_mono (by decide) h)
      (by decide)

theorem State.flitFails_of_few (hrec : s.receives c = true) (hfew : (s.course c).fails.length < 3) (hfail :
    (s.course c).failAt = none) :
    ∃ u, s.flitFails c .tag [] = u ∧ u.only failPieces = s.only failPieces ∧
      u.course c = { (s.course c).tagFailed with
        nakDue := (s.course c).nakDue || !(s.course c).nakWait, nakWait := true } ∧
      (s.regs.snapBusy = false → u.counter (crsAt c 0x130) = s.counter (crsAt c 0x130) + 1#64) := by
  have harr : (s.flitArrives c []).course c = { s.course c with rxCount := (s.course c).rxCount + 1 } :=
    State.setCourse_course_self ..
  have htag := State.tagFails_of_few (s := s.flitArrives c []) (c := c) (by rw [harr]; exact hfew)
  have hcourse : ((s.flitArrives c []).tagFails c).course c = { (s.course c).tagFailed with
      nakDue := (s.course c).nakDue || !(s.course c).nakWait, nakWait := true } := by
    rw [htag, State.rxBad_course, State.setCourse_course_self]
    have hcount : ((s.flitArrives c []).count (crsAt c 0x130)).course c = (s.flitArrives c []).course c := rfl
    rw [hcount, harr]
    rfl
  have hu : s.flitFails c .tag [] = (s.flitArrives c []).tagFails c := by
    rw [State.flitFails_of_receives hrec]
    dsimp only
    rw [hcourse]
    have hsome : ((s.course c).tagFailed.failAt).isSome = false := by rw [show (s.course c).tagFailed.failAt = none from hfail]; rfl
    dsimp only
    rw [hsome]
    rfl
  refine ⟨_, hu, ?_, hcourse, fun hsnap => ?_⟩
  · rw [htag, State.rxBad_only (by decide), State.setCourse_only (by decide), State.count_only (by decide), State.flitArrives_nil,
      State.setCourse_only (by decide)]
  · rw [htag]
    exact State.count_counter_self (s := s.flitArrives c []) hsnap _

theorem quietOff_tagCounter (hc : c < 12) : quietOff (crsAt c 0x130) := by
  have h : crsAt c 0x130 = 0x10000 + 0x1000 * c + 0x130 := rfl
  rw [quietOff, h]
  omega

theorem State.flitFails_of_fourth (hrec : s.receives c = true) (hc : c < 12) (hsnap : s.regs.snapBusy = false)
    (hthree : (s.course c).fails.length = 3) (hnear : ∀ k ∈ (s.course c).fails, (s.course c).rxCount + 1 < k + 1024) :
    ∃ v, s.flitFails c .tag [] = v ∧ (v.course c).tx = .fenced ∧ (v.course c).up = false ∧ (v.course c).fenceWhy = some .tag ∧
      v.marked .course c = true ∧ v.counter (crsAt c 0x130) = s.counter
          (crsAt c 0x130) + 1#64 ∧ v.nvm = s.nvm ∧ v.array = s.array := by
  have harr : (s.flitArrives c []).course c = { s.course c with rxCount := (s.course c).rxCount + 1 } :=
    State.setCourse_course_self ..
  have htag := State.tagFails_of_fourth (s := s.flitArrives c []) (c := c) (by rw [harr]; exact hthree) (by rw [harr]; exact hnear)
  have hcounter : ((s.flitArrives c []).count (crsAt c 0x130)).counter (crsAt c 0x130) = s.counter (crsAt c 0x130) + 1#64 :=
    State.count_counter_self (s := s.flitArrives c []) hsnap _
  have honly {K : List Piece} (hK : .regs ∉ K ∧ .courses ∉ K) :
      ((s.flitArrives c []).count (crsAt c 0x130)).only K = s.only K := by
    rw [State.count_only hK.1, State.flitArrives_nil, State.setCourse_only hK.2]
  have hcount : ((s.flitArrives c []).count (crsAt c 0x130)).course c = (s.flitArrives c []).course c := rfl
  generalize (s.flitArrives c []).count (crsAt c 0x130) = w at htag hcounter honly hcount
  generalize ((s.flitArrives c []).course c).tagWindow _ = l at htag
  have htx : ((w.setCourse c (fun x => { x with fails := l })).course c).tx ≠ .fenced := by
    rw [State.setCourse_course_self, hcount, harr]
    exact State.live_of_receives hrec
  have hfenced := State.fenceCourse_of_live htx hc .tag
  have hwatch := State.fenceCourse_watch (quietOff_tagCounter hc) hc (w.setCourse c (fun x => { x with fails := l })) .tag
  have hu : s.flitFails c .tag [] = (w.setCourse c (fun x => { x with fails := l })).fenceCourse c .tag := by
    rw [State.flitFails_of_receives hrec]
    dsimp only
    rw [htag, hfenced.failAt]
    rfl
  have hkept : ((w.setCourse c (fun x => { x with fails := l })).fenceCourse c .tag).only [.mem, .nvm, .array] = s.only [.mem,
      .nvm, .array] := by
    rw [State.fenceCourse_only (by decide), State.setCourse_only (by decide), honly (by decide)]
  exact ⟨_, hu, hfenced.tx, hfenced.up, hfenced.why, hfenced.marked, (congrArg Prod.fst hwatch).trans hcounter,
    State.nvm_of_only (State.only_mono (by decide) hkept), State.array_of_only (State.only_mono (by decide) hkept)⟩

theorem flitCrcFailure_wellFormed (hc : c < 12) (kind : FlitFail) (hdr : BitVec 64) {corrected : List Nat}
    (hcorr : corrected.all (fun b => decide (b < 512)) = true) :
    (Instr.flitCrcFailure c kind hdr corrected).wellFormed = true := by
  simpa [Instr.wellFormed, Instr.units, Instr.partsOk, hc] using hcorr

/-- The course behind a flit that is discarded, `f` having noted its arrival. -/
theorem State.discarded_course (f : Course → Course) (o : Nat) : (((s.setCourse c f).count o).rxBad c).course c =
    { f (s.course c) with nakDue := (f (s.course c)).nakDue || !(f (s.course c)).nakWait, nakWait := true } :=
  State.rxBad_course.trans
    (congrArg (fun y : Course => { y with nakDue := y.nakDue || !y.nakWait, nakWait := true }) (State.setCourse_course_self s c f))

theorem State.discarded_only (f : Course → Course) (o : Nat) :
    (((s.setCourse c f).count o).rxBad c).only failPieces = s.only failPieces := by
  rw [State.rxBad_only (by decide), State.count_only (by decide), State.setCourse_only (by decide)]

end

/-- Settles O17, a clause each: a failure of the FEC, the CRC or the FTYPE, one of authentication, the fourth of them,
    and a byte that
the FEC corrected. -/
theorem failedFlitsAskForReplay : Obligations.FailedFlitsAskForReplay := by
  intro s c b l hdr hrun hc hl hb hrec hfail hsnap
  have hwf (k : FlitFail) {corrected : List Nat} (hcorr : corrected.all (fun b => decide (b < 512)) = true) :
      (Instr.flitCrcFailure c k hdr corrected).wellFormed = true := flitCrcFailure_wellFormed hc k hdr hcorr
  have hat : ((s.flitArrives c []).course c).failAt = none := by
    rw [State.flitArrives_nil, State.setCourse_course_self]; exact hfail
  refine ⟨fun k hk => ?_, fun hfew => ?_, fun hthree hnear => ?_, fun hlane hcorr => ?_⟩
  · have hu := State.flitFails_of_kind hrec hk [] hat
    rw [State.flitArrives_nil] at hu
    have honly : (s.flitFails c k []).only failPieces = s.only failPieces := by rw [hu]; exact State.discarded_only ..
    have hcourse := (congrArg (fun x : State => x.course c) hu).trans (State.discarded_course _ _)
    refine ⟨_, exec_of_kept rfl (hwf k rfl) hrun (State.only_mono failPieces_kept honly), ?_, ?_, ?_, ?_, ?_,
      State.changesOnly_of_failPieces honly⟩
    · exact (congrArg Course.expect hcourse).trans rfl
    · exact (congrArg Course.nakWait hcourse).trans rfl
    · exact (congrArg Course.nakDue hcourse).trans rfl
    · exact (congrArg Course.rxCount hcourse).trans rfl
    · exact (congrArg (fun x : State => x.counter (failCounter c k)) hu).trans
        (State.count_counter_self (s := s.setCourse c (fun x => { x with rxCount := x.rxCount + 1 })) hsnap _)
  · obtain ⟨u, hu, honly, hcourse, hcounter⟩ := State.flitFails_of_few hrec hfew hfail
    subst hu
    refine ⟨_, exec_of_kept rfl (hwf .tag rfl) hrun (State.only_mono failPieces_kept honly), ?_, ?_, hcounter hsnap,
      State.changesOnly_of_failPieces honly⟩
    · exact (congrArg Course.nakWait hcourse).trans rfl
    · exact (congrArg (fun x : Course => x.fails.head?) hcourse).trans rfl
  · obtain ⟨v, hu, htx, hup, hwhy, hmarked, hcounter, hnvm, harray⟩ := State.flitFails_of_fourth hrec hc hsnap hthree hnear
    obtain ⟨t, ht, honly, hwatch⟩ := exec_watched (c := .flitCrcFailure c .tag hdr []) (u := v) (by rw [← hu]; rfl)
        (hwf .tag rfl) hrun
      [.courses, .flt, .mem, .nvm, .array]
    have hcourse : t.course c = v.course c := State.courses_of_only (State.only_mono (by decide) honly) c
    have hmarks : t.flt.marks = v.flt.marks := congrArg (fun x => x.flt.marks) honly
    refine ⟨t, ht, by rw [hcourse, htx], by rw [hcourse, hup], by rw [hcourse, hwhy], ?_, ?_, ?_, ?_⟩
    · rw [State.marked_eq, hmarks, ← State.marked_eq, hmarked]
    · exact (congrArg Prod.fst (hwatch _ (quietOff_tagCounter hc))).trans hcounter
    · exact (State.nvm_of_only (State.only_mono (by decide) honly)).trans hnvm
    · exact (State.array_of_only (State.only_mono (by decide) honly)).trans harray
  · have hlane' := State.noteFec_of_one hlane hcorr
    have hu : s.flitFails c .crc [b] = (((s.flitArrives c [b]).count (failCounter c .crc)).rxBad c) := by
      refine State.flitFails_of_kind hrec (by decide) [b] ?_
      rw [State.flitArrives, State.setCourse_course_self, hlane']
      exact hfail
    have honly : (s.flitFails c .crc [b]).only failPieces = s.only failPieces := by
      rw [hu, State.flitArrives, State.discarded_only, hlane', State.count_only (by decide), State.setLane_only (by decide)]
    have hne : crsAt c (0x180 + 8 * l) ≠ failCounter c .crc := by
      have h1 : crsAt c (0x180 + 8 * l) = 0x10000 + 0x1000 * c + (0x180 + 8 * l) := rfl
      have h2 : failCounter c .crc = 0x10000 + 0x1000 * c + 0x120 := rfl
      omega
    refine ⟨_, exec_of_kept rfl (hwf .crc (by simpa using hb)) hrun (State.only_mono failPieces_kept honly), ?_, ?_,
      State.changesOnly_of_failPieces honly⟩
    · refine (congrArg (fun x : State => (x.lane c l).corr) hu).trans ?_
      rw [State.flitArrives, hlane']
      exact congrArg Lane.corr (Tbl.get_upd_self ..)
    · refine (congrArg (fun x : State => x.counter (crsAt c (0x180 + 8 * l))) hu).trans ?_
      refine (State.count_counter_of_ne (s := s.flitArrives c [b]) hne).trans ?_
      rw [State.flitArrives, hlane']
      exact State.count_counter_self (s := s.setLane c l (fun x => { x with corr := corrMore s.now x.corr })) hsnap _

end Sys2Proof.Machine
end

section
/-! PROOFS. What stands of a channel whatever its arbiter does: the captured bursts, the capture misses, the refresh counts,
    the backlog
and the banks, but for their close-due marks (R233, R240 to R248; O38, O39). -/

set_option Elab.async false

namespace Sys2Proof.Machine

/-- What of a channel the arbiter leaves as it stands; its banks are without their close-due marks. -/
structure Standing where
  captured : List Captured
  missed : List (Nat × Agent)
  slotNext : Nat
  kCount : Nat
  band : Nat
  latchRead : Option LatchRead
  backlog : List Backlog
  bank : Nat → Bank

def Chan.standing (c : Chan) : Standing :=
  ⟨c.captured, c.missed, c.slotNext, c.kCount, c.band, c.latchRead, c.backlog, fun i => { c.banks.get i with closeDue := false }⟩

/-- What of channel `k` the arbiter leaves as it stands. -/
abbrev State.standing (s : State) (k : Nat) : Standing := (s.chan k).standing

section
variable {s t : State} {k : Nat}

theorem State.standing_of_only (h : t.only [.chans] = s.only [.chans]) : t.standing k = s.standing k :=
  congrArg (fun x => x.standing k) h

theorem State.setChan_standing (s : State) (ch : Nat) {f : Chan → Chan}
    (hf : ∀ c, (f c).standing = c.standing := by intro c; rfl) : (s.setChan ch f).standing k = s.standing k := by
  unfold State.standing
  by_cases hk : k = ch
  · subst hk
    rw [State.setChan_chan_self, hf]
  · rw [State.setChan_chan_ne f hk]

theorem when_standing {c : Bool} {f : State → State} (hf : ∀ t : State, (f t).standing k = t.standing k) (s : State) :
    (when c f s).standing k = s.standing k := by
  cases c
  · rfl
  · exact hf s

theorem forAll_standing {α : Type} {f : α → State → State} (hf : ∀ a (t : State), (f a t).standing k = t.standing k)
    (l : List α) (s : State) : (forAll l f s).standing k = s.standing k := by
  induction l generalizing s with
  | nil => rfl
  | cons a l ih => rw [forAll_cons, ih, hf]

theorem Chan.closeDue_standing (l : List Nat) (c : Chan) (b : Tbl Bank)
    (hb : (fun i => { b.get i with closeDue := false }) = (fun i => { c.banks.get i with closeDue := false })) :
    (fun i => { (l.foldl (fun bs b => bs.upd b (fun x => { x with closeDue := false })) b).get i with closeDue := false }) =
      (fun i => { c.banks.get i with closeDue := false }) := by
  induction l generalizing b with
  | nil => exact hb
  | cons a l ih =>
    refine ih _ (Eq.trans (funext fun i => ?_) hb)
    by_cases hi : i = a
    · subst hi; rw [Tbl.get_upd_self]
    · rw [Tbl.get_upd_ne _ _ hi]

theorem Chan.select_standing (c : Chan) (a : Agent) (work : List Work) (first : Bool) :
    (c.select a work first).standing = c.standing := by
  have h := Chan.closeDue_standing (work.filterMap c.workBank) c c.banks rfl
  unfold Chan.standing
  rw [show (fun i => ({ (c.select a work first).banks.get i with closeDue := false } : Bank)) = _ from h]
  rfl

/-! ### The arbiter -/

theorem State.setBank_standing (s : State) (ch b : Nat) {f : Bank → Bank}
    (hf : ∀ x, { f x with closeDue := false } = { x with closeDue := false } := by intro x; rfl) :
    (s.setBank ch b f).standing k = s.standing k := by
  refine State.setChan_standing s ch (hf := fun c => ?_)
  unfold Chan.standing
  have h : (fun i => ({ (c.banks.upd b f).get i with closeDue := false } : Bank)) = fun i => { c.banks.get i with closeDue :=
      false } := by
    refine funext fun i => ?_
    by_cases hi : i = b
    · subst hi; rw [Tbl.get_upd_self, hf]
    · rw [Tbl.get_upd_ne _ _ hi]
  dsimp only
  rw [h]

theorem State.refreshAsks_standing (s : State) (ch : Nat) : (s.refreshAsks ch).standing k = s.standing k := by
  refine State.setChan_standing s ch (hf := fun c => ?_)
  generalize tieOrder = l
  induction l generalizing c with
  | nil => rfl
  | cons a l ih => rw [List.foldl_cons, ih]; rfl

theorem State.refreshEngine_standing (s : State) (ch : Nat) : (s.refreshEngine ch).standing k = s.standing k :=
  forAll_standing (fun e t => State.refreshAsks_standing t e) _ s

theorem State.countPage_standing (s : State) (ch entry : Nat) : (s.countPage ch entry).standing k = s.standing k :=
  State.standing_of_only (State.countPage_only (by decide) ..)

theorem State.startTransfer_standing (s : State) (ch : Nat) : (s.startTransfer ch).standing k = s.standing k := by
  unfold State.startTransfer
  split
  · rfl
  · next a _ =>
    split
    · exact State.setChan_standing s ch
    next x _ =>
      dsimp only
      rw [State.countPage_standing, when_standing fun v => State.standing_of_only (State.count_only (by decide) v _),
        when_standing fun v => State.standing_of_only (State.count_only (by decide) v _),
        when_standing fun v => State.standing_of_only (State.stickBits_only (by decide) v _ _ _)]
      refine State.setChan_standing s ch (hf := fun c => ?_)
      exact Chan.select_standing (c.setAgent a (fun y => { y with restart := none })) a x.work ((s.chan ch).agent a).restart.isNone

theorem State.setAge_standing (s : State) (w : Seat) (f : Nat → Nat) : (s.setAge w f).standing k = s.standing k :=
  State.setChan_standing s _

theorem State.grant_standing (s : State) (w : Seat) : (s.grant w).standing k = s.standing k := by
  unfold State.grant
  rw [State.startTransfer_standing, State.standing_of_only (State.count_only (by decide) ..), State.setChan_standing]
  exact forAll_standing (fun e t => State.setChan_standing t e) _ s

theorem State.grantFrom_standing (s : State) (b : Before) (w : Seat) : (s.grantFrom b w).standing k = s.standing k :=
  (State.grant_standing _ w).trans (State.setChan_standing s _)

theorem State.contest_standing (s : State) (ch : Nat) (w : Seat) : (s.contest ch w).standing k = s.standing k := by
  unfold State.contest
  extract_lets t u
  have ht : t.standing k = s.standing k := forAll_standing (fun x t => State.setAge_standing t x _) _ s
  rw [State.grantFrom_standing, ← ht]
  simp only [u]
  split
  · split
    · exact State.setAge_standing ..
    · rfl
  · rfl

theorem State.syncBatch_standing (s : State) (ch : Nat) : (s.syncBatch ch).standing k = s.standing k := by
  unfold State.syncBatch
  exact State.setChan_standing s ch

theorem State.takeG2_standing (s : State) (ch : Nat) : (s.takeG2 ch).standing k = s.standing k := by
  unfold State.takeG2
  split
  · rfl
  · rw [State.syncBatch_standing, State.syncBatch_standing, State.setChan_standing]
    rfl

theorem State.decideOnce_standing (s : State) (ch : Nat) : (s.decideOnce ch).standing k = s.standing k := by
  unfold State.decideOnce
  rw [← State.refreshEngine_standing s ch]
  generalize s.refreshEngine ch = t
  dsimp only
  split
  · split
    · exact State.contest_standing t ch _
    · rfl
  · split
    · exact (State.startTransfer_standing _ _).trans (State.setChan_standing t _)
    · split
      · exact State.contest_standing t ch _
      · split
        · exact (State.startTransfer_standing _ _).trans (State.setChan_standing t _)
        · exact State.setChan_standing t _

theorem State.decideUp_standing (s : State) (ch n : Nat) : (s.decideUp ch n).standing k = s.standing k := by
  induction n generalizing s with
  | zero => rfl
  | succ n ih =>
    unfold State.decideUp
    dsimp only
    split
    · rw [ih, State.decideOnce_standing]
    · exact State.decideOnce_standing s ch

theorem State.decideGrant_standing (s : State) (ch : Nat) : (s.decideGrant ch).standing k = s.standing k :=
  (State.decideUp_standing _ ch 17).trans (State.takeG2_standing s _)

theorem State.noteForcing_standing (s : State) (ch : Nat) : (s.noteForcing ch).standing k = s.standing k :=
  State.standing_of_only (State.noteForcing_only (by decide) s ch)

theorem State.abandon_standing (s : State) (ch : Nat) (h : Agent) (x : Xfer) (counts : Bool) :
    (s.abandon ch h x counts).standing k = s.standing k := by
  unfold State.abandon
  extract_lets y t u v
  have ht : t.standing k = s.standing k := State.setChan_standing s ch
  have hu : u.standing k = t.standing k := State.setChan_standing ..
  have hv : v.standing k = u.standing k := when_standing (fun w => State.standing_of_only (State.stickBits_only
      (by decide) w _ _ _)) u
  refine (when_standing (fun w => ?_) v).trans (hv.trans (hu.trans ht))
  exact State.standing_of_only (by
    rw [State.stickBits_only (by decide), State.countBy_only (by decide), State.count_only (by decide)])

theorem State.preemptNow_standing (s : State) (ch : Nat) : (s.preemptNow ch).standing k = s.standing k := by
  unfold State.preemptNow
  split
  · next w h x _ _ _ =>
    split
    · extract_lets t u
      have ht : t.standing k = s.standing k := when_standing (fun w => State.standing_of_only (State.count_only (by decide) w _)) s
      have hu : u.standing k = s.standing k :=
        (State.refreshEngine_standing _ ch).trans ((State.abandon_standing t ch h x true).trans ht)
      split
      · exact (State.grantFrom_standing u _ w).trans hu
      · exact (State.decideGrant_standing u ch).trans hu
    · rfl
  · rfl

theorem State.testPreempt_standing (s : State) (ch : Nat) : (s.testPreempt ch).standing k = s.standing k := by
  unfold State.testPreempt
  rw [← State.noteForcing_standing s ch]
  generalize s.noteForcing ch = t
  dsimp only
  split
  · rfl
  · split
    · split
      · exact (State.preemptNow_standing _ _).trans (State.setChan_standing t _)
      · rfl
    · rfl

theorem State.serveWaiting_standing (s : State) (ch : Nat) : (s.serveWaiting ch).standing k = s.standing k := by
  unfold State.serveWaiting
  split
  · split
    · rfl
    · rw [State.noteForcing_standing, State.decideGrant_standing]
  · exact State.testPreempt_standing s ch

theorem State.askNow_standing (s : State) (ch : Nat) (a : Agent) : (s.askNow ch a).standing k = s.standing k := by
  unfold State.askNow
  extract_lets t
  have ht : t.standing k = s.standing k := by
    refine (forAll_standing (fun d t => ?_) _ _).trans (State.setChan_standing s ch)
    split
    · rfl
    · exact State.standing_of_only (State.wake_only (by decide) t d)
  rw [← ht]
  split
  · rw [State.noteForcing_standing, State.decideGrant_standing]
  · exact State.testPreempt_standing t ch

theorem State.askIf_standing (s : State) (ch : Nat) (a : Agent) : (s.askIf ch a).standing k = s.standing k := by
  unfold State.askIf
  split
  · exact State.askNow_standing s ch a
  · rfl

theorem State.runPower_standing (s : State) (ch n : Nat) : (s.runPower ch n).standing k = s.standing k := by
  unfold State.runPower
  split
  · exact (State.askIf_standing _ ch .ref).trans (State.setChan_standing s ch)
  · exact State.setChan_standing s ch

theorem State.pdExit_standing (s : State) (ch : Nat) : (s.pdExit ch).standing k = s.standing k := by
  unfold State.pdExit
  dsimp only
  split
  · refine (forAll_standing (fun e t => ?_) _ _).trans rfl
    split
    · exact State.runPower_standing t e 47
    · rfl
  · rfl

theorem State.agentAsks_standing (s : State) (ch : Nat) (a : Agent) : (s.agentAsks ch a).standing k = s.standing k := by
  unfold State.agentAsks
  split
  · exact (State.pdExit_standing _ ch).trans (when_standing (fun t => State.setChan_standing t ch) s)
  · exact State.askIf_standing s ch a

theorem State.askAll_standing (s : State) (ch : Nat) : (s.askAll ch).standing k = s.standing k :=
  forAll_standing (fun a t => State.agentAsks_standing t ch a) _ s

theorem State.urgeClose_standing (s : State) (ch b : Nat) : (s.urgeClose ch b).standing k = s.standing k := by
  unfold State.urgeClose
  extract_lets busy
  split
  · exact State.setBank_standing s ch b
  · rfl

theorem State.refLimits_standing (s : State) (ch : Nat) : (s.refLimits ch).standing k = s.standing k := by
  unfold State.refLimits
  extract_lets t u
  have ht : t.standing k = s.standing k := forAll_standing (fun b v => State.urgeClose_standing v ch b) _ s
  rw [State.testPreempt_standing, ← ht]
  simp only [u]
  split
  · exact State.agentAsks_standing t ch .ref
  · rfl

theorem State.muteMarks_standing (s : State) (ch : Nat) : (s.muteMarks ch).standing k = s.standing k := by
  unfold State.muteMarks
  split
  · exact State.setChan_standing s ch
  · rfl

/-- A retraining drops the capture misses and keeps the captured bursts (R262, R348). -/
theorem State.retrain_captured (s : State) (ch : Nat) (full : Bool) (bits : List Nat) :
    ((s.retrain ch full bits).chan k).captured = (s.chan k).captured := by
  have hdrop (t : State) : ((t.setChan ch (fun c => { c with missed := [] })).chan k).captured = (t.chan k).captured := by
    by_cases hk : k = ch
    · subst hk
      rw [State.setChan_chan_self]
    · rw [State.setChan_chan_ne _ hk]
  unfold State.retrain
  extract_lets c t u
  split
  · rfl
  · refine (congrArg Standing.captured (State.agentAsks_standing _ ch .cal)).trans ((hdrop _).trans ?_)
    refine (congrArg Standing.captured (State.refreshAsks_standing _ ch)).trans ?_
    exact congrArg (fun x => (x.chan k).captured) (State.count_only (K := [.chans]) (by decide) u 0x7120)

/-! ### A fence leaves the banks -/

theorem State.banks_of_only (h : t.only [.chans] = s.only [.chans]) : (t.chan k).banks = (s.chan k).banks :=
  congrArg (fun x => (x.chan k).banks) h

theorem State.setChan_banks (s : State) (ch : Nat) {f : Chan → Chan} (hf : ∀ c, (f c).banks = c.banks := by intro c; rfl) :
    ((s.setChan ch f).chan k).banks = (s.chan k).banks := by
  by_cases hk : k = ch
  · subst hk
    rw [State.setChan_chan_self, hf]
  · rw [State.setChan_chan_ne f hk]

theorem when_banks {c : Bool} {f : State → State} (hf : ∀ t : State, ((f t).chan k).banks = (t.chan k).banks) (s : State) :
    ((when c f s).chan k).banks = (s.chan k).banks := by
  cases c
  · rfl
  · exact hf s

theorem forAll_banks {α : Type} {f : α → State → State} (hf : ∀ a (t : State), ((f a t).chan k).banks = (t.chan k).banks)
    (l : List α) (s : State) : ((forAll l f s).chan k).banks = (s.chan k).banks := by
  induction l generalizing s with
  | nil => rfl
  | cons a l ih => rw [forAll_cons, ih, hf]

theorem State.endReq_banks (s : State) (r : Req) : ((s.endReq r).chan k).banks = (s.chan k).banks := by
  unfold State.endReq
  have hfree (t u : State) (h : t.only [.chans] = u.only [.chans]) : (t.chan k).banks = (u.chan k).banks := State.banks_of_only h
  rw [hfree _ _ (State.progDone_only (by decide) _ _), hfree _ _ (State.cellsBack_only (by decide) _ _)]
  refine (forAll_banks (fun ch t => State.setChan_banks t ch) _ _).trans ?_
  rw [hfree _ _ (State.useBack_only (by decide) _ _), hfree _ _ (State.slotBack_only (by decide) _ _),
    hfree _ _ (State.leaveCtx_only (by decide) _ _), hfree _ _ (State.dropReq_only (by decide) _ _)]

theorem State.fail_banks (s : State) (r : Req) (code : ErrCode) (detail : Nat) :
    ((s.fail r code detail).chan k).banks = (s.chan k).banks := by
  unfold State.fail
  rw [State.banks_of_only (State.answer_only (by decide) _ _ _ _ _), State.banks_of_only (State.noteErr_only (by decide) _ _),
    State.endReq_banks]

theorem State.dropDraw_banks (s : State) (ch : Nat) : ((s.dropDraw ch).chan k).banks = (s.chan k).banks := State.setChan_banks _ ch

theorem State.cutChannel_banks (s : State) (ch : Nat) (p : Nat → Bool) : ((s.cutChannel ch p).chan k).banks = (s.chan k).banks := by
  unfold State.cutChannel
  extract_lets gone late t1 t2 t3 u v
  have h1 : (t1.chan k).banks = (s.chan k).banks :=
    (State.setChan_banks (s.setChan ch (fun c => c.cut p)) ch).trans (State.setChan_banks s ch)
  have h2 : (t2.chan k).banks = (t1.chan k).banks := when_banks (fun t => State.dropDraw_banks t ch) t1
  have h3 : (t3.chan k).banks = (t2.chan k).banks :=
    forAll_banks (fun u t => State.banks_of_only (State.lateData_only (by decide) t u ch)) _ t2
  have h4 : (u.chan k).banks = (t3.chan k).banks := forAll_banks (fun _ t => State.banks_of_only (State.freePool_only
      (by decide) t)) _ t3
  have h5 : (v.chan k).banks = (u.chan k).banks := forAll_banks (fun r t => (State.fail_banks _ r .fenced ch).trans
    (forAll_banks (fun ch t => State.setChan_banks t ch) _ t)) _ u
  exact (State.setChan_banks v ch).trans (h5.trans (h4.trans (h3.trans (h2.trans h1))))

theorem State.cutUnit_banks (s : State) (u : FUnit) (i : Nat) : ((s.cutUnit u i).chan k).banks = (s.chan k).banks := by
  have hall (l : List Nat) : ((forAll l (fun ch t => (t.cutChannel ch (fun _ => true)).quarReady ch) s).chan k).banks =
      (s.chan k).banks :=
    forAll_banks (fun ch t => (State.banks_of_only (State.quarReady_only (by decide) _ ch)).trans
        (State.cutChannel_banks t ch _)) l s
  unfold State.cutUnit
  split
  · rfl
  · rfl
  · exact State.cutChannel_banks s _ _
  · exact State.cutChannel_banks s _ _
  · exact hall _

theorem State.fenceUnit_banks (s : State) (u : FUnit) (i reason : Nat) (cause : Option (Nat × Nat)) :
    ((s.fenceUnit u i reason cause).chan k).banks = (s.chan k).banks := by
  unfold State.fenceUnit
  extract_lets first src t1 t2 shown t3 t4
  have h2 : (t2.chan k).banks = (s.chan k).banks := by
    cases cause with
    | none => rfl
    | some x => exact State.banks_of_only (State.keepCause_only (by decide) _ _)
  have h3 : (t3.chan k).banks = (t2.chan k).banks := State.banks_of_only (by
    rw [State.eventP_only (by decide), State.noteChannels_only (by decide)])
  have h4 : (t4.chan k).banks = (t3.chan k).banks := (when_banks (fun t => State.banks_of_only (State.stick_only
      (by decide) t _)) _).trans
    (State.banks_of_only (State.driveResets_only (by decide) _ _ _))
  have hall := h4.trans (h3.trans h2)
  clear_value first
  cases first with
  | true => exact (State.cutUnit_banks _ u i).trans ((State.banks_of_only (State.bumpGen_only (by decide) t4)).trans hall)
  | false => exact hall

end

end Sys2Proof.Machine
end

section
/-! PROOFS. Refresh credits, mitigation latches and sentinels (R233, R272 to R276, R282, R289, R292, R293; O39). -/

set_option Elab.async false

namespace Sys2Proof.Machine

section
variable {s : State} {ch b : Nat}

/-- What the commands of this family leave besides the channels' own fields: the array and the non-volatile memory. -/
abbrev diePieces : List Piece := [.chans, .mem, .nvm, .array]

theorem State.bank_eq (s : State) (ch i : Nat) : s.bank ch i = (s.chan ch).banks.get i := rfl

theorem State.setBank_bank_self (s : State) (ch b : Nat) (f : Bank → Bank) : (s.setBank ch b f).bank ch b = f (s.bank ch b) := by
  rw [State.bank_eq, State.setBank, State.setChan_chan_self]
  exact Tbl.get_upd_self ..

theorem State.setBank_bank_ne (s : State) (ch : Nat) (f : Bank → Bank) {b i : Nat} (hi : i ≠ b) :
    (s.setBank ch b f).bank ch i = s.bank ch i := by
  rw [State.bank_eq, State.setBank, State.setChan_chan_self]
  exact Tbl.get_upd_ne _ _ hi

/-- A command that changes one bank but neither its owed count nor its pointer leaves its own effect. -/
theorem exec_of_setBank {c : Instr} {f : Bank → Bank} (h : exec c s = act c.wellFormed s (s.setBank ch b f))
    (hwf : c.wellFormed = true)
    (hrun : s.running = true) (howed : ∀ x, (f x).owed = x.owed) (hptr : ∀ x, (f x).ptr = x.ptr) :
    exec c s = .next (s.setBank ch b f) := by
  have hbank (g : Bank → Int × Nat) (hg : ∀ x, g (f x) = g x) (i : Nat) :
      g ((s.setBank ch b f).bank ch i) = g (s.bank ch i) := by
    by_cases hi : i = b
    · rw [hi, State.setBank_bank_self, hg]
    · rw [State.setBank_bank_ne _ _ _ hi]
  have hsame := hbank (fun x => (x.owed, x.ptr)) (fun x => by rw [howed, hptr])
  refine exec_of_chan (ch := ch) h hwf hrun (State.setBank_only (by decide) ..) (fun _ => rfl) ⟨?_, ?_, fun i => ?_, fun i => ?_⟩
    (fun i hi => State.setChan_chan_ne _ hi)
  · rw [State.setBank, State.setChan_chan_self]
  · rw [State.setBank, State.setChan_chan_self]
  · exact congrArg Prod.snd (hsame i)
  · exact congrArg Prod.fst (hsame i)

theorem State.setBank_changesOnly (f : Bank → Bank) : s.changesOnly (s.setBank ch b f) [.chans] :=
  State.changesOnly_of_only (K := Piece.all.filter fun p => p.part != .chans) (State.setBank_only (by decide) ..) (by decide)

theorem State.bank_of_only {t : State} (h : t.only [.chans] = s.only [.chans]) (ch i : Nat) : t.bank ch i = s.bank ch i :=
  congrArg (fun x => x.bank ch i) h

/-! ### The timers of a bank and of a channel -/

theorem bank_close_due_at_idle (hrun : s.running = true) (hch : ch < 64) (hb : b < 64) (hxfer : (s.chan ch).xfer = none)
    (hidle : (s.bank ch b).idleRun = true) (hopen : (s.bank ch b).openRow.isSome = true) :
    exec (.bankIdleTimeout ch b) s = .next (s.setBank ch b (fun x => { x with idleRun := false, closeDue := true })) := by
  have hop : opBankIdleTimeout ch b s = s.setBank ch b (fun x => { x with idleRun := false, closeDue := true }) := by
    unfold opBankIdleTimeout
    rw [hidle, hopen, hxfer]
    rfl
  exact exec_of_setBank (c := .bankIdleTimeout ch b) (by rw [← hop]; rfl)
    (by simp [Instr.wellFormed, Instr.units, Instr.partsOk, hch, hb]) hrun (fun _ => rfl) (fun _ => rfl)

theorem hot_period_ends (hrun : s.running = true) (hch : ch < 64) (hb : b < 64) {t0 : Nat} (hhot : (s.bank ch b).hotUntil = some t0)
    (hpast : t0 ≤ s.now) :
    exec (.hotPeriodExpiry ch b) s = .next (s.setBank ch b (fun x => { x with hotUntil := none })) := by
  have hop : opHotPeriodExpiry ch b s = s.setBank ch b (fun x => { x with hotUntil := none }) := by
    unfold opHotPeriodExpiry
    rw [hhot]
    exact if_pos hpast
  exact exec_of_setBank (c := .hotPeriodExpiry ch b) (by rw [← hop]; rfl)
    (by simp [Instr.wellFormed, Instr.units, Instr.partsOk, hch, hb]) hrun (fun _ => rfl) (fun _ => rfl)

theorem exit_sweep_ends (hrun : s.running = true) (hch : ch < 64) (hsweep : (s.chan ch).sweep = some 0) :
    exec (.exitSweepEnd ch) s = .next (s.setChan ch (fun c => { c with sweep := none })) := by
  have hop : opExitSweepEnd ch s = s.setChan ch (fun c => { c with sweep := none }) := if_pos hsweep
  refine exec_of_chan (ch := ch) (c := .exitSweepEnd ch) (by rw [← hop]; rfl)
    (by simp [Instr.wellFormed, Instr.units, Instr.partsOk, hch]) hrun (State.setChan_only (by decide) ..) (fun _ => rfl) ?_
    (fun i hi => State.setChan_chan_ne _ hi)
  rw [State.setChan_chan_self]
  exact ⟨rfl, rfl, fun _ => rfl, fun _ => rfl⟩

/-! ### The slot timer -/

theorem State.takeBand_chan (s : State) (ch : Nat) : (s.takeBand ch).chan ch = { s.chan ch with band := (s.chan ch).bandNew } := by
  unfold State.takeBand
  extract_lets c t
  split
  · next h => exact congrArg (fun n => { s.chan ch with band := n }) h.symm
  · refine Eq.trans (b := t.chan ch) ?_ (State.setChan_chan_self ..)
    cases decide (c.band < c.bandNew) <;> rfl

theorem State.takeBand_refreshStopped (s : State) (ch b : Nat) : (s.takeBand ch).refreshStopped ch b = s.refreshStopped ch b :=
  congrArg (fun x => x.refreshStopped ch b) (State.takeBand_only (K :=
      Piece.all.filter fun p => p != .regs && p != .regul && p != .chans)
    (by decide) s ch)

/-- The channel behind a credit (R273, R274). -/
def Chan.credited (c : Chan) : Chan :=
  { c with
    slotNext := (c.slotNext + 1) % 64
    sweep := c.sweep.map (fun n => n - 1)
    kCount := c.kCount + 1
    banks := c.banks.upd c.slotNext (fun x => { x with owed := (c.banks.get c.slotNext).owed + 1 }) }

theorem State.credit_chan (hstop : s.refreshStopped ch (s.chan ch).slotNext = false) :
    (s.credit ch).chan ch = (s.chan ch).credited := by
  unfold State.credit
  extract_lets b t1 owed t2
  have h2 : t2.chan ch = (s.chan ch).credited := by
    simp only [t2, t1, State.setBank, State.setChan_setChan, State.setChan_chan_self]
    rfl
  rw [if_neg (by rw [hstop]; decide)]
  split
  · exact Eq.trans rfl h2
  · exact h2

theorem Chan.credited_owed_self (c : Chan) :
    (c.credited.banks.get c.slotNext).owed = (c.banks.get c.slotNext).owed + 1 := congrArg Bank.owed (Tbl.get_upd_self ..)

theorem Chan.credited_owed_ne (c : Chan) {i : Nat} (hi : i ≠ c.slotNext) :
    (c.credited.banks.get i).owed = (c.banks.get i).owed := congrArg Bank.owed (Tbl.get_upd_ne _ _ hi)

theorem slotTimer_wellFormed (hch : ch < 64) : (Instr.slotTimerExpiry ch).wellFormed = true := by
  simp [Instr.wellFormed, Instr.units, Instr.partsOk, hch]

theorem credit_at_slot (hrun : s.running = true) (hch : ch < 64) (hearly : s.creditsEarly ch = false) (hclock : s.clocked ch = true)
    (hstop : s.refreshStopped ch (s.chan ch).slotNext = false) :
    ∃ t, exec (.slotTimerExpiry ch) s = .next t ∧ t.standing ch = ({ s.chan ch with band :=
        (s.chan ch).bandNew } : Chan).credited.standing ∧
      t.array = s.array ∧ t.nvm = s.nvm := by
  have hop : opSlotTimerExpiry ch s = ((s.takeBand ch).credit ch).refLimits ch := by
    rw [opSlotTimerExpiry, hearly, hclock, if_neg (by decide), if_pos rfl]
  obtain ⟨t, hexec, hseen⟩ := exec_seen (c := .slotTimerExpiry ch) (u := opSlotTimerExpiry ch s) rfl
    (slotTimer_wellFormed hch) hrun diePieces
  have hchan : ((s.takeBand ch).credit ch).chan ch = ({ s.chan ch with band := (s.chan ch).bandNew } : Chan).credited := by
    rw [State.credit_chan, State.takeBand_chan]
    rw [State.takeBand_refreshStopped, State.takeBand_chan]
    exact hstop
  have hkept : (opSlotTimerExpiry ch s).only [.mem, .nvm, .array] = s.only [.mem, .nvm, .array] := by
    rw [hop, State.refLimits_only (by decide), State.credit_only (by decide), State.takeBand_only (by decide)]
  refine ⟨t, hexec, ?_, ?_, ?_⟩
  · rw [State.standing_of_only (State.only_mono (by decide) hseen), hop, State.refLimits_standing, State.standing, hchan]
  · exact (State.array_of_only (State.only_mono (by decide) hseen)).trans (State.array_of_only (State.only_mono (by decide) hkept))
  · exact (State.nvm_of_only (State.only_mono (by decide) hseen)).trans (State.nvm_of_only (State.only_mono (by decide) hkept))

/-! ### Latches that were read -/

/-- The rows that a MIT_READ of a SID has brought, each with its bank (R262). -/
def latchRows (sid : Nat) (lat : List (Option Nat)) : List (Nat × Nat) :=
  (List.range 16).filterMap (fun b => (lat.getD b none).map (fun r => (16 * sid + b, r)))

/-- A latch joins the backlog unless it is there (R262). -/
def Chan.joinLatch (c : Chan) (l : List Backlog) (p : Nat × Nat) : List Backlog :=
  if l.any (fun e => e.bank == p.1 && e.row == p.2) then l
  else l ++ [⟨p.1, p.2, (c.banks.get p.1).acts - (c.banks.get p.1).actsAt⟩]

theorem Chan.joinLatch_any (c : Chan) (l : List Backlog) (p q : Nat × Nat) :
    (c.joinLatch l p).any (fun e => e.bank == q.1 && e.row == q.2) = (l.any
        (fun e => e.bank == q.1 && e.row == q.2) || p == q) := by
  obtain ⟨b, r⟩ := p
  obtain ⟨b', r'⟩ := q
  unfold Chan.joinLatch
  split
  · next h =>
    by_cases hq : (b, r) = (b', r')
    · obtain ⟨rfl, rfl⟩ := Prod.mk.inj hq
      rw [h]; rfl
    · rw [beq_eq_false_iff_ne.2 hq, Bool.or_false]
  · rw [List.any_append, List.any_cons, List.any_nil, Bool.or_false]
    rfl

theorem Chan.foldl_joinLatch_any (c : Chan) (rows : List (Nat × Nat)) (l : List Backlog) (q : Nat × Nat)
    (h : l.any (fun e => e.bank == q.1 && e.row == q.2) = true ∨ q ∈ rows) :
    (rows.foldl c.joinLatch l).any (fun e => e.bank == q.1 && e.row == q.2) = true := by
  induction rows generalizing l with
  | nil => exact h.resolve_right List.not_mem_nil
  | cons p rows ih =>
    refine ih _ ?_
    rw [Chan.joinLatch_any]
    obtain h | h := h
    · exact .inl (by rw [h]; rfl)
    · obtain rfl | h := List.mem_cons.1 h
      · exact .inl (by rw [beq_self_eq_true, Bool.or_true])
      · exact .inr h

theorem mem_latchRows {sid i row : Nat} {lat : List (Option Nat)} (hi : i < 16) (hrow : lat.getD i none = some row) :
    (16 * sid + i, row) ∈ latchRows sid lat :=
  List.mem_filterMap.2 ⟨i, List.mem_range.2 hi, by rw [hrow]; rfl⟩

/-- A bank behind a MIT_READ of its SID, at its place in the SID (R262, R282). -/
def Bank.latched (now : Nat) (lat : List (Option Nat)) (i : Nat) (x : Bank) : Bank :=
  { x with
    acts := x.acts - x.actsAt, actsAt := 0, closedSince := x.closedAfter
    hotUntil := if (lat.getD i none).isSome then some (now + 64250) else x.hotUntil }

/-- The channel behind the result of a MIT_READ (R262, R282). -/
def Chan.latched (c : Chan) (now sid : Nat) (lat : List (Option Nat)) : Chan :=
  { c with
    backlog := (latchRows sid lat).foldl c.joinLatch c.backlog
    banks := (List.range 16).foldl (fun bs b => bs.upd (16 * sid + b) (Bank.latched now lat b)) c.banks
    mitAsk := c.mitAsk.filter (fun x => x != sid)
    latchRead := none }

theorem Chan.latched_bank (c : Chan) (now sid : Nat) (lat : List (Option Nat)) {i : Nat} (hi : i < 16) :
    (c.latched now sid lat).banks.get (16 * sid + i) = Bank.latched now lat i (c.banks.get (16 * sid + i)) := by
  have hmap : (c.latched now sid lat).banks = ((List.range 16).map (fun b => 16 * sid + b)).foldl
      (fun bs j => bs.upd j (Bank.latched now lat (j - 16 * sid))) c.banks := by
    rw [List.foldl_map]
    simp only [Nat.add_sub_cancel_left]
    rfl
  rw [hmap, Tbl.get_foldl_upd _ _ _ (List.nodup_range.map fun a b h => Nat.add_left_cancel h),
    if_pos (List.mem_map.2 ⟨i, List.mem_range.2 hi, rfl⟩), Nat.add_sub_cancel_left]

theorem Chan.standing_acts (c : Chan) (i : Nat) : (c.standing.bank i).acts = (c.banks.get i).acts := rfl

theorem Bank.latched_acts (now : Nat) (lat : List (Option Nat)) (i : Nat) (x : Bank) :
    (Bank.latched now lat i x).acts = x.acts - x.actsAt := rfl

theorem Chan.latched_acts (c : Chan) (now sid : Nat) (lat : List (Option Nat)) {i : Nat} (hi : i < 16) :
    ((c.latched now sid lat).standing.bank (16 * sid + i)).acts =
      (c.banks.get (16 * sid + i)).acts - (c.banks.get (16 * sid + i)).actsAt := by
  rw [Chan.standing_acts, Chan.latched_bank c now sid lat hi, Bank.latched_acts]

theorem State.acts_of_standing (t : State) (ch i : Nat) : (t.bank ch i).acts = ((t.standing ch).bank i).acts := rfl

theorem State.takeLatches_chan (s : State) (ch sid : Nat) (lat : List (Option Nat)) :
    (s.takeLatches ch sid lat).chan ch = (s.chan ch).latched s.now sid lat := by
  unfold State.takeLatches
  extract_lets rows forced t1 t2 t3 t4
  have h1 : t1.chan ch = (s.chan ch).latched s.now sid lat := State.setChan_chan_self ..
  have honly : (when (decide (128 ≤ (t4.chan ch).backlog.length)) (fun t => t.stick RF.MUT_BACKLOG_FULL) t4).only [.chans] =
      t1.only [.chans] := by
    simp [t4, t3, t2]
  exact (congrArg (fun x => x.chan ch) honly).trans h1

theorem latches_taken {sid : Nat} {rows : List (Option Nat)} {hot : Bool} (hrun : s.running = true) (hch : ch < 64) (hsid : sid < 4)
    (hread : (s.chan ch).latchRead = some ⟨sid, rows, hot⟩) :
    ∃ t, exec (.mitlatchRx ch sid) s = .next t ∧ t.standing ch = ((s.chan ch).latched s.now sid rows).standing ∧
      t.array = s.array ∧ t.nvm = s.nvm ∧ t.link = s.link := by
  have hop : opMitlatchRx ch sid s = ((s.takeLatches ch sid rows).muteMarks ch).serveWaiting ch := by
    unfold opMitlatchRx
    rw [hread]
    exact if_pos rfl
  obtain ⟨t, hexec, hseen⟩ := exec_seen (c := .mitlatchRx ch sid) (u := opMitlatchRx ch sid s) rfl
    (by simp [Instr.wellFormed, Instr.units, Instr.partsOk, hch, hsid]) hrun
    [.chans, .mem, .nvm, .array, .link, .courses, .lanes]
  have hkept : (opMitlatchRx ch sid s).only [.mem, .nvm, .array, .link, .courses, .lanes] =
      s.only [.mem, .nvm, .array, .link, .courses, .lanes] := by
    rw [hop, State.serveWaiting_only (by decide), State.muteMarks_only (by decide), State.takeLatches_only (by decide)]
  have hall := (State.only_mono (by decide) hseen).trans hkept
  refine ⟨t, hexec, ?_, State.array_of_only (State.only_mono (by decide) hall), State.nvm_of_only (State.only_mono
      (by decide) hall),
    State.link_of_only (State.only_mono (by decide) hall)⟩
  rw [State.standing_of_only (State.only_mono (by decide) hseen), hop, State.serveWaiting_standing, State.muteMarks_standing,
    State.standing, State.takeLatches_chan]

/-! ### Sentinels -/

theorem State.suspect_bank (s : State) (ch b i : Nat) : (s.suspect ch b).bank ch i =
    (s.setBank ch b (fun x => { x with suspect := true, scrubAt := some 0, scrubBad := 0 })).bank ch i := by
  unfold State.suspect
  extract_lets p t1 t2 t3
  have h3 : (t3.chan ch).banks = (t1.chan ch).banks := State.banks_of_only (by simp [t3, t2])
  refine congrArg (fun x : Tbl Bank => x.get i) (Eq.trans ?_ h3)
  split
  · exact State.fenceUnit_banks t3 ..
  · rfl

/-- A sentinel has been read: its store and what was read of it are consumed (R292). -/
def State.sentRead (s : State) (ch b : Nat) : State :=
  let t := ((s.setBank ch b (fun x => { x with mustCheck := false })).count 0xb0120).setChan ch (fun c => { c with
    sentGot := c.sentGot.filter (fun e => e.1 != b) })
  { t with pwr := { t.pwr with sentinels := t.pwr.sentinels.set (64 * ch + b) none } }

/-- The verdict of SENT_CHECK, before the agents are asked (R292, R293). -/
def State.sentJudged (s : State) (ch b : Nat) (parityOk good : Bool) : State :=
  when (!good) (fun t => t.suspect ch b) (when (!parityOk) (fun t => t.stick RF.REF_SENT_STORE_ERR) (s.sentRead ch b))

theorem State.sentRead_bank (s : State) (ch b : Nat) : (s.sentRead ch b).bank ch b = { s.bank ch b with mustCheck := false } := by
  rw [← State.setBank_bank_self s ch b (fun x => { x with mustCheck := false })]
  exact congrArg (fun x : Tbl Bank => x.get b) (State.setChan_banks ((s.setBank ch b _).count 0xb0120) ch)

theorem State.sentJudged_only (s : State) (ch b : Nat) (parityOk good : Bool) :
    (s.sentJudged ch b parityOk good).only [.mem, .nvm, .array] = s.only [.mem, .nvm, .array] := by
  have h : (s.sentRead ch b).only [.mem, .nvm, .array] = s.only [.mem, .nvm, .array] := rfl
  simp [State.sentJudged, h]

theorem State.sentJudged_sentinel (s : State) (ch b : Nat) (parityOk good : Bool) :
    (s.sentJudged ch b parityOk good).pwr.sentinels.get (64 * ch + b) = none := by
  have ho : quietOff 0xa0000 := .inr rfl
  have hstick := when_watch (f := fun t => t.stick RF.REF_SENT_STORE_ERR) (fun t => State.stick_watch ho (by decide) t) (!parityOk)
    (s.sentRead ch b)
  have h := (when_watch (f := fun t => t.suspect ch b) (fun t => State.suspect_watch ho t ch b) (!good) _).trans hstick
  refine (congrArg (fun w => w.2.2.get (64 * ch + b)) h).trans ?_
  exact Tbl.get_set_self ..

theorem State.sentJudged_bank (s : State) (ch b : Nat) (parityOk good : Bool) :
    ((s.sentJudged ch b parityOk good).bank ch b).mustCheck = false ∧
      ((s.sentJudged ch b parityOk good).bank ch b).suspect = ((s.bank ch b).suspect || !good) := by
  unfold State.sentJudged
  have h4 : (when (!parityOk) (fun t => t.stick RF.REF_SENT_STORE_ERR) (s.sentRead ch b)).bank ch b =
      { s.bank ch b with mustCheck := false } := (State.bank_of_only (by simp) ..).trans (s.sentRead_bank ch b)
  generalize when (!parityOk) (fun t => t.stick RF.REF_SENT_STORE_ERR) (s.sentRead ch b) = w at h4
  cases good with
  | true => exact ⟨(congrArg Bank.mustCheck h4).trans rfl, (congrArg Bank.suspect h4).trans (Bool.or_false _).symm⟩
  | false =>
    have hb := State.suspect_bank w ch b b
    rw [State.setBank_bank_self] at hb
    exact ⟨(congrArg Bank.mustCheck hb).trans (congrArg Bank.mustCheck h4), (congrArg Bank.suspect hb).trans (Bool.or_true _).symm⟩

theorem sentinel_judged {crc : Word} {ok : Bool} {burst : BitVec 576} {kept : Word × Bool} (hrun : s.running = true) (hch : ch < 64)
    (hb : b < 64) (hmust : (s.bank ch b).mustCheck = true) (hgot : (s.chan ch).sentGot.find? (fun e => e.1 == b) = some (b, burst))
    (hkept : s.pwr.sentinels.get (64 * ch + b) = some kept) {p g : Bool} (hp : (ok && oddOnes kept.1 == kept.2) = p)
    (hg : (p && kept.1 == (crc32c (burstBytes burst) ^^^ crc)) = g) :
    ∃ t, exec (.sentCheckResult ch b crc ok) s = .next t ∧ (t.bank ch b).mustCheck = false ∧
      t.pwr.sentinels.get (64 * ch + b) = none ∧
      (t.bank ch b).suspect = ((s.bank ch b).suspect || !g) ∧ t.nvm = s.nvm ∧ t.array = s.array := by
  have ho : quietOff 0xa0000 := .inr rfl
  let w := (s.sentJudged ch b p g).askAll ch
  let u := if (List.range 64).any (fun i => (w.chan ch).checkDue i || (w.bank ch i).scrubAt.isSome) then w.agentAsks ch .scrb else w
  have hop : opSentCheckResult ch b crc ok s = u := by
    unfold opSentCheckResult
    rw [hmust, hgot, hkept]
    subst hp hg
    rfl
  have hstand : u.standing ch = w.standing ch := by
    simp only [u]
    split
    · exact State.agentAsks_standing w ch .scrb
    · rfl
  have hw := State.askAll_standing (k := ch) (s.sentJudged ch b p g) ch
  have hwatch : u.watch 0xa0000 = w.watch 0xa0000 := by
    simp only [u]
    split
    · exact State.agentAsks_watch ho w ch .scrb
    · rfl
  have honly : u.only [.mem, .nvm, .array] = s.only [.mem, .nvm, .array] := by
    have hw : w.only [.mem, .nvm, .array] = s.only [.mem, .nvm, .array] := by
      simp only [w]
      rw [State.askAll_only (by decide), State.sentJudged_only]
    rw [← hw]
    simp only [u]
    split
    · exact State.agentAsks_only (by decide) w ch .scrb
    · rfl
  obtain ⟨t, hexec, hseen, htwatch⟩ := exec_watched (c := .sentCheckResult ch b crc ok) (u := u) (by rw [← hop]; rfl)
    (by simp [Instr.wellFormed, Instr.units, Instr.partsOk, hch, hb]) hrun diePieces
  have hbank : t.standing ch = (s.sentJudged ch b p g).standing ch :=
    (State.standing_of_only (State.only_mono (by decide) hseen)).trans (hstand.trans hw)
  obtain ⟨hmust', hsus⟩ := State.sentJudged_bank s ch b p g
  refine ⟨t, hexec, ?_, ?_, ?_, ?_, ?_⟩
  · exact (congrArg (fun x : Standing => (x.bank b).mustCheck) hbank).trans hmust'
  · refine (congrArg (fun w => w.2.2.get (64 * ch + b)) ((htwatch _ ho).trans (hwatch.trans (State.askAll_watch ho _ ch)))).trans ?_
    exact State.sentJudged_sentinel ..
  · exact (congrArg (fun x : Standing => (x.bank b).suspect) hbank).trans hsus
  · exact (State.nvm_of_only (State.only_mono (by decide) hseen)).trans (State.nvm_of_only (State.only_mono (by decide) honly))
  · exact (State.array_of_only (State.only_mono (by decide) hseen)).trans (State.array_of_only (State.only_mono (by decide) honly))

theorem suspect_bank_fenced {n : Nat} (hrun : s.running = true) (hch : ch < 64) (hb : b < 64) (hn : n < 524288)
    (hscrub : (s.bank ch b).scrubAt = some 32768) (hfence : s.rfch RF.REF_SENT_FENCE ch = 1) (hbad : 0 < n +
        (s.bank ch b).scrubBad) :
    ∃ t, exec (.suspectScrubEnd ch b n) s = .next t ∧ t.marked .bank (64 * ch + b) = true ∧ (t.bank ch b).scrubAt = none ∧
      t.nvm = s.nvm ∧ t.array = s.array := by
  let w := s.setBank ch b (fun x => { x with scrubAt := none })
  let u := w.fenceUnit .bank (64 * ch + b) rsnSentinel (some (0x40 + ch % 32, 0x0404))
  have hop : opSuspectScrubEnd ch b n s = u := by
    unfold opSuspectScrubEnd
    rw [if_pos hscrub]
    exact if_pos ⟨hfence, hbad⟩
  obtain ⟨t, hexec, hseen⟩ := exec_seen (c := .suspectScrubEnd ch b n) (u := u) (by rw [← hop]; rfl)
    (by simp [Instr.wellFormed, Instr.units, Instr.partsOk, hch, hb, hn]) hrun (.flt :: diePieces)
  have honly : u.only [.mem, .nvm, .array] = s.only [.mem, .nvm, .array] := by
    simp only [u, w]
    rw [State.fenceUnit_only (by decide), State.setBank_only (by decide)]
  have hbank : t.bank ch b = w.bank ch b := (State.bank_of_only (State.only_mono (by decide) hseen) ch b).trans
    (congrArg (fun x : Tbl Bank => x.get b) (State.fenceUnit_banks w ..))
  refine ⟨t, hexec, ?_, ?_, ?_, ?_⟩
  · rw [State.marked_eq, State.flt_marks_of_only (State.only_mono (by decide) hseen), ← State.marked_eq]
    exact State.fenceUnit_marked ..
  · rw [hbank]
    exact congrArg Bank.scrubAt (State.setBank_bank_self ..)
  · exact (State.nvm_of_only (State.only_mono (by decide) hseen)).trans (State.nvm_of_only (State.only_mono (by decide) honly))
  · exact (State.array_of_only (State.only_mono (by decide) hseen)).trans (State.array_of_only (State.only_mono (by decide) honly))

/-! ### REF_SUSCLR -/

theorem State.clearSuspects_bank (s : State) (ch i : Nat) : (s.clearSuspects ch).bank ch i = { s.bank ch i with suspect :=
    false } := by
  rw [State.bank_eq, State.clearSuspects, State.setChan_chan_self]
  exact Tbl.get_mapAll ..

/-- A register write whose effect leaves what is mirrored of each channel, and every other mirrored item, leaves its own effect. -/
theorem exec_of_chanWrite {c : Instr} {u : State} {a : Access} {off : Nat} {v : Word}
    (h : exec c s = act c.wellFormed s (u.ackWrite a off v none false)) (hwf : c.wellFormed = true) (hrun : s.running = true)
    (hu : u.only (keptPieces.filter fun p => p != .chans) = s.only (keptPieces.filter fun p => p != .chans))
    (hchan : ∀ i, (s.chan i).MirrorsAlike (u.chan i)) : exec c s = .next (u.ackWrite a off v none false) := by
  have hrpr : u.rpr = s.rpr := congrArg (fun x => x.rpr) hu
  have hepoch : u.regs.doneEpoch = s.regs.doneEpoch := congrArg (fun x => x.regs.doneEpoch) hu
  have hchans (i : Nat) : (u.ackWrite a off v none false).chan i = u.chan i :=
    congrArg (fun x => x.chan i) (u.ackNone_only (K := [.chans]) a off v false (by decide))
  have hack : (u.ackWrite a off v none false).only [.cal, .slots, .keyOps, .commits, .inputs, .pending] =
      s.only [.cal, .slots, .keyOps, .commits, .inputs, .pending] :=
    (u.ackNone_only a off v false (by decide)).trans (State.only_mono (by decide) hu)
  refine exec_of_alike h hwf hrun ⟨fun ch => ?_, fun ch => ?_, fun ch => ?_, fun ch b => ?_, ?_, ?_, ?_⟩
    (State.inputsAlike_of_only (State.only_mono (by decide) hack))
  · rw [State.ackNone_rmap, State.rmap, hrpr]; rfl
  · exact congrArg (fun x => (x.calCh ch).count) hack
  · rw [hchans, (hchan ch).backlog]
  · rw [hchans, (hchan ch).base]
  · exact congrArg (fun x => x.sec.own) hack
  · exact congrArg (fun x => x.trx.keyOps) hack
  · exact (u.ackNone_doneEpoch a off v false).trans hepoch

theorem susClr_field : ∀ n, n < 32 → fieldNat (BitVec.ofNat 32 n &&& fieldMask (fieldsOfWord .ref 0x01c)) 4 0 = n := by decide

theorem suspects_cleared {a : Access} (hcourse : a.course < 12) (hch : ch < 32) (hopen : s.writeOpen a 0xb001c
    (BitVec.ofNat 32 ch)) :
    ∃ t, exec (.refSusclr a ch) s = .next t ∧ (∀ i, t.bank ch i = { s.bank ch i with suspect := false }) ∧
      (∀ i, i ≠ ch → t.chan i = s.chan i) ∧ s.changesOnly t [.chans, .regs, .rpr] := by
  have hop : opRefSusclr a ch s = (s.clearSuspects ch).ackWrite a 0xb001c (BitVec.ofNat 32 ch) none false := by
    rw [opRefSusclr, State.writeReg_of_command (pg := .ref) (n := 0) (x := 0x01c) hopen (by decide) (by decide) (by decide)
        (by decide)
      (by decide)]
    refine congrArg (fun n => (s.clearSuspects n).ackWrite a 0xb001c (BitVec.ofNat 32 ch) none false) (susClr_field ch hch)
  have hne (i : Nat) (hi : i ≠ ch) : (s.clearSuspects ch).chan i = s.chan i := State.setChan_chan_ne _ hi
  have hself (i : Nat) : (s.chan i).MirrorsAlike ((s.clearSuspects ch).chan i) := by
    by_cases hi : i = ch
    · subst hi
      have hbank (k : Nat) := State.clearSuspects_bank s i k
      refine ⟨?_, ?_, fun k => (congrArg Bank.ptr (hbank k)).trans rfl, fun k => (congrArg Bank.owed (hbank k)).trans rfl⟩
      · rw [State.clearSuspects, State.setChan_chan_self]
      · rw [State.clearSuspects, State.setChan_chan_self]
    · rw [hne i hi]; exact .refl _
  have honly : (s.clearSuspects ch).only (Piece.all.filter fun p => p != .chans) = s.only (Piece.all.filter fun p => p != .chans) :=
    State.setChan_only (by decide) ..
  have hall := ((s.clearSuspects ch).ackNone_only (K := Piece.all.filter fun p => p != .chans && p.part != .regs && p.part != .rpr)
    a 0xb001c (BitVec.ofNat 32 ch) false (by decide))
  have hchan (i : Nat) : ((s.clearSuspects ch).ackWrite a 0xb001c (BitVec.ofNat 32 ch) none false).chan i =
      (s.clearSuspects ch).chan i :=
    congrArg (fun x => x.chan i) ((s.clearSuspects ch).ackNone_only (K := [.chans]) a 0xb001c (BitVec.ofNat 32 ch) false
        (by decide))
  refine ⟨_, exec_of_chanWrite (c := .refSusclr a ch) (by rw [← hop]; rfl)
    (by simp [Instr.wellFormed, Instr.units, Instr.partsOk, hch, hcourse]) hopen.1 (State.only_mono (by decide) honly) hself,
    fun i => ?_, fun i hi => (hchan i).trans (hne i hi), ?_⟩
  · rw [State.bank_eq, hchan]
    exact State.clearSuspects_bank s ch i
  · exact State.changesOnly_of_only (K := Piece.all.filter fun p => p.part != .chans && p.part != .regs && p.part != .rpr)
      ((State.only_mono (by decide) hall).trans (State.only_mono (by decide) honly)) (by decide)

end

/-- Settles O39, a clause each. -/
theorem refreshAndSentinels : Obligations.RefreshAndSentinels := by
  refine ⟨fun s ch b sid t0 rows hot hrun hch hb hsid => ⟨?_, ?_, ?_, ?_, ?_⟩,
    fun s ch b n crc ok burst kept a ha hb hn => ⟨?_, ?_, ?_⟩⟩
  · intro hearly hclock hnext hstop
    subst hnext
    obtain ⟨t, hexec, hstand, harray, hnvm⟩ := credit_at_slot hrun hch hearly hclock hstop
    have howed (i : Nat) := congrArg (fun x : Standing => (x.bank i).owed) hstand
    refine ⟨t, hexec, ?_, fun i hi => ?_, congrArg Standing.slotNext hstand, congrArg Standing.kCount hstand,
      congrArg Standing.band hstand, harray, hnvm⟩
    · exact (howed _).trans (Chan.credited_owed_self { s.chan ch with band := (s.chan ch).bandNew })
    · exact (howed i).trans (Chan.credited_owed_ne { s.chan ch with band := (s.chan ch).bandNew } hi)
  · intro hxfer hidle hopen
    exact ⟨_, bank_close_due_at_idle hrun hch hb hxfer hidle hopen, State.setBank_bank_self ..,
        fun i hi => State.setBank_bank_ne _ _ _ hi,
      State.setBank_changesOnly _⟩
  · intro hread
    obtain ⟨t, hexec, hstand, hkept⟩ := latches_taken hrun hch hsid hread
    refine ⟨t, hexec, congrArg Standing.latchRead hstand, fun i row hi hrow => ?_, fun i hi => ?_, hkept⟩
    · rw [show (t.chan ch).backlog = (latchRows sid rows).foldl (s.chan ch).joinLatch (s.chan ch).backlog from
        congrArg Standing.backlog hstand]
      exact Chan.foldl_joinLatch_any _ _ _ (16 * sid + i, row) (.inr (mem_latchRows hi hrow))
    · rw [State.acts_of_standing, hstand]
      exact Chan.latched_acts (s.chan ch) s.now sid rows hi
  · intro hhot hpast
    exact ⟨_, hot_period_ends hrun hch hb hhot hpast, State.setBank_bank_self .., fun i hi => State.setBank_bank_ne _ _ _ hi,
      State.setBank_changesOnly _⟩
  · intro hsweep
    exact ⟨_, exit_sweep_ends hrun hch hsweep, State.setChan_chan_self ..,
      State.changesOnly_of_only (K := Piece.all.filter fun p => p.part != .chans) (State.setChan_only (by decide) ..) (by decide)⟩
  · intro hrun hch hmust hgot hkept
    exact sentinel_judged hrun hch hb hmust hgot hkept rfl rfl
  · intro hrun hch hscrub hfence hbad
    exact suspect_bank_fenced hrun hch hb hn hscrub hfence hbad
  · intro hch hopen
    exact suspects_cleared ha hch hopen

end Sys2Proof.Machine
end

section
/-! PROOFS. What comes back from the core dies: lines, capture misses and STATUS (R264 to R266, R315; O38). -/

set_option Elab.async false

namespace Sys2Proof.Machine

section
variable {s : State} {ch : Nat}

/-! ### A captured line goes to its tag -/

section
variable {r : Req}

/-- The end of a read gives no answer of its own, and leaves the captured bursts. -/
theorem State.endReq_of_read (hw : isWrite (hOp r.hdr) = false) :
    (s.endReq r).link.upQ = s.link.upQ ∧ (s.endReq r).trx.respond = s.trx.respond ∧
      (s.endReq r).trx.reqs = (s.dropReq r.uid).trx.reqs ∧ ((s.endReq r).chan ch).captured = (s.chan ch).captured := by
  have hbefore := State.link_of_only (s := s) (t := ((((s.dropReq r.uid).leaveCtx r).slotBack r).useBack r).acctBack r) (by simp)
  have hdropped := State.trx_of_only (s := s.dropReq r.uid)
    (t := ((((s.dropReq r.uid).leaveCtx r).slotBack r).useBack r).acctBack r) (by simp)
  have hstand : (((((s.dropReq r.uid).leaveCtx r).slotBack r).useBack r).acctBack r).standing ch = s.standing ch :=
    (forAll_standing (fun k t => State.setChan_standing t k) _ _).trans (State.standing_of_only (by simp))
  have hcells (t : State) : (t.cellsBack r).link.upQ = t.link.upQ ∧ (t.cellsBack r).trx = t.trx ∧
      (t.cellsBack r).chans = t.chans := by
    unfold State.cellsBack
    rw [hw]
    split <;> exact ⟨rfl, rfl, rfl⟩
  rw [State.endReq]
  generalize ((((s.dropReq r.uid).leaveCtx r).slotBack r).useBack r).acctBack r = u at hbefore hdropped hstand ⊢
  obtain ⟨hup, htrx, hchans⟩ := hcells u
  refine ⟨?_, ?_, ?_, ?_⟩
  · exact hup.trans (congrArg LinkSt.upQ hbefore)
  · exact (congrArg TrxSt.respond htrx).trans ((congrArg TrxSt.respond hdropped).trans rfl)
  · exact (congrArg TrxSt.reqs htrx).trans (congrArg TrxSt.reqs hdropped)
  · exact (congrArg (fun x : Tbl Chan => (x.get ch).captured) hchans).trans (congrArg Standing.captured hstand)

/-- The last line of a read ends its request and answers its tag (R169). -/
theorem State.rdLine_of_last {idx status : Nat} {data : BitVec 512} (hleft : r.left = [idx]) (hdown : r.down = [])
    (hw : isWrite (hOp r.hdr) = false) (hone : s.trx.reqs = [r]) :
    (s.rdLine r idx status ch false 0 data).link.upQ = s.link.upQ ++
        [⟨rdataHdr (hTag r.hdr) status idx ch (s.chan ch).drained true false 0 :: lineCells data, .tag false (hTag r.hdr), none,
            false⟩] ∧
      (s.rdLine r idx status ch false 0 data).trx.respond = s.trx.respond ++ [(false, hTag r.hdr)] ∧
      (s.rdLine r idx status ch false 0 data).trx.reqs = [] ∧
      ((s.rdLine r idx status ch false 0 data).chan ch).captured = (s.chan ch).captured := by
  unfold State.rdLine
  extract_lets rest t last cells u
  have hrest : rest = [] := by simp [rest, hleft]
  have hlast : last = true := by simp [last, hrest, hdown]
  have ht : t.only [.chans, .link, .courses, .lanes, .reqs, .keyOps, .trx] = s.only [.chans, .link, .courses, .lanes, .reqs,
      .keyOps, .trx] := by
    simp only [t]
    split
    · exact State.lineDone_only (by decide) s _
    · rfl
  have hlink := State.link_of_only (s := s) (t := t) (State.only_mono (by decide) ht)
  have htrx := State.trx_of_only (s := s) (t := t) (State.only_mono (by decide) ht)
  have hchan : t.chan ch = s.chan ch := congrArg (fun x => x.chan ch) ht
  have hreqs : t.trx.reqs = [r] := by rw [htrx, hone]
  rw [if_pos hlast]
  obtain ⟨hup, hresp, hdrop, hcap⟩ := State.endReq_of_read (s := t) (r := { r with left := [] }) (ch := ch) hw
  have hcells : cells = rdataHdr (hTag r.hdr) status idx ch (s.chan ch).drained true false 0 :: lineCells data := by
    simp only [cells, hchan, hlast]
  clear_value t cells
  refine ⟨?_, ?_, ?_, ?_⟩
  · rw [← hcells, ← hlink, ← hup]
    rfl
  · rw [← htrx, ← hresp]
    rfl
  · refine hdrop.trans ?_
    simp [State.dropReq, hreqs]
  · rw [← hchan, ← hcap]
    rfl

end

theorem State.noteCorrection_captured (s : State) (ch k bit : Nat) : ((s.noteCorrection ch bit).chan k).captured =
    (s.chan k).captured := by
  unfold State.noteCorrection
  extract_lets n l steer maps t
  clear_value steer
  cases steer with
  | true => exact State.retrain_captured t ch false [bit]
  | false => rfl

theorem noteCorrections_captured (ch k : Nat) (l : List Nat) (s : State) :
    ((forAll l (fun b t => t.noteCorrection ch b) s).chan k).captured = (s.chan k).captured := by
  induction l generalizing s with
  | nil => rfl
  | cons b l ih => rw [forAll_cons, ih, State.noteCorrection_captured]

/-- What the corrections that a line's decoding notes leave besides the channels. -/
abbrev answerPieces : List Piece := [.mem, .nvm, .array, .link, .courses, .lanes, .reqs, .keyOps, .trx]

theorem noteCorrections_only (ch : Nat) (l : List Nat) (s : State) :
    (forAll l (fun b t => t.noteCorrection ch b) s).only answerPieces = s.only answerPieces :=
  State.only_forAll (fun b t => State.noteCorrection_only (by decide) t ch b) l s

theorem State.returnLine_of_clean {c : Captured} {r : Req} {d : BitVec 512} {bit : Option Nat} {err : BitVec 576}
    (hcap : (s.chan ch).captured = [c]) (hreq : s.req c.uid = some r) (hst : (s.slot (hPartner r.hdr) (hKey r.hdr)).st = .active)
    (heast : (s.slot (hPartner r.hdr) (hKey r.hdr)).eastOk = true) (hwest : (s.slot (hPartner r.hdr) (hKey r.hdr)).westOk = true)
    (hrmw : c.rmw = false) (hread : readLine c.line (c.laddr % 2 ^ 30) (hKey r.hdr) (s.slot (hPartner r.hdr) (hKey r.hdr)).keys
      (s.slot (hPartner r.hdr) (hKey r.hdr)).meta1 bit (c.err ^^^ err) s.freeVal = (stOk, d)) :
    s.returnLine ch bit err = ((s.setChan ch (fun x => { x with captured := [] })).useFree).rdLine r c.idx stOk ch false 0 d := by
  have hload (half : Nat) : (s.setChan ch (fun x => { x with captured := [] })).loadSlot (hPartner r.hdr) (hKey r.hdr) half =
      s.setChan ch (fun x => { x with captured := [] }) := by
    unfold State.loadSlot
    have hslot : (s.setChan ch (fun x => { x with captured := [] })).slot (hPartner r.hdr) (hKey r.hdr) =
      s.slot (hPartner r.hdr) (hKey r.hdr) := rfl
    dsimp only
    rw [hslot, heast, hwest, ite_self]
  have hreq' : (s.setChan ch (fun x => { x with captured := [] })).req c.uid = some r := hreq
  have hst' : ((s.setChan ch (fun x => { x with captured := [] })).slot (hPartner r.hdr) (hKey r.hdr)).st ≠ .fenced := by
    rw [show ((s.setChan ch (fun x => { x with captured := [] })).slot (hPartner r.hdr) (hKey r.hdr)).st = _ from hst]
    decide
  unfold State.returnLine
  rw [hcap]
  dsimp only
  rw [hreq']
  dsimp only
  rw [hload, if_neg hst', hrmw]
  have hread' : readLine c.line (c.laddr % 2 ^ 30) (hKey r.hdr)
      ((s.setChan ch (fun x => { x with captured := [] })).slot (hPartner r.hdr) (hKey r.hdr)).keys
      ((s.setChan ch (fun x => { x with captured := [] })).slot (hPartner r.hdr) (hKey r.hdr)).meta1 bit (c.err ^^^ err)
      (s.setChan ch (fun x => { x with captured := [] })).freeVal = (stOk, d) := hread
  rw [hread']
  rfl

theorem line_answers_its_tag {c : Captured} {r : Req} {d : BitVec 512} (hrun : s.running = true) (hch : ch < 64)
    (hcap : (s.chan ch).captured = [c]) (hrmw : c.rmw = false) (hone : s.trx.reqs = [r]) (huid : r.uid = c.uid)
    (hop : hOp r.hdr = 0x01) (hleft : r.left = [c.idx]) (hdown : r.down = [])
    (hread : readLine c.line (c.laddr % 2 ^ 30) (hKey r.hdr) (s.slot (hPartner r.hdr) (hKey r.hdr)).keys
      (s.slot (hPartner r.hdr) (hKey r.hdr)).meta1 none c.err s.freeVal = (stOk, d))
    (hst : (s.slot (hPartner r.hdr) (hKey r.hdr)).st = .active) (heast : (s.slot (hPartner r.hdr) (hKey r.hdr)).eastOk = true)
    (hwest : (s.slot (hPartner r.hdr) (hKey r.hdr)).westOk = true) (hmap : (s.rmap ch).column = []) :
    ∃ t, exec (.readDataReturn ch []) s = .next t ∧ (t.chan ch).captured = [] ∧ t.trx.reqs = [] ∧
      t.link.upQ = s.link.upQ ++ [⟨rdataHdr (hTag r.hdr) 0 c.idx ch (s.chan ch).drained true false 0 :: lineCells d,
        .tag false (hTag r.hdr), none, false⟩] ∧
      t.trx.respond = s.trx.respond ++ [(false, hTag r.hdr)] ∧ t.array = s.array ∧ t.nvm = s.nvm := by
  have hreq : s.req c.uid = some r := by simp [State.req, hone, huid]
  have hbit : s.erasedBit ch c.bank c.col = none := by rw [State.erasedBit, hmap]; rfl
  have hline : s.returnLine ch none (damageBits []) =
      ((s.setChan ch (fun x => { x with captured := [] })).useFree).rdLine r c.idx stOk ch false 0 d :=
    State.returnLine_of_clean hcap hreq hst heast hwest hrmw
      (by rwa [show c.err ^^^ damageBits [] = c.err from BitVec.xor_zero])
  have hnoted : ∃ l, opReadDataReturn ch [] 0 s = forAll l (fun b t => t.noteCorrection ch b) (s.returnLine ch none (damageBits
      [])) := by
    have hspoil : s.spoil (hPartner r.hdr) (hKey r.hdr) 0 = s := if_pos rfl
    refine ⟨s.correctedBits c none (c.err ^^^ damageBits []), ?_⟩
    unfold opReadDataReturn
    rw [hcap]
    dsimp only
    rw [hreq]
    dsimp only
    rw [hspoil, hbit]
  obtain ⟨l, hu⟩ := hnoted
  obtain ⟨t, hexec, hseen⟩ := exec_seen (c := .readDataReturn ch []) (u := opReadDataReturn ch [] 0 s) rfl
    (by simp [Instr.wellFormed, Instr.units, Instr.partsOk, hch]) hrun (.chans :: answerPieces)
  obtain ⟨hup, hresp, hreqs, hcaptured⟩ := State.rdLine_of_last
    (s := (s.setChan ch (fun x => { x with captured := [] })).useFree) (r := r) (ch := ch) (idx := c.idx) (status := stOk)
        (data := d)
    hleft hdown (by rw [hop]; rfl) hone
  have hkept : (s.returnLine ch none (damageBits [])).only [.mem, .nvm, .array] = s.only [.mem, .nvm, .array] :=
    State.returnLine_only (by decide) ..
  rw [hline] at hkept hu
  have hchan : ((s.setChan ch (fun x => { x with captured := [] })).useFree.chan ch) = { s.chan ch with captured := [] } :=
    State.setChan_chan_self ..
  rw [hchan] at hup hcaptured
  generalize ((s.setChan ch (fun x => { x with captured := [] })).useFree).rdLine r c.idx stOk ch false 0 d = w
    at hu hup hresp hreqs hcaptured hkept
  have hanswer : t.only answerPieces = w.only answerPieces := by
    rw [State.only_mono (by decide) hseen, hu, noteCorrections_only]
  have hlink := State.link_of_only (State.only_mono (by decide) hanswer)
  have htrx := State.trx_of_only (State.only_mono (by decide) hanswer)
  refine ⟨t, hexec, ?_, ?_, ?_, ?_, ?_, ?_⟩
  · have hchans : t.chan ch = (opReadDataReturn ch [] 0 s).chan ch := congrArg (fun x => x.chan ch) hseen
    rw [hchans, hu, noteCorrections_captured, hcaptured]
  · rw [htrx, hreqs]
  · rw [hlink, hup]
    rfl
  · rw [htrx, hresp]
    rfl
  · exact (State.array_of_only (State.only_mono (by decide) hanswer)).trans (State.array_of_only (State.only_mono
      (by decide) hkept))
  · exact (State.nvm_of_only (State.only_mono (by decide) hanswer)).trans (State.nvm_of_only (State.only_mono (by decide) hkept))

/-! ### A read preamble is absent -/

theorem State.sticky_of_watch {t u : State} {f : Field} (h : t.watch (f.addr 0 0) = u.watch
    (f.addr 0 0)) : t.sticky f 0 = u.sticky f 0 :=
  congrArg (fun v => fieldNat v f.hi f.lo) (congrArg (fun w : _ × Word × _ => w.2.1) h)

/-- A capture miss, noted: the transfer is abandoned, and CAL asks for the SID's STATUS (R265). -/
def State.missNoted (s : State) (ch sid : Nat) (h : Agent) (y : Xfer) : State :=
  ((((((s.count (0xa0100 + 8 * (ch % 32))).stick RF.TAB_CAPTURE_MISS).eventP (decide (32 ≤ ch)) (0x40 + ch % 32) 0x0405 1
    (payload [(0, 1, ch % 32), (1, 1, sid)])).abandon ch h y false).setChan ch (fun c => { c with missed := c.missed ++ [(sid,
        h)] })).setChan
      ch (fun c => c.setAgent .cal (fun a => { a with asks := true }))).decideGrant ch

theorem State.missNoted_watch {o : Nat} (ho : quietOff o) (sid : Nat) (h : Agent) (y : Xfer) : (s.missNoted ch sid h y).watch o =
    ((s.count (0xa0100 + 8 * (ch % 32))).stick RF.TAB_CAPTURE_MISS).watch o := by
  unfold State.missNoted
  rw [State.decideGrant_watch ho]
  refine Eq.trans rfl ((State.abandon_watch ho _ ch h y false).trans ?_)
  exact State.eventP_watch ho ..

theorem State.missNoted_missed (sid : Nat) (h : Agent) (y : Xfer) :
    ((s.missNoted ch sid h y).chan ch).missed = (s.chan ch).missed ++ [(sid, h)] := by
  unfold State.missNoted
  refine (congrArg Standing.missed ((State.decideGrant_standing _ ch).trans (State.setChan_standing _ ch))).trans ?_
  have hbefore := congrArg Standing.missed ((State.abandon_standing (k := ch) ((s.count (0xa0100 + 8 * (ch % 32))).stick
    RF.TAB_CAPTURE_MISS |>.eventP (decide (32 ≤ ch)) (0x40 + ch % 32) 0x0405 1 (payload [(0, 1, ch % 32), (1, 1,
        sid)])) ch h y false).trans
      (State.standing_of_only (s := s) (by simp)))
  rw [State.standing, State.setChan_chan_self]
  exact congrArg (fun l => l ++ [(sid, h)]) hbefore

theorem State.missNoted_only (sid : Nat) (h : Agent) (y : Xfer) :
    (s.missNoted ch sid h y).only answerPieces = s.only answerPieces := by
  unfold State.missNoted
  rw [State.decideGrant_only (by decide), State.setChan_only (by decide), State.setChan_only (by decide), State.abandon_only
      (by decide),
    State.eventP_only (by decide), State.stick_only (by decide), State.count_only (by decide)]

theorem capture_miss_noted {y : Xfer} {h : Agent} {f : Flight} {fs : List Flight} (hrun : s.running = true) (hch : ch < 64)
    (hxfer : (s.chan ch).xfer = some y) (hholder : (s.chan ch).holder = some h) (hflights : (s.chan ch).flights = f :: fs)
    (hwrite : f.write = false) (hafter : statusAfterMiss (s.chan ch) y = false) (hmarked : y.marked = false)
    (hsnap : s.regs.snapBusy = false) :
    ∃ t, exec (.captureMiss ch) s = .next t ∧ (t.chan ch).missed = (s.chan ch).missed ++ [(s.readSid ch y, h)] ∧
      t.sticky RF.TAB_CAPTURE_MISS 0 = 1 ∧
      t.counter (0xa0100 + 8 * (ch % 32)) = s.counter (0xa0100 + 8 * (ch % 32)) + 1#64 ∧ t.array = s.array ∧ t.nvm = s.nvm ∧
      t.link = s.link := by
  have hop : opCaptureMiss ch s = s.missNoted ch (s.readSid ch y) h y := by
    unfold opCaptureMiss
    rw [hxfer, hholder, hflights]
    dsimp only
    rw [hwrite, if_neg (by decide), hafter, if_neg (by decide), hmarked, if_neg (by decide)]
    rfl
  obtain ⟨t, hexec, hseen, hwatch⟩ := exec_watched (c := .captureMiss ch) (u := s.missNoted ch (s.readSid ch y) h y)
    (by rw [← hop]; rfl) (by simp [Instr.wellFormed, Instr.units, Instr.partsOk, hch]) hrun (.chans :: answerPieces)
  have hcounter : quietOff (0xa0100 + 8 * (ch % 32)) := .inr (by omega)
  have hsticky : quietOff (RF.TAB_CAPTURE_MISS.addr 0 0) := .inr (by decide)
  have hkept := (State.only_mono (by decide) hseen).trans (State.missNoted_only (s := s) (ch := ch) (s.readSid ch y) h y)
  refine ⟨t, hexec, ?_, ?_, ?_, ?_, ?_, ?_⟩
  · exact (congrArg (fun x => (x.chan ch).missed) hseen).trans (State.missNoted_missed ..)
  · rw [State.sticky_of_watch ((hwatch _ hsticky).trans (State.missNoted_watch hsticky ..))]
    exact State.sticky_of_raised rfl (State.stick_raised _ (by decide))
  · refine (congrArg Prod.fst ((hwatch _ hcounter).trans (State.missNoted_watch hcounter ..))).trans ?_
    exact State.count_counter_self hsnap _
  · exact State.array_of_only (State.only_mono (by decide) hkept)
  · exact State.nvm_of_only (State.only_mono (by decide) hkept)
  · exact State.link_of_only (State.only_mono (by decide) hkept)

/-! ### STATUS -/

/-- The machine with a STATUS that has come, before what it asks for (R263, R266). -/
def State.statusRead (s : State) (ch sid : Nat) (st : BitVec 3) : State :=
  ((s.setChan ch (fun c => { c with
    statusGot := c.statusGot.filter (fun e => e.1 != sid), statusDue := c.statusDue.filter (fun n => n != sid) })).setSid ch sid
      (fun x => { x with
        capErr := x.capErr || bitAt st 0, hold := x.hold || bitAt st 1, sensor := x.sensor || bitAt st 2 })).statusSensor ch sid

theorem State.statusRead_chan (sid : Nat) (st : BitVec 3) : (s.statusRead ch sid st).chan ch =
    { s.chan ch with
      statusGot := (s.chan ch).statusGot.filter (fun e => e.1 != sid)
      statusDue := (s.chan ch).statusDue.filter (fun n => n != sid)
      sids := (s.chan ch).sids.upd sid (fun x => { x with
        capErr := x.capErr || bitAt st 0, hold := x.hold || bitAt st 1, sensor := x.sensor || bitAt st 2 }) } := by
  have h (t : State) : (t.statusSensor ch sid).chan ch = t.chan ch :=
    congrArg (fun x => x.chan ch) (State.statusSensor_only (K := [.chans]) (by decide) t ch sid)
  rw [State.statusRead, h, State.setSid, State.setChan_setChan, State.setChan_chan_self]

theorem State.statusRead_only {K : List Piece} (hK : .chans ∉ K ∧ .regs ∉ K ∧ .pins ∉ K ∧ .evt ∉ K ∧ .pinFlt ∉ K ∧ .sensors ∉ K ∧
    .doms ∉ K ∧ .pwr ∉ K) (sid : Nat) (st : BitVec 3) : (s.statusRead ch sid st).only K = s.only K := by
  simp [State.statusRead, hK]

theorem clean_status_read {sid n : Nat} {st : BitVec 3} (hrun : s.running = true) (hch : ch < 64) (hsid : sid < 4)
    (hgot : (s.chan ch).statusGot.find? (fun e => e.1 == sid) = some (sid, n))
    (hmissed : (s.chan ch).missed.any (fun e => e.1 == sid) = false) (hhold : bitAt (BitVec.ofNat 3 n ||| st) 1 = false) :
    ∃ t, exec (.statusResult ch sid st) s = .next t ∧ t.chan ch = (s.statusRead ch sid st).chan ch ∧
      t.only answerPieces = s.only answerPieces := by
  have hop : opStatusResult ch sid st s = s.statusRead ch sid st := by
    unfold opStatusResult
    dsimp only
    rw [hgot, hmissed]
    dsimp only
    rw [hhold, Bool.false_and, Bool.or_false, if_neg (by decide), if_neg (by decide)]
    rfl
  obtain ⟨t, hexec, hseen⟩ := exec_seen (c := .statusResult ch sid st) (u := opStatusResult ch sid st s) rfl
    (by simp [Instr.wellFormed, Instr.units, Instr.partsOk, hch, hsid]) hrun (.chans :: answerPieces)
  rw [hop] at hseen
  exact ⟨t, hexec, congrArg (fun x => x.chan ch) hseen,
    (State.only_mono (by decide) hseen).trans (State.statusRead_only (by decide) sid st)⟩

/-- The SID whose STATUS shows HOLD (R266). -/
def State.holdShown (s : State) (ch sid : Nat) (st : BitVec 3) : State :=
  ((s.statusRead ch sid st).setChan ch (fun c => { c with missed := c.missed.filter (fun e => e.1 != sid) })).stick RF.TAB_SID_HOLD

/-- A SID in hold is fenced unless it is (R266). -/
def State.sidFenced (s : State) (i : Nat) (cause : Option (Nat × Nat)) : State :=
  if s.marked .sid i then s else s.fenceUnit .sid i rsnSidHold cause

theorem State.sidFenced_marked {o : Nat} (ho : quietOff o) (s : State) (i : Nat) (cause : Option (Nat × Nat)) :
    (s.sidFenced i cause).marked .sid i = true ∧ (s.sidFenced i cause).watch o = s.watch o ∧
      (s.sidFenced i cause).only [.mem, .nvm] = s.only [.mem, .nvm] := by
  unfold State.sidFenced
  split
  · next h => exact ⟨h, rfl, rfl⟩
  · exact ⟨State.fenceUnit_marked .., State.fenceUnit_watch ho .., State.fenceUnit_only (by decide) ..⟩

theorem held_sid_fenced {sid n : Nat} {st : BitVec 3} (hrun : s.running = true) (hch : ch < 64) (hsid : sid < 4)
    (hgot : (s.chan ch).statusGot.find? (fun e => e.1 == sid) = some (sid, n)) (hhold : bitAt (BitVec.ofNat 3 n ||| st) 1 = true) :
    ∃ t, exec (.statusResult ch sid st) s = .next t ∧ t.marked .sid (4 * ch + sid) = true ∧ t.sticky RF.TAB_SID_HOLD 0 = 1 ∧
      t.nvm = s.nvm := by
  have ho : quietOff (RF.TAB_SID_HOLD.addr 0 0) := .inr (by decide)
  have hop : ∃ cause, opStatusResult ch sid st s = (s.holdShown ch sid st).sidFenced (4 * ch + sid) cause := by
    refine ⟨if (s.chan ch).missed.any (fun e => e.1 == sid) then some (0x40 + ch % 32, 0x0405) else none, ?_⟩
    unfold opStatusResult
    dsimp only
    rw [hgot]
    dsimp only
    rw [hhold, Bool.true_or, if_pos rfl]
    rfl
  obtain ⟨cause, hop⟩ := hop
  obtain ⟨hmarked, hwatch, honly⟩ := (s.holdShown ch sid st).sidFenced_marked ho (4 * ch + sid) cause
  obtain ⟨t, hexec, hseen, htwatch⟩ := exec_watched (c := .statusResult ch sid st)
    (u := (s.holdShown ch sid st).sidFenced (4 * ch + sid) cause) (by rw [← hop]; rfl)
    (by simp [Instr.wellFormed, Instr.units, Instr.partsOk, hch, hsid]) hrun [.flt, .mem, .nvm]
  refine ⟨t, hexec, ?_, ?_, ?_⟩
  · rw [State.marked_eq, State.flt_marks_of_only (State.only_mono (by decide) hseen), ← State.marked_eq, hmarked]
  · rw [State.sticky_of_watch ((htwatch _ ho).trans hwatch)]
    exact State.sticky_of_raised rfl (State.stick_raised _ (by decide))
  · refine (State.nvm_of_only (State.only_mono (by decide) hseen)).trans ((State.nvm_of_only honly).trans (State.nvm_of_only ?_))
    rw [State.holdShown, State.stick_only (by decide), State.setChan_only (by decide), State.statusRead_only (by decide)]

/-! ### The poll -/

/-- A channel whose SIDs the poll asks for their STATUS (R266, R392). -/
def State.polled (s : State) (i : Nat) : Bool :=
  decide (s.now % s.rfch RF.TAB_STAT_POLL i = 0 ∧ (s.pwr.cgs.get (groupOf i)).st = .active ∧ s.domOn (chDomain i) = true ∧
    (i < 32 ∨ (s.chan i).rest = .awake) ∧ (!s.resetDriven i) = true)

/-- The poll reaches the own channels, and of the partner's those that this machine runs (R392). -/
theorem State.polled_iff {i : Nat} (hi : i < 64) : (i < (if s.shared then 64 else 32) ∧ s.polled i = true) ↔
    (i < 32 ∨ s.shared = true ∧ (s.chan i).rest = .awake) ∧ s.now % s.rfch RF.TAB_STAT_POLL i = 0 ∧
      (s.pwr.cgs.get (groupOf i)).st = .active ∧ s.domOn (chDomain i) = true ∧ s.resetDriven i = false := by
  rw [State.polled, decide_eq_true_eq, Bool.not_eq_true']
  cases s.shared with
  | true =>
    rw [if_pos rfl]
    tauto
  | false =>
    rw [if_neg (by decide)]
    tauto

theorem State.poll_chan (s : State) (l : List Nat) (hl : l.Nodup) (t : State) (i : Nat) :
    (forAll l (fun ch t => if s.polled ch = true then t.setChan ch (fun c => { c with statusDue := [0, 1, 2,
        3] }) else t) t).chan i =
      if i ∈ l ∧ s.polled i = true then { t.chan i with statusDue := [0, 1, 2, 3] } else t.chan i := by
  induction l generalizing t with
  | nil => simp
  | cons a l ih =>
    obtain ⟨ha, hl⟩ := List.nodup_cons.1 hl
    rw [forAll_cons, ih hl]
    by_cases hi : i = a
    · subst hi
      by_cases hp : s.polled i = true
      · simp [ha, hp, State.setChan_chan_self]
      · simp [hp]
    · by_cases hp : s.polled a = true
      · simp [hp, hi, State.setChan_chan_ne _ hi]
      · simp [hp, hi]

theorem opStatPoll_eq (s : State) : opStatPoll s = forAll (List.range (if s.shared then 64 else 32))
    (fun ch t => if s.polled ch = true then t.setChan ch (fun c => { c with statusDue := [0, 1, 2, 3] }) else t) s := by
  simp only [State.polled, decide_eq_true_eq]
  rfl

theorem statuses_polled (hrun : s.running = true) : exec .statPoll s = .next (opStatPoll s) ∧ s.changesOnly (opStatPoll s)
    [.chans] ∧
    ∀ i, (opStatPoll s).chan i = if i < (if s.shared then 64 else 32) ∧ s.polled i = true then
      { s.chan i with statusDue := [0, 1, 2, 3] } else s.chan i := by
  have hchan (i : Nat) := State.poll_chan s (List.range (if s.shared then 64 else 32)) List.nodup_range s i
  simp only [← opStatPoll_eq, List.mem_range] at hchan
  have honly : (opStatPoll s).only (Piece.all.filter fun p => p.part != .chans) = s.only
      (Piece.all.filter fun p => p.part != .chans) := by
    rw [opStatPoll_eq]
    refine State.only_forAll (fun ch t => ?_) _ _
    split
    · exact State.setChan_only (by decide) ..
    · rfl
  have halike (i : Nat) : (s.chan i).MirrorsAlike ((opStatPoll s).chan i) := by
    rw [hchan]
    by_cases hi : i < (if s.shared then 64 else 32) ∧ s.polled i = true
    · rw [if_pos hi]
      exact ⟨rfl, rfl, fun _ => rfl, fun _ => rfl⟩
    · rw [if_neg hi]
      exact .refl _
  refine ⟨exec_of_alike rfl rfl hrun ⟨fun i => ?_, fun i => ?_, fun i => (halike i).backlog, fun i b => (halike i).base b, ?_,
      ?_, ?_⟩
    (State.inputsAlike_of_only (State.only_mono (by decide) honly)), State.changesOnly_of_only honly (by decide), hchan⟩
  · exact congrArg (fun x => (x.rmap i).seq) honly
  · exact congrArg (fun x => (x.calCh i).count) honly
  · exact congrArg (fun x => x.sec.own) honly
  · exact congrArg (fun x => x.trx.keyOps) honly
  · exact congrArg (fun x => x.regs.doneEpoch) honly

end

/-- Settles O38, a clause each. -/
theorem coreDiesAnswer : Obligations.CoreDiesAnswer := by
  refine ⟨fun s ch sid c r d y h f fs st n hrun hch hsid => ⟨?_, ?_, fun hgot => ⟨?_, ?_⟩, ?_⟩,
    fun c hadm => ⟨DieCmd.captured_of_admitted hadm, fun i hi => DieCmd.captured_of_flip (DieCmd.captured_of_admitted hadm) hi⟩⟩
  · intro hcap hrmw hone huid hop hleft hdown hread hst heast hwest hmap
    exact line_answers_its_tag hrun hch hcap hrmw hone huid hop hleft hdown hread hst heast hwest hmap
  · intro hxfer hholder hflights hwrite hafter hmarked hsnap
    exact capture_miss_noted hrun hch hxfer hholder hflights hwrite hafter hmarked hsnap
  · intro hmissed hhold
    obtain ⟨t, hexec, hchan, honly⟩ := clean_status_read hrun hch hsid hgot hmissed hhold
    rw [State.statusRead_chan] at hchan
    refine ⟨t, hexec, ?_, ?_, ?_, State.array_of_only (State.only_mono (by decide) honly),
      State.nvm_of_only (State.only_mono (by decide) honly), State.link_of_only (State.only_mono (by decide) honly),
      State.trx_of_only (State.only_mono (by decide) honly)⟩
    · rw [hchan]
      exact Tbl.get_upd_self ..
    · rw [hchan]
    · rw [hchan]
  · intro hhold
    exact held_sid_fenced hrun hch hsid hgot hhold
  · obtain ⟨hexec, honly, hchan⟩ := statuses_polled hrun
    refine ⟨_, hexec, honly, fun i hi => ?_⟩
    split
    · next h => exact (hchan i).trans (if_pos ((State.polled_iff hi).2 h))
    · next h => exact (hchan i).trans (if_neg (mt (State.polled_iff hi).1 h))

end Sys2Proof.Machine
end

section
/-! PROOFS. Commits: their capture and their check (R78, R79, R81; O30). -/

set_option Elab.async false

namespace Sys2Proof.Machine

section
variable {s : State}

/-! ### A commit that completes as rejected has nothing to mirror -/

theorem State.mirrorFrom_of_rejected {t : State} (hframe : s.changesOnly t [.regs])
    (hres : (t.regs.results.get (t.regs.doneEpoch % 4)).result = 3) : s.mirrorFrom t = t := by
  have hseq (ch : Nat) : (t.rmap ch).seq = (s.rmap ch).seq := by rw [State.rmap, hframe.rpr_eq (by decide)]; rfl
  have hcount (ch : Nat) : (t.calCh ch).count = (s.calCh ch).count := by rw [State.calCh, hframe.cal_eq (by decide)]; rfl
  have hchan (ch : Nat) : t.chan ch = s.chan ch := by rw [State.chan, hframe.chans_eq (by decide)]; rfl
  have hslots : slotsChanged s t = [] := by
    simp only [slotsChanged, List.filter_eq_nil_iff]
    intro k _
    simp [State.slot, State.eraseOpen, hframe.sec_eq (by decide), hframe.trx_eq (by decide)]
  unfold State.mirrorFrom
  split
  · rw [forAll_of_fixed (s := t)]
    · rw [hslots]
      simp only [forAll_nil, hres, show ¬ ((3 : Nat) = 1 ∨ 3 = 2) by decide, and_false, if_false]
      cases t.sec.pairKey.isSome <;> simp only [when] <;> split <;> rfl
    · intro ch _
      have hall : (List.range 64).all (fun _ => true) = true := List.all_eq_true.2 fun _ _ => rfl
      simp [hseq, hcount, hchan, backlogLess_self, when, hall]
  · rfl

/-- A commit that completes as rejected leaves its own effect (R79, R381). -/
theorem exec_of_rejected {c : Instr} {t : State} (h : exec c s = act c.wellFormed s t) (hwf : c.wellFormed = true)
    (hrun : s.running = true) (hframe : s.changesOnly t [.regs]) (hres : (t.regs.results.get (t.regs.doneEpoch % 4)).result = 3) :
    exec c s = .next t := by
  rw [exec_of_act h hwf hrun, State.mirrorFrom_of_rejected hframe hres, (hframe.inputsAlike (by decide)).withInputs_eq]

/-! ### The check -/

section
variable {c : Commit} {rest : List Commit}

theorem full_commit_turned_away (hrun : s.running = true) (hfirst : s.regs.commits = c :: rest) (hunchecked : c.checked = false)
    (hfull : c.full = true) : exec .commitCheck s = .next (s.finishCommit c c.mask rjFull 3) := by
  have hop : opCommitCheck s = s.finishCommit c c.mask rjFull 3 := by
    rw [opCommitCheck, State.checkNext, hfirst]
    dsimp only
    rw [hunchecked, if_neg (by decide), hfull, if_pos rfl]
  refine exec_of_rejected (c := .commitCheck) (by rw [← hop]; rfl) rfl hrun ?_ ?_
  · exact State.changesOnly_of_only (K := Piece.all.filter fun p => p.part != .regs) (State.finishCommit_only (by decide) ..)
      (by decide)
  · exact congrArg CommitResult.result (Tbl.get_set_self ..)

theorem State.rejected_changesOnly (reject reason : Nat) :
    s.changesOnly ((s.noteAdmission c).finishCommit c reject reason 3) [.regs] :=
  State.changesOnly_of_only (K := Piece.all.filter fun p => p.part != .regs)
    (by rw [State.finishCommit_only (by decide), State.noteAdmission_only (by decide)]) (by decide)

theorem failed_commit_rejected (hrun : s.running = true) (hfirst : s.regs.commits = c :: rest) (hunchecked : c.checked = false)
    (hfull : c.full = false) (hbad : (s.checkCommit c).1 ≠ 0) :
    exec .commitCheck s = .next ((s.noteAdmission c).finishCommit c (s.checkCommit c).1 (s.checkCommit c).2.1 3) := by
  have hop : opCommitCheck s = (s.noteAdmission c).finishCommit c (s.checkCommit c).1 (s.checkCommit c).2.1 3 := by
    rw [opCommitCheck, State.checkNext, hfirst]
    dsimp only
    rw [hunchecked, if_neg (by decide), hfull, if_neg (by decide)]
    split
    · next heq => exact absurd (congrArg Prod.fst heq) hbad
    · next heq => rw [heq]
  refine exec_of_rejected (c := .commitCheck) (by rw [← hop]; rfl) rfl hrun
    (State.rejected_changesOnly _ _) ?_
  exact congrArg CommitResult.result (Tbl.get_set_self ..)

/-- The commit past its check, where it does not name G3 (R79). -/
def State.passed (s : State) (c x : Commit) : Commit :=
  { x with
    checked := true, adjusted := (s.checkCommit c).2.2, waiting := maskGroups c.mask
    chG2 := if c.mask.testBit 2 then List.range 32 else []
    chG4 := if c.mask.testBit 4 then List.range 32 else []
    deadline := none
    checkedAt := s.now
    slotAt := (List.range 32).map (fun ch => (s.chan ch).kCount)
    mins := c.ctxs.map (fun k => (k, s.scaledMin c k))
    holds := false
    uidAt := s.trx.nextUid }

theorem good_commit_waits (hrun : s.running = true) (hfirst : s.regs.commits = c :: rest) (hunchecked : c.checked = false)
    (hfull : c.full = false) (hgood : (s.checkCommit c).1 = 0) (hmap : c.mask.testBit 3 = false) :
    exec .commitCheck s = .next (s.setCommit c.epoch (s.passed c)) := by
  have hop : opCommitCheck s = s.setCommit c.epoch (s.passed c) := by
    rw [opCommitCheck, State.checkNext, hfirst]
    dsimp only
    rw [hunchecked, if_neg (by decide), hfull, if_neg (by decide)]
    obtain ⟨reason, adjusted, hcheck⟩ : ∃ reason adjusted, s.checkCommit c = (0, reason, adjusted) := ⟨_, _, Prod.ext hgood rfl⟩
    rw [hcheck, hmap, show adjusted = (s.checkCommit c).2.2 by rw [hcheck]]
    rfl
  exact exec_of_frame (c := .commitCheck) (l := [.regs]) (by rw [← hop]; rfl) rfl hrun
    (State.changesOnly_of_only (K := Piece.all.filter fun p => p.part != .regs) (State.setCommit_only (by decide) ..)
        (by decide)) rfl

theorem find?_keyed {β : Type} (g : Nat → β) {k : Nat} {l : List Nat} (hk : k ∈ l) :
    (l.map (fun j => (j, g j))).find? (fun m => m.1 == k) = some (k, g k) := by
  induction l with
  | nil => exact absurd hk List.not_mem_nil
  | cons j l ih =>
    rw [List.map_cons, List.find?_cons]
    by_cases hj : j = k
    · rw [hj, beq_self_eq_true]
    · rw [beq_eq_false_iff_ne.2 hj]
      exact ih ((List.mem_cons.1 hk).resolve_left (Ne.symm hj))

/-- The minimum of a context past the check is the one that the check scaled (R209, R210). -/
theorem State.passed_min0 {k : Nat} (hk : k ∈ c.ctxs) (x : Commit) : (s.passed c x).min0 k = s.scaledMin c k := by
  have hmins : (s.passed c x).mins = c.ctxs.map (fun k => (k, s.scaledMin c k)) := rfl
  rw [Commit.min0, hmins, find?_keyed _ hk]
  rfl

end

/-! ### SYS_COMMIT -/

theorem sysCommit_register : regKind 0x10 = .reg .sys 0 0x10 false ∧ pageDomain 0x10 < 8 ∧ fieldsOfWord .sys 0x10 ≠ [] ∧
    commandFields (fieldsOfWord .sys 0x10) = true := by decide

theorem sysCommit_mask : fieldMask (fieldsOfWord .sys 0x10) = 0xffff#32 := by decide

/-- The groups that a write of SYS_COMMIT names. -/
theorem sysCommit_groups (groups : BitVec 16) :
    fieldNat (groups.setWidth 32 &&& fieldMask (fieldsOfWord .sys 0x10)) 15 0 = groups.toNat := by
  rw [sysCommit_mask]
  have h : groups.setWidth 32 &&& 0xffff#32 = groups.setWidth 32 := by
    have hones : 0xffff#32 = (BitVec.allOnes 16).setWidth 32 := by decide
    rw [hones, ← BitVec.setWidth_and, BitVec.and_allOnes]
  have hlt := groups.isLt
  rw [h, fieldNat, BitVec.toNat_setWidth]
  omega

/-- A register write whose effect stays within the registers, the last epoch kept, leaves its own effect. -/
theorem exec_of_regWrite {c : Instr} {u : State} {a : Access} {off : Nat} {v : Word}
    (h : exec c s = act c.wellFormed s (u.ackWrite a off v none false)) (hwf : c.wellFormed = true) (hrun : s.running = true)
    (hu : u.only (Piece.all.filter fun p => p.part != .regs) = s.only (Piece.all.filter fun p => p.part != .regs))
    (hepoch : u.regs.doneEpoch = s.regs.doneEpoch) :
    exec c s = .next (u.ackWrite a off v none false) ∧ s.changesOnly (u.ackWrite a off v none false) [.regs, .rpr] := by
  have hack : (u.ackWrite a off v none false).only (Piece.all.filter fun p => p.part != .regs && p.part != .rpr) =
      s.only (Piece.all.filter fun p => p.part != .regs && p.part != .rpr) :=
    (u.ackNone_only a off v false (by decide)).trans (State.only_mono (by decide) hu)
  have hmaps : u.rpr.maps = s.rpr.maps := congrArg (fun x => x.rpr.maps) hu
  refine ⟨exec_of_alike h hwf hrun ⟨fun ch => ?_, fun ch => ?_, fun ch => ?_, fun ch b => ?_, ?_, ?_, ?_⟩
    (State.inputsAlike_of_only (State.only_mono (by decide) hack)), State.changesOnly_of_only hack (by decide)⟩
  · rw [State.ackNone_rmap, State.rmap, hmaps]; rfl
  · exact congrArg (fun x => (x.calCh ch).count) hack
  · exact congrArg (fun x => (x.chan ch).backlog) hack
  · exact congrArg (fun x => (x.chan ch).base b) hack
  · exact congrArg (fun x => x.sec.own) hack
  · exact congrArg (fun x => x.trx.keyOps) hack
  · exact (u.ackNone_doneEpoch a off v false).trans hepoch

theorem commit_captured {a : Access} {groups : BitVec 16} (hcourse : a.course < 12) (hopen : s.writeOpen a 0x10
    (groups.setWidth 32)) :
    exec (.sysCommit a groups) s =
        .next ((s.submit (pathNum a.path) 2 groups.toNat).ackWrite a 0x10 (groups.setWidth 32) none false) ∧
      s.changesOnly ((s.submit (pathNum a.path) 2 groups.toNat).ackWrite a 0x10 (groups.setWidth 32) none false) [.regs, .rpr] := by
  have hop : opSysCommit a groups s =
      (s.submit (pathNum a.path) 2 groups.toNat).ackWrite a 0x10 (groups.setWidth 32) none false := by
    obtain ⟨hreg, hdom, hne, hcmd⟩ := sysCommit_register
    rw [opSysCommit, State.writeReg_of_command hopen hreg hdom (by decide) hne hcmd, ← sysCommit_groups groups]
    rfl
  have hepoch : (s.submit (pathNum a.path) 2 groups.toNat).regs.doneEpoch = s.regs.doneEpoch := by
    unfold State.submit
    split <;> rfl
  exact exec_of_regWrite (c := .sysCommit a groups) (by rw [← hop]; rfl)
    (by simp [Instr.wellFormed, Instr.units, Instr.partsOk, hcourse]) hopen.1 (State.submit_only (by decide) ..) hepoch

/-- The commit that a write of SYS_COMMIT captures (R78). -/
def State.captured (s : State) (mask : Nat) : Commit :=
  ⟨(s.regs.epoch + 1) % 2 ^ 32, mask, 2, true, s.capture mask, s.regs.touched,
    decide (4 ≤ (s.regs.commits.filter (fun c => !c.full)).length), false, false, [], [], [], none, false, 0, [], [], false, 0⟩

/-- What the answer of a write leaves of the commits' registers. -/
theorem State.ackNone_commits (a : Access) (off : Nat) (v : Word) :
    (s.ackWrite a off v none false).regs.commits = s.regs.commits ∧ (s.ackWrite a off v none false).regs.epoch = s.regs.epoch ∧
      (s.ackWrite a off v none false).regs.tickets = s.regs.tickets ∧ (s.ackWrite a off v none false).regs.force = s.regs.force ∧
      (s.ackWrite a off v none false).regs.shadow = s.regs.shadow := by
  obtain ⟨w, h⟩ | ⟨w, h⟩ | h := s.ackNone_cases a off v false <;> rw [h] <;> exact ⟨rfl, rfl, rfl, rfl, rfl⟩

theorem State.submit_regs {mask : Nat} (hmask : mask ≠ 0) (path : Nat) :
    (s.submit path 2 mask).regs = { s.regs with
      epoch := (s.regs.epoch + 1) % 2 ^ 32, tickets := s.regs.tickets.set path ((s.regs.epoch + 1) % 2 ^ 32)
      commits := s.regs.commits ++ [s.captured mask], touched := untouch s.regs.touched mask } := by
  rw [State.submit, if_neg hmask]
  rfl

end

/-- Settles O30: SYS_COMMIT captures, and the check of the oldest commit in its three outcomes. -/
theorem commitsAreCapturedAndChecked : Obligations.CommitsAreCapturedAndChecked := by
  refine fun s a groups c rest => ⟨fun hcourse hopen hne => ?_, fun hrun hfirst hunchecked => ⟨fun hfull => ?_,
      fun hfull hbad => ?_,
    fun hfull hgood hmap => ?_⟩⟩
  · obtain ⟨hexec, honly⟩ := commit_captured hcourse hopen
    obtain ⟨hcommits, hepoch, htickets, hforce, hshadow⟩ := (s.submit (pathNum a.path) 2 groups.toNat).ackNone_commits a 0x10
      (groups.setWidth 32)
    have hmask : groups.toNat ≠ 0 := fun h => hne (BitVec.eq_of_toNat_eq h)
    have hregs := State.submit_regs (s := s) hmask (pathNum a.path)
    rw [hregs] at hcommits hepoch htickets hforce hshadow
    refine ⟨_, s.captured groups.toNat, hexec, hcommits, rfl, rfl, rfl, rfl, rfl, hepoch, ?_, hforce, hshadow, honly⟩
    rw [htickets]
    exact Tbl.get_set_self ..
  · exact ⟨_, full_commit_turned_away hrun hfirst hunchecked hfull, Tbl.get_set_self .., rfl, rfl,
      State.changesOnly_of_only (K := Piece.all.filter fun p => p.part != .regs) (State.finishCommit_only (by decide) ..)
          (by decide)⟩
  · have hforce : (s.noteAdmission c).regs.force = s.regs.force := by
      unfold State.noteAdmission
      cases c.mask.testBit 0 && (s.checkGroup c 0).1 == some rjAdmission <;> rfl
    exact ⟨_, failed_commit_rejected hrun hfirst hunchecked hfull hbad, Tbl.get_set_self .., rfl, hforce,
        State.rejected_changesOnly _ _⟩
  · refine ⟨_, s.passed c c, good_commit_waits hrun hfirst hunchecked hfull hgood hmap, ?_, rfl, rfl, rfl, rfl, rfl, rfl,
      fun k hk => State.passed_min0 hk c, rfl, rfl,
      State.changesOnly_of_only (K := Piece.all.filter fun p => p.part != .regs) (State.setCommit_only (by decide) ..) (by decide)⟩
    rw [State.setCommit, hfirst]
    exact congrArg some (if_pos rfl)

end Sys2Proof.Machine
end

section
/-! PROOFS. The merge of an atomic, and a tag's timeout and quarantine (R159, R170, R171; O28). -/

set_option Elab.async false

namespace Sys2Proof.Machine

section
variable {s : State} {r : Req} {ch k : Nat}

/-! ### The end of the last request -/

/-- What a channel holds of the lines of requests. -/
def Chan.lines (c : Chan) : List RdEnt × List Captured × List WrEnt × List (Nat × Nat) × Nat × Nat :=
  (c.reads, c.captured, c.writes, c.hazard, c.wseqNext, c.drained)

theorem State.setChan_lines (s : State) (ch : Nat) {f : Chan → Chan} (hf : ∀ c, (f c).lines = c.lines := by intro c; rfl) :
    ((s.setChan ch f).chan k).lines = (s.chan k).lines := by
  by_cases hk : k = ch
  · subst hk
    rw [State.setChan_chan_self, hf]
  · rw [State.setChan_chan_ne f hk]

theorem State.acctBack_lines (s : State) (r : Req) : ((s.acctBack r).chan k).lines = (s.chan k).lines := by
  unfold State.acctBack
  generalize r.chs = l
  induction l generalizing s with
  | nil => rfl
  | cons c l ih => rw [forAll_cons, ih, State.setChan_lines]

theorem State.cellsBack_of_none (hnone : s.trx.reqs = []) :
    (s.cellsBack r).link.upQ = s.link.upQ ∧ (s.cellsBack r).trx = s.trx ∧ (s.cellsBack r).chans = s.chans := by
  have hpool (t : State) (ht : t.trx.reqs =
      []) : t.freePool.link = t.link ∧ t.freePool.trx = t.trx ∧ t.freePool.chans = t.chans := by
    unfold State.freePool State.takePool State.poolWaiter
    dsimp only
    rw [ht]
    exact ⟨rfl, rfl, rfl⟩
  unfold State.cellsBack
  split
  · exact ⟨rfl, rfl, rfl⟩
  · dsimp only
    split
    · split
      · obtain ⟨hlink, htrx, hchans⟩ := hpool (s.freeReqCells 1) hnone
        exact ⟨(congrArg LinkSt.upQ hlink).trans rfl, htrx, hchans⟩
      · exact ⟨rfl, rfl, rfl⟩
    · exact ⟨rfl, rfl, rfl⟩

/-- The end of the one request: it is gone, and nothing goes up. -/
theorem State.endReq_of_single (hone : (s.trx.reqs.filter fun x => x.uid != r.uid) = []) :
    (s.endReq r).link.upQ = s.link.upQ ∧ (s.endReq r).trx = { s.trx with reqs := [], prog := s.trx.prog.set 32 none } ∧
      ∀ k, ((s.endReq r).chan k).lines = (s.chan k).lines := by
  have hbefore := State.link_of_only (s := s) (t := ((((s.dropReq r.uid).leaveCtx r).slotBack r).useBack r).acctBack r) (by simp)
  have hdropped := State.trx_of_only (s := s.dropReq r.uid)
    (t := ((((s.dropReq r.uid).leaveCtx r).slotBack r).useBack r).acctBack r) (by simp)
  have hnone : (s.dropReq r.uid).trx = { s.trx with reqs := [] } := by rw [← hone]; rfl
  have hlines (k : Nat) : ((((((s.dropReq r.uid).leaveCtx r).slotBack r).useBack r).acctBack r).chan k).lines =
      (s.chan k).lines := by
    have honly : ((((s.dropReq r.uid).leaveCtx r).slotBack r).useBack r).only [.chans] = s.only [.chans] := by simp
    exact (State.acctBack_lines _ r).trans (congrArg (fun x => (x.chan k).lines) honly)
  rw [State.endReq]
  generalize ((((s.dropReq r.uid).leaveCtx r).slotBack r).useBack r).acctBack r = u at hbefore hdropped hlines ⊢
  rw [hnone] at hdropped
  obtain ⟨hup, htrx, hchans⟩ := State.cellsBack_of_none (s := u) (r := r) (by rw [hdropped])
  refine ⟨hup.trans (congrArg LinkSt.upQ hbefore), ?_, fun k => ?_⟩
  · rw [State.progDone, htrx, hdropped]
  · exact (congrArg (fun x : Tbl Chan => (x.get k).lines) hchans).trans (hlines k)

theorem State.filter_single (hone : s.trx.reqs = [r]) : (s.trx.reqs.filter fun x => x.uid != r.uid) = [] := by
  simp [hone]

/-- The last line of the one request is answered with its data (R169). -/
theorem State.rdLine_of_single {idx status wseq : Nat} {wv : Bool} {data : BitVec 512} (hone : s.trx.reqs = [r])
    (hleft : r.left = [idx])
    (hdown : r.down = []) :
    (s.rdLine r idx status ch wv wseq data).link.upQ = s.link.upQ ++ [⟨rdataHdr (hTag r.hdr) status idx ch
        (s.chan ch).drained true wv wseq
        :: lineCells data, .tag false (hTag r.hdr), none, false⟩] ∧
      (s.rdLine r idx status ch wv wseq data).trx =
        { s.trx with reqs := [], prog := s.trx.prog.set 32 none, respond := s.trx.respond ++ [(false, hTag r.hdr)] } ∧
      ∀ k, ((s.rdLine r idx status ch wv wseq data).chan k).lines = (s.chan k).lines := by
  unfold State.rdLine
  extract_lets rest t last cells u
  have hrest : rest = [] := by simp [rest, hleft]
  have hlast : last = true := by simp [last, hrest, hdown]
  have ht : t.only [.chans, .link, .courses, .lanes, .reqs, .keyOps, .trx] =
      s.only [.chans, .link, .courses, .lanes, .reqs, .keyOps, .trx] := by
    simp only [t]
    split
    · exact State.lineDone_only (by decide) s _
    · rfl
  have hlink := State.link_of_only (s := s) (t := t) (State.only_mono (by decide) ht)
  have htrx := State.trx_of_only (s := s) (t := t) (State.only_mono (by decide) ht)
  have hchan (k : Nat) : t.chan k = s.chan k := congrArg (fun x => x.chan k) ht
  obtain ⟨hup, hend, hlines⟩ := State.endReq_of_single (s := t) (r := { r with left := [] })
    (by rw [htrx]; simp [hone])
  have hcells : cells = rdataHdr (hTag r.hdr) status idx ch (s.chan ch).drained true wv wseq :: lineCells data := by
    simp only [cells, hchan, hlast]
  rw [if_pos hlast]
  clear_value t cells
  refine ⟨?_, ?_, fun k => ?_⟩
  · rw [← hcells, ← hlink, ← hup]
    rfl
  · generalize t.endReq _ = v at hend
    show { v.trx with respond := v.trx.respond ++ [(false, hTag r.hdr)] } = _
    rw [hend, htrx]
  · rw [← hchan, ← hlines]
    rfl

/-! ### The merge -/

/-- A write-share line that its merge makes ready (R159). -/
def WrEnt.merged (x : WrEnt) (r : Req) (data : BitVec 512) (q : Nat) : WrEnt :=
  { x with ready := true, back := false, corrected := false, data := data, wseqs := [q], key := hKey r.hdr, gen := r.gen }

/-- What the last read-modify-write of a line leaves: the hazard is gone. -/
theorem State.endRmw_of_single {laddr uid : Nat} (hhaz : (s.chan ch).hazard = [(laddr, uid)]) :
    s.endRmw ch laddr uid =
        s.setChan ch (fun c => { c with hazard := c.hazard.filter (fun h => !(h.1 == laddr && h.2 == uid)) }) ∧
      (((s.endRmw ch laddr uid).chan ch).hazard = []) := by
  have hnone : ((s.setChan ch (fun c =>
      { c with hazard := c.hazard.filter (fun h => !(h.1 == laddr && h.2 == uid)) })).chan ch).hazard = [] := by
    rw [State.setChan_chan_self]
    simp [hhaz]
  have heq : s.endRmw ch laddr uid =
      s.setChan ch (fun c => { c with hazard := c.hazard.filter (fun h => !(h.1 == laddr && h.2 == uid)) }) := by
    unfold State.endRmw
    dsimp only
    rw [hnone]
    rfl
  exact ⟨heq, by rw [heq, hnone]⟩

theorem State.takeWseq_chan (s : State) (ch : Nat) :
    (s.takeWseq ch).chan ch = { s.chan ch with wseqNext := ((s.chan ch).wseqNext + 1) % 65536 } := State.setChan_chan_self ..

/-- A merge of the one line that waits for it (R159). -/
theorem State.mergeRmw_of_single {w : WrEnt} (hop : hOp r.hdr = 0x08) (hwrites : (s.chan ch).writes = [w]) (huid : w.uid = r.uid)
    (hready : w.ready = false) :
    ∃ u : State, s.mergeRmw r ch w =
        (u.rdLine r 0 (if w.corrected then stCorrected else stOk) ch true (s.chan ch).wseqNext w.data).endRmw ch
            (hLaddr r.hdr) r.uid ∧
      u.only (Piece.all.filter fun p => p != .chans) = s.only (Piece.all.filter fun p => p != .chans) ∧
      (u.chan ch).lines = ((s.chan ch).reads, (s.chan ch).captured, [w.merged r (rmwResult r w.data).1 (s.chan ch).wseqNext],
        (s.chan ch).hazard, ((s.chan ch).wseqNext + 1) % 65536, (s.chan ch).drained) := by
  refine ⟨((s.setChan ch (fun c => { c with writes := c.writes.map (fun x =>
    if x.uid = r.uid ∧ !x.ready then x.merged r (rmwResult r w.data).1
        (s.chan ch).wseqNext else x) })).takeWseq ch).syncBatch ch, ?_, ?_, ?_⟩
  · have hwrite : (rmwResult r w.data).2 = true := by
      unfold rmwResult
      dsimp only
      rw [hop, if_neg (by decide), if_pos rfl]
    unfold State.mergeRmw
    dsimp only
    rw [hwrite]
    dsimp only
    rw [hop, if_neg (by decide)]
    rfl
  · rw [State.syncBatch_only (by decide), State.takeWseq_only (by decide), State.setChan_only (by decide)]
  · have hsync (t : State) : ((t.syncBatch ch).chan ch).lines = (t.chan ch).lines := by
      unfold State.syncBatch
      exact State.setChan_lines t ch
    have hmap : ((s.chan ch).writes.map (fun x =>
        if x.uid = r.uid ∧ !x.ready then x.merged r (rmwResult r w.data).1 (s.chan ch).wseqNext else x)) =
          [w.merged r (rmwResult r w.data).1 (s.chan ch).wseqNext] := by
      rw [hwrites, List.map_singleton, if_pos ⟨huid, by rw [hready]; rfl⟩]
    rw [hsync, State.takeWseq_chan, State.setChan_chan_self, Chan.lines, hmap]

theorem merged_line_answered {w : WrEnt} (hrun : s.running = true) (hone : s.trx.reqs = [r]) (hop : hOp r.hdr = 0x08)
    (hstage : r.stage = .sent ch) (hleft : r.left = [0]) (hdown : r.down = []) (hwrites : (s.chan ch).writes = [w])
    (huid : w.uid = r.uid) (hready : w.ready = false) (hback : w.back = true) (hbad : w.bad = false)
    (hhaz : (s.chan ch).hazard = [(hLaddr r.hdr, r.uid)]) :
    ∃ t, exec (.rmwMerge (hTag r.hdr) false) s = .next t ∧ t.trx.reqs = [] ∧
      (t.chan ch).wseqNext = ((s.chan ch).wseqNext + 1) % 65536 ∧ (t.chan ch).hazard = [] ∧
      (t.chan ch).writes = [w.merged r (rmwResult r w.data).1 (s.chan ch).wseqNext] ∧
      t.link.upQ = s.link.upQ ++ [⟨rdataHdr (hTag r.hdr) (if w.corrected then 1 else 0) 0 ch (s.chan ch).drained true true
        (s.chan ch).wseqNext :: lineCells w.data, .tag false (hTag r.hdr), none, false⟩] ∧
      t.trx.respond = s.trx.respond ++ [(false, hTag r.hdr)] ∧ t.array = s.array ∧ t.nvm = s.nvm := by
  obtain ⟨u, hu, honly, hlines⟩ := State.mergeRmw_of_single (r := r) hop hwrites huid hready
  have htrx := State.trx_of_only (s := s) (t := u) (State.only_mono (by decide) honly)
  have hlink := State.link_of_only (s := s) (t := u) (State.only_mono (by decide) honly)
  obtain ⟨hup, hend, hkept⟩ := State.rdLine_of_single (s := u) (r := r) (ch := ch) (idx := 0)
    (status := if w.corrected then stCorrected else stOk) (wseq := (s.chan ch).wseqNext) (wv := true) (data := w.data)
    (by rw [htrx]; exact hone) hleft hdown
  have hchan := (hkept ch).trans hlines
  have harray : (u.rdLine r 0 (if w.corrected then stCorrected else stOk) ch true (s.chan ch).wseqNext w.data).only
      [.mem, .nvm, .array] = s.only [.mem, .nvm, .array] := (State.rdLine_only (by decide) ..).trans (State.only_mono
          (by decide) honly)
  generalize u.rdLine r 0 (if w.corrected then stCorrected else stOk) ch true
      (s.chan ch).wseqNext w.data = v at hu hup hend hchan harray
  obtain ⟨hendRmw, hgone⟩ := State.endRmw_of_single (s := v) (ch := ch) (laddr := hLaddr r.hdr) (uid := r.uid)
    ((congrArg (fun x => x.2.2.2.1) hchan).trans hhaz)
  have hop' : opRmwMerge (hTag r.hdr) false s = v.endRmw ch (hLaddr r.hdr) r.uid := by
    have hreq : s.reqOf false (hTag r.hdr) = some r := by simp [State.reqOf, hone, Req.names, hop, inWriteSpace]
    have hfind : (s.chan ch).writes.find? (fun w => w.uid == r.uid && !w.ready && w.back) = some w := by
      simp [hwrites, huid, hready, hback]
    unfold opRmwMerge
    rw [hreq]
    dsimp only
    rw [hstage]
    dsimp only
    rw [hfind]
    dsimp only
    rw [hbad, if_neg (by decide), hu]
  have hwf : (Instr.rmwMerge (hTag r.hdr) false).wellFormed = true := by
    have hlt : hTag r.hdr < 4096 := Nat.mod_lt _ (by decide)
    simp [Instr.wellFormed, Instr.units, Instr.partsOk, hlt]
  obtain ⟨t, hexec, hseen⟩ := exec_seen (c := .rmwMerge (hTag r.hdr) false) (u := v.endRmw ch (hLaddr r.hdr) r.uid)
    (by rw [← hop']; rfl) hwf hrun (.chans :: answerPieces)
  have htchan : t.chan ch = (v.endRmw ch (hLaddr r.hdr) r.uid).chan ch := congrArg (fun x => x.chan ch) hseen
  have htv : t.only answerPieces = v.only answerPieces := by
    rw [State.only_mono (by decide) hseen, hendRmw]
    exact State.setChan_only (by decide) ..
  have hvchan : t.chan ch = { v.chan ch with
      hazard := (v.chan ch).hazard.filter (fun h => !(h.1 == hLaddr r.hdr && h.2 == r.uid)) } := by
    rw [htchan, hendRmw, State.setChan_chan_self]
  have htlink := State.link_of_only (s := v) (t := t) (State.only_mono (by decide) htv)
  have httrx := State.trx_of_only (s := v) (t := t) (State.only_mono (by decide) htv)
  have hdrained : (u.chan ch).drained = (s.chan ch).drained := congrArg (fun x => x.2.2.2.2.2) hlines
  refine ⟨t, hexec, ?_, ?_, ?_, ?_, ?_, ?_, ?_, ?_⟩
  · rw [httrx, hend]
  · rw [hvchan]
    exact congrArg (fun x => x.2.2.2.2.1) hchan
  · rw [htchan, hgone]
  · rw [hvchan]
    exact congrArg (fun x => x.2.2.1) hchan
  · rw [htlink, hup, hlink, hdrained]
    rfl
  · rw [httrx, hend, htrx]
  · exact (State.array_of_only (State.only_mono (by decide) htv)).trans (State.array_of_only (State.only_mono (by decide) harray))
  · exact (State.nvm_of_only (State.only_mono (by decide) htv)).trans (State.nvm_of_only (State.only_mono (by decide) harray))

/-! ### The timeout -/

/-- A request's unanswered reads leave, and with them nothing else of the channels' lines. -/
theorem State.leaveReads_kept (s : State) (r : Req) (k : Nat) :
    ((s.leaveReads r).chan k).writes = (s.chan k).writes ∧ ((s.leaveReads r).chan k).hazard = (s.chan k).hazard := by
  unfold State.leaveReads
  generalize r.chs = l
  induction l generalizing s with
  | nil => exact ⟨rfl, rfl⟩
  | cons c l ih =>
    rw [forAll_cons, (ih _).1, (ih _).2]
    by_cases hk : k = c
    · subst hk
      rw [State.setChan_chan_self]
      exact ⟨rfl, rfl⟩
    · rw [State.setChan_chan_ne _ hk]
      exact ⟨rfl, rfl⟩

/-- The ERR that a timeout answers (R170). -/
def Req.timedOut (r : Req) : List Cell := [errCell ErrCode.timeout.num (hTag r.hdr) (lineMask (r.left ++ r.down)) 0 false false]

/-- A request that a timeout ends: its ERR goes up, and its tag is in quarantine (R170). -/
def State.timedOut (s : State) (r : Req) : State :=
  ((((s.leaveReads r).endReq r).count 0x20128).sendUp r.timedOut .answered none).quarantine (inWriteSpace (hOp r.hdr))
      (hTag r.hdr) []
    r.uid

/-- Behind the end of a request, its ERR and its quarantine leave the channels. -/
theorem State.timedOut_chans (s : State) (r : Req) : (s.timedOut r).only [.chans] = ((s.leaveReads r).endReq r).only [.chans] := by
  rw [State.timedOut, State.quarantine_only (by decide), State.sendUp_only (by decide), State.count_only (by decide)]

/-- Nothing of a request stands in its channels but lines that are ready to be written. -/
structure State.Idle (s : State) (r : Req) : Prop where
  reads : ∀ ch ∈ r.chs, ∀ e ∈ (s.chan ch).reads, e.uid ≠ r.uid
  captured : ∀ ch ∈ r.chs, ∀ e ∈ (s.chan ch).captured, e.uid ≠ r.uid
  writes : ∀ ch ∈ r.chs, ∀ w ∈ (s.chan ch).writes, w.uid = r.uid → w.ready = true
  hazard : ∀ ch ∈ r.chs, ∀ h ∈ (s.chan ch).hazard, h.2 ≠ r.uid

theorem State.timeoutReq_of_idle (hone : s.trx.reqs = [r]) (hidle : s.Idle r) : s.timeoutReq r = s.timedOut r := by
  have howing : ((r.chs.map (fun ch => (ch, ((s.chan ch).reads.filter (fun e => e.uid == r.uid && e.taken)).length +
      ((s.chan ch).captured.filter (fun e => e.uid == r.uid)).length))).filter (fun p => decide (0 < p.2))) = [] := by
    rw [List.filter_eq_nil_iff]
    intro p hp
    obtain ⟨ch, hch, rfl⟩ := List.mem_map.1 hp
    have hreads : (s.chan ch).reads.filter (fun e => e.uid == r.uid && e.taken) = [] :=
      List.filter_eq_nil_iff.2 fun e he => by simp [hidle.reads ch hch e he]
    have hcap : (s.chan ch).captured.filter (fun e => e.uid == r.uid) = [] :=
      List.filter_eq_nil_iff.2 fun e he => by simp [hidle.captured ch hch e he]
    simp [hreads, hcap]
  have hheld : forAll r.chs (fun ch t => if (t.chan ch).writes.any
      (fun w => w.uid == r.uid && !w.ready) then t.dropHeld r ch else t)
      (s.leaveReads r) = s.leaveReads r := by
    refine forAll_of_fixed fun ch hch => if_neg ?_
    rw [(s.leaveReads_kept r ch).1, List.any_eq_true]
    rintro ⟨w, hw, hmine⟩
    obtain ⟨huid, hready⟩ := Bool.and_eq_true_iff.1 hmine
    rw [hidle.writes ch hch w hw (beq_iff_eq.1 huid)] at hready
    exact absurd hready (by decide)
  obtain ⟨-, -, hlines⟩ := State.endReq_of_single (s := s.leaveReads r) (r := r)
    (by rw [show (s.leaveReads r).trx = s.trx from State.trx_of_only (State.leaveReads_only
        (by decide) s r)]; exact State.filter_single hone)
  unfold State.timeoutReq
  dsimp only
  rw [howing, hheld]
  refine forAll_of_fixed fun ch hch => ?_
  have hhaz : ((s.timedOut r).chan ch).hazard = (s.chan ch).hazard :=
    (congrArg (fun x => (x.chan ch).hazard) (s.timedOut_chans r)).trans
      ((congrArg (fun x => x.2.2.2.1) (hlines ch)).trans (s.leaveReads_kept r ch).2)
  have hnil : (s.chan ch).hazard.filter (fun h => h.2 == r.uid) = [] :=
    List.filter_eq_nil_iff.2 fun h hh => by simp [hidle.hazard ch hch h hh]
  change forAll (((s.timedOut r).chan ch).hazard.filter (fun h => h.2 == r.uid)) _ _ = _
  rw [hhaz, hnil]
  rfl

/-- A tag's account behind the end of its request. -/
theorem State.quarantine_eq {t : State} (ws : Bool) (tag uid : Nat) : (t.quarantine ws tag [] uid).link = t.link ∧
    (t.quarantine ws tag [] uid).trx.reqs = t.trx.reqs ∧
    (t.quarantine ws tag [] uid).trx.quar = t.trx.quar ++ [⟨ws, tag, [], some (t.now + 1), uid⟩] ∧
    (if ws = true then (t.quarantine ws tag [] uid).trx.wrAcct = t.trx.wrAcct.quarIn
      else (t.quarantine ws tag [] uid).trx.rdAcct = t.trx.rdAcct.quarIn) := by
  cases ws <;> exact ⟨rfl, rfl, rfl, rfl⟩

theorem tag_times_out {tag d : Nat} {ws : Bool} (hrun : s.running = true) (htag : tag < 2048) (hone : s.trx.reqs = [r])
    (hnames : r.names ws tag = true) (hdead : r.deadline = some d) (hpast : d ≤ s.now) (hidle : s.Idle r) :
    ∃ t, exec (.tagTimeout tag ws) s = .next t ∧ t.trx.reqs = [] ∧
      t.link.upQ = s.link.upQ ++ [⟨[errCell 2 tag (lineMask (r.left ++ r.down)) 0 false false], .answered, none, false⟩] ∧
      t.trx.quar = s.trx.quar ++ [⟨ws, tag, [], some (s.now + 1), r.uid⟩] ∧
      (if ws = true then t.trx.wrAcct = s.trx.wrAcct.quarIn else t.trx.rdAcct = s.trx.rdAcct.quarIn) ∧
      t.array = s.array ∧ t.nvm = s.nvm := by
  obtain ⟨hspace, htagOf⟩ := Bool.and_eq_true_iff.1 hnames
  have hspace := beq_iff_eq.1 hspace
  have htagOf := beq_iff_eq.1 htagOf
  have hbefore : (s.leaveReads r).only (Piece.all.filter fun p => p != .chans) = s.only (Piece.all.filter fun p => p != .chans) :=
    State.leaveReads_only (by decide) s r
  have hlink := State.link_of_only (s := s) (t := s.leaveReads r) (State.only_mono (by decide) hbefore)
  have htrx := State.trx_of_only (s := s) (t := s.leaveReads r) (State.only_mono (by decide) hbefore)
  obtain ⟨hup, hend, -⟩ := State.endReq_of_single (s := s.leaveReads r) (r := r) (by rw [htrx]; exact State.filter_single hone)
  have hnow : ((s.leaveReads r).endReq r).now = s.now :=
    congrArg (fun x => x.now) ((State.endReq_only (K := [.time]) (by decide) _ r).trans (State.only_mono (by decide) hbefore))
  have hkept : (s.timedOut r).only [.mem, .nvm, .array] = s.only [.mem, .nvm, .array] := by
    rw [State.timedOut, State.quarantine_only (by decide), State.sendUp_only (by decide), State.count_only (by decide),
      State.endReq_only (by decide), State.leaveReads_only (by decide)]
  obtain ⟨hqlink, hqreqs, hquar, hacct⟩ := State.quarantine_eq
    (t := (((s.leaveReads r).endReq r).count 0x20128).sendUp r.timedOut .answered none) (inWriteSpace (hOp r.hdr))
        (hTag r.hdr) r.uid
  have hwtrx : ((((s.leaveReads r).endReq r).count 0x20128).sendUp r.timedOut .answered none).trx =
      { s.trx with reqs := [], prog := s.trx.prog.set 32 none } := by
    rw [← htrx, ← hend]
    exact State.trx_of_only (s := (s.leaveReads r).endReq r) (t := ((s.leaveReads r).endReq r).count 0x20128)
      (State.count_only (by decide) ..)
  change (s.timedOut r).link = _ at hqlink
  change (s.timedOut r).trx.reqs = _ at hqreqs
  change (s.timedOut r).trx.quar = _ at hquar
  change if inWriteSpace (hOp r.hdr) = true then (s.timedOut r).trx.wrAcct = _ else (s.timedOut r).trx.rdAcct = _ at hacct
  rw [hwtrx] at hqreqs hquar hacct
  have hop : opTagTimeout tag ws s = s.timedOut r := by
    have hreq : s.reqOf ws tag = some r := by simp [State.reqOf, hone, hnames]
    unfold opTagTimeout
    rw [hreq]
    dsimp only
    rw [hdead]
    dsimp only
    rw [if_pos hpast, State.timeoutReq_of_idle hone hidle, State.releaseHeld, hqreqs]
    rfl
  have hlt : tag < if ws then 2048 else 4096 := by cases ws <;> simp <;> omega
  obtain ⟨t, hexec, hseen⟩ := exec_seen (c := .tagTimeout tag ws) (u := s.timedOut r) (by rw [← hop]; rfl)
    (by simp [Instr.wellFormed, Instr.units, Instr.partsOk, hlt]) hrun answerPieces
  have htlink := State.link_of_only (s := s.timedOut r) (t := t) (State.only_mono (by decide) hseen)
  have httrx := State.trx_of_only (s := s.timedOut r) (t := t) (State.only_mono (by decide) hseen)
  refine ⟨t, hexec, ?_, ?_, ?_, ?_, ?_, ?_⟩
  · rw [httrx, hqreqs]
  · rw [htlink, hqlink, ← htagOf, ← hlink, ← hup]
    rfl
  · rw [httrx, hquar, hspace, htagOf, ← hnow]
    rfl
  · rw [httrx]
    rwa [hspace] at hacct
  · exact (State.array_of_only (State.only_mono (by decide) hseen)).trans (State.array_of_only (State.only_mono (by decide) hkept))
  · exact (State.nvm_of_only (State.only_mono (by decide) hseen)).trans (State.nvm_of_only (State.only_mono (by decide) hkept))

/-! ### The end of a quarantine -/

theorem quarantine_ends {tag d : Nat} {ws : Bool} {q : Quar} (hrun : s.running = true) (htag : tag < 2048)
    (hfind : s.trx.quar.find? (fun x => x.write == ws && x.tag == tag) = some q) (hready : q.ready = some d) (hpast : d ≤ s.now) :
    ∃ t, exec (.quarantineEnd tag ws) s = .next t ∧ t.trx.quar = s.trx.quar.filter (fun x => !(x.write == ws && x.tag == tag)) ∧
      (if ws = true then t.trx.wrAcct = s.trx.wrAcct.quarOut else t.trx.rdAcct = s.trx.rdAcct.quarOut) ∧
      t.link.upQ = s.link.upQ ++ [⟨[errCell 12 tag 0 0 false true], .nothing, none, false⟩] ∧ s.changesOnly t [.link, .trx] := by
  have hlt : tag < if ws then 2048 else 4096 := by cases ws <;> simp <;> omega
  have honly : (opQuarantineEnd tag ws s).only (Piece.all.filter fun p => p != .link && p != .trx) =
      s.only (Piece.all.filter fun p => p != .link && p != .trx) := by
    unfold opQuarantineEnd
    rw [hfind]
    dsimp only
    rw [hready]
    dsimp only
    rw [if_pos hpast]
    cases ws <;> rfl
  refine ⟨_, exec_of_kept (c := .quarantineEnd tag ws) rfl (by simp [Instr.wellFormed, Instr.units, Instr.partsOk, hlt]) hrun
    (State.only_mono (by decide) honly), ?_, ?_, ?_, State.changesOnly_of_only honly (by decide)⟩
  all_goals
    unfold opQuarantineEnd
    rw [hfind]
    dsimp only
    rw [hready]
    dsimp only
    rw [if_pos hpast]
    cases ws <;> rfl

end

/-- Settles O28: the merge, the timeout and the end of the quarantine. -/
theorem writesMergeAndTagsTimeOut : Obligations.WritesMergeAndTagsTimeOut := by
  refine ⟨fun s r ch k w hrun hch hone hop hstage hslot hleft hdown hchs hwrites huid hready hback hbad hhaz => ?_,
    fun s tag ws r d q hrun htag => ⟨fun hone hnames hdead hpast hidle => ?_, fun hfind hready hpast => ?_⟩⟩
  · obtain ⟨t, hexec, hreqs, hwseq, hgone, hw, hkept⟩ :=
      merged_line_answered hrun hone hop hstage hleft hdown hwrites huid hready hback hbad hhaz
    refine ⟨t, hexec, hreqs, hwseq, hgone, ⟨_, hw, rfl, rfl, rfl, ?_⟩, hkept⟩
    unfold WrEnt.merged rmwResult
    dsimp only
    rw [hop, if_neg (by decide), if_pos rfl]
  · exact tag_times_out hrun htag hone hnames hdead hpast ⟨fun ch hch => (hidle ch hch).1, fun ch hch => (hidle ch hch).2.1,
      fun ch hch => (hidle ch hch).2.2.1, fun ch hch => (hidle ch hch).2.2.2⟩
  · exact quarantine_ends hrun htag hfind hready hpast

end Sys2Proof.Machine
end

section
/-! PROOFS. SPDM sessions and mutual authentication (R327, R329 to R334; O26). -/

set_option Elab.async false

namespace Sys2Proof.Machine

section
variable {s : State} {tr : Transport} {m : Nat}

/-! ### A request that the luthier serves at once -/

/-- The machine that a request finds where it is served at once: its management tag is taken (R169, R330). -/
structure State.SpdmServed (s v : State) (tr : Transport) (m : Nat) : Prop where
  row : ∀ i f, s.spdmRow tr m i f = f v
  only : v.only (Piece.all.filter fun p => p != .trx) = s.only (Piece.all.filter fun p => p != .trx)

theorem State.spdmRow_of_open (h : s.spdmOpen tr m) : ∃ v, s.SpdmServed v tr m := by
  obtain ⟨-, -, hresp, hdelay, harrives⟩ := h
  have hserve (v : State) (hrow : ∀ f, s.spdmArrives tr m f = f v) (hv : v.responder = true ∧ (v.dom 7).delay = none)
      (honly : v.only (Piece.all.filter fun p => p != .trx) = s.only
          (Piece.all.filter fun p => p != .trx)) : s.SpdmServed v tr m := by
    refine ⟨fun i f => ?_, honly⟩
    rw [State.spdmRow, hrow, if_pos hv.1, State.accessDom_of_on (by decide) hv.2]
  cases tr with
  | smp => exact ⟨s, hserve s (fun _ => rfl) ⟨hresp, hdelay⟩ rfl⟩
  | link =>
    by_cases hmarked : s.trx.spdm.contains m = true
    · exact ⟨s, hserve s (fun f => if_pos hmarked) ⟨hresp, hdelay⟩ rfl⟩
    · obtain ⟨hon, hup, hfree⟩ := (harrives rfl).resolve_left hmarked
      refine ⟨_, hserve { s with trx := { s.trx with mgtOut := s.trx.mgtOut ++ [m], spdm := s.trx.spdm ++ [m] } } (fun f => ?_)
        ⟨hresp, hdelay⟩ rfl⟩
      simp only [State.spdmArrives, hmarked, hon, hup, hfree, Bool.and_self, Bool.not_true]
      rfl

theorem State.SpdmServed.free {v : State} (h : s.SpdmServed v tr m) : v.free = s.free := congrArg (fun x => x.free) h.only

theorem State.SpdmServed.sec {v : State} (h : s.SpdmServed v tr m) : v.sec = s.sec := congrArg (fun x => x.sec) h.only

theorem State.SpdmServed.link {v : State} (h : s.SpdmServed v tr m) : v.link = s.link :=
  State.link_of_only (State.only_mono (by decide) h.only)

theorem State.SpdmServed.spdm {v : State} (h : s.SpdmServed v tr m) : v.spdm tr = s.spdm tr := by
  unfold State.spdm
  rw [h.sec]

theorem State.SpdmServed.inst {v : State} (h : s.SpdmServed v tr m) : v.inst = s.inst := congrArg (fun x => x.inst) h.only

/-! ### An answer -/

theorem State.setSpdm_spdm (s : State) (tr : Transport) (f : Spdm → Spdm) : (s.setSpdm tr f).spdm tr = f (s.spdm tr) := by
  cases tr <;> rfl

/-- A connection behind an answer (R330). -/
def Spdm.answered (x : Spdm) (tr : Transport) (code : Nat) (body : List Byte) : Spdm :=
  { x with
    last := some (code, body), carried := spdmCarried x tr (spdmMessage code body)
    session := x.session.map (fun y => { y with sent := y.sent + 1 }) }

theorem State.spdmAnswer_spdm (s : State) (tr : Transport) (m code : Nat) (body : List Byte) :
    (s.spdmAnswer tr m code body).spdm tr = (s.spdm tr).answered tr code body := by
  cases tr <;> rfl

theorem State.spdmAnswer_upQ (s : State) (m code : Nat) (body : List Byte) :
    (s.spdmAnswer .link m code body).link.upQ = s.link.upQ ++
    [⟨spdmCells m (s.spdm .link).session.isSome (spdmCarried (s.spdm .link) .link (spdmMessage code body)), .mtag m, none,
        false⟩] := rfl

theorem State.spdmAnswer_courses (s : State) (tr : Transport) (m code : Nat) (body : List Byte) :
    (s.spdmAnswer tr m code body).link.courses = s.link.courses := by
  cases tr <;> rfl

theorem spdmCarried_congr {x z : Spdm} (h : x.session = z.session) (tr : Transport) (l : List Byte) :
    spdmCarried x tr l = spdmCarried z tr l := by
  unfold spdmCarried
  rw [h]

/-- An answer of `v` is one of `s`, in the session that `v` holds, where nothing has gone up between them. -/
theorem State.spdmSent_of_answer {v t : State} {code : Nat} {body : List Byte} (hlink : v.link = s.link)
    (hspdm : (t.spdm tr).last = some (code, body) ∧ (t.spdm tr).carried = spdmCarried (v.spdm tr) tr (spdmMessage code body))
    (hup : t.link.upQ = (v.spdmAnswer tr m code body).link.upQ) {y : Option Session} (hy : (v.spdm tr).session = y) :
    s.spdmSent t y tr m code body := by
  have hcarried : (t.spdm tr).carried = spdmCarried { s.spdm tr with session := y } tr (spdmMessage code body) :=
    hspdm.2.trans (spdmCarried_congr hy tr _)
  refine ⟨hspdm.1, hcarried, fun htr => ?_⟩
  subst htr
  rw [hup, State.spdmAnswer_upQ, hlink, hy, ← hspdm.2]

/-- What an SPDM command leaves besides its connection. -/
def spdmPieces : List Piece := Piece.all.filter fun p => p != .sec && p.part != .link && p != .trx && p != .free

theorem State.changesOnly_of_spdm {t : State} (h : t.only spdmPieces = s.only spdmPieces) : s.changesOnly t [.sec, .link, .trx,
    .free] :=
  State.changesOnly_of_only (K := Piece.all.filter fun p => p.part != .sec && p.part != .link && p.part != .trx && p.part != .free)
    (State.only_mono (by decide) h) (by decide)

theorem State.SpdmServed.pieces {v : State} (h : s.SpdmServed v tr m) : v.only spdmPieces = s.only spdmPieces :=
  State.only_mono (by decide) h.only

theorem State.spdmAnswer_pieces (s : State) (tr : Transport) (m code : Nat) (body : List Byte) :
    (s.spdmAnswer tr m code body).only spdmPieces = s.only spdmPieces := State.spdmAnswer_only (by decide) ..

theorem State.setSpdm_pieces (s : State) (tr : Transport) (f : Spdm → Spdm) :
    (s.setSpdm tr f).only spdmPieces = s.only spdmPieces :=
  State.setSpdm_only (by decide) ..

/-! ### What leaves the connections as they are -/

theorem State.spdm_of_sec {t : State} (h : t.sec = s.sec) : t.spdm tr = s.spdm tr := by
  unfold State.spdm
  rw [h]

/-- The connections on the two transports. -/
def State.connections (s : State) : Spdm × Spdm := (s.sec.link, s.sec.smp)

theorem State.connections_of_only {t : State} (h : t.only [.slots, .sec] = s.only [.slots, .sec]) : t.connections = s.connections :=
  congrArg (fun x : SecSt => (x.link, x.smp)) (State.sec_of_only h)

theorem State.spdm_of_connections {t : State} (h : t.connections = s.connections) : t.spdm tr = s.spdm tr := by
  cases tr with
  | link => exact congrArg Prod.fst h
  | smp => exact congrArg Prod.snd h

theorem forAll_connections {α : Type} {f : α → State → State} (hf : ∀ a (t : State), (f a t).connections = t.connections)
    (l : List α)
    (s : State) : (forAll l f s).connections = s.connections := by
  induction l generalizing s with
  | nil => rfl
  | cons a l ih => exact (ih (f a s)).trans (hf a s)

theorem when_connections {f : State → State} (hf : ∀ t : State, (f t).connections = t.connections) (b : Bool) (s : State) :
    (when b f s).connections = s.connections := by
  cases b
  · rfl
  · exact hf s

theorem State.reseed_connections (s : State) : s.reseed.connections = s.connections :=
  (State.connections_of_only (State.count_only (by decide) ..)).trans
    (State.connections_of_only (State.entropy_only (by decide) s) : s.entropy.2.connections = s.connections)

theorem State.random_connections (s : State) (n : Nat) : (s.random n).2.connections = s.connections :=
  when_connections State.reseed_connections _ _

theorem State.exchange_connections (s : State) (n : Nat) : (s.reseed.random n).2.connections = s.connections :=
  (s.reseed.random_connections n).trans s.reseed_connections

theorem State.mirSend_connections (s : State) (type : Nat) (body : List Word) (keyOp : Option Nat) :
    (s.mirSend type body keyOp).connections = s.connections := State.connections_of_only (State.mirSend_only (by decide) ..)

theorem State.sendKey_connections (s : State) (k : Nat) (keyOp : Option Nat) : (s.sendKey k keyOp).connections = s.connections := by
  have hbody : (s.keyBody false k).2.connections = s.connections := by
    unfold State.keyBody
    split
    · rfl
    · dsimp only
      split
      · rfl
      · exact s.random_connections 12
  unfold State.sendKey
  exact (State.mirSend_connections ..).trans hbody

theorem State.sendKeys_connections (s : State) : s.sendKeys.connections = s.connections :=
  forAll_connections (fun k t => t.sendKey_connections k none) _ s

theorem State.returned_connections (s : State) : s.returned.connections = s.connections := by
  unfold State.returned
  split
  · refine (State.sendKeys_connections _).trans ((State.connections_of_only (State.mirrorAll_only (by decide) _)).trans ?_)
    exact State.connections_of_only (State.setRole_only (by decide) s _)
  · rfl

theorem State.goOn_connections (s : State) : s.goOn.connections = s.connections :=
  (State.returned_connections _).trans (State.connections_of_only
    ((State.bootGoesOn_only (by decide) _).trans (State.settleG2_only (by decide) s)))

theorem State.mirrorFrom_connections (s t : State) : (s.mirrorFrom t).connections = t.connections := by
  have hsends (ch : Nat) (b : Bool) (l : List Backlog) (u : State) :
      (forAll l (fun e u => u.mirSend mtBacklog (backlogBody ch b e) none) u).connections = u.connections :=
    forAll_connections (fun e u => u.mirSend_connections ..) l u
  have hconfig (groups : List Nat) (epoch : Nat) (u : State) : (u.sendConfig groups epoch).connections = u.connections :=
    State.connections_of_only (State.sendConfig_only (by decide) ..)
  unfold State.mirrorFrom
  split
  · extract_lets u v
    have hu : u.connections = t.connections := by
      refine forAll_connections (fun ch u => ?_) _ _
      refine (when_connections (fun _ => State.mirSend_connections ..) _ _).trans ?_
      refine (hsends ..).trans ((hsends ..).trans ?_)
      exact (when_connections (fun _ => State.mirSend_connections ..) _ _).trans
        (when_connections (fun _ => State.mirSend_connections ..) _ _)
    have hv : v.connections = t.connections := by
      refine Eq.trans (when_connections (fun w => ?_) _ _) hu
      exact forAll_connections (fun k w => w.sendKey_connections ..) _ w
    split
    · split
      · exact (hconfig ..).trans hv
      · exact hv
    · exact hv
  · rfl

/-! ### Mutual authentication -/

theorem digests_asked_for (hopen : s.spdmOpen tr m) (hencap : (s.spdm tr).encap = 1) :
    ∃ t, exec (.getEncapsulatedRequest tr m) s = .next t ∧
      s.spdmSent t (s.spdm tr).session tr m 0x6a [0#8, 0#8, 0x12#8, 0x81#8, 0#8, 0#8] ∧ (t.spdm tr).encap = 1 ∧
      s.changesOnly t [.sec, .link, .trx, .free] := by
  obtain ⟨v, hv⟩ := State.spdmRow_of_open hopen
  have hop : opGetEncapsulatedRequest tr m s = v.spdmAnswer tr m 0x6a [0#8, 0#8, 0x12#8, 0x81#8, 0#8, 0#8] := by
    rw [opGetEncapsulatedRequest, hv.row, State.spdmEncap, hv.spdm, hencap] <;> rfl
  have hkept := (v.spdmAnswer_pieces tr m 0x6a [0#8, 0#8, 0x12#8, 0x81#8, 0#8, 0#8]).trans hv.pieces
  have hspdm := v.spdmAnswer_spdm tr m 0x6a [0#8, 0#8, 0x12#8, 0x81#8, 0#8, 0#8]
  refine ⟨_, exec_of_kept (c := .getEncapsulatedRequest tr m) (by rw [← hop]; rfl)
    (by simp [Instr.wellFormed, Instr.units, Instr.partsOk, hopen.2.1]) hopen.1 (State.only_mono (by decide) hkept), ?_, ?_,
    State.changesOnly_of_spdm hkept⟩
  · exact State.spdmSent_of_answer hv.link (by rw [hspdm]; exact ⟨rfl, rfl⟩) rfl (by rw [hv.spdm])
  · rw [hspdm, ← hencap, ← hv.spdm]
    rfl

theorem chain_asked_for {ok : Bool} {root : List Byte} (hopen : s.spdmOpen tr m) (hroot : root.length = 48) (hencap :
    (s.spdm tr).encap = 1) :
    ∃ t, exec (.deliverEncapsulatedResponse tr m ok root) s = .next t ∧ (t.spdm tr).encap = 2 ∧
      s.spdmSent t (s.spdm tr).session tr m 0x6b ([0#8, 1#8, 0#8, 0#8, 0#8, 0#8] ++ askCertificate) ∧
      s.changesOnly t [.sec, .link, .trx, .free] := by
  obtain ⟨v, hv⟩ := State.spdmRow_of_open hopen
  let w := v.setSpdm tr (fun x => { x with encap := 2 })
  have hw : w.spdm tr = { s.spdm tr with encap := 2 } := by rw [State.setSpdm_spdm, hv.spdm]
  have hwlink : w.link = s.link := hv.link
  have hop : opDeliverEncapsulatedResponse tr m ok root s = w.spdmAnswer tr m 0x6b ([0#8, 1#8, 0#8, 0#8, 0#8,
      0#8] ++ askCertificate) := by
    rw [opDeliverEncapsulatedResponse, hv.row]
    unfold State.spdmDeliver
    simp only [hv.spdm, hencap] <;> rfl
  have hkept := (w.spdmAnswer_pieces tr m 0x6b ([0#8, 1#8, 0#8, 0#8, 0#8, 0#8] ++ askCertificate)).trans
    ((v.setSpdm_pieces tr _).trans hv.pieces)
  have hspdm := w.spdmAnswer_spdm tr m 0x6b ([0#8, 1#8, 0#8, 0#8, 0#8, 0#8] ++ askCertificate)
  refine ⟨_, exec_of_kept (c := .deliverEncapsulatedResponse tr m ok root) (by rw [← hop]; rfl)
    (by simp [Instr.wellFormed, Instr.units, Instr.partsOk, hopen.2.1, hroot]) hopen.1 (State.only_mono (by decide) hkept), ?_, ?_,
    State.changesOnly_of_spdm hkept⟩
  · rw [hspdm, hw]
    rfl
  · exact State.spdmSent_of_answer hwlink (by rw [hspdm]; exact ⟨rfl, rfl⟩) rfl (by rw [hw])

theorem chain_decides_the_role {ok : Bool} {root : List Byte} {y : Session} (hopen : s.spdmOpen tr m) (hroot : root.length = 48)
    (hencap : (s.spdm tr).encap = 2) (hy : (s.spdm tr).session = some y) :
    ∃ t, exec (.deliverEncapsulatedResponse tr m ok root) s = .next t ∧ (t.spdm tr).encap = 0 ∧
      (t.spdm tr).session = some { y with chain := ok, secure := ok && s.rootProvisioned root, sent := y.sent + 1 } ∧
      s.spdmSent t (some y) tr m 0x6b [0#8, 0#8, 0#8, 0#8, 0#8, 0#8] ∧ s.changesOnly t [.sec, .link, .trx, .free] := by
  obtain ⟨v, hv⟩ := State.spdmRow_of_open hopen
  have hprov : v.rootProvisioned root = s.rootProvisioned root := congrArg (fun x => x.rootProvisioned root) hv.only
  let w := v.setSpdm tr (fun x => { x with
    encap := 0, session := x.session.map (fun y => { y with chain := ok, secure := ok && v.rootProvisioned root }) })
  have hw : w.spdm tr = { s.spdm tr with
      encap := 0, session := some { y with chain := ok, secure := ok && s.rootProvisioned root } } := by
    rw [State.setSpdm_spdm, hv.spdm, hprov, hy]
    rfl
  have hwlink : w.link = s.link := hv.link
  have hop : opDeliverEncapsulatedResponse tr m ok root s = w.spdmAnswer tr m 0x6b [0#8, 0#8, 0#8, 0#8, 0#8, 0#8] := by
    rw [opDeliverEncapsulatedResponse, hv.row]
    unfold State.spdmDeliver
    simp only [hv.spdm, hencap] <;> rfl
  have hkept := (w.spdmAnswer_pieces tr m 0x6b [0#8, 0#8, 0#8, 0#8, 0#8, 0#8]).trans ((v.setSpdm_pieces tr _).trans hv.pieces)
  have hspdm := w.spdmAnswer_spdm tr m 0x6b [0#8, 0#8, 0#8, 0#8, 0#8, 0#8]
  refine ⟨_, exec_of_kept (c := .deliverEncapsulatedResponse tr m ok root) (by rw [← hop]; rfl)
    (by simp [Instr.wellFormed, Instr.units, Instr.partsOk, hopen.2.1, hroot]) hopen.1 (State.only_mono (by decide) hkept), ?_,
        ?_, ?_,
    State.changesOnly_of_spdm hkept⟩
  · rw [hspdm, hw]
    rfl
  · rw [hspdm, hw]
    rfl
  · obtain ⟨hlast, -, hup⟩ := State.spdmSent_of_answer (tr := tr) (m := m) (y := (w.spdm tr).session) hwlink
      (by rw [hspdm]; exact ⟨rfl, rfl⟩) rfl rfl
    have hcarried : ((w.spdmAnswer tr m 0x6b [0#8, 0#8, 0#8, 0#8, 0#8, 0#8]).spdm tr).carried =
        spdmCarried { s.spdm tr with session := some y } tr (spdmMessage 0x6b [0#8, 0#8, 0#8, 0#8, 0#8, 0#8]) := by
      rw [hspdm, hw]
      cases tr <;> rfl
    refine ⟨hlast, hcarried, fun htr => ?_⟩
    rw [hup htr, hw]
    rfl

/-! ### KEY_UPDATE and END_SESSION -/

/-- A session whose keys KEY_UPDATE moves (R333). -/
def Session.updated (y : Session) (all : Bool) : Session :=
  { y with
    keyNo := y.keyNo + 1, out := if all then spdmExpand y.out 48 "traffic upd" [] else y.out, sent := if all then 0 else y.sent }

/-- UpdateAllKeys moves the epochs of every encrypted course (R333). -/
def State.epochsMove (s : State) : State :=
  forAll (List.range 12) (fun c u => if (u.course c).encrypted then u.setCourse c (fun x => { x with moveAll := true }) else u) s

theorem forAll_moveAll (l : List Nat) (s : State) {c : Nat} (hc : c ∈ l ∨ (s.course c).moveAll = true) (henc :
    (s.course c).encrypted = true) :
    ((forAll l (fun c u => if (u.course c).encrypted then u.setCourse c (fun x => { x with moveAll :=
        true }) else u) s).course c).moveAll =
      true := by
  induction l generalizing s with
  | nil => exact hc.resolve_left List.not_mem_nil
  | cons a l ih =>
    rw [forAll_cons]
    by_cases ha : c = a
    · subst ha
      rw [if_pos henc]
      refine ih _ (.inr ?_) ?_
      · rw [State.setCourse_course_self]
      · rw [State.setCourse_course_self]
        exact henc
    · have hsame : (if (s.course a).encrypted then s.setCourse a (fun x => { x with moveAll :=
        true }) else s).course c = s.course c := by
        split
        · exact State.setCourse_course_of_ne _ _ ha
        · rfl
      refine ih _ ?_ (by rw [hsame]; exact henc)
      rw [hsame]
      exact hc.imp (fun h => (List.mem_cons.1 h).resolve_left ha) id

theorem State.epochsMove_pieces (s : State) : s.epochsMove.only (Piece.all.filter fun p => p != .courses) =
    s.only (Piece.all.filter fun p => p != .courses) := by
  refine State.only_forAll (fun c u => ?_) _ _
  split
  · exact State.setCourse_only (by decide) ..
  · rfl

theorem State.epochsMove_course {c : Nat} (hc : c < 12) (henc : (s.course c).encrypted = true) :
    (s.epochsMove.course c).moveAll = true := forAll_moveAll _ s (.inl (List.mem_range.2 hc)) henc

/-- What KEY_UPDATE does to the epochs of the courses. -/
def State.epochsUpdated (s : State) (tr : Transport) (all : Bool) : State :=
  match tr, all with
  | .link, true => s.epochsMove
  | _, _ => s

theorem State.epochsUpdated_pieces (s : State) (tr : Transport) (all : Bool) :
    (s.epochsUpdated tr all).only (Piece.all.filter fun p => p != .courses) = s.only (Piece.all.filter fun p => p != .courses) := by
  cases tr with
  | smp => rfl
  | link =>
    cases all with
    | false => rfl
    | true => exact s.epochsMove_pieces

theorem State.spdmUpdate_of_live {all : Bool} (h : (s.spdm tr).live = true) : s.spdmUpdate tr m all =
    ((s.setSpdm tr (fun x => { x with session := x.session.map (fun y => y.updated all) })).spdmAnswer tr m 0x69
      [if all then 2#8 else 1#8, Config.spdmByte s.free 0]).epochsUpdated tr all := by
  unfold State.spdmUpdate
  rw [h]
  cases tr <;> cases all <;> rfl

theorem keys_updated {all : Bool} {y : Session} (hopen : s.spdmOpen tr m) (hy : (s.spdm tr).session = some y)
    (hlive : y.live = true) :
    ∃ t, exec (.keyUpdate tr m all) s = .next t ∧
      (t.spdm tr).session = some { y with
        keyNo := y.keyNo + 1, out := if all then spdmExpand y.out 48 "traffic upd" [] else y.out
        sent := if all then 1 else y.sent + 1 } ∧
      (t.spdm tr).last = some (0x69, [if all then 2#8 else 1#8, Config.spdmByte s.free 0]) ∧
      (∀ c, c < 12 → tr = .link → all = true → (s.course c).encrypted = true → (t.course c).moveAll = true) ∧
      s.changesOnly t [.sec, .link, .trx, .free] := by
  obtain ⟨v, hv⟩ := State.spdmRow_of_open hopen
  let w := v.setSpdm tr (fun x => { x with session := x.session.map (fun y => y.updated all) })
  have hw : w.spdm tr = { s.spdm tr with session := some (y.updated all) } := by
    rw [State.setSpdm_spdm, hv.spdm, hy]
    rfl
  let u := w.spdmAnswer tr m 0x69 [if all then 2#8 else 1#8, Config.spdmByte s.free 0]
  have hop : opKeyUpdate tr m all s = u.epochsUpdated tr all := by
    rw [opKeyUpdate, hv.row, State.spdmUpdate_of_live (by rw [hv.spdm, Spdm.live, hy]; exact hlive), hv.free]
  have hkept : (u.epochsUpdated tr all).only spdmPieces = s.only spdmPieces :=
    (State.only_mono (by decide) (u.epochsUpdated_pieces tr all)).trans
      ((w.spdmAnswer_pieces tr m 0x69 _).trans ((v.setSpdm_pieces tr _).trans hv.pieces))
  have hspdm : (u.epochsUpdated tr all).spdm tr = ({ s.spdm tr with session := some (y.updated all) } : Spdm).answered tr 0x69
      [if all then 2#8 else 1#8, Config.spdmByte s.free 0] := by
    rw [State.spdm_of_sec (State.sec_of_only (State.only_mono (by decide) (u.epochsUpdated_pieces tr all))), ← hw]
    exact w.spdmAnswer_spdm tr m 0x69 _
  refine ⟨_, exec_of_kept (c := .keyUpdate tr m all) (by rw [← hop]; rfl)
    (by simp [Instr.wellFormed, Instr.units, Instr.partsOk, hopen.2.1]) hopen.1 (State.only_mono (by decide) hkept), ?_, ?_, ?_,
    State.changesOnly_of_spdm hkept⟩
  · rw [hspdm]
    cases all <;> rfl
  · rw [hspdm]
    rfl
  · intro c hc htr hall henc
    subst htr hall
    refine State.epochsMove_course hc ?_
    have hcourses : u.link.courses = s.link.courses := (w.spdmAnswer_courses .link m 0x69 _).trans (congrArg LinkSt.courses hv.link)
    have hcourse : u.course c = s.course c := by
      unfold State.course
      rw [hcourses]
    rw [hcourse]
    exact henc

theorem session_ended {y : Session} (hopen : s.spdmOpen tr m) (hy : (s.spdm tr).session = some y) (hlive : y.live = true) :
    ∃ t, exec (.endSession tr m) s = .next t ∧ (t.spdm tr).session = none ∧ (t.spdm tr).encap = 0 ∧ (t.spdm tr).held = none ∧
      s.spdmSent t (some y) tr m 0x6c [0#8, 0#8] ∧ t.link.courses = s.link.courses ∧ s.changesOnly t [.sec, .link, .trx,
          .free] := by
  obtain ⟨v, hv⟩ := State.spdmRow_of_open hopen
  let u := v.spdmAnswer tr m 0x6c [0#8, 0#8]
  let t := u.setSpdm tr (fun x => { x with session := none, encap := 0, held := none })
  have hop : opEndSession tr m s = t := by
    have hlive' : (v.spdm tr).live = true := by rw [hv.spdm, Spdm.live, hy]; exact hlive
    rw [opEndSession, hv.row, State.spdmEnd, hlive']
    exact if_neg (by decide)
  have hkept : t.only spdmPieces = s.only spdmPieces := (u.setSpdm_pieces tr _).trans
      ((v.spdmAnswer_pieces tr m 0x6c _).trans hv.pieces)
  have hspdm : t.spdm tr = { (s.spdm tr).answered tr 0x6c [0#8, 0#8] with session := none, encap := 0, held := none } := by
    rw [State.setSpdm_spdm, State.spdmAnswer_spdm, hv.spdm]
  have htlink : t.link = u.link := rfl
  refine ⟨_, exec_of_kept (c := .endSession tr m) (by rw [← hop]; rfl)
    (by simp [Instr.wellFormed, Instr.units, Instr.partsOk, hopen.2.1]) hopen.1 (State.only_mono (by decide) hkept), ?_, ?_, ?_,
        ?_, ?_,
    State.changesOnly_of_spdm hkept⟩
  · rw [hspdm]
  · rw [hspdm]
  · rw [hspdm]
  · exact State.spdmSent_of_answer hv.link (by rw [hspdm, hv.spdm]; exact ⟨rfl, rfl⟩) (congrArg LinkSt.upQ htlink) (by rw
      [hv.spdm, hy])
  · rw [htlink, v.spdmAnswer_courses, hv.link]

/-! ### KEY_EXCHANGE -/

/-- What the DRBG draws does not depend on what an SPDM request has taken. -/
theorem State.SpdmServed.drawn {v : State} (hv : s.SpdmServed v tr m) (n : Nat) : (v.reseed.random n).1 = (s.reseed.random n).1 :=
  congrArg (fun x => (x.reseed.random n).1) hv.only

theorem exchange_opens_session {share d : Nat} {ma : Bool} {g hs random out : List Byte} (hopen : s.spdmOpen tr m)
    (hstage : (s.spdm tr).stage = 3) (hnone : (s.spdm tr).session = none) (hdrbg : s.sec.drbgOk = true)
    (hcurve : onCurve (pointOf (beBytes 96 share)) = true) (hg : g = (s.reseed.random 90).1) (hd : d = privateKey (g.take 56))
    (hrandom : random = (g.drop 56).take 32) (hhs : hs = handshakeSecret (ecdh d (pointOf (beBytes 96 share))))
    (hout : out = spdmExpand hs 48 "rsp hs data" (spdmHash s.free random)) :
    ∃ t, exec (.keyExchange tr m share ma) s = .next t ∧
      s.spdmSent t none tr m 0x64 (exchangeBody s.inst s.free (leNat (g.drop 88)) d ma random out) ∧ (t.spdm tr).encap = b2n ma ∧
      (t.spdm tr).session.map (fun z => (z.live, z.secure, z.mauth, z.hs, z.out, z.sent)) = some (false, false, ma, hs, out, 0) ∧
      s.changesOnly t [.sec, .link, .trx, .free, .regs] := by
  obtain ⟨v, hv⟩ := State.spdmRow_of_open hopen
  have hgv : (v.reseed.random 90).1 = g := (hv.drawn 90).trans hg.symm
  let w := (v.reseed.random 90).2
  have hwspdm : w.spdm tr = s.spdm tr := (State.spdm_of_connections (v.exchange_connections 90)).trans hv.spdm
  have hwlink : w.link = s.link := (State.link_of_only
    ((State.random_only (by decide) ..).trans (State.reseed_only (by decide) ..))).trans hv.link
  let whole := leNat [Config.spdmByte s.free 0, Config.spdmByte s.free 1] + leNat (g.drop 88) * 2 ^ 16
  let u := w.spdmAnswer tr m 0x64 (exchangeBody s.inst s.free (leNat (g.drop 88)) d ma random out)
  let t := u.setSpdm tr (fun x => { x with session := some ⟨0, false, false, ma, false, 0, whole, hs, out, 0⟩, encap := b2n ma })
  have hop : opKeyExchange tr m share ma s = t := by
    rw [opKeyExchange, hv.row]
    unfold State.spdmExchange State.spdmNegotiated
    rw [if_pos (by rw [hv.spdm, hstage])]
    dsimp only
    rw [if_neg (by rw [hv.spdm, hnone]; decide), if_neg (by rw [hv.sec, hdrbg]; decide), if_neg (by rw [hcurve]; decide)]
    rw [hgv, hv.free, hv.inst, ← hd, ← hrandom, ← hhs, ← hout]
  have hkept : t.only (spdmPieces.filter (· != .regs)) = s.only (spdmPieces.filter (· != .regs)) :=
    (State.setSpdm_only (by decide) ..).trans ((State.spdmAnswer_only (by decide) ..).trans
      ((State.random_only (by decide) ..).trans ((State.reseed_only (by decide) ..).trans (State.only_mono (by decide) hv.only))))
  have hspdm : t.spdm tr = { (s.spdm tr).answered tr 0x64 (exchangeBody s.inst s.free (leNat (g.drop 88)) d ma random out) with
      session := some ⟨0, false, false, ma, false, 0, whole, hs, out, 0⟩, encap := b2n ma } := by
    rw [State.setSpdm_spdm, State.spdmAnswer_spdm, hwspdm]
  refine ⟨_, exec_of_kept (c := .keyExchange tr m share ma) (by rw [← hop]; rfl)
    (by simp [Instr.wellFormed, Instr.units, Instr.partsOk, hopen.2.1]) hopen.1 (State.only_mono (by decide) hkept), ?_, ?_, ?_,
    State.changesOnly_of_only (State.only_mono (K := Piece.all.filter fun p =>
      p.part != .sec && p.part != .link && p.part != .trx && p.part != .free && p.part != .regs) (by decide) hkept) (by decide)⟩
  · exact State.spdmSent_of_answer hwlink (by rw [hspdm, hwspdm]; exact ⟨rfl, rfl⟩) (congrArg LinkSt.upQ (rfl : t.link = u.link))
      (by rw [hwspdm, hnone])
  · rw [hspdm]
  · rw [hspdm]
    rfl

/-! ### FINISH -/

/-- The link's keys follow from the exported secret of its session (R334). -/
def State.keysOffered (s : State) (tr : Transport) (ems : Nat) : State :=
  match tr with
  | .link => (s.offerKeys ems).goOn
  | .smp => s

theorem State.offerKeys_connections (s : State) (ems : Nat) : (s.offerKeys ems).connections = s.connections := by
  refine forAll_connections (fun c t => ?_) _ _
  split
  · rfl
  · exact State.connections_of_only (State.setCourse_only (by decide) ..)

theorem State.keysOffered_connections (s : State) (tr : Transport) (ems : Nat) :
    (s.keysOffered tr ems).connections = s.connections := by
  cases tr with
  | link => exact (State.goOn_connections _).trans (s.offerKeys_connections ems)
  | smp => rfl

theorem State.keysOffered_only (s : State) (tr : Transport) (ems : Nat) : (s.keysOffered tr ems).only [.link] = s.only [.link] := by
  cases tr with
  | link => exact (State.goOn_only (by decide) _).trans (State.offerKeys_only (by decide) ..)
  | smp => rfl

theorem State.upQ_of_only {t : State} (h : t.only [.link] = s.only [.link]) : t.link.upQ = s.link.upQ :=
  congrArg (fun x => x.link.upQ) h

/-- The session that FINISH establishes (R333). -/
def Session.established (y : Session) (free : Nat) : Session :=
  { y with
    live := true, secret := beNat (exportSecret y.hs (spdmHash free []))
    out := spdmExpand (masterSecret y.hs) 48 "rsp app data" (spdmHash free []), sent := 0 }

theorem State.spdmFinish_of_open {y : Session} (hy : (s.spdm tr).session = some y) (hlive : y.live = false)
    (hmauth : y.mauth = false) :
    s.spdmFinish tr m true = ((((s.spdmAnswer tr m 0x65 [0#8, 0#8]).setSpdm tr
      (fun x => { x with session := some (y.established s.free) })).count 0x5138).keysOffered tr
          (y.established s.free).secret) := by
  unfold State.spdmFinish
  rw [hy]
  dsimp only
  rw [if_neg (by rw [hlive]; decide), if_pos ⟨rfl, .inl (by rw [hmauth]; rfl)⟩]
  cases tr <;> rfl

theorem session_established {y : Session} (hopen : s.spdmOpen tr m) (hy : (s.spdm tr).session = some y) (hlive : y.live = false)
    (hmauth : y.mauth = false) :
    ∃ t, exec (.finish tr m true) s = .next t ∧
      (t.spdm tr).session = some { y with
        live := true, secret := beNat (exportSecret y.hs (spdmHash s.free []))
        out := spdmExpand (masterSecret y.hs) 48 "rsp app data" (spdmHash s.free []), sent := 0 } ∧
      s.spdmSent t (some y) tr m 0x65 [0#8, 0#8] := by
  obtain ⟨v, hv⟩ := State.spdmRow_of_open hopen
  let u := v.spdmAnswer tr m 0x65 [0#8, 0#8]
  let w := (u.setSpdm tr (fun x => { x with session := some (y.established s.free) })).count 0x5138
  let t := w.keysOffered tr (y.established s.free).secret
  have hop : opFinish tr m true s = t := by
    rw [opFinish, hv.row, State.spdmFinish_of_open (by rw [hv.spdm, hy]) hlive hmauth, hv.free]
  have hspdm : (s.withInputs (s.mirrorFrom t)).spdm tr =
      { (s.spdm tr).answered tr 0x65 [0#8, 0#8] with session := some (y.established s.free) } := by
    calc (s.withInputs (s.mirrorFrom t)).spdm tr = w.spdm tr :=
          State.spdm_of_connections ((State.mirrorFrom_connections s t).trans (w.keysOffered_connections tr _))
      _ = (u.setSpdm tr (fun x => { x with session := some (y.established s.free) })).spdm tr :=
          State.spdm_of_connections (State.connections_of_only (State.count_only (by decide) ..))
      _ = _ := by rw [State.setSpdm_spdm, State.spdmAnswer_spdm, hv.spdm]
  have hlink : (s.withInputs (s.mirrorFrom t)).only [.link] = u.only [.link] :=
    (State.mirrorFrom_only (by decide) s t).trans ((w.keysOffered_only tr _).trans ((State.count_only (by decide) ..).trans
      (rfl : (u.setSpdm tr _).only [.link] = u.only [.link])))
  refine ⟨_, exec_of_act (c := .finish tr m true) (t := t) (by rw [← hop]; rfl)
    (by simp [Instr.wellFormed, Instr.units, Instr.partsOk, hopen.2.1]) hopen.1, ?_, ?_⟩
  · rw [hspdm]
    rfl
  · exact State.spdmSent_of_answer hv.link (by rw [hspdm, hv.spdm]; exact ⟨rfl, rfl⟩) (State.upQ_of_only hlink) (by rw [hv.spdm,
      hy])

end

/-- Settles O26: each request is served at once (`State.spdmRow_of_open`), and what its answer leaves is the connection's own change
(`State.spdmAnswer_spdm`, `State.setSpdm_spdm`). -/
theorem spdmSessionsAndMutualAuthentication : Obligations.SpdmSessionsAndMutualAuthentication := by
  unfold Obligations.SpdmSessionsAndMutualAuthentication
  refine ⟨fun s tr m share d ma all y g hs random out hopen => ⟨?_, ?_, ?_⟩, fun s tr m ok root y hopen hroot => ⟨?_, ?_⟩⟩
  · exact exchange_opens_session hopen
  · exact session_established hopen
  · exact fun hy hlive => ⟨keys_updated hopen hy hlive, session_ended hopen hy hlive⟩
  · exact fun hencap => ⟨digests_asked_for hopen hencap, chain_asked_for hopen hroot hencap⟩
  · exact chain_decides_the_role hopen hroot

end Sys2Proof.Machine
end

section
/-! PROOFS. PWR_GOOD: what its fall keeps and what its rise starts (R43, R44, R92, R114; O8). -/

set_option Elab.async false

namespace Sys2Proof.Machine

section
variable {s : State} {env : BootEnv}

/-! ### PWR_GOOD at a new level -/

theorem pwrGood_falls (hgood : s.pins.pwrGood = true) :
    ∃ t, exec .pwrGoodFall s = .next t ∧
      t.pins.pwrGood = false ∧ t = State.cold t.pins t.nvm s.free s.pending ∧ t.pins.chRst = .const false ∧
      t.nvm.mem = s.nvm.mem ∧ t.nvm.otpCount = s.nvm.otpCount ∧ t.nvm.lockFuse = s.nvm.lockFuse ∧
      t.nvm.jobs = [] ∧ t.nvm.deferred = [] := by
  have hop : opPwrGoodFall s = s.powerFalls := if_pos hgood
  refine ⟨({ s with pins := { s.pins with pwrGood := false } } : State).withInputs s.powerFalls, ?_, rfl, rfl, rfl, rfl, rfl,
      rfl, rfl, rfl⟩
  rw [← hop]
  rfl

/-- The machine at the rise of PWR_GOOD, its supplies ready (R43, R45). -/
def State.powered (s : State) (env : BootEnv) : State :=
  { s with pins := { s.pins with pwrGood := true, regRdy := 7#3, wrstN := env.wrstN } }

/-- The rise of PWR_GOOD has the effect of start-up, which drives no input. -/
theorem exec_pwrGoodRise (henv : env.wellFormed = true) (hlow : s.pins.pwrGood = false)
    (hkept : ((s.powered env).startUp env).only [.inputs, .pending] = (s.powered env).only [.inputs, .pending]) :
    exec (.pwrGoodRise env) s = .next ((s.powered env).startUp env) := by
  have hop : opPwrGoodRise env s = (s.powered env).startUp env := if_neg (by rw [hlow]; decide)
  have hwf : (Instr.pwrGoodRise env).wellFormed = true := by simp [Instr.wellFormed, Instr.units, Instr.partsOk, henv]
  have hpins : (s.powered env).only [.inputs, .pending] =
      ({ s with pins := { s.pins with pwrGood := true } } : State).only [.inputs, .pending] := rfl
  change actPower true (Instr.pwrGoodRise env).wellFormed s (opPwrGoodRise env s) = _
  rw [hwf, hop]
  exact congrArg Host.Outcome.next (State.inputsAlike_of_only (hkept.trans hpins)).withInputs_eq

/-! ### HALTED (R114) -/

/-- From `s` to `t` start-up has halted for a reason, with FAULT_N asserted. -/
structure State.Halted (s t : State) (code : FailCode) : Prop where
  stage : t.boot.stage = .halted
  fail : t.boot.fail = code
  waiting : t.boot.waiting = false
  resets : t.pins.chRst = .const false
  asserts : t.flt.asserts = (s.flt.asserts + 1) % 2 ^ 32
  pulse : t.flt.pulseEnd.isSome = true

theorem State.halt_halted (s : State) (code : FailCode) : s.Halted (s.halt code false) code := ⟨rfl, rfl, rfl, rfl, rfl, rfl⟩

theorem State.Halted.congr {u t : State} {code : FailCode} (h : u.Halted t code) (hflt : u.flt = s.flt) : s.Halted t code :=
  ⟨h.stage, h.fail, h.waiting, h.resets, hflt ▸ h.asserts, h.pulse⟩

/-! ### Steps 1 to 3 (R92) -/

/-- Step 1: the words on which NVM_ERR will rise are those of the part. -/
def State.romStage (s : State) (env : BootEnv) : State := { s.setStage .rom with nvm := { s.nvm with badWords := env.badWords } }

/-- D5 to D7 are switched on. -/
def State.romOn (s : State) (env : BootEnv) : State := forAll [5, 6, 7] (fun d t => t.switchOn d) (s.romStage env)

/-- Every channel group is in NOREF. -/
def State.romNoref (s : State) (env : BootEnv) : State := forAll (List.range 16) (fun g t => t.enterNoref g) (s.romOn env)

/-- A domain that start-up switches on first does not wake. -/
def coreDead (env : BootEnv) : Bool := env.deadDomain.contains 5 || env.deadDomain.contains 6 || env.deadDomain.contains 7

theorem coreDead_eq (env : BootEnv) : [5, 6, 7].any (fun d => env.deadDomain.contains d) = coreDead env := by
  simp only [coreDead, List.any_cons, List.any_nil, Bool.or_false, Bool.or_assoc]

theorem State.startUp_of_false {u : State} (h : s.bootRom env = (false, u)) : s.startUp env = u := by
  rw [State.startUp, h]

theorem State.startUp_of_low {u : State} (h : s.bootRom env = (true, u)) (hlow : u.pins.nvmRdy = false) :
    s.startUp env = { u with boot := { u.boot with waiting := true, stageAt := u.now } } := by
  rw [State.startUp, h]
  exact if_neg (by rw [hlow]; decide)

theorem State.bootRom_of_dead (hdead : coreDead env = true) : s.bootRom env = (false, (s.romStage env).halt .domainWake false) :=
  if_pos ((coreDead_eq env).trans hdead)

theorem State.bootRom_of_alive (hdead : coreDead env = false) : s.bootRom env =
    if !env.romOk then (false, (s.romOn env).halt .romCheck false)
    else if !env.fuseOk then (false, (s.romOn env).halt .fuse false)
    else if !env.entropyOk then (false, (s.romNoref env).halt .entropy false)
    else (true, (s.romNoref env).startDrbg) := if_neg (by rw [(coreDead_eq env), hdead]; decide)

theorem State.romOn_only {K : List Piece} (hK : .pins ∉ K ∧ .doms ∉ K ∧ .boot ∉ K ∧ .nvm ∉ K) (s : State) :
    (s.romOn env).only K = s.only K := by
  have hstage : (s.romStage env).only K = s.only K := by simp [State.romStage, State.only, State.setStage, hK, NvmSt.only]
  refine (State.only_forAll (fun d t => State.switchOn_only ⟨hK.1, hK.2.1⟩ t d) _ _).trans hstage

theorem State.romNoref_only {K : List Piece} (hK : .cal ∉ K) (s : State) : (s.romNoref env).only K = (s.romOn env).only K :=
  State.only_forAll (fun g t => State.enterNoref_only hK t g) _ _

theorem State.romOn_on (s : State) {d : Nat} (hd : d = 5 ∨ d = 6 ∨ d = 7) : (s.romOn env).domOn d = true := by
  obtain rfl | rfl | rfl := hd
  all_goals simp [State.romOn, forAll_cons, State.switchOn, State.domOn, State.dom, State.setDom, Tbl.get_upd]

/-- The ROM's checks have passed, and D5 to D7 are on: the DRBG is in service (R92). -/
theorem State.bootRom_of_alive_good (hdead : coreDead env = false)
    (hgood : env.romOk = true ∧ env.fuseOk = true ∧ env.entropyOk = true) :
    ∃ u, s.bootRom env = (true, u) ∧ u.sec.drbgOk = true ∧
      ∀ {K : List Piece}, (.cal ∉ K ∧ .sec ∉ K ∧ .free ∉ K) → u.only K = (s.romOn env).only K := by
  obtain ⟨hromOk, hfuseOk, hentropyOk⟩ := hgood
  refine ⟨(s.romNoref env).startDrbg, ?_, rfl, fun hK => (State.startDrbg_only hK.2 _).trans (State.romNoref_only hK.1 s)⟩
  rw [State.bootRom_of_alive hdead, hromOk, hfuseOk, hentropyOk]
  rfl

/-! ### The rise (R43, R92, R114) -/

variable (henv : env.wellFormed = true) (hlow : s.pins.pwrGood = false)
include henv hlow

/-- A start-up that halts for a reason, from a state that steps 1 to 3 have reached. -/
theorem exec_pwrGoodRise_of_halt {u : State} {code : FailCode} (hrom : (s.powered env).bootRom env = (false, u.halt code false))
    (hu : u.only (Piece.all.filter fun p => p.part != .boot && p.part != .nvm && p.part != .pwr && p != .pins && p.part != .cal) =
      (s.powered env).only
          (Piece.all.filter fun p => p.part != .boot && p.part != .nvm && p.part != .pwr && p != .pins && p.part != .cal)) :
    ∃ t, exec (.pwrGoodRise env) s = .next t ∧ s.Halted t code ∧ s.changesOnly t [.boot, .nvm, .pwr, .pins, .flt, .cal] := by
  have hstart : (s.powered env).startUp env = u.halt code false := State.startUp_of_false hrom
  have hhalt {K : List Piece} (hK : .pins ∉ K ∧ .nvm ∉ K ∧ .pinFlt ∉ K ∧ .boot ∉ K)
      (hKu : K ⊆ Piece.all.filter fun p => p.part != .boot && p.part != .nvm && p.part != .pwr && p != .pins && p.part != .cal) :
      ((s.powered env).startUp env).only K = (s.powered env).only K := by
    rw [hstart]
    exact (State.halt_only hK u code false).trans (State.only_mono hKu hu)
  refine ⟨_, exec_pwrGoodRise henv hlow (hhalt (by decide) (by decide)), ?_, ?_⟩
  · rw [hstart]
    exact (u.halt_halted code).congr (congrArg (fun x => x.flt) hu)
  · exact State.changesOnly_of_only (K := Piece.all.filter fun p =>
      p.part != .boot && p.part != .nvm && p.part != .pwr && p.part != .pins && p.part != .flt && p.part != .cal)
      ((hhalt (by decide) (by decide)).trans rfl) (by decide)

theorem rise_halts_of_dead (hdead : coreDead env = true) :
    ∃ t, exec (.pwrGoodRise env) s = .next t ∧ s.Halted t .domainWake ∧ s.changesOnly t [.boot, .nvm, .pwr, .pins, .flt, .cal] :=
  exec_pwrGoodRise_of_halt henv hlow (State.bootRom_of_dead hdead) rfl

theorem rise_halts_of_failed_check (hdead : coreDead env = false)
    (hbad : env.romOk = false ∨ env.fuseOk = false ∨ env.entropyOk = false) :
    ∃ t, exec (.pwrGoodRise env) s = .next t ∧
      s.Halted t (if env.romOk = false then .romCheck else if env.fuseOk = false then .fuse else .entropy) ∧
      s.changesOnly t [.boot, .nvm, .pwr, .pins, .flt, .cal] := by
  have hon := State.romOn_only (env := env) (K := Piece.all.filter fun p =>
    p.part != .boot && p.part != .nvm && p.part != .pwr && p != .pins && p.part != .cal) (by decide) (s.powered env)
  have hrom := State.bootRom_of_alive (s := s.powered env) hdead
  cases hromOk : env.romOk with
  | false =>
    rw [hromOk] at hrom
    exact exec_pwrGoodRise_of_halt henv hlow hrom hon
  | true =>
    cases hfuseOk : env.fuseOk with
    | false =>
      rw [hromOk, hfuseOk] at hrom
      exact exec_pwrGoodRise_of_halt henv hlow hrom hon
    | true =>
      have hentropyOk : env.entropyOk = false := by simpa [hromOk, hfuseOk] using hbad
      rw [hromOk, hfuseOk, hentropyOk] at hrom
      exact exec_pwrGoodRise_of_halt henv hlow hrom ((State.romNoref_only (by decide) _).trans hon)

theorem rise_waits_for_nvm (hdead : coreDead env = false) (hrdy : s.pins.nvmRdy = false)
    (hgood : env.romOk = true ∧ env.fuseOk = true ∧ env.entropyOk = true) :
    ∃ t, exec (.pwrGoodRise env) s = .next t ∧ t.pins.pwrGood = true ∧ t.boot.stage = .rom ∧ t.boot.waiting = true ∧
      t.domOn 5 = true ∧ t.domOn 6 = true ∧ t.domOn 7 = true ∧ t.sec.drbgOk = true ∧ t.nvm.mem = s.nvm.mem ∧
      s.changesOnly t [.boot, .nvm, .pwr, .pins, .sec, .cal, .free] := by
  obtain ⟨u, hrom, hdrbg, hnoref⟩ := State.bootRom_of_alive_good (s := s.powered env) hdead hgood
  have hu {K : List Piece} (hK : (.cal ∉ K ∧ .sec ∉ K ∧ .free ∉ K) ∧ .pins ∉ K ∧ .doms ∉ K ∧ .boot ∉ K ∧ .nvm ∉ K) :
      u.only K = (s.powered env).only K := (hnoref hK.1).trans (State.romOn_only hK.2 _)
  have hstart : (s.powered env).startUp env = { u with boot := { u.boot with waiting := true, stageAt := u.now } } :=
    State.startUp_of_low hrom ((congrArg (fun x => x.pins.nvmRdy) (hu (K := [.inputs]) (by decide))).trans hrdy)
  have hdoms (d : Nat) : u.domOn d = ((s.powered env).romOn env).domOn d := congrArg (fun x => x.domOn d) (hnoref (K := [.doms])
      (by decide))
  have hboot : u.boot.stage = .rom := congrArg (fun x => x.boot.stage) (hnoref (K := [.boot]) (by decide))
  have hmem : u.nvm.mem = s.nvm.mem := congrArg (fun x => x.nvm.mem) (hu (K := [.mem]) (by decide))
  refine ⟨_, exec_pwrGoodRise henv hlow (hstart ▸ hu (K := [.inputs, .pending]) (by decide)), ?_⟩
  rw [hstart]
  exact ⟨congrArg (fun x => x.pins.pwrGood) (hu (K := [.inputs]) (by decide)), hboot, rfl, (hdoms 5).trans (State.romOn_on _
      (by simp)),
    (hdoms 6).trans (State.romOn_on _ (by simp)), (hdoms 7).trans (State.romOn_on _ (by simp)), hdrbg, hmem,
    State.changesOnly_of_only (K :=
        Piece.all.filter fun p => p.part != .boot && p.part != .nvm && p.part != .pwr && p.part != .pins &&
      p.part != .sec && p.part != .cal && p.part != .free) ((hu (by decide)).trans rfl) (by decide)⟩

end

/-- Settles O8: the fall leaves the cold state, and the rise runs steps 1 to 3 (`State.bootRom_of_dead`,
    `State.bootRom_of_alive`). -/
theorem powerGoodFallsAndRises : Obligations.PowerGoodFallsAndRises := by
  unfold Obligations.PowerGoodFallsAndRises
  refine ⟨fun s hgood => pwrGood_falls hgood, fun env s henv hlow hrdy => ⟨fun halive => ⟨?_, ?_⟩, fun hdead => ?_⟩⟩
  · exact rise_waits_for_nvm henv hlow halive hrdy
  · intro hbad
    obtain ⟨t, hexec, ⟨hstage, hfail, -, -, hasserts, hpulse⟩, honly⟩ := rise_halts_of_failed_check henv hlow halive hbad
    exact ⟨t, hexec, hstage, hfail, hasserts, hpulse, honly⟩
  · obtain ⟨t, hexec, ⟨hstage, hfail, -, hresets, hasserts, -⟩, -⟩ := rise_halts_of_dead henv hlow hdead
    exact ⟨t, hexec, hstage, hfail, hresets, hasserts⟩

end Sys2Proof.Machine
end

section
/-! PROOFS. The NVM port: words, failed accesses and NVM_RDY (R32 to R34, R93, R114; O9). -/

set_option Elab.async false

namespace Sys2Proof.Machine

section
variable {s : State} {j : NvmJob} {w : Nat × BitVec 64} {rest : List (Nat × BitVec 64)}

/-! ### Jobs and the word under access -/

theorem State.nvmFail_nvm (s : State) (addr : Nat) (err write : Bool) : (s.nvmFail addr err write).nvm = s.nvm :=
  State.nvm_of_only (State.nvmFail_only (by decide) ..)

theorem State.portJob_of_nvm {t : State} (h : t.nvm = s.nvm) : t.portJob = s.portJob := by
  unfold State.portJob
  rw [h]

theorem State.nvmAcked_of_port (hport : s.portJob = some j) (hwords : j.words = w :: rest) (err : Bool) :
    s.nvmAcked err = if err then s.wordFails j w.1 true else (s.wordLands j w rest).portNext := by
  unfold State.nvmAcked
  rw [hport]
  dsimp only
  rw [hwords]

/-- A record goes on with its next word (R33). -/
theorem State.wordLands_of_more (hrest : rest ≠ []) :
    s.wordLands j w rest = (when j.write (fun t => t.landWords [w]) s).setWords j rest :=
  if_neg (by rw [List.isEmpty_iff]; exact hrest)

theorem State.wordLanded_only {K : List Piece} (hK : .mem ∉ K ∧ .nvm ∉ K) (s : State) :
    ((when j.write (fun t => t.landWords [w]) s).setWords j rest).only K = s.only K := by
  rw [State.setWords_only hK.2, State.only_when, State.landWords_only hK, ite_self]

theorem State.wordLanded_mem (s : State) : ((when j.write (fun t => t.landWords [w]) s).setWords j rest).nvm.mem =
    if j.write then memWriteWord s.nvm.mem w.1 w.2 else s.nvm.mem := by
  cases hwrite : j.write <;> rfl

theorem State.wordLanded_jobs (s : State) : ((when j.write (fun t => t.landWords [w]) s).setWords j rest).nvm.jobs =
    s.nvm.jobs.map (fun x => if x = j then { x with words := rest } else x) := by
  cases hwrite : j.write <;> rfl

theorem State.wordLanded_deferred (s : State) :
    ((when j.write (fun t => t.landWords [w]) s).setWords j rest).nvm.deferred = s.nvm.deferred := by
  cases hwrite : j.write <;> rfl

theorem State.wordLanded_portJob (hport : s.portJob = some j) (hrest : rest ≠ []) :
    ((when j.write (fun t => t.landWords [w]) s).setWords j rest).portJob = some { j with words := rest } := by
  have hnonempty : (!j.words.isEmpty) = true := List.find?_some (p := fun x : NvmJob => !x.words.isEmpty) hport
  have hsame : ((fun x : NvmJob => !x.words.isEmpty) ∘ fun x : NvmJob => if x = j then { x with words := rest } else x) =
      fun x : NvmJob => !x.words.isEmpty := by
    funext x
    by_cases hx : x = j
    · rw [Function.comp_apply, if_pos hx, hx, hnonempty]
      simp [hrest]
    · simp [hx]
  unfold State.portJob
  rw [State.wordLanded_jobs, List.find?_map, hsame, show List.find? _ s.nvm.jobs = some j from hport]
  simp

theorem next_word (hrun : s.running = true) (hport : s.portJob = some j) (hwords : j.words = w :: rest) (hrest : rest ≠ []) :
    ∃ t, exec (.nvmAck false) s = .next t ∧ t.nvm.reqSince = some s.now ∧ t.portJob.map (fun x => x.words) = some rest ∧
      (∀ a, memRead t.nvm.mem a = memRead (if j.write then memWriteWord s.nvm.mem w.1 w.2 else s.nvm.mem) a) ∧
      s.changesOnly t [.nvm] := by
  let u := (when j.write (fun t => t.landWords [w]) s).setWords j rest
  have hop : opNvmAck false s = u.portNext := by
    rw [opNvmAck, State.nvmAcked_of_port hport hwords, State.wordLands_of_more hrest]
    rfl
  have honly {K : List Piece} (hK : .mem ∉ K ∧ .nvm ∉ K) : u.portNext.only K = s.only K :=
    (State.portNext_only hK.2 u).trans (State.wordLanded_only (w := w) (j := j) (rest := rest) hK s)
  have huport : u.portJob = some { j with words := rest } := State.wordLanded_portJob hport hrest
  have hnow : u.now = s.now := congrArg (fun x => x.now) (honly (K := [.time]) (by decide))
  refine ⟨u.portNext, exec_of_kept (c := .nvmAck false) (by rw [← hop]; rfl) rfl hrun (honly (by decide)), ?_, ?_, fun a => ?_,
    State.changesOnly_of_only (K := Piece.all.filter fun p => p.part != .nvm) (honly (by decide)) (by decide)⟩
  · rw [← hnow]
    exact if_pos (by rw [huport]; rfl)
  · rw [show u.portNext.portJob = u.portJob from rfl, huport]
    rfl
  · rw [show u.portNext.nvm.mem = u.nvm.mem from rfl, State.wordLanded_mem]

/-! ### The record of an event -/

theorem State.endJob_of_single {p : NvmWhy → Bool} {ok : Bool} (hjobs : s.nvm.jobs = [j]) (hp : p j.why = true) :
    (s.endJob p ok).nvm.jobs = [] ∧
      (s.endJob p ok).nvm.mem = (when (ok && j.write) (fun t => t.landWords j.words) s).nvm.mem ∧
      (s.endJob p ok).nvm.badWords = (when (ok && j.write) (fun t => t.landWords j.words) s).nvm.badWords := by
  have hjob : s.jobFor p = some j := by
    unfold State.jobFor
    rw [hjobs]
    exact List.find?_cons_of_pos hp
  have hleft : (when (ok && j.write) (fun t => t.landWords j.words) s).nvm.jobs = [j] := by
    rw [← hjobs]
    cases ok && j.write <;> rfl
  unfold State.endJob
  rw [hjob]
  refine ⟨?_, rfl, rfl⟩
  dsimp only
  rw [hleft]
  exact if_pos hp

theorem State.portNext_of_none (hjobs : s.nvm.jobs = []) : s.portNext.nvm = { s.nvm with reqSince := none } := by
  unfold State.portNext State.portJob
  rw [hjobs]
  rfl

/-- The words that are bad once an access to one has failed. -/
def withBad (l : List Nat) (a : Nat) : List Nat := if l.contains a then l else a :: l

theorem withBad_contains (l : List Nat) (a : Nat) : (withBad l a).contains a = true := by
  unfold withBad
  split
  · assumption
  · simp

/-- The failed write of an event's record ends it, with MRAM as it was (R32, R416). -/
theorem State.wordFails_of_log {q : Nat} {err : Bool} (hjobs : s.nvm.jobs = [j]) (hwhy : j.why = .eventLog q) (a : Nat) :
    (s.wordFails j a err).nvm.jobs = [] ∧ (s.wordFails j a err).nvm.reqSince = none ∧
      (s.wordFails j a err).nvm.badWords.contains a = true ∧ (s.wordFails j a err).nvm.mem = s.nvm.mem ∧
      (s.wordFails j a err).only keptPieces = s.only keptPieces := by
  let t := s.nvmFail a err j.write
  let u : State := { t with nvm := { t.nvm with badWords := withBad t.nvm.badWords a } }
  have hend : s.wordFails j a err = (u.endJob (fun x => x == j.why) false).portNext := by
    obtain ⟨why, write, words⟩ := j
    obtain rfl : why = .eventLog q := hwhy
    rfl
  have ht : t.nvm = s.nvm := s.nvmFail_nvm ..
  obtain ⟨hleft, hmem, hbad⟩ := State.endJob_of_single (s := u) (ok := false) (p := fun x => x == j.why)
    ((congrArg NvmSt.jobs ht).trans hjobs) (beq_self_eq_true _)
  rw [hend, State.portNext_of_none hleft]
  refine ⟨hleft, rfl, ?_, ?_, ?_⟩
  · rw [show ({ (u.endJob (fun x => x == j.why) false).nvm with reqSince := none } : NvmSt).badWords = _ from hbad]
    exact withBad_contains ..
  · rw [show ({ (u.endJob (fun x => x == j.why) false).nvm with reqSince := none } : NvmSt).mem = _ from hmem]
    exact (rfl : _ = t.nvm.mem).trans (congrArg NvmSt.mem ht)
  · exact (State.portNext_only (by decide) _).trans ((State.endJob_only (by decide) u ..).trans
      ((State.only_nvm t (by simp [NvmSt.only, keptPieces, mirrorPieces])).trans (State.nvmFail_only (by decide) s ..)))

theorem State.portJob_of_single (hjobs : s.nvm.jobs = [j]) (hwords : j.words = w :: rest) : s.portJob = some j := by
  unfold State.portJob
  rw [hjobs]
  exact List.find?_cons_of_pos (by rw [hwords]; rfl)

theorem bad_word_ends_record {q : Nat} (hrun : s.running = true) (hjobs : s.nvm.jobs = [j]) (hwords : j.words = w :: rest)
    (hwhy : j.why = .eventLog q) :
    ∃ t, exec (.nvmAck true) s = .next t ∧ t.nvm.jobs = [] ∧ t.nvm.reqSince = none ∧ t.nvm.badWords.contains w.1 = true ∧
      t.nvm.mem = s.nvm.mem := by
  obtain ⟨hleft, hreq, hbad, hmem, hkept⟩ := State.wordFails_of_log (err := true) hjobs hwhy w.1
  have hop : opNvmAck true s = s.wordFails j w.1 true := State.nvmAcked_of_port (State.portJob_of_single hjobs hwords) hwords true
  exact ⟨_, exec_of_kept (c := .nvmAck true) (by rw [← hop]; rfl) rfl hrun hkept, hleft, hreq, hbad, hmem⟩

theorem late_word_ends_record {q t0 : Nat} (hrun : s.running = true) (hjobs : s.nvm.jobs = [j]) (hwords : j.words = w :: rest)
    (hwhy : j.why = .eventLog q) (hreq : s.nvm.reqSince = some t0) (hlate : t0 + 4 ≤ s.now) :
    ∃ t, exec .nvmAccessTimeout s = .next t ∧ t.nvm.jobs = [] ∧ t.nvm.reqSince = none ∧ t.nvm.badWords.contains w.1 = true ∧
      t.nvm.mem = s.nvm.mem := by
  obtain ⟨hleft, hnone, hbad, hmem, hkept⟩ := State.wordFails_of_log (err := false) hjobs hwhy w.1
  have hop : opNvmAccessTimeout s = s.wordFails j w.1 false := by
    unfold opNvmAccessTimeout State.nvmLate
    rw [State.portJob_of_single hjobs hwords, hreq]
    dsimp only
    rw [if_pos hlate, hwords]
    rfl
  exact ⟨_, exec_of_kept (c := .nvmAccessTimeout) (by rw [← hop]; rfl) rfl hrun hkept, hleft, hnone, hbad, hmem⟩

theorem last_word_lands {q : Nat} (hrun : s.running = true) (hjobs : s.nvm.jobs = [⟨.eventLog q, true, [w]⟩]) :
    ∃ t, exec (.nvmAck false) s = .next t ∧ t.nvm.jobs = [] ∧ t.nvm.reqSince = none ∧
      t.nvm.mem = memWriteWord s.nvm.mem w.1 w.2 ∧ s.changesOnly t [.nvm, .evt, .regs] := by
  let u := (s.landWords [w]).setWords ⟨.eventLog q, true, [w]⟩ []
  let v := u.endJob (fun x => x == .eventLog q) true
  have hop : opNvmAck false s = (v.logWritten q).portNext :=
    (State.nvmAcked_of_port (State.portJob_of_single hjobs rfl) rfl false).trans rfl
  have hujobs : u.nvm.jobs = [⟨.eventLog q, true, []⟩] := by
    have hset : u.nvm.jobs = s.nvm.jobs.map (fun x => if x = ⟨.eventLog q, true, [w]⟩ then { x with words := [] } else x) := rfl
    rw [hset, hjobs, List.map_cons, if_pos rfl, List.map_nil]
  obtain ⟨hleft, hmem, -⟩ := State.endJob_of_single (ok := true) (p := fun x => x == .eventLog q) hujobs (beq_self_eq_true _)
  have hlog : (v.logWritten q).nvm = v.nvm := State.nvm_of_only (State.logWritten_only (by decide) ..)
  have hnext := State.portNext_of_none ((congrArg NvmSt.jobs hlog).trans hleft)
  have honly {K : List Piece} (hK : (.regs ∉ K ∧ .evt ∉ K) ∧ .mem ∉ K ∧ .nvm ∉ K) : (v.logWritten q).portNext.only K = s.only K :=
    (State.portNext_only hK.2.2 _).trans ((State.logWritten_only hK.1 ..).trans ((State.endJob_only hK.2 ..).trans
      ((State.setWords_only hK.2.2 ..).trans (State.landWords_only hK.2 s [w]))))
  refine ⟨_, exec_of_kept (c := .nvmAck false) (by rw [← hop]; rfl) rfl hrun (honly (by decide)), ?_, ?_, ?_,
    State.changesOnly_of_only (K := Piece.all.filter fun p => p.part != .nvm && p.part != .evt && p.part != .regs)
      (honly (by decide)) (by decide)⟩
  · rw [hnext, hlog]
    exact hleft
  · rw [hnext]
  · rw [hnext, hlog]
    exact hmem

/-! ### NVM_RDY falls (R34) -/

/-- NVM_RDY at a level. -/
def State.withRdy (s : State) (b : Bool) : State := { s with pins := { s.pins with nvmRdy := b } }

theorem State.withRdy_only {K : List Piece} (hK : .inputs ∉ K) (s : State) (b : Bool) : (s.withRdy b).only K = s.only K := by
  simp [State.withRdy, State.only, PinSt.only, hK]

theorem State.keyServe_of_none (h : s.trx.keyOps = []) : s.keyServe = s := if_pos (by rw [h]; rfl)

/-- What the fall of NVM_RDY has done to the word under access,
    none of whose records ends with it: the jobs wait with their words. -/
structure State.Torn (s t : State) : Prop where
  jobs : t.nvm.jobs.map (fun j => j.why) = s.nvm.jobs.map (fun j => j.why)
  waiting : ∀ j ∈ t.nvm.jobs, j.waits = true ∧ j.words.isEmpty = false
  deferred : t.nvm.deferred = s.nvm.deferred
  mem : ∀ a, memRead t.nvm.mem a = memRead s.nvm.mem a ∨
    ∃ j w, s.portJob = some j ∧ j.words.head? = some w ∧ a / 8 = w.1 % 0x100000
  kept : t.only keptPieces = (s.withRdy false).only keptPieces

theorem State.torn_of_nvm {t : State} (hwaits : ∀ j ∈ s.nvm.jobs, j.waits = true ∧ 2 ≤ j.words.length) (hnvm : t.nvm = s.nvm)
    (hkept : t.only keptPieces = (s.withRdy false).only keptPieces) : s.Torn t := by
  refine ⟨by rw [hnvm], fun j hj => ?_, by rw [hnvm], fun a => .inl (by rw [hnvm]), hkept⟩
  obtain ⟨hw, hlen⟩ := hwaits j (hnvm ▸ hj)
  exact ⟨hw, by rw [List.isEmpty_eq_false_iff, ← List.length_pos_iff]; omega⟩

theorem State.torn_of_landed {t : State} (hwaits : ∀ j ∈ s.nvm.jobs, j.waits = true ∧ 2 ≤ j.words.length)
    (hport : s.portJob = some j)
    (hwords : j.words = w :: rest) (hrest : rest ≠ []) (hnvm : t.nvm = s.nvm)
    (hkept : t.only keptPieces = (s.withRdy false).only keptPieces) :
    s.Torn ((when j.write (fun t => t.landWords [w]) t).setWords j rest) := by
  refine ⟨?_, fun x hx => ?_, ?_, fun a => ?_, (State.wordLanded_only (by decide) t).trans hkept⟩
  · rw [State.wordLanded_jobs, hnvm, List.map_map]
    refine List.map_congr_left fun x _ => ?_
    rw [Function.comp_apply]
    split <;> rfl
  · rw [State.wordLanded_jobs, hnvm, List.mem_map] at hx
    obtain ⟨y, hy, rfl⟩ := hx
    obtain ⟨hw, hlen⟩ := hwaits y hy
    split
    · exact ⟨hw, List.isEmpty_eq_false_iff.2 hrest⟩
    · exact ⟨hw, by rw [List.isEmpty_eq_false_iff, ← List.length_pos_iff]; omega⟩
  · rw [State.wordLanded_deferred, hnvm]
  · rw [State.wordLanded_mem, hnvm]
    by_cases ha : a / 8 = w.1 % 0x100000
    · exact .inr ⟨j, w, hport, by rw [hwords]; rfl, ha⟩
    · refine .inl ?_
      split
      · exact memRead_memWriteWord_ne _ _ _ _ ha
      · rfl

/-- The fall of NVM_RDY tears the word under access, and defers what waits (R34). -/
theorem State.nvmFalls_torn (hrdy : s.pins.nvmRdy = true) (hkeys : s.trx.keyOps = [])
    (hwaits : ∀ j ∈ s.nvm.jobs, j.waits = true ∧ 2 ≤ j.words.length) :
    ∃ t, s.Torn t ∧ s.nvmFalls =
      { t with nvm := { t.nvm with jobs := [], deferred := t.nvm.deferred ++ t.nvm.jobs, reqSince := none } } := by
  have hends (t : State) (ht : s.Torn t) :
      (forAll (t.nvm.jobs.filter (fun j => !j.waits && !j.words.isEmpty)) (fun j t => t.jobFails j)
        ({ t with nvm := { t.nvm with
          jobs := t.nvm.jobs.filter (fun j => !j.waits || j.words.isEmpty)
          deferred := t.nvm.deferred ++ t.nvm.jobs.filter (fun j => j.waits && !j.words.isEmpty)
          reqSince := none } } : State)).keyServe =
      { t with nvm := { t.nvm with jobs := [], deferred := t.nvm.deferred ++ t.nvm.jobs, reqSince := none } } := by
    have hcut : t.nvm.jobs.filter (fun j => !j.waits && !j.words.isEmpty) = [] :=
      List.filter_eq_nil_iff.2 fun j hj => by simp [(ht.waiting j hj).1]
    have hnone : t.nvm.jobs.filter (fun j => !j.waits || j.words.isEmpty) = [] :=
      List.filter_eq_nil_iff.2 fun j hj => by rw [(ht.waiting j hj).1, (ht.waiting j hj).2]; decide
    have hall : t.nvm.jobs.filter (fun j => j.waits && !j.words.isEmpty) = t.nvm.jobs :=
      List.filter_eq_self.2 fun j hj => by rw [(ht.waiting j hj).1, (ht.waiting j hj).2]; rfl
    rw [hcut, hnone, hall, forAll_nil]
    exact State.keyServe_of_none ((congrArg (fun x => x.trx.keyOps) ht.kept).trans hkeys)
  have hfail (a : Nat) (err write : Bool) : ((s.withRdy false).nvmFail a err write).only keptPieces =
      (s.withRdy false).only keptPieces :=
    State.nvmFail_only (by decide) ..
  unfold State.nvmFalls
  rw [if_neg (by rw [hrdy]; decide)]
  dsimp only
  cases hport : s.portJob with
  | none =>
    exact ⟨_, State.torn_of_nvm hwaits ((s.withRdy false).nvmFail_nvm 0 false false) (hfail ..),
      hends _ (State.torn_of_nvm hwaits ((s.withRdy false).nvmFail_nvm 0 false false) (hfail ..))⟩
  | some j =>
    have hlen : 2 ≤ j.words.length := (hwaits j (List.mem_of_find?_eq_some hport)).2
    obtain ⟨w, rest, hwords⟩ := List.exists_cons_of_length_pos (by omega : 0 < j.words.length)
    have hrest : rest ≠ [] := by
      rintro rfl
      rw [hwords, List.length_singleton] at hlen
      exact absurd hlen (by decide)
    have hfirst : (some j).bind (fun j => j.words.head?.map (fun w => (j, w))) = some (j, w) := by
      rw [Option.bind_some, hwords]
      rfl
    rw [hfirst]
    dsimp only
    let u := ((s.withRdy false).nvmFail w.1 false j.write).useFree
    have hu : u.nvm = s.nvm := (s.withRdy false).nvmFail_nvm w.1 false j.write
    have hukept : u.only keptPieces = (s.withRdy false).only keptPieces := (State.useFree_only (by decide) _).trans (hfail ..)
    by_cases hlands : bitAt s.freeVal 0 = true
    · have ht := State.torn_of_landed hwaits hport hwords hrest hu hukept
      refine ⟨_, ht, Eq.trans ?_ (hends _ ht)⟩
      rw [if_pos hlands, hwords, ← State.wordLands_of_more hrest]
      rfl
    · have ht := State.torn_of_nvm hwaits hu hukept
      refine ⟨u, ht, Eq.trans ?_ (hends u ht)⟩
      rw [if_neg hlands]
      rfl

theorem nvmRdy_falls (hrun : s.running = true) (hrdy : s.pins.nvmRdy = true) (hkeys : s.trx.keyOps = [])
    (hwaits : ∀ j ∈ s.nvm.jobs, j.waits = true ∧ 2 ≤ j.words.length) :
    ∃ t, exec .nvmRdyFall s = .next t ∧ t.pins.nvmRdy = false ∧ t.nvm.jobs = [] ∧ t.nvm.reqSince = none ∧
      t.nvm.deferred.map (fun j => j.why) = (s.nvm.deferred ++ s.nvm.jobs).map (fun j => j.why) ∧
      ∀ a, memRead t.nvm.mem a = memRead s.nvm.mem a ∨
        ∃ j w, s.portJob = some j ∧ j.words.head? = some w ∧ a / 8 = w.1 % 0x100000 := by
  obtain ⟨t, ht, hfalls⟩ := State.nvmFalls_torn hrdy hkeys hwaits
  let v : State := { t with nvm := { t.nvm with jobs := [], deferred := t.nvm.deferred ++ t.nvm.jobs, reqSince := none } }
  have hop : opNvmRdyFall s = v := hfalls
  have hkept : v.only keptPieces = (s.withRdy false).only keptPieces := ht.kept
  refine ⟨v, exec_of_pin (c := .nvmRdyFall) (u := s.withRdy false) (by rw [← hop]; rfl) rfl hrun
    ((State.only_mono (by decide) hkept).trans (s.withRdy_only (by decide) false)) (State.only_mono (by decide) hkept), ?_, rfl,
        rfl, ?_,
    ht.mem⟩
  · exact congrArg (fun x => x.pins.nvmRdy) hkept
  · rw [List.map_append, List.map_append, ht.deferred, ht.jobs]

/-! ### NVM_RDY rises (R34, R93, R114) -/

theorem State.drainWrites_of_none (hposted : s.regs.posted = []) (hstalled : s.regs.stalled = []) : s.drainWrites = s := by
  refine forAll_of_fixed fun p _ => ?_
  have hfirst : s.firstWaiting p = none := by
    unfold State.firstWaiting
    rw [hposted, hstalled]
    rfl
  unfold State.drainPath
  rw [hposted, hstalled]
  dsimp only [List.length_nil]
  rw [hfirst]

/-- The deferred records are on the port again (R34). -/
def State.resumed (s : State) : State :=
  ({ s.withRdy true with nvm := { s.nvm with jobs := s.nvm.jobs ++ s.nvm.deferred, deferred := [] } } : State).portNext

theorem nvmRdy_rises {env : BootEnv} (henv : env.wellFormed = true) (hrun : s.running = true) (hrdy : s.pins.nvmRdy = false)
    (hwait : s.boot.waiting = false) (hkeys : s.trx.keyOps = []) (hposted : s.regs.posted = []) (hstalled : s.regs.stalled = []) :
    ∃ t, exec (.nvmRdyRise env) s = .next t ∧ t.pins.nvmRdy = true ∧ t.nvm.jobs = s.nvm.jobs ++ s.nvm.deferred ∧
      t.nvm.deferred = [] ∧ s.changesOnly t [.nvm, .pins] := by
  have hop : opNvmRdyRise env s = s.resumed := by
    unfold opNvmRdyRise State.nvmRises
    rw [if_neg (by rw [hrdy]; decide)]
    dsimp only
    rw [if_neg (by rw [hwait]; decide)]
    exact (congrArg State.drainWrites (State.keyServe_of_none (s := s.resumed) hkeys)).trans
      (State.drainWrites_of_none (s := s.resumed) hposted hstalled)
  have hnvm {K : List Piece} (hK : .nvm ∉ K) : s.resumed.only K = (s.withRdy true).only K :=
    (State.portNext_only hK _).trans (State.only_nvm (s.withRdy true) (by simp [NvmSt.only, hK, State.withRdy]))
  have honly {K : List Piece} (hK : .nvm ∉ K ∧ .inputs ∉ K) : s.resumed.only K = s.only K := (hnvm hK.1).trans
      (s.withRdy_only hK.2 true)
  refine ⟨s.resumed, exec_of_pin (c := .nvmRdyRise env) (u := s.withRdy true) (by rw [← hop]; rfl)
    (by simp [Instr.wellFormed, Instr.units, Instr.partsOk, henv]) hrun (honly (by decide)) (hnvm (by decide)), rfl, rfl, rfl,
    State.changesOnly_of_only (K := Piece.all.filter fun p => p.part != .nvm && p.part != .pins) (honly (by decide)) (by decide)⟩

theorem State.bootCopy_of_nvm {t : State} (h : t.nvm = s.nvm) : t.bootCopy = s.bootCopy := by
  have hok (c : Nat) : t.bootOk c = s.bootOk c := by
    simp only [State.bootOk, State.recordOk, State.nvmClean, State.mram, h]
  have hat (c : Nat) : t.bootAt c = s.bootAt c := by simp only [State.bootAt, State.mram, h]
  simp only [State.bootCopy, hok, hat]

theorem State.readsOf_of_good (h : s.nvm.badWords = []) (a n : Nat) : s.readsOf a n = s :=
  State.readsOf_of_clean (by rw [State.nvmClean, h]; rfl)

theorem forAll_keeps {α β : Type} (g : State → β) {f : α → State → State} (hf : ∀ a t, g (f a t) = g t) (l : List α) (s : State) :
    g (forAll l f s) = g s := by
  induction l generalizing s with
  | nil => rfl
  | cons a l ih => exact (ih (f a s)).trans (hf a s)

/-- The domains that recovery mode needs not are off (R98). -/
def State.domainsOff (s : State) : State :=
  forAll ((List.range 24).filter (fun d => d != 0 && d != 5 && d != 7)) (fun d t =>
    let u := t.setDom d (fun x => { x with st := .off })
    { u with pins := { u.pins with pswEn := u.pins.pswEn.set d false } }) s

theorem State.domainsOff_keeps {β : Type} (g : State → β)
    (hg : ∀ (d : Nat) (t : State), g { t.setDom d (fun x => { x with st := .off }) with
      pins := { t.pins with pswEn := t.pins.pswEn.set d false } } = g t := by intros; rfl) (s : State) :
    g s.domainsOff = g s := forAll_keeps g hg _ s

/-- Start-up at the entry of recovery mode. -/
def State.recovers (s : State) (code : FailCode) : State :=
  { (s.setStage .recovery).holdResets with boot := { (s.setStage .recovery).boot with fail := code } }

theorem State.enterRecovery_parts (s : State) (code : FailCode) : ∃ x, s.enterRecovery code =
    ({ (s.recovers code).domainsOff with upd := x } : State).assertPin := ⟨_, rfl⟩

/-- Start-up is in ROM recovery mode for a reason, with FAULT_N asserted (R98). -/
theorem State.enterRecovery_recovers (s : State) (code : FailCode) :
    (s.enterRecovery code).boot.stage = .recovery ∧ (s.enterRecovery code).boot.fail = code ∧
      (s.enterRecovery code).pins.chRst = .const false ∧ (s.enterRecovery code).flt.asserts = (s.flt.asserts + 1) % 2 ^ 32 := by
  obtain ⟨x, hx⟩ := s.enterRecovery_parts code
  have hboot := State.domainsOff_keeps (fun t => t.boot) (s := s.recovers code)
  have hrst := State.domainsOff_keeps (fun t => t.pins.chRst) (s := s.recovers code)
  have hflt := State.domainsOff_keeps (fun t => t.flt) (s := s.recovers code)
  rw [hx]
  generalize (s.recovers code).domainsOff = v at hboot hrst hflt
  exact ⟨congrArg BootSt.stage hboot, congrArg BootSt.fail hboot, hrst, congrArg (fun x : FltSt => (x.asserts + 1) % 2 ^ 32) hflt⟩

theorem boot_without_record {env : BootEnv} (henv : env.wellFormed = true) (hrun : s.running = true) (hrdy : s.pins.nvmRdy = false)
    (hwait : s.boot.waiting = true) (hnone : s.bootCopy = none) :
    ∃ t, exec (.nvmRdyRise env) s = .next t ∧ t.pins.nvmRdy = true ∧ t.boot.stage = .recovery ∧ t.boot.fail = .noBootRecord ∧
      t.pins.chRst = .const false ∧ (s.nvm.badWords = [] → t.flt.asserts = (s.flt.asserts + 1) % 2 ^ 32) := by
  let v : State := { s.withRdy true with boot := { s.boot with waiting := false } }
  let u := (v.readsOf (bootAddr 0) 4096).readsOf (bootAddr 1) 4096
  have hu {K : List Piece} (hK : .regs ∉ K ∧ .pins ∉ K ∧ .evt ∉ K ∧ .pinFlt ∉ K ∧ .doms ∉ K ∧ .pwr ∉ K) : u.only K = v.only K :=
    (State.readsOf_only hK _ _ _).trans (State.readsOf_only hK v _ _)
  have hcopy : u.bootCopy = none := (State.bootCopy_of_nvm (State.nvm_of_only (hu (by decide)))).trans
    ((State.bootCopy_of_nvm (s := s) rfl).trans hnone)
  have hslot : v.bootSlot env = (false, u.enterRecovery .noBootRecord) := by
    unfold State.bootSlot
    dsimp only
    rw [hcopy]
  have hrest : (s.withRdy true).bootRest env = u.enterRecovery .noBootRecord := by
    unfold State.bootRest
    rw [show ({ s.withRdy true with boot := { (s.withRdy true).boot with waiting := false } } : State).bootSlot env = _ from hslot]
  have hop : opNvmRdyRise env s = u.enterRecovery .noBootRecord := by
    unfold opNvmRdyRise State.nvmRises
    rw [if_neg (by rw [hrdy]; decide)]
    dsimp only
    rw [if_pos hwait]
    exact hrest
  have hv : v.only keptPieces = (s.withRdy true).only keptPieces := rfl
  have hkept : (u.enterRecovery .noBootRecord).only keptPieces = (s.withRdy true).only keptPieces :=
    (State.enterRecovery_only (by decide) u _).trans ((hu (by decide)).trans hv)
  obtain ⟨hstage, hfail, hrst, hasserts⟩ := u.enterRecovery_recovers .noBootRecord
  refine ⟨_, exec_of_pin (c := .nvmRdyRise env) (u := s.withRdy true) (by rw [← hop]; rfl)
    (by simp [Instr.wellFormed, Instr.units, Instr.partsOk, henv]) hrun
    ((State.only_mono (by decide) hkept).trans (s.withRdy_only (by decide) true)) (State.only_mono (by decide) hkept), ?_,
        hstage, hfail, hrst,
    fun hclean => ?_⟩
  · exact congrArg (fun x => x.pins.nvmRdy) hkept
  · have hclean' : u = v := (congrArg (fun x : State => x.readsOf (bootAddr 1) 4096) (State.readsOf_of_good (s :=
      v) hclean _ _)).trans
      (State.readsOf_of_good (s := v) hclean _ _)
    rw [hasserts, hclean']
    rfl

/-- A start-up whose luthier has not started counts no boot (R455). -/
theorem State.unstarted_halt_only {K : List Piece} (hK : .pins ∉ K ∧ .pinFlt ∉ K ∧ .boot ∉ K) (s : State) (code : FailCode) :
    (s.halt code false).only K = s.only K :=
  (State.assertPin_only hK.2.1 _).trans ((State.only_boot hK.2.2 (s.setStage .halted).holdResets _).trans
    ((State.holdResets_only hK.1 _).trans (State.setStage_only hK.2.2 s _)))

theorem nvm_never_ready (hrun : s.running = true) (hwait : s.boot.waiting = true) (hlate : s.boot.stageAt + 2000 ≤ s.now) :
    ∃ t, exec .nvmRdyTimeout s = .next t ∧ t.boot.stage = .halted ∧ t.boot.fail = .nvm ∧ t.boot.waiting = false ∧
      t.pins.chRst = .const false ∧ t.flt.asserts = (s.flt.asserts + 1) % 2 ^ 32 ∧ s.changesOnly t [.boot, .pins, .flt] := by
  have hop : opNvmRdyTimeout s = s.halt .nvm false := if_pos ⟨hwait, hlate⟩
  obtain ⟨hstage, hfail, hwaiting, hresets, hasserts, -⟩ := s.halt_halted .nvm
  refine ⟨_, exec_of_kept (c := .nvmRdyTimeout) (by rw [← hop]; rfl) rfl hrun (State.halt_only (by decide) s .nvm false), hstage,
      hfail,
    hwaiting, hresets, hasserts, ?_⟩
  exact State.changesOnly_of_only (K := Piece.all.filter fun p => p.part != .boot && p.part != .pins && p.part != .flt)
    (s.unstarted_halt_only (by decide) .nvm) (by decide)

end

/-- Settles O9: NVM_RDY at its levels (`State.nvmFalls_torn`, `nvmRdy_rises`), and the word under access (`State.wordLanded_mem`,
`State.wordFails_of_log`). -/
theorem nvmReadyAndWords : Obligations.NvmReadyAndWords := by
  unfold Obligations.NvmReadyAndWords
  refine ⟨fun env s henv hrun => ⟨?_, ?_, ?_, ?_⟩, fun s j w rest q hrun => ⟨?_, ?_, ?_⟩⟩
  · exact nvmRdy_falls hrun
  · exact nvmRdy_rises henv hrun
  · exact boot_without_record henv hrun
  · exact nvm_never_ready hrun
  · exact next_word hrun
  · exact fun hjobs hwords hwhy => ⟨bad_word_ends_record hrun hjobs hwords hwhy,
      fun t0 hreq hlate => late_word_ends_record hrun hjobs hwords hwhy hreq hlate⟩
  · exact last_word_lands hrun

end Sys2Proof.Machine
end
